-- ==== Sys2Proof/Word.lean ====
section
/-! DEFINITION. The words of the PW9600 and its four-valued design values (00_scope.md R7, R9, R12). -/

namespace Sys2Proof

/-- A BAR0 register, or one dword of a structure (R12). -/
abbrev Word := BitVec 32

/-- One byte of a little-endian structure (R10). -/
abbrev Byte := BitVec 8

/-- A design value (R7). -/
inductive Val where
  | v0 | v1 | vx | vz
deriving DecidableEq, Repr

end Sys2Proof
end

