-- ==== Sys2Proof/Syntax.lean ====
section
/-! DEFINITION. The commands of the block: one constructor per row of spec/opcode_table.json. Events that come from
outside the device carry what the environment supplies with them (levels of pins, a received frame or packet, the
host's answer); the commands of the Dziene command protocol carry the key of their matching-store entry (R369). -/

namespace Sys2Proof

/-- An item of PCIe configuration space or of the MSI-X table that a register write may name (R390, R406, R408, R460). -/
inductive CfgItem where
  /-- NumVFs while VF Enable is set, else 0 -/
  | numVfs
  | atsEnable
  | priAllocation
  /-- MSI-X Function Mask -/
  | functionMask
  /-- Mask Bit of one MSI-X vector -/
  | vectorMask (vec : Nat)
deriving DecidableEq, Repr

/-- What REGISTER_WRITE names: a BAR0 offset, or an item of configuration space. -/
inductive WriteTarget where
  | bar0 (addr : Nat)
  | cfg (item : CfgItem)
deriving DecidableEq, Repr

/-- The commands. fn is the function that issues an access (R388), p a plot, port and lane a fabric port and its
physical lane, id a matching-store key, v the value written. -/
inductive Instr where
  /-- R42 -/
  | scheduleStep (p : Nat) (pins : List (Nat × Nat))
  /-- R24 -/
  | commitDecision (p : Nat)
  /-- R297 -/
  | inputLatch (p : Nat) (pins : List (Nat × Nat))
  /-- R197 -/
  | outputRelease (p : Nat)
  /-- R144 -/
  | writeQueueCommitMark (p : Nat)
  /-- R25 -/
  | headlandHostApply (p : Nat)
  /-- R432 -/
  | probeFlush (p : Nat)
  /-- R26 -/
  | preEmptionCheck (p : Nat)
  /-- R33 -/
  | refreshHeadland (p : Nat)
  /-- R35 -/
  | replayTurn (p : Nat)
  /-- R207 -/
  | stakeSlice (p : Nat)
  /-- R38 -/
  | stretch (p : Nat)
  /-- R90 -/
  | furrowRamReturn (p : Nat)
  /-- R139 -/
  | hbmReadReturn (n : Nat)
  /-- R138 -/
  | hbmReturnDelivery (p : Nat)
  /-- R147 -/
  | writeQueueDrain (pc : Nat)
  /-- R33 -/
  | autonomousRefresh (pc : Nat)
  /-- R152 -/
  | remapActivate (pc entry : Nat)
  /-- R153 -/
  | hbmFillDone
  /-- R155 -/
  | bar4Access (fn offset len : Nat) (data : Option (List Byte))
  /-- R158 -/
  | frameTransmit (port lane : Nat)
  /-- R163 -/
  | frameReceive (port lane pn fidx : Nat) (late : Int) (frame : BitVec 896)
  /-- R169 -/
  | importPresentation (p : Nat)
  /-- R258 -/
  | cdrLoss (port lane : Nat)
  /-- R179 -/
  | ctrlPacketReceive (port : Nat) (words : List Word)
  /-- R278 -/
  | timeSync (port lane : Nat) (words : List Word)
  /-- R191 -/
  | votePacket (port : Nat) (words : List Word)
  /-- R37 -/
  | stretchNotice (port : Nat) (words : List Word)
  /-- R344 -/
  | sown (port : Nat) (words : List Word)
  /-- R346 -/
  | launch (port : Nat) (words : List Word)
  /-- R346 -/
  | haltAt (port : Nat) (words : List Word)
  /-- R209 -/
  | stakeDone (port : Nat) (words : List Word)
  /-- R203 -/
  | healReady (port : Nat) (words : List Word)
  /-- R203 -/
  | recoverReady (port : Nat) (words : List Word)
  /-- R203 -/
  | resume (port : Nat) (words : List Word)
  /-- R213 -/
  | diverge (port : Nat) (words : List Word)
  /-- R217 -/
  | rollbackPacket (port : Nat) (words : List Word)
  /-- R261 -/
  | spareReq (port : Nat) (words : List Word)
  /-- R265 -/
  | spareAck (port : Nat) (words : List Word)
  /-- R268 -/
  | loopReq (port : Nat) (words : List Word)
  /-- R265 -/
  | loopAck (port : Nat) (words : List Word)
  /-- R265 -/
  | laneHealth (port : Nat) (words : List Word)
  /-- R445 -/
  | arm (port : Nat) (words : List Word)
  /-- R446 -/
  | fire (port : Nat) (words : List Word)
  /-- R386 -/
  | forwardedCommand (port : Nat) (words : List Word)
  /-- R386 -/
  | forwardedCompletion (port : Nat) (words : List Word)
  /-- R386 -/
  | forwardTimeout (id : Nat)
  /-- R482 -/
  | thermalEvaluation (temps : List Int)
  /-- R484 -/
  | thermalTrip
  /-- R461 -/
  | bucketDrainTick (cls : Nat)
  /-- R461 -/
  | bucketOverflow (addr : Nat)
  /-- R430 -/
  | timeSyncRecord (stream : Nat)
  /-- R444 -/
  | holdoffExpiry (p : Nat)
  /-- R446 -/
  | fireRepeat (p : Nat)
  /-- R344 -/
  | sownRepeat (p : Nat)
  /-- R277 -/
  | timeSyncSend (port : Nat)
  /-- R284 -/
  | parentLost
  /-- R288 -/
  | ppsInEdge
  /-- R288 -/
  | ppsMiss
  /-- R289 -/
  | ppsOutEdge
  /-- R370 -/
  | ftDelayTick
  /-- R290 -/
  | launchStart (p : Nat) (pins : List (Nat × Nat))
  /-- R203 -/
  | resumeStart (p : Nat)
  /-- R199 -/
  | healWorkDone (p : Nat)
  /-- R201 -/
  | recoveryWorkDone (p : Nat) (ok : Bool)
  /-- R202 -/
  | holdTimeout (p : Nat)
  /-- R308 -/
  | bridgeBusClockEdge (port pins : Nat)
  /-- R308 -/
  | clkLost (port : Nat)
  /-- R294 -/
  | vccioBad (port : Nat) (bad : Bool)
  /-- R323 -/
  | porN (strap gpio nonce : Nat)
  /-- R325 -/
  | perstN (link nonce : Nat)
  /-- R486 -/
  | dlDown (link nonce : Nat)
  /-- R487 -/
  | devReset (fn v nonce : Nat)
  /-- R398 -/
  | flr (fn : Nat)
  /-- R478 -/
  | d3hotEntry (fn : Nat)
  /-- R478 -/
  | d0Return (fn : Nat)
  /-- R476 -/
  | refclkLost
  /-- R476 -/
  | refclkReturn
  /-- R329 -/
  | vbatLost
  /-- R326 -/
  | bootWindowWrite (fn offset : Nat) (data : List Byte)
  /-- R328 -/
  | go (fn v : Nat)
  /-- R328 -/
  | firmwareRunning
  /-- R343 -/
  | sownNHigh
  /-- R342 -/
  | releaseTimeout (p : Nat)
  /-- R357 -/
  | doorbellSqTail (fn q tail : Nat) (mem : List (Nat × Byte))
  /-- R357 -/
  | doorbellCqHead (fn q head : Nat)
  /-- R355 -/
  | queueEnable (fn q v : Nat)
  /-- R355 -/
  | queueDisable (fn q v : Nat)
  /-- R354 -/
  | queueRangeWrite (fn q v : Nat)
  /-- R364 -/
  | entryFetch (q : Nat)
  /-- R371 -/
  | commandDispatch
  /-- R359 -/
  | completionWrite (id : Nat)
  /-- R360 -/
  | interruptCoalesceTimeout (q : Nat)
  /-- R460 -/
  | msixUnmask (fn vec : Nat)
  /-- R408 -/
  | pageRequestResponse (fn page : Nat) (ok : Bool)
  /-- R409 -/
  | atsInvalidation (fn page count : Nat)
  /-- R376 -/
  | nop (id : Nat)
  /-- R382 -/
  | query (id : Nat)
  /-- R384 -/
  | negotiate (id : Nat)
  /-- R393 -/
  | plotCreate (id : Nat)
  /-- R397 -/
  | plotDestroy (id : Nat)
  /-- R394 -/
  | plotAssign (id : Nat)
  /-- R395 -/
  | plotRevoke (id : Nat)
  /-- R396 -/
  | plotReset (id : Nat)
  /-- R397 -/
  | zeroFillDone (kind index : Nat)
  /-- R335 -/
  | sowBegin (id : Nat)
  /-- R336 -/
  | sowSegment (id : Nat)
  /-- R337 -/
  | sowCommit (id : Nat)
  /-- R339 -/
  | sowAbort (id : Nat)
  /-- R342 -/
  | release (id : Nat)
  /-- R378 -/
  | run (id : Nat)
  /-- R378 -/
  | halt (id : Nat)
  /-- R378 -/
  | stepPass (id : Nat)
  /-- R410 -/
  | fallow (id : Nat)
  /-- R411 -/
  | fallowEvict (id : Nat)
  /-- R411 -/
  | fallowPreEmpt (id : Nat)
  /-- R479 -/
  | fallowDeep (id : Nat)
  /-- R412 -/
  | wake (id : Nat)
  /-- R481 -/
  | wakeDeep (id : Nat)
  /-- R290 -/
  | launchAt (id : Nat)
  /-- R59 -/
  | peekState (id : Nat)
  /-- R379 -/
  | pokeState (id : Nat)
  /-- R379 -/
  | force (id : Nat)
  /-- R379 -/
  | unforce (id : Nat)
  /-- R148 -/
  | memRead (id : Nat)
  /-- R148 -/
  | memWrite (id : Nat)
  /-- R205 -/
  | stake (id : Nat)
  /-- R488 -/
  | ckptExport (id : Nat)
  /-- R489 -/
  | ckptImport (id : Nat)
  /-- R215 -/
  | rollback (id : Nat)
  /-- R413 -/
  | lift (id : Nat)
  /-- R414 -/
  | drop (id : Nat)
  /-- R434 -/
  | traceConfig (id : Nat)
  /-- R445 -/
  | traceArm (id : Nat)
  /-- R448 -/
  | traceStop (id : Nat)
  /-- R436 -/
  | traceDrain (id : Nat)
  /-- R247 -/
  | linkTrain (id : Nat)
  /-- R248 -/
  | trainFrameReceive (port lane offset : Nat) (frame : BitVec 896)
  /-- R247 -/
  | trainingPhaseTimeout (port : Nat)
  /-- R250 -/
  | bitslip (fn port lane v : Nat)
  /-- R250 -/
  | alignDone (fn port v : Nat)
  /-- R269 -/
  | laneReset (fn port lane v : Nat)
  /-- R267 -/
  | laneTestMode (fn port lane v : Nat)
  /-- R266 -/
  | injOne (fn port lane v : Nat)
  /-- R266 -/
  | linkTest (id : Nat)
  /-- R173 -/
  | xtLoad (id : Nat)
  /-- R285 -/
  | timeConfig (id : Nat)
  /-- R285 -/
  | timeStep (id : Nat)
  /-- R467 -/
  | scrubRange (id : Nat)
  /-- R152 -/
  | remapAdd (id : Nat)
  /-- R437 -/
  | faultDrain (id : Nat)
  /-- R380 -/
  | fwUpdate (id : Nat)
  /-- R381 -/
  | keyProvision (id : Nat)
  /-- R319 -/
  | sigConfig (id : Nat)
  /-- R376 -/
  | progress (id : Nat)
  /-- R121 -/
  | gateDeclare (fn g v : Nat)
  /-- R405 -/
  | bankHandover (fn bank v : Nat)
  /-- R405 -/
  | handoverDone (bank : Nat)
  /-- R402 -/
  | spmDataAccess (fn offset len : Nat) (data : Option (List Byte))
  /-- R403 -/
  | bitSet (fn addr v : Nat)
  /-- R403 -/
  | bitClear (fn addr v : Nat)
  /-- R420 -/
  | sortReq (fn v : Nat)
  /-- R107 -/
  | firstAck (fn addr v : Nat)
  /-- R108 -/
  | histAck (fn addr v : Nat)
  /-- R17 -/
  | counterClear (fn addr v : Nat)
  /-- R14 -/
  | registerWrite (fn : Nat) (target : WriteTarget) (v : Nat)
  /-- R471 -/
  | faultInjectionArm (fn addr v : Nat)
  /-- R464 -/
  | gleanerItemRead (seq : Nat)
  /-- R464 -/
  | gleanerWrite (p : Nat)
  /-- R465 -/
  | hbmPatrolRead (pc : Nat)
  /-- R469 -/
  | controlTripleVote
  /-- R470 -/
  | gleanerWatchdog (seq : Nat)
  /-- R470 -/
  | gleanerRestart (fn v : Nat)
  /-- R494 -/
  | monVer
  /-- R494 -/
  | monPeek (a n : Nat)
  /-- R494 -/
  | monPoke (a v : Nat)
  /-- R494 -/
  | monHist (b i : Nat)
  /-- R494 -/
  | monEye (port lane : Nat)
  /-- R494 -/
  | monStake (p : Nat)
  /-- R494 -/
  | monTemp
  /-- R493 -/
  | monBaud (r : Nat)
  /-- R494 -/
  | monLock
  /-- R496 -/
  | monUnlockPassword (w : List Byte) (nonce : Nat)
  /-- R496 -/
  | monUnlockResponse (g : List Word) (nonce : Nat)
  /-- R496 -/
  | monCtrlLock (fn v : Nat)
  /-- R499 -/
  | scanInstruction (k : Nat)
  /-- R500 -/
  | debugInstruction (op : Nat)
  /-- R501 -/
  | smbLifecycle
  /-- R501 -/
  | smbTmax
  /-- R501 -/
  | smbSensorSelect (v : Nat)
  /-- R501 -/
  | smbSensorRead
  /-- R501 -/
  | smbRailPower (watts : List Nat)
  /-- R501 -/
  | smbPowerResetStatus
  /-- R501 -/
  | smbAlertCause
  /-- R501 -/
  | smbAlertResponse
  /-- R247 -/
  | cdrLock (port lane : Nat) (sync : Bool)
  /-- R266 -/
  | chkLock (port lane : Nat) (bits : List Bool)
  /-- R376 -/
  | tResumeStart (p : Nat)
  /-- R450 -/
  | ftPostExpiry (p : Nat)
  /-- R479 -/
  | deepFallowEntered
  /-- R324 -/
  | configurationReady (link : Nat)
  /-- R497 -/
  | unlockDelayExpiry
deriving DecidableEq, Repr

end Sys2Proof
end

