-- ==== Sys2Proof/Decode.lean ====
section
/-! DEFINITION. The decoder of table words. The device takes commands from its pins, links and queues; no row of
spec/opcode_table.json gives bits, so no word spells a command. -/

namespace Sys2Proof

/-- The command that a word spells by the table's bits: none, for any word. -/
def decodeTableWord (_nbits _w : Nat) : Option Instr := none

end Sys2Proof
end

