-- ==== Sys2Proof/Machine/Bits.lean ====
section
/-! DEFINITION. Bit fields, packing of design values, and byte order (00_scope.md R7-R10). -/

namespace Sys2Proof.Machine
open Sys2Proof

/-- Bits [lo+len-1:lo] of a number (R9). -/
def nfld (n lo len : Nat) : Nat := (n >>> lo) % 2 ^ len

/-- Bit i of a number, as 0 or 1 (R9). -/
def bitN (n i : Nat) : Nat := (n >>> i) % 2

/-- The number n with bits [lo+len-1:lo] replaced by v (R9). -/
def putFld (n lo len v : Nat) : Nat :=
  (n >>> (lo + len)) <<< (lo + len) + (v % 2 ^ len) <<< lo + n % 2 ^ lo

/-- A field of a bit vector. -/
def wfld {w : Nat} (x : BitVec w) (lo len : Nat) : Nat := nfld x.toNat lo len

/-- A bit of a bit vector. -/
def wbit {w : Nat} (x : BitVec w) (i : Nat) : Bool := x.toNat.testBit i

/-- A word with one field replaced. -/
def wput (x : Word) (lo len v : Nat) : Word := BitVec.ofNat 32 (putFld x.toNat lo len v)

def b2n (b : Bool) : Nat := if b then 1 else 0

/-- The packed 2-bit field (V,X) of a value (R7): V in the higher bit. -/
def valBits : Val → Nat
  | .v0 => 0 | .v1 => 2 | .vx => 1 | .vz => 3

/-- The value of a packed 2-bit field (R7). -/
def bitsVal (n : Nat) : Val :=
  match n % 4 with
  | 0 => .v0 | 2 => .v1 | 1 => .vx | _ => .vz

/-- Packing of a list of values, value i at bits [2i+1:2i] (R8). -/
def packVals : List Val → Nat
  | [] => 0
  | v :: vs => valBits v + 4 * packVals vs

/-- The n values packed in a number (R8). -/
def unpackVals : Nat → Nat → List Val
  | 0, _ => []
  | k + 1, n => bitsVal n :: unpackVals k (n / 4)

/-- The V bits of a list of values as an integer (R8, R439). -/
def vBits : List Val → Nat
  | [] => 0
  | v :: vs => valBits v / 2 + 2 * vBits vs

/-- The X bits of a list of values as an integer (R8). -/
def xBits : List Val → Nat
  | [] => 0
  | v :: vs => valBits v % 2 + 2 * xBits vs

/-- V bits to two-value storage, X and Z as 0 (R8). -/
def vBits2 : List Val → Nat
  | [] => 0
  | v :: vs => (if v = .v1 then 1 else 0) + 2 * vBits2 vs

/-- n bits of a number as two-value values. -/
def unpackBits : Nat → Nat → List Val
  | 0, _ => []
  | k + 1, n => (if n % 2 = 1 then Val.v1 else Val.v0) :: unpackBits k (n / 2)

def Val.known (v : Val) : Bool := v = .v0 || v = .v1

/-- n little-endian bytes of a number (R10). -/
def leBytes : Nat → Nat → List Byte
  | 0, _ => []
  | k + 1, n => BitVec.ofNat 8 n :: leBytes k (n / 256)

/-- The number that little-endian bytes spell (R10). -/
def leNat : List Byte → Nat
  | [] => 0
  | b :: bs => b.toNat + 256 * leNat bs

/-- The dwords of a byte list, dword 0 first (R10); n is the number of dwords. -/
def leWords : Nat → List Byte → List Word
  | 0, _ => []
  | k + 1, bs => BitVec.ofNat 32 (leNat (bs.take 4)) :: leWords k (bs.drop 4)

/-- The bytes of a list of dwords (R10). -/
def wordsBytes (ws : List Word) : List Byte := ws.flatMap fun w => leBytes 4 w.toNat

/-- Natural numbers lo, lo+1, ..., lo+n-1. -/
def natsFrom : Nat → Nat → List Nat
  | _, 0 => []
  | lo, n + 1 => lo :: natsFrom (lo + 1) n

/-- Element i of a list, d past its end. -/
def nth {α : Type} (d : α) (l : List α) (i : Nat) : α := (l[i]?).getD d

/-- A list with element i replaced. -/
def setNth {α : Type} : List α → Nat → α → List α
  | [], _, _ => []
  | _ :: xs, 0, v => v :: xs
  | x :: xs, i + 1, v => x :: setNth xs i v

/-- Signed value of an n-bit number. -/
def signedOf (n bits : Nat) : Int :=
  if n % 2 ^ bits < 2 ^ (bits - 1) then (n % 2 ^ bits : Int) else (n % 2 ^ bits : Int) - 2 ^ bits

end Sys2Proof.Machine
end

