-- ==== Sys2Proof/Machine/Crypto.lean ====
section
/-! DEFINITION. The public standards that the manual names for keys and images: SHA-256 and HMAC-SHA-256 (R496), AES-256
with GCM (R330) and its key wrap, RFC 3394 (R381). The manual names these algorithms and does not repeat them: PRESUMED,
log 7. -/

namespace Sys2Proof.Machine
open Sys2Proof

/-- Bytes as a number, most significant first, and back. -/
def beNat (bs : List Byte) : Nat := bs.foldl (fun a b => a * 256 + b.toNat) 0
def beBytes (n v : Nat) : List Byte := (leBytes n v).reverse

/-- Lists of k elements each, at most n of them. -/
def chunks {α : Type} (k : Nat) : Nat → List α → List (List α)
  | 0, _ => []
  | n + 1, l => if l.isEmpty then [] else l.take k :: chunks k n (l.drop k)

/-! ## SHA-256 -/

/-- The largest number below r + 2^n, of those from r on, whose k-th power is at most x; bit by bit. -/
def rootBelow (k x : Nat) : Nat → Nat → Nat
  | 0, r => r
  | n + 1, r => rootBelow k x n (if (r + 2 ^ n) ^ k ≤ x then r + 2 ^ n else r)

/-- The first 32 bits after the binary point of the k-th root of p, for p below 2^(4k). -/
def rootBits (k p : Nat) : BitVec 32 := BitVec.ofNat 32 (rootBelow k (p * 2 ^ (32 * k)) 36 0)

/-- The primes below 312: the standard takes its constants from the first 64. -/
def shaPrimes : List Nat := (natsFrom 2 310).filter fun n => (natsFrom 2 16).all fun d => d == n || n % d != 0

/-- The constants of the rounds, from the cube roots. -/
def shaK : List (BitVec 32) := shaPrimes.map (rootBits 3)

/-- The value that hashing starts from, from the square roots. -/
def shaInit : List (BitVec 32) := (shaPrimes.take 8).map (rootBits 2)

def rotr (x : BitVec 32) (n : Nat) : BitVec 32 := x.rotateRight n

/-- The message schedule, newest word first. -/
def shaSchedule : Nat → List (BitVec 32) → List (BitVec 32)
  | 0, w => w
  | n + 1, w =>
    let a := w.getD 14 0
    let b := w.getD 1 0
    let s0 := rotr a 7 ^^^ rotr a 18 ^^^ (a >>> 3)
    let s1 := rotr b 17 ^^^ rotr b 19 ^^^ (b >>> 10)
    shaSchedule n ((w.getD 15 0 + s0 + w.getD 6 0 + s1) :: w)

/-- One round with its constant and word. -/
def shaRound (h : List (BitVec 32)) (kw : BitVec 32) : List (BitVec 32) :=
  match h with
  | [a, b, c, d, e, f, g, x] =>
    let s1 := rotr e 6 ^^^ rotr e 11 ^^^ rotr e 25
    let t1 := x + s1 + ((e &&& f) ^^^ (~~~e &&& g)) + kw
    let s0 := rotr a 2 ^^^ rotr a 13 ^^^ rotr a 22
    [t1 + s0 + ((a &&& b) ^^^ (a &&& c) ^^^ (b &&& c)), a, b, c, d + t1, e, f, g]
  | _ => h

/-- One block of 64 bytes. -/
def shaBlock (h : List (BitVec 32)) (blk : List Byte) : List (BitVec 32) :=
  let w16 := (chunks 4 16 blk).map fun c => BitVec.ofNat 32 (beNat c)
  let w := (shaSchedule 48 w16.reverse).reverse
  let r := (List.zipWith (· + ·) shaK w).foldl shaRound h
  List.zipWith (· + ·) h r

/-- Padding to a multiple of 64 bytes. -/
def shaPad (m : List Byte) : List Byte :=
  m ++ [0x80] ++ List.replicate ((119 - m.length % 64) % 64) 0 ++ beBytes 8 (8 * m.length)

/-- SHA-256 (R496). -/
def sha256 (m : List Byte) : List Byte :=
  let p := shaPad m
  ((chunks 64 (p.length / 64) p).foldl shaBlock shaInit).flatMap fun x => beBytes 4 x.toNat

/-- HMAC-SHA-256 under a key of at most 64 bytes (R496). -/
def hmacSha256 (key m : List Byte) : List Byte :=
  let k := (key ++ List.replicate 64 0).take 64
  sha256 (k.map (· ^^^ 0x5c) ++ sha256 (k.map (· ^^^ 0x36) ++ m))

/-! ## AES-256 -/

/-- Product in the field of AES. -/
def aesMulGo : Nat → Nat → Nat → Nat → Nat
  | 0, _, _, acc => acc
  | n + 1, a, b, acc =>
    let a2 := if a < 128 then 2 * a else (2 * a) ^^^ 0x11b
    aesMulGo n a2 (b / 2) (if b % 2 = 1 then acc ^^^ a else acc)

def aesMul (a b : Nat) : Nat := aesMulGo 8 a b 0

/-- a^254, the inverse, and 0 for 0. -/
def aesInv (a : Nat) : Nat :=
  (natsFrom 0 6).foldl (fun (r : Nat × Nat) _ => (aesMul r.1 (aesMul r.2 r.2), aesMul r.2 r.2)) (aesMul a a, aesMul a a) |>.1

def rotl8 (x n : Nat) : Nat := (x * 2 ^ n + x / 2 ^ (8 - n)) % 256

def aesSbox (x : Nat) : Nat :=
  let i := aesInv x
  i ^^^ rotl8 i 1 ^^^ rotl8 i 2 ^^^ rotl8 i 3 ^^^ rotl8 i 4 ^^^ 0x63

def aesInvSbox (y : Nat) : Nat := aesInv (rotl8 y 1 ^^^ rotl8 y 3 ^^^ rotl8 y 6 ^^^ 0x05)

/-- Key expansion: words of four bytes, newest first. -/
def aesExpandGo : Nat → Nat → Nat → List (List Nat) → List (List Nat)
  | 0, _, _, w => w
  | n + 1, i, rcon, w =>
    let t := w.headD []
    let t1 := if i % 8 = 0 then
        List.zipWith (· ^^^ ·) ((t.drop 1 ++ t.take 1).map aesSbox) [rcon, 0, 0, 0]
      else if i % 8 = 4 then t.map aesSbox else t
    aesExpandGo n (i + 1) (if i % 8 = 0 then aesMul rcon 2 else rcon) (List.zipWith (· ^^^ ·) (w.getD 7 []) t1 :: w)

/-- The 15 round keys of a 32-byte key. -/
def aesKeys (key : List Byte) : List (List Nat) :=
  let w0 := (chunks 4 8 (key.map BitVec.toNat)).reverse
  chunks 16 15 ((aesExpandGo 52 8 1 w0).reverse.flatten)

def aesXor (a b : List Nat) : List Nat := List.zipWith (· ^^^ ·) a b

/-- Rows shifted left by their number, or right. -/
def aesShift (left : Bool) (s : List Nat) : List Nat :=
  (natsFrom 0 16).map fun i => s.getD (if left then (i + 4 * (i % 4)) % 16 else (i + 16 - 4 * (i % 4)) % 16) 0

/-- Columns times the circulant matrix of a row. -/
def aesMix (m s : List Nat) : List Nat :=
  (natsFrom 0 16).map fun i =>
    (natsFrom 0 4).foldl (fun a k => a ^^^ aesMul (m.getD ((k + 4 - i % 4) % 4) 0) (s.getD (i / 4 * 4 + k) 0)) 0

/-- AES-256 of one block of 16 bytes. -/
def aesEncrypt (keys : List (List Nat)) (b : List Nat) : List Nat :=
  let s := (keys.drop 1).take 13 |>.foldl (fun s k => aesXor (aesMix [2, 3, 1, 1] (aesShift true (s.map aesSbox))) k)
    (aesXor b (keys.headD []))
  aesXor (aesShift true (s.map aesSbox)) (keys.getD 14 [])

/-- The inverse of AES-256. -/
def aesDecrypt (keys : List (List Nat)) (b : List Nat) : List Nat :=
  let back := fun (s : List Nat) => (aesShift false s).map aesInvSbox
  let s := ((keys.drop 1).take 13).reverse.foldl (fun s k => back (aesMix [14, 11, 13, 9] (aesXor s k)))
    (back (aesXor b (keys.getD 14 [])))
  aesXor s (keys.headD [])

def toBytes (l : List Nat) : List Byte := l.map (BitVec.ofNat 8)
def ofBytes (l : List Byte) : List Nat := l.map BitVec.toNat

/-! ## GCM (R330) -/

/-- Product in the field of GHASH. -/
def ghashMulGo : Nat → Nat → Nat → Nat → Nat
  | 0, _, _, z => z
  | n + 1, x, v, z =>
    ghashMulGo n x (if v % 2 = 1 then v / 2 ^^^ (0xe1 * 2 ^ 120) else v / 2) (if x.testBit n then z ^^^ v else z)

def ghashMul (x y : Nat) : Nat := ghashMulGo 128 x y 0

def padTo16 (l : List Byte) : List Byte := l ++ List.replicate ((16 - l.length % 16) % 16) 0

def ghash (h : Nat) (l : List Byte) : Nat :=
  (chunks 16 (l.length / 16) l).foldl (fun y b => ghashMul (y ^^^ beNat b) h) 0

/-- Counter mode from a counter value on. -/
def gcmStream (keys : List (List Nat)) (iv : List Byte) (ctr : Nat) (l : List Byte) : List Byte :=
  let n := (l.length + 15) / 16
  List.zipWith (· ^^^ ·) l ((natsFrom ctr n).flatMap fun c => toBytes (aesEncrypt keys (ofBytes (iv ++ beBytes 4 c))))

/-- The tag over additional data and ciphertext. -/
def gcmTag (keys : List (List Nat)) (iv aad body : List Byte) : List Byte :=
  let h := beNat (toBytes (aesEncrypt keys (List.replicate 16 0)))
  let s := ghash h (padTo16 aad ++ padTo16 body ++ beBytes 8 (8 * aad.length) ++ beBytes 8 (8 * body.length))
  gcmStream keys iv 1 (beBytes 16 s)

/-- Opening of AES-256-GCM with a 96-bit IV: the plaintext, none when the tag does not match. -/
def gcmOpen (key iv aad body tag : List Byte) : Option (List Byte) :=
  let keys := aesKeys key
  if gcmTag keys iv aad body = tag then some (gcmStream keys iv 2 body) else none

/-- The tag alone, for a body that is not encrypted (R329). -/
def gcmTagOk (key iv aad body tag : List Byte) : Bool := gcmTag (aesKeys key) iv aad body == tag

/-! ## Key wrap (R381, RFC 3394) -/

/-- One step back: register a, blocks r, and the step number t. -/
def unwrapStep (keys : List (List Nat)) (n : Nat) (x : List Byte × List (List Byte)) (t : Nat) : List Byte × List (List Byte) :=
  let i := (t - 1) % n
  let a := beBytes 8 (beNat x.1 ^^^ t)
  let b := toBytes (aesDecrypt keys (ofBytes (a ++ x.2.getD i [])))
  (b.take 8, x.2.set i (b.drop 8))

/-- Unwrapping under a key-encryption key: none when the integrity check fails. -/
def keyUnwrap (kek wrapped : List Byte) : Option (List Byte) :=
  let n := wrapped.length / 8 - 1
  let x := (natsFrom 1 (6 * n)).reverse.foldl (unwrapStep (aesKeys kek) n) (wrapped.take 8, chunks 8 n (wrapped.drop 8))
  if x.1 = List.replicate 8 0xa6 then some x.2.flatten else none

end Sys2Proof.Machine
end

