-- ==== Sys2Proof/Machine/Bp.lean ====
section
/-! DEFINITION. The Boolean processor's instruction word and its evaluation (02_boolean_processor.md R47, R48, R52,
R64-R74). -/

namespace Sys2Proof.Machine
open Sys2Proof

/-! ## The instruction word (R47) -/

/-- The fields of an instruction word. -/
structure BpWord where
  op : Nat
  tt : Nat
  srcA : Nat
  srcB : Nat
  srcC : Nat
  srcD : Nat
  sw : Bool
  sslot : Nat
  xm : Nat
  prb : Bool
  pp : Bool
  rsvd : Nat
deriving DecidableEq, Repr

def bpWord (w : BitVec 80) : BpWord :=
  let n := w.toNat
  { op := nfld n 76 4, tt := nfld n 60 16, srcA := nfld n 49 11, srcB := nfld n 38 11, srcC := nfld n 27 11,
    srcD := nfld n 16 11, sw := n.testBit 15, sslot := nfld n 7 8, xm := nfld n 5 2, prb := n.testBit 4, pp := n.testBit 3,
    rsvd := nfld n 0 3 }

def BpWord.srcs (i : BpWord) : List Nat := [i.srcA, i.srcB, i.srcC, i.srcD]

/-- Reserved operand codes (R52). -/
def srcReserved (c : Nat) : Bool := decide (1520 ≤ c ∧ c ≤ 1535) || decide (1540 ≤ c)

/-- GANG fields of TT (R67). -/
def BpWord.role (i : BpWord) : Nat := nfld i.tt 14 2
def BpWord.size (i : BpWord) : Nat := nfld i.tt 12 2

/-- BUSRES fields of TT (R71). -/
def BpWord.busMode (i : BpWord) : Nat := nfld i.tt 2 2
def BpWord.zres (i : BpWord) : Nat := nfld i.tt 0 2

/-- A reserved operation, field or source (R47, R48, R67, R71). -/
def BpWord.illegal (i : BpWord) : Bool :=
  i.rsvd ≠ 0 || i.srcs.any srcReserved || decide (3 < i.op) ||
    (match i.op with
      | 0 => decide (i.tt ≠ 0 ∨ i.srcA ≠ 0 ∨ i.srcB ≠ 0 ∨ i.srcC ≠ 0 ∨ i.srcD ≠ 0 ∨ i.sslot ≠ 0 ∨ i.xm ≠ 0) || i.sw || i.prb || i.pp
      | 2 => decide (nfld i.tt 0 12 ≠ 0 ∨ i.role = 3 ∨ i.size = 0 ∨ i.size = 3) || (i.role ≠ 0 && (i.sw || i.prb))
      | 3 => decide (nfld i.tt 4 12 ≠ 0 ∨ i.busMode = 3)
      | _ => false)

/-- Evaluation mode of a word under the plot's default (R49, R77): 1 two-value, 2 exact-X, 3 pessimistic-X. -/
def BpWord.mode (i : BpWord) (xdef : Nat) : Nat := if i.xm = 0 then xdef else i.xm

/-! ## LUT (R64-R66) -/

/-- f(a, b, c, d) = TT[8d + 4c + 2b + a] (R64). -/
def lutBit (tt : Nat) (a b c d : Bool) : Bool := tt.testBit (8 * b2n d + 4 * b2n c + 2 * b2n b + b2n a)

def boolVal (b : Bool) : Val := if b then .v1 else .v0

/-- The values 0 and 1 that an operand may have, exact-X (R66). -/
def allowed (v : Val) : List Bool :=
  match v with
  | .v0 => [false]
  | .v1 => [true]
  | _ => [false, true]

/-- The common value of a list of results, X if they differ. -/
def common (l : List Val) : Val :=
  match l with
  | [] => .vx
  | v :: vs => if vs.all fun x => x == v then v else .vx

/-- Two-value reading of an operand (R66). -/
def asBool (v : Val) : Bool := v == .v1

/-- Whether TT depends on operand k (R65). -/
def lutDepends (tt k : Nat) : Bool :=
  (natsFrom 0 16).any fun i => i.testBit k == false && tt.testBit i != tt.testBit (i + 2 ^ k)

/-- A LUT result (R66). -/
def lutEval (mode tt : Nat) (a b c d : Val) : Val :=
  match mode with
  | 1 => boolVal (lutBit tt (asBool a) (asBool b) (asBool c) (asBool d))
  | 3 =>
    if (!(Val.known a) && lutDepends tt 0) || (!(Val.known b) && lutDepends tt 1) || (!(Val.known c) && lutDepends tt 2) ||
        (!(Val.known d) && lutDepends tt 3) then .vx
    else boolVal (lutBit tt (asBool a) (asBool b) (asBool c) (asBool d))
  | _ =>
    common ((allowed a).flatMap fun x => (allowed b).flatMap fun y => (allowed c).flatMap fun z =>
      (allowed d).map fun w => boolVal (lutBit tt x y z w))

/-! ## GANG (R69) -/

/-- Z read as X. -/
def noZ (v : Val) : Val := if v = .vz then .vx else v

/-- The select values that a list of select bits, s0 first, allows. -/
def selectAllowed : List Val → List Nat
  | [] => [0]
  | v :: vs => (selectAllowed vs).flatMap fun k => (allowed v).map fun b => b2n b + 2 * k

/-- The multiplexer of a gang (R69). -/
def gangEval (mode : Nat) (data selects : List Val) : Val :=
  match mode with
  | 1 => boolVal (asBool (nth .vx data (vBits2 selects)))
  | 3 => if selects.any (fun v => !(Val.known v)) then .vx else noZ (nth .vx data (vBits2 selects))
  | _ => common ((selectAllowed selects).map fun k => noZ (nth .vx data k))

/-! ## BUSRES (R71-R74) -/

/-- The drivers of a word: data and enable, in operand order; no enable in MODE 0b00. -/
def busDrivers (mode : Nat) (a b c d : Val) : List (Val × Option Val) :=
  match mode with
  | 0 => [(a, none), (b, none), (c, none), (d, none)]
  | 1 => [(a, some b), (c, some d)]
  | _ => [(a, some b)]

/-- What the net carries when nothing drives (R71, R72). -/
def zresVal (zres : Nat) (keeper : Val) : Val :=
  match zres with
  | 0 => .vz
  | 1 => .v0
  | 2 => .v1
  | _ => keeper

/-- Resolve the values of the drivers that drive (R73). -/
def busResolve (idle : Val) (vals : List Val) : Val :=
  match vals with
  | [] => idle
  | vs => common vs

/-- The sets of driving values that the enables allow (R73). -/
def busCases : List (Val × Option Val) → List (List Val)
  | [] => [[]]
  | (v, e) :: ds =>
    let rest := busCases ds
    let on := if v = .vz then rest else rest.map fun l => v :: l
    match e with
    | none => on
    | some .v1 => on
    | some .v0 => rest
    | some _ => on ++ rest

/-- BUSRES in a four-value mode (R73). -/
def busEval4 (mode bmode zres : Nat) (keeper a b c d : Val) : Val :=
  let ds := busDrivers bmode a b c d
  if mode = 3 ∧ ds.any (fun e => match e.2 with
      | some v => !(Val.known v)
      | none => false) = true then .vx
  else common ((busCases ds).map (busResolve (zresVal zres keeper)))

/-- BUSRES in two-value mode, with contention (R74). -/
def busEval2 (bmode zres : Nat) (keeper a b c d : Val) : Val × Bool :=
  let vals := (busDrivers bmode a b c d).filterMap fun e =>
    let on := match e.2 with
      | some v => v == .v1
      | none => true
    if on = false ∨ e.1 = .vz then none else some (boolVal (asBool e.1))
  match vals with
  | [] => (zresVal zres (if keeper = .vx then .v0 else keeper), false)
  | v :: vs => (v, vs.any fun x => x != v)

/-- A BUSRES result and contention (R73, R74). -/
def busEval (mode bmode zres : Nat) (keeper a b c d : Val) : Val × Bool :=
  if mode = 1 then busEval2 bmode zres keeper a b c d else (busEval4 mode bmode zres keeper a b c d, false)

end Sys2Proof.Machine
end

