-- ==== Sys2Proof/Machine/Codes.lean ====
section
/-! DEFINITION. The codes on the wires: CRC-32C (R177), the RS(112,100) code of frames (R160), the line scrambler
(R246), the PRBS patterns (R266) and the check bits of Exchange Table entries (R166). -/

namespace Sys2Proof.Machine
open Sys2Proof

/-! ## CRC-32C -/

/-- One reflected CRC-32C bit step, n times. -/
def crcBits : Nat → Nat → Nat
  | 0, c => c
  | n + 1, c => crcBits n (if c % 2 = 1 then c / 2 ^^^ 0x82f63b78 else c / 2)

/-- CRC-32C register after a byte list. -/
def crcBytes : List Byte → Nat → Nat
  | [], c => c
  | b :: bs, c => crcBytes bs (crcBits 8 (c ^^^ b.toNat))

/-- CRC-32C with initial value and final XOR of all ones (R177). -/
def crc32c (bs : List Byte) : Nat := crcBytes bs 0xffffffff ^^^ 0xffffffff

/-! ## GF(2^8) and RS(112,100) -/

/-- Product in GF(2^8) over 0x11D (R160), by the bits of b. -/
def gfMulGo : Nat → Nat → Nat → Nat → Nat
  | 0, _, _, acc => acc
  | n + 1, a, b, acc =>
    gfMulGo n (if a < 128 then 2 * a else (2 * a) ^^^ 0x11d) (b / 2) (if b % 2 = 1 then acc ^^^ a else acc)

def gfMul (a b : Nat) : Nat := gfMulGo 8 a b 0

/-- α^n, α = 2. -/
def gfExp : Nat → Nat
  | 0 => 1
  | n + 1 => gfMul 2 (gfExp n)

/-- a^n. -/
def gfPow (a : Nat) : Nat → Nat
  | 0 => 1
  | n + 1 => gfMul a (gfPow a n)

/-- Inverse, a^254. -/
def gfInv (a : Nat) : Nat :=
  let a2 := gfMul a a
  let a4 := gfMul a2 a2
  let a8 := gfMul a4 a4
  let a16 := gfMul a8 a8
  let a32 := gfMul a16 a16
  let a64 := gfMul a32 a32
  let a128 := gfMul a64 a64
  gfMul a128 (gfMul a64 (gfMul a32 (gfMul a16 (gfMul a8 (gfMul a4 a2)))))

/-- Sum of two polynomials, lowest coefficient first. -/
def polyAdd : List Nat → List Nat → List Nat
  | [], q => q
  | p, [] => p
  | a :: p, b :: q => (a ^^^ b) :: polyAdd p q

def polyScale (k : Nat) (p : List Nat) : List Nat := p.map (gfMul k)

/-- Value at x, Horner from the lowest coefficient. -/
def polyEval (x : Nat) : List Nat → Nat
  | [] => 0
  | a :: p => a ^^^ gfMul x (polyEval x p)

def polyMul : List Nat → List Nat → List Nat
  | [], _ => []
  | a :: p, q => polyAdd (polyScale a q) (0 :: polyMul p q)

/-- Generator polynomial with roots α^0 to α^(n-1), lowest coefficient first. -/
def rsGen : Nat → List Nat
  | 0 => [1]
  | n + 1 => polyMul [gfExp n, 1] (rsGen n)

/-- Coefficients x^11 to x^0 of the generator polynomial of R160, highest first. -/
def rsGenHigh : List Nat := (rsGen 12).reverse.drop 1

/-- Shift register of the systematic encoder: parity symbols after each message symbol. -/
def rsEncodeGo : List Nat → List Nat → List Nat
  | [], reg => reg
  | m :: ms, reg =>
    let f := m ^^^ reg.headD 0
    rsEncodeGo ms (polyAdd (reg.tail ++ [0]) (polyScale f rsGenHigh))

/-- The 112 symbols of the codeword of 100 message symbols (R160). -/
def rsEncode (msg : List Nat) : List Nat := msg ++ rsEncodeGo msg (List.replicate 12 0)

/-- Syndrome j: the received word, highest power first, at α^j. -/
def rsSyndrome (word : List Nat) (j : Nat) : Nat :=
  let x := gfExp j
  word.foldl (fun acc c => gfMul acc x ^^^ c) 0

def rsSyndromes (word : List Nat) : List Nat := (natsFrom 0 12).map (rsSyndrome word)

/-- State of the Berlekamp-Massey recursion. -/
structure BmSt where
  c : List Nat
  b : List Nat
  l : Nat
  m : Nat
  d : Nat
deriving DecidableEq, Repr

/-- Discrepancy: sum of c_i * s_(n-i). -/
def bmDelta : List Nat → List Nat → Nat
  | c :: cs, x :: xs => gfMul c x ^^^ bmDelta cs xs
  | _, _ => 0

/-- Berlekamp-Massey over the syndromes; `seen` holds the syndromes up to n, newest first. -/
def bmGo : List Nat → List Nat → Nat → BmSt → BmSt
  | [], _, _, st => st
  | x :: xs, seen, n, st =>
    let seen' := x :: seen
    let delta := bmDelta st.c seen'
    if delta = 0 then bmGo xs seen' (n + 1) { st with m := st.m + 1 }
    else
      let k := gfMul delta (gfInv st.d)
      let c' := polyAdd st.c (List.replicate st.m 0 ++ polyScale k st.b)
      if 2 * st.l ≤ n then bmGo xs seen' (n + 1) ⟨c', st.c, n + 1 - st.l, 1, delta⟩
      else bmGo xs seen' (n + 1) { st with c := c', m := st.m + 1 }

/-- Formal derivative: odd coefficients. -/
def polyDeriv : List Nat → List Nat
  | _ :: b :: cs => b :: 0 :: polyDeriv cs
  | _ => []

/-- Error magnitude at the locator X, by Forney's formula for first root α^0. -/
def forney (lam omega : List Nat) (x xi : Nat) : Nat :=
  gfMul x (gfMul (polyEval xi omega) (gfInv (polyEval xi (polyDeriv lam))))

/-- Corrected word, highest power first: position i from the front has power 111 - i. -/
def rsFix (lam omega : List Nat) : Nat → List Nat → List Nat
  | _, [] => []
  | pw, c :: cs =>
    let x := gfExp (pw % 255)
    let xi := gfInv x
    (if polyEval xi lam = 0 then c ^^^ forney lam omega x xi else c) :: rsFix lam omega (pw - 1) cs

/-- Number of positions at which two words differ. -/
def diffCount : List Nat → List Nat → Nat
  | a :: as, b :: bs => (if a = b then 0 else 1) + diffCount as bs
  | _, _ => 0

/-- Decode 112 symbols: the message and the number of corrected symbols, none when more than 6 symbols are wrong
(R160). -/
def rsDecode (word : List Nat) : Option (List Nat × Nat) :=
  let syn := rsSyndromes word
  if syn.all (· == 0) then some (word.take 100, 0)
  else
    let st := bmGo syn [] 0 ⟨[1], [1], 0, 1, 1⟩
    let omega := (polyMul syn st.c).take 12
    let fixed := rsFix st.c omega 111 word
    let n := diffCount word fixed
    if st.l ≤ 6 ∧ n ≤ 6 ∧ (rsSyndromes fixed).all (· == 0) then some (fixed.take 100, n) else none

/-! ## Frames -/

/-- n symbols of a number, most significant symbol first. -/
def symsOf : Nat → Nat → List Nat
  | 0, _ => []
  | k + 1, n => (n / 2 ^ (8 * k)) % 256 :: symsOf k n

/-- The number that symbols spell, most significant first. -/
def symsNat (l : List Nat) : Nat := l.foldl (fun acc c => acc * 256 + c) 0

/-- The frame of a header and a payload (R160). -/
def mkFrame (hdr payload : Nat) : BitVec 896 :=
  BitVec.ofNat 896 (symsNat (rsEncode (symsOf 100 ((hdr % 2 ^ 32) * 2 ^ 768 + payload % 2 ^ 768))))

/-- A decoded frame: header, payload, corrected symbols. -/
structure Decoded where
  hdr : Nat
  payload : Nat
  fixed : Nat
deriving DecidableEq, Repr

/-- Decode the 896 bits of a frame (R160). -/
def openFrame (f : BitVec 896) : Option Decoded :=
  match rsDecode (symsOf 112 f.toNat) with
  | some (msg, n) => let m := symsNat msg; some ⟨m / 2 ^ 768, m % 2 ^ 768, n⟩
  | none => none

/-- Header fields (R161). -/
def mkHeader (ftype alive vote hdl fidx pnlow : Nat) : Nat :=
  (ftype % 16) * 2 ^ 28 + (alive % 256) * 2 ^ 20 + (vote % 16) * 2 ^ 16 + (hdl % 16) * 2 ^ 12 +
    (fidx % 64) * 64 + (pnlow % 4) * 16

/-- Keystream of n bits from a scrambler state, first bit most significant (R246). -/
def scramGo : Nat → Nat → Nat → Nat
  | 0, _, acc => acc
  | n + 1, st, acc =>
    let k := (bitN st 30 + bitN st 27) % 2
    scramGo n ((2 * st + k) % 2 ^ 31) (2 * acc + k)

/-- Scramble or descramble a frame of a logical lane, 8 for the spare (R246). -/
def scramble (lane : Nat) (f : BitVec 896) : BitVec 896 :=
  f ^^^ BitVec.ofNat 896 (scramGo 896 (0x7fffff00 + lane) 0)

/-- Group k of a payload (R165). -/
def payloadGroup (payload k : Nat) : Nat := nfld payload (752 - 16 * k) 16

/-- The payload of 48 groups, group 0 first. -/
def groupsPayload (gs : List Nat) : Nat := gs.foldl (fun acc g => acc * 65536 + g % 65536) 0

/-- The 24 dwords of a payload: dword d is group 2d in its low half and group 2d+1 in its high half (R177). -/
def payloadWords (payload : Nat) : List Word :=
  (natsFrom 0 24).map fun d => BitVec.ofNat 32 (payloadGroup payload (2 * d) + 65536 * payloadGroup payload (2 * d + 1))

def wordsPayload (ws : List Word) : Nat := groupsPayload (ws.flatMap fun w => [w.toNat % 65536, w.toNat / 65536])

/-! ## PRBS -/

/-- Length and tap of a PRBS pattern: PRBS7, PRBS15, PRBS31 (R266). -/
def prbsTaps (pat : Nat) : Nat × Nat :=
  match pat with
  | 1 => (7, 6)
  | 2 => (15, 14)
  | _ => (31, 28)

/-- Next bit of a PRBS from the last bits sent, newest in bit 0. -/
def prbsNext (pat st : Nat) : Nat := (bitN st ((prbsTaps pat).1 - 1) + bitN st ((prbsTaps pat).2 - 1)) % 2

end Sys2Proof.Machine
end

