-- ==== Sys2Proof/Config.lean ====
section
/-! DEFINITION. What the part fixes and what the spec leaves open. The constants without a body have no value that a
proof can see: a claim that holds, holds for every value of them. -/

namespace Sys2Proof

/-- A value the spec leaves open, fresh for every count. -/
opaque Config.freeValue : Nat → BitVec 64

/-- Whether an ECDSA P-384 signature over a firmware image is valid under the fused key (R328). -/
opaque Config.fwSignatureValid (image : List Byte) : Bool

/-- Bytes that one record of the input log takes (R211, R212): the spec gives no size. -/
opaque Config.logRecordBytes : Nat

/-- The device pages that device firmware keeps for itself (R155): the spec does not say which. -/
opaque Config.firmwarePage : Nat → Bool

/-- Bytes of seed shadow that the firmware pages hold beside the pseudo-channels that plots own (R340): the spec gives no
number. -/
opaque Config.shadowRoom (owned : List Nat) : Nat

/-- Number of the 8-byte word of HBM at which a segment of a plot's seed shadow begins, in firmware pages (R340): the spec gives
no layout (log 85). -/
opaque Config.shadowAddr (plot segment : Nat) : Nat

/-- Whether the internal network has express slots for transfers, (furrow, step, 0 HBM or 1 probe), beside those that other
plots hold (R418): the topology is in ROM. -/
opaque Config.expressFits (mine others : List (Nat × Nat × Nat)) : Bool

/-- The dwords of the internal network's route tables, by the planes in service, NOC_RT_IDX and dword: firmware writes them
from a topology in ROM and rebuilds them when a plane is retired (R421, R422). -/
opaque Config.routeEntry (planes index dword : Nat) : BitVec 32

/-- The plane, as a count among those then in service, on which firmware reserved the express slots of a plot's transfers
between a furrow and a pseudo-channel, or Harvest as 64 (R418, R421): the topology is in ROM. -/
opaque Config.slotPlane (imgid planes furrow pc : Nat) : Nat

/-- The neighbour's port and device ID, PORT * 2^18 + ID, that a system description with a SHA-256 hash names for a port of a
device (R220, R230): the image holds the hash and not the description. -/
opaque Config.neighbour (hash : List Nat) (device port : Nat) : Nat

/-- Numbers of the network interfaces (R416): of PCIe, and of the target that holds a pseudo-channel or a scratchpad bank. -/
opaque Config.pcieInterface : Nat
opaque Config.targetInterface (scratchpad : Bool) (unit : Nat) : Nat

/-- Tag that a requester gives a packet for an address (R417). -/
opaque Config.requestTag (addr : Nat) : Nat

end Sys2Proof
end

