-- ==== Sys2Proof/Machine/Registers.lean ====
section
/-! DEFINITION. The register map of BAR0 (19_register_map.md R504, R509-R511): the address of every register, and a
table of every register's rights class (R506) and of its fields with access type (R13) and reset value. Fields
that a table does not list are reserved (R14). -/

namespace Sys2Proof.Machine
open Sys2Proof

/-- Access types (R13); ros is RO-S. -/
inductive Acc where
  | rw | ro | wo | w1c | w1s | rwl | ros
deriving DecidableEq, Repr

/-- Rights classes (R506), with the kind of resource a register belongs to. -/
inductive RegClass where
  | identity | time | plot | fur | pc | sig | fio | tu | spm | queue | function | shared | window | device
deriving DecidableEq, Repr

/-- One field: lowest bit, width, access type, reset value. -/
structure RegField where
  lo : Nat
  len : Nat
  acc : Acc
  reset : Nat
deriving DecidableEq, Repr

/-- One register, or an array of it: base address, (count, stride) of each index, class, fields. -/
structure RegRow where
  base : Nat
  dims : List (Nat × Nat)
  cls : RegClass
  fields : List RegField
deriving DecidableEq, Repr

/-! Addresses, by the manual's register names. -/

def Reg.DEV_ID : Nat := 0x0
def Reg.DEV_REV : Nat := 0x4
def Reg.DEV_FUNC : Nat := 0x8
def Reg.DEV_STAT : Nat := 0xc
def Reg.DEV_SERIAL (p : Nat) : Nat := 0x10 + 0x4 * p
def Reg.DEV_VER : Nat := 0x20
def Reg.DEV_SCRATCH : Nat := 0x24
def Reg.DEV_CAP0 : Nat := 0x30
def Reg.DEV_CAP1 : Nat := 0x34
def Reg.DEV_CAP2 : Nat := 0x38
def Reg.DEV_CAP3 : Nat := 0x3c
def Reg.DEV_CAP4 : Nat := 0x40
def Reg.DEV_CAP5 : Nat := 0x44
def Reg.DEV_CAP6 : Nat := 0x48

def Reg.CRP_STAT : Nat := 0x10000
def Reg.CRP_PWR_STAT : Nat := 0x10004
def Reg.CRP_THERM_CFG : Nat := 0x10008
def Reg.CRP_THERM_STAT : Nat := 0x1000c
def Reg.CRP_RST_CAUSE : Nat := 0x10010
def Reg.CRP_DEV_RESET : Nat := 0x10014
def Reg.CRP_TEMP (p : Nat) : Nat := 0x10100 + 0x4 * p

def Reg.FT_CFG : Nat := 0x20000
def Reg.FT_STAT : Nat := 0x20004
def Reg.FT_NS_LO : Nat := 0x20008
def Reg.FT_NS_HI : Nat := 0x2000c
def Reg.FT_FRAC : Nat := 0x20010
def Reg.FT_ADJ : Nat := 0x20014
def Reg.FT_OFFSET : Nat := 0x20018
def Reg.FT_DELAY : Nat := 0x2001c
def Reg.FT_JUMP_LIMIT : Nat := 0x20020
def Reg.FT_GM : Nat := 0x20024
def Reg.FT_PPS_STAMP_LO : Nat := 0x20028
def Reg.FT_PPS_STAMP_HI : Nat := 0x2002c
def Reg.FT_PPS_OFS : Nat := 0x20030
def Reg.FT_PPS_OUT : Nat := 0x20034
def Reg.FT_PPS_OUT_OFS : Nat := 0x20038
def Reg.FT_OUTLIER_CNT : Nat := 0x20040
def Reg.FT_OUTLIER_CNT_CLR : Nat := 0x20044
def Reg.FT_JUMP_CNT : Nat := 0x20048
def Reg.FT_JUMP_CNT_CLR : Nat := 0x2004c

def Reg.CMD_CFG : Nat := 0x30000
def Reg.CMD_STAT : Nat := 0x30004
def Reg.CMD_OVF : Nat := 0x30008
def Reg.CMD_MS_STAT : Nat := 0x30010
def Reg.CMD_FIRST_CAUSE : Nat := 0x30020
def Reg.CMD_FIRST_LOC : Nat := 0x30024
def Reg.CMD_FIRST_PN_LO : Nat := 0x30028
def Reg.CMD_FIRST_PN_HI : Nat := 0x3002c
def Reg.CMD_FIRST_FT_LO : Nat := 0x30030
def Reg.CMD_FIRST_FT_HI : Nat := 0x30034
def Reg.CMD_MERGED : Nat := 0x30038
def Reg.CMD_FIRST_ACK : Nat := 0x3003c
def Reg.CMD_HIST_PTR : Nat := 0x30040
def Reg.CMD_HIST_ACK : Nat := 0x30044
def Reg.CMD_HIST_LOST : Nat := 0x30048
def Reg.CMD_HIST_LOST_CLR : Nat := 0x3004c
def Reg.CMD_HIST (p : Nat) : Nat := 0x30400 + 0x10 * p
def Reg.CMD_HIST_PN (p : Nat) : Nat := 0x30404 + 0x10 * p
def Reg.CMD_HIST_FT_LO (p : Nat) : Nat := 0x30408 + 0x10 * p
def Reg.CMD_HIST_FT_HI (p : Nat) : Nat := 0x3040c + 0x10 * p
def Reg.CMD_CNT (p : Nat) : Nat := 0x30060 + 0x8 * p
def Reg.CMD_CNT_CLR (p : Nat) : Nat := 0x30064 + 0x8 * p
def Reg.CMD_FUNC_Q (p : Nat) : Nat := 0x30100 + 0x8 * p
def Reg.CMD_FUNC_CFG (p : Nat) : Nat := 0x30104 + 0x8 * p
def Reg.CMD_INT_DEV (p : Nat) : Nat := 0x30800 + 0x4 * p
def Reg.CMD_INT_PEND : Nat := 0x30840
def Reg.CMD_FLT_SUM : Nat := 0x30844
def Reg.CMD_FI_CTRL : Nat := 0x30f00
def Reg.CMD_FI_ADDR : Nat := 0x30f04

def Reg.PLT_ID (p : Nat) : Nat := 0x40000 + 0x400 * p
def Reg.PLT_FALLOW (p : Nat) : Nat := 0x40004 + 0x400 * p
def Reg.PLT_PAGES (p : Nat) : Nat := 0x40008 + 0x400 * p
def Reg.PLT_PASS_CFG (p : Nat) : Nat := 0x40080 + 0x400 * p
def Reg.PLT_HL_CFG (p : Nat) : Nat := 0x40084 + 0x400 * p
def Reg.PLT_HL_STAT (p : Nat) : Nat := 0x40088 + 0x400 * p
def Reg.PLT_REF_REMAIN (p : Nat) : Nat := 0x4008c + 0x400 * p
def Reg.PLT_PN_LO (p : Nat) : Nat := 0x40090 + 0x400 * p
def Reg.PLT_PN_HI (p : Nat) : Nat := 0x40094 + 0x400 * p
def Reg.PLT_CPN_LO (p : Nat) : Nat := 0x40098 + 0x400 * p
def Reg.PLT_CPN_HI (p : Nat) : Nat := 0x4009c + 0x400 * p
def Reg.PLT_STRETCH_CNT (p : Nat) : Nat := 0x400a0 + 0x400 * p
def Reg.PLT_REFRESH_CNT (p : Nat) : Nat := 0x400a4 + 0x400 * p
def Reg.PLT_STRETCH_CNT_CLR (p : Nat) : Nat := 0x400a8 + 0x400 * p
def Reg.PLT_REFRESH_CNT_CLR (p : Nat) : Nat := 0x400ac + 0x400 * p
def Reg.PLT_EVAL_CFG (p : Nat) : Nat := 0x400b0 + 0x400 * p
def Reg.PLT_SW_STAT (p : Nat) : Nat := 0x400c0 + 0x400 * p
def Reg.PLT_SW_SWAP_PN_LO (p : Nat) : Nat := 0x400c4 + 0x400 * p
def Reg.PLT_SW_SWAP_PN_HI (p : Nat) : Nat := 0x400c8 + 0x400 * p
def Reg.PLT_MEM_CFG (p : Nat) : Nat := 0x400d0 + 0x400 * p
def Reg.PLT_MEM_STAT (p : Nat) : Nat := 0x400d4 + 0x400 * p
def Reg.PLT_CMT_CFG (p : Nat) : Nat := 0x400e0 + 0x400 * p
def Reg.PLT_CMT_STAT (p : Nat) : Nat := 0x400e4 + 0x400 * p
def Reg.PLT_CMT_FAIL (p : Nat) : Nat := 0x400e8 + 0x400 * p
def Reg.PLT_FAIL_PN_LO (p : Nat) : Nat := 0x400ec + 0x400 * p
def Reg.PLT_FAIL_PN_HI (p : Nat) : Nat := 0x400f0 + 0x400 * p
def Reg.PLT_REPLAY_CNT (p : Nat) : Nat := 0x400f4 + 0x400 * p
def Reg.PLT_REPLAY_CNT_CLR (p : Nat) : Nat := 0x400f8 + 0x400 * p
def Reg.PLT_RECOVER_CNT (p : Nat) : Nat := 0x400fc + 0x400 * p
def Reg.PLT_RECOVER_CNT_CLR (p : Nat) : Nat := 0x40100 + 0x400 * p
def Reg.PLT_RECOVER_LAST (p : Nat) : Nat := 0x40104 + 0x400 * p
def Reg.PLT_STAKE_CFG (p : Nat) : Nat := 0x40110 + 0x400 * p
def Reg.PLT_STAKE_MEM (p : Nat) : Nat := 0x40114 + 0x400 * p
def Reg.PLT_STAKE_STAT (p : Nat) : Nat := 0x40118 + 0x400 * p
def Reg.PLT_STAKE_PN_LO (p : Nat) : Nat := 0x4011c + 0x400 * p
def Reg.PLT_STAKE_PN_HI (p : Nat) : Nat := 0x40120 + 0x400 * p
def Reg.PLT_IMG_INFO (p : Nat) : Nat := 0x40138 + 0x400 * p
def Reg.PLT_IMG_DEV (p : Nat) : Nat := 0x4013c + 0x400 * p
def Reg.PLT_INT_CFG (p : Nat) : Nat := 0x40160 + 0x400 * p
def Reg.PLT_INT_STAT (p : Nat) : Nat := 0x40164 + 0x400 * p
def Reg.PLT_MEM_POISON_CNT (p : Nat) : Nat := 0x400d8 + 0x400 * p
def Reg.PLT_MEM_POISON_CNT_CLR (p : Nat) : Nat := 0x400dc + 0x400 * p
def Reg.PLT_IMG_SDHASH (p q : Nat) : Nat := 0x40140 + 0x400 * p + 0x4 * q
def Reg.PLT_PMAP_IDX : Nat := 0x44000
def Reg.PLT_PMAP_DATA : Nat := 0x44004

def Reg.SOW_BOOT_CTRL : Nat := 0x50000
def Reg.SOW_BOOT_STAT : Nat := 0x50004
def Reg.SOW_BOOT_LEN : Nat := 0x50008
def Reg.SOW_FW_VER : Nat := 0x5000c
def Reg.SOW_FW_SVN : Nat := 0x50010
def Reg.SOW_LIFECYCLE : Nat := 0x50014
def Reg.SOW_KEY_STAT : Nat := 0x50018
def Reg.SOW_CFG : Nat := 0x50020
def Reg.SOW_SOWN_MASK : Nat := 0x50024
def Reg.SOW_SOWN_PIN : Nat := 0x50028
def Reg.SOW_PLOT_STAT (p : Nat) : Nat := 0x50100 + 0x10 * p
def Reg.SOW_PLOT_SEG (p : Nat) : Nat := 0x50104 + 0x10 * p
def Reg.SOW_PLOT_PROG (p : Nat) : Nat := 0x50108 + 0x10 * p

def Reg.HVT_CFG (p : Nat) : Nat := 0x60000 + 0x100 * p
def Reg.HVT_RING (p : Nat) : Nat := 0x60004 + 0x100 * p
def Reg.HVT_POST (p : Nat) : Nat := 0x60008 + 0x100 * p
def Reg.HVT_HOLD (p : Nat) : Nat := 0x6000c + 0x100 * p
def Reg.HVT_STAT (p : Nat) : Nat := 0x60010 + 0x100 * p
def Reg.HVT_TRIG_PN_LO (p : Nat) : Nat := 0x60014 + 0x100 * p
def Reg.HVT_TRIG_PN_HI (p : Nat) : Nat := 0x60018 + 0x100 * p
def Reg.HVT_STOP_PN_LO (p : Nat) : Nat := 0x6001c + 0x100 * p
def Reg.HVT_STOP_PN_HI (p : Nat) : Nat := 0x60020 + 0x100 * p
def Reg.HVT_WPTR_LO (p : Nat) : Nat := 0x60024 + 0x100 * p
def Reg.HVT_WPTR_HI (p : Nat) : Nat := 0x60028 + 0x100 * p
def Reg.HVT_DPTR_LO (p : Nat) : Nat := 0x6002c + 0x100 * p
def Reg.HVT_DPTR_HI (p : Nat) : Nat := 0x60030 + 0x100 * p
def Reg.HVT_SEQ (p : Nat) : Nat := 0x60034 + 0x100 * p
def Reg.HVT_FIRE_CNT (p : Nat) : Nat := 0x60038 + 0x100 * p
def Reg.HVT_FIRE_CNT_CLR (p : Nat) : Nat := 0x6003c + 0x100 * p
def Reg.HVT_LOSS_CNT (p : Nat) : Nat := 0x60040 + 0x100 * p
def Reg.HVT_LOSS_CNT_CLR (p : Nat) : Nat := 0x60044 + 0x100 * p
def Reg.HVT_SEQST_MASK (p q : Nat) : Nat := 0x60080 + 0x100 * p + 0x8 * q
def Reg.HVT_SEQST_CTL (p q : Nat) : Nat := 0x60084 + 0x100 * p + 0x8 * q
def Reg.HVT_TU_CFG (p : Nat) : Nat := 0x62000 + 0x40 * p
def Reg.HVT_TU_SRC (p : Nat) : Nat := 0x62004 + 0x40 * p
def Reg.HVT_TU_MASK (p : Nat) : Nat := 0x62008 + 0x40 * p
def Reg.HVT_TU_LO (p : Nat) : Nat := 0x6200c + 0x40 * p
def Reg.HVT_TU_HI (p : Nat) : Nat := 0x62010 + 0x40 * p
def Reg.HVT_TU_STAT (p : Nat) : Nat := 0x62014 + 0x40 * p
def Reg.HVT_TU_HITS (p : Nat) : Nat := 0x62018 + 0x40 * p
def Reg.HVT_TU_HITS_CLR (p : Nat) : Nat := 0x6201c + 0x40 * p
def Reg.HVT_DEV_STAT : Nat := 0x68000
def Reg.HVT_OVF : Nat := 0x68004
def Reg.HVT_EVT_SEQ : Nat := 0x68008
def Reg.HVT_STAGE : Nat := 0x6800c
def Reg.HVT_EVT_LOSS_CNT : Nat := 0x68010
def Reg.HVT_EVT_LOSS_CNT_CLR : Nat := 0x68014
def Reg.HVT_FIRST_CAUSE : Nat := 0x68020
def Reg.HVT_FIRST_LOC : Nat := 0x68024
def Reg.HVT_FIRST_PN_LO : Nat := 0x68028
def Reg.HVT_FIRST_PN_HI : Nat := 0x6802c
def Reg.HVT_FIRST_FT_LO : Nat := 0x68030
def Reg.HVT_FIRST_FT_HI : Nat := 0x68034
def Reg.HVT_MERGED : Nat := 0x68038
def Reg.HVT_FIRST_ACK : Nat := 0x6803c
def Reg.HVT_HIST_PTR : Nat := 0x68080
def Reg.HVT_HIST_ACK : Nat := 0x68084
def Reg.HVT_HIST_LOST : Nat := 0x68088
def Reg.HVT_HIST_LOST_CLR : Nat := 0x6808c
def Reg.HVT_HIST (p : Nat) : Nat := 0x68400 + 0x10 * p
def Reg.HVT_HIST_PN (p : Nat) : Nat := 0x68404 + 0x10 * p
def Reg.HVT_HIST_FT_LO (p : Nat) : Nat := 0x68408 + 0x10 * p
def Reg.HVT_HIST_FT_HI (p : Nat) : Nat := 0x6840c + 0x10 * p
def Reg.HVT_FI_CTRL : Nat := 0x68f00
def Reg.HVT_FI_ADDR : Nat := 0x68f04

def Reg.GLN_CFG : Nat := 0x70000
def Reg.GLN_STAT : Nat := 0x70004
def Reg.GLN_OVF : Nat := 0x70008
def Reg.GLN_HBM_RATE : Nat := 0x7000c
def Reg.GLN_HBM_POS_LO : Nat := 0x70010
def Reg.GLN_HBM_POS_HI : Nat := 0x70014
def Reg.GLN_FIRST_CAUSE : Nat := 0x70020
def Reg.GLN_FIRST_LOC : Nat := 0x70024
def Reg.GLN_FIRST_PN_LO : Nat := 0x70028
def Reg.GLN_FIRST_PN_HI : Nat := 0x7002c
def Reg.GLN_FIRST_FT_LO : Nat := 0x70030
def Reg.GLN_FIRST_FT_HI : Nat := 0x70034
def Reg.GLN_MERGED : Nat := 0x70038
def Reg.GLN_FIRST_ACK : Nat := 0x7003c
def Reg.GLN_HIST_PTR : Nat := 0x70040
def Reg.GLN_HIST_ACK : Nat := 0x70044
def Reg.GLN_HIST_LOST : Nat := 0x70048
def Reg.GLN_HIST_LOST_CLR : Nat := 0x7004c
def Reg.GLN_HIST (p : Nat) : Nat := 0x70400 + 0x10 * p
def Reg.GLN_HIST_PN (p : Nat) : Nat := 0x70404 + 0x10 * p
def Reg.GLN_HIST_FT_LO (p : Nat) : Nat := 0x70408 + 0x10 * p
def Reg.GLN_HIST_FT_HI (p : Nat) : Nat := 0x7040c + 0x10 * p
def Reg.GLN_CNT (p : Nat) : Nat := 0x70060 + 0x8 * p
def Reg.GLN_CNT_CLR (p : Nat) : Nat := 0x70064 + 0x8 * p
def Reg.GLN_BKT_CFG0 : Nat := 0x70100
def Reg.GLN_BKT_CFG1 : Nat := 0x70104
def Reg.GLN_BKT_CFG2 : Nat := 0x70108
def Reg.GLN_BKT_CFG3 : Nat := 0x7010c
def Reg.GLN_BKT_CFG4 : Nat := 0x70110
def Reg.GLN_BKT_CFG5 : Nat := 0x70114
def Reg.GLN_REMAP_CFG : Nat := 0x70120
def Reg.GLN_FI_CTRL : Nat := 0x70f00
def Reg.GLN_FI_ADDR : Nat := 0x70f04

def Reg.FIO_PORT_CFG (p : Nat) : Nat := 0x80000 + 0x800 * p
def Reg.FIO_CLK_CFG (p : Nat) : Nat := 0x80004 + 0x800 * p
def Reg.FIO_PORT_STAT (p : Nat) : Nat := 0x80008 + 0x800 * p
def Reg.FIO_BRG_CFG (p : Nat) : Nat := 0x80010 + 0x800 * p
def Reg.FIO_BRG_PTR (p : Nat) : Nat := 0x80014 + 0x800 * p
def Reg.FIO_OVF (p : Nat) : Nat := 0x8000c + 0x800 * p
def Reg.FIO_MISMATCH_CNT (p : Nat) : Nat := 0x80020 + 0x800 * p
def Reg.FIO_MISMATCH_CNT_CLR (p : Nat) : Nat := 0x80024 + 0x800 * p
def Reg.FIO_BRG_DROP_CNT (p : Nat) : Nat := 0x80028 + 0x800 * p
def Reg.FIO_BRG_DROP_CNT_CLR (p : Nat) : Nat := 0x8002c + 0x800 * p
def Reg.FIO_MISMATCH_PINS (p : Nat) : Nat := 0x80030 + 0x800 * p
def Reg.FIO_CMP_FIRST (p : Nat) : Nat := 0x80040 + 0x800 * p
def Reg.FIO_CMP_PN_LO (p : Nat) : Nat := 0x80044 + 0x800 * p
def Reg.FIO_CMP_PN_HI (p : Nat) : Nat := 0x80048 + 0x800 * p
def Reg.FIO_CMP_FT_LO (p : Nat) : Nat := 0x8004c + 0x800 * p
def Reg.FIO_CMP_FT_HI (p : Nat) : Nat := 0x80050 + 0x800 * p
def Reg.FIO_CMP_MASK (p : Nat) : Nat := 0x80054 + 0x800 * p
def Reg.FIO_CMP_SAMPLE (p : Nat) : Nat := 0x80058 + 0x800 * p
def Reg.FIO_CMP_EXPECT (p : Nat) : Nat := 0x8005c + 0x800 * p
def Reg.FIO_CMP_ACK (p : Nat) : Nat := 0x80060 + 0x800 * p
def Reg.FIO_PIN_CFG (p q : Nat) : Nat := 0x80100 + 0x800 * p + 0x4 * q
def Reg.FIO_RFX0 (p q : Nat) : Nat := 0x80400 + 0x800 * p + 0x20 * q
def Reg.FIO_RFX1 (p q : Nat) : Nat := 0x80404 + 0x800 * p + 0x20 * q
def Reg.FIO_RFX2 (p q : Nat) : Nat := 0x80408 + 0x800 * p + 0x20 * q
def Reg.FIO_RFX3 (p q : Nat) : Nat := 0x8040c + 0x800 * p + 0x20 * q
def Reg.FIO_RFX4 (p q : Nat) : Nat := 0x80410 + 0x800 * p + 0x20 * q
def Reg.FIO_RFX5 (p q : Nat) : Nat := 0x80414 + 0x800 * p + 0x20 * q
def Reg.FIO_RFX6 (p q : Nat) : Nat := 0x80418 + 0x800 * p + 0x20 * q
def Reg.FIO_RFX7 (p q : Nat) : Nat := 0x8041c + 0x800 * p + 0x20 * q
def Reg.FIO_FIRST_CAUSE : Nat := 0x86020
def Reg.FIO_FIRST_LOC : Nat := 0x86024
def Reg.FIO_FIRST_PN_LO : Nat := 0x86028
def Reg.FIO_FIRST_PN_HI : Nat := 0x8602c
def Reg.FIO_FIRST_FT_LO : Nat := 0x86030
def Reg.FIO_FIRST_FT_HI : Nat := 0x86034
def Reg.FIO_MERGED : Nat := 0x86038
def Reg.FIO_FIRST_ACK : Nat := 0x8603c
def Reg.FIO_HIST_PTR : Nat := 0x86080
def Reg.FIO_HIST_ACK : Nat := 0x86084
def Reg.FIO_HIST_LOST : Nat := 0x86088
def Reg.FIO_HIST_LOST_CLR : Nat := 0x8608c
def Reg.FIO_HIST (p : Nat) : Nat := 0x86400 + 0x10 * p
def Reg.FIO_HIST_PN (p : Nat) : Nat := 0x86404 + 0x10 * p
def Reg.FIO_HIST_FT_LO (p : Nat) : Nat := 0x86408 + 0x10 * p
def Reg.FIO_HIST_FT_HI (p : Nat) : Nat := 0x8640c + 0x10 * p
def Reg.FIO_BLK_OVF : Nat := 0x86008
def Reg.FIO_FI_CTRL : Nat := 0x86f00
def Reg.FIO_FI_ADDR : Nat := 0x86f04

def Reg.SIG_CFG (p : Nat) : Nat := 0x90000 + 0x80 * p
def Reg.SIG_ALIVE_CFG (p : Nat) : Nat := 0x90004 + 0x80 * p
def Reg.SIG_POLY_LO (p : Nat) : Nat := 0x90008 + 0x80 * p
def Reg.SIG_POLY_HI (p : Nat) : Nat := 0x9000c + 0x80 * p
def Reg.SIG_INIT_LO (p : Nat) : Nat := 0x90010 + 0x80 * p
def Reg.SIG_INIT_HI (p : Nat) : Nat := 0x90014 + 0x80 * p
def Reg.SIG_XOROUT_LO (p : Nat) : Nat := 0x90018 + 0x80 * p
def Reg.SIG_XOROUT_HI (p : Nat) : Nat := 0x9001c + 0x80 * p
def Reg.SIG_EXP_LO (p : Nat) : Nat := 0x90020 + 0x80 * p
def Reg.SIG_EXP_HI (p : Nat) : Nat := 0x90024 + 0x80 * p
def Reg.SIG_LAST_LO (p : Nat) : Nat := 0x90028 + 0x80 * p
def Reg.SIG_LAST_HI (p : Nat) : Nat := 0x9002c + 0x80 * p
def Reg.SIG_STAT (p : Nat) : Nat := 0x90030 + 0x80 * p
def Reg.SIG_LAST_PN_LO (p : Nat) : Nat := 0x90034 + 0x80 * p
def Reg.SIG_LAST_PN_HI (p : Nat) : Nat := 0x90038 + 0x80 * p
def Reg.SIG_MISMATCH_CNT (p : Nat) : Nat := 0x9003c + 0x80 * p
def Reg.SIG_MISMATCH_CNT_CLR (p : Nat) : Nat := 0x90040 + 0x80 * p
def Reg.SIG_ALIVE_CNT (p : Nat) : Nat := 0x90044 + 0x80 * p
def Reg.SIG_ALIVE_CNT_CLR (p : Nat) : Nat := 0x90048 + 0x80 * p
def Reg.SIG_OWN (p : Nat) : Nat := 0x9004c + 0x80 * p
def Reg.SIG_FIRST_CAUSE : Nat := 0x91020
def Reg.SIG_FIRST_LOC : Nat := 0x91024
def Reg.SIG_FIRST_PN_LO : Nat := 0x91028
def Reg.SIG_FIRST_PN_HI : Nat := 0x9102c
def Reg.SIG_FIRST_FT_LO : Nat := 0x91030
def Reg.SIG_FIRST_FT_HI : Nat := 0x91034
def Reg.SIG_MERGED : Nat := 0x91038
def Reg.SIG_FIRST_ACK : Nat := 0x9103c
def Reg.SIG_HIST_PTR : Nat := 0x91080
def Reg.SIG_HIST_ACK : Nat := 0x91084
def Reg.SIG_HIST_LOST : Nat := 0x91088
def Reg.SIG_HIST_LOST_CLR : Nat := 0x9108c
def Reg.SIG_HIST (p : Nat) : Nat := 0x91400 + 0x10 * p
def Reg.SIG_HIST_PN (p : Nat) : Nat := 0x91404 + 0x10 * p
def Reg.SIG_HIST_FT_LO (p : Nat) : Nat := 0x91408 + 0x10 * p
def Reg.SIG_HIST_FT_HI (p : Nat) : Nat := 0x9140c + 0x10 * p
def Reg.SIG_BLK_OVF : Nat := 0x91008
def Reg.SIG_FI_CTRL : Nat := 0x91f00
def Reg.SIG_FI_ADDR : Nat := 0x91f04

def Reg.MEM_PC_CFG (p : Nat) : Nat := 0xa0000 + 0x200 * p
def Reg.MEM_PC_STAT (p : Nat) : Nat := 0xa0004 + 0x200 * p
def Reg.MEM_PC_OVF (p : Nat) : Nat := 0xa0008 + 0x200 * p
def Reg.MEM_PC_WQ_STAT (p : Nat) : Nat := 0xa0020 + 0x200 * p
def Reg.MEM_PC_CE_CNT (p : Nat) : Nat := 0xa0010 + 0x200 * p
def Reg.MEM_PC_CE_CNT_CLR (p : Nat) : Nat := 0xa0014 + 0x200 * p
def Reg.MEM_PC_UE_CNT (p : Nat) : Nat := 0xa0018 + 0x200 * p
def Reg.MEM_PC_UE_CNT_CLR (p : Nat) : Nat := 0xa001c + 0x200 * p
def Reg.MEM_PC_CE_BUCKET (p : Nat) : Nat := 0xa0028 + 0x200 * p
def Reg.MEM_PC_REMAP (p q : Nat) : Nat := 0xa0100 + 0x200 * p + 0x4 * q
def Reg.MEM_STAT : Nat := 0xa8000
def Reg.MEM_OVF : Nat := 0xa8004
def Reg.MEM_FIRST_CAUSE : Nat := 0xa8010
def Reg.MEM_FIRST_LOC : Nat := 0xa8014
def Reg.MEM_FIRST_PN_LO : Nat := 0xa8018
def Reg.MEM_FIRST_PN_HI : Nat := 0xa801c
def Reg.MEM_FIRST_FT_LO : Nat := 0xa8020
def Reg.MEM_FIRST_FT_HI : Nat := 0xa8024
def Reg.MEM_MERGED : Nat := 0xa8028
def Reg.MEM_FIRST_ACK : Nat := 0xa802c
def Reg.MEM_HIST_PTR : Nat := 0xa8040
def Reg.MEM_HIST_ACK : Nat := 0xa8044
def Reg.MEM_HIST_LOST : Nat := 0xa8048
def Reg.MEM_HIST_LOST_CLR : Nat := 0xa804c
def Reg.MEM_HIST (p : Nat) : Nat := 0xa8400 + 0x10 * p
def Reg.MEM_HIST_PN (p : Nat) : Nat := 0xa8404 + 0x10 * p
def Reg.MEM_HIST_FT_LO (p : Nat) : Nat := 0xa8408 + 0x10 * p
def Reg.MEM_HIST_FT_HI (p : Nat) : Nat := 0xa840c + 0x10 * p
def Reg.MEM_WIN_BASE (p : Nat) : Nat := 0xa8100 + 0x4 * p
def Reg.MEM_FI_CTRL : Nat := 0xa8f00
def Reg.MEM_FI_ADDR : Nat := 0xa8f04

def Reg.SPM_BANK_OWNER (p : Nat) : Nat := 0xb0000 + 0x4 * p
def Reg.SPM_STAT : Nat := 0xb0100
def Reg.SPM_CE_BUCKET : Nat := 0xb0104
def Reg.SPM_FI_CTRL : Nat := 0xb0f00
def Reg.SPM_FI_ADDR : Nat := 0xb0f04

def Reg.NOC_CFG : Nat := 0xc0000
def Reg.NOC_STAT : Nat := 0xc0004
def Reg.NOC_OVF : Nat := 0xc0008
def Reg.NOC_FIRST_CAUSE : Nat := 0xc0010
def Reg.NOC_FIRST_LOC : Nat := 0xc0014
def Reg.NOC_FIRST_PN_LO : Nat := 0xc0018
def Reg.NOC_FIRST_PN_HI : Nat := 0xc001c
def Reg.NOC_FIRST_FT_LO : Nat := 0xc0020
def Reg.NOC_FIRST_FT_HI : Nat := 0xc0024
def Reg.NOC_MERGED : Nat := 0xc0028
def Reg.NOC_FIRST_ACK : Nat := 0xc002c
def Reg.NOC_HIST_PTR : Nat := 0xc0040
def Reg.NOC_HIST_ACK : Nat := 0xc0044
def Reg.NOC_HIST_LOST : Nat := 0xc0048
def Reg.NOC_HIST_LOST_CLR : Nat := 0xc004c
def Reg.NOC_HIST (p : Nat) : Nat := 0xc0400 + 0x10 * p
def Reg.NOC_HIST_PN (p : Nat) : Nat := 0xc0404 + 0x10 * p
def Reg.NOC_HIST_FT_LO (p : Nat) : Nat := 0xc0408 + 0x10 * p
def Reg.NOC_HIST_FT_HI (p : Nat) : Nat := 0xc040c + 0x10 * p
def Reg.NOC_CNT (p : Nat) : Nat := 0xc0060 + 0x8 * p
def Reg.NOC_CNT_CLR (p : Nat) : Nat := 0xc0064 + 0x8 * p
def Reg.NOC_RT_IDX : Nat := 0xc0100
def Reg.NOC_RT_DATA (p : Nat) : Nat := 0xc0104 + 0x4 * p
def Reg.NOC_RT_DATA3 : Nat := 0xc0110
def Reg.NOC_FI_CTRL : Nat := 0xc0f00
def Reg.NOC_FI_ADDR : Nat := 0xc0f04

def Reg.XCH_DEV_ID : Nat := 0xd0000
def Reg.XCH_STAT : Nat := 0xd0004
def Reg.XCH_OVF : Nat := 0xd0008
def Reg.XCH_FIRST_CAUSE : Nat := 0xd0020
def Reg.XCH_FIRST_LOC : Nat := 0xd0024
def Reg.XCH_FIRST_PN_LO : Nat := 0xd0028
def Reg.XCH_FIRST_PN_HI : Nat := 0xd002c
def Reg.XCH_FIRST_FT_LO : Nat := 0xd0030
def Reg.XCH_FIRST_FT_HI : Nat := 0xd0034
def Reg.XCH_MERGED : Nat := 0xd0038
def Reg.XCH_FIRST_ACK : Nat := 0xd003c
def Reg.XCH_HIST_PTR : Nat := 0xd0080
def Reg.XCH_HIST_ACK : Nat := 0xd0084
def Reg.XCH_HIST_LOST : Nat := 0xd0088
def Reg.XCH_HIST_LOST_CLR : Nat := 0xd008c
def Reg.XCH_HIST (p : Nat) : Nat := 0xd0400 + 0x10 * p
def Reg.XCH_HIST_PN (p : Nat) : Nat := 0xd0404 + 0x10 * p
def Reg.XCH_HIST_FT_LO (p : Nat) : Nat := 0xd0408 + 0x10 * p
def Reg.XCH_HIST_FT_HI (p : Nat) : Nat := 0xd040c + 0x10 * p
def Reg.XCH_CNT (p : Nat) : Nat := 0xd0040 + 0x8 * p
def Reg.XCH_CNT_CLR (p : Nat) : Nat := 0xd0044 + 0x8 * p
def Reg.XCH_CE_BUCKET : Nat := 0xd0090
def Reg.XCH_XT_IDX : Nat := 0xd0100
def Reg.XCH_XT_DATA_LO : Nat := 0xd0104
def Reg.XCH_XT_DATA_HI : Nat := 0xd0108
def Reg.XCH_RGN_CFG (p : Nat) : Nat := 0xd0200 + 0x20 * p
def Reg.XCH_RGN_STAT (p : Nat) : Nat := 0xd0204 + 0x20 * p
def Reg.XCH_RGN_SWAP_PN_LO (p : Nat) : Nat := 0xd0208 + 0x20 * p
def Reg.XCH_RGN_SWAP_PN_HI (p : Nat) : Nat := 0xd020c + 0x20 * p
def Reg.XCH_FI_CTRL : Nat := 0xd0f00
def Reg.XCH_FI_ADDR : Nat := 0xd0f04

def Reg.MON_CFG : Nat := 0xe0000
def Reg.MON_STAT : Nat := 0xe0004
def Reg.MON_CTRL : Nat := 0xe0008

def Reg.LNK_LANE_CTRL (p q : Nat) : Nat := 0x100000 + 0x2000 * p + 0x200 * q
def Reg.LNK_LANE_STAT (p q : Nat) : Nat := 0x100004 + 0x2000 * p + 0x200 * q
def Reg.LNK_LANE_TEST (p q : Nat) : Nat := 0x100008 + 0x2000 * p + 0x200 * q
def Reg.LNK_LANE_OVF (p q : Nat) : Nat := 0x10000c + 0x2000 * p + 0x200 * q
def Reg.LNK_LANE_CE_BUCKET (p q : Nat) : Nat := 0x100010 + 0x2000 * p + 0x200 * q
def Reg.LNK_LANE_SYMCE (p q : Nat) : Nat := 0x100020 + 0x2000 * p + 0x200 * q
def Reg.LNK_LANE_SYMCE_CLR (p q : Nat) : Nat := 0x100024 + 0x2000 * p + 0x200 * q
def Reg.LNK_LANE_FECUE (p q : Nat) : Nat := 0x100028 + 0x2000 * p + 0x200 * q
def Reg.LNK_LANE_FECUE_CLR (p q : Nat) : Nat := 0x10002c + 0x2000 * p + 0x200 * q
def Reg.LNK_LANE_BADTYPE (p q : Nat) : Nat := 0x100030 + 0x2000 * p + 0x200 * q
def Reg.LNK_LANE_BADTYPE_CLR (p q : Nat) : Nat := 0x100034 + 0x2000 * p + 0x200 * q
def Reg.LNK_LANE_PRBS_ERR (p q : Nat) : Nat := 0x100038 + 0x2000 * p + 0x200 * q
def Reg.LNK_LANE_PRBS_ERR_CLR (p q : Nat) : Nat := 0x10003c + 0x2000 * p + 0x200 * q
def Reg.LNK_LANE_PRBS_BITS_LO (p q : Nat) : Nat := 0x100040 + 0x2000 * p + 0x200 * q
def Reg.LNK_LANE_PRBS_BITS_HI (p q : Nat) : Nat := 0x100044 + 0x2000 * p + 0x200 * q
def Reg.LNK_LANE_PRBS_BITS_CLR (p q : Nat) : Nat := 0x100048 + 0x2000 * p + 0x200 * q
def Reg.LNK_TX_CORR (p q : Nat) : Nat := 0x100050 + 0x2000 * p + 0x200 * q
def Reg.LNK_RX_CORR (p q : Nat) : Nat := 0x100054 + 0x2000 * p + 0x200 * q
def Reg.LNK_LAT (p : Nat) : Nat := 0x101800 + 0x2000 * p
def Reg.LNK_ALAT (p : Nat) : Nat := 0x101804 + 0x2000 * p
def Reg.LNK_NBR_ID (p : Nat) : Nat := 0x101808 + 0x2000 * p
def Reg.LNK_PORT_CTRL (p : Nat) : Nat := 0x101810 + 0x2000 * p
def Reg.LNK_PORT_STAT (p : Nat) : Nat := 0x101814 + 0x2000 * p
def Reg.LNK_PORT_VER (p : Nat) : Nat := 0x101820 + 0x2000 * p
def Reg.LNK_PORT_TXMAP (p : Nat) : Nat := 0x101818 + 0x2000 * p
def Reg.LNK_PORT_RXMAP (p : Nat) : Nat := 0x10181c + 0x2000 * p
def Reg.LNK_PORT_SLIP (p : Nat) : Nat := 0x101824 + 0x2000 * p
def Reg.LNK_PORT_SLIP_CLR (p : Nat) : Nat := 0x101828 + 0x2000 * p
def Reg.LNK_EVT : Nat := 0x120000
def Reg.LNK_OVF : Nat := 0x120004
def Reg.LNK_FIRST_CAUSE : Nat := 0x120010
def Reg.LNK_FIRST_LOC : Nat := 0x120014
def Reg.LNK_FIRST_PN_LO : Nat := 0x120018
def Reg.LNK_FIRST_PN_HI : Nat := 0x12001c
def Reg.LNK_FIRST_FT_LO : Nat := 0x120020
def Reg.LNK_FIRST_FT_HI : Nat := 0x120024
def Reg.LNK_MERGED : Nat := 0x120028
def Reg.LNK_FIRST_ACK : Nat := 0x12002c
def Reg.LNK_HIST_PTR : Nat := 0x120040
def Reg.LNK_HIST_ACK : Nat := 0x120044
def Reg.LNK_HIST_LOST : Nat := 0x120048
def Reg.LNK_HIST_LOST_CLR : Nat := 0x12004c
def Reg.LNK_HIST (p : Nat) : Nat := 0x120400 + 0x10 * p
def Reg.LNK_HIST_PN (p : Nat) : Nat := 0x120404 + 0x10 * p
def Reg.LNK_HIST_FT_LO (p : Nat) : Nat := 0x120408 + 0x10 * p
def Reg.LNK_HIST_FT_HI (p : Nat) : Nat := 0x12040c + 0x10 * p
def Reg.LNK_FI_CTRL : Nat := 0x120f00
def Reg.LNK_FI_ADDR : Nat := 0x120f04

def Reg.FUR_ID (p : Nat) : Nat := 0x1000000 + 0x1000 * p
def Reg.FUR_CFG (p : Nat) : Nat := 0x1000004 + 0x1000 * p
def Reg.FUR_STAT (p : Nat) : Nat := 0x1000010 + 0x1000 * p
def Reg.FUR_OVF (p : Nat) : Nat := 0x1000014 + 0x1000 * p
def Reg.FUR_CE_CNT (p : Nat) : Nat := 0x1000050 + 0x1000 * p
def Reg.FUR_CE_CNT_CLR (p : Nat) : Nat := 0x1000054 + 0x1000 * p
def Reg.FUR_CE_BUCKET (p : Nat) : Nat := 0x1000058 + 0x1000 * p
def Reg.FUR_UNDO_STAT (p : Nat) : Nat := 0x1000060 + 0x1000 * p
def Reg.FUR_HAZ_FIRST (p : Nat) : Nat := 0x1000064 + 0x1000 * p
def Reg.FUR_HAZ_CNT (p : Nat) : Nat := 0x1000068 + 0x1000 * p
def Reg.FUR_HAZ_CLR (p : Nat) : Nat := 0x100006c + 0x1000 * p
def Reg.FUR_FIRST_CAUSE (p : Nat) : Nat := 0x1000020 + 0x1000 * p
def Reg.FUR_FIRST_LOC (p : Nat) : Nat := 0x1000024 + 0x1000 * p
def Reg.FUR_FIRST_PN_LO (p : Nat) : Nat := 0x1000028 + 0x1000 * p
def Reg.FUR_FIRST_PN_HI (p : Nat) : Nat := 0x100002c + 0x1000 * p
def Reg.FUR_FIRST_FT_LO (p : Nat) : Nat := 0x1000030 + 0x1000 * p
def Reg.FUR_FIRST_FT_HI (p : Nat) : Nat := 0x1000034 + 0x1000 * p
def Reg.FUR_MERGED (p : Nat) : Nat := 0x1000038 + 0x1000 * p
def Reg.FUR_FIRST_ACK (p : Nat) : Nat := 0x100003c + 0x1000 * p
def Reg.FUR_HIST_PTR (p : Nat) : Nat := 0x1000040 + 0x1000 * p
def Reg.FUR_HIST_ACK (p : Nat) : Nat := 0x1000044 + 0x1000 * p
def Reg.FUR_HIST_LOST (p : Nat) : Nat := 0x1000048 + 0x1000 * p
def Reg.FUR_HIST_LOST_CLR (p : Nat) : Nat := 0x100004c + 0x1000 * p
def Reg.FUR_HIST (p q : Nat) : Nat := 0x1000400 + 0x1000 * p + 0x10 * q
def Reg.FUR_HIST_PN (p q : Nat) : Nat := 0x1000404 + 0x1000 * p + 0x10 * q
def Reg.FUR_HIST_FT_LO (p q : Nat) : Nat := 0x1000408 + 0x1000 * p + 0x10 * q
def Reg.FUR_HIST_FT_HI (p q : Nat) : Nat := 0x100040c + 0x1000 * p + 0x10 * q
def Reg.FUR_FIO_IN (p q : Nat) : Nat := 0x1000100 + 0x1000 * p + 0x4 * q
def Reg.FUR_FIO_OUT (p q : Nat) : Nat := 0x1000180 + 0x1000 * p + 0x4 * q
def Reg.FUR_FI_CTRL (p : Nat) : Nat := 0x1000f00 + 0x1000 * p
def Reg.FUR_FI_ADDR (p : Nat) : Nat := 0x1000f04 + 0x1000 * p

def Reg.FUR_MAP (p : Nat) : Nat := 0x1210000 + 0x4 * p
def Reg.FUR_ACRE_SPARE (p : Nat) : Nat := 0x1210800 + 0x4 * p
def Reg.FUR_GATE (p : Nat) : Nat := 0x1211000 + 0x4 * p
def Reg.FUR_SW_STAT (p : Nat) : Nat := 0x1212000 + 0x800 * p
def Reg.FUR_SW_OVF (p : Nat) : Nat := 0x1212004 + 0x800 * p
def Reg.FUR_SW_CE_CNT (p : Nat) : Nat := 0x1212008 + 0x800 * p
def Reg.FUR_SW_CE_CNT_CLR (p : Nat) : Nat := 0x121200c + 0x800 * p
def Reg.FUR_SW_CE_BUCKET (p : Nat) : Nat := 0x1212010 + 0x800 * p
def Reg.FUR_SW_FIRST_CAUSE (p : Nat) : Nat := 0x1212020 + 0x800 * p
def Reg.FUR_SW_FIRST_LOC (p : Nat) : Nat := 0x1212024 + 0x800 * p
def Reg.FUR_SW_FIRST_PN_LO (p : Nat) : Nat := 0x1212028 + 0x800 * p
def Reg.FUR_SW_FIRST_PN_HI (p : Nat) : Nat := 0x121202c + 0x800 * p
def Reg.FUR_SW_FIRST_FT_LO (p : Nat) : Nat := 0x1212030 + 0x800 * p
def Reg.FUR_SW_FIRST_FT_HI (p : Nat) : Nat := 0x1212034 + 0x800 * p
def Reg.FUR_SW_MERGED (p : Nat) : Nat := 0x1212038 + 0x800 * p
def Reg.FUR_SW_FIRST_ACK (p : Nat) : Nat := 0x121203c + 0x800 * p
def Reg.FUR_SW_HIST_PTR (p : Nat) : Nat := 0x1212040 + 0x800 * p
def Reg.FUR_SW_HIST_ACK (p : Nat) : Nat := 0x1212044 + 0x800 * p
def Reg.FUR_SW_HIST_LOST (p : Nat) : Nat := 0x1212048 + 0x800 * p
def Reg.FUR_SW_HIST_LOST_CLR (p : Nat) : Nat := 0x121204c + 0x800 * p
def Reg.FUR_SW_HIST (p q : Nat) : Nat := 0x1212400 + 0x800 * p + 0x10 * q
def Reg.FUR_SW_HIST_PN (p q : Nat) : Nat := 0x1212404 + 0x800 * p + 0x10 * q
def Reg.FUR_SW_HIST_FT_LO (p q : Nat) : Nat := 0x1212408 + 0x800 * p + 0x10 * q
def Reg.FUR_SW_HIST_FT_HI (p q : Nat) : Nat := 0x121240c + 0x800 * p + 0x10 * q
def Reg.FUR_SW_TRUNK (p q : Nat) : Nat := 0x1212100 + 0x800 * p + 0x4 * q
def Reg.FUR_SW_FI_CTRL (p : Nat) : Nat := 0x1212700 + 0x800 * p
def Reg.FUR_SW_FI_ADDR (p : Nat) : Nat := 0x1212704 + 0x800 * p

def Reg.QCF_SQ_BASE_LO (p : Nat) : Nat := 0x2000000 + 0x40 * p
def Reg.QCF_SQ_BASE_HI (p : Nat) : Nat := 0x2000004 + 0x40 * p
def Reg.QCF_CQ_BASE_LO (p : Nat) : Nat := 0x2000008 + 0x40 * p
def Reg.QCF_CQ_BASE_HI (p : Nat) : Nat := 0x200000c + 0x40 * p
def Reg.QCF_SIZE (p : Nat) : Nat := 0x2000010 + 0x40 * p
def Reg.QCF_CTRL (p : Nat) : Nat := 0x2000014 + 0x40 * p
def Reg.QCF_INT (p : Nat) : Nat := 0x2000018 + 0x40 * p
def Reg.QCF_STAT (p : Nat) : Nat := 0x200001c + 0x40 * p
def Reg.QCF_FWD (p : Nat) : Nat := 0x2000024 + 0x40 * p
def Reg.QCF_ALIVE (p : Nat) : Nat := 0x2000020 + 0x40 * p
def Reg.QCF_FWD_ROUTE (p q : Nat) : Nat := 0x2000028 + 0x40 * p + 0x4 * q
def Reg.QCF_FWD_CFG (p : Nat) : Nat := 0x2000034 + 0x40 * p
def Reg.QCF_INFLIGHT (p : Nat) : Nat := 0x2000038 + 0x40 * p

/-- Registers of block DEV. -/
def regRowsDEV : List RegRow := [
  -- DEV_ID (R512): PART VENDOR
  ⟨0x0, [], .identity, [⟨16, 16, .ro, 0x9600⟩, ⟨0, 16, .ro, 0x1f5a⟩]⟩,
  -- DEV_REV (R512): DIE_REV GRADE PKG STEP_MHZ
  ⟨0x4, [], .identity, [⟨16, 4, .ro, 0⟩, ⟨14, 2, .ro, 0⟩, ⟨12, 2, .ro, 1⟩, ⟨0, 12, .ro, 0⟩]⟩,
  -- DEV_FUNC (R512): PF FUNC LINK VF BIF
  ⟨0x8, [], .identity, [⟨31, 1, .ro, 0⟩, ⟨22, 6, .ro, 0⟩, ⟨20, 2, .ro, 0⟩, ⟨16, 4, .ro, 0⟩, ⟨14, 2, .ro, 0⟩]⟩,
  -- DEV_STAT (R512): DENIED UNMAPPED BAD_ACCESS RSVD_WRITE
  ⟨0xc, [], .identity, [⟨3, 1, .w1c, 0⟩, ⟨2, 1, .w1c, 0⟩, ⟨1, 1, .w1c, 0⟩, ⟨0, 1, .w1c, 0⟩]⟩,
  -- DEV_SERIAL (R512): BYTES
  ⟨0x10, [(4, 0x4)], .identity, [⟨0, 32, .ro, 0⟩]⟩,
  -- DEV_VER (R512): VERSIONS
  ⟨0x20, [], .identity, [⟨4, 28, .ro, 0⟩]⟩,
  -- DEV_SCRATCH (R512): VALUE
  ⟨0x24, [], .identity, [⟨0, 32, .rw, 0⟩]⟩,
  -- DEV_CAP0 (R512): CAP
  ⟨0x30, [], .identity, [⟨0, 32, .ro, 0x2004480⟩]⟩,
  -- DEV_CAP1 (R512): CAP
  ⟨0x34, [], .identity, [⟨0, 32, .ro, 0x109c2020⟩]⟩,
  -- DEV_CAP2 (R512): CAP
  ⟨0x38, [], .identity, [⟨0, 32, .ro, 0x40406000⟩]⟩,
  -- DEV_CAP3 (R512): CAP
  ⟨0x3c, [], .identity, [⟨0, 32, .ro, 0x10000800⟩]⟩,
  -- DEV_CAP4 (R512): CAP
  ⟨0x40, [], .identity, [⟨0, 32, .ro, 0x10400410⟩]⟩,
  -- DEV_CAP5 (R512): CAP
  ⟨0x44, [], .identity, [⟨0, 32, .ro, 0x10000⟩]⟩,
  -- DEV_CAP6 (R512): CAP
  ⟨0x48, [], .identity, [⟨0, 32, .ro, 0x10000200⟩]⟩]

/-- Registers of block CRP. -/
def regRowsCRP : List RegRow := [
  -- CRP_STAT (R491): REFCLK_LOST HBM_PLL_LOCK LANE_PLL_LOCK STEP_PLL_LOCK THERM_HARD_HIT
  ⟨0x10000, [], .device, [⟨4, 1, .w1c, 0⟩, ⟨3, 1, .ro, 0⟩, ⟨2, 1, .ro, 0⟩, ⟨1, 1, .ro, 0⟩, ⟨0, 1, .w1c, 0⟩]⟩,
  -- CRP_PWR_STAT (R491): STATE FORCED LAST_US
  ⟨0x10004, [], .device, [⟨28, 4, .ro, 0⟩, ⟨27, 1, .ro, 0⟩, ⟨0, 16, .ro, 0⟩]⟩,
  -- CRP_THERM_CFG (R491): SOFT HARD
  ⟨0x10008, [], .device, [⟨24, 8, .rw, 0x5f⟩, ⟨16, 8, .rw, 0x69⟩]⟩,
  -- CRP_THERM_STAT (R491): TMAX HOT LEVEL
  ⟨0x1000c, [], .device, [⟨16, 16, .ro, 0⟩, ⟨10, 6, .ro, 0⟩, ⟨6, 4, .ro, 0⟩]⟩,
  -- CRP_RST_CAUSE (R491): TRIP CAUSE
  ⟨0x10010, [], .device, [⟨31, 1, .w1c, 0⟩, ⟨0, 4, .ro, 0⟩]⟩,
  -- CRP_DEV_RESET (R491): KEY
  ⟨0x10014, [], .device, [⟨24, 8, .wo, 0⟩]⟩,
  -- CRP_TEMP (R491): VALID TEMP
  ⟨0x10100, [(64, 0x4)], .device, [⟨31, 1, .ro, 0⟩, ⟨0, 16, .ro, 0⟩]⟩]

/-- Registers of block FT. -/
def regRowsFT : List RegRow := [
  -- FT_CFG (R292): PRIO TC SYNC_INT PPS_SRC PPS_OUT_EN
  ⟨0x20000, [], .device, [⟨24, 8, .rw, 0x80⟩, ⟨20, 4, .rw, 3⟩, ⟨12, 8, .rw, 0xa⟩, ⟨11, 1, .rw, 0⟩, ⟨10, 1, .rw, 0⟩]⟩,
  -- FT_STAT (R292): STATE PARENT PARENT_VALID JUMP_REFUSED ADJ_CLAMP PARENT_LOST GM_CHANGE PPS_MISS JUMP_OVF OUTLIER_OVF HOPS
  ⟨0x20004, [], .time, [⟨28, 4, .ro, 0⟩, ⟨24, 4, .ro, 0⟩, ⟨23, 1, .ro, 0⟩, ⟨22, 1, .w1c, 0⟩, ⟨21, 1, .w1c, 0⟩, ⟨20, 1, .w1c, 0⟩, ⟨19, 1, .w1c, 0⟩, ⟨18, 1, .w1c, 0⟩, ⟨17, 1, .ro, 0⟩, ⟨16, 1, .ro, 0⟩, ⟨8, 8, .ro, 0xff⟩]⟩,
  -- FT_NS_LO (R292): VALUE
  ⟨0x20008, [], .time, [⟨0, 32, .ro, 0⟩]⟩,
  -- FT_NS_HI (R292): VALUE
  ⟨0x2000c, [], .time, [⟨0, 32, .ro, 0⟩]⟩,
  -- FT_FRAC (R292): VALUE
  ⟨0x20010, [], .time, [⟨0, 32, .ro, 0⟩]⟩,
  -- FT_ADJ (R292): VALUE
  ⟨0x20014, [], .device, [⟨0, 32, .ro, 0⟩]⟩,
  -- FT_OFFSET (R292): VALUE
  ⟨0x20018, [], .device, [⟨0, 32, .ro, 0⟩]⟩,
  -- FT_DELAY (R292): VALUE
  ⟨0x2001c, [], .device, [⟨0, 32, .ro, 0⟩]⟩,
  -- FT_JUMP_LIMIT (R292): LIMIT
  ⟨0x20020, [], .device, [⟨0, 20, .rw, 0x64⟩]⟩,
  -- FT_GM (R292): GMPRIO GMID
  ⟨0x20024, [], .device, [⟨24, 8, .ro, 0⟩, ⟨0, 18, .ro, 0⟩]⟩,
  -- FT_PPS_STAMP_LO (R292): VALUE
  ⟨0x20028, [], .device, [⟨0, 32, .ro, 0⟩]⟩,
  -- FT_PPS_STAMP_HI (R292): VALUE
  ⟨0x2002c, [], .device, [⟨0, 32, .ro, 0⟩]⟩,
  -- FT_PPS_OFS (R292): VALUE
  ⟨0x20030, [], .device, [⟨0, 32, .rw, 0⟩]⟩,
  -- FT_PPS_OUT (R292): WIDTH
  ⟨0x20034, [], .device, [⟨24, 8, .rw, 0x64⟩]⟩,
  -- FT_PPS_OUT_OFS (R292): OFS
  ⟨0x20038, [], .device, [⟨0, 30, .rw, 0⟩]⟩,
  -- FT_OUTLIER_CNT (R292): COUNT
  ⟨0x20040, [], .device, [⟨0, 32, .ros, 0⟩]⟩,
  -- FT_OUTLIER_CNT_CLR (R292): CLR
  ⟨0x20044, [], .device, [⟨0, 32, .wo, 0⟩]⟩,
  -- FT_JUMP_CNT (R292): COUNT
  ⟨0x20048, [], .device, [⟨0, 32, .ros, 0⟩]⟩,
  -- FT_JUMP_CNT_CLR (R292): CLR
  ⟨0x2004c, [], .device, [⟨0, 32, .wo, 0⟩]⟩]

/-- Registers of block CMD, part 0. -/
def regRowsCMD0 : List RegRow := [
  -- CMD_CFG (R388): FWD_ACCEPT
  ⟨0x30000, [], .device, [⟨31, 1, .rw, 0⟩]⟩,
  -- CMD_STAT (R388): FWD_LOST MS_FULL DB_REFUSED QRANGE_BAD
  ⟨0x30004, [], .device, [⟨3, 1, .w1c, 0⟩, ⟨2, 1, .w1c, 0⟩, ⟨1, 1, .w1c, 0⟩, ⟨0, 1, .w1c, 0⟩]⟩,
  -- CMD_OVF (R388): C0 C1 C2 C3 MERGED_OVF LOST_OVF
  ⟨0x30008, [], .device, [⟨0, 1, .ro, 0⟩, ⟨1, 1, .ro, 0⟩, ⟨2, 1, .ro, 0⟩, ⟨3, 1, .ro, 0⟩, ⟨8, 1, .ro, 0⟩, ⟨9, 1, .ro, 0⟩]⟩,
  -- CMD_MS_STAT (R388): INUSE
  ⟨0x30010, [], .device, [⟨0, 17, .ro, 0⟩]⟩,
  -- CMD_FIRST_CAUSE (R388): VALID CAUSE
  ⟨0x30020, [], .device, [⟨31, 1, .ro, 0⟩, ⟨0, 5, .ro, 0⟩]⟩,
  -- CMD_FIRST_LOC (R388): QP
  ⟨0x30024, [], .device, [⟨0, 12, .ro, 0⟩]⟩,
  -- CMD_FIRST_PN_LO (R388): VALUE
  ⟨0x30028, [], .device, [⟨0, 32, .ro, 0⟩]⟩,
  -- CMD_FIRST_PN_HI (R388): VALUE
  ⟨0x3002c, [], .device, [⟨0, 32, .ro, 0⟩]⟩,
  -- CMD_FIRST_FT_LO (R388): VALUE
  ⟨0x30030, [], .device, [⟨0, 32, .ro, 0⟩]⟩,
  -- CMD_FIRST_FT_HI (R388): VALUE
  ⟨0x30034, [], .device, [⟨0, 32, .ro, 0⟩]⟩,
  -- CMD_MERGED (R388): COUNT
  ⟨0x30038, [], .device, [⟨0, 32, .ros, 0⟩]⟩,
  -- CMD_FIRST_ACK (R388): CLR
  ⟨0x3003c, [], .device, [⟨0, 32, .wo, 0⟩]⟩,
  -- CMD_HIST_PTR (R388): UNREAD NEWEST
  ⟨0x30040, [], .device, [⟨16, 5, .ro, 0⟩, ⟨0, 4, .ro, 0⟩]⟩,
  -- CMD_HIST_ACK (R388): N
  ⟨0x30044, [], .device, [⟨0, 5, .wo, 0⟩]⟩,
  -- CMD_HIST_LOST (R388): COUNT
  ⟨0x30048, [], .device, [⟨0, 32, .ros, 0⟩]⟩,
  -- CMD_HIST_LOST_CLR (R388): CLR
  ⟨0x3004c, [], .device, [⟨0, 32, .wo, 0⟩]⟩,
  -- CMD_HIST (R388): REPEAT MIXED CAUSE LOC
  ⟨0x30400, [(16, 0x10)], .device, [⟨24, 8, .ro, 0⟩, ⟨23, 1, .ro, 0⟩, ⟨18, 5, .ro, 0⟩, ⟨0, 18, .ro, 0⟩]⟩,
  -- CMD_HIST_PN (R388): VALUE
  ⟨0x30404, [(16, 0x10)], .device, [⟨0, 32, .ro, 0⟩]⟩,
  -- CMD_HIST_FT_LO (R388): VALUE
  ⟨0x30408, [(16, 0x10)], .device, [⟨0, 32, .ro, 0⟩]⟩,
  -- CMD_HIST_FT_HI (R388): VALUE
  ⟨0x3040c, [(16, 0x10)], .device, [⟨0, 32, .ro, 0⟩]⟩,
  -- CMD_CNT (R388): COUNT
  ⟨0x30060, [(4, 0x8)], .device, [⟨0, 32, .ros, 0⟩]⟩,
  -- CMD_CNT_CLR (R388): CLR
  ⟨0x30064, [(4, 0x8)], .device, [⟨0, 32, .wo, 0⟩]⟩,
  -- CMD_FUNC_Q (R388): QCNT QBASE
  ⟨0x30100, [(64, 0x8)], .function, [⟨16, 13, .rw, 0⟩, ⟨0, 12, .rw, 0⟩]⟩,
  -- CMD_FUNC_CFG (R388): NEG_MAJOR NEG_MINOR NEG_DONE PRIO_MAX QUOTA
  ⟨0x30104, [(64, 0x8)], .function, [⟨28, 4, .ro, 0⟩, ⟨24, 4, .ro, 0⟩, ⟨23, 1, .ro, 0⟩, ⟨20, 3, .rw, 0⟩, ⟨0, 17, .rw, 0⟩]⟩]

/-- Registers of block CMD, part 1. -/
def regRowsCMD1 : List RegRow := [
  -- CMD_INT_DEV (R473): EN VEC
  ⟨0x30804, [(15, 0x4)], .device, [⟨31, 1, .rw, 0⟩, ⟨0, 11, .rw, 0⟩]⟩,
  -- CMD_INT_PEND (R473): PEND
  ⟨0x30840, [], .device, [⟨1, 15, .w1c, 0⟩]⟩,
  -- CMD_FLT_SUM (R473): VALID
  ⟨0x30844, [], .device, [⟨1, 15, .ro, 0⟩]⟩,
  -- CMD_FI_CTRL (R471): ARM DONE KIND CAUSE
  ⟨0x30f00, [], .device, [⟨31, 1, .rw, 0⟩, ⟨30, 1, .w1c, 0⟩, ⟨28, 2, .rw, 0⟩, ⟨23, 5, .rw, 0⟩]⟩,
  -- CMD_FI_ADDR (R471): ADDR
  ⟨0x30f04, [], .device, [⟨0, 32, .rw, 0⟩]⟩]

/-- Registers of block PLT, part 0. -/
def regRowsPLT0 : List RegRow := [
  -- PLT_ID (R423): EXISTS ZEROING OWNER PTAG
  ⟨0x40000, [(16, 0x400)], .plot, [⟨31, 1, .ro, 0⟩, ⟨30, 1, .ro, 0⟩, ⟨16, 6, .ro, 0⟩, ⟨0, 16, .ro, 0⟩]⟩,
  -- PLT_FALLOW (R423): STATE SAVE_PAGES FURROWS
  ⟨0x40004, [(16, 0x400)], .plot, [⟨28, 4, .ro, 0⟩, ⟨16, 10, .ro, 0⟩, ⟨0, 10, .ro, 0⟩]⟩,
  -- PLT_PAGES (R423): LIFTED ENTRIES
  ⟨0x40008, [(16, 0x400)], .plot, [⟨16, 15, .ro, 0⟩, ⟨0, 15, .ro, 0⟩]⟩,
  -- PLT_PASS_CFG (R41): L VWIN DLAG
  ⟨0x40080, [(16, 0x400)], .plot, [⟨16, 11, .rwl, 0⟩, ⟨8, 8, .rwl, 0⟩, ⟨0, 3, .rwl, 0⟩]⟩,
  -- PLT_HL_CFG (R41): REF_EN K SLICE HOST_LVL
  ⟨0x40084, [(16, 0x400)], .plot, [⟨31, 1, .rwl, 0⟩, ⟨16, 8, .ro, 0⟩, ⟨8, 6, .rwl, 0⟩, ⟨0, 4, .rw, 0⟩]⟩,
  -- PLT_HL_STAT (R41): H_LAST STRETCH_LAST THERM_LVL REF_LAST REPLAY_LAST STAKE_LAST REFRESH_OVF STRETCH_OVF
  ⟨0x40088, [(16, 0x400)], .plot, [⟨16, 16, .ro, 0⟩, ⟨12, 4, .ro, 0⟩, ⟨8, 4, .ro, 0⟩, ⟨7, 1, .ro, 0⟩, ⟨6, 1, .ro, 0⟩, ⟨5, 1, .ro, 0⟩, ⟨1, 1, .ro, 0⟩, ⟨0, 1, .ro, 0⟩]⟩,
  -- PLT_REF_REMAIN (R41): REMAIN
  ⟨0x4008c, [(16, 0x400)], .plot, [⟨0, 16, .ro, 0⟩]⟩,
  -- PLT_PN_LO (R41): VALUE
  ⟨0x40090, [(16, 0x400)], .plot, [⟨0, 32, .ro, 0⟩]⟩,
  -- PLT_PN_HI (R41): VALUE
  ⟨0x40094, [(16, 0x400)], .plot, [⟨0, 32, .ro, 0⟩]⟩,
  -- PLT_CPN_LO (R41): VALUE
  ⟨0x40098, [(16, 0x400)], .plot, [⟨0, 32, .ro, 0⟩]⟩,
  -- PLT_CPN_HI (R41): VALUE
  ⟨0x4009c, [(16, 0x400)], .plot, [⟨0, 32, .ro, 0⟩]⟩,
  -- PLT_STRETCH_CNT (R41): COUNT
  ⟨0x400a0, [(16, 0x400)], .plot, [⟨0, 32, .ros, 0⟩]⟩,
  -- PLT_REFRESH_CNT (R41): COUNT
  ⟨0x400a4, [(16, 0x400)], .plot, [⟨0, 32, .ros, 0⟩]⟩,
  -- PLT_STRETCH_CNT_CLR (R41): CLR
  ⟨0x400a8, [(16, 0x400)], .plot, [⟨0, 32, .wo, 0⟩]⟩,
  -- PLT_REFRESH_CNT_CLR (R41): CLR
  ⟨0x400ac, [(16, 0x400)], .plot, [⟨0, 32, .wo, 0⟩]⟩,
  -- PLT_EVAL_CFG (R77): HAZ_STOP DEBUG XDEF
  ⟨0x400b0, [(16, 0x400)], .plot, [⟨5, 1, .rw, 0⟩, ⟨4, 1, .rwl, 0⟩, ⟨0, 2, .rwl, 2⟩]⟩,
  -- PLT_SW_STAT (R129): SWAP_LATE OLD_HELD SWAP_PEND ACTIVE
  ⟨0x400c0, [(16, 0x400)], .plot, [⟨3, 1, .w1c, 0⟩, ⟨2, 1, .ro, 0⟩, ⟨1, 1, .ro, 0⟩, ⟨0, 1, .ro, 0⟩]⟩,
  -- PLT_SW_SWAP_PN_LO (R129): VALUE
  ⟨0x400c4, [(16, 0x400)], .plot, [⟨0, 32, .ro, 0⟩]⟩,
  -- PLT_SW_SWAP_PN_HI (R129): VALUE
  ⟨0x400c8, [(16, 0x400)], .plot, [⟨0, 32, .ro, 0⟩]⟩,
  -- PLT_MEM_CFG (R156): POISON_HALT GRAIN NCH MEM_PAD
  ⟨0x400d0, [(16, 0x400)], .plot, [⟨28, 1, .rw, 0⟩, ⟨24, 4, .rwl, 0⟩, ⟨16, 7, .rwl, 0⟩, ⟨0, 10, .rwl, 0⟩]⟩,
  -- PLT_MEM_STAT (R156): POISON_OVF DATA_LOSS WQ_OVF LATE
  ⟨0x400d4, [(16, 0x400)], .plot, [⟨3, 1, .ro, 0⟩, ⟨2, 1, .w1c, 0⟩, ⟨1, 1, .w1c, 0⟩, ⟨0, 1, .w1c, 0⟩]⟩,
  -- PLT_CMT_CFG (R218): EXPOSE_HALT RECOV_EN REPLAY_LIMIT
  ⟨0x400e0, [(16, 0x400)], .plot, [⟨8, 1, .rw, 0⟩, ⟨4, 1, .rwl, 1⟩, ⟨0, 4, .rwl, 3⟩]⟩,
  -- PLT_CMT_STAT (R218): STATE RECOVER_OVF REPLAY_OVF SUPPRESS RECOV_FAIL RECOVERED HEALED PERSISTENT EXPOSED DIVERGENCE
  ⟨0x400e4, [(16, 0x400)], .plot, [⟨28, 4, .ro, 0⟩, ⟨9, 1, .ro, 0⟩, ⟨8, 1, .ro, 0⟩, ⟨7, 1, .ro, 0⟩, ⟨6, 1, .w1c, 0⟩, ⟨5, 1, .w1c, 0⟩, ⟨4, 1, .w1c, 0⟩, ⟨3, 1, .w1c, 0⟩, ⟨2, 1, .w1c, 0⟩, ⟨1, 1, .w1c, 0⟩]⟩,
  -- PLT_CMT_FAIL (R218): RETRY
  ⟨0x400e8, [(16, 0x400)], .plot, [⟨0, 4, .ro, 0⟩]⟩]

/-- Registers of block PLT, part 1. -/
def regRowsPLT1 : List RegRow := [
  -- PLT_FAIL_PN_LO (R218): VALUE
  ⟨0x400ec, [(16, 0x400)], .plot, [⟨0, 32, .ro, 0⟩]⟩,
  -- PLT_FAIL_PN_HI (R218): VALUE
  ⟨0x400f0, [(16, 0x400)], .plot, [⟨0, 32, .ro, 0⟩]⟩,
  -- PLT_REPLAY_CNT (R218): COUNT
  ⟨0x400f4, [(16, 0x400)], .plot, [⟨0, 32, .ros, 0⟩]⟩,
  -- PLT_REPLAY_CNT_CLR (R218): CLR
  ⟨0x400f8, [(16, 0x400)], .plot, [⟨0, 32, .wo, 0⟩]⟩,
  -- PLT_RECOVER_CNT (R218): COUNT
  ⟨0x400fc, [(16, 0x400)], .plot, [⟨0, 32, .ros, 0⟩]⟩,
  -- PLT_RECOVER_CNT_CLR (R218): CLR
  ⟨0x40100, [(16, 0x400)], .plot, [⟨0, 32, .wo, 0⟩]⟩,
  -- PLT_RECOVER_LAST (R218): PAUSE_US
  ⟨0x40104, [(16, 0x400)], .plot, [⟨0, 32, .ro, 0⟩]⟩,
  -- PLT_STAKE_CFG (R218): C NSLICE
  ⟨0x40110, [(16, 0x400)], .plot, [⟨24, 5, .rwl, 0⟩, ⟨0, 16, .rwl, 0⟩]⟩,
  -- PLT_STAKE_MEM (R218): LOG_PAGES JRNL_PAGES
  ⟨0x40114, [(16, 0x400)], .plot, [⟨16, 15, .rwl, 0⟩, ⟨0, 15, .rwl, 0⟩]⟩,
  -- PLT_STAKE_STAT (R218): RP_VALID BUSY AREA SLICES_DONE SKIPPED INCOMPLETE LOG_OVF JRNL_OVF
  ⟨0x40118, [(16, 0x400)], .plot, [⟨31, 1, .ro, 0⟩, ⟨30, 1, .ro, 0⟩, ⟨29, 1, .ro, 0⟩, ⟨13, 16, .ro, 0⟩, ⟨3, 1, .w1c, 0⟩, ⟨2, 1, .w1c, 0⟩, ⟨1, 1, .w1c, 0⟩, ⟨0, 1, .w1c, 0⟩]⟩,
  -- PLT_STAKE_PN_LO (R218): VALUE
  ⟨0x4011c, [(16, 0x400)], .plot, [⟨0, 32, .ro, 0⟩]⟩,
  -- PLT_STAKE_PN_HI (R218): VALUE
  ⟨0x40120, [(16, 0x400)], .plot, [⟨0, 32, .ro, 0⟩]⟩,
  -- PLT_IMG_INFO (R241): FMT_MAJOR FMT_MINOR GRADE LAT_FAIL PORT
  ⟨0x40138, [(16, 0x400)], .plot, [⟨24, 8, .ro, 0⟩, ⟨16, 8, .ro, 0⟩, ⟨14, 2, .ro, 0⟩, ⟨8, 1, .w1c, 0⟩, ⟨4, 4, .ro, 0⟩]⟩,
  -- PLT_IMG_DEV (R241): DEVID
  ⟨0x4013c, [(16, 0x400)], .plot, [⟨0, 18, .ro, 0⟩]⟩,
  -- PLT_INT_CFG (R473): EN MASK VEC
  ⟨0x40160, [(16, 0x400)], .plot, [⟨31, 1, .rw, 0⟩, ⟨16, 10, .rw, 0⟩, ⟨0, 11, .rw, 0⟩]⟩,
  -- PLT_INT_STAT (R473): STAKE_FAIL TRIG SIG CORUN HAZARD_STOP DIVERGENCE RECOV_FAIL PERSISTENT EXPOSED DATA_LOSS
  ⟨0x40164, [(16, 0x400)], .plot, [⟨9, 1, .w1c, 0⟩, ⟨8, 1, .w1c, 0⟩, ⟨7, 1, .w1c, 0⟩, ⟨6, 1, .w1c, 0⟩, ⟨5, 1, .w1c, 0⟩, ⟨4, 1, .w1c, 0⟩, ⟨3, 1, .w1c, 0⟩, ⟨2, 1, .w1c, 0⟩, ⟨1, 1, .w1c, 0⟩, ⟨0, 1, .w1c, 0⟩]⟩,
  -- PLT_MEM_POISON_CNT (R156): COUNT
  ⟨0x400d8, [(16, 0x400)], .plot, [⟨0, 32, .ros, 0⟩]⟩,
  -- PLT_MEM_POISON_CNT_CLR (R156): CLR
  ⟨0x400dc, [(16, 0x400)], .plot, [⟨0, 32, .wo, 0⟩]⟩,
  -- PLT_IMG_SDHASH (R241): VALUE
  ⟨0x40140, [(16, 0x400), (8, 0x4)], .plot, [⟨0, 32, .ro, 0⟩]⟩,
  -- PLT_PMAP_IDX (R423): PLOT INDEX
  ⟨0x44000, [], .window, [⟨24, 4, .rw, 0⟩, ⟨0, 15, .rw, 0⟩]⟩,
  -- PLT_PMAP_DATA (R423): VALID LIFTED USE PAGE
  ⟨0x44004, [], .window, [⟨31, 1, .ro, 0⟩, ⟨30, 1, .ro, 0⟩, ⟨27, 3, .ro, 0⟩, ⟨0, 15, .ro, 0⟩]⟩]

/-- Registers of block SOW. -/
def regRowsSOW : List RegRow := [
  -- SOW_BOOT_CTRL (R352): GO
  ⟨0x50000, [], .device, [⟨31, 1, .wo, 0⟩]⟩,
  -- SOW_BOOT_STAT (R352): STATE CAUSE
  ⟨0x50004, [], .device, [⟨28, 4, .ro, 0⟩, ⟨24, 4, .ro, 0⟩]⟩,
  -- SOW_BOOT_LEN (R352): LEN
  ⟨0x50008, [], .device, [⟨0, 26, .rw, 0⟩]⟩,
  -- SOW_FW_VER (R352): VERSION
  ⟨0x5000c, [], .device, [⟨0, 32, .ro, 0⟩]⟩,
  -- SOW_FW_SVN (R352): FUSED_MIN RUNNING
  ⟨0x50010, [], .device, [⟨8, 8, .ro, 0⟩, ⟨0, 8, .ro, 0⟩]⟩,
  -- SOW_LIFECYCLE (R352): STATE
  ⟨0x50014, [], .device, [⟨0, 2, .ro, 0⟩]⟩,
  -- SOW_KEY_STAT (R352): PWD_SET UNLOCK_SET VBAT_LOST VALID
  ⟨0x50018, [], .device, [⟨10, 1, .ro, 0⟩, ⟨9, 1, .ro, 0⟩, ⟨8, 1, .w1c, 0⟩, ⟨0, 8, .ro, 0⟩]⟩,
  -- SOW_CFG (R352): SOWN_EN REL_TMO
  ⟨0x50020, [], .device, [⟨31, 1, .rw, 0⟩, ⟨0, 16, .rw, 0x3e8⟩]⟩,
  -- SOW_SOWN_MASK (R352): MASK
  ⟨0x50024, [], .device, [⟨0, 16, .rw, 0⟩]⟩,
  -- SOW_SOWN_PIN (R352): DRIVE LEVEL
  ⟨0x50028, [], .device, [⟨1, 1, .ro, 1⟩, ⟨0, 1, .ro, 0⟩]⟩,
  -- SOW_PLOT_STAT (R352): STATE KEEP MEMKEEP SHADOW FAIL
  ⟨0x50100, [(16, 0x10)], .device, [⟨28, 4, .ro, 0⟩, ⟨27, 1, .ro, 0⟩, ⟨26, 1, .ro, 0⟩, ⟨25, 1, .ro, 0⟩, ⟨8, 8, .ro, 0⟩]⟩,
  -- SOW_PLOT_SEG (R352): NSEG ACCEPTED
  ⟨0x50104, [(16, 0x10)], .device, [⟨16, 16, .ro, 0⟩, ⟨0, 16, .ro, 0⟩]⟩,
  -- SOW_PLOT_PROG (R352): FURROWS
  ⟨0x50108, [(16, 0x10)], .device, [⟨0, 10, .ro, 0⟩]⟩]

/-- Registers of block HVT, part 0. -/
def regRowsHVT0 : List RegRow := [
  -- HVT_CFG (R452): BUF PROBE_EN EVT_EN POST_KIND COUNT_MODE HOLD_KIND HOLD_UNIT XFIRE
  ⟨0x60000, [(16, 0x100)], .plot, [⟨30, 2, .rw, 0⟩, ⟨29, 1, .rw, 0⟩, ⟨28, 1, .rw, 0⟩, ⟨26, 2, .rw, 0⟩, ⟨25, 1, .rw, 0⟩, ⟨23, 2, .rw, 0⟩, ⟨18, 5, .rw, 0⟩, ⟨17, 1, .rw, 0⟩]⟩,
  -- HVT_RING (R452): COUNT FIRST
  ⟨0x60004, [(16, 0x100)], .plot, [⟨16, 15, .rw, 0⟩, ⟨0, 15, .rw, 0⟩]⟩,
  -- HVT_POST (R452): VALUE
  ⟨0x60008, [(16, 0x100)], .plot, [⟨0, 32, .rw, 0⟩]⟩,
  -- HVT_HOLD (R452): VALUE
  ⟨0x6000c, [(16, 0x100)], .plot, [⟨0, 32, .rw, 0⟩]⟩,
  -- HVT_STAT (R452): STATE SEQ_STATE EPOCH HOLDOFF LATE_ARM LATE_FIRE FIRE_IGNORED LOSS WRAPPED FIRE_OVF LOSS_OVF
  ⟨0x60010, [(16, 0x100)], .plot, [⟨28, 4, .ro, 0⟩, ⟨25, 3, .ro, 0⟩, ⟨24, 1, .ro, 0⟩, ⟨23, 1, .ro, 0⟩, ⟨22, 1, .w1c, 0⟩, ⟨21, 1, .w1c, 0⟩, ⟨20, 1, .w1c, 0⟩, ⟨19, 1, .w1c, 0⟩, ⟨18, 1, .ro, 0⟩, ⟨17, 1, .ro, 0⟩, ⟨16, 1, .ro, 0⟩]⟩,
  -- HVT_TRIG_PN_LO (R452): VALUE
  ⟨0x60014, [(16, 0x100)], .plot, [⟨0, 32, .ro, 0⟩]⟩,
  -- HVT_TRIG_PN_HI (R452): VALUE
  ⟨0x60018, [(16, 0x100)], .plot, [⟨0, 32, .ro, 0⟩]⟩,
  -- HVT_STOP_PN_LO (R452): VALUE
  ⟨0x6001c, [(16, 0x100)], .plot, [⟨0, 32, .ro, 0⟩]⟩,
  -- HVT_STOP_PN_HI (R452): VALUE
  ⟨0x60020, [(16, 0x100)], .plot, [⟨0, 32, .ro, 0⟩]⟩,
  -- HVT_WPTR_LO (R452): VALUE
  ⟨0x60024, [(16, 0x100)], .plot, [⟨0, 32, .ro, 0⟩]⟩,
  -- HVT_WPTR_HI (R452): VALUE
  ⟨0x60028, [(16, 0x100)], .plot, [⟨0, 32, .ro, 0⟩]⟩,
  -- HVT_DPTR_LO (R452): VALUE
  ⟨0x6002c, [(16, 0x100)], .plot, [⟨0, 32, .ro, 0⟩]⟩,
  -- HVT_DPTR_HI (R452): VALUE
  ⟨0x60030, [(16, 0x100)], .plot, [⟨0, 32, .ro, 0⟩]⟩,
  -- HVT_SEQ (R452): VALUE
  ⟨0x60034, [(16, 0x100)], .plot, [⟨0, 32, .ro, 0⟩]⟩,
  -- HVT_FIRE_CNT (R452): COUNT
  ⟨0x60038, [(16, 0x100)], .plot, [⟨0, 32, .ros, 0⟩]⟩,
  -- HVT_FIRE_CNT_CLR (R452): CLR
  ⟨0x6003c, [(16, 0x100)], .plot, [⟨0, 32, .wo, 0⟩]⟩,
  -- HVT_LOSS_CNT (R452): COUNT
  ⟨0x60040, [(16, 0x100)], .plot, [⟨0, 32, .ros, 0⟩]⟩,
  -- HVT_LOSS_CNT_CLR (R452): CLR
  ⟨0x60044, [(16, 0x100)], .plot, [⟨0, 32, .wo, 0⟩]⟩,
  -- HVT_SEQST_MASK (R452): VALUE
  ⟨0x60080, [(16, 0x100), (8, 0x8)], .plot, [⟨0, 32, .rw, 0⟩]⟩,
  -- HVT_SEQST_CTL (R452): ALL FIRE NEXT COUNT
  ⟨0x60084, [(16, 0x100), (8, 0x8)], .plot, [⟨31, 1, .rw, 0⟩, ⟨30, 1, .rw, 0⟩, ⟨27, 3, .rw, 0⟩, ⟨0, 16, .rw, 0⟩]⟩,
  -- HVT_TU_CFG (R453): MODE NOT SIGNED EDGE WM1 FIRST
  ⟨0x62000, [(32, 0x40)], .tu, [⟨29, 3, .rw, 0⟩, ⟨28, 1, .rw, 0⟩, ⟨27, 1, .rw, 0⟩, ⟨25, 2, .rw, 0⟩, ⟨20, 5, .rw, 0⟩, ⟨15, 5, .rw, 0⟩]⟩,
  -- HVT_TU_SRC (R453): EVKIND EVIDX REDK FURROW STEP
  ⟨0x62004, [(32, 0x40)], .tu, [⟨29, 3, .rw, 0⟩, ⟨24, 5, .rw, 0⟩, ⟨19, 5, .rw, 0⟩, ⟨10, 9, .rw, 0⟩, ⟨0, 10, .rw, 0⟩]⟩,
  -- HVT_TU_MASK (R453): VALUE
  ⟨0x62008, [(32, 0x40)], .tu, [⟨0, 32, .rw, 0⟩]⟩,
  -- HVT_TU_LO (R453): VALUE
  ⟨0x6200c, [(32, 0x40)], .tu, [⟨0, 32, .rw, 0⟩]⟩]

/-- Registers of block HVT, part 1. -/
def regRowsHVT1 : List RegRow := [
  -- HVT_TU_HI (R453): VALUE
  ⟨0x62010, [(32, 0x40)], .tu, [⟨0, 32, .rw, 0⟩]⟩,
  -- HVT_TU_STAT (R453): OWNED PLOT HITS_OVF HIT_LAST
  ⟨0x62014, [(32, 0x40)], .tu, [⟨31, 1, .ro, 0⟩, ⟨24, 4, .ro, 0⟩, ⟨1, 1, .ro, 0⟩, ⟨0, 1, .ro, 0⟩]⟩,
  -- HVT_TU_HITS (R453): COUNT
  ⟨0x62018, [(32, 0x40)], .tu, [⟨0, 32, .ros, 0⟩]⟩,
  -- HVT_TU_HITS_CLR (R453): CLR
  ⟨0x6201c, [(32, 0x40)], .tu, [⟨0, 32, .wo, 0⟩]⟩,
  -- HVT_DEV_STAT (R454): STAGE_UE FALLOW_LOSS STAGE_FULL EVT_DROP
  ⟨0x68000, [], .device, [⟨3, 1, .w1c, 0⟩, ⟨2, 1, .w1c, 0⟩, ⟨1, 1, .w1c, 0⟩, ⟨0, 1, .w1c, 0⟩]⟩,
  -- HVT_OVF (R454): EVT_LOSS_OVF MERGED_OVF LOST_OVF
  ⟨0x68004, [], .device, [⟨0, 1, .ro, 0⟩, ⟨8, 1, .ro, 0⟩, ⟨9, 1, .ro, 0⟩]⟩,
  -- HVT_EVT_SEQ (R454): VALUE
  ⟨0x68008, [], .device, [⟨0, 32, .ro, 0⟩]⟩,
  -- HVT_STAGE (R454): VALUE
  ⟨0x6800c, [], .device, [⟨0, 24, .ro, 0⟩]⟩,
  -- HVT_EVT_LOSS_CNT (R454): COUNT
  ⟨0x68010, [], .device, [⟨0, 32, .ros, 0⟩]⟩,
  -- HVT_EVT_LOSS_CNT_CLR (R454): CLR
  ⟨0x68014, [], .device, [⟨0, 32, .wo, 0⟩]⟩,
  -- HVT_FIRST_CAUSE (R454): VALID CAUSE
  ⟨0x68020, [], .device, [⟨31, 1, .ro, 0⟩, ⟨0, 5, .ro, 0⟩]⟩,
  -- HVT_FIRST_LOC (R454): PLOT
  ⟨0x68024, [], .device, [⟨0, 4, .ro, 0⟩]⟩,
  -- HVT_FIRST_PN_LO (R454): VALUE
  ⟨0x68028, [], .device, [⟨0, 32, .ro, 0⟩]⟩,
  -- HVT_FIRST_PN_HI (R454): VALUE
  ⟨0x6802c, [], .device, [⟨0, 32, .ro, 0⟩]⟩,
  -- HVT_FIRST_FT_LO (R454): VALUE
  ⟨0x68030, [], .device, [⟨0, 32, .ro, 0⟩]⟩,
  -- HVT_FIRST_FT_HI (R454): VALUE
  ⟨0x68034, [], .device, [⟨0, 32, .ro, 0⟩]⟩,
  -- HVT_MERGED (R454): COUNT
  ⟨0x68038, [], .device, [⟨0, 32, .ros, 0⟩]⟩,
  -- HVT_FIRST_ACK (R454): CLR
  ⟨0x6803c, [], .device, [⟨0, 32, .wo, 0⟩]⟩,
  -- HVT_HIST_PTR (R454): UNREAD NEWEST
  ⟨0x68080, [], .device, [⟨16, 5, .ro, 0⟩, ⟨0, 4, .ro, 0⟩]⟩,
  -- HVT_HIST_ACK (R454): N
  ⟨0x68084, [], .device, [⟨0, 5, .wo, 0⟩]⟩,
  -- HVT_HIST_LOST (R454): COUNT
  ⟨0x68088, [], .device, [⟨0, 32, .ros, 0⟩]⟩,
  -- HVT_HIST_LOST_CLR (R454): CLR
  ⟨0x6808c, [], .device, [⟨0, 32, .wo, 0⟩]⟩,
  -- HVT_HIST (R454): REPEAT MIXED CAUSE LOC
  ⟨0x68400, [(16, 0x10)], .device, [⟨24, 8, .ro, 0⟩, ⟨23, 1, .ro, 0⟩, ⟨18, 5, .ro, 0⟩, ⟨0, 18, .ro, 0⟩]⟩,
  -- HVT_HIST_PN (R454): VALUE
  ⟨0x68404, [(16, 0x10)], .device, [⟨0, 32, .ro, 0⟩]⟩]

/-- Registers of block HVT, part 2. -/
def regRowsHVT2 : List RegRow := [
  -- HVT_HIST_FT_LO (R454): VALUE
  ⟨0x68408, [(16, 0x10)], .device, [⟨0, 32, .ro, 0⟩]⟩,
  -- HVT_HIST_FT_HI (R454): VALUE
  ⟨0x6840c, [(16, 0x10)], .device, [⟨0, 32, .ro, 0⟩]⟩,
  -- HVT_FI_CTRL (R471): ARM DONE KIND CAUSE
  ⟨0x68f00, [], .device, [⟨31, 1, .rw, 0⟩, ⟨30, 1, .w1c, 0⟩, ⟨28, 2, .rw, 0⟩, ⟨23, 5, .rw, 0⟩]⟩,
  -- HVT_FI_ADDR (R471): ADDR
  ⟨0x68f04, [], .device, [⟨0, 32, .rw, 0⟩]⟩]

/-- Registers of block GLN, part 0. -/
def regRowsGLN0 : List RegRow := [
  -- GLN_CFG (R472): EN ESS_RATIO PERIOD
  ⟨0x70000, [], .device, [⟨31, 1, .rw, 1⟩, ⟨16, 4, .rw, 8⟩, ⟨0, 16, .rw, 0x64⟩]⟩,
  -- GLN_STAT (R472): STOPPED SLOW SWEEP_DONE REMAP_FULL MAP_UE STALL CTRL_FAULT CTRL_CE DATA_UE HBM_UE CFG_LOST CFG_UE CFG_CE
  ⟨0x70004, [], .device, [⟨12, 4, .ro, 0⟩, ⟨11, 1, .w1c, 0⟩, ⟨10, 1, .w1c, 0⟩, ⟨9, 1, .w1c, 0⟩, ⟨8, 1, .w1c, 0⟩, ⟨7, 1, .w1c, 0⟩, ⟨6, 1, .w1c, 0⟩, ⟨5, 1, .w1c, 0⟩, ⟨4, 1, .w1c, 0⟩, ⟨3, 1, .w1c, 0⟩, ⟨2, 1, .w1c, 0⟩, ⟨1, 1, .w1c, 0⟩, ⟨0, 1, .w1c, 0⟩]⟩,
  -- GLN_OVF (R472): C0 C1 C2 C3 C4 C5 C6 MERGED_OVF LOST_OVF
  ⟨0x70008, [], .device, [⟨0, 1, .ro, 0⟩, ⟨1, 1, .ro, 0⟩, ⟨2, 1, .ro, 0⟩, ⟨3, 1, .ro, 0⟩, ⟨4, 1, .ro, 0⟩, ⟨5, 1, .ro, 0⟩, ⟨6, 1, .ro, 0⟩, ⟨8, 1, .ro, 0⟩, ⟨9, 1, .ro, 0⟩]⟩,
  -- GLN_HBM_RATE (R472): RATE
  ⟨0x7000c, [], .device, [⟨0, 16, .rw, 0x400⟩]⟩,
  -- GLN_HBM_POS_LO (R472): VALUE
  ⟨0x70010, [], .device, [⟨0, 32, .ro, 0⟩]⟩,
  -- GLN_HBM_POS_HI (R472): VALUE
  ⟨0x70014, [], .device, [⟨0, 32, .ro, 0⟩]⟩,
  -- GLN_FIRST_CAUSE (R472): VALID CAUSE
  ⟨0x70020, [], .device, [⟨31, 1, .ro, 0⟩, ⟨0, 5, .ro, 0⟩]⟩,
  -- GLN_FIRST_LOC (R472): SPACE INDEX
  ⟨0x70024, [], .device, [⟨28, 4, .ro, 0⟩, ⟨0, 28, .ro, 0⟩]⟩,
  -- GLN_FIRST_PN_LO (R472): VALUE
  ⟨0x70028, [], .device, [⟨0, 32, .ro, 0⟩]⟩,
  -- GLN_FIRST_PN_HI (R472): VALUE
  ⟨0x7002c, [], .device, [⟨0, 32, .ro, 0⟩]⟩,
  -- GLN_FIRST_FT_LO (R472): VALUE
  ⟨0x70030, [], .device, [⟨0, 32, .ro, 0⟩]⟩,
  -- GLN_FIRST_FT_HI (R472): VALUE
  ⟨0x70034, [], .device, [⟨0, 32, .ro, 0⟩]⟩,
  -- GLN_MERGED (R472): COUNT
  ⟨0x70038, [], .device, [⟨0, 32, .ros, 0⟩]⟩,
  -- GLN_FIRST_ACK (R472): CLR
  ⟨0x7003c, [], .device, [⟨0, 32, .wo, 0⟩]⟩,
  -- GLN_HIST_PTR (R472): UNREAD NEWEST
  ⟨0x70040, [], .device, [⟨16, 5, .ro, 0⟩, ⟨0, 4, .ro, 0⟩]⟩,
  -- GLN_HIST_ACK (R472): N
  ⟨0x70044, [], .device, [⟨0, 5, .wo, 0⟩]⟩,
  -- GLN_HIST_LOST (R472): COUNT
  ⟨0x70048, [], .device, [⟨0, 32, .ros, 0⟩]⟩,
  -- GLN_HIST_LOST_CLR (R472): CLR
  ⟨0x7004c, [], .device, [⟨0, 32, .wo, 0⟩]⟩,
  -- GLN_HIST (R472): REPEAT MIXED CAUSE PLOT PORT LANE PV
  ⟨0x70400, [(16, 0x10)], .device, [⟨24, 8, .ro, 0⟩, ⟨23, 1, .ro, 0⟩, ⟨18, 5, .ro, 0⟩, ⟨14, 4, .ro, 0⟩, ⟨10, 4, .ro, 0⟩, ⟨7, 3, .ro, 0⟩, ⟨6, 1, .ro, 0⟩]⟩,
  -- GLN_HIST_PN (R472): VALUE
  ⟨0x70404, [(16, 0x10)], .device, [⟨0, 32, .ro, 0⟩]⟩,
  -- GLN_HIST_FT_LO (R472): VALUE
  ⟨0x70408, [(16, 0x10)], .device, [⟨0, 32, .ro, 0⟩]⟩,
  -- GLN_HIST_FT_HI (R472): VALUE
  ⟨0x7040c, [(16, 0x10)], .device, [⟨0, 32, .ro, 0⟩]⟩,
  -- GLN_CNT (R472): COUNT
  ⟨0x70060, [(7, 0x8)], .device, [⟨0, 32, .ros, 0⟩]⟩,
  -- GLN_CNT_CLR (R472): CLR
  ⟨0x70064, [(7, 0x8)], .device, [⟨0, 32, .wo, 0⟩]⟩]

/-- Registers of block GLN, part 1. -/
def regRowsGLN1 : List RegRow := [
  -- GLN_BKT_CFG0 (R472): SIZE/UNIT/DRAIN
  ⟨0x70100, [], .device, [⟨0, 32, .rw, 0x208064⟩]⟩,
  -- GLN_BKT_CFG1 (R472): SIZE/UNIT/DRAIN
  ⟨0x70104, [], .device, [⟨0, 32, .rw, 0x108064⟩]⟩,
  -- GLN_BKT_CFG2 (R472): SIZE/UNIT/DRAIN
  ⟨0x70108, [], .device, [⟨0, 32, .rw, 0x100800a⟩]⟩,
  -- GLN_BKT_CFG3 (R472): SIZE/UNIT/DRAIN
  ⟨0x7010c, [], .device, [⟨0, 32, .rw, 0x10004001⟩]⟩,
  -- GLN_BKT_CFG4 (R472): SIZE/UNIT/DRAIN
  ⟨0x70110, [], .device, [⟨0, 32, .rw, 0x108064⟩]⟩,
  -- GLN_BKT_CFG5 (R472): SIZE/UNIT/DRAIN
  ⟨0x70114, [], .device, [⟨0, 32, .rw, 0x408064⟩]⟩,
  -- GLN_REMAP_CFG (R472): AUTO THR
  ⟨0x70120, [], .device, [⟨31, 1, .rw, 1⟩, ⟨0, 8, .rw, 4⟩]⟩,
  -- GLN_FI_CTRL (R471): ARM DONE KIND CAUSE
  ⟨0x70f00, [], .device, [⟨31, 1, .rw, 0⟩, ⟨30, 1, .w1c, 0⟩, ⟨28, 2, .rw, 0⟩, ⟨23, 5, .rw, 0⟩]⟩,
  -- GLN_FI_ADDR (R471): ADDR
  ⟨0x70f04, [], .device, [⟨0, 32, .rw, 0⟩]⟩]

/-- Registers of block FIO, part 0. -/
def regRowsFIO0 : List RegRow := [
  -- FIO_PORT_CFG (R321): ROLE OMODE XDRV VSEL MISMATCH_HALT SIG_EN SIG_UNIT
  ⟨0x80000, [(12, 0x800)], .fio, [⟨30, 2, .rwl, 0⟩, ⟨29, 1, .rwl, 0⟩, ⟨27, 2, .rwl, 2⟩, ⟨24, 3, .rwl, 2⟩, ⟨23, 1, .rw, 0⟩, ⟨22, 1, .rwl, 0⟩, ⟨17, 5, .rwl, 0⟩]⟩,
  -- FIO_CLK_CFG (R321): CMODE CDLY CLK_FALL SMP
  ⟨0x80004, [(12, 0x800)], .fio, [⟨30, 2, .rwl, 0⟩, ⟨24, 6, .rwl, 0⟩, ⟨10, 10, .rwl, 0⟩, ⟨0, 10, .rwl, 0⟩]⟩,
  -- FIO_PORT_STAT (R321): PARKED VCCIO_BAD CLK_LOST BRG_EMPTY BRG_OUT_OVF BRG_IN_OVF X_DRIVEN MISMATCH
  ⟨0x80008, [(12, 0x800)], .fio, [⟨7, 1, .ro, 1⟩, ⟨6, 1, .ro, 0⟩, ⟨5, 1, .w1c, 0⟩, ⟨4, 1, .w1c, 0⟩, ⟨3, 1, .w1c, 0⟩, ⟨2, 1, .w1c, 0⟩, ⟨1, 1, .w1c, 0⟩, ⟨0, 1, .w1c, 0⟩]⟩,
  -- FIO_BRG_CFG (R321): BANK VALID_PIN PUSH_PIN
  ⟨0x80010, [(12, 0x800)], .fio, [⟨26, 6, .rwl, 0⟩, ⟨21, 5, .rwl, 0⟩, ⟨16, 5, .rwl, 0⟩]⟩,
  -- FIO_BRG_PTR (R321): IN_CNT OUT_CNT
  ⟨0x80014, [(12, 0x800)], .fio, [⟨16, 14, .ro, 0⟩, ⟨0, 14, .ro, 0⟩]⟩,
  -- FIO_OVF (R321): MISMATCH_OVF DROP_OVF
  ⟨0x8000c, [(12, 0x800)], .fio, [⟨0, 1, .ro, 0⟩, ⟨1, 1, .ro, 0⟩]⟩,
  -- FIO_MISMATCH_CNT (R321): COUNT
  ⟨0x80020, [(12, 0x800)], .fio, [⟨0, 32, .ros, 0⟩]⟩,
  -- FIO_MISMATCH_CNT_CLR (R321): CLR
  ⟨0x80024, [(12, 0x800)], .fio, [⟨0, 32, .wo, 0⟩]⟩,
  -- FIO_BRG_DROP_CNT (R321): COUNT
  ⟨0x80028, [(12, 0x800)], .fio, [⟨0, 32, .ros, 0⟩]⟩,
  -- FIO_BRG_DROP_CNT_CLR (R321): CLR
  ⟨0x8002c, [(12, 0x800)], .fio, [⟨0, 32, .wo, 0⟩]⟩,
  -- FIO_MISMATCH_PINS (R321): VALUE
  ⟨0x80030, [(12, 0x800)], .fio, [⟨0, 32, .w1c, 0⟩]⟩,
  -- FIO_CMP_FIRST (R321): VALID PIN
  ⟨0x80040, [(12, 0x800)], .fio, [⟨31, 1, .ro, 0⟩, ⟨0, 5, .ro, 0⟩]⟩,
  -- FIO_CMP_PN_LO (R321): VALUE
  ⟨0x80044, [(12, 0x800)], .fio, [⟨0, 32, .ro, 0⟩]⟩,
  -- FIO_CMP_PN_HI (R321): VALUE
  ⟨0x80048, [(12, 0x800)], .fio, [⟨0, 32, .ro, 0⟩]⟩,
  -- FIO_CMP_FT_LO (R321): VALUE
  ⟨0x8004c, [(12, 0x800)], .fio, [⟨0, 32, .ro, 0⟩]⟩,
  -- FIO_CMP_FT_HI (R321): VALUE
  ⟨0x80050, [(12, 0x800)], .fio, [⟨0, 32, .ro, 0⟩]⟩,
  -- FIO_CMP_MASK (R321): VALUE
  ⟨0x80054, [(12, 0x800)], .fio, [⟨0, 32, .ro, 0⟩]⟩,
  -- FIO_CMP_SAMPLE (R321): VALUE
  ⟨0x80058, [(12, 0x800)], .fio, [⟨0, 32, .ro, 0⟩]⟩,
  -- FIO_CMP_EXPECT (R321): VALUE
  ⟨0x8005c, [(12, 0x800)], .fio, [⟨0, 32, .ro, 0⟩]⟩,
  -- FIO_CMP_ACK (R321): CLR
  ⟨0x80060, [(12, 0x800)], .fio, [⟨0, 32, .wo, 0⟩]⟩,
  -- FIO_PIN_CFG (R321): DIR DDR PULL DRIVE ODLY IDLY
  ⟨0x80100, [(12, 0x800), (32, 0x4)], .fio, [⟨30, 2, .rwl, 0⟩, ⟨29, 1, .rwl, 0⟩, ⟨27, 2, .rwl, 1⟩, ⟨25, 2, .rwl, 1⟩, ⟨18, 6, .rwl, 0⟩, ⟨12, 6, .rwl, 0⟩]⟩,
  -- FIO_RFX0 (R321): VALUE
  ⟨0x80400, [(12, 0x800), (32, 0x20)], .fio, [⟨0, 32, .rwl, 0⟩]⟩,
  -- FIO_RFX1 (R321): VALUE
  ⟨0x80404, [(12, 0x800), (32, 0x20)], .fio, [⟨0, 32, .rwl, 0⟩]⟩,
  -- FIO_RFX2 (R321): COND
  ⟨0x80408, [(12, 0x800), (32, 0x20)], .fio, [⟨0, 18, .rwl, 0⟩]⟩]

/-- Registers of block FIO, part 1. -/
def regRowsFIO1 : List RegRow := [
  -- FIO_RFX3 (R321): 
  ⟨0x8040c, [(12, 0x800), (32, 0x20)], .fio, []⟩,
  -- FIO_RFX4 (R321): VALUE
  ⟨0x80410, [(12, 0x800), (32, 0x20)], .fio, [⟨0, 32, .rwl, 0⟩]⟩,
  -- FIO_RFX5 (R321): VALUE
  ⟨0x80414, [(12, 0x800), (32, 0x20)], .fio, [⟨0, 32, .rwl, 0⟩]⟩,
  -- FIO_RFX6 (R321): VALUE
  ⟨0x80418, [(12, 0x800), (32, 0x20)], .fio, [⟨0, 32, .rwl, 0⟩]⟩,
  -- FIO_RFX7 (R321): VALUE
  ⟨0x8041c, [(12, 0x800), (32, 0x20)], .fio, [⟨0, 32, .rwl, 0⟩]⟩,
  -- FIO_FIRST_CAUSE (R321): VALID CAUSE
  ⟨0x86020, [], .device, [⟨31, 1, .ro, 0⟩, ⟨0, 5, .ro, 0⟩]⟩,
  -- FIO_FIRST_LOC (R321): PORT
  ⟨0x86024, [], .device, [⟨0, 4, .ro, 0⟩]⟩,
  -- FIO_FIRST_PN_LO (R321): VALUE
  ⟨0x86028, [], .device, [⟨0, 32, .ro, 0⟩]⟩,
  -- FIO_FIRST_PN_HI (R321): VALUE
  ⟨0x8602c, [], .device, [⟨0, 32, .ro, 0⟩]⟩,
  -- FIO_FIRST_FT_LO (R321): VALUE
  ⟨0x86030, [], .device, [⟨0, 32, .ro, 0⟩]⟩,
  -- FIO_FIRST_FT_HI (R321): VALUE
  ⟨0x86034, [], .device, [⟨0, 32, .ro, 0⟩]⟩,
  -- FIO_MERGED (R321): COUNT
  ⟨0x86038, [], .device, [⟨0, 32, .ros, 0⟩]⟩,
  -- FIO_FIRST_ACK (R321): CLR
  ⟨0x8603c, [], .device, [⟨0, 32, .wo, 0⟩]⟩,
  -- FIO_HIST_PTR (R321): UNREAD NEWEST
  ⟨0x86080, [], .device, [⟨16, 5, .ro, 0⟩, ⟨0, 4, .ro, 0⟩]⟩,
  -- FIO_HIST_ACK (R321): N
  ⟨0x86084, [], .device, [⟨0, 5, .wo, 0⟩]⟩,
  -- FIO_HIST_LOST (R321): COUNT
  ⟨0x86088, [], .device, [⟨0, 32, .ros, 0⟩]⟩,
  -- FIO_HIST_LOST_CLR (R321): CLR
  ⟨0x8608c, [], .device, [⟨0, 32, .wo, 0⟩]⟩,
  -- FIO_HIST (R321): REPEAT MIXED CAUSE LOC
  ⟨0x86400, [(16, 0x10)], .device, [⟨24, 8, .ro, 0⟩, ⟨23, 1, .ro, 0⟩, ⟨18, 5, .ro, 0⟩, ⟨0, 18, .ro, 0⟩]⟩,
  -- FIO_HIST_PN (R321): VALUE
  ⟨0x86404, [(16, 0x10)], .device, [⟨0, 32, .ro, 0⟩]⟩,
  -- FIO_HIST_FT_LO (R321): VALUE
  ⟨0x86408, [(16, 0x10)], .device, [⟨0, 32, .ro, 0⟩]⟩,
  -- FIO_HIST_FT_HI (R321): VALUE
  ⟨0x8640c, [(16, 0x10)], .device, [⟨0, 32, .ro, 0⟩]⟩,
  -- FIO_BLK_OVF (R321): MERGED_OVF LOST_OVF
  ⟨0x86008, [], .device, [⟨8, 1, .ro, 0⟩, ⟨9, 1, .ro, 0⟩]⟩,
  -- FIO_FI_CTRL (R471): ARM DONE KIND CAUSE
  ⟨0x86f00, [], .device, [⟨31, 1, .rw, 0⟩, ⟨30, 1, .w1c, 0⟩, ⟨28, 2, .rw, 0⟩, ⟨23, 5, .rw, 0⟩]⟩,
  -- FIO_FI_ADDR (R471): ADDR
  ⟨0x86f04, [], .device, [⟨0, 32, .rw, 0⟩]⟩]

/-- Registers of block SIG, part 0. -/
def regRowsSIG0 : List RegRow := [
  -- SIG_CFG (R322): EN WIDTH REFIN REFOUT VMODE XFAIL BMODE EXPMODE NPASS
  ⟨0x90000, [(32, 0x80)], .sig, [⟨31, 1, .rw, 0⟩, ⟨24, 7, .rw, 0x20⟩, ⟨23, 1, .rw, 0⟩, ⟨22, 1, .rw, 0⟩, ⟨21, 1, .rw, 0⟩, ⟨20, 1, .rw, 0⟩, ⟨18, 2, .rw, 1⟩, ⟨16, 2, .rw, 0⟩, ⟨0, 16, .rw, 0⟩]⟩,
  -- SIG_ALIVE_CFG (R322): AEN AWM1 AOFS
  ⟨0x90004, [(32, 0x80)], .sig, [⟨31, 1, .rw, 0⟩, ⟨16, 4, .rw, 0⟩, ⟨0, 16, .rw, 0⟩]⟩,
  -- SIG_POLY_LO (R322): VALUE
  ⟨0x90008, [(32, 0x80)], .sig, [⟨0, 32, .rw, 0⟩]⟩,
  -- SIG_POLY_HI (R322): VALUE
  ⟨0x9000c, [(32, 0x80)], .sig, [⟨0, 32, .rw, 0⟩]⟩,
  -- SIG_INIT_LO (R322): VALUE
  ⟨0x90010, [(32, 0x80)], .sig, [⟨0, 32, .rw, 0⟩]⟩,
  -- SIG_INIT_HI (R322): VALUE
  ⟨0x90014, [(32, 0x80)], .sig, [⟨0, 32, .rw, 0⟩]⟩,
  -- SIG_XOROUT_LO (R322): VALUE
  ⟨0x90018, [(32, 0x80)], .sig, [⟨0, 32, .rw, 0⟩]⟩,
  -- SIG_XOROUT_HI (R322): VALUE
  ⟨0x9001c, [(32, 0x80)], .sig, [⟨0, 32, .rw, 0⟩]⟩,
  -- SIG_EXP_LO (R322): VALUE
  ⟨0x90020, [(32, 0x80)], .sig, [⟨0, 32, .rw, 0⟩]⟩,
  -- SIG_EXP_HI (R322): VALUE
  ⟨0x90024, [(32, 0x80)], .sig, [⟨0, 32, .rw, 0⟩]⟩,
  -- SIG_LAST_LO (R322): VALUE
  ⟨0x90028, [(32, 0x80)], .sig, [⟨0, 32, .ro, 0⟩]⟩,
  -- SIG_LAST_HI (R322): VALUE
  ⟨0x9002c, [(32, 0x80)], .sig, [⟨0, 32, .ro, 0⟩]⟩,
  -- SIG_STAT (R322): SHORT ALIVE_OVF MISMATCH_OVF XSEEN DISCONT ALIVE_X ALIVE_SKIP ALIVE_REPEAT MISMATCH LAST_MATCH
  ⟨0x90030, [(32, 0x80)], .sig, [⟨10, 1, .w1c, 0⟩, ⟨9, 1, .ro, 0⟩, ⟨8, 1, .ro, 0⟩, ⟨7, 1, .w1c, 0⟩, ⟨6, 1, .w1c, 0⟩, ⟨5, 1, .w1c, 0⟩, ⟨4, 1, .w1c, 0⟩, ⟨3, 1, .w1c, 0⟩, ⟨2, 1, .w1c, 0⟩, ⟨1, 1, .ro, 0⟩]⟩,
  -- SIG_LAST_PN_LO (R322): VALUE
  ⟨0x90034, [(32, 0x80)], .sig, [⟨0, 32, .ro, 0⟩]⟩,
  -- SIG_LAST_PN_HI (R322): VALUE
  ⟨0x90038, [(32, 0x80)], .sig, [⟨0, 32, .ro, 0⟩]⟩,
  -- SIG_MISMATCH_CNT (R322): COUNT
  ⟨0x9003c, [(32, 0x80)], .sig, [⟨0, 32, .ros, 0⟩]⟩,
  -- SIG_MISMATCH_CNT_CLR (R322): CLR
  ⟨0x90040, [(32, 0x80)], .sig, [⟨0, 32, .wo, 0⟩]⟩,
  -- SIG_ALIVE_CNT (R322): COUNT
  ⟨0x90044, [(32, 0x80)], .sig, [⟨0, 32, .ros, 0⟩]⟩,
  -- SIG_ALIVE_CNT_CLR (R322): CLR
  ⟨0x90048, [(32, 0x80)], .sig, [⟨0, 32, .wo, 0⟩]⟩,
  -- SIG_OWN (R322): OWNED PLOT
  ⟨0x9004c, [(32, 0x80)], .sig, [⟨31, 1, .ro, 0⟩, ⟨24, 4, .ro, 0⟩]⟩,
  -- SIG_FIRST_CAUSE (R322): VALID CAUSE
  ⟨0x91020, [], .device, [⟨31, 1, .ro, 0⟩, ⟨0, 5, .ro, 0⟩]⟩,
  -- SIG_FIRST_LOC (R322): UNIT
  ⟨0x91024, [], .device, [⟨0, 5, .ro, 0⟩]⟩,
  -- SIG_FIRST_PN_LO (R322): VALUE
  ⟨0x91028, [], .device, [⟨0, 32, .ro, 0⟩]⟩,
  -- SIG_FIRST_PN_HI (R322): VALUE
  ⟨0x9102c, [], .device, [⟨0, 32, .ro, 0⟩]⟩]

/-- Registers of block SIG, part 1. -/
def regRowsSIG1 : List RegRow := [
  -- SIG_FIRST_FT_LO (R322): VALUE
  ⟨0x91030, [], .device, [⟨0, 32, .ro, 0⟩]⟩,
  -- SIG_FIRST_FT_HI (R322): VALUE
  ⟨0x91034, [], .device, [⟨0, 32, .ro, 0⟩]⟩,
  -- SIG_MERGED (R322): COUNT
  ⟨0x91038, [], .device, [⟨0, 32, .ros, 0⟩]⟩,
  -- SIG_FIRST_ACK (R322): CLR
  ⟨0x9103c, [], .device, [⟨0, 32, .wo, 0⟩]⟩,
  -- SIG_HIST_PTR (R322): UNREAD NEWEST
  ⟨0x91080, [], .device, [⟨16, 5, .ro, 0⟩, ⟨0, 4, .ro, 0⟩]⟩,
  -- SIG_HIST_ACK (R322): N
  ⟨0x91084, [], .device, [⟨0, 5, .wo, 0⟩]⟩,
  -- SIG_HIST_LOST (R322): COUNT
  ⟨0x91088, [], .device, [⟨0, 32, .ros, 0⟩]⟩,
  -- SIG_HIST_LOST_CLR (R322): CLR
  ⟨0x9108c, [], .device, [⟨0, 32, .wo, 0⟩]⟩,
  -- SIG_HIST (R322): REPEAT MIXED CAUSE LOC
  ⟨0x91400, [(16, 0x10)], .device, [⟨24, 8, .ro, 0⟩, ⟨23, 1, .ro, 0⟩, ⟨18, 5, .ro, 0⟩, ⟨0, 18, .ro, 0⟩]⟩,
  -- SIG_HIST_PN (R322): VALUE
  ⟨0x91404, [(16, 0x10)], .device, [⟨0, 32, .ro, 0⟩]⟩,
  -- SIG_HIST_FT_LO (R322): VALUE
  ⟨0x91408, [(16, 0x10)], .device, [⟨0, 32, .ro, 0⟩]⟩,
  -- SIG_HIST_FT_HI (R322): VALUE
  ⟨0x9140c, [(16, 0x10)], .device, [⟨0, 32, .ro, 0⟩]⟩,
  -- SIG_BLK_OVF (R322): MERGED_OVF LOST_OVF
  ⟨0x91008, [], .device, [⟨8, 1, .ro, 0⟩, ⟨9, 1, .ro, 0⟩]⟩,
  -- SIG_FI_CTRL (R471): ARM DONE KIND CAUSE
  ⟨0x91f00, [], .device, [⟨31, 1, .rw, 0⟩, ⟨30, 1, .w1c, 0⟩, ⟨28, 2, .rw, 0⟩, ⟨23, 5, .rw, 0⟩]⟩,
  -- SIG_FI_ADDR (R471): ADDR
  ⟨0x91f04, [], .device, [⟨0, 32, .rw, 0⟩]⟩]

/-- Registers of block MEM, part 0. -/
def regRowsMEM0 : List RegRow := [
  -- MEM_PC_CFG (R157): OWNED PLOT DESIGN CHIDX
  ⟨0xa0000, [(64, 0x200)], .pc, [⟨31, 1, .ro, 0⟩, ⟨24, 4, .ro, 0⟩, ⟨23, 1, .ro, 0⟩, ⟨16, 6, .ro, 0⟩]⟩,
  -- MEM_PC_STAT (R157): HOST_REFUSED REMAP_DONE ODECC LATE WQ_OVF POISON_READ POISON UE CE
  ⟨0xa0004, [(64, 0x200)], .pc, [⟨8, 1, .w1c, 0⟩, ⟨7, 1, .w1c, 0⟩, ⟨6, 1, .w1c, 0⟩, ⟨5, 1, .w1c, 0⟩, ⟨4, 1, .w1c, 0⟩, ⟨3, 1, .w1c, 0⟩, ⟨2, 1, .w1c, 0⟩, ⟨1, 1, .w1c, 0⟩, ⟨0, 1, .w1c, 0⟩]⟩,
  -- MEM_PC_OVF (R157): UE_OVF CE_OVF
  ⟨0xa0008, [(64, 0x200)], .pc, [⟨1, 1, .ro, 0⟩, ⟨0, 1, .ro, 0⟩]⟩,
  -- MEM_PC_WQ_STAT (R157): HWM INUSE
  ⟨0xa0020, [(64, 0x200)], .pc, [⟨16, 10, .ro, 0⟩, ⟨0, 10, .ro, 0⟩]⟩,
  -- MEM_PC_CE_CNT (R157): COUNT
  ⟨0xa0010, [(64, 0x200)], .pc, [⟨0, 32, .ros, 0⟩]⟩,
  -- MEM_PC_CE_CNT_CLR (R157): CLR
  ⟨0xa0014, [(64, 0x200)], .pc, [⟨0, 32, .wo, 0⟩]⟩,
  -- MEM_PC_UE_CNT (R157): COUNT
  ⟨0xa0018, [(64, 0x200)], .pc, [⟨0, 32, .ros, 0⟩]⟩,
  -- MEM_PC_UE_CNT_CLR (R157): CLR
  ⟨0xa001c, [(64, 0x200)], .pc, [⟨0, 32, .wo, 0⟩]⟩,
  -- MEM_PC_CE_BUCKET (R157): LEVEL
  ⟨0xa0028, [(64, 0x200)], .pc, [⟨0, 16, .ro, 0⟩]⟩,
  -- MEM_PC_REMAP (R157): VALID ACTIVE BANK ROW
  ⟨0xa0100, [(64, 0x200), (32, 0x4)], .pc, [⟨31, 1, .ro, 0⟩, ⟨30, 1, .ro, 0⟩, ⟨16, 6, .ro, 0⟩, ⟨0, 16, .ro, 0⟩]⟩,
  -- MEM_STAT (R157): WIN_REFUSED FILL_ERR FILL_DONE
  ⟨0xa8000, [], .device, [⟨2, 1, .w1c, 0⟩, ⟨1, 1, .w1c, 0⟩, ⟨0, 1, .ro, 0⟩]⟩,
  -- MEM_OVF (R157): LOST_OVF MERGED_OVF
  ⟨0xa8004, [], .device, [⟨1, 1, .ro, 0⟩, ⟨2, 1, .ro, 0⟩]⟩,
  -- MEM_FIRST_CAUSE (R157): VALID CAUSE
  ⟨0xa8010, [], .device, [⟨31, 1, .ro, 0⟩, ⟨0, 5, .ro, 0⟩]⟩,
  -- MEM_FIRST_LOC (R157): PC OFFSET
  ⟨0xa8014, [], .device, [⟨24, 6, .ro, 0⟩, ⟨0, 24, .ro, 0⟩]⟩,
  -- MEM_FIRST_PN_LO (R157): VALUE
  ⟨0xa8018, [], .device, [⟨0, 32, .ro, 0⟩]⟩,
  -- MEM_FIRST_PN_HI (R157): VALUE
  ⟨0xa801c, [], .device, [⟨0, 32, .ro, 0⟩]⟩,
  -- MEM_FIRST_FT_LO (R157): VALUE
  ⟨0xa8020, [], .device, [⟨0, 32, .ro, 0⟩]⟩,
  -- MEM_FIRST_FT_HI (R157): VALUE
  ⟨0xa8024, [], .device, [⟨0, 32, .ro, 0⟩]⟩,
  -- MEM_MERGED (R157): COUNT
  ⟨0xa8028, [], .device, [⟨0, 32, .ros, 0⟩]⟩,
  -- MEM_FIRST_ACK (R157): CLR
  ⟨0xa802c, [], .device, [⟨0, 32, .wo, 0⟩]⟩,
  -- MEM_HIST_PTR (R157): UNREAD NEWEST
  ⟨0xa8040, [], .device, [⟨16, 5, .ro, 0⟩, ⟨0, 4, .ro, 0⟩]⟩,
  -- MEM_HIST_ACK (R157): N
  ⟨0xa8044, [], .device, [⟨0, 5, .wo, 0⟩]⟩,
  -- MEM_HIST_LOST (R157): COUNT
  ⟨0xa8048, [], .device, [⟨0, 32, .ros, 0⟩]⟩,
  -- MEM_HIST_LOST_CLR (R157): CLR
  ⟨0xa804c, [], .device, [⟨0, 32, .wo, 0⟩]⟩]

/-- Registers of block MEM, part 1. -/
def regRowsMEM1 : List RegRow := [
  -- MEM_HIST (R157): REPEAT MIXED CAUSE PLOT PC
  ⟨0xa8400, [(16, 0x10)], .device, [⟨24, 8, .ro, 0⟩, ⟨23, 1, .ro, 0⟩, ⟨18, 5, .ro, 0⟩, ⟨14, 4, .ro, 0⟩, ⟨0, 6, .ro, 0⟩]⟩,
  -- MEM_HIST_PN (R157): VALUE
  ⟨0xa8404, [(16, 0x10)], .device, [⟨0, 32, .ro, 0⟩]⟩,
  -- MEM_HIST_FT_LO (R157): VALUE
  ⟨0xa8408, [(16, 0x10)], .device, [⟨0, 32, .ro, 0⟩]⟩,
  -- MEM_HIST_FT_HI (R157): VALUE
  ⟨0xa840c, [(16, 0x10)], .device, [⟨0, 32, .ro, 0⟩]⟩,
  -- MEM_WIN_BASE (R157): PAGE
  ⟨0xa8100, [(64, 0x4)], .function, [⟨0, 15, .rw, 0⟩]⟩,
  -- MEM_FI_CTRL (R471): ARM DONE KIND CAUSE
  ⟨0xa8f00, [], .device, [⟨31, 1, .rw, 0⟩, ⟨30, 1, .w1c, 0⟩, ⟨28, 2, .rw, 0⟩, ⟨23, 5, .rw, 0⟩]⟩,
  -- MEM_FI_ADDR (R471): ADDR
  ⟨0xa8f04, [], .device, [⟨0, 32, .rw, 0⟩]⟩]

/-- Registers of block SPM. -/
def regRowsSPM : List RegRow := [
  -- SPM_BANK_OWNER (R424): VALID ZERO PEND AON PLOT
  ⟨0xb0000, [(64, 0x4)], .spm, [⟨31, 1, .rw, 0⟩, ⟨30, 1, .wo, 0⟩, ⟨29, 1, .ro, 0⟩, ⟨28, 1, .ro, 0⟩, ⟨24, 4, .rw, 0⟩]⟩,
  -- SPM_STAT (R424): OWN_BUSY REFUSED CE UE
  ⟨0xb0100, [], .device, [⟨3, 1, .w1c, 0⟩, ⟨2, 1, .w1c, 0⟩, ⟨1, 1, .w1c, 0⟩, ⟨0, 1, .w1c, 0⟩]⟩,
  -- SPM_CE_BUCKET (R473): LEVEL
  ⟨0xb0104, [], .device, [⟨0, 16, .ro, 0⟩]⟩,
  -- SPM_FI_CTRL (R471): ARM DONE KIND CAUSE
  ⟨0xb0f00, [], .device, [⟨31, 1, .rw, 0⟩, ⟨30, 1, .w1c, 0⟩, ⟨28, 2, .rw, 0⟩, ⟨23, 5, .rw, 0⟩]⟩,
  -- SPM_FI_ADDR (R471): ADDR
  ⟨0xb0f04, [], .device, [⟨0, 32, .rw, 0⟩]⟩]

/-- Registers of block NOC, part 0. -/
def regRowsNOC0 : List RegRow := [
  -- NOC_CFG (R425): SORT_REQ SORTED PLANE_EN
  ⟨0xc0000, [], .device, [⟨31, 1, .rw, 0⟩, ⟨30, 1, .ro, 1⟩, ⟨24, 4, .ro, 0xf⟩]⟩,
  -- NOC_STAT (R425): MODE_REFUSED PLOT_REFUSED PLANE_RETIRED GEN_UE EXP_UE FLIT_CE
  ⟨0xc0004, [], .device, [⟨5, 1, .w1c, 0⟩, ⟨4, 1, .w1c, 0⟩, ⟨3, 1, .w1c, 0⟩, ⟨2, 1, .w1c, 0⟩, ⟨1, 1, .w1c, 0⟩, ⟨0, 1, .w1c, 0⟩]⟩,
  -- NOC_OVF (R425): C0 C1 C2 MERGED_OVF LOST_OVF
  ⟨0xc0008, [], .device, [⟨0, 1, .ro, 0⟩, ⟨1, 1, .ro, 0⟩, ⟨2, 1, .ro, 0⟩, ⟨8, 1, .ro, 0⟩, ⟨9, 1, .ro, 0⟩]⟩,
  -- NOC_FIRST_CAUSE (R425): VALID CAUSE
  ⟨0xc0010, [], .device, [⟨31, 1, .ro, 0⟩, ⟨0, 5, .ro, 0⟩]⟩,
  -- NOC_FIRST_LOC (R425): ROUTER
  ⟨0xc0014, [], .device, [⟨0, 8, .ro, 0⟩]⟩,
  -- NOC_FIRST_PN_LO (R425): VALUE
  ⟨0xc0018, [], .device, [⟨0, 32, .ro, 0⟩]⟩,
  -- NOC_FIRST_PN_HI (R425): VALUE
  ⟨0xc001c, [], .device, [⟨0, 32, .ro, 0⟩]⟩,
  -- NOC_FIRST_FT_LO (R425): VALUE
  ⟨0xc0020, [], .device, [⟨0, 32, .ro, 0⟩]⟩,
  -- NOC_FIRST_FT_HI (R425): VALUE
  ⟨0xc0024, [], .device, [⟨0, 32, .ro, 0⟩]⟩,
  -- NOC_MERGED (R425): COUNT
  ⟨0xc0028, [], .device, [⟨0, 32, .ros, 0⟩]⟩,
  -- NOC_FIRST_ACK (R425): CLR
  ⟨0xc002c, [], .device, [⟨0, 32, .wo, 0⟩]⟩,
  -- NOC_HIST_PTR (R425): UNREAD NEWEST
  ⟨0xc0040, [], .device, [⟨16, 5, .ro, 0⟩, ⟨0, 4, .ro, 0⟩]⟩,
  -- NOC_HIST_ACK (R425): N
  ⟨0xc0044, [], .device, [⟨0, 5, .wo, 0⟩]⟩,
  -- NOC_HIST_LOST (R425): COUNT
  ⟨0xc0048, [], .device, [⟨0, 32, .ros, 0⟩]⟩,
  -- NOC_HIST_LOST_CLR (R425): CLR
  ⟨0xc004c, [], .device, [⟨0, 32, .wo, 0⟩]⟩,
  -- NOC_HIST (R425): REPEAT MIXED CAUSE LOC
  ⟨0xc0400, [(16, 0x10)], .device, [⟨24, 8, .ro, 0⟩, ⟨23, 1, .ro, 0⟩, ⟨18, 5, .ro, 0⟩, ⟨0, 18, .ro, 0⟩]⟩,
  -- NOC_HIST_PN (R425): VALUE
  ⟨0xc0404, [(16, 0x10)], .device, [⟨0, 32, .ro, 0⟩]⟩,
  -- NOC_HIST_FT_LO (R425): VALUE
  ⟨0xc0408, [(16, 0x10)], .device, [⟨0, 32, .ro, 0⟩]⟩,
  -- NOC_HIST_FT_HI (R425): VALUE
  ⟨0xc040c, [(16, 0x10)], .device, [⟨0, 32, .ro, 0⟩]⟩,
  -- NOC_CNT (R425): COUNT
  ⟨0xc0060, [(3, 0x8)], .device, [⟨0, 32, .ros, 0⟩]⟩,
  -- NOC_CNT_CLR (R425): CLR
  ⟨0xc0064, [(3, 0x8)], .device, [⟨0, 32, .wo, 0⟩]⟩,
  -- NOC_RT_IDX (R425): NI/DST
  ⟨0xc0100, [], .device, [⟨0, 16, .rw, 0⟩]⟩,
  -- NOC_RT_DATA (R425): VALUE
  ⟨0xc0104, [(3, 0x4)], .device, [⟨0, 32, .ro, 0⟩]⟩,
  -- NOC_RT_DATA3 (R425): VALID NHOP PLANES
  ⟨0xc0110, [], .device, [⟨31, 1, .ro, 0⟩, ⟨24, 5, .ro, 0⟩, ⟨0, 4, .ro, 0⟩]⟩]

/-- Registers of block NOC, part 1. -/
def regRowsNOC1 : List RegRow := [
  -- NOC_FI_CTRL (R471): ARM DONE KIND CAUSE
  ⟨0xc0f00, [], .device, [⟨31, 1, .rw, 0⟩, ⟨30, 1, .w1c, 0⟩, ⟨28, 2, .rw, 0⟩, ⟨23, 5, .rw, 0⟩]⟩,
  -- NOC_FI_ADDR (R471): ADDR
  ⟨0xc0f04, [], .device, [⟨0, 32, .rw, 0⟩]⟩]

/-- Registers of block XCH, part 0. -/
def regRowsXCH0 : List RegRow := [
  -- XCH_DEV_ID (R183): ID
  ⟨0xd0000, [], .device, [⟨0, 18, .rw, 0⟩]⟩,
  -- XCH_STAT (R183): PTYPE_BAD PKT_CRC MISROUTE CTRL_DROP UNEXP MISSING WINDOW ALIVE_ERR FEC_UE XT_UE XT_CE
  ⟨0xd0004, [], .device, [⟨10, 1, .w1c, 0⟩, ⟨9, 1, .w1c, 0⟩, ⟨8, 1, .w1c, 0⟩, ⟨7, 1, .w1c, 0⟩, ⟨6, 1, .w1c, 0⟩, ⟨5, 1, .w1c, 0⟩, ⟨4, 1, .w1c, 0⟩, ⟨3, 1, .w1c, 0⟩, ⟨2, 1, .w1c, 0⟩, ⟨1, 1, .w1c, 0⟩, ⟨0, 1, .w1c, 0⟩]⟩,
  -- XCH_OVF (R183): C0 C1 C2 C3 C4 C5 C6 C7 MERGED_OVF LOST_OVF
  ⟨0xd0008, [], .device, [⟨0, 1, .ro, 0⟩, ⟨1, 1, .ro, 0⟩, ⟨2, 1, .ro, 0⟩, ⟨3, 1, .ro, 0⟩, ⟨4, 1, .ro, 0⟩, ⟨5, 1, .ro, 0⟩, ⟨6, 1, .ro, 0⟩, ⟨7, 1, .ro, 0⟩, ⟨8, 1, .ro, 0⟩, ⟨9, 1, .ro, 0⟩]⟩,
  -- XCH_FIRST_CAUSE (R183): VALID CAUSE
  ⟨0xd0020, [], .device, [⟨31, 1, .ro, 0⟩, ⟨0, 5, .ro, 0⟩]⟩,
  -- XCH_FIRST_LOC (R183): XT PORT LANE INDEX
  ⟨0xd0024, [], .device, [⟨31, 1, .ro, 0⟩, ⟨24, 4, .ro, 0⟩, ⟨21, 3, .ro, 0⟩, ⟨0, 21, .ro, 0⟩]⟩,
  -- XCH_FIRST_PN_LO (R183): VALUE
  ⟨0xd0028, [], .device, [⟨0, 32, .ro, 0⟩]⟩,
  -- XCH_FIRST_PN_HI (R183): VALUE
  ⟨0xd002c, [], .device, [⟨0, 32, .ro, 0⟩]⟩,
  -- XCH_FIRST_FT_LO (R183): VALUE
  ⟨0xd0030, [], .device, [⟨0, 32, .ro, 0⟩]⟩,
  -- XCH_FIRST_FT_HI (R183): VALUE
  ⟨0xd0034, [], .device, [⟨0, 32, .ro, 0⟩]⟩,
  -- XCH_MERGED (R183): COUNT
  ⟨0xd0038, [], .device, [⟨0, 32, .ros, 0⟩]⟩,
  -- XCH_FIRST_ACK (R183): CLR
  ⟨0xd003c, [], .device, [⟨0, 32, .wo, 0⟩]⟩,
  -- XCH_HIST_PTR (R183): UNREAD NEWEST
  ⟨0xd0080, [], .device, [⟨16, 5, .ro, 0⟩, ⟨0, 4, .ro, 0⟩]⟩,
  -- XCH_HIST_ACK (R183): N
  ⟨0xd0084, [], .device, [⟨0, 5, .wo, 0⟩]⟩,
  -- XCH_HIST_LOST (R183): COUNT
  ⟨0xd0088, [], .device, [⟨0, 32, .ros, 0⟩]⟩,
  -- XCH_HIST_LOST_CLR (R183): CLR
  ⟨0xd008c, [], .device, [⟨0, 32, .wo, 0⟩]⟩,
  -- XCH_HIST (R183): REPEAT MIXED CAUSE PLOT PORT LANE PV
  ⟨0xd0400, [(16, 0x10)], .device, [⟨24, 8, .ro, 0⟩, ⟨23, 1, .ro, 0⟩, ⟨18, 5, .ro, 0⟩, ⟨14, 4, .ro, 0⟩, ⟨10, 4, .ro, 0⟩, ⟨7, 3, .ro, 0⟩, ⟨6, 1, .ro, 0⟩]⟩,
  -- XCH_HIST_PN (R183): VALUE
  ⟨0xd0404, [(16, 0x10)], .device, [⟨0, 32, .ro, 0⟩]⟩,
  -- XCH_HIST_FT_LO (R183): VALUE
  ⟨0xd0408, [(16, 0x10)], .device, [⟨0, 32, .ro, 0⟩]⟩,
  -- XCH_HIST_FT_HI (R183): VALUE
  ⟨0xd040c, [(16, 0x10)], .device, [⟨0, 32, .ro, 0⟩]⟩,
  -- XCH_CNT (R183): COUNT
  ⟨0xd0040, [(8, 0x8)], .device, [⟨0, 32, .ros, 0⟩]⟩,
  -- XCH_CNT_CLR (R183): CLR
  ⟨0xd0044, [(8, 0x8)], .device, [⟨0, 32, .wo, 0⟩]⟩,
  -- XCH_CE_BUCKET (R473): LEVEL
  ⟨0xd0090, [], .device, [⟨0, 16, .ro, 0⟩]⟩,
  -- XCH_XT_IDX (R183): INDEX
  ⟨0xd0100, [], .window, [⟨0, 21, .rw, 0⟩]⟩,
  -- XCH_XT_DATA_LO (R183): VALUE
  ⟨0xd0104, [], .window, [⟨0, 32, .ro, 0⟩]⟩]

/-- Registers of block XCH, part 1. -/
def regRowsXCH1 : List RegRow := [
  -- XCH_XT_DATA_HI (R183): VALUE
  ⟨0xd0108, [], .window, [⟨0, 32, .ro, 0⟩]⟩,
  -- XCH_RGN_CFG (R183): BASE SIZE
  ⟨0xd0200, [(16, 0x20)], .plot, [⟨16, 11, .ro, 0⟩, ⟨0, 11, .ro, 0⟩]⟩,
  -- XCH_RGN_STAT (R183): OLD_HELD SWAP_PEND ACTIVE
  ⟨0xd0204, [(16, 0x20)], .plot, [⟨2, 1, .ro, 0⟩, ⟨1, 1, .ro, 0⟩, ⟨0, 1, .ro, 0⟩]⟩,
  -- XCH_RGN_SWAP_PN_LO (R183): VALUE
  ⟨0xd0208, [(16, 0x20)], .plot, [⟨0, 32, .ro, 0⟩]⟩,
  -- XCH_RGN_SWAP_PN_HI (R183): VALUE
  ⟨0xd020c, [(16, 0x20)], .plot, [⟨0, 32, .ro, 0⟩]⟩,
  -- XCH_FI_CTRL (R471): ARM DONE KIND CAUSE
  ⟨0xd0f00, [], .device, [⟨31, 1, .rw, 0⟩, ⟨30, 1, .w1c, 0⟩, ⟨28, 2, .rw, 0⟩, ⟨23, 5, .rw, 0⟩]⟩,
  -- XCH_FI_ADDR (R471): ADDR
  ⟨0xd0f04, [], .device, [⟨0, 32, .rw, 0⟩]⟩]

/-- Registers of block MON. -/
def regRowsMON : List RegRow := [
  -- MON_CFG (R502): DIS
  ⟨0xe0000, [], .device, [⟨31, 1, .rw, 0⟩]⟩,
  -- MON_STAT (R502): LOCKED SCAN_TAKEN FAILS WAIT_S
  ⟨0xe0004, [], .device, [⟨31, 1, .ro, 0⟩, ⟨30, 1, .ro, 0⟩, ⟨16, 8, .ro, 0⟩, ⟨0, 13, .ro, 0⟩]⟩,
  -- MON_CTRL (R502): LOCK
  ⟨0xe0008, [], .device, [⟨31, 1, .wo, 0⟩]⟩]

/-- Registers of block LNK, part 0. -/
def regRowsLNK0 : List RegRow := [
  -- LNK_LANE_CTRL (R270): RST BITSLIP LPBK TEST TX_INV
  ⟨0x100000, [(16, 0x2000), (9, 0x200)], .device, [⟨31, 1, .wo, 0⟩, ⟨30, 1, .wo, 0⟩, ⟨28, 2, .rw, 0⟩, ⟨27, 1, .rw, 0⟩, ⟨26, 1, .rw, 0⟩]⟩,
  -- LNK_LANE_STAT (R270): STATE MATCH INV DEGRADED ALIGN_LOST REFUSED TEST_ABORT DESKEW
  ⟨0x100004, [(16, 0x2000), (9, 0x200)], .device, [⟨28, 4, .ro, 0⟩, ⟨27, 1, .ro, 0⟩, ⟨26, 1, .ro, 0⟩, ⟨25, 1, .ro, 0⟩, ⟨24, 1, .w1c, 0⟩, ⟨23, 1, .w1c, 0⟩, ⟨22, 1, .w1c, 0⟩, ⟨16, 6, .ro, 0⟩]⟩,
  -- LNK_LANE_TEST (R270): PAT GEN_EN CHK_EN INJ_ONE INJ_RATE CHK_LOCK
  ⟨0x100008, [(16, 0x2000), (9, 0x200)], .device, [⟨30, 2, .rw, 0⟩, ⟨29, 1, .rw, 0⟩, ⟨28, 1, .rw, 0⟩, ⟨27, 1, .wo, 0⟩, ⟨22, 5, .rw, 0⟩, ⟨21, 1, .ro, 0⟩]⟩,
  -- LNK_LANE_OVF (R270): C0 C1 C2 C3 C4
  ⟨0x10000c, [(16, 0x2000), (9, 0x200)], .device, [⟨0, 1, .ro, 0⟩, ⟨1, 1, .ro, 0⟩, ⟨2, 1, .ro, 0⟩, ⟨3, 1, .ro, 0⟩, ⟨4, 1, .ro, 0⟩]⟩,
  -- LNK_LANE_CE_BUCKET (R270): LEVEL
  ⟨0x100010, [(16, 0x2000), (9, 0x200)], .device, [⟨0, 16, .ro, 0⟩]⟩,
  -- LNK_LANE_SYMCE (R270): COUNT
  ⟨0x100020, [(16, 0x2000), (9, 0x200)], .device, [⟨0, 32, .ros, 0⟩]⟩,
  -- LNK_LANE_SYMCE_CLR (R270): CLR
  ⟨0x100024, [(16, 0x2000), (9, 0x200)], .device, [⟨0, 32, .wo, 0⟩]⟩,
  -- LNK_LANE_FECUE (R270): COUNT
  ⟨0x100028, [(16, 0x2000), (9, 0x200)], .device, [⟨0, 32, .ros, 0⟩]⟩,
  -- LNK_LANE_FECUE_CLR (R270): CLR
  ⟨0x10002c, [(16, 0x2000), (9, 0x200)], .device, [⟨0, 32, .wo, 0⟩]⟩,
  -- LNK_LANE_BADTYPE (R270): COUNT
  ⟨0x100030, [(16, 0x2000), (9, 0x200)], .device, [⟨0, 32, .ros, 0⟩]⟩,
  -- LNK_LANE_BADTYPE_CLR (R270): CLR
  ⟨0x100034, [(16, 0x2000), (9, 0x200)], .device, [⟨0, 32, .wo, 0⟩]⟩,
  -- LNK_LANE_PRBS_ERR (R270): COUNT
  ⟨0x100038, [(16, 0x2000), (9, 0x200)], .device, [⟨0, 32, .ros, 0⟩]⟩,
  -- LNK_LANE_PRBS_ERR_CLR (R270): CLR
  ⟨0x10003c, [(16, 0x2000), (9, 0x200)], .device, [⟨0, 32, .wo, 0⟩]⟩,
  -- LNK_LANE_PRBS_BITS_LO (R270): VALUE
  ⟨0x100040, [(16, 0x2000), (9, 0x200)], .device, [⟨0, 32, .ro, 0⟩]⟩,
  -- LNK_LANE_PRBS_BITS_HI (R270): VALUE
  ⟨0x100044, [(16, 0x2000), (9, 0x200)], .device, [⟨0, 16, .ro, 0⟩]⟩,
  -- LNK_LANE_PRBS_BITS_CLR (R270): CLR
  ⟨0x100048, [(16, 0x2000), (9, 0x200)], .device, [⟨0, 32, .wo, 0⟩]⟩,
  -- LNK_TX_CORR (R293): CORR
  ⟨0x100050, [(16, 0x2000), (9, 0x200)], .device, [⟨0, 16, .rw, 0⟩]⟩,
  -- LNK_RX_CORR (R293): CORR
  ⟨0x100054, [(16, 0x2000), (9, 0x200)], .device, [⟨0, 16, .rw, 0⟩]⟩,
  -- LNK_LAT (R184): VALID ARR TOTAL
  ⟨0x101800, [(16, 0x2000)], .device, [⟨31, 1, .ro, 0⟩, ⟨16, 10, .ro, 0⟩, ⟨0, 10, .ro, 0⟩]⟩,
  -- LNK_ALAT (R184): ALAT
  ⟨0x101804, [(16, 0x2000)], .device, [⟨0, 10, .rwl, 0⟩]⟩,
  -- LNK_NBR_ID (R184): VALID PORT ID
  ⟨0x101808, [(16, 0x2000)], .device, [⟨31, 1, .ro, 0⟩, ⟨18, 4, .ro, 0⟩, ⟨0, 18, .ro, 0⟩]⟩,
  -- LNK_PORT_CTRL (R271): MARK_EN RATE AUTO_RETRAIN ALIGN_DONE
  ⟨0x101810, [(16, 0x2000)], .device, [⟨31, 1, .rwl, 0⟩, ⟨30, 1, .rwl, 0⟩, ⟨29, 1, .rw, 1⟩, ⟨28, 1, .wo, 0⟩]⟩,
  -- LNK_PORT_STAT (R271): UP REDUCED SYNC REVERSED SPARE_USED SPARE_FOR SLIP_OVF FAIL
  ⟨0x101814, [(16, 0x2000)], .device, [⟨31, 1, .ro, 0⟩, ⟨30, 1, .ro, 0⟩, ⟨29, 1, .ro, 0⟩, ⟨28, 1, .ro, 0⟩, ⟨27, 1, .ro, 0⟩, ⟨24, 3, .ro, 0⟩, ⟨23, 1, .ro, 0⟩, ⟨8, 8, .ro, 0⟩]⟩,
  -- LNK_PORT_VER (R271): MAJOR MINOR NBR_MAJOR NBR_MINOR
  ⟨0x101820, [(16, 0x2000)], .device, [⟨24, 8, .ro, 0⟩, ⟨16, 8, .ro, 0⟩, ⟨8, 8, .ro, 0⟩, ⟨0, 8, .ro, 0⟩]⟩]

/-- Registers of block LNK, part 1. -/
def regRowsLNK1 : List RegRow := [
  -- LNK_PORT_TXMAP (R271): VALUE
  ⟨0x101818, [(16, 0x2000)], .device, [⟨0, 32, .ro, 0⟩]⟩,
  -- LNK_PORT_RXMAP (R271): VALUE
  ⟨0x10181c, [(16, 0x2000)], .device, [⟨0, 32, .ro, 0⟩]⟩,
  -- LNK_PORT_SLIP (R271): COUNT
  ⟨0x101824, [(16, 0x2000)], .device, [⟨0, 32, .ros, 0⟩]⟩,
  -- LNK_PORT_SLIP_CLR (R271): CLR
  ⟨0x101828, [(16, 0x2000)], .device, [⟨0, 32, .wo, 0⟩]⟩,
  -- LNK_EVT (R272): MGMT_BAD SLIP TRAIN_FAIL SPARED ALIGN_LOST DEGRADED LANE_DOWN
  ⟨0x120000, [], .device, [⟨6, 1, .w1c, 0⟩, ⟨5, 1, .w1c, 0⟩, ⟨4, 1, .w1c, 0⟩, ⟨3, 1, .w1c, 0⟩, ⟨2, 1, .w1c, 0⟩, ⟨1, 1, .w1c, 0⟩, ⟨0, 1, .w1c, 0⟩]⟩,
  -- LNK_OVF (R272): LOST_OVF MERGED_OVF
  ⟨0x120004, [], .device, [⟨1, 1, .ro, 0⟩, ⟨2, 1, .ro, 0⟩]⟩,
  -- LNK_FIRST_CAUSE (R272): VALID CAUSE
  ⟨0x120010, [], .device, [⟨31, 1, .ro, 0⟩, ⟨0, 5, .ro, 0⟩]⟩,
  -- LNK_FIRST_LOC (R272): PORT LANE
  ⟨0x120014, [], .device, [⟨4, 4, .ro, 0⟩, ⟨0, 4, .ro, 0⟩]⟩,
  -- LNK_FIRST_PN_LO (R272): VALUE
  ⟨0x120018, [], .device, [⟨0, 32, .ro, 0⟩]⟩,
  -- LNK_FIRST_PN_HI (R272): VALUE
  ⟨0x12001c, [], .device, [⟨0, 32, .ro, 0⟩]⟩,
  -- LNK_FIRST_FT_LO (R272): VALUE
  ⟨0x120020, [], .device, [⟨0, 32, .ro, 0⟩]⟩,
  -- LNK_FIRST_FT_HI (R272): VALUE
  ⟨0x120024, [], .device, [⟨0, 32, .ro, 0⟩]⟩,
  -- LNK_MERGED (R272): COUNT
  ⟨0x120028, [], .device, [⟨0, 32, .ros, 0⟩]⟩,
  -- LNK_FIRST_ACK (R272): CLR
  ⟨0x12002c, [], .device, [⟨0, 32, .wo, 0⟩]⟩,
  -- LNK_HIST_PTR (R272): UNREAD NEWEST
  ⟨0x120040, [], .device, [⟨16, 5, .ro, 0⟩, ⟨0, 4, .ro, 0⟩]⟩,
  -- LNK_HIST_ACK (R272): N
  ⟨0x120044, [], .device, [⟨0, 5, .wo, 0⟩]⟩,
  -- LNK_HIST_LOST (R272): COUNT
  ⟨0x120048, [], .device, [⟨0, 32, .ros, 0⟩]⟩,
  -- LNK_HIST_LOST_CLR (R272): CLR
  ⟨0x12004c, [], .device, [⟨0, 32, .wo, 0⟩]⟩,
  -- LNK_HIST (R272): REPEAT MIXED CAUSE PORT LANE
  ⟨0x120400, [(16, 0x10)], .device, [⟨24, 8, .ro, 0⟩, ⟨23, 1, .ro, 0⟩, ⟨18, 5, .ro, 0⟩, ⟨4, 4, .ro, 0⟩, ⟨0, 4, .ro, 0⟩]⟩,
  -- LNK_HIST_PN (R272): VALUE
  ⟨0x120404, [(16, 0x10)], .device, [⟨0, 32, .ro, 0⟩]⟩,
  -- LNK_HIST_FT_LO (R272): VALUE
  ⟨0x120408, [(16, 0x10)], .device, [⟨0, 32, .ro, 0⟩]⟩,
  -- LNK_HIST_FT_HI (R272): VALUE
  ⟨0x12040c, [(16, 0x10)], .device, [⟨0, 32, .ro, 0⟩]⟩,
  -- LNK_FI_CTRL (R471): ARM DONE KIND CAUSE
  ⟨0x120f00, [], .device, [⟨31, 1, .rw, 0⟩, ⟨30, 1, .w1c, 0⟩, ⟨28, 2, .rw, 0⟩, ⟨23, 5, .rw, 0⟩]⟩,
  -- LNK_FI_ADDR (R471): ADDR
  ⟨0x120f04, [], .device, [⟨0, 32, .rw, 0⟩]⟩]

/-- Registers of block FUR, part 0. -/
def regRowsFUR0 : List RegRow := [
  -- FUR_ID (R109): STATE LOGICAL PHYS
  ⟨0x1000000, [(528, 0x1000)], .fur, [⟨30, 2, .ro, 0⟩, ⟨10, 9, .ro, 0⟩, ⟨0, 10, .ro, 0⟩]⟩,
  -- FUR_CFG (R109): OWNED PLOT RAM_SHAPE
  ⟨0x1000004, [(528, 0x1000)], .fur, [⟨31, 1, .ro, 0⟩, ⟨24, 4, .ro, 0⟩, ⟨0, 2, .rwl, 0⟩]⟩,
  -- FUR_STAT (R109): conditions
  ⟨0x1000010, [(528, 0x1000)], .fur, [⟨0, 17, .w1c, 0⟩]⟩,
  -- FUR_OVF (R109): MERGED_OVF LOST_OVF CE_OVF
  ⟨0x1000014, [(528, 0x1000)], .fur, [⟨2, 1, .ro, 0⟩, ⟨1, 1, .ro, 0⟩, ⟨0, 1, .ro, 0⟩]⟩,
  -- FUR_CE_CNT (R109): COUNT
  ⟨0x1000050, [(528, 0x1000)], .fur, [⟨0, 32, .ros, 0⟩]⟩,
  -- FUR_CE_CNT_CLR (R109): CLR
  ⟨0x1000054, [(528, 0x1000)], .fur, [⟨0, 32, .wo, 0⟩]⟩,
  -- FUR_CE_BUCKET (R109): LEVEL
  ⟨0x1000058, [(528, 0x1000)], .fur, [⟨0, 16, .ro, 0⟩]⟩,
  -- FUR_UNDO_STAT (R109): HWM INUSE
  ⟨0x1000060, [(528, 0x1000)], .fur, [⟨16, 9, .ro, 0⟩, ⟨0, 9, .ro, 0⟩]⟩,
  -- FUR_HAZ_FIRST (R240): VALID CNT_OVF KIND OPND STEP BP
  ⟨0x1000064, [(528, 0x1000)], .fur, [⟨31, 1, .ro, 0⟩, ⟨30, 1, .ro, 0⟩, ⟨27, 3, .ro, 0⟩, ⟨25, 2, .ro, 0⟩, ⟨7, 10, .ro, 0⟩, ⟨0, 7, .ro, 0⟩]⟩,
  -- FUR_HAZ_CNT (R240): COUNT
  ⟨0x1000068, [(528, 0x1000)], .fur, [⟨0, 32, .ros, 0⟩]⟩,
  -- FUR_HAZ_CLR (R240): CLR
  ⟨0x100006c, [(528, 0x1000)], .fur, [⟨0, 32, .wo, 0⟩]⟩,
  -- FUR_FIRST_CAUSE (R109): VALID CAUSE
  ⟨0x1000020, [(528, 0x1000)], .fur, [⟨31, 1, .ro, 0⟩, ⟨0, 5, .ro, 0⟩]⟩,
  -- FUR_FIRST_LOC (R109): STEP HL BP
  ⟨0x1000024, [(528, 0x1000)], .fur, [⟨8, 10, .ro, 0⟩, ⟨7, 1, .ro, 0⟩, ⟨0, 7, .ro, 0⟩]⟩,
  -- FUR_FIRST_PN_LO (R109): VALUE
  ⟨0x1000028, [(528, 0x1000)], .fur, [⟨0, 32, .ro, 0⟩]⟩,
  -- FUR_FIRST_PN_HI (R109): VALUE
  ⟨0x100002c, [(528, 0x1000)], .fur, [⟨0, 32, .ro, 0⟩]⟩,
  -- FUR_FIRST_FT_LO (R109): VALUE
  ⟨0x1000030, [(528, 0x1000)], .fur, [⟨0, 32, .ro, 0⟩]⟩,
  -- FUR_FIRST_FT_HI (R109): VALUE
  ⟨0x1000034, [(528, 0x1000)], .fur, [⟨0, 32, .ro, 0⟩]⟩,
  -- FUR_MERGED (R109): COUNT
  ⟨0x1000038, [(528, 0x1000)], .fur, [⟨0, 32, .ros, 0⟩]⟩,
  -- FUR_FIRST_ACK (R109): CLR
  ⟨0x100003c, [(528, 0x1000)], .fur, [⟨0, 32, .wo, 0⟩]⟩,
  -- FUR_HIST_PTR (R109): UNREAD NEWEST
  ⟨0x1000040, [(528, 0x1000)], .fur, [⟨16, 5, .ro, 0⟩, ⟨0, 4, .ro, 0⟩]⟩,
  -- FUR_HIST_ACK (R109): N
  ⟨0x1000044, [(528, 0x1000)], .fur, [⟨0, 5, .wo, 0⟩]⟩,
  -- FUR_HIST_LOST (R109): COUNT
  ⟨0x1000048, [(528, 0x1000)], .fur, [⟨0, 32, .ros, 0⟩]⟩,
  -- FUR_HIST_LOST_CLR (R109): CLR
  ⟨0x100004c, [(528, 0x1000)], .fur, [⟨0, 32, .wo, 0⟩]⟩,
  -- FUR_HIST (R109): REPEAT MIXED CAUSE STEP HL BP
  ⟨0x1000400, [(528, 0x1000), (16, 0x10)], .fur, [⟨24, 8, .ro, 0⟩, ⟨23, 1, .ro, 0⟩, ⟨18, 5, .ro, 0⟩, ⟨8, 10, .ro, 0⟩, ⟨7, 1, .ro, 0⟩, ⟨0, 7, .ro, 0⟩]⟩]

/-- Registers of block FUR, part 1. -/
def regRowsFUR1 : List RegRow := [
  -- FUR_HIST_PN (R109): VALUE
  ⟨0x1000404, [(528, 0x1000), (16, 0x10)], .fur, [⟨0, 32, .ro, 0⟩]⟩,
  -- FUR_HIST_FT_LO (R109): VALUE
  ⟨0x1000408, [(528, 0x1000), (16, 0x10)], .fur, [⟨0, 32, .ro, 0⟩]⟩,
  -- FUR_HIST_FT_HI (R109): VALUE
  ⟨0x100040c, [(528, 0x1000), (16, 0x10)], .fur, [⟨0, 32, .ro, 0⟩]⟩,
  -- FUR_FIO_IN (R109): VALID PORT PIN
  ⟨0x1000100, [(528, 0x1000), (32, 0x4)], .fur, [⟨31, 1, .rwl, 0⟩, ⟨24, 4, .rwl, 0⟩, ⟨0, 5, .rwl, 0⟩]⟩,
  -- FUR_FIO_OUT (R109): VALID PORT PIN
  ⟨0x1000180, [(528, 0x1000), (32, 0x4)], .fur, [⟨31, 1, .rwl, 0⟩, ⟨24, 4, .rwl, 0⟩, ⟨0, 5, .rwl, 0⟩]⟩,
  -- FUR_FI_CTRL (R471): ARM DONE KIND CAUSE
  ⟨0x1000f00, [(528, 0x1000)], .fur, [⟨31, 1, .rw, 0⟩, ⟨30, 1, .w1c, 0⟩, ⟨28, 2, .rw, 0⟩, ⟨23, 5, .rw, 0⟩]⟩,
  -- FUR_FI_ADDR (R471): ADDR
  ⟨0x1000f04, [(528, 0x1000)], .fur, [⟨0, 32, .rw, 0⟩]⟩]

/-- Registers of block FTB, part 0. -/
def regRowsFTB0 : List RegRow := [
  -- FUR_MAP (R109): PHYS
  ⟨0x1210000, [(512, 0x4)], .shared, [⟨0, 10, .ro, 0⟩]⟩,
  -- FUR_ACRE_SPARE (R109): FREE
  ⟨0x1210800, [(4, 0x4)], .shared, [⟨0, 3, .ro, 0⟩]⟩,
  -- FUR_GATE (R128): VALID SRC_PLOT DST_PLOT PARK PARKED PARKED_READ VALUE
  ⟨0x1211000, [(256, 0x4)], .device, [⟨31, 1, .rwl, 0⟩, ⟨24, 4, .rwl, 0⟩, ⟨20, 4, .rwl, 0⟩, ⟨18, 2, .rwl, 2⟩, ⟨7, 1, .ro, 0⟩, ⟨6, 1, .w1c, 0⟩, ⟨0, 2, .ro, 1⟩]⟩,
  -- FUR_SW_STAT (R128): SCHED_UE D2D_UE D2D_CE TRUNK_CONTEND HEDGE_BLOCK SCHED_CE
  ⟨0x1212000, [(4, 0x800)], .device, [⟨5, 1, .w1c, 0⟩, ⟨4, 1, .w1c, 0⟩, ⟨3, 1, .w1c, 0⟩, ⟨2, 1, .w1c, 0⟩, ⟨1, 1, .w1c, 0⟩, ⟨0, 1, .w1c, 0⟩]⟩,
  -- FUR_SW_OVF (R128): MERGED_OVF LOST_OVF CE_OVF
  ⟨0x1212004, [(4, 0x800)], .device, [⟨2, 1, .ro, 0⟩, ⟨1, 1, .ro, 0⟩, ⟨0, 1, .ro, 0⟩]⟩,
  -- FUR_SW_CE_CNT (R128): COUNT
  ⟨0x1212008, [(4, 0x800)], .device, [⟨0, 32, .ros, 0⟩]⟩,
  -- FUR_SW_CE_CNT_CLR (R128): CLR
  ⟨0x121200c, [(4, 0x800)], .device, [⟨0, 32, .wo, 0⟩]⟩,
  -- FUR_SW_CE_BUCKET (R473): LEVEL
  ⟨0x1212010, [(4, 0x800)], .device, [⟨0, 16, .ro, 0⟩]⟩,
  -- FUR_SW_FIRST_CAUSE (R128): VALID CAUSE
  ⟨0x1212020, [(4, 0x800)], .device, [⟨31, 1, .ro, 0⟩, ⟨0, 5, .ro, 0⟩]⟩,
  -- FUR_SW_FIRST_LOC (R128): PLOT DST STEP
  ⟨0x1212024, [(4, 0x800)], .device, [⟨28, 4, .ro, 0⟩, ⟨13, 13, .ro, 0⟩, ⟨0, 10, .ro, 0⟩]⟩,
  -- FUR_SW_FIRST_PN_LO (R128): VALUE
  ⟨0x1212028, [(4, 0x800)], .device, [⟨0, 32, .ro, 0⟩]⟩,
  -- FUR_SW_FIRST_PN_HI (R128): VALUE
  ⟨0x121202c, [(4, 0x800)], .device, [⟨0, 32, .ro, 0⟩]⟩,
  -- FUR_SW_FIRST_FT_LO (R128): VALUE
  ⟨0x1212030, [(4, 0x800)], .device, [⟨0, 32, .ro, 0⟩]⟩,
  -- FUR_SW_FIRST_FT_HI (R128): VALUE
  ⟨0x1212034, [(4, 0x800)], .device, [⟨0, 32, .ro, 0⟩]⟩,
  -- FUR_SW_MERGED (R128): COUNT
  ⟨0x1212038, [(4, 0x800)], .device, [⟨0, 32, .ros, 0⟩]⟩,
  -- FUR_SW_FIRST_ACK (R128): CLR
  ⟨0x121203c, [(4, 0x800)], .device, [⟨0, 32, .wo, 0⟩]⟩,
  -- FUR_SW_HIST_PTR (R128): UNREAD NEWEST
  ⟨0x1212040, [(4, 0x800)], .device, [⟨16, 5, .ro, 0⟩, ⟨0, 4, .ro, 0⟩]⟩,
  -- FUR_SW_HIST_ACK (R128): N
  ⟨0x1212044, [(4, 0x800)], .device, [⟨0, 5, .wo, 0⟩]⟩,
  -- FUR_SW_HIST_LOST (R128): COUNT
  ⟨0x1212048, [(4, 0x800)], .device, [⟨0, 32, .ros, 0⟩]⟩,
  -- FUR_SW_HIST_LOST_CLR (R128): CLR
  ⟨0x121204c, [(4, 0x800)], .device, [⟨0, 32, .wo, 0⟩]⟩,
  -- FUR_SW_HIST (R128): REPEAT MIXED CAUSE PLOT STEP
  ⟨0x1212400, [(4, 0x800), (16, 0x10)], .device, [⟨24, 8, .ro, 0⟩, ⟨23, 1, .ro, 0⟩, ⟨18, 5, .ro, 0⟩, ⟨14, 4, .ro, 0⟩, ⟨0, 10, .ro, 0⟩]⟩,
  -- FUR_SW_HIST_PN (R128): VALUE
  ⟨0x1212404, [(4, 0x800), (16, 0x10)], .device, [⟨0, 32, .ro, 0⟩]⟩,
  -- FUR_SW_HIST_FT_LO (R128): VALUE
  ⟨0x1212408, [(4, 0x800), (16, 0x10)], .device, [⟨0, 32, .ro, 0⟩]⟩,
  -- FUR_SW_HIST_FT_HI (R128): VALUE
  ⟨0x121240c, [(4, 0x800), (16, 0x10)], .device, [⟨0, 32, .ro, 0⟩]⟩]

/-- Registers of block FTB, part 1. -/
def regRowsFTB1 : List RegRow := [
  -- FUR_SW_TRUNK (R128): HELD PLOT
  ⟨0x1212100, [(4, 0x800), (64, 0x4)], .device, [⟨31, 1, .ro, 0⟩, ⟨0, 4, .ro, 0⟩]⟩,
  -- FUR_SW_FI_CTRL (R471): ARM DONE KIND CAUSE
  ⟨0x1212700, [(4, 0x800)], .device, [⟨31, 1, .rw, 0⟩, ⟨30, 1, .w1c, 0⟩, ⟨28, 2, .rw, 0⟩, ⟨23, 5, .rw, 0⟩]⟩,
  -- FUR_SW_FI_ADDR (R471): ADDR
  ⟨0x1212704, [(4, 0x800)], .device, [⟨0, 32, .rw, 0⟩]⟩]

/-- Registers of block QCF. -/
def regRowsQCF : List RegRow := [
  -- QCF_SQ_BASE_LO (R389): VALUE
  ⟨0x2000000, [(4096, 0x40)], .queue, [⟨12, 20, .rw, 0⟩]⟩,
  -- QCF_SQ_BASE_HI (R389): VALUE
  ⟨0x2000004, [(4096, 0x40)], .queue, [⟨0, 32, .rw, 0⟩]⟩,
  -- QCF_CQ_BASE_LO (R389): VALUE
  ⟨0x2000008, [(4096, 0x40)], .queue, [⟨12, 20, .rw, 0⟩]⟩,
  -- QCF_CQ_BASE_HI (R389): VALUE
  ⟨0x200000c, [(4096, 0x40)], .queue, [⟨0, 32, .rw, 0⟩]⟩,
  -- QCF_SIZE (R389): SQSZ CQSZ
  ⟨0x2000010, [(4096, 0x40)], .queue, [⟨16, 12, .rw, 0⟩, ⟨0, 12, .rw, 0⟩]⟩,
  -- QCF_CTRL (R389): EN IEN WEIGHT IVEC
  ⟨0x2000014, [(4096, 0x40)], .queue, [⟨31, 1, .rw, 0⟩, ⟨30, 1, .rw, 0⟩, ⟨16, 8, .rw, 1⟩, ⟨0, 11, .rw, 0⟩]⟩,
  -- QCF_INT (R389): ICNT ITIME
  ⟨0x2000018, [(4096, 0x40)], .queue, [⟨24, 8, .rw, 0⟩, ⟨0, 16, .rw, 0⟩]⟩,
  -- QCF_STAT (R389): SQ_HEAD CQ_TAIL PHASE XLAT DB_BAD EN_REFUSED CQ_FULL
  ⟨0x200001c, [(4096, 0x40)], .queue, [⟨20, 12, .ro, 0⟩, ⟨8, 12, .ro, 0⟩, ⟨7, 1, .ro, 1⟩, ⟨6, 1, .ro, 0⟩, ⟨5, 1, .w1c, 0⟩, ⟨4, 1, .w1c, 0⟩, ⟨3, 1, .ro, 0⟩]⟩,
  -- QCF_FWD (R389): FWD_EN NHOP DSTID
  ⟨0x2000024, [(4096, 0x40)], .queue, [⟨31, 1, .rw, 0⟩, ⟨26, 5, .rw, 0⟩, ⟨0, 18, .rw, 0⟩]⟩,
  -- QCF_ALIVE (R389): EXPECT
  ⟨0x2000020, [(4096, 0x40)], .queue, [⟨0, 8, .ro, 0⟩]⟩,
  -- QCF_FWD_ROUTE (R389): VALUE
  ⟨0x2000028, [(4096, 0x40), (3, 0x4)], .queue, [⟨0, 32, .rw, 0⟩]⟩,
  -- QCF_FWD_CFG (R389): VALUE
  ⟨0x2000034, [(4096, 0x40)], .queue, [⟨0, 32, .rw, 0⟩]⟩,
  -- QCF_INFLIGHT (R389): COUNT
  ⟨0x2000038, [(4096, 0x40)], .queue, [⟨0, 17, .ro, 0⟩]⟩]

/-- The rows of the block that an address lies in (R504, R509). -/
def regRowsAt (a : Nat) : List RegRow :=
  match a >>> 16 with
  | 0 => regRowsDEV
  | 1 => regRowsCRP
  | 2 => regRowsFT
  | 3 => regRowsCMD0 ++ regRowsCMD1
  | 4 => regRowsPLT0 ++ regRowsPLT1
  | 5 => regRowsSOW
  | 6 => regRowsHVT0 ++ regRowsHVT1 ++ regRowsHVT2
  | 7 => regRowsGLN0 ++ regRowsGLN1
  | 8 => regRowsFIO0 ++ regRowsFIO1
  | 9 => regRowsSIG0 ++ regRowsSIG1
  | 10 => regRowsMEM0 ++ regRowsMEM1
  | 11 => regRowsSPM
  | 12 => regRowsNOC0 ++ regRowsNOC1
  | 13 => regRowsXCH0 ++ regRowsXCH1
  | 14 => regRowsMON
  | _ =>
    if a < 0x130000 then regRowsLNK0 ++ regRowsLNK1
    else if a < 0x1210000 then regRowsFUR0 ++ regRowsFUR1
    else if a < 0x1214000 then regRowsFTB0 ++ regRowsFTB1
    else regRowsQCF

/-- The indices of an address offset in an array of registers, none off the array. -/
def dimIdx : List (Nat × Nat) → Nat → Option (List Nat)
  | [], off => if off = 0 then some [] else none
  | (n, st) :: ds, off =>
    if off / st < n then (dimIdx ds (off % st)).map (off / st :: ·) else none

/-- The first row that holds an address, with the indices. -/
def findRow (a : Nat) : List RegRow → Option (RegRow × List Nat)
  | [] => none
  | r :: rs =>
    if a < r.base then findRow a rs
    else match dimIdx r.dims (a - r.base) with
      | some is => some (r, is)
      | none => findRow a rs

/-- The register at an address (R504, R505). -/
def regAt (a : Nat) : Option (RegRow × List Nat) := findRow a (regRowsAt a)

/-- The value that a register's fields reset to, as the tables give it. -/
def fieldsReset : List RegField → Nat
  | [] => 0
  | f :: fs => (f.reset % 2 ^ f.len) <<< f.lo + fieldsReset fs

/-- The bits of the fields that satisfy a test. -/
def fieldsMask (p : RegField → Bool) : List RegField → Nat
  | [] => 0
  | f :: fs => (if p f then (2 ^ f.len - 1) <<< f.lo else 0) + fieldsMask p fs

/-- Resets that depend on the index: `CMD_FUNC_Q` and `CMD_FUNC_CFG` (R388), `SPM_BANK_OWNER` (R424). -/
def indexedReset (a : Nat) (r : RegRow) (is : List Nat) : Nat :=
  let i := is.headD 0
  if r.base = Reg.CMD_FUNC_Q 0 then
    if i < 4 then 16 <<< 16 + 16 * i else 0
  else if r.base = Reg.CMD_FUNC_CFG 0 then
    (fieldsReset r.fields) ||| ((if i < 4 then 7 else 5) <<< 20) |||
      (if i = 0 then 65536 else if i < 4 then 8192 else 1024)
  else if a = Reg.SPM_BANK_OWNER 63 then fieldsReset r.fields ||| (1 <<< 28)
  else fieldsReset r.fields

/-- What a BAR0 register holds right after reset. -/
def regReset (a : Nat) : Word :=
  match regAt a with
  | some (r, is) => BitVec.ofNat 32 (indexedReset a r is)
  | none => 0

end Sys2Proof.Machine
end

