-- ==== Sys2Proof/Machine/Status.lean ====
section
/-! DEFINITION. Status codes of completions (R383), BLOCK codes (R455), sow states (R334) and the causes of blocks. -/

namespace Sys2Proof.Machine

/-! Status codes (R383). -/
def Status.ok : Nat := 0x00
def Status.invalidOpcode : Nat := 0x10
def Status.invalidParam : Nat := 0x11
def Status.badCrc : Nat := 0x12
def Status.aliveSkip : Nat := 0x13
def Status.aliveRepeat : Nat := 0x14
def Status.versionUnsupported : Nat := 0x15
def Status.notOwner : Nat := 0x20
def Status.noResource : Nat := 0x21
def Status.busy : Nat := 0x22
def Status.abortedReset : Nat := 0x30
def Status.abortedCmd : Nat := 0x31
def Status.depFailed : Nat := 0x32
def Status.deadlineMissed : Nat := 0x33
def Status.imageAuthFail : Nat := 0x40
def Status.imageCheckFail : Nat := 0x41
def Status.latencyContractFail : Nat := 0x42
def Status.plotFault : Nat := 0x50
def Status.dataLoss : Nat := 0x51
def Status.translationFault : Nat := 0x52
def Status.divergence : Nat := 0x53
def Status.linkDown : Nat := 0x60
def Status.timeUnlocked : Nat := 0x61
def Status.internal : Nat := 0xff

/-! BLOCK codes (R455, R429). -/
def Block.furrow : Nat := 1
def Block.switch : Nat := 2
def Block.mem : Nat := 3
def Block.xch : Nat := 4
def Block.lnk : Nat := 5
def Block.ft : Nat := 6
def Block.cmd : Nat := 7
def Block.noc : Nat := 8
def Block.fio : Nat := 9
def Block.sig : Nat := 10
def Block.spm : Nat := 11
def Block.gln : Nat := 12
def Block.hvt : Nat := 13
def Block.crp : Nat := 14
def Block.sow : Nat := 15

/-! Sow states (R334). -/
def Sow.empty : Nat := 0
def Sow.sowing : Nat := 1
def Sow.failed : Nat := 2
def Sow.sown : Nat := 3
def Sow.releasing : Nat := 4
def Sow.released : Nat := 5

end Sys2Proof.Machine
end

