-- ==== Sys2Proof/Machine/Blocks.lean ====
section
/-! DEFINITION. The error blocks that keep FIRST, MERGED and HIST (R455), and the saturating counters with their clear
registers and OVF bits (R16, R17). -/

namespace Sys2Proof.Machine

/-- An error block: BLOCK code, addresses of FIRST_CAUSE, MERGED, FIRST_ACK, HIST_PTR and HIST (R107-R109). -/
structure Blk where
  code : Nat
  first : Nat
  merged : Nat
  ack : Nat
  ptr : Nat
  hist : Nat
deriving DecidableEq, Repr

def Blk.furrow (p : Nat) : Blk :=
  ⟨1, Reg.FUR_FIRST_CAUSE p, Reg.FUR_MERGED p, Reg.FUR_FIRST_ACK p, Reg.FUR_HIST_PTR p, Reg.FUR_HIST p 0⟩
def Blk.acre (a : Nat) : Blk :=
  ⟨2, Reg.FUR_SW_FIRST_CAUSE a, Reg.FUR_SW_MERGED a, Reg.FUR_SW_FIRST_ACK a, Reg.FUR_SW_HIST_PTR a, Reg.FUR_SW_HIST a 0⟩
def Blk.mem : Blk := ⟨3, Reg.MEM_FIRST_CAUSE, Reg.MEM_MERGED, Reg.MEM_FIRST_ACK, Reg.MEM_HIST_PTR, Reg.MEM_HIST 0⟩
def Blk.xch : Blk := ⟨4, Reg.XCH_FIRST_CAUSE, Reg.XCH_MERGED, Reg.XCH_FIRST_ACK, Reg.XCH_HIST_PTR, Reg.XCH_HIST 0⟩
def Blk.lnk : Blk := ⟨5, Reg.LNK_FIRST_CAUSE, Reg.LNK_MERGED, Reg.LNK_FIRST_ACK, Reg.LNK_HIST_PTR, Reg.LNK_HIST 0⟩
def Blk.cmd : Blk := ⟨7, Reg.CMD_FIRST_CAUSE, Reg.CMD_MERGED, Reg.CMD_FIRST_ACK, Reg.CMD_HIST_PTR, Reg.CMD_HIST 0⟩
def Blk.noc : Blk := ⟨8, Reg.NOC_FIRST_CAUSE, Reg.NOC_MERGED, Reg.NOC_FIRST_ACK, Reg.NOC_HIST_PTR, Reg.NOC_HIST 0⟩
def Blk.fio : Blk := ⟨9, Reg.FIO_FIRST_CAUSE, Reg.FIO_MERGED, Reg.FIO_FIRST_ACK, Reg.FIO_HIST_PTR, Reg.FIO_HIST 0⟩
def Blk.sig : Blk := ⟨10, Reg.SIG_FIRST_CAUSE, Reg.SIG_MERGED, Reg.SIG_FIRST_ACK, Reg.SIG_HIST_PTR, Reg.SIG_HIST 0⟩
def Blk.gln : Blk := ⟨12, Reg.GLN_FIRST_CAUSE, Reg.GLN_MERGED, Reg.GLN_FIRST_ACK, Reg.GLN_HIST_PTR, Reg.GLN_HIST 0⟩
def Blk.hvt : Blk := ⟨13, Reg.HVT_FIRST_CAUSE, Reg.HVT_MERGED, Reg.HVT_FIRST_ACK, Reg.HVT_HIST_PTR, Reg.HVT_HIST 0⟩

/-- The blocks of which the device has one (R455). -/
def singleBlks : List Blk := [Blk.mem, Blk.xch, Blk.lnk, Blk.cmd, Blk.noc, Blk.fio, Blk.sig, Blk.gln, Blk.hvt]

/-- The block whose FIRST_ACK register is at an address. -/
def blkOfAck (a : Nat) : Option Blk :=
  match singleBlks.find? (fun b => b.ack == a) with
  | some b => some b
  | none =>
    if Reg.FUR_FIRST_ACK 0 ≤ a ∧ a < Reg.FUR_FIRST_ACK 528 ∧ (a - Reg.FUR_FIRST_ACK 0) % 0x1000 = 0 then
      some (Blk.furrow ((a - Reg.FUR_FIRST_ACK 0) / 0x1000))
    else if Reg.FUR_SW_FIRST_ACK 0 ≤ a ∧ a < Reg.FUR_SW_FIRST_ACK 4 ∧ (a - Reg.FUR_SW_FIRST_ACK 0) % 0x800 = 0 then
      some (Blk.acre ((a - Reg.FUR_SW_FIRST_ACK 0) / 0x800))
    else none

/-- The block whose HIST_ACK register is at an address. -/
def blkOfHistAck (a : Nat) : Option Blk :=
  match singleBlks.find? (fun b => b.ptr + 4 == a) with
  | some b => some b
  | none =>
    if Reg.FUR_HIST_ACK 0 ≤ a ∧ a < Reg.FUR_HIST_ACK 528 ∧ (a - Reg.FUR_HIST_ACK 0) % 0x1000 = 0 then
      some (Blk.furrow ((a - Reg.FUR_HIST_ACK 0) / 0x1000))
    else if Reg.FUR_SW_HIST_ACK 0 ≤ a ∧ a < Reg.FUR_SW_HIST_ACK 4 ∧ (a - Reg.FUR_SW_HIST_ACK 0) % 0x800 = 0 then
      some (Blk.acre ((a - Reg.FUR_SW_HIST_ACK 0) / 0x800))
    else none

/-- A saturating counter, or an array of them: its address and indices, the address of its clear register (0 for
MERGED, which FIRST_ACK clears), and where its OVF bit lies. -/
structure CntRow where
  base : Nat
  dims : List (Nat × Nat)
  clr : Nat
  ovf : Nat
  ovfStride : List Nat
  bit : Nat
  bitPerIndex : Bool
deriving DecidableEq, Repr

def cntRows0 : List CntRow := [
  ⟨0x20040, [], 0x20044, 0x20004, [], 16, false⟩,
  ⟨0x20048, [], 0x2004c, 0x20004, [], 17, false⟩,
  ⟨0x30038, [], 0x0, 0x30008, [], 8, false⟩,
  ⟨0x30048, [], 0x3004c, 0x30008, [], 9, false⟩,
  ⟨0x30060, [(4, 0x8)], 0x30064, 0x30008, [0x0], 0, true⟩,
  ⟨0x400a0, [(16, 0x400)], 0x400a8, 0x40088, [0x400], 0, false⟩,
  ⟨0x400a4, [(16, 0x400)], 0x400ac, 0x40088, [0x400], 1, false⟩,
  ⟨0x400f4, [(16, 0x400)], 0x400f8, 0x400e4, [0x400], 8, false⟩,
  ⟨0x400fc, [(16, 0x400)], 0x40100, 0x400e4, [0x400], 9, false⟩,
  ⟨0x400d8, [(16, 0x400)], 0x400dc, 0x400d4, [0x400], 3, false⟩,
  ⟨0x60038, [(16, 0x100)], 0x6003c, 0x60010, [0x100], 17, false⟩,
  ⟨0x60040, [(16, 0x100)], 0x60044, 0x60010, [0x100], 16, false⟩,
  ⟨0x62018, [(32, 0x40)], 0x6201c, 0x62014, [0x40], 1, false⟩,
  ⟨0x68010, [], 0x68014, 0x68004, [], 0, false⟩,
  ⟨0x68038, [], 0x0, 0x68004, [], 8, false⟩,
  ⟨0x68088, [], 0x6808c, 0x68004, [], 9, false⟩,
  ⟨0x70038, [], 0x0, 0x70008, [], 8, false⟩,
  ⟨0x70048, [], 0x7004c, 0x70008, [], 9, false⟩,
  ⟨0x70060, [(7, 0x8)], 0x70064, 0x70008, [0x0], 0, true⟩,
  ⟨0x80020, [(12, 0x800)], 0x80024, 0x8000c, [0x800], 0, false⟩,
  ⟨0x80028, [(12, 0x800)], 0x8002c, 0x8000c, [0x800], 1, false⟩,
  ⟨0x86038, [], 0x0, 0x86008, [], 8, false⟩,
  ⟨0x86088, [], 0x8608c, 0x86008, [], 9, false⟩,
  ⟨0x9003c, [(32, 0x80)], 0x90040, 0x90030, [0x80], 8, false⟩,
  ⟨0x90044, [(32, 0x80)], 0x90048, 0x90030, [0x80], 9, false⟩]

def cntRows1 : List CntRow := [
  ⟨0x91038, [], 0x0, 0x91008, [], 8, false⟩,
  ⟨0x91088, [], 0x9108c, 0x91008, [], 9, false⟩,
  ⟨0xa0010, [(64, 0x200)], 0xa0014, 0xa0008, [0x200], 0, false⟩,
  ⟨0xa0018, [(64, 0x200)], 0xa001c, 0xa0008, [0x200], 1, false⟩,
  ⟨0xa8028, [], 0x0, 0xa8004, [], 2, false⟩,
  ⟨0xa8048, [], 0xa804c, 0xa8004, [], 1, false⟩,
  ⟨0xc0028, [], 0x0, 0xc0008, [], 8, false⟩,
  ⟨0xc0048, [], 0xc004c, 0xc0008, [], 9, false⟩,
  ⟨0xc0060, [(3, 0x8)], 0xc0064, 0xc0008, [0x0], 0, true⟩,
  ⟨0xd0038, [], 0x0, 0xd0008, [], 8, false⟩,
  ⟨0xd0088, [], 0xd008c, 0xd0008, [], 9, false⟩,
  ⟨0xd0040, [(8, 0x8)], 0xd0044, 0xd0008, [0x0], 0, true⟩,
  ⟨0x100020, [(16, 0x2000), (9, 0x200)], 0x100024, 0x10000c, [0x2000, 0x200], 0, false⟩,
  ⟨0x100028, [(16, 0x2000), (9, 0x200)], 0x10002c, 0x10000c, [0x2000, 0x200], 1, false⟩,
  ⟨0x100030, [(16, 0x2000), (9, 0x200)], 0x100034, 0x10000c, [0x2000, 0x200], 2, false⟩,
  ⟨0x100038, [(16, 0x2000), (9, 0x200)], 0x10003c, 0x10000c, [0x2000, 0x200], 3, false⟩,
  ⟨0x101824, [(16, 0x2000)], 0x101828, 0x101814, [0x2000], 23, false⟩,
  ⟨0x120028, [], 0x0, 0x120004, [], 2, false⟩,
  ⟨0x120048, [], 0x12004c, 0x120004, [], 1, false⟩,
  ⟨0x1000050, [(528, 0x1000)], 0x1000054, 0x1000014, [0x1000], 0, false⟩,
  ⟨0x1000068, [(528, 0x1000)], 0x100006c, 0x1000064, [0x1000], 30, false⟩,
  ⟨0x1000038, [(528, 0x1000)], 0x0, 0x1000014, [0x1000], 2, false⟩,
  ⟨0x1000048, [(528, 0x1000)], 0x100004c, 0x1000014, [0x1000], 1, false⟩,
  ⟨0x1212008, [(4, 0x800)], 0x121200c, 0x1212004, [0x800], 0, false⟩,
  ⟨0x1212038, [(4, 0x800)], 0x0, 0x1212004, [0x800], 2, false⟩,
  ⟨0x1212048, [(4, 0x800)], 0x121204c, 0x1212004, [0x800], 1, false⟩]

def cntRows : List CntRow := cntRows0 ++ cntRows1

/-- Sum of index times stride. -/
def dotIdx : List Nat → List Nat → Nat
  | i :: is, s :: ss => i * s + dotIdx is ss
  | _, _ => 0

/-- The row and the indices of the counter (sel = base) or clear register (sel = clr) at an address. -/
def findCnt (sel : CntRow → Nat) (a : Nat) : List CntRow → Option (CntRow × List Nat)
  | [] => none
  | r :: rs =>
    if sel r = 0 ∨ a < sel r then findCnt sel a rs
    else match dimIdx r.dims (a - sel r) with
      | some is => some (r, is)
      | none => findCnt sel a rs

/-- Address and bit of a counter's OVF bit. -/
def CntRow.ovfAt (r : CntRow) (is : List Nat) : Nat × Nat :=
  (r.ovf + dotIdx is r.ovfStride, r.bit + (if r.bitPerIndex then is.getLastD 0 else 0))

/-- Address of a counter. -/
def CntRow.cntAt (r : CntRow) (is : List Nat) : Nat := r.base + dotIdx is (r.dims.map (·.2))

end Sys2Proof.Machine
end

