-- ==== Sys2Proof/Machine/Cells.lean ====
section
/-! DEFINITION. Sparse storage in one canonical form: keys strictly rising, no entry equal to what an unlisted key
reads as. Every memory, table and register array of the machine is one of these. -/

namespace Sys2Proof.Machine

/-- A sparse array: (key, content) pairs. -/
abbrev Cells (α : Type) := List (Nat × α)

/-- The content at key k; d is what an unlisted key reads as. -/
def cget {α : Type} (d : α) : Cells α → Nat → α
  | [], _ => d
  | (j, v) :: c, k => if j = k then v else cget d c k

/-- Insert or replace, keeping keys rising. -/
def cput {α : Type} : Cells α → Nat → α → Cells α
  | [], k, v => [(k, v)]
  | (j, w) :: c, k, v =>
    if k < j then (k, v) :: (j, w) :: c
    else if k = j then (k, v) :: c
    else (j, w) :: cput c k v

/-- Remove a key. -/
def cdel {α : Type} : Cells α → Nat → Cells α
  | [], _ => []
  | (j, w) :: c, k => if j = k then c else (j, w) :: cdel c k

/-- Write content v at key k; writing the default removes the entry. -/
def cset {α : Type} [DecidableEq α] (d : α) (c : Cells α) (k : Nat) (v : α) : Cells α :=
  if v = d then cdel c k else cput c k v

/-- Every key of [lo, lo+n) back to the default. -/
def cclear {α : Type} (c : Cells α) (lo n : Nat) : Cells α :=
  c.filter fun e => e.1 < lo || lo + n ≤ e.1

/-- The contents of [src, src+n) copied over [dst, dst+n). -/
def ccopy {α : Type} (c : Cells α) (src dst n : Nat) : Cells α :=
  let moved := (c.filter fun e => src ≤ e.1 && e.1 < src + n).map fun e => (e.1 - src + dst, e.2)
  (c.filter fun e => e.1 < dst) ++ moved ++ (c.filter fun e => dst + n ≤ e.1)

/-- Write a list of contents at consecutive keys. -/
def csetList {α : Type} [DecidableEq α] (d : α) : Cells α → Nat → List α → Cells α
  | c, _, [] => c
  | c, k, v :: vs => csetList d (cset d c k v) (k + 1) vs

/-- Read n contents at consecutive keys. -/
def cgetList {α : Type} (d : α) (c : Cells α) (k : Nat) : Nat → List α
  | 0 => []
  | n + 1 => cget d c k :: cgetList d c (k + 1) n

/-- Keys rise strictly from lo on. -/
def cellsSorted {α : Type} : Nat → Cells α → Bool
  | _, [] => true
  | lo, (k, _) :: c => lo ≤ k && cellsSorted (k + 1) c

/-- The canonical form: keys strictly rising, no entry equal to the default. -/
def cellsWf {α : Type} [DecidableEq α] (d : α) (c : Cells α) : Bool :=
  cellsSorted 0 c && c.all fun e => e.2 ≠ d

end Sys2Proof.Machine
end

