-- ==== Sys2Proof/Machine/State.lean ====
section
/-! DEFINITION. The state of the PW9600, as plain data: every register, memory, queue, counter and mode the spec names,
each with the rule that names it, its width and its reset value (rule | width | reset), and the queue of commands that
wait. -/

namespace Sys2Proof.Machine
open Sys2Proof

/-- The parts of a headland in the order of the timetable (R23, R27). -/
inductive Stage where
  | commit | latch | release | mark | apply | flush | check | refresh | replay | stake | stretch
deriving DecidableEq, Repr

/-- Where a plot stands in its timetable (R21, R23). -/
inductive Phase where
  | stopped
  | step (s : Nat)
  | head (g : Stage)
deriving DecidableEq, Repr

/-- What the headland in progress carries (R24, R27). -/
structure Headland where
  /-- the decision failed -/
  fail : Bool := false
  /-- a pass was due and committed -/
  commit : Bool := false
  /-- the plot takes a hold at its end -/
  hold : Bool := false
  refresh : Bool := false
  replay : Bool := false
  stake : Bool := false
  stretch : Nat := 0
  /-- the plot stops at its end -/
  stop : Bool := false
  /-- the pass before it was executed before (R194) -/
  again : Bool := false
  /-- the plot had diverged at its step 23 (R213) -/
  div : Bool := false
deriving DecidableEq, Repr

/-- Pass timing of a plot. -/
structure TimeSt where
  /-- place in the timetable (R21, R23, 01_passes_and_headland.md) | stage | stopped (R5) -/
  phase : Phase := .stopped
  /-- PLT_PN, the executing pass (R40, 01_passes_and_headland.md) | 64 bits | 0 -/
  pn : Nat := 0
  /-- PLT_CPN, committed passes (R40, 01_passes_and_headland.md) | 64 bits | 0 -/
  cpn : Nat := 0
  /-- step clock count at which the present part of the timetable begins (R6, R22, 00_scope.md) | count | 0 -/
  due : Nat := 0
  /-- step clock count at which the executing pass began (R158, 06_exchange.md) | count | 0 -/
  start : Nat := 0
  /-- step clock counts at which the last replay turn began and ended (R164, 06_exchange.md) | pair of counts | (0, 0) -/
  turn : Nat × Nat := (0, 0)
  /-- next pass whose decision is due; below the executing pass in a suppressed span (R204, 07_commit_and_stakes.md) | 64 bits | 0 -/
  dpn : Nat := 0
  /-- the plot has been launched since its image was committed (R59, R159, 02_boolean_processor.md) | 1 bit | 0 -/
  launched : Bool := false
  /-- 1 + highest PN whose headland has begun (R38, R174, 01_passes_and_headland.md) | 64 bits | 0 -/
  headTop : Nat := 0
  /-- stretch table: level by target PN (R37, 01_passes_and_headland.md) | 4 bits | 0 -/
  stretch : Cells Nat := []
  /-- stretch notices seen: (device ID, target PN, level) (R37, 01_passes_and_headland.md) | list | empty -/
  notices : List (Nat × Nat) := []
  /-- contents of the headland in progress (R27, 01_passes_and_headland.md) | record | empty -/
  hl : Headland := {}
deriving DecidableEq, Repr

/-- The memories of the Boolean processors. Keys are built from the physical furrow, the BP and the index. -/
structure BpMem where
  /-- instruction memory, 1,024 words per BP (R44, 02_boolean_processor.md) | 80 bits | 0, DESIGN CHOICE 0, log 2 -/
  imem : Cells (BitVec 80) := []
  /-- data memory, 1,024 slots per BP (R53, 02_boolean_processor.md) | 2 bits | X, DESIGN CHOICE X, log 2 -/
  dmem : Cells Val := []
  /-- state store, 256 slots in 6 versions per BP (R54, 02_boolean_processor.md) | 2 bits | X, DESIGN CHOICE X, log 2 -/
  sstore : Cells Val := []
  /-- carry map: 1 + the carried data memory slot of a state slot, 0 for none (R60, 02_boolean_processor.md) | 11 bits | 0, DESIGN CHOICE 0, log 2 -/
  carry : Cells Nat := []
  /-- furrow bus, the results of the previous step (R42, R78, 02_boolean_processor.md) | 2 bits per BP | X (R52) -/
  bus : Cells Val := []
  /-- results of the previous step whose word had PRB = 1 and offers a probe (R50, R97, 03_furrows.md) | 1 bit per BP | 0, DESIGN CHOICE 0, log 2 -/
  offered : Cells Bool := []
  /-- debug tags: data memory slots written in this pass by a LUT, BUSRES or gang leader (R236, 08_compiler_contract.md) | 1 bit | 0 (R236) -/
  slotTag : Cells Bool := []
  /-- debug tags: state slots written in this pass (R236, 08_compiler_contract.md) | 1 bit | 0 (R236) -/
  stateTag : Cells Bool := []
deriving DecidableEq, Repr

/-- One undo-ring entry of furrow RAM (R93). -/
structure UndoEntry where
  pn : Nat
  /-- first value index of the word in the 32,768 values -/
  base : Nat
  old : List Val
  /-- one of the 16 entries reserved for host writes -/
  host : Bool
  /-- old contents of a host write to a plot that stands still, kept by device firmware beside a ring whose 16 entries are in
  use (log 50) -/
  spare : Bool
deriving DecidableEq, Repr

/-- A furrow RAM read on its way to the memory return register (R90). -/
structure RamRead where
  furrow : Nat
  phys : Nat
  pn : Nat
  due : Nat
  base : Nat
  vals : List Val
deriving DecidableEq, Repr

/-- The memories of the furrow ports. Keys are built from the physical furrow and the index. -/
structure FurMem where
  /-- port schedule words, 1,024 per furrow (R79, 03_furrows.md) | 192 bits | 0, DESIGN CHOICE 0, log 2 -/
  psw : Cells (BitVec 192) := []
  /-- gather descriptors, 256 per furrow (R85, 03_furrows.md) | 704 bits | 0, DESIGN CHOICE 0, log 2 -/
  gdesc : Cells (BitVec 704) := []
  /-- memory windows, 256 per furrow (R134, 05_design_memory.md) | 64 bits | 0, DESIGN CHOICE 0, log 2 -/
  win : Cells (BitVec 64) := []
  /-- probe descriptors, 255 per furrow (R96, 03_furrows.md) | 256 bits | 0, DESIGN CHOICE 0, log 2 -/
  pdesc : Cells (BitVec 256) := []
  /-- signature feed descriptors, 255 per furrow (R98, 03_furrows.md) | 512 bits | 0, DESIGN CHOICE 0, log 2 -/
  sdesc : Cells (BitVec 512) := []
  /-- furrow RAM, 32,768 values per furrow (R89, 03_furrows.md) | 2 bits | X, DESIGN CHOICE X, log 2 -/
  ram : Cells Val := []
  /-- undo rings, 256 entries per furrow, oldest first (R93, 03_furrows.md) | 256 entries | empty, DESIGN CHOICE empty, log 2 -/
  undo : Cells (List UndoEntry) := []
  /-- memory return register, 64 values per furrow (R52, R92, 03_furrows.md) | 128 bits | X (R92) -/
  memRet : Cells Val := []
  /-- furrow RAM reads in flight (R90, 03_furrows.md) | list | empty, DESIGN CHOICE empty, log 2 -/
  ramReads : List RamRead := []
  /-- receive tracks, 16 per furrow (R52, R117, 04_field_switch.md) | 2 bits | X (R117) -/
  rx : Cells Val := []
  /-- Field I/O input bits, 32 per furrow (R101, 03_furrows.md) | 2 bits | X (R100) -/
  inBits : Cells Val := []
  /-- output staging entries of the current pass, 32 per furrow (R102, 03_furrows.md) | 2 bits | X, DESIGN CHOICE X, log 2 -/
  outStage : Cells Val := []
  /-- debug tags: receive tracks with an arrival in this pass (R236, 08_compiler_contract.md) | 1 bit | 0 (R236) -/
  rxTag : Cells Bool := []
  /-- debug tags: memory return bits delivered in this pass (R236, 08_compiler_contract.md) | 1 bit | 0 (R236) -/
  retTag : Cells Bool := []
  /-- furrows out of service after a substitution (R105, 03_furrows.md) | list of physical furrows | empty (R104) -/
  failed : List Nat := []
deriving DecidableEq, Repr

/-- The field switch (R110, R117, R122, R125). -/
structure SwMem where
  /-- route entries of plot, bank and acre: the select of every stage output (R112, R125, 04_field_switch.md) | 64 bits each | empty, DESIGN CHOICE empty, log 2 -/
  routes : Cells (List (BitVec 64)) := []
  /-- values sent in this pass by send track and step, on their way through the switch (R81, R113, 04_field_switch.md) | 2 bits | nothing sent -/
  sent : Cells Val := []
  /-- import groups presented in this pass by plot, acre, group and step (R111, R169, 04_field_switch.md) | 16 bits | 0x5555 (R115) -/
  pres : Cells (BitVec 16) := []
  /-- gate staging by gate and pass (R122, 04_field_switch.md) | list of (gate, PN, value) | empty, DESIGN CHOICE empty, log 2 -/
  gateStage : List (Nat × Nat × Val) := []
  /-- gate samples for the destination plot's pass, by gate (R123, 04_field_switch.md) | 2 bits | X, DESIGN CHOICE X, log 2 -/
  gateSample : Cells Val := []
  /-- gates that have taken a value since their declaration (R124, 04_field_switch.md) | 1 bit | 0 (R124) -/
  gateTaken : Cells Bool := []
  /-- the value each parked gate held when its parking began (R124, 04_field_switch.md) | 2 bits | X, DESIGN CHOICE X, log 2 -/
  gateHeld : Cells Val := []
  /-- standby banks that firmware writes for a running plot: (plot, pass P) (R126, 04_field_switch.md) | list | empty -/
  plans : List (Nat × Nat) := []
  /-- plots whose written bank waits for their next hold (R126, 04_field_switch.md) | list | empty -/
  late : List Nat := []
deriving DecidableEq, Repr

/-- One write-queue entry of a pseudo-channel (R144). -/
structure WqEntry where
  pc : Nat
  plot : Nat
  /-- device HBM address of the first byte -/
  addr : Nat
  /-- bytes held, none for an empty entry -/
  data : List Byte
  pn : Nat
  step : Nat
  furrow : Nat
  committed : Bool
  /-- entered by a host write (R148) -/
  host : Bool
deriving DecidableEq, Repr

/-- One scheduled HBM read, from issue until the pass that consumes it commits (R138, R142). -/
structure HbmRead where
  plot : Nat
  furrow : Nat
  pc : Nat
  addr : Nat
  issuePn : Nat
  /-- pass and step of delivery -/
  pn : Nat
  step : Nat
  dcnt : Nat
  twoVal : Bool
  /-- the word as the order of R143 gives it at issue, none when the address was unknown or an express flit of the access was
  lost (R421), which leaves it without values -/
  word : Option (List Byte)
  /-- for each ECC word of the word: it came from a write-queue entry at issue (R145) -/
  forwarded : List Bool
  /-- values that reached the furrow, none before they did -/
  vals : Option (List Val)
  delivered : Bool
deriving DecidableEq, Repr

/-- The HBM stacks and their controllers. -/
structure HbmMem where
  /-- 48 GiB of HBM, by device HBM address (R130, 05_design_memory.md) | 8 bits | 0 (R153) -/
  mem : Cells Byte := []
  /-- write queues of the 64 PCs, 512 entries each, oldest first (R144, 05_design_memory.md) | list | empty (R154) -/
  wq : List WqEntry := []
  /-- scheduled reads in flight and the return buffers (R138, R142, 05_design_memory.md) | list | empty, DESIGN CHOICE empty, log 2 -/
  reads : List HbmRead := []
  /-- suspect lists, 16 ECC word addresses per PC (R150, 05_design_memory.md) | list of (PC, address) | empty, DESIGN CHOICE empty, log 2 -/
  suspects : List (Nat × Nat) := []
  /-- row trackers, 64 rows per PC: (PC, row, count) (R466, 16_faults_and_gleaner.md) | list | empty, DESIGN CHOICE empty, log 2 -/
  rows : List (Nat × Nat × Nat) := []
  /-- channels in self-refresh (R131, R465, 16_faults_and_gleaner.md) | 1 bit | 0, DESIGN CHOICE 0, log 2 -/
  selfRefresh : Bool := false
  /-- all-bank refreshes issued per PC (R33, R34, 01_passes_and_headland.md) | count | 0 -/
  refreshes : Cells Nat := []
  /-- design words written while a stake watches them, the undo journal: (plot, address, old bytes, PN) oldest first (R210, 07_commit_and_stakes.md) | 32-byte entries | empty -/
  journal : List (Nat × Nat × List Byte × Nat) := []
  /-- remap entries whose row has been copied, on PCs of running plots: (PC, entry) (R152, 05_design_memory.md) | list | empty -/
  ready : List (Nat × Nat) := []
  /-- a stack failed its training (R153, 05_design_memory.md) | 1 bit | 0 -/
  failed : Bool := false
deriving DecidableEq, Repr

/-- A group on its way to an import group or to an outgoing frame (R169, R170). -/
structure GroupHeld where
  plot : Nat
  relay : Bool
  /-- acre of the import group, or outbound port of a relay -/
  dst : Nat
  /-- import group, or 48 * logical lane + group of the outgoing frame -/
  grp : Nat
  /-- pass and step of presentation, or pass and send step of the relay -/
  pn : Nat
  step : Nat
  sentPn : Nat
  carried : Bool
  data : BitVec 16
  /-- port the group arrived on -/
  port : Nat
  done : Bool
deriving DecidableEq, Repr

/-- A CTRL packet waiting on a port (R181). -/
structure CtrlWait where
  port : Nat
  high : Bool
  words : List Word
deriving DecidableEq, Repr

/-- The exchange engine. -/
structure XchMem where
  /-- Exchange Table, 2,097,152 entries with check bits (R166, 06_exchange.md) | 64 bits | 0, DESIGN CHOICE 0, log 2 -/
  xt : Cells (BitVec 64) := []
  /-- HBM copies of loaded halves, kept by firmware (R172, 06_exchange.md) | 64 bits | 0, DESIGN CHOICE 0, log 2 -/
  xtCopy : Cells (BitVec 64) := []
  /-- groups sampled for the frames of this pass, by port, lane, frame and group (R168, 06_exchange.md) | 16 bits | 0x5555 (R162) -/
  txGroups : Cells (BitVec 16) := []
  /-- arriving groups, with the import and relay retention buffers (R169-R171, 06_exchange.md) | list | empty, DESIGN CHOICE empty, log 2 -/
  held : List GroupHeld := []
  /-- next DATA frame of the pass on a logical lane, by port and lane (R158, 06_exchange.md) | 5 bits | 0 -/
  txFrame : Cells Nat := []
  /-- ALIVE of the next frame sent on a logical lane (R164, 06_exchange.md) | 8 bits | 0 (R164) -/
  txAlive : Cells Nat := []
  /-- 1 + the ALIVE expected on a logical lane, 0 where the next frame sets it (R163, R164, 06_exchange.md) | 8 bits | not checked (R164) -/
  rxAlive : Cells Nat := []
  /-- where the slots of a lane lie: 1 + the step clock count mod 32 at which they begin, by port * 9 + lane; 0 before the lane's
  first fill (R158, R159, 06_exchange.md) | 0-32 | 0, DESIGN CHOICE 0, log 67 -/
  txGrid : Cells Nat := []
  /-- lanes of a port that have sent their slot of the present slot period: (port, logical lane) (R181, 06_exchange.md) | list | empty -/
  slotSent : List (Nat × Nat) := []
  /-- end of the replay turn after which a lane last set its ALIVE expectation, by port * 9 + lane (R164, 06_exchange.md) | count | 0 -/
  rxTurn : Cells Nat := []
  /-- CTRL queues of the 16 ports, 64 packets each, oldest first (R181, 06_exchange.md) | list | empty, DESIGN CHOICE empty, log 2 -/
  ctrlQ : List CtrlWait := []
  /-- the last 1,024 (SRCID, SEQ) pairs of flooded packets, newest first (R180, 06_exchange.md) | list | empty, DESIGN CHOICE empty, log 2 -/
  seen : List (Nat × Nat) := []
  /-- per-source sequence of the packets this device originates (R177, 06_exchange.md) | 16 bits | 0, DESIGN CHOICE 0, log 2 -/
  seq : Nat := 0
deriving DecidableEq, Repr

/-- An event charged to a pass of a plot (R185, R200). -/
structure Charge where
  pn : Nat
  block : Nat
  cause : Nat
  loc : Word
  /-- physical furrow, acre, PC, or port * 8 + lane of the event -/
  unit : Nat
deriving DecidableEq, Repr

/-- A record of the input log (R211). -/
inductive LogRec where
  /-- latch of one Field I/O port for a pass: packed values of its 32 pins -/
  | latch (pn port : Nat) (vals : BitVec 64)
  /-- mid-pass sample of one port -/
  | sample (pn step port : Nat) (vals : BitVec 64)
  | gate (pn g : Nat) (v : Val)
  | poke (pn furrow bp slot : Nat) (v : Val)
  /-- furrow RAM word written by the host -/
  | ramWrite (pn furrow base : Nat) (vals : List Val)
  /-- design memory bytes written by the host -/
  | memWrite (pn addr : Nat) (data : List Byte)
  /-- a signature unit restarted by a restart write or SIG_CONFIG -/
  | sigRestart (pn unit : Nat)
  /-- a force installed or removed -/
  | force (pn furrow bp slot : Nat) (v : Val)
  | unforce (pn furrow bp slot : Nat)
deriving DecidableEq, Repr

/-- What a stake copies (R206); state and RAM by logical furrow, which a substitution leaves as it is. -/
structure StakeCopy where
  pn : Nat
  state : Cells Val
  ram : Cells Val
  reads : List HbmRead
  groups : List GroupHeld
  gates : List (Nat × Val)
  outs : List (Nat × Val)
deriving DecidableEq, Repr

/-- A stake in progress (R207). -/
structure StakeRun where
  copy : StakeCopy
  slices : Nat
  /-- bytes of the body already written -/
  body : Nat
  /-- overflow of R212 while the stake was in progress -/
  overflow : Bool
deriving DecidableEq, Repr

/-- What the restore of a recovery took from a plot, for a hold that is abandoned afterwards (R215). -/
structure TakenBack where
  /-- the plot at the start of its oldest uncommitted pass -/
  copy : StakeCopy
  /-- design words that the undo journal overwrote: address and bytes -/
  words : List (Nat × List Byte)
  /-- journal entries applied -/
  journal : List (Nat × Nat × List Byte × Nat)
  /-- committed write-queue entries discarded -/
  wq : List WqEntry
deriving DecidableEq, Repr

/-- A hold of a plot (R199, R200, R215). -/
structure Hold where
  recovery : Bool
  k : Nat
  /-- recovery point named by this device -/
  point : Nat
  /-- FT ns at which the hold began -/
  since : Nat
  action : Nat
  failed : Bool
  /-- FT ns at which this device flooded its READY packet -/
  sent : Option Nat
  /-- lanes that the hold spares, port * 16 + logical lane (R261) -/
  lanes : List Nat
  /-- READY packets received: (device, point, failed) -/
  ready : List (Nat × Nat × Bool)
  /-- the ROLLBACK command the hold performs -/
  cmd : Option Nat
  /-- what the restore of this hold took back, none before it and in a suppressed span -/
  back : Option TakenBack
deriving DecidableEq, Repr

/-- Commit, replay, hold and stake state of a plot. -/
structure CommitSt where
  /-- fail flags: the uncommitted passes whose flag is set (R187, 07_commit_and_stakes.md) | list | empty -/
  flags : List Nat := []
  /-- passes whose present execution has flooded its vote packet (R191, 07_commit_and_stakes.md) | list | empty -/
  voted : List Nat := []
  /-- events charged to uncommitted passes (R200, 07_commit_and_stakes.md) | list | empty -/
  charges : List Charge := []
  /-- passes discarded and not yet begun again: first and last (R185, 07_commit_and_stakes.md) | two PNs | none -/
  discarded : Option (Nat × Nat) := none
  /-- PN of the last failed decision, none before one (R192, 07_commit_and_stakes.md) | 64 bits | none -/
  lastFail : Option Nat := none
  /-- highest PN executed, 1 + (R196, 07_commit_and_stakes.md) | 64 bits | 0 -/
  top : Nat := 0
  /-- first PN at which waiting host operations apply (R196, 07_commit_and_stakes.md) | 64 bits | 0 -/
  hostFrom : Nat := 0
  /-- hold in progress (R199-R202, 07_commit_and_stakes.md) | record | none -/
  hold : Option Hold := none
  /-- RESUME accepted: resume pass and start instant in FT ns (R203, 07_commit_and_stakes.md) | PN and FT | none -/
  resume : Option (Nat × Nat) := none
  /-- end of the suppressed span: pass k (R204, 07_commit_and_stakes.md) | 64 bits | none -/
  suppress : Option Nat := none
  /-- FT ns at which the pause now measured began (R214, R218, 07_commit_and_stakes.md) | 64 bits | 0 -/
  pauseSince : Nat := 0
  /-- a divergence waits for step 23 (R213, 07_commit_and_stakes.md) | 1 bit | 0 -/
  diverge : Bool := false
  /-- fault status still to be reported by RUN, STEP_PASS or HALT (R26, R198, R150, 07_commit_and_stakes.md) | status code | none -/
  fault : Option Nat := none
  /-- an exposure is still to be reported by RUN, STEP_PASS or HALT (R198, 07_commit_and_stakes.md) | 1 bit | 0 -/
  exposed : Bool := false
  /-- passes in which a hazard was raised (R238, 08_compiler_contract.md) | list | empty -/
  hazards : List Nat := []
  /-- passes whose commit stops the plot for POISON_HALT (R150, 05_design_memory.md) | list | empty -/
  poisoned : List Nat := []
  /-- a stop asked for by EXPOSE_HALT, POISON_HALT or a hazard at step 23 (R198, R150, R238, 07_commit_and_stakes.md) | 1 bit | 0 -/
  stopNow : Bool := false
  /-- ROLLBACKs named by packet or command: PN and command (R215, R217, 07_commit_and_stakes.md) | list | empty -/
  rollback : List (Nat × Option Nat) := []
  /-- recoveries whose pass k has not been reached again: k, and the key of the ROLLBACK command or 0 (R204, R215,
  07_commit_and_stakes.md) | list | empty -/
  recov : List (Nat × Nat) := []
  /-- state of the newest committed pass, while a recovery has taken the state store back behind it, by logical furrow (R59,
  R202, 07_commit_and_stakes.md) | slots | none -/
  kept : Option (Cells Val) := none
  /-- stake slices in progress (R207, 07_commit_and_stakes.md) | record | none -/
  stake : Option StakeRun := none
  /-- stake written and not yet the recovery point (R209, R210, R211, 07_commit_and_stakes.md) | PN | none -/
  awaits : Option Nat := none
  /-- the two stake areas (R209, 07_commit_and_stakes.md) | two stakes | none -/
  area0 : Option StakeCopy := none
  area1 : Option StakeCopy := none
  /-- STAKE_DONE received: (S, device, status) (R209, 07_commit_and_stakes.md) | list | empty -/
  done : List (Nat × Nat × Nat) := []
  /-- extra stakes asked for by STAKE: (PN, command) (R205, 07_commit_and_stakes.md) | list | empty -/
  extra : List (Nat × Nat) := []
  /-- input log (R211, 07_commit_and_stakes.md) | list | empty -/
  log : List LogRec := []
deriving DecidableEq, Repr

/-- One accepted segment of a seed image part (R330, R340). -/
structure Seg where
  idx : Nat
  kind : Nat
  iv : Nat
  body : List Byte
deriving DecidableEq, Repr

/-- Image and sowing state of a plot. -/
structure ImgSt where
  /-- seed shadow: decrypted content of every accepted segment (R340, 12_sowing_and_release.md) | list of segments | empty -/
  shadow : List Seg := []
  /-- part header body accepted (R333, 12_sowing_and_release.md) | 128 bytes | empty -/
  header : List Byte := []
  /-- IMGID of the part (R330, 12_sowing_and_release.md) | 64 bits | 0 -/
  imgid : Nat := 0
  /-- KEYSLOT of the part header accepted (R330, 12_sowing_and_release.md) | 8 bits | 0 -/
  keyslot : Nat := 0
  /-- device IDs of the plot devices record (R332, 12_sowing_and_release.md) | list | empty -/
  devices : List Nat := []
  /-- NDEV of the part (R333, 12_sowing_and_release.md) | 18 bits | 0 -/
  ndev : Nat := 0
  /-- stake body bytes of the part (R333, R234, 12_sowing_and_release.md) | 64 bits | 0 -/
  stakeBytes : Nat := 0
  /-- register settings that name FUR registers, by logical furrow: (furrow, offset, value) (R332, 12_sowing_and_release.md) | list | empty -/
  settings : List (Nat × Nat × Nat) := []
  /-- essential map: words that are essential, by furrow * 132096 + bit (R341, 12_sowing_and_release.md) | 1 bit | 0 -/
  essential : Cells Bool := []
  /-- initial output values, by logical furrow * 32 + binding (R301, R332, 11_field_io_and_signatures.md) | 2 bits | Z (R337) -/
  initOut : Cells Val := []
  /-- initial state, by logical furrow, BP and slot (R54, R332, 02_boolean_processor.md) | 2 bits | X (R337) -/
  initState : Cells Val := []
  /-- global set-reset asserted (R335, R347, 12_sowing_and_release.md) | 1 bit | 0, DESIGN CHOICE 0, log 2 -/
  gsr : Bool := false
  /-- a CKPT_IMPORT stands in place of the initial state (R489, 17_power_clocks_resets.md) | 1 bit | 0 -/
  imported : Bool := false
  /-- write enables granted (R342, 12_sowing_and_release.md) | 1 bit | 0 -/
  writeEn : Bool := false
  /-- status that caused FAILED (R336, 12_sowing_and_release.md) | status code | 0 -/
  failStatus : Nat := 0
deriving DecidableEq, Repr

/-- One SOWN packet held (R344, R345). -/
structure SownPkt where
  device : Nat
  status : Nat
  version : Nat
  hash : List Word
  limit : Nat
  recov : Bool
deriving DecidableEq, Repr

/-- A release in progress (R342). -/
structure RelSt where
  /-- stage of the release, 0 for none (R342, 12_sowing_and_release.md) | 3 bits | 0 -/
  stage : Nat := 0
  /-- matching-store key of the RELEASE command (R342, 12_sowing_and_release.md) | key | 0 -/
  cmd : Nat := 0
  /-- local status of R230 (R342, 12_sowing_and_release.md) | status code | 0 -/
  localStatus : Nat := 0
  /-- FT ns at the start of stage 3 (R342, 12_sowing_and_release.md) | 64 bits | 0 -/
  since : Nat := 0
  /-- FT ns of the last SOWN packet sent (R344, 12_sowing_and_release.md) | 64 bits | 0 -/
  sent : Nat := 0
  /-- SOWN_N has been read high through its filter (R343, 12_sowing_and_release.md) | 1 bit | 0 -/
  pinHigh : Bool := false
  /-- SOWN packets held for the plot (R344, 12_sowing_and_release.md) | list | empty -/
  packets : List SownPkt := []
  /-- link version of the plot, major [7:4] minor [3:0] (R255, 09_fabric_lanes.md) | 8 bits | 0 -/
  version : Nat := 0
deriving DecidableEq, Repr

/-- One entry of a plot memory map (R399, R423). -/
structure MapEntry where
  page : Nat
  use : Nat
  lifted : Bool
deriving DecidableEq, Repr

/-- Resources granted to a plot (R394). -/
structure Res where
  /-- logical furrows, ascending (R394, 14_plots_hosts_network.md) | list | empty (R393) -/
  furrows : List Nat := []
  /-- fabric ports (R394, 14_plots_hosts_network.md) | list | empty (R393) -/
  ports : List Nat := []
  /-- pseudo-channels, ascending (R394, 14_plots_hosts_network.md) | list | empty (R393) -/
  pcs : List Nat := []
  /-- signature units (R394, 14_plots_hosts_network.md) | list | empty (R393) -/
  sigs : List Nat := []
  /-- Field I/O ports (R394, 14_plots_hosts_network.md) | list | empty (R393) -/
  fios : List Nat := []
  /-- trigger units (R394, 14_plots_hosts_network.md) | list | empty (R393) -/
  tus : List Nat := []
  /-- plot memory map (R399, 14_plots_hosts_network.md) | list of entries | empty (R393) -/
  map : List MapEntry := []
  /-- trunks held: acre * 64 + trunk (R118, 04_field_switch.md) | list | empty -/
  trunks : List Nat := []
deriving DecidableEq, Repr

/-- An eviction save (R411). -/
structure SaveCopy where
  copy : StakeCopy
  /-- physical furrows, and the logical ones in the same order -/
  furrows : List Nat
  logical : List Nat
  trunks : List Nat
deriving DecidableEq, Repr

/-- Identity, ownership, fallow and host work of a plot. -/
structure PlotId where
  /-- the plot exists (R393, 14_plots_hosts_network.md) | 1 bit | 0 -/
  live : Bool := false
  /-- owner function (R393, 14_plots_hosts_network.md) | 6 bits | 0 -/
  owner : Nat := 0
  /-- plot tag (R393, 14_plots_hosts_network.md) | 16 bits | 0 -/
  ptag : Nat := 0
  /-- released since it was created: its RW-L fields are locked (R13, 00_scope.md) | 1 bit | 0 -/
  locked : Bool := false
  /-- destroy fill in progress (R397, 14_plots_hosts_network.md) | 1 bit | 0 -/
  zeroing : Bool := false
  /-- commands waiting for headland steps 10-23, in submission order (R25, 01_passes_and_headland.md) | list of store keys | empty -/
  hostQ : List Nat := []
  /-- forced slots before the log's records, at most 4,096: (furrow, BP, slot, value) (R379, 13_dziene_commands.md) | list | empty -/
  forces : List (Nat × Nat × Nat × Val) := []
  /-- stop requests: (kind 0 HALT, 1 light, 2 evict, 3 pre-empt; PN; command key or 0) (R26, 01_passes_and_headland.md) | list | empty -/
  stops : List (Nat × Option Nat × Nat) := []
  /-- stop requests that the stop of this headland serves (R26, 01_passes_and_headland.md) | list | empty -/
  serving : List (Nat × Option Nat × Nat) := []
  /-- a start waits for its instant: (FT ns, pass, kind 0 launch, 1 resume) (R290, 10_field_time.md) | record | none -/
  startAt : Option (Nat × Nat × Nat) := none
  /-- light fallow, eviction or pre-emption entered at FT ns (R450, 15_harvest.md) | 64 bits | 0 -/
  fallowFt : Nat := 0
  /-- eviction save (R411, 14_plots_hosts_network.md) | record | none -/
  save : Option SaveCopy := none
deriving DecidableEq, Repr

/-- Zero-fill in progress after a revoke, a destroy or a handover: resource kind and index (R395, R397, R405). -/
structure ZeroFill where
  kind : Nat
  index : Nat
deriving DecidableEq, Repr

/-- Scratchpad, internal network and background fills. -/
structure IoTile where
  /-- scratchpad, 64 banks of 256 KiB (R401, 14_plots_hosts_network.md) | 8 bits | 0, DESIGN CHOICE 0, log 2 -/
  spm : Cells Byte := []
  /-- handovers in progress: (bank, zero-fill) (R405, 14_plots_hosts_network.md) | list | empty -/
  handover : List (Nat × Bool) := []
  /-- zero-fills in progress (R395, R397, 14_plots_hosts_network.md) | list | empty -/
  zero : List ZeroFill := []
  /-- plots whose destroy fill is in progress, with the command to complete or 0 (R397, R398, 14_plots_hosts_network.md) | list | empty -/
  destroying : List (Nat × Nat) := []
  /-- FT ns of uncorrectable flits by plane within the last ms (R421, 14_plots_hosts_network.md) | list of (plane, FT) | empty -/
  planeUe : List (Nat × Nat) := []
  /-- planes among which firmware reserved the express slots of a plot, as PLANE_EN, 0 for none reserved (R418, R421,
  14_plots_hosts_network.md) | 4 bits by plot | 0 -/
  planesAt : Cells Nat := []
  /-- firmware diagnoses a plane fault in sorted mode (R420, 14_plots_hosts_network.md) | 1 bit | 0 -/
  diagnosing : Bool := false
deriving DecidableEq, Repr

/-- A record body waiting for its stream header (R428, R429). -/
structure EvRec where
  rtype : Nat
  len : Nat
  plot : Option Nat
  pn : Nat
  ft : Nat
  body : List Word
  /-- goes into the device event ring -/
  toDev : Bool
  /-- goes into the plot stream -/
  toPlot : Bool
deriving DecidableEq, Repr

/-- One stream's ring (R426, R435). Positions count all bytes ever written; the ring offset of a position is its
remainder by the ring's size. -/
structure Ring where
  /-- drain position of a plot stream -/
  dptr : Nat := 0
  seq : Nat := 0
  epoch : Bool := false
  /-- records held, oldest first: (position, length in bytes, PV, PLOT, SEQ, EPOCH) -/
  recs : List (Nat × Nat × Bool × Nat × Nat × Bool) := []
  /-- bytes overwritten before they were drained, with the SEQ and EPOCH of the first -/
  lostBytes : Nat := 0
  lostSeq : Nat := 0
  lostEpoch : Bool := false
  /-- total bytes ever written -/
  total : Nat := 0
  /-- FT ns of the last TIME_SYNC record, and records since -/
  syncFt : Nat := 0
  syncRecs : Nat := 0
deriving DecidableEq, Repr

/-- Harvest state of a plot stream. -/
structure HvtSt where
  /-- trace ring of the plot (R426, R434, 15_harvest.md) | ring | empty -/
  ring : Ring := {}
  /-- sequencer counter (R442, 15_harvest.md) | 16 bits | 0 -/
  cnt : Nat := 0
  /-- probe captures of the current pass: (furrow, values) in capture order (R97, R432, 03_furrows.md) | up to 512 per furrow | empty -/
  probes : List (Nat × List Val) := []
  /-- trigger words of the current pass: (unit, values) (R438, 15_harvest.md) | list | empty -/
  words : List (Nat × List Val) := []
  /-- speculative hits by pass: (PN, unit) (R440, 15_harvest.md) | list | empty -/
  hits : List (Nat × Nat) := []
  /-- words by pass: (PN, unit, values) (R439, R441, 15_harvest.md) | list | empty -/
  passWords : List (Nat × Nat × List Val) := []
  /-- word of the previous committed pass by unit (R439, 15_harvest.md) | 64 bits | none -/
  prevWord : List (Nat × List Val) := []
  /-- reduction state by unit: (unit, samples, X samples, min, max, valid) (R441, 15_harvest.md) | list | empty -/
  reduce : List (Nat × Nat × Nat × Int × Int × Bool) := []
  /-- FT ns of the fire (R443, 15_harvest.md) | 64 bits | 0 -/
  fireFt : Nat := 0
  /-- hold-off remaining in passes or hits, or its end in FT ns (R444, 15_harvest.md) | 64 bits | 0 -/
  hold : Nat := 0
  /-- first pass after the arming: it has no previous word (R439, 15_harvest.md) | PN | 0 -/
  armPn : Nat := 0
  /-- a pass committed at this headland whose hits, reductions and sequencer step are due (R440-R442, 15_harvest.md) | 1 bit | 0 -/
  due : Bool := false
  /-- pending TRACE_ARM: PN or the next headland, command, by packet (R445, 15_harvest.md) | record | none -/
  armAt : Option (Option Nat × Option Nat × Nat) := none
  /-- pending TRACE_STOP: PN or the next headland, command (R448, 15_harvest.md) | record | none -/
  stopAt : Option (Option Nat × Nat) := none
  /-- passes of probes lost and the first of them (R433, 15_harvest.md) | two counts | 0 -/
  lost : Nat := 0
  lostPn : Nat := 0
  /-- FIRE repetitions left and the FT ns of the next (R446, 15_harvest.md) | count and FT | 0 -/
  fireRep : Nat := 0
  fireNext : Nat := 0
  /-- T and fire FT of the device's own FIRE, which it repeats (R446, 15_harvest.md) | PN and FT ns | 0 -/
  fireOwn : Nat × Nat := (0, 0)
deriving DecidableEq, Repr

/-- Harvest state of the device. -/
structure HvtDev where
  /-- device event ring: positions and records (R426, 15_harvest.md) | ring | empty -/
  ring : Ring := {}
  /-- device event ring, 64 MiB of firmware pages: dwords by offset / 4 (R426, 15_harvest.md) | 32 bits | 0, DESIGN CHOICE 0, log 2 -/
  evMem : Cells Word := []
  /-- event FIFO of 1,024 records, oldest first (R427, 15_harvest.md) | list | empty -/
  fifo : List EvRec := []
  /-- events dropped since the last LOSS record (R427, 15_harvest.md) | count | 0 -/
  dropped : Nat := 0
  /-- deep fallow buffer of 4,096 slots in scratchpad bank 63 (R451, 15_harvest.md) | list | empty -/
  fallowBuf : List EvRec := []
  fallowLost : Nat := 0
  /-- FT ns at which deep fallow was entered (R451, 15_harvest.md) | 64 bits | 0 -/
  deepSince : Nat := 0
  /-- staging of 8 MiB: bytes in use, as the drain position at which it is empty (R427, 15_harvest.md) | 23 bits | 0 -/
  staging : Nat := 0
  /-- drain positions of the functions, in total bytes (R437, 15_harvest.md) | 64 bits each | 0 -/
  drain : Cells Nat := []
  /-- SEQ of the next record of each function's drain, and its EPOCH * 2^32 (R437, 15_harvest.md) | 33 bits each | 0 -/
  drainSeq : Cells Nat := []
deriving DecidableEq, Repr

/-- What a lane received in IDENT (R248, R252). -/
structure LaneId where
  device : Nat
  port : Nat
  phys : Nat
  logical : Nat
  spare : Bool
  major : Nat
  minor : Nat
  low : Nat
  rate : Bool
deriving DecidableEq, Repr

/-- One physical lane beside its registers. -/
structure Lane where
  /-- receiver clock recovery locked (R247, 09_fabric_lanes.md) | 1 bit | 0 -/
  cdr : Bool := false
  /-- the lane has passed the present phase of training (R247, 09_fabric_lanes.md) | 1 bit | 0 -/
  passed : Bool := false
  /-- the lane takes part in the training in progress (R247, 09_fabric_lanes.md) | 1 bit | 0 -/
  inSeq : Bool := false
  /-- receive frame boundary in bits moved by bit-slip (R250, 09_fabric_lanes.md) | 0-895 | 0 -/
  bound : Nat := 0
  /-- frame boundaries still to pass before the matcher counts (R249, 09_fabric_lanes.md) | 2 bits | 0 -/
  settle : Nat := 0
  /-- frames compared since the boundary settled (R250, 09_fabric_lanes.md) | 3 bits | 0 -/
  compared : Nat := 0
  /-- the complement of SYNC matched in the frames counted (R249, 09_fabric_lanes.md) | 1 bit | 0 -/
  inverse : Bool := false
  /-- consecutive frames in which SYNC matched (R249, 09_fabric_lanes.md) | 3 bits | 0 -/
  matchCnt : Nat := 0
  /-- bit offset of the last marker, 1 + (R251, 09_fabric_lanes.md) | 10 bits | 0 -/
  marker : Nat := 0
  /-- markers found at one offset (R251, 09_fabric_lanes.md) | 2 bits | 0 -/
  markers : Nat := 0
  /-- frames received since the last marker (R251, 09_fabric_lanes.md) | 13 bits | 0 -/
  sinceMarker : Nat := 0
  /-- frames transmitted (R251, 09_fabric_lanes.md) | count | 0 -/
  frames : Nat := 0
  /-- an ALIGN frame is due in the first non-DATA slot (R251, 09_fabric_lanes.md) | 1 bit | 0 -/
  markDue : Bool := false
  /-- consecutive frames that could not be decoded (R258, 09_fabric_lanes.md) | 3 bits | 0 -/
  undecoded : Nat := 0
  /-- consecutive frames decoded after low-power idle (R259, 09_fabric_lanes.md) | 7 bits | 0 -/
  decoded : Nat := 0
  /-- ALIVE of the last TRAIN frame sent (R248, 09_fabric_lanes.md) | 8 bits | 0 -/
  trainAlive : Nat := 0
  /-- what the lane received in IDENT (R252, 09_fabric_lanes.md) | record | none -/
  ident : Option LaneId := none
  /-- ALIVE and arrival step of the last four frames of the DESKEW phase, newest first (R253, 09_fabric_lanes.md) | list | empty -/
  arrival : List (Nat × Nat) := []
  /-- the lane was in service when the training began and takes part from DESKEW on (R253, R260, 09_fabric_lanes.md) | 1 bit | 0 -/
  joined : Bool := false
  /-- the lane searches for markers after its bit-slip search has failed (R251, 09_fabric_lanes.md) | 1 bit | 0 -/
  marks : Bool := false
  /-- PRBS checker register (R266, 09_fabric_lanes.md) | 31 bits | 0, DESIGN CHOICE 0, log 2 -/
  prbs : Nat := 0
  /-- PRBS generator register, 0 before its first bit (R266, 09_fabric_lanes.md) | 31 bits | 0, DESIGN CHOICE 0, log 2 -/
  gen : Nat := 0
  /-- bits sent since the last injected error (R266, 09_fabric_lanes.md) | count | 0 -/
  sinceInj : Nat := 0
  /-- transmitted bits that are to be inverted, one for each INJ_ONE (R266, 09_fabric_lanes.md) | count | 0 -/
  injOne : Nat := 0
  /-- last logical lane frame count since an IDLE frame on a plesiochronous port (R263, 09_fabric_lanes.md) | 10 bits | 0 -/
  sinceIdle : Nat := 0
deriving DecidableEq, Repr

/-- Training and port state beside the port's registers. -/
structure Port where
  /-- training phase, 0 for none (R247, 09_fabric_lanes.md) | STATE code | 0 -/
  phase : Nat := 0
  /-- step clock count at which the phase began (R247, 09_fabric_lanes.md) | count | 0 -/
  since : Nat := 0
  /-- key of the LINK_TRAIN command, 0 for firmware (R247, 09_fabric_lanes.md) | key | 0 -/
  cmd : Nat := 0
  /-- alignment: 0 bit-slip, 1 markers, 2 manual (R250, R251, 09_fabric_lanes.md) | 2 bits | 0 -/
  mode : Nat := 0
  /-- training for sparing of this logical lane, 1 + (R260, 09_fabric_lanes.md) | 4 bits | 0 -/
  sparing : Nat := 0
  /-- clocks are frequency-locked (R263, 09_fabric_lanes.md) | 1 bit | 0 -/
  locked : Bool := false
  /-- the present slot period carries markers on all nine lanes (R251, 09_fabric_lanes.md) | 1 bit | 0 -/
  markNow : Bool := false
  /-- largest ARR measured (R254, 09_fabric_lanes.md) | 16 bits | 0 -/
  arr : Nat := 0
  /-- measurements taken, at most 16 (R254, 09_fabric_lanes.md) | 5 bits | 0 -/
  measured : Nat := 0
  /-- slot start of the ping sent (R254, 09_fabric_lanes.md) | step clock count | none -/
  pingAt : Option Nat := none
  /-- first bit of a ping received and not yet answered (R254, 09_fabric_lanes.md) | step clock count | none -/
  echoFor : Option Nat := none
  /-- training by firmware of one lane alone, 1 + its physical index (R258, R260, 09_fabric_lanes.md) | 4 bits | 0 -/
  only : Nat := 0
  /-- neighbour SPARE_REQ to answer after sparing (R261, R265, 09_fabric_lanes.md) | 1 bit | 0 -/
  ackDue : Bool := false
  /-- key of the LINK_TEST in progress (R266, 09_fabric_lanes.md) | key | 0 -/
  testCmd : Nat := 0
  /-- lane and number of bits of the LINK_TEST (R266, 09_fabric_lanes.md) | pair | 0 -/
  testLane : Nat := 0
  testBits : Nat := 0
  /-- step clock count at which the PRBS test began (R266, 09_fabric_lanes.md) | count | 0 -/
  testSince : Nat := 0
  /-- PRBS_ERR and PRBS_BITS at that instant (R13, R266, 00_scope.md) | pair of counts | (0, 0) -/
  testBase : Nat × Nat := (0, 0)
deriving DecidableEq, Repr

/-- The fabric lanes and ports. -/
structure LnkSt where
  /-- the 144 lanes, port * 9 + lane (R242, 09_fabric_lanes.md) | records | as the fields -/
  lanes : Cells Lane := []
  /-- the 16 ports (R242, 09_fabric_lanes.md) | records | as the fields -/
  ports : Cells Port := []
deriving DecidableEq, Repr

/-- Announcement and stamps held for one port (R277-R279). -/
structure SyncPort where
  /-- last announcement: (GMPRIO, GMID, HOPS) and FT ns of its arrival (R279, 10_field_time.md) | record | none -/
  ann : Option (Nat × Nat × Nat × Int) := none
  /-- SSEQ of the next sync packet to send (R277, 10_field_time.md) | 16 bits | 0, DESIGN CHOICE 0, log 2 -/
  sseq : Nat := 0
  /-- TX stamps of packets sent, newest first: (SSEQ, stamp in 2^-32 ns) (R277, R278, 10_field_time.md) | list | empty -/
  tx : List (Nat × Int) := []
  /-- RX stamps of packets received, newest first: (SSEQ, stamp) (R278, 10_field_time.md) | list | empty -/
  rx : List (Nat × Int) := []
  /-- FT ns of the last sync packet sent, moved with every step of FT (R277, 10_field_time.md) | signed | 0 -/
  sent : Int := 0
deriving DecidableEq, Repr

/-- Field Time and the servo. -/
structure FtSt where
  /-- FT in units of 2^-32 ns (R273, 10_field_time.md) | 96 bits | 0 (R273) -/
  ft : Nat := 0
  /-- step clock count since reset, the wall clock of histories and timers (R108, 03_furrows.md) | count | 0 -/
  wall : Nat := 0
  /-- remainder of the FT increment in units of 2^-80 ns over the steps of a period (R274, 10_field_time.md) | count | 0 -/
  rem : Nat := 0
  /-- frequency term f of the servo (R281, 10_field_time.md) | signed | 0 -/
  f : Int := 0
  /-- a first sample has been applied since FT was reset (R281, 10_field_time.md) | 1 bit | 0 -/
  first : Bool := false
  /-- last 16 accepted delays in 2^-32 ns, newest first (R278, 10_field_time.md) | list | empty -/
  delays : List Int := []
  /-- samples taken since the parent changed (R278, 10_field_time.md) | 5 bits | 0 -/
  sinceParent : Nat := 0
  /-- consecutive accepted samples within 2 ns (R280, 10_field_time.md) | 5 bits | 0 -/
  lockCnt : Nat := 0
  /-- consecutive accepted samples beyond 20 ns (R280, 10_field_time.md) | 3 bits | 0 -/
  unlockCnt : Nat := 0
  /-- consecutive refused samples (R282, 10_field_time.md) | 5 bits | 0 -/
  refused : Nat := 0
  /-- sync state of the 16 ports (R277, 10_field_time.md) | records | as the fields -/
  ports : Cells SyncPort := []
  /-- FT ns of the last PPS_IN edge, or at which PPS_IN began to discipline FT, moved with every step of FT (R288, 10_field_time.md) | signed | 0 -/
  lastPps : Int := 0
  /-- level of PPS_OUT (R289, 10_field_time.md) | 1 bit | 0 (R289) -/
  ppsOut : Bool := false
  /-- FT ns of the last edge instant at which PPS_OUT rose, 1 + (R289, 10_field_time.md) | 64 bits | 0 -/
  ppsDone : Nat := 0
  /-- FT ns at which PPS_OUT rose last, moved with every step of FT (R289, 10_field_time.md) | signed | 0 -/
  ppsRose : Int := 0
  /-- FT ns at which the phase term of the last sample ends, moved with every step of FT (R281, 10_field_time.md) | signed | none -/
  phaseEnd : Option Int := none
  /-- GMID and port of the grandmaster and parent last chosen, port 16 for the device itself (R283, 10_field_time.md) | pair | none (R273) -/
  chosen : Option (Nat × Nat) := none
  /-- the device is grandmaster and PPS_IN disciplines it (R280, R288, 10_field_time.md) | 1 bit | 0 -/
  disciplined : Bool := false
  /-- FT runs from the internal oscillator (R476, 17_power_clocks_resets.md) | 1 bit | 0 -/
  internal : Bool := false
deriving DecidableEq, Repr

/-- A co-run comparison not yet final (R304, R305). -/
structure Compare where
  pn : Nat
  q : Nat
  ft : Nat
  mask : BitVec 32
  sample : BitVec 32
  expect : BitVec 32
deriving DecidableEq, Repr

/-- One Field I/O port beside its registers. -/
structure Fio where
  /-- output registers of the pins (R294, 11_field_io_and_signatures.md) | 32 bits | 0, DESIGN CHOICE 0, log 2 -/
  out : BitVec 32 := 0
  /-- output enables of the pins (R294, 11_field_io_and_signatures.md) | 32 bits | 0 (R313: parked) -/
  oe : BitVec 32 := 0
  /-- CLK_P level (R299, 11_field_io_and_signatures.md) | 1 bit | 0, DESIGN CHOICE 0, log 2 -/
  clk : Bool := false
  /-- clock pair driven (R299, R313, 11_field_io_and_signatures.md) | 1 bit | 0 -/
  clkOe : Bool := false
  /-- a fall is due at CLK_FALL of the next pass that begins (R299, 11_field_io_and_signatures.md) | 1 bit | 0 -/
  fallDue : Bool := false
  /-- DDR values released for CLK_FALL (R300, 11_field_io_and_signatures.md) | list of (pin, value) | empty -/
  ddr : List (Nat × Val) := []
  /-- staging by pass: (1 + PN, 32 values), 0 for pass -1 (R102, R301, R297, 03_furrows.md) | list | empty -/
  staged : List (Nat × List Val) := []
  /-- latches by pass: (PN, 32 input values) (R297, 11_field_io_and_signatures.md) | list | empty -/
  latch : List (Nat × List Val) := []
  /-- mid-pass samples by pass: (PN, 32 values) (R298, 11_field_io_and_signatures.md) | list | empty -/
  sample : List (Nat × List Val) := []
  /-- cycle and expected values in force, with the pass that compares them, 1 + (R304, 11_field_io_and_signatures.md) | record | none -/
  cycle : Option (Nat × Nat × List Val) := none
  /-- expected values logged with mid-pass samples: (PN, Q, FT ns, values) (R304, 11_field_io_and_signatures.md) | list | empty -/
  expLog : List (Nat × Nat × Nat × List Val) := []
  /-- comparisons with mismatches, not yet final (R305, 11_field_io_and_signatures.md) | list | empty -/
  compares : List Compare := []
  /-- entry number of the oldest inbound ring entry held (R310, 11_field_io_and_signatures.md) | count | 0 -/
  inRd : Nat := 0
  /-- entry number of the next inbound entry to deliver (R311, 11_field_io_and_signatures.md) | count | 0 -/
  inDel : Nat := 0
  /-- entry number of the next inbound entry written (R310, 11_field_io_and_signatures.md) | count | 0 -/
  inWr : Nat := 0
  /-- inbound entries consumed by uncommitted passes: (PN, count after) (R311, 11_field_io_and_signatures.md) | list | empty -/
  inUse : List (Nat × Nat) := []
  /-- entry numbers of the outbound ring (R310, 11_field_io_and_signatures.md) | counts | 0 -/
  outRd : Nat := 0
  outWr : Nat := 0
  /-- last delivered entry's pin values (R311, R401, 11_field_io_and_signatures.md) | 32 values | 0, DESIGN CHOICE 0, log 2 -/
  lastIn : List Val := List.replicate 32 .v0
  /-- reflex state (R308, 11_field_io_and_signatures.md) | 5 bits | 0 (R308) -/
  reflex : Nat := 0
  /-- reflex table running (R313, 11_field_io_and_signatures.md) | 1 bit | 0 -/
  running : Bool := false
  /-- 1 + FT ns of the last bus clock edge, 0 for none (R308, 11_field_io_and_signatures.md) | 64 bits | 0 -/
  lastEdge : Nat := 0
deriving DecidableEq, Repr

/-- The state a signature unit folds (R314-R318). -/
structure SigCtx where
  /-- CRC register (R314, 11_field_io_and_signatures.md) | 64 bits | 0, DESIGN CHOICE 0, log 2 -/
  r : Nat := 0
  /-- bits of a partial stream byte, first bit first -/
  part : List Bool := []
  /-- alive value of the previous boundary, 1 + (R318, 11_field_io_and_signatures.md) | 16 bits | 0 -/
  alive : Nat := 0
  /-- values fed to the block (R318, 11_field_io_and_signatures.md) | count | 0 -/
  count : Nat := 0
  /-- last W values held back by EXPMODE embedded (R317, 11_field_io_and_signatures.md) | up to 64 values | empty -/
  tail : List Val := []
  /-- alive field values of the block, first first (R318, 11_field_io_and_signatures.md) | up to 16 values | empty -/
  avals : List Val := []
  /-- the block fed X or Z (R317, 11_field_io_and_signatures.md) | 1 bit | 0 -/
  sawX : Bool := false
deriving DecidableEq, Repr

/-- A boundary result not yet final (R315, R317, R318). -/
structure SigRes where
  pn : Nat
  ft : Nat
  res : Nat
  expect : Nat
  compared : Bool
  mismatch : Bool
  short : Bool
  /-- 0 none, 3 ALIVE_REPEAT, 4 ALIVE_SKIP, 5 ALIVE_X: the bit of SIG_STAT -/
  alive : Nat
deriving DecidableEq, Repr

/-- One signature unit beside its registers. -/
structure Sig where
  cur : SigCtx := {}
  /-- register and alive state at the start of every uncommitted pass (R315, 11_field_io_and_signatures.md) | list of (PN, state) | empty -/
  saved : List (Nat × SigCtx) := []
  /-- boundary results of uncommitted passes (R315, 11_field_io_and_signatures.md) | list | empty -/
  results : List SigRes := []
  /-- passes in which X or Z was fed and not yet final (R314, R315, 11_field_io_and_signatures.md) | list | empty -/
  xPass : List Nat := []
deriving DecidableEq, Repr

/-- Field I/O and signature units. -/
structure IoSt where
  /-- the 12 ports (R294, 11_field_io_and_signatures.md) | records | as the fields -/
  fio : Cells Fio := []
  /-- the 32 signature units (R314, 11_field_io_and_signatures.md) | records | as the fields -/
  sig : Cells Sig := []
deriving DecidableEq, Repr

/-- Boot, keys and fuses. -/
structure BootSt where
  /-- boot window, 32 MiB (R326, 12_sowing_and_release.md) | 8 bits | 0, DESIGN CHOICE 0, log 2 -/
  window : Cells Byte := []
  /-- VERSION and SVN of the firmware started and not yet RUNNING (R328, 12_sowing_and_release.md) | two words | none -/
  started : Option (Nat × Nat) := none
  /-- key slots 0-7, unlock key 0x10, password record 0x11 (R329, R381, 12_sowing_and_release.md) | 32 bytes | empty, DESIGN CHOICE empty, log 6 -/
  keys : Cells (List Byte) := []
  /-- VBAT fell below retention since the last POR_N (R329, 12_sowing_and_release.md) | 1 bit | 0 -/
  vbatLost : Bool := false
  /-- fused lifecycle state (R492, 18_service_access.md) | 2 bits | FIELD, DESIGN CHOICE 2, log 6 -/
  lifecycle : Nat := 2
  /-- speed grade fused: 1 for -20, 0 for -17 (R2, R512, 00_scope.md) | 1 bit | 1, DESIGN CHOICE 1, log 6 -/
  grade20 : Bool := true
  /-- die revision fused (R512, 19_register_map.md) | 4 bits | 1, DESIGN CHOICE 1, log 6 -/
  dieRev : Nat := 1
  /-- physical furrows fused out at the factory (R104, 03_furrows.md) | list | empty, DESIGN CHOICE empty, log 6 -/
  fusedOut : List Nat := []
  /-- fused minimum SVN (R328, 12_sowing_and_release.md) | 8 bits | 0, DESIGN CHOICE 0, log 6 -/
  fusedMin : Nat := 0
  /-- fused serial number, 16 bytes (R496, 18_service_access.md) | 128 bits | 0, DESIGN CHOICE 0, log 6 -/
  serial : Nat := 0
  /-- firmware verified by FW_UPDATE and held for ACTIVATE: VERSION and SVN (R380, 13_dziene_commands.md) | two words | none -/
  staged : Option (Nat × Nat) := none
  /-- functions that are configuration-ready, by link (R323, R324, 12_sowing_and_release.md) | list of links | empty -/
  cfgReady : List Nat := []
deriving DecidableEq, Repr

/-- Where a command came from. -/
inductive Origin where
  /-- submission queue of a queue pair, and the SQ slot -/
  | queue (q slot : Nat)
  /-- forwarded by another device: source ID and its queue pair (R386) -/
  | forwarded (src q : Nat)
deriving DecidableEq, Repr

/-- Where a command stands (R367, R370, R371, R376 PROGRESS). -/
inductive CmdStage where
  | store | ftDelay | pnDelay | ready | executing
  /-- executing, its unit released, waiting for an event (R371) -/
  | blocked
  /-- executed; its completion is to be written -/
  | finished
  /-- sent to another device by a forwarding queue (R385) -/
  | away
deriving DecidableEq, Repr

/-- One matching-store entry (R369). -/
structure Cmd where
  id : Nat
  func : Nat
  origin : Origin
  /-- DW0 to DW15 as fetched (R361) -/
  words : List Word
  stage : CmdStage
  /-- the plot it acts on, 255 for the device -/
  plot : Nat
  status : Nat
  result : Nat
  pos : Nat
  total : Nat
  /-- last PROG_PCT reported by an intermediate completion (R373) -/
  told : Nat
  /-- value noted at the start: PLT_CPN of a RUN, STOP_PN, T_RESUME, FT of forwarding -/
  mark : Nat
  /-- its completion leaves its tag alone: it failed a check at fetch (R366) -/
  noTag : Bool
  /-- tokens met so far: WAIT_A at bit 0, WAIT_B at bit 1 (R367) -/
  met : Nat := 0
  /-- it ended while it waited for its event, and takes a management core again for its end (R371) -/
  woken : Bool := false
  /-- place in the order in which commands finish (R359) -/
  done : Nat := 0
deriving DecidableEq, Repr

/-- The command unit. -/
structure CmdSt where
  /-- matching store, delay lists and ready lists, in fetch order (R369, 13_dziene_commands.md) | 65,536 entries | empty -/
  store : List Cmd := []
  /-- key of the next entry fetched -/
  nextId : Nat := 1
  /-- tags by function or forwarding namespace: 0 IDLE, 1 PENDING, 2 DONE_OK, 3 DONE_FAIL (R366, R386, 13_dziene_commands.md) | 2 bits | IDLE (R366) -/
  tags : Cells Nat := []
  /-- SQ tails as last written (R357, 13_dziene_commands.md) | 12 bits | 0 (R503) -/
  sqTail : Cells Nat := []
  /-- CQ heads as last written (R357, 13_dziene_commands.md) | 12 bits | 0 (R503) -/
  cqHead : Cells Nat := []
  /-- completions not yet signalled, by queue pair (R360, 13_dziene_commands.md) | count | 0 -/
  coalesce : Cells Nat := []
  /-- FT ns of the first completion not yet signalled (R360, 13_dziene_commands.md) | 64 bits | 0 -/
  coalFt : Cells Nat := []
  /-- entries each SQ may still fetch in this round (R372, 13_dziene_commands.md) | 8 bits | 0 -/
  credit : Cells Nat := []
  /-- DMA in flight is stopped for FW_UPDATE ACTIVATE (R380, 13_dziene_commands.md) | 1 bit | 0 -/
  fetchStop : Bool := false
  /-- FT ns of the last tick of the FT delay list (R370, 13_dziene_commands.md) | 64 bits | 0 -/
  tick : Nat := 0
  /-- command packets that found the store full and wait for an entry of it, oldest first (R369, R386, 13_dziene_commands.md) | list | empty -/
  waiting : List (List Word) := []
  /-- commands finished so far: the order of their completions (R359, 13_dziene_commands.md) | count | 0 -/
  doneSeq : Nat := 0
deriving DecidableEq, Repr

/-- Host memory and the translation of its addresses, and the PCIe configuration that functions hold. -/
structure HostSt where
  /-- memory of the hosts as the device sees it: function * 2^64 + address (R356, R406, 13_dziene_commands.md) | 8 bits | 0, DESIGN CHOICE 0, log 3 -/
  mem : Cells Byte := []
  /-- address translation cache of 4,096 entries, most recent first: (function, requester, page) (R406, 14_plots_hosts_network.md) | list | empty, DESIGN CHOICE empty, log 2 -/
  atc : List (Nat × Nat × Nat) := []
  /-- pages whose translations the host has invalidated and not given again: (function, page) (R409, 14_plots_hosts_network.md) | list | empty -/
  withdrawn : List (Nat × Nat) := []
  /-- pages whose translation the host refuses: (function, page) (R407, R408, 14_plots_hosts_network.md) | list | empty -/
  refused : List (Nat × Nat) := []
  /-- outstanding page requests: (function, page) (R408, 14_plots_hosts_network.md) | 512 | empty -/
  pageReqs : List (Nat × Nat) := []
  /-- faults that wait for a free page request slot (R408, 14_plots_hosts_network.md) | list | empty -/
  pageWait : List (Nat × Nat) := []
  /-- Outstanding Page Request Allocation by function (R408, 14_plots_hosts_network.md) | 32 bits | 0, PRESUMED 0 (the family's), log 4 -/
  priAlloc : Cells Nat := []
  /-- ATS enable by function (R406, 14_plots_hosts_network.md) | 1 bit | 0, PRESUMED 0 (the family's), log 4 -/
  ats : Cells Bool := []
  /-- NumVFs of a PF while VF Enable is set, else 0 (R393, 14_plots_hosts_network.md) | 4 bits | 0, PRESUMED 0 (the family's), log 4 -/
  numVfs : Cells Nat := []
  /-- MSI-X vectors with a clear Mask Bit: function * 2048 + vector (R460, 16_faults_and_gleaner.md) | 1 bit | masked, PRESUMED masked (the family's), log 4 -/
  unmasked : Cells Bool := []
  /-- MSI-X Function Mask by function (R460, 16_faults_and_gleaner.md) | 1 bit | 0, PRESUMED 0 (the family's), log 4 -/
  funcMask : Cells Bool := []
  /-- MSI-X Pending Bits (R460, 16_faults_and_gleaner.md) | 1 bit | 0, PRESUMED 0 (the family's), log 4 -/
  msixPend : Cells Bool := []
  /-- plots whose fault interrupt has sent since their pending enabled bits were last empty (R459, 16_faults_and_gleaner.md) | 1 bit by plot | 0 -/
  intSent : Cells Bool := []
  /-- sampled PCIE_BIF (R390, 14_plots_hosts_network.md) | 2 bits | 0, DESIGN CHOICE 0, log 5 -/
  strap : Nat := 0
deriving DecidableEq, Repr

/-- The Gleaner (R463-R470). -/
structure GlnSt where
  /-- sweep positions of the four acre sequencers (R463, 16_faults_and_gleaner.md) | item index | 0 -/
  pos : Cells Nat := []
  /-- sweeps completed per sequencer (R463, 16_faults_and_gleaner.md) | count | 0 -/
  sweeps : Cells Nat := []
  /-- FT ns at which the sweep of each sequencer began (R463, 16_faults_and_gleaner.md) | 64 bits | 0 -/
  start : Cells Nat := []
  /-- FT ns at which each sequencer, and the patrol as 4, finished its last item (R470, 16_faults_and_gleaner.md) | 64 bits | 0 -/
  last : Cells Nat := []
  /-- pending write-backs of state rows and RAM words: (physical furrow, kind, index) in read order (R464, 16_faults_and_gleaner.md) | list | empty -/
  writes : List (Nat × Nat × Nat) := []
  /-- writes taken in this headland per physical furrow (R464, 16_faults_and_gleaner.md) | count | 0 -/
  wrCount : Cells Nat := []
  /-- control triples: copies that differ, by register offset: (offset, copies upset) (R469, 16_faults_and_gleaner.md) | list | empty -/
  upset : Cells Nat := []
  /-- stalls of each sequencer within 1 s: FT ns of the last two (R470, 16_faults_and_gleaner.md) | list | empty -/
  stalls : List (Nat × Nat) := []
  /-- sequencers that wait for a priority sweep: (class, unit) (R462, 16_faults_and_gleaner.md) | list | empty -/
  prio : List (Nat × Nat) := []
  /-- FT ns of the last drain tick of each bucket class, and of the last vote as 6 (R461, R469, 16_faults_and_gleaner.md) | 64 bits | 0 -/
  tick : Cells Nat := []
  /-- words of the essential map that device firmware has yet to rebuild: their items are read as essential (R468, 16_faults_and_gleaner.md) | list | empty -/
  mapLost : List Nat := []
  /-- bucket overflows whose interrupt, FAULT record and class action are due: (class, bucket register) (R461, 16_faults_and_gleaner.md) | list | empty -/
  spilt : List (Nat × Nat) := []
  /-- physical furrows whose image was given up: the sweeps skip them until a plot of theirs has an image again (R468, 16_faults_and_gleaner.md) | list | empty -/
  skip : List Nat := []
deriving DecidableEq, Repr

/-- Power, thermal and reset state beside the CRP registers. -/
structure PwrSt where
  /-- functions in D3hot (R478, 17_power_clocks_resets.md) | list | empty -/
  d3 : List Nat := []
  /-- consecutive thermal evaluations above HARD (R482, 17_power_clocks_resets.md) | 2 bits | 0 -/
  hot : Nat := 0
  /-- FT ns since which Tmax has stayed at or below HARD - 10 C, 1 + (R483, 17_power_clocks_resets.md) | 64 bits | 0 -/
  coolSince : Nat := 0
  /-- FT ns of the last thermal evaluation (R482, 17_power_clocks_resets.md) | 64 bits | 0 -/
  evalFt : Nat := 0
  /-- key of the FALLOW DEEP or WAKE command in progress, 0 for none (R479, 17_power_clocks_resets.md) | key | 0 -/
  deepCmd : Nat := 0
  /-- FT ns at which the entry or exit began (R491, 17_power_clocks_resets.md) | 64 bits | 0 -/
  since : Nat := 0
  /-- every PLL but the always-on ones is stopped by the 115 C comparator (R484, 17_power_clocks_resets.md) | 1 bit | 0 -/
  tripped : Bool := false
  /-- VBAT-held copy of CRP_RST_CAUSE.TRIP (R484, R491, 17_power_clocks_resets.md) | 1 bit | 0, DESIGN CHOICE 0, log 6 -/
  trip : Bool := false
  /-- MMIO or messages held for functions in D3hot: (function, vector) (R478, 17_power_clocks_resets.md) | list | empty -/
  heldMsgs : List (Nat × Nat) := []
  /-- SYS_REFCLK lost (R476, 17_power_clocks_resets.md) | 1 bit | 0 -/
  refLost : Bool := false
deriving DecidableEq, Repr

/-- Monitor, JTAG and SMBus. -/
structure SvcSt where
  /-- monitor locked (R495, 18_service_access.md) | 1 bit | 1 in FIELD (R495) -/
  locked : Bool := true
  /-- nonce of the lock prompt (R495, 18_service_access.md) | 16 bytes | 0, DESIGN CHOICE 0, log 6 -/
  nonce : Nat := 0
  /-- consecutive failed attempts, in the VBAT domain (R497, 18_service_access.md) | 8 bits | 0, DESIGN CHOICE 0, log 6 -/
  fails : Nat := 0
  /-- FT ns at which the lockout delay ends (R497, 18_service_access.md) | 64 bits | 0 -/
  delayEnd : Nat := 0
  /-- baud rate of the monitor (R493, 18_service_access.md) | baud | 115200 (R493) -/
  baud : Nat := 115200
  /-- a private debug instruction is current (R500, 18_service_access.md) | 1 bit | 0 -/
  debugAccess : Bool := false
  /-- current boundary-scan instruction that took the pins, 1 + (R499, 18_service_access.md) | code | 0 -/
  scan : Nat := 0
  /-- sensor index of SMBus code 0x03 (R501, 18_service_access.md) | 16 bits | 0, DESIGN CHOICE 0, log 6 -/
  sensor : Nat := 0
  /-- SMB_ALERT_N driven low (R501, 18_service_access.md) | 1 bit | 0 -/
  alert : Bool := false
  /-- GPIO[1:0] as sampled at POR_N (R501, 18_service_access.md) | 2 bits | 0, DESIGN CHOICE 0, log 6 -/
  gpio : Nat := 0
deriving DecidableEq, Repr

/-- What the device asks of a host page (R406, R409): an untranslated or a translated request, a Translation Request, and the
Invalidation Completion for the pages from one on. -/
inductive HostReq where
  | untranslated | translated | translation | invalidated
deriving DecidableEq, Repr

/-- What the device has sent or answered, newest last, since the last whole-device reset. -/
structure OutSt where
  /-- MSI-X messages: (function, vector) (R458, R460, 16_faults_and_gleaner.md) | list | empty -/
  msix : List (Nat × Nat) := []
  /-- the frame last sent by each lane, port * 9 + lane (R158, 06_exchange.md) | 896 bits | 0 -/
  frame : Cells (BitVec 896) := []
  /-- the fill sent immediately before that frame: its steps and its bits, first bit most significant (R158, R159,
  06_exchange.md) | pair | (0, 0) -/
  fill : Cells (Nat × Nat) := []
  /-- header flit of the last general request of the host (R417, 14_plots_hosts_network.md) | 256 bits | 0, DESIGN CHOICE 0, log 2 -/
  flit : BitVec 256 := 0
  /-- data flits of that packet (R416, 14_plots_hosts_network.md) | up to 16 of 256 bits | empty -/
  flitData : List (BitVec 256) := []
  /-- the packet that answers it: its header flit and its data flits, none for an error response (R417, R419,
  14_plots_hosts_network.md) | list | empty -/
  reply : List (BitVec 256) := []
  /-- CTRL packets sent: (port, 24 dwords) (R177, 06_exchange.md) | list | empty -/
  ctrl : List (Nat × List Word) := []
  /-- lines the monitor has sent (R493, R494, 18_service_access.md) | list of text | empty -/
  mon : List String := []
  /-- data of the last SMBus block read (R501, 18_service_access.md) | bytes | empty -/
  smb : Option (List Byte) := none
  /-- data of the last BAR4 read or scratchpad read, none when it was refused (R155, R402, 05_design_memory.md) | bytes | none -/
  data : Option (List Byte) := none
  /-- page requests sent: (function, page) (R408, 14_plots_hosts_network.md) | list | empty -/
  pri : List (Nat × Nat) := []
  /-- requests of the address translation service and of host memory: (kind, function, page) (R406, R409, 14_plots_hosts_network.md) | list | empty -/
  ats : List (HostReq × Nat × Nat) := []
deriving DecidableEq, Repr

/-- Everything the device keeps for one plot (R5, R393). -/
structure Plot where
  id : PlotId := {}
  res : Res := {}
  tm : TimeSt := {}
  img : ImgSt := {}
  cmt : CommitSt := {}
  hvt : HvtSt := {}
  rel : RelSt := {}
deriving DecidableEq, Repr

/-- A fault injection armed and not yet taken (R471). -/
structure Inject where
  /-- address of the FI_CTRL register that armed it -/
  reg : Nat
  ctrl : Nat
  addr : Nat
deriving DecidableEq, Repr

/-- The machine. -/
structure State where
  /-- commands waiting, first in first out (the model's own) -/
  pending : List Instr := []
  /-- BAR0 registers by address, each held as its difference from its reset value (R504, R509, 19_register_map.md) | 32 bits | as INVENTORY.md lists -/
  regs : Cells (BitVec 32) := []
  /-- per-function copies and HI latches, (reader + 1) * 2^26 + address; reader 64 is the monitor (R507, 19_register_map.md) | 32 bits | 0 (R507) -/
  copies : Cells (BitVec 32) := []
  /-- step clock count at which the newest entry of a history ring opened, 1 + (R108, 03_furrows.md) | count | 0 -/
  histOpen : Cells Nat := []
  /-- ECC condition of stored words: 1 single-bit error, 2 double-bit error, by item (R45, R464, R471, 16_faults_and_gleaner.md) | 2 bits | 0 -/
  ecc : Cells Nat := []
  /-- fault injections armed (R471, 16_faults_and_gleaner.md) | list | empty -/
  inject : List Inject := []
  /-- physical furrow of a logical furrow where it is not the default one, 1 + (R104, 03_furrows.md) | 10 bits | 0 (R104) -/
  fmap : Cells Nat := []
  /-- the 16 plots (R5, R393, 14_plots_hosts_network.md) | records | as the fields -/
  plots : Cells Plot := []
  bp : BpMem := {}
  fur : FurMem := {}
  sw : SwMem := {}
  hbm : HbmMem := {}
  xch : XchMem := {}
  lnk : LnkSt := {}
  ft : FtSt := {}
  io : IoSt := {}
  tile : IoTile := {}
  boot : BootSt := {}
  cmd : CmdSt := {}
  host : HostSt := {}
  hvt : HvtDev := {}
  gln : GlnSt := {}
  pwr : PwrSt := {}
  svc : SvcSt := {}
  out : OutSt := {}
  /-- free values taken so far (the model's own: Config.freeValue is applied to it) | count | 0, DESIGN CHOICE 0, log 1 -/
  free : Nat := 0
deriving DecidableEq, Repr

/-- Why the machine stops. Safe: a run that meets one of these proves nothing further. -/
inductive Fault where
  /-- raised by the BAR0 and BAR4 rows for an offset outside the BAR (R503): no such address exists; safe -/
  | outsideBar
deriving DecidableEq, Repr

/-- Why a command has no meaning. -/
inductive Refusal where
  /-- an arm of exec without a meaning; safe -/
  | notModelled (mnemonic : String)
  /-- raised by execDebugInstruction outside a locked FIELD monitor: the spec gives the private debug
  instructions no effect (R500); safe -/
  | privateDebug
deriving DecidableEq, Repr

/-- The machine right after power-on reset (R323, R485), with nothing written. -/
def State.reset : State := {}

end Sys2Proof.Machine
end

