-- ==== Sys2Proof/Machine/Ops.lean ====
section
/-! DEFINITION. The named operations over registers, plots, memories and time that every meaning uses. -/

namespace Sys2Proof.Machine
open Sys2Proof

/-! ## Registers -/

/-- The content of a BAR0 register. -/
def State.rg (s : State) (a : Nat) : Word := cget 0 s.regs a ^^^ regReset a

/-- Give a register a content. -/
def State.rgSet (s : State) (a : Nat) (v : Word) : State :=
  { s with regs := cset 0 s.regs a (v ^^^ regReset a) }

/-- A register's content as a number. -/
def State.rn (s : State) (a : Nat) : Nat := (s.rg a).toNat

def State.rnSet (s : State) (a v : Nat) : State := s.rgSet a (BitVec.ofNat 32 v)

/-- A field of a register. -/
def State.fld (s : State) (a lo len : Nat) : Nat := nfld (s.rn a) lo len

/-- Replace a field of a register. -/
def State.put (s : State) (a lo len v : Nat) : State := s.rnSet a (putFld (s.rn a) lo len v)

/-- A bit of a register. -/
def State.bit (s : State) (a i : Nat) : Bool := (s.rn a).testBit i

def State.setBit (s : State) (a i : Nat) : State := s.put a i 1 1
def State.clrBit (s : State) (a i : Nat) : State := s.put a i 1 0
def State.putBit (s : State) (a i : Nat) (b : Bool) : State := s.put a i 1 (b2n b)

/-- Two registers, low first, as one 64-bit number. -/
def State.rn64 (s : State) (lo : Nat) : Nat := s.rn lo + 2 ^ 32 * s.rn (lo + 4)

def State.rnSet64 (s : State) (lo v : Nat) : State := (s.rnSet lo v).rnSet (lo + 4) (v / 2 ^ 32)

/-- Back to its reset value. -/
def State.rgReset (s : State) (a : Nat) : State := { s with regs := cdel s.regs a }

/-- Every register of an address range back to its reset value. -/
def State.rgResetRange (s : State) (lo n : Nat) : State := { s with regs := cclear s.regs lo n }

/-- Add n to a saturating counter, with its OVF bit (R16). -/
def State.countBy (s : State) (a n : Nat) : State :=
  if n = 0 then s
  else
    let v := s.rn a + n
    let s1 := s.rnSet a (min v 0xffffffff)
    if v < 0xffffffff then s1
    else match findCnt CntRow.base a cntRows with
      | some (r, is) => s1.setBit (r.ovfAt is).1 (r.ovfAt is).2
      | none => s1

/-- Add 1 to a saturating counter (R16). -/
def State.count (s : State) (a : Nat) : State := s.countBy a 1

/-- Clear a counter and its OVF bit (R17). -/
def State.countClear (s : State) (a : Nat) : State :=
  match findCnt CntRow.base a cntRows with
  | some (r, is) => (s.rnSet a 0).clrBit (r.ovfAt is).1 (r.ovfAt is).2
  | none => s.rnSet a 0

/-! ## Plots, furrows and ports -/

/-- A plot's record. -/
def State.plot (s : State) (p : Nat) : Plot := cget {} s.plots p

/-- Change a plot's record. -/
def State.plotSet (s : State) (p : Nat) (x : Plot) : State := { s with plots := cset {} s.plots p x }

def State.onPlot (s : State) (p : Nat) (f : Plot → Plot) : State := s.plotSet p (f (s.plot p))

/-- The 16 plot indices. -/
def plotIds : List Nat := natsFrom 0 16

/-- Live plots. -/
def State.livePlots (s : State) : List Nat := plotIds.filter fun p => (s.plot p).id.live

/-- A plot is RELEASED (R334). -/
def State.anyReleased (s : State) : Bool := s.livePlots.any fun p => s.fld (Reg.SOW_PLOT_STAT p) 28 4 == Sow.released

/-- The physical furrow that acts as a logical one (R103, R104). -/
def State.phys (s : State) (l : Nat) : Nat :=
  match cget 0 s.fmap l with
  | 0 => 132 * (l / 128) + l % 128
  | n + 1 => n

/-- Acre of a logical furrow (R103). -/
def acreOf (l : Nat) : Nat := l / 128

/-- The plot that holds a resource, found through what each plot was granted. -/
def State.holder (s : State) (sel : Res → List Nat) (x : Nat) : Option Nat :=
  plotIds.find? fun p => (s.plot p).id.live && (sel (s.plot p).res).contains x

/-- Steps of a pass, L (R22). -/
def State.passLen (s : State) (p : Nat) : Nat := s.fld (Reg.PLT_PASS_CFG p) 16 11

/-- Commit lag D (R22). -/
def State.dlag (s : State) (p : Nat) : Nat := s.fld (Reg.PLT_PASS_CFG p) 0 3

/-! ## Time -/

/-- FT in ns (R273). -/
def State.ftNs (s : State) : Nat := s.ft.ft / 2 ^ 32

/-- Steps of a SYS_REFCLK period (R274). -/
def State.refSteps (s : State) : Nat := if s.boot.grade20 then 20 else 17

/-- The servo's ADJ, signed (R274). -/
def State.adj (s : State) : Int := (s.rg Reg.FT_ADJ).toInt

/-- FT advance of one step in units of 2^-72 ns: 10 ns * (1 + ADJ * 2^-40) over the steps of a reference period, or the
internal oscillator's nominal rate (R274, R476). -/
def State.ftRate (s : State) : Nat := (10 * (2 ^ 40 + s.adj) * 2 ^ 32).toNat

/-- FT advance of one step at the rate in force, over the steps of a reference period (R274, R476). -/
def State.stepRate (s : State) : Nat := if s.ft.internal then 10 * 2 ^ 72 else s.ftRate

/-- Step clock in MHz (R512). -/
def State.stepMhz (s : State) : Nat := 100 * s.refSteps

/-- Steps of a number of µs. -/
def State.usSteps (s : State) (us : Nat) : Nat := us * s.stepMhz

/-! ## Memories of the device and the host -/

/-- Host memory bytes of a function (R356). -/
def State.hostRead (s : State) (fn addr n : Nat) : List Byte :=
  cgetList 0 s.host.mem (fn * 2 ^ 64 + addr) n

def State.hostWrite (s : State) (fn addr : Nat) (bs : List Byte) : State :=
  { s with host := { s.host with mem := csetList 0 s.host.mem (fn * 2 ^ 64 + addr) bs } }

/-- HBM bytes at a device HBM address (R130). -/
def State.hbmRead (s : State) (addr n : Nat) : List Byte := cgetList 0 s.hbm.mem addr n

def State.hbmWrite (s : State) (addr : Nat) (bs : List Byte) : State :=
  { s with hbm := { s.hbm with mem := csetList 0 s.hbm.mem addr bs } }

/-- Scratchpad bytes: bank * 256 KiB + offset (R401). -/
def State.spmRead (s : State) (addr n : Nat) : List Byte := cgetList 0 s.tile.spm addr n

def State.spmWrite (s : State) (addr : Nat) (bs : List Byte) : State :=
  { s with tile := { s.tile with spm := csetList 0 s.tile.spm addr bs } }

/-- Take a free value of w bits (Config.freeValue): the step counts it. -/
def State.takeFree (s : State) (w : Nat) : Nat × State :=
  ((Config.freeValue s.free).toNat % 2 ^ w, { s with free := s.free + 1 })

/-- A free value of 128 bits. -/
def State.takeFree128 (s : State) : Nat × State :=
  ((s.takeFree 64).1 + 2 ^ 64 * ((s.takeFree 64).2.takeFree 64).1, ((s.takeFree 64).2.takeFree 64).2)

/-! ## Functions -/

/-- Links of the sampled mode: 1, 2 or 4 (R390). -/
def State.links (s : State) : Nat :=
  match s.host.strap with
  | 1 => 2
  | 2 => 4
  | _ => 1

/-- PF0, or the monitor, which acts with PF0's rights as reader 64 (R494, R506, R507). -/
def isAdmin (fn : Nat) : Bool := fn == 0 || fn == 64

/-- A function index names a PF: 0 to 3 (R353). -/
def isPf (fn : Nat) : Bool := decide (fn < 4)

/-- Boot has reached RUNNING (R324). -/
def State.running (s : State) : Bool := s.fld Reg.SOW_BOOT_STAT 28 4 = 3

/-- Deep fallow state of CRP_PWR_STAT.STATE (R477). -/
def State.pwrState (s : State) : Nat := s.fld Reg.CRP_PWR_STAT 28 4

/-- Every PCIe link is down: the 115 C trip or a boundary-scan instruction took it (R484, R499). -/
def State.linksDown (s : State) : Bool := s.pwr.tripped || s.svc.scan != 0

/-- No access of a function reaches the device: its link is down, or it is in D3hot (R478, R484, R499). -/
def State.hostDown (s : State) (fn : Nat) : Bool := s.linksDown || s.pwr.d3.contains fn

/-- The PLLs are locked (R323, R476): unless SYS_REFCLK is lost, or the trip stopped them. -/
def State.pllLock (s : State) : State := if s.pwr.refLost || s.pwr.tripped then s else s.put Reg.CRP_STAT 1 3 7

/-- A deep fallow that the thermal limit forced is being entered (R482). -/
def State.forcing (s : State) : Bool := s.bit Reg.CRP_PWR_STAT 27 && s.pwrState == 1

end Sys2Proof.Machine
end

