-- ==== Sys2Proof/Machine/Flags.lean ====
section
/-! DEFINITION. Conditions, FIRST, MERGED and HIST, event records, interrupts, leaky buckets, the time that passes, injections, the
flits of the internal network (R417, R420, R421) and the ECC condition of stored items (R45, R76, R106-R108, R427-R429,
R455-R462, R471). -/

namespace Sys2Proof.Machine
open Sys2Proof

/-! ## Messages and interrupts -/

/-- An MSI-X message of a function: held in D3hot (R478), pending while masked (R460), otherwise sent. -/
def State.msix (s : State) (fn vec : Nat) : State :=
  if s.pwr.d3.contains fn then
    { s with pwr := { s.pwr with heldMsgs := s.pwr.heldMsgs ++ [(fn, vec)] } }
  else if cget false s.host.funcMask fn || !(cget false s.host.unmasked (fn * 2048 + vec)) then
    { s with host := { s.host with msixPend := cset false s.host.msixPend (fn * 2048 + vec) true } }
  else { s with out := { s.out with msix := s.out.msix ++ [(fn, vec)] } }

/-- Device interrupt source b (R458). -/
def State.devInt (s : State) (b : Nat) : State :=
  if s.bit Reg.CMD_INT_PEND b then s
  else
    let s1 := s.setBit Reg.CMD_INT_PEND b
    if s1.bit (Reg.CMD_INT_DEV b) 31 then s1.msix 0 (s1.fld (Reg.CMD_INT_DEV b) 0 11) else s1

/-- Pending source bits of a plot that its MASK enables (R459). -/
def State.intPending (s : State) (p : Nat) : Nat := s.fld (Reg.PLT_INT_STAT p) 0 10 &&& s.fld (Reg.PLT_INT_CFG p) 16 10

/-- The plot's fault interrupt may send again once no enabled bit is pending (R459). -/
def State.intEmptied (s : State) (p : Nat) : State :=
  if s.intPending p = 0 then { s with host := { s.host with intSent := cset false s.host.intSent p false } } else s

/-- Plot fault interrupt, source bit i (R459): an enabled bit that rises sends, unless a message has been sent since the
pending enabled bits were last empty. -/
def State.plotInt (s : State) (p i : Nat) : State :=
  let s0 := s.intEmptied p
  let s1 := s0.setBit (Reg.PLT_INT_STAT p) i
  if s.bit (Reg.PLT_INT_CFG p) 31 && s.bit (Reg.PLT_INT_CFG p) (16 + i) && !s.bit (Reg.PLT_INT_STAT p) i &&
      !cget false s0.host.intSent p then
    { s1 with host := { s1.host with intSent := cset false s1.host.intSent p true } }.msix (s.plot p).id.owner
      (s.fld (Reg.PLT_INT_CFG p) 0 11)
  else s1

/-! ## FIRST, MERGED and HIST -/

/-- Load FIRST, or count the event in MERGED (R107); a load raises the block's interrupt (R458). -/
def State.firstEvent (s : State) (b : Blk) (cause loc pn : Nat) : State :=
  if s.bit b.first 31 then s.count b.merged
  else
    ((((s.rnSet b.first (2 ^ 31 + cause)).rnSet (b.first + 4) loc).rnSet64 (b.first + 8) pn).rnSet64
      (b.first + 16) s.ftNs).devInt b.code

/-- Whether an event now would join the newest HIST entry: less than 4 steps since it was opened (R108). -/
def State.histJoins (s : State) (b : Blk) : Bool :=
  let o := cget 0 s.histOpen b.hist
  o ≠ 0 && s.ft.wall + 1 < o + 4

/-- Open or join a HIST entry (R108). The first entry written has index 0. -/
def State.histEvent (s : State) (b : Blk) (cause low pn : Nat) : State :=
  let newest := s.fld b.ptr 0 4
  if s.histJoins b then
    let e := b.hist + 16 * newest
    let rep := s.fld e 24 8
    let s1 := s.put e 24 8 (min 255 (rep + 1))
    if s.fld e 18 5 = cause then s1 else s1.setBit e 23
  else
    let first := cget 0 s.histOpen b.hist = 0
    let i := if first then 0 else (newest + 1) % 16
    let e := b.hist + 16 * i
    let unread := s.fld b.ptr 16 5
    let s1 := (((s.rnSet e (cause * 2 ^ 18 + low % 2 ^ 18)).rnSet (e + 4) (pn % 2 ^ 32)).rnSet64 (e + 8) s.ftNs)
    let s2 := (s1.put b.ptr 0 4 i).put b.ptr 16 5 (min 16 (unread + 1))
    let s3 := if unread = 16 then s2.count (b.ptr + 8) else s2
    { s3 with histOpen := cset 0 s3.histOpen b.hist (s.ft.wall + 1) }

/-! ## Event records -/

/-- A record to be written (R428). -/
structure Rec where
  rtype : Nat
  len : Nat
  plot : Option Nat
  pn : Nat
  ft : Nat
  body : List Word
  trunc : Bool := false
deriving DecidableEq, Repr

/-- The dwords of a record with its SEQ and EPOCH (R428). -/
def Rec.words (r : Rec) (seq : Nat) (epoch : Bool) : List Word :=
  let d0 := r.rtype * 2 ^ 24 + 2 ^ 20 + b2n epoch * 2 ^ 19 + b2n r.trunc * 2 ^ 18 + b2n r.plot.isSome * 2 ^ 17 +
    (r.plot.getD 0 % 16) * 2 ^ 13 + (r.len % 64) * 2 ^ 7
  let pn := if r.plot.isSome then r.pn else 0
  let head := [d0, seq, pn, pn / 2 ^ 32, r.ft, r.ft / 2 ^ 32].map (BitVec.ofNat 32)
  (head ++ r.body ++ List.replicate (8 * r.len) 0).take (8 * r.len)

/-- Device ID (R182). -/
def State.devId (s : State) : Nat := s.fld Reg.XCH_DEV_ID 0 18

/-- A plot's stream is being written (R430) and takes a record of a type (R426, R443, R450). -/
def State.streamTakes (s : State) (p rtype : Nat) : Bool :=
  let st := s.fld (Reg.HVT_STAT p) 28 4
  (st == 1 || st == 2) && (s.bit (Reg.HVT_CFG p) 28 || [4, 5, 7].contains rtype)

/-- Harvest drops an event record (R427, R451, R454): condition EVT_DROP or FALLOW_LOSS with FIRST and HIST. A HIST entry that
opens would raise a FAULT record (R427), which is dropped with it: the number of records dropped. -/
def State.eventLost (s : State) (cause plot pn : Nat) : Nat × State :=
  (if s.histJoins Blk.hvt then 1 else 2,
    ((s.setBit Reg.HVT_DEV_STAT cause).firstEvent Blk.hvt cause plot pn).histEvent Blk.hvt cause plot pn)

/-- What a slot of the fallow buffer holds of a record (R428, R451): a longer one is cut to its first 8 body bytes, with TRUNC.
A SEQ is given only as the record enters a stream (DESIGN CHOICE, log 86). -/
def EvRec.slot (r : EvRec) : List Byte :=
  wordsBytes (Rec.words { rtype := r.rtype, len := 1, plot := r.plot, pn := r.pn, ft := r.ft, body := r.body.take 2,
                          trunc := decide (1 < r.len) } 0 false)

/-- A record enters the fallow buffer in scratchpad bank 63 (R451). -/
def State.fallowPut (s : State) (r : EvRec) : State :=
  { s with hvt := { s.hvt with fallowBuf := s.hvt.fallowBuf ++ [r] } }.spmWrite (63 * 2 ^ 18 + 32 * s.hvt.fallowBuf.length) r.slot

/-- Raise an event record (R427): into the event FIFO, or in deep fallow into the buffer of bank 63 (R451). -/
def State.event (s : State) (r0 : EvRec) : State :=
  let r := { r0 with toPlot := r0.toPlot && (match r0.plot with
    | some p => s.streamTakes p r0.rtype
    | none => false) }
  if 2 ≤ s.pwrState then
    if s.hvt.fallowBuf.length < 4096 then s.fallowPut r
    else
      let x := s.eventLost 2 (r.plot.getD 0) r.pn
      { x.2 with hvt := { x.2.hvt with fallowLost := x.2.hvt.fallowLost + x.1 } }
  else if s.hvt.fifo.length < 1024 then { s with hvt := { s.hvt with fifo := s.hvt.fifo ++ [r] } }
  else
    let x := s.eventLost 0 (r.plot.getD 0) r.pn
    let s1 := (natsFrom 0 x.1).foldl (fun s _ => s.count Reg.HVT_EVT_LOSS_CNT) x.2
    { s1 with hvt := { s1.hvt with dropped := s1.hvt.dropped + x.1 } }

/-- An event record of the device and, when it concerns a plot, of the plot's stream (R426, R429). -/
def State.record (s : State) (rtype len : Nat) (plot : Option Nat) (pn : Nat) (body : List Nat) : State :=
  s.event { rtype := rtype, len := len, plot := plot, pn := (if plot.isSome then pn else 0), ft := s.ftNs,
            body := body.map (BitVec.ofNat 32), toDev := true, toPlot := plot.isSome }

/-- FAULT record (R429). -/
def State.faultRec (s : State) (block cause loc : Nat) (plot : Option Nat) (pn : Nat) (fromVote : Bool) (dev : Nat) : State :=
  s.record 0x0d 2 plot pn [block + cause * 256, loc, dev % 2 ^ 18 + (if fromVote then 2 ^ 31 else 0)]

/-- PLOT_STATE record with one of the events 0 launch, 1 stop, 2 start, 3 release, 4 reset, 5 destroy, 6 exposure,
7 LAUNCH packet, 8 HALT_AT discarded (R429). -/
def State.plotState (s : State) (p ev status : Nat) (more : List Nat) : State :=
  s.record 0x14 (if ev = 8 then 2 else 1) (some p) (s.plot p).tm.pn
    ((s.fld (Reg.PLT_CMT_STAT p) 28 4 + s.fld (Reg.SOW_PLOT_STAT p) 28 4 * 16 + ev * 256 + status * 65536) :: more)

/-! ## Conditions -/

/-- One event of a condition: its STAT bit, FIRST or MERGED, HIST, and the FAULT record that a new entry raises
(R106-R108, R427). `low` is what the block's HIST dword 0 holds below CAUSE. -/
def State.raise (s : State) (b : Blk) (stat cause loc low : Nat) (plot : Option Nat) (pn : Nat) : State :=
  let s1 := ((s.setBit stat cause).firstEvent b cause loc pn)
  let joins := s1.histJoins b
  let s2 := s1.histEvent b cause low pn
  if joins then s2 else s2.faultRec b.code cause loc plot pn false s.devId

/-- A W1C condition of a block without FIRST registers (R458). -/
def State.condition (s : State) (block stat i : Nat) : State := (s.setBit stat i).devInt block

/-! ## Time passes (R274, R281) -/

/-- The clamp of R274. -/
def clampAdj (x : Int) : Int := max (-219902325) (min 219902325 x)

/-- FT_ADJ, and ADJ_CLAMP where the clamp limited it (R281). -/
def State.setAdj (s : State) (want : Int) : State :=
  let adj := clampAdj want
  let s1 := s.rgSet Reg.FT_ADJ (BitVec.ofInt 32 adj)
  if adj = want then s1 else s1.condition Block.ft Reg.FT_STAT 21

/-- ADJ is the frequency term alone (R281, R284). -/
def State.phaseEnds (s : State) : State := { s with ft := { s.ft with phaseEnd := none } }.setAdj s.ft.f

/-- n steps of the step clock at the ADJ in force: wall clock and FT (R274). -/
def State.rateSteps (s : State) (n : Nat) : State :=
  let t := s.ft.rem + n * s.stepRate
  let d := t / s.refSteps / 2 ^ 40
  { s with ft := { s.ft with wall := s.ft.wall + n, ft := s.ft.ft + d, rem := t - d * 2 ^ 40 * s.refSteps } }

/-- Steps at the ADJ in force until FT reaches an instant in ns (R274). -/
def State.stepsTo (s : State) (ns : Nat) : Nat :=
  ((ns * 2 ^ 32 - s.ft.ft) * 2 ^ 40 * s.refSteps - s.ft.rem + s.stepRate - 1) / s.stepRate

/-- n steps of the step clock (R274). The phase term of a sample acts for one interval only (R281): the steps after its end
run at the frequency term. -/
def State.tickSteps (s : State) (n : Nat) : State :=
  match s.ft.phaseEnd with
  | none => s.rateSteps n
  | some e =>
    let k := s.stepsTo e.toNat
    if n < k then s.rateSteps n else (s.rateSteps k).phaseEnds.rateSteps (n - k)

/-- One step of the step clock (R274). -/
def State.tickTime (s : State) : State := s.tickSteps 1

/-- Time passes to an instant of FT in ns, when it lies ahead: an event of that instant has come. -/
def State.waitUntil (s : State) (ns : Nat) : State :=
  if s.ftNs < ns then
    let s1 := s.tickSteps (match s.ft.phaseEnd with
      | some e => min (s.stepsTo e.toNat) (s.stepsTo ns)
      | none => 0)
    s1.tickSteps (s1.stepsTo ns)
  else s

/-- Time passes to a count of the step clock, when it lies ahead. -/
def State.waitSteps (s : State) (w : Nat) : State := if s.ft.wall < w then s.tickSteps (w - s.ft.wall) else s

/-! Locations, as the blocks' FIRST_LOC and HIST lay them out. -/

/-- Furrow: step, headland flag, BP (R109). -/
def locFur (step : Nat) (hl : Bool) (bp : Nat) : Nat := (step % 1024) * 256 + b2n hl * 128 + bp % 128

/-- A furrow condition (R106). -/
def State.raiseFur (s : State) (phys cause loc : Nat) (plot : Option Nat) (pn : Nat) : State :=
  s.raise (Blk.furrow phys) (Reg.FUR_STAT phys) cause loc loc plot pn

/-- A switch condition (R128): plot, DST endpoint, step. -/
def State.raiseSw (s : State) (acre cause plot dst step pn : Nat) : State :=
  s.raise (Blk.acre acre) (Reg.FUR_SW_STAT acre) cause (plot * 2 ^ 28 + (dst % 2 ^ 13) * 2 ^ 13 + step % 1024)
    (plot * 2 ^ 14 + step % 1024) (some plot) pn

/-- An HBM condition of a pseudo-channel (R157): bit of MEM_PC_STAT. The history names the PC's owner, whichever plot met it. -/
def State.raiseMem (s : State) (pc cause offset : Nat) (plot : Option Nat) (pn : Nat) : State :=
  s.raise Blk.mem (Reg.MEM_PC_STAT pc) cause (pc * 2 ^ 24 + offset % 2 ^ 24)
    ((s.holder Res.pcs pc).getD 0 * 2 ^ 14 + pc) plot pn

/-- A lane condition (R272): bit of LNK_EVT. -/
def State.raiseLnk (s : State) (port lane cause : Nat) : State :=
  s.raise Blk.lnk Reg.LNK_EVT cause (port * 16 + lane) (port * 16 + lane) none 0

/-- FIRST_LOC of a frame event: PORT, LANE and FIDX (R183). -/
def locXch (port lane fidx : Nat) : Nat := port % 16 * 2 ^ 24 + lane % 8 * 2 ^ 21 + fidx % 32 * 2 ^ 16

/-- A frame condition of the exchange (R183). LANE and FIDX hold the low bits of the spare's lane number 8 and of the FIDX 63
of a slot that is no DATA slot (DESIGN CHOICE, log 66). -/
def State.raiseXch (s : State) (cause port lane fidx : Nat) (plot : Option Nat) (pn : Nat) : State :=
  s.raise Blk.xch Reg.XCH_STAT cause (locXch port lane fidx)
    (plot.getD 0 * 2 ^ 14 + port % 16 * 2 ^ 10 + lane % 8 * 2 ^ 7 + b2n plot.isSome * 64) plot pn

/-- An XT condition of the exchange (R183). -/
def State.raiseXt (s : State) (cause entry : Nat) (plot : Option Nat) (pn : Nat) : State :=
  s.raise Blk.xch Reg.XCH_STAT cause (2 ^ 31 + entry) (plot.getD 0 * 2 ^ 14 + b2n plot.isSome * 64) plot pn

/-- A condition of a block whose FIRST_LOC holds one small number: CMD, HVT, NOC, FIO, SIG. -/
def State.raiseAt (s : State) (b : Blk) (stat cause loc : Nat) (plot : Option Nat) (pn : Nat) : State :=
  s.raise b stat cause loc loc plot pn

/-- A Gleaner condition (R472): SPACE and INDEX, and in the history, which has the layout of the exchange (R183), the plot to
which the item is assigned. -/
def State.raiseGln (s : State) (cause space index : Nat) (plot : Option Nat) : State :=
  s.raise Blk.gln Reg.GLN_STAT cause (space * 2 ^ 28 + index % 2 ^ 28)
    (plot.getD 0 * 2 ^ 14 + b2n plot.isSome * 64) plot 0

/-! ## Injections that are taken (R471) -/

/-- The injections armed at a FI_CTRL register whose item is accessed now: KIND, CAUSE and ADDR of each; DONE is set and
ARM cleared. -/
def State.takeInjects (s : State) (reg : Nat) (pick : Nat → Bool) : List (Nat × Nat × Nat) × State :=
  let mine := s.inject.filter fun i => i.reg == reg && pick i.addr
  if mine = [] then ([], s)
  else
    let s1 := { s with inject := s.inject.filter fun i => !(i.reg == reg && pick i.addr) }
    (mine.map fun i => (nfld i.ctrl 28 2, nfld i.ctrl 23 5, i.addr), (s1.clrBit reg 31).setBit reg 30)

/-- What the injections that an access meets do: KIND 0b00 and 0b01 change the stored copy by 1 or 2 bits, KIND 0b10
raises condition CAUSE. -/
def State.injectAt (s : State) (reg : Nat) (pick : Nat → Bool) (corrupt : Nat → State → State)
    (cond : Nat → Nat → State → State) : State :=
  if s.inject = [] then s
  else
    let (l, s1) := s.takeInjects reg pick
    l.foldl (fun s i => match i.1 with
      | 0 => corrupt 1 s
      | 1 => corrupt 2 s
      | _ => cond i.2.1 i.2.2 s) s1

/-! ## Flits of the internal network (R420, R421, R471) -/

/-- A condition of the internal network (R425). -/
def State.raiseNoc (s : State) (cause loc : Nat) (plot : Option Nat) (pn : Nat) : State :=
  s.raiseAt Blk.noc Reg.NOC_STAT cause loc plot pn

/-- Planes of a PLANE_EN mask (R420, R425). -/
def planesOf (mask : Nat) : List Nat := (natsFrom 0 4).filter fun n => mask.testBit n

/-- Planes in service (R420, R425). -/
def State.planesOn (s : State) : List Nat := planesOf (s.fld Reg.NOC_CFG 24 4)

/-- The plane of the express slots reserved for the transfers of a plot between a furrow and a pseudo-channel, or Harvest as
64, has been retired since: the transfer is lost (R421). -/
def State.slotLost (s : State) (p furrow pc : Nat) : Bool :=
  let at_ := cget 0 s.tile.planesAt p
  s.fld Reg.NOC_CFG 24 4 != 15 && at_ != 0 &&
    (let l := planesOf at_
     !s.planesOn.contains (nth 0 l (Config.slotPlane (s.plot p).img.imgid at_ furrow pc % l.length)))

/-- Reservations of a plot crossed a plane that has been retired: its recovery fails (R421). -/
def State.slotsLost (s : State) (p : Nat) : Bool :=
  (s.plot p).res.furrows.any fun f => ((s.plot p).res.pcs ++ [64]).any fun c => s.slotLost p f c

/-- The plane of a flit: in sorted mode the plane of the requests, 0, or of the data, 3; in merged mode one of the planes in
service, which one is not stated: a free value (R420). -/
def State.flitPlane (s : State) (cause : Nat) : Nat × State :=
  if s.bit Reg.NOC_CFG 30 = true then (if cause = 1 then 3 else 0, s)
  else
    let on := s.planesOn
    let f := s.takeFree 2
    (nth 0 on (f.1 % max 1 on.length), f.2)

/-- A plane is retired (R421). While no plot is released firmware diagnoses the fault in sorted mode (R420; DEDUCED, log 35). -/
def State.retirePlane (s : State) (plane router : Nat) : State :=
  let s1 := (s.clrBit Reg.NOC_CFG (24 + plane)).raiseNoc 3 router none 0
  if s.anyReleased = true then s1
  else
    let s2 := s1.setBit Reg.NOC_CFG 30
    { s2 with tile := { s2.tile with diagnosing := true } }

/-- An uncorrectable flit at a router, of the express class (1) or the general one (2): it is discarded, and the 16th of a
plane within 1 ms retires the plane (R421). -/
def State.flitLost (s : State) (cause router : Nat) : State :=
  let s1 := (s.raiseNoc cause router none 0).count (Reg.NOC_CNT 1)
  let f := s1.flitPlane cause
  let now := f.2.ftNs
  let l := (f.2.tile.planeUe.filter fun e => decide (now < e.2 + 1000000)) ++ [(f.1, now)]
  let s2 : State := { f.2 with tile := { f.2.tile with planeUe := l } }
  if 16 ≤ (l.filter fun e => e.1 == f.1).length ∧ s2.bit Reg.NOC_CFG (24 + f.1) = true then s2.retirePlane f.1 router
  else s2

/-- The network raises condition CAUSE, which counts where it counts (R471). -/
def State.nocCond (s : State) (cause router : Nat) : State :=
  let s1 := s.raiseNoc cause router none 0
  match cause with
  | 0 => s1.count (Reg.NOC_CNT 0)
  | 1 => s1.count (Reg.NOC_CNT 1)
  | 2 => s1.count (Reg.NOC_CNT 1)
  | 4 => s1.count (Reg.NOC_CNT 2)
  | _ => s1

/-- A flit of a class (1 express, 2 general) meets the injections armed in the network: corrupted flits at the router that ADDR
names, or conditions (R471). -/
def State.nocInject (s : State) (cls : Nat) : State :=
  let t := s.takeInjects Reg.NOC_FI_CTRL fun _ => true
  t.1.foldl (fun s i => match i.1 with
    | 0 => s.nocCond 0 (i.2.2 % 256)
    | 1 => s.flitLost cls (i.2.2 % 256)
    | _ => s.nocCond i.2.1 (i.2.2 % 256)) t.2

/-- The next transfer loses a flit. -/
def State.nocLoses (s : State) : Bool := s.inject.any fun i => i.reg == Reg.NOC_FI_CTRL && nfld i.ctrl 28 2 == 1

/-! ## Header flits (R417) -/

/-- The fields of a header flit (R417). -/
structure Flit where
  /-- 32 × 3-bit output ports, hop 0 lowest -/
  route : Nat
  /-- hops - 1 -/
  nhop : Nat
  /-- hops taken -/
  hidx : Nat
  cmd : Nat
  /-- data flits -/
  len : Nat
  src : Nat
  tag : Nat
  express : Bool
  vc : Nat
  plot : Option Nat
  addr : Nat
deriving DecidableEq, Repr

/-- The 256 bits of a header flit (R417). -/
def Flit.word (f : Flit) : BitVec 256 :=
  BitVec.ofNat 256 (f.route % 2 ^ 96 * 2 ^ 160 + f.nhop % 32 * 2 ^ 155 + f.hidx % 32 * 2 ^ 150 + f.cmd % 16 * 2 ^ 146 +
    f.len % 64 * 2 ^ 136 + f.src % 256 * 2 ^ 128 + f.tag % 65536 * 2 ^ 112 + b2n f.express * 2 ^ 111 + f.vc % 4 * 2 ^ 109 +
    b2n f.plot.isSome * 2 ^ 108 + f.plot.getD 0 % 16 * 2 ^ 104 + f.addr % 2 ^ 48 * 2 ^ 56)

/-- The fields of 256 bits (R417). -/
def parseFlit (w : BitVec 256) : Flit :=
  let n := w.toNat
  { route := nfld n 160 96, nhop := nfld n 155 5, hidx := nfld n 150 5, cmd := nfld n 146 4, len := nfld n 136 6,
    src := nfld n 128 8, tag := nfld n 112 16, express := n.testBit 111, vc := nfld n 109 2,
    plot := if n.testBit 108 then some (nfld n 104 4) else none, addr := nfld n 56 48 }

/-- Output port of hop h (R417). -/
def Flit.hop (f : Flit) (h : Nat) : Nat := nfld f.route (3 * h) 3

/-- ROUTE and NHOP of the route table of an interface for another one (R422). -/
def State.route (s : State) (src dst : Nat) : Nat × Nat :=
  let row := fun i => (Config.routeEntry (s.fld Reg.NOC_CFG 24 4) (src * 256 + dst) i).toNat
  (row 0 + 2 ^ 32 * row 1 + 2 ^ 64 * row 2, nfld (row 3) 24 5)

/-- The header of a general request that PCIe sends for the host (R417, R419, R422): on VC0, by the route table's ROUTE and NHOP
to the target's interface (DEDUCED, log 72). -/
def State.hostFlit (s : State) (scratchpad : Bool) (unit cmd bytes : Nat) (plot : Option Nat) (addr : Nat) : Flit :=
  let src := Config.pcieInterface % 256
  let r := s.route src (Config.targetInterface scratchpad unit % 256)
  { route := r.1, nhop := r.2, hidx := 0, cmd := cmd, len := (bytes + 31) / 32,
    src := src, tag := Config.requestTag addr, express := false, vc := 0, plot := plot, addr := addr }

/-- Data flits: 32 bytes each, the last one filled with zeros (R416). -/
def dataFlits : Nat → List Byte → List (BitVec 256)
  | 0, _ => []
  | n + 1, bs => BitVec.ofNat 256 (leNat (bs.take 32)) :: dataFlits n (bs.drop 32)

/-- A general request crosses the network with its data flits (R416, R417, R421, R471): true when it is not served. One with a
reserved CMD is discarded and counted as GEN_UE; the target refuses one whose PV and PLOT are not those of the owner of the
resource (R419). -/
def State.packet (s : State) (w : BitVec 256) (data : List Byte) (owner : Option Nat) : Bool × State :=
  let f := parseFlit w
  let s1 := { s with out := { s.out with flit := w, flitData := dataFlits ((data.length + 31) / 32) data, reply := [] } }.nocInject 2
  if 9 ≤ f.cmd then (true, (s1.raiseNoc 2 0 none 0).count (Reg.NOC_CNT 1))
  else if s.nocLoses = true then (true, s1)
  else if f.plot = owner then (false, s1)
  else (true, (s1.raiseNoc 4 0 f.plot 0).count (Reg.NOC_CNT 2))

/-- The target answers a request that it has served, on VC1: a read response with its data flits, or a write acknowledge (R417,
R419). -/
def State.respond (s : State) (scratchpad : Bool) (unit : Nat) (data : Option (List Byte)) : State :=
  let q := parseFlit s.out.flit
  let src := Config.targetInterface scratchpad unit % 256
  let r := s.route src q.src
  let n := match data with
    | some bs => (bs.length + 31) / 32
    | none => 0
  let h : Flit := { q with route := r.1, nhop := r.2, cmd := if data.isSome then 2 else 3, len := n, src := src, vc := 1 }
  { s with out := { s.out with reply := h.word :: dataFlits n (data.getD []) } }

/-- An express transfer crosses the network (R418, R421): true when it is lost. -/
def State.express (s : State) : Bool × State := if s.inject = [] then (false, s) else (s.nocLoses, s.nocInject 1)

/-! ## ECC condition of stored items (R45, R76) -/

/-- Kinds of stored items whose ECC condition the machine keeps. -/
def Item.imem : Nat := 0
def Item.psw : Nat := 1
def Item.gather : Nat := 2
def Item.probe : Nat := 3
def Item.sigdesc : Nat := 4
def Item.window : Nat := 5
def Item.dmemRow : Nat := 6
def Item.stateRow : Nat := 7
def Item.ramWord : Nat := 8
def Item.hbmWord : Nat := 9
def Item.select : Nat := 10
def Item.spm : Nat := 11
def Item.xt : Nat := 12
def Item.cmdSlot : Nat := 13
/-- a group of 32 values of one plot on its way from another acre (R127) -/
def Item.d2d : Nat := 14

/-- Key of an item in the ECC record. -/
def eccKey (kind idx : Nat) : Nat := idx * 16 + kind

/-- ECC condition of an item: 0 correct, 1 single-bit error, 2 uncorrectable. -/
def State.eccAt (s : State) (kind idx : Nat) : Nat := cget 0 s.ecc (eccKey kind idx)

def State.eccSet (s : State) (kind idx v : Nat) : State := { s with ecc := cset 0 s.ecc (eccKey kind idx) v }

/-- An upset of an item: a second error makes it uncorrectable. A poisoned word (3) stays poisoned. -/
def State.upsetItem (s : State) (kind idx bits : Nat) : State :=
  s.eccSet kind idx (if s.eccAt kind idx = 3 then 3 else min 2 (s.eccAt kind idx + bits))

/-! ## Items and control triples of the Gleaner (R469, R471, R472) -/

/-- Items of a kind in one physical furrow (R43, R79, R85, R97, R98). -/
def glnPer (kind : Nat) : Nat :=
  if kind = Item.stateRow then 8192 else if kind = Item.ramWord then 512 else if kind = Item.imem then 131072
  else if kind = Item.dmemRow then 4096 else if kind = Item.psw then 1024 else 256

/-- SPACE of a Gleaner location (R472). -/
def glnSpace (kind : Nat) : Nat :=
  if kind = Item.imem then 0 else if kind = Item.psw then 1
  else if kind = Item.select then 3 else if kind = Item.xt then 4
  else if kind = Item.stateRow ∨ kind = Item.ramWord then 5
  else if kind = Item.hbmWord then 6 else 2

/-- The item number of the first item of a kind within a furrow's part of its SPACE: descriptors and windows, state rows and RAM
words, each in the order of R463 (DESIGN CHOICE, log 84). -/
def glnFrom (kind : Nat) : Nat :=
  if kind = Item.probe then 256 else if kind = Item.sigdesc then 512 else if kind = Item.window then 768
  else if kind = Item.ramWord then 8192 else 0

/-- INDEX of a Gleaner location (R472). -/
def glnIndex (kind idx : Nat) : Nat :=
  if kind = Item.select then idx / 2 ^ 23 % 4 * 2 ^ 26 + idx / 2 ^ 25 * 2 ^ 23 + idx % 2 ^ 23
  else if kind = Item.xt then idx
  else if kind = Item.hbmWord then idx / 32
  else idx / glnPer kind * 2 ^ 18 + glnFrom kind + idx % glnPer kind

/-- The item, as kind and index, that an address of the Gleaner's injections names (R471, R472); of the ECC words of a unit of
HBM the first. -/
def glnItemAt (addr : Nat) : Option (Nat × Nat) :=
  let ix := addr % 2 ^ 28
  let n := ix % 2 ^ 18
  let fur := fun kind => (kind, ix / 2 ^ 18 * glnPer kind + (n - glnFrom kind))
  match addr / 2 ^ 28 with
  | 0 => some (fur Item.imem)
  | 1 => some (fur Item.psw)
  | 2 => some (fur (if n < 256 then Item.gather else if n < 512 then Item.probe else if n < 768 then Item.sigdesc else Item.window))
  | 3 => some (Item.select, (ix / 2 ^ 23 % 8 * 4 + ix / 2 ^ 26) * 2 ^ 23 + ix % 2 ^ 23)
  | 4 => some (Item.xt, ix)
  | 5 => some (fur (if n < 8192 then Item.stateRow else Item.ramWord))
  | 6 => some (Item.hbmWord, ix * 32)
  | _ => none

/-- One or two bits of a stored entry change (R471). -/
def State.xtFlip (s : State) (e bits : Nat) : State :=
  { s with xch := { s.xch with xt := cset 0 s.xch.xt e (cget 0 s.xch.xt e ^^^ BitVec.ofNat 64 (2 ^ bits - 1)) } }

/-- A stored item is upset (R471). -/
def State.glnUpset (s : State) (kind idx bits : Nat) : State :=
  if kind = Item.xt then s.xtFlip idx bits else s.upsetItem kind idx bits

/-- Condition CAUSE of the Gleaner is injected (R471): it counts where the condition counts. -/
def State.glnCond (s : State) (cause space index : Nat) (plot : Option Nat) : State :=
  let s1 := s.raiseGln cause space index plot
  match cause with
  | 0 => s1.count (Reg.GLN_CNT 0)
  | 1 => s1.count (Reg.GLN_CNT 1)
  | 3 => s1.count (Reg.GLN_CNT 3)
  | 5 => s1.count (Reg.GLN_CNT 5)
  | 7 => s1.count (Reg.GLN_CNT 6)
  | 10 => s1.count (Reg.GLN_CNT 4)
  | _ => s1

/-- The injections armed at the Gleaner whose address satisfies a test meet an access (R471). -/
def State.glnMeet (s : State) (plot : Option Nat) (pick : Nat → Bool) (corrupt : Nat → Nat → State → State) : State :=
  if s.inject = [] then s
  else
    let t := s.takeInjects Reg.GLN_FI_CTRL pick
    t.1.foldl (fun s i => match i.1 with
      | 0 => corrupt i.2.2 1 s
      | 1 => corrupt i.2.2 2 s
      | _ => s.glnCond i.2.1 (i.2.2 / 2 ^ 28) (i.2.2 % 2 ^ 28) plot) t.2

/-- A fetch or read of the stored items, by kind and index, that satisfy a test meets the injections armed for them at the
Gleaner (R471). -/
def State.glnTouch (s : State) (plot : Option Nat) (read : Nat → Nat → Bool) : State :=
  s.glnMeet plot
    (fun a => match glnItemAt a with
      | some (kind, idx) => read kind idx
      | none => false)
    fun a bits s => match glnItemAt a with
      | some (kind, idx) => s.glnUpset kind idx bits
      | none => s

/-- An access to one ECC word of HBM meets the injections armed at the Gleaner for its 256 bytes (R471, R472). -/
def State.glnTouchHbm (s : State) (word : Nat) (plot : Option Nat) : State :=
  s.glnMeet plot (fun a => a == 6 * 2 ^ 28 + word / 32 % 2 ^ 28) fun _ bits s => s.upsetItem Item.hbmWord word bits

/-- Sequencers that use a triple: GLN_CFG all four, a sweep position its own; the triple of position a is 0x1000 + a. -/
def tripleSeqs (reg : Nat) : List Nat :=
  if reg = 0 then [0, 1, 2, 3] else if 0x1000 ≤ reg ∧ reg < 0x1004 then [reg - 0x1000] else []

/-- A sequencer starts its sweep again. -/
def State.sweepRestart (s : State) (a : Nat) : State :=
  { s with gln := { s.gln with pos := cdel s.gln.pos a, start := cset 0 s.gln.start a s.ftNs } }

/-- One triple is voted (R469): one copy differs, or the triple is lost and reloaded with its reset value. -/
def State.vote (s : State) (e : Nat × Nat) : State :=
  if e.2 = 1 then (s.raiseGln 5 7 e.1 none).count (Reg.GLN_CNT 5)
  else
    let s1 := s.raiseGln 6 7 e.1 none
    let s2 := if e.1 < 0x1000 then s1.rgReset (Reg.GLN_CFG + e.1) else s1
    (tripleSeqs e.1).foldl State.sweepRestart s2

/-- A use of the control triple at an offset (R469): the injections armed for it upset one or two of its copies (R471), and it is
voted. -/
def State.useTriple (s : State) (reg : Nat) : State :=
  if s.inject = [] ∧ s.gln.upset = [] then s
  else
    let s1 := s.glnMeet none (fun a => a == 7 * 2 ^ 28 + reg) fun _ bits s =>
      { s with gln := { s.gln with upset := cset 0 s.gln.upset reg bits } }
    let n := cget 0 s1.gln.upset reg
    if n = 0 then s1 else ({ s1 with gln := { s1.gln with upset := cdel s1.gln.upset reg } }).vote (reg, n)

/-! ## Leaky buckets -/

/-- SIZE of a bucket class (R461). -/
def State.bktSize (s : State) (cls : Nat) : Nat := s.fld (Reg.GLN_BKT_CFG0 + 4 * cls) 16 16

/-- An event that feeds a bucket (R19, R461): the level rises, and goes to 0 where it reaches SIZE, at which the bucket
overflows. -/
def State.bucket (s0 : State) (cls reg : Nat) : State :=
  let s := s0.useTriple (0x100 + 4 * cls)
  let size := s.bktSize cls
  if size = 0 then s
  else if size ≤ s.fld reg 0 16 + 1 then
    let s1 := s.put reg 0 16 0
    { s1 with gln := { s1.gln with spilt := s1.gln.spilt ++ [(cls, reg)] } }
  else s.put reg 0 16 (s.fld reg 0 16 + 1)

/-- A correctable furrow event: its condition, FUR_CE_CNT and the furrow's bucket (R106). -/
def State.furCe (s : State) (phys cause loc : Nat) (plot : Option Nat) (pn : Nat) : State :=
  ((s.raiseFur phys cause loc plot pn).count (Reg.FUR_CE_CNT phys)).bucket 0 (Reg.FUR_CE_BUCKET phys)

end Sys2Proof.Machine
end

