-- ==== Sys2Proof/Machine/Packet.lean ====
section
/-! DEFINITION. CTRL packets: layout, CRC, queues and flooding (R177-R181), and the bodies of plot control and link
management packets (R217, R264). -/

namespace Sys2Proof.Machine
open Sys2Proof

/-- The fields of a CTRL packet before its body (R177). -/
structure Pkt where
  ptype : Nat
  flood : Bool
  nhop : Nat
  hidx : Nat
  ptag : Nat
  seq : Nat
  src : Nat
  dst : Nat
  route : Nat
  /-- dwords 8 to 22 -/
  body : List Word
deriving DecidableEq, Repr

/-- Dword i of a packet. -/
def wordAt (ws : List Word) (i : Nat) : Nat := (ws.getD i 0).toNat

/-- Two dwords, low first. -/
def word64 (ws : List Word) (i : Nat) : Nat := wordAt ws i + 2 ^ 32 * wordAt ws (i + 1)

/-- The 24 dwords of a packet with its CRC (R177). -/
def Pkt.words (k : Pkt) : List Word :=
  let head := [k.ptype * 2 ^ 28 + b2n k.flood * 2 ^ 27 + (k.nhop % 32) * 2 ^ 22 + (k.hidx % 32) * 2 ^ 17,
    (k.ptag % 65536) * 65536 + k.seq % 65536, (k.src % 2 ^ 18) * 2 ^ 14, (k.dst % 2 ^ 18) * 2 ^ 14,
    k.route, k.route / 2 ^ 32, k.route / 2 ^ 64, 0].map (BitVec.ofNat 32)
  let w23 := head ++ (k.body ++ List.replicate 15 0).take 15
  w23 ++ [BitVec.ofNat 32 (crc32c (wordsBytes w23))]

/-- The fields of 24 dwords. -/
def parsePkt (ws : List Word) : Pkt :=
  let d0 := wordAt ws 0
  { ptype := nfld d0 28 4, flood := d0.testBit 27, nhop := nfld d0 22 5, hidx := nfld d0 17 5,
    ptag := wordAt ws 1 / 65536, seq := wordAt ws 1 % 65536, src := wordAt ws 2 / 2 ^ 14, dst := wordAt ws 3 / 2 ^ 14,
    route := wordAt ws 4 + 2 ^ 32 * wordAt ws 5 + 2 ^ 64 * wordAt ws 6, body := (ws.drop 8).take 15 }

/-- The CRC of a packet is right (R178). -/
def pktCrcOk (ws : List Word) : Bool := wordAt ws 23 == crc32c (wordsBytes (ws.take 23))

/-- Output port of hop h (R177). -/
def Pkt.hop (k : Pkt) (h : Nat) : Nat := nfld k.route (4 * h) 4

/-- A port is UP (R271). -/
def State.portUp (s : State) (q : Nat) : Bool := s.bit (Reg.LNK_PORT_STAT q) 31

def portIds : List Nat := natsFrom 0 16

/-- The trained ports. -/
def State.upPorts (s : State) : List Nat := portIds.filter s.portUp

/-- The live plot with a tag (R180). -/
def State.plotByTag (s : State) (tag : Nat) : Option Nat :=
  if tag = 0 then none else plotIds.find? fun p => (s.plot p).id.live && (s.plot p).id.ptag == tag

/-- The live plot that holds a port. -/
def State.portPlot (s : State) (q : Nat) : Option Nat := s.holder Res.ports q

/-- PN of the plot that holds a port, 0 for none. -/
def State.portPn (s : State) (q : Nat) : Nat := match s.portPlot q with
  | some p => (s.plot p).tm.pn
  | none => 0

/-- High class of CTRL packets (R181). -/
def highClass (ptype : Nat) : Bool := 1 ≤ ptype && ptype ≤ 5

/-- Queue a packet on a port; a full queue discards it (R181). CTRL_DROP has no frame and no lane: its location names LANE 0 and
FIDX 0 (DESIGN CHOICE, log 80). -/
def State.ctrlQueue (s : State) (port ptype : Nat) (ws : List Word) : State :=
  if (s.xch.ctrlQ.filter (fun w => w.port == port)).length < 64 then
    { s with xch := { s.xch with ctrlQ := s.xch.ctrlQ ++ [⟨port, highClass ptype, ws⟩] } }
  else (s.raiseXch 7 port 0 0 (s.portPlot port) (s.portPn port)).count (Reg.XCH_CNT 5)

/-- Queue one packet on each of a list of ports. -/
def State.ctrlQueueAll (s : State) (ports : List Nat) (ptype : Nat) (ws : List Word) : State :=
  ports.foldl (fun s q => s.ctrlQueue q ptype ws) s

/-- Take the next per-source sequence number (R177). -/
def State.nextSeq (s : State) : Nat × State :=
  (s.xch.seq, { s with xch := { s.xch with seq := (s.xch.seq + 1) % 65536 } })

/-- Remember a (SRCID, SEQ) pair among the last 1,024 (R180). -/
def State.markSeen (s : State) (src seq : Nat) : State :=
  { s with xch := { s.xch with seen := ((src, seq) :: s.xch.seen).take 1024 } }

/-- Originate a flooded packet of a plot: on every trained port of the plot, NHOP 24 (R180). -/
def State.flood (s : State) (p ptype : Nat) (body : List Nat) : State :=
  let (seq, s1) := s.nextSeq
  let k : Pkt := { ptype := ptype, flood := true, nhop := 24, hidx := 0, ptag := (s.plot p).id.ptag, seq := seq,
                   src := s.devId, dst := 0, route := 0, body := body.map (BitVec.ofNat 32) }
  (s1.markSeen s.devId seq).ctrlQueueAll ((s.plot p).res.ports.filter s.portUp) ptype k.words

/-- Originate a one-hop packet to the neighbour on a port (R264, R277). -/
def State.sendNbr (s : State) (port ptype ptag : Nat) (body : List Nat) : State :=
  let (seq, s1) := s.nextSeq
  let k : Pkt := { ptype := ptype, flood := false, nhop := 1, hidx := 1, ptag := ptag, seq := seq, src := s.devId,
                   dst := s.fld (Reg.LNK_NBR_ID port) 0 18, route := port, body := body.map (BitVec.ofNat 32) }
  s1.ctrlQueue port ptype k.words

/-- Body of a plot control packet (R217). -/
def plotCtlBody (subtype action status pn ftns : Nat) (more : List Nat) : List Nat :=
  [subtype + (action % 256) * 256 + (status % 256) * 65536, pn, pn / 2 ^ 32, ftns, ftns / 2 ^ 32] ++ more

/-- Flood a plot control packet (R217). -/
def State.floodCtl (s : State) (p subtype action status pn ftns : Nat) : State :=
  s.flood p 5 (plotCtlBody subtype action status pn ftns [])

/-- Send a link management packet (R264, R265). -/
def State.sendMgmt (s : State) (port subtype lane status : Nat) (pn : Nat) (level : Nat) : State :=
  s.sendNbr port 7 0 [subtype + port * 256 + (lane % 8) * 4096 + status * 65536, pn, pn / 2 ^ 32, level]

/-! Fields of plot control and link management bodies, from the 24 dwords. -/

def ctlSub (ws : List Word) : Nat := wordAt ws 8 % 256
def ctlAction (ws : List Word) : Nat := nfld (wordAt ws 8) 8 8
def ctlStatus (ws : List Word) : Nat := nfld (wordAt ws 8) 16 8
def ctlPn (ws : List Word) : Nat := word64 ws 9
def ctlFt (ws : List Word) : Nat := word64 ws 11
def pktSrc (ws : List Word) : Nat := wordAt ws 2 / 2 ^ 14
def pktTag (ws : List Word) : Nat := wordAt ws 1 / 65536

def mgmtPort (ws : List Word) : Nat := nfld (wordAt ws 8) 8 4
def mgmtLane (ws : List Word) : Nat := nfld (wordAt ws 8) 12 3
def mgmtStatus (ws : List Word) : Nat := nfld (wordAt ws 8) 16 8

end Sys2Proof.Machine
end

