-- ==== Sys2Proof/Machine/Operands.lean ====
section
/-! DEFINITION. The operands of commands: the 64-byte entry and its fields (R361), the matching-store entry a row
names, and how a command ends (R362, R371). -/

namespace Sys2Proof.Machine
open Sys2Proof

/-- The matching-store entry with a key. -/
def State.cmdOf (s : State) (id : Nat) : Option Cmd := s.cmd.store.find? fun c => c.id == id

/-- Change a matching-store entry. -/
def State.onCmd (s : State) (id : Nat) (f : Cmd → Cmd) : State :=
  { s with cmd := { s.cmd with store := s.cmd.store.map fun c => if c.id == id then f c else c } }

/-- Dword i of an entry. -/
def Cmd.dw (c : Cmd) (i : Nat) : Nat := wordAt c.words i

/-- Opcode of an entry (R361). -/
def Cmd.opc (c : Cmd) : Nat := c.dw 0 / 2 ^ 24

/-- Opcodes that move data by DMA. -/
def dmaOps : List Nat := [0x21, 0x44, 0x45, 0x51, 0x52, 0x54, 0x55, 0x60, 0x63, 0x72, 0x92, 0xa0, 0xa1, 0xb0]

/-- Commands that deep fallow lets execute (R480). -/
def fallowOps : List Nat := [0x00, 0x01, 0x02, 0x80, 0x81, 0x34]

/-- A unit may work on a command: not while its DMA waits for D0, while deep fallow holds it, or after a trip
(R387, R478, R480, R484). -/
def State.unitRuns (s : State) (c : Cmd) : Bool :=
  !s.pwr.tripped && !(dmaOps.contains c.opc && s.hostDown c.func) && (s.pwrState == 0 || fallowOps.contains c.opc)

/-- A command that an executing unit has taken, with its opcode (R371). -/
def State.taken (s : State) (opc id : Nat) : Option Cmd :=
  s.cmd.store.find? fun c => c.id == id && c.opc == opc && c.stage == .executing && s.unitRuns c

/-- Two dwords of an entry, low first. -/
def Cmd.dw64 (c : Cmd) (i : Nat) : Nat := word64 c.words i

/-- What an opcode does with a command that a unit has taken; nothing happens when no unit has taken it. -/
def State.onTaken (s : State) (opc id : Nat) (f : Cmd → State) : State :=
  match s.taken opc id with
  | some c => f c
  | none => s

/-- Opcodes that the hardware fast path serves (R371, R376). -/
def fastOp (opc : Nat) : Bool :=
  [0x30, 0x31, 0x32, 0x40, 0x41, 0x42, 0x43, 0x44, 0x45, 0x61, 0x62, 0xc0].contains opc

/-- A command that ends with a status and a result, as the n-th to finish (R359): a firmware command that waited for its event
takes a core again for its end (R371). -/
def Cmd.endAs (c : Cmd) (n status result : Nat) : Cmd :=
  { c with stage := .finished, status := status, result := result, done := n,
           woken := c.stage == .blocked && !fastOp c.opc }

/-- The next command to finish comes after those that have (R359). -/
def State.nextDone (s : State) : State := { s with cmd := { s.cmd with doneSeq := s.cmd.doneSeq + 1 } }

/-- The command ends with a status and a result; COMPLETION_WRITE writes its completion (R359). -/
def State.finish (s : State) (id status result : Nat) : State :=
  (s.onCmd id fun c => c.endAs s.cmd.doneSeq status result).nextDone

/-- The command ends with a status, a result and progress (R362, R373). -/
def State.finishAt (s : State) (id status result pos total : Nat) : State :=
  (s.onCmd id fun c => { c.endAs s.cmd.doneSeq status result with pos := pos, total := total }).nextDone

/-- The command releases its unit and waits for an event (R371). -/
def State.blockCmd (s : State) (id : Nat) : State := s.onCmd id fun c => { c with stage := .blocked }

/-- Finish an optional command: key 0 is none. -/
def State.finishOpt (s : State) (id status result : Nat) : State :=
  if id = 0 then s else s.finish id status result

end Sys2Proof.Machine
end

