-- ==== Sys2Proof/Machine/PlotFault.lean ====
section
/-! DEFINITION. Pass errors, divergence and the stop of a plot after a fault (R185, R191, R202, R213, R543), and the
stop of a trace stream, which both need (R443, R448). -/

namespace Sys2Proof.Machine
open Sys2Proof

/-- PLT_CMT_STAT.STATE (R218). -/
def State.cmtState (s : State) (p : Nat) : Nat := s.fld (Reg.PLT_CMT_STAT p) 28 4

def State.cmtStateSet (s : State) (p v : Nat) : State := s.put (Reg.PLT_CMT_STAT p) 28 4 v

def State.onTm (s : State) (p : Nat) (f : TimeSt → TimeSt) : State := s.onPlot p fun x => { x with tm := f x.tm }
def State.onCmt (s : State) (p : Nat) (f : CommitSt → CommitSt) : State := s.onPlot p fun x => { x with cmt := f x.cmt }
def State.onHvt (s : State) (p : Nat) (f : HvtSt → HvtSt) : State := s.onPlot p fun x => { x with hvt := f x.hvt }
def State.onImg (s : State) (p : Nat) (f : ImgSt → ImgSt) : State := s.onPlot p fun x => { x with img := f x.img }
def State.onRel (s : State) (p : Nat) (f : RelSt → RelSt) : State := s.onPlot p fun x => { x with rel := f x.rel }
def State.onId (s : State) (p : Nat) (f : PlotId → PlotId) : State := s.onPlot p fun x => { x with id := f x.id }
def State.onRes (s : State) (p : Nat) (f : Res → Res) : State := s.onPlot p fun x => { x with res := f x.res }

/-- A part of a plot's timetable that takes n steps is over (R6, R22): time passes to its end, when that lies ahead (DESIGN
CHOICE, log 74). -/
def State.spend (s : State) (p n : Nat) : State :=
  let d := (s.plot p).tm.due + n
  (s.onTm p fun t => { t with due := d }).waitSteps d

/-- The timetable of a plot begins now. -/
def State.clockFrom (s : State) (p : Nat) : State := s.onTm p fun t => { t with due := s.ft.wall }

/-- Sow state of a plot (R334). -/
def State.sow (s : State) (p : Nat) : Nat := s.fld (Reg.SOW_PLOT_STAT p) 28 4

def State.sowSet (s : State) (p v : Nat) : State := s.put (Reg.SOW_PLOT_STAT p) 28 4 v

/-- The plot's timetable advances: it is neither stopped nor in a hold. -/
def State.plotRuns (s : State) (p : Nat) : Bool := (s.plot p).tm.phase ≠ .stopped

/-- The plot's timetable advances, or it is in a hold (R199, R200). -/
def State.plotBusy (s : State) (p : Nat) : Bool := s.plotRuns p || (s.plot p).cmt.hold.isSome

/-- A command that is still in flight, finished with a status. -/
def Cmd.ended (c : Cmd) (n status result : Nat) : Cmd :=
  if c.stage = CmdStage.finished then c else c.endAs n status result

/-- Finish every matching command of a plot with a status. -/
def State.finishAll (s : State) (p : Nat) (pick : Cmd → Bool) (status result : Nat) : State :=
  State.nextDone { s with cmd := { s.cmd with
    store := s.cmd.store.map fun c => if (c.plot == p && pick c) = true then c.ended s.cmd.doneSeq status result else c } }

/-- RUN, HALT and STEP_PASS in flight (R378). -/
def isRunCmd (c : Cmd) : Bool :=
  (c.opc == 0x30 || c.opc == 0x31 || c.opc == 0x32) && (c.stage == .blocked)

/-- RUN, HALT and STEP_PASS in flight complete at a stop, and a HALT asks for no further stop (R26, R378); what they
report of an exposure is reported (R198). A RUN or STEP_PASS that ends with OK has all of its progress, the passes committed
since its start (R373, R374). -/
def State.finishRuns (s : State) (p status pn : Nat) : State :=
  let run := fun (c : Cmd) => c.plot == p && isRunCmd c
  let upd := fun (c : Cmd) => { c.ended s.cmd.doneSeq status pn with total := if status = Status.ok then c.pos else c.total }
  let silent := !(s.cmd.store.any run)
  (State.nextDone { s with cmd := { s.cmd with store := s.cmd.store.map fun c => if run c then upd c else c } }).onPlot p fun x =>
    { x with id := { x.id with stops := x.id.stops.filter fun e => !(e.1 == 0 && e.2.2 != 0) },
             cmt := { x.cmt with exposed := x.cmt.exposed && silent } }

/-- A SOW_SEGMENT or SOW_COMMIT in progress (R351). -/
def sowRun (c : Cmd) : Bool := (c.opc == 0x21 || c.opc == 0x22) && c.stage == .executing

/-- The plot is being sown by a command in progress. -/
def State.sowRuns (s : State) (p : Nat) : Bool := s.cmd.store.any fun c => c.plot == p && sowRun c

/-- A command that waits for a headland of its plot (R543). -/
def waitsHeadland (c : Cmd) : Bool :=
  (c.stage == .blocked || c.stage == .pnDelay || c.stage == .ready) &&
    ([0x41, 0x42, 0x43, 0x53, 0xb0, 0x61, 0x50].contains c.opc || (c.opc == 0x72 && (c.dw 6).testBit 1))

/-- Of two fault statuses the one reported: DIVERGENCE, then DATA_LOSS, then PLOT_FAULT (R26). -/
def worseFault (a : Option Nat) (b : Nat) : Option Nat :=
  match a with
  | none => some b
  | some x =>
    if x = Status.divergence ∨ b = Status.divergence then some Status.divergence
    else if x = Status.dataLoss ∨ b = Status.dataLoss then some Status.dataLoss
    else some Status.plotFault

/-- Note a fault status still to be reported (R26). -/
def State.noteFault (s : State) (p status : Nat) : State := s.onCmt p fun c => { c with fault := worseFault c.fault status }

/-- Capture of a plot's stream stops: STOP record, stop PN, state STOPPED (R443, R448). -/
def State.hvtStop (s : State) (p cause pn ft : Nat) : State :=
  let st := s.fld (Reg.HVT_STAT p) 28 4
  if st = 1 ∨ st = 2 then
    let s1 := s.event { rtype := 0x08, len := 1, plot := some p, pn := pn, ft := ft, body := [BitVec.ofNat 32 cause],
                        toDev := true, toPlot := true }
    (s1.put (Reg.HVT_STAT p) 28 4 3).rnSet64 (Reg.HVT_STOP_PN_LO p) pn
  else s

/-- The newest committed pass (R448); 0 before the first commit. -/
def State.newest (s : State) (p : Nat) : Nat := (s.plot p).tm.cpn - 1

/-- T when the stream has fired, else 0 (R448). -/
def State.firedPn (s : State) (p : Nat) : Nat :=
  if s.fld (Reg.HVT_STAT p) 28 4 = 2 ∨ (s.plot p).hvt.fireFt ≠ 0 then s.rn64 (Reg.HVT_TRIG_PN_LO p) else 0

/-- Opcodes of the AT column H or R, and of S (R370, R376). -/
def atHOps : List Nat := [0x31, 0x33, 0x41, 0x42, 0x43, 0x45, 0x50, 0x53, 0x61, 0x62, 0xb0]
def atSOps : List Nat := [0x44, 0x72]

/-- A command with AT by PN is ready (R370): at step 0 of the headland of max(AT - 2, 0), or for a start when the headland
of AT begins; and at once on a plot that executes no headland any more (R543). -/
def State.pnReady (s : State) (c : Cmd) : Bool :=
  let t := (s.plot c.plot).tm
  let n := c.dw64 4
  s.cmtState c.plot == 6 || s.cmtState c.plot == 7 ||
    (t.launched && decide ((if atSOps.contains c.opc then n else n - 2) < t.headTop))

/-- Commands become ready: they enter the ready lists behind those already there (R371). -/
def State.makeReady (s : State) (pick : Cmd → Bool) : State :=
  let go := s.cmd.store.filter pick
  if go = [] then s
  else { s with cmd := { s.cmd with store := s.cmd.store.filter (fun c => !(pick c)) ++ go.map fun c => { c with stage := .ready } } }

/-- MEM_READ and MEM_WRITE that wait for a headland or a pass of the plot (R148, R370). -/
def State.memWaits (s : State) (p : Nat) (c : Cmd) : Bool :=
  c.plot == p && (c.opc == 0x44 || c.opc == 0x45) &&
    (c.stage == .pnDelay || (c.stage == .blocked && (s.plot p).id.hostQ.contains c.id))

/-- Commands of a plot that stopped for good complete (R543): those that wait for a headland, a FALLOW among them, with the
status, TRACE_STOP with OK after acting at once. MEM_READ and MEM_WRITE wait no longer, and are ready to act. -/
def State.finishWaiting (s : State) (p status : Nat) : State :=
  let fallows := ((s.plot p).id.stops.filter fun e => e.1 != 0).map (·.2.2)
  let s1 := s.finishAll p (fun c => waitsHeadland c || fallows.contains c.id) status 0
  let stops := s1.cmd.store.any fun c =>
    c.plot == p && c.opc == 0x62 && (c.stage == .blocked || c.stage == .pnDelay || c.stage == .ready)
  let s2 := if stops then s1.hvtStop p 2 (s1.newest p) s1.ftNs else s1
  let s3 := s2.finishAll p
    (fun c => c.opc == 0x62 && (c.stage == .blocked || c.stage == .pnDelay || c.stage == .ready)) Status.ok
    (s.firedPn p)
  (s3.makeReady (s.memWaits p)).onPlot p fun x =>
    { x with id := { x.id with hostQ := [], stops := [], serving := [] },
             cmt := { x.cmt with rollback := [], recov := [], extra := [] } }

/-- A plot that stands still has stopped for good, after a failed recovery (state 7, PLOT_FAULT) or a divergence (state 6,
DIVERGENCE) (R202, R213, R543). -/
def State.faultStop (s : State) (p state status : Nat) : State :=
  let st := ((worseFault (s.plot p).cmt.fault status).getD status)
  let s1 := s.onPlot p fun x =>
    { x with id := { x.id with startAt := none },
             cmt := { x.cmt with hold := none, resume := none, suppress := none, diverge := false, stopNow := false,
                                 fault := none } }
  let s2 := (s1.cmtStateSet p state).clrBit (Reg.PLT_CMT_STAT p) 7
  let s3 := s2.finishRuns p st (s.plot p).tm.pn
  (s3.finishWaiting p status).plotState p 1 status []

/-- The plot stops at once, and for good (R202, R213, R543). -/
def State.stopFault (s : State) (p state status : Nat) : State :=
  (s.onTm p fun t => { t with phase := .stopped }).faultStop p state status

/-- HOLD record (R429). -/
def State.holdRec (s : State) (p kind action stake pn : Nat) : State :=
  s.record 0x0b 2 (some p) pn [kind + action * 256, stake, stake / 2 ^ 32]

/-- A hold fails (R202): RECOV_FAIL, and the plot is left stopped. -/
def State.recoveryFailed (s : State) (p : Nat) : State :=
  let k := match (s.plot p).cmt.hold with
    | some h => h.k
    | none => (s.plot p).tm.cpn
  let s1 := ((s.setBit (Reg.PLT_CMT_STAT p) 6).plotInt p 3).holdRec p 3 0 0 k
  s1.stopFault p 7 Status.plotFault

/-- The plot diverges at pass k (R213): it stops at step 23 of its current or next headland. One that has been launched
and stands stopped executes no further headland: it is stopped for good at once (DEDUCED, log 51). -/
def State.divergePass (s : State) (p k : Nat) (sendPacket : Bool) : State :=
  if (s.plot p).cmt.diverge ∨ s.cmtState p = 6 ∨ s.cmtState p = 7 then s
  else
    let s1 := (((s.setBit (Reg.PLT_CMT_STAT p) 1).plotInt p 4).onCmt p fun c => { c with diverge := true })
    let s2 := s1.holdRec p 4 0 0 k
    let s3 := if sendPacket then s2.floodCtl p 0x14 0 0 k 0 else s2
    if s.plotBusy p = false ∧ (s.plot p).tm.launched = true then s3.faultStop p 6 Status.divergence else s3

/-- The PN delay list of a plot (R370). -/
def State.readyPlot (s : State) (p : Nat) : State := s.makeReady fun c => c.plot == p && c.stage == .pnDelay && s.pnReady c

/-- RETRY of PLT_CMT_FAIL. -/
def State.retry (s : State) (p : Nat) : Nat := s.fld (Reg.PLT_CMT_FAIL p) 0 4

/-- A pass error of this device charged to pass k of a plot (R185, R191). -/
def State.passError (s : State) (p k block cause : Nat) (loc unit : Nat) : State :=
  let c := (s.plot p).cmt
  let disc := match c.discarded with
    | some (a, b) => decide (a ≤ k ∧ k ≤ b)
    | none => false
  if disc then s
  else if k < (s.plot p).tm.dpn then s.divergePass p k true
  else
    let s1 := s.onCmt p fun c =>
      { c with flags := if c.flags.contains k then c.flags else k :: c.flags,
               charges := ⟨k, block, cause, BitVec.ofNat 32 loc, unit⟩ :: c.charges }
    if c.voted.contains k then s1
    else
      let s2 := s1.onCmt p fun c => { c with voted := k :: c.voted }
      s2.flood p 3 [k, k / 2 ^ 32, block * 2 ^ 24 + cause * 2 ^ 16 + s.retry p, loc]

/-- A furrow condition that is a pass error of pass k (R106). -/
def State.furError (s : State) (p phys cause loc k : Nat) : State :=
  (s.raiseFur phys cause loc (some p) k).passError p k Block.furrow cause loc phys

/-- A switch condition that is a pass error of pass k (R128, R186). -/
def State.swError (s : State) (p acre cause dst step k : Nat) : State :=
  (s.raiseSw acre cause p dst step k).passError p k Block.switch cause
    (p * 2 ^ 28 + (dst % 2 ^ 13) * 2 ^ 13 + step % 1024) acre

/-- A frame condition that is a pass error of pass k when a running plot owns the port (R163). -/
def State.xchError (s : State) (cause cnt port lane fidx k : Nat) : State :=
  match s.portPlot port with
  | some p =>
    let s1 := (s.raiseXch cause port lane fidx (some p) k).countBy (Reg.XCH_CNT cnt) 1
    if s.plotRuns p then
      s1.passError p k Block.xch cause (locXch port lane fidx) (port * 16 + lane)
    else s1
  | none => (s.raiseXch cause port lane fidx none k).countBy (Reg.XCH_CNT cnt) 1

end Sys2Proof.Machine
end

