-- ==== Sys2Proof/Machine/Access.lean ====
section
/-! DEFINITION. Writes of BAR0 registers: which are refused, and what a write does to plain fields (R13, R14, R324,
R504-R507). Registers whose writes act are handled in the files of their blocks, and joined in Machine/Bar0.lean. -/

namespace Sys2Proof.Machine
open Sys2Proof

/-- Key of a reader's own copy of a register; reader 64 is the monitor (R507). -/
def copyKey (reader a : Nat) : Nat := (reader + 1) * 2 ^ 26 + a

/-- A reader's own copy of a register. -/
def State.copyRd (s : State) (reader a : Nat) : Word := cget 0 s.copies (copyKey reader a)

def State.copyWr (s : State) (reader a : Nat) (v : Word) : State :=
  { s with copies := cset 0 s.copies (copyKey reader a) v }

/-- Set a bit of the DEV_STAT copy of a function (R507, R512). -/
def State.devStat (s : State) (fn i : Nat) : State :=
  s.copyWr fn Reg.DEV_STAT (wput (s.copyRd fn Reg.DEV_STAT) i 1 1)

/-- Owner function of a queue pair: the function whose range holds it (R354). -/
def State.queueOwner (s : State) (q : Nat) : Option Nat :=
  (natsFrom 0 64).find? fun f =>
    decide (s.fld (Reg.CMD_FUNC_Q f) 0 12 ≤ q ∧ q < s.fld (Reg.CMD_FUNC_Q f) 0 12 + s.fld (Reg.CMD_FUNC_Q f) 16 13)

/-- Logical furrow that a physical furrow acts as, while in service (R103). -/
def State.logicalOf (s : State) (phys : Nat) : Option Nat :=
  let l := 128 * (phys / 132) + phys % 132
  if phys % 132 < 128 ∧ s.phys l = phys then some l
  else (s.fmap.find? fun e => e.2 == phys + 1).map (·.1)

/-- Plot that holds a physical furrow (R394). -/
def State.furPlot (s : State) (phys : Nat) : Option Nat :=
  match s.logicalOf phys with
  | some l => s.holder Res.furrows l
  | none => none

/-- Plot that owns a scratchpad bank (R404, R405). -/
def State.bankPlot (s : State) (b : Nat) : Option Nat :=
  if s.bit (Reg.SPM_BANK_OWNER b) 31 then some (s.fld (Reg.SPM_BANK_OWNER b) 24 4) else none

/-- Plot to which a register's resource belongs (R506). -/
def State.regPlot (s : State) (cls : RegClass) (i : Nat) : Option Nat :=
  match cls with
  | .plot => if (s.plot i).id.live then some i else none
  | .fur => s.furPlot i
  | .pc => s.holder Res.pcs i
  | .sig => s.holder Res.sigs i
  | .fio => s.holder Res.fios i
  | .tu => s.holder Res.tus i
  | .spm => s.bankPlot i
  | _ => none

/-- Whether a function may write a register of a class (R506). -/
def State.mayWrite (s : State) (fn : Nat) (cls : RegClass) (i a : Nat) : Bool :=
  match cls with
  | .identity => a == Reg.DEV_STAT || a == Reg.DEV_SCRATCH
  | .shared => false
  | .window => true
  | .time => isAdmin fn
  | .device => isAdmin fn
  | .queue => isAdmin fn || s.queueOwner i == some fn
  | .function => isAdmin fn || fn == i
  | c => isAdmin fn || (match s.regPlot c i with
      | some p => (s.plot p).id.owner == fn
      | none => false)

/-- Whether a function may read a register of a class (R506). -/
def State.mayRead (s : State) (fn : Nat) (cls : RegClass) (i : Nat) : Bool :=
  match cls with
  | .identity => true
  | .shared => true
  | .window => true
  | .time => true
  | .device => isAdmin fn
  | .queue => isAdmin fn || s.queueOwner i == some fn
  | .function => isAdmin fn || fn == i
  | c => isAdmin fn || (match s.regPlot c i with
      | some p => (s.plot p).id.owner == fn
      | none => false)

/-- A block that is served before firmware runs: DEV, CRP, SOW, MEM (R324). -/
def servedEarly (a : Nat) : Bool := [0, 1, 5, 10].contains (a / 2 ^ 16)

/-- Whether the RW-L fields of a register are locked: the plot it belongs to has been released (R13). -/
def State.lockedFor (s : State) (cls : RegClass) (i a : Nat) : Bool :=
  match s.regPlot cls i with
  | some p => (s.plot p).id.locked
  | none =>
    if 0x100000 ≤ a ∧ a < 0x120000 then
      match s.portPlot ((a - 0x100000) / 0x2000) with
      | some p => (s.plot p).id.locked
      | none => false
    else false

/-- One field of a plain write (R13). -/
def fieldWrite (locked : Bool) (old v : Nat) (f : RegField) : Nat :=
  let o := nfld old f.lo f.len
  let n := nfld v f.lo f.len
  match f.acc with
  | .rw => n
  | .w1c => o - (o &&& n)
  | .w1s => o ||| n
  | .rwl => if locked then o else n
  | _ => o

/-- The content of a register after a plain write of its fields (R13). -/
def fieldsWrite (locked : Bool) (v : Nat) : List RegField → Nat → Nat
  | [], old => old
  | f :: fs, old => fieldsWrite locked v fs (putFld old f.lo f.len (fieldWrite locked old v f))

/-- Bits of a register that no field covers (R14). -/
def reservedMask (fs : List RegField) : Nat := 0xffffffff - fieldsMask (fun _ => true) fs

/-- A write carries a non-zero reserved field: RSVD_WRITE of the writer (R14). -/
def State.rsvdCheck (s : State) (fn v : Nat) (fs : List RegField) : State :=
  if v &&& reservedMask fs ≠ 0 then s.devStat fn 0 else s

/-- A write of a register's plain fields (R13, R14); a reserved bit written to DEV_STAT sets RSVD_WRITE after the write
(R508). -/
def State.plainWrite (s : State) (fn a v : Nat) (r : RegRow) (is : List Nat) : State :=
  let s1 := s.rsvdCheck fn v r.fields
  if a = Reg.DEV_STAT then
    (s.copyWr fn a (BitVec.ofNat 32 (fieldsWrite false v r.fields (s.copyRd fn a).toNat))).rsvdCheck fn v r.fields
  else if a = Reg.DEV_SCRATCH ∨ r.cls = .window then s1.copyWr fn a (BitVec.ofNat 32 (fieldsWrite false v r.fields 0))
  else s1.rnSet a (fieldsWrite (s.lockedFor r.cls (is.headD 0) a) v r.fields (s1.rn a))

/-- What stands before a write: the state with the refusal noted, or the register written (R505, R506). -/
def State.gate (s : State) (fn a : Nat) : State ⊕ (RegRow × List Nat) :=
  if a % 4 ≠ 0 then .inl (s.devStat fn 1)
  else if !s.running && !servedEarly a then .inl s
  else match regAt a with
    | none => .inl (s.devStat fn 2)
    | some (r, is) =>
      if s.mayWrite fn r.cls (is.headD 0) a then .inr (r, is) else .inl (s.devStat fn 3)

/-- A write that passes the gate goes to its handler. -/
def State.opened (s : State) (fn a : Nat) (k : State → RegRow → List Nat → State) : State :=
  match s.gate fn a with
  | .inl s1 => s1
  | .inr (r, is) => k s r is

/-- A write by a function over its link (R478). -/
def State.gated (s : State) (fn a : Nat) (k : State → RegRow → List Nat → State) : State :=
  if s.hostDown fn then s else s.opened fn a k

/-- Change a field that only PF0 may write (R506): another function's write leaves it, and is noted when it differs. -/
def State.pf0Field (s : State) (fn a lo len v : Nat) : State :=
  if isAdmin fn then s.put a lo len (nfld v lo len)
  else if nfld v lo len = s.fld a lo len then s else s.devStat fn 3

end Sys2Proof.Machine
end

