-- ==== Sys2Proof/Machine/FieldIo.lean ====
section
/-! DEFINITION. Field I/O ports: latches and samples, releases, the clock pair, CO-RUN comparison, words of the
scratchpad (R401), BRIDGE rings and reflex table (11_field_io_and_signatures.md R294-R313, R100-R102), and gates
(R122-R124). -/

namespace Sys2Proof.Machine
open Sys2Proof

def State.fio (s : State) (q : Nat) : Fio := cget {} s.io.fio q

def State.fioSet (s : State) (q : Nat) (x : Fio) : State := { s with io := { s.io with fio := cset {} s.io.fio q x } }

def State.onFio (s : State) (q : Nat) (f : Fio → Fio) : State := s.fioSet q (f (s.fio q))

/-- ROLE (R302): 0 EMULATION, 1 CO-RUN, 2 BRIDGE. -/
def State.fioRole (s : State) (q : Nat) : Nat := s.fld (Reg.FIO_PORT_CFG q) 30 2

/-- OMODE DIRECT (R301). -/
def State.fioDirect (s : State) (q : Nat) : Bool := s.bit (Reg.FIO_PORT_CFG q) 29

def State.cmode (s : State) (q : Nat) : Nat := s.fld (Reg.FIO_CLK_CFG q) 30 2

/-- DIR of a pin (R321). -/
def State.pinDir (s : State) (q i : Nat) : Nat := s.fld (Reg.FIO_PIN_CFG q i) 30 2

def State.pinDdr (s : State) (q i : Nat) : Bool := s.bit (Reg.FIO_PIN_CFG q i) 29

def pinIds : List Nat := natsFrom 0 32

/-- A Field I/O condition (R321): bit of FIO_PORT_STAT. -/
def State.raiseFio (s : State) (q cause : Nat) (plot : Option Nat) (pn : Nat) : State :=
  s.raiseAt Blk.fio (Reg.FIO_PORT_STAT q) cause q plot pn

/-- A latch of a port meets the injections armed for it (R471): the conditions count as R321 states. -/
def State.fioInject (s : State) (p pn q : Nat) : State :=
  s.injectAt Reg.FIO_FI_CTRL (fun a => a % 16 == q) (fun _ s => s) fun cause _ s =>
    let s1 := s.raiseFio q cause (some p) pn
    match cause with
    | 0 => s1.count (Reg.FIO_MISMATCH_CNT q)
    | 2 => s1.count (Reg.FIO_BRG_DROP_CNT q)
    | 3 => s1.count (Reg.FIO_BRG_DROP_CNT q)
    | _ => s1

/-- Levels that the environment supplies for a port's pins. -/
def levelsOf (pins : List (Nat × Nat)) (q : Nat) : Nat :=
  match pins.find? fun e => e.1 == q with
  | some e => e.2
  | none => 0

/-- Every input bit of a port reads X while its supply is bad, whatever its role (R294). -/
def State.supplied (s : State) (q : Nat) (vals : List Val) : List Val :=
  if s.bit (Reg.FIO_PORT_STAT q) 6 then List.replicate 32 .vx else vals

/-- The 32 sampled values of a port (R295). -/
def State.pinVals (s : State) (q levels : Nat) : List Val := s.supplied q (unpackBits 32 levels)

/-- Ball PUSH_PIN of a BRIDGE port is not driven (R312). -/
def State.pushBall (s : State) (q i : Nat) : Bool := s.fioRole q == 2 && i == s.fld (Reg.FIO_BRG_CFG q) 16 5

/-- Pins driven now, and their levels (R294, R313). -/
def State.pinOut (s : State) (q : Nat) : BitVec 32 × BitVec 32 :=
  if s.bit (Reg.FIO_PORT_STAT q) 6 || s.bit (Reg.FIO_PORT_STAT q) 7 then (0, 0) else ((s.fio q).oe, (s.fio q).out)

/-! ## The input log -/

/-- Add a record to a plot's input log (R211). -/
def State.logAdd (s : State) (p : Nat) (r : LogRec) : State := s.onPlot p fun x => { x with cmt := { x.cmt with log := x.cmt.log ++ [r] } }

/-- Pass a log record belongs to. -/
def LogRec.pn : LogRec → Nat
  | .latch pn _ _ => pn
  | .sample pn _ _ _ => pn
  | .gate pn _ _ => pn
  | .poke pn _ _ _ _ => pn
  | .ramWrite pn _ _ _ => pn
  | .memWrite pn _ _ => pn
  | .sigRestart pn _ => pn
  | .force pn _ _ _ _ => pn
  | .unforce pn _ _ _ => pn

/-- Forced slots after one log record (R379). -/
def forceStep (l : List (Nat × Nat × Nat × Val)) : LogRec → List (Nat × Nat × Nat × Val)
  | .force _ f b t v => (l.filter fun e => !(e.1 == f && e.2.1 == b && e.2.2.1 == t)) ++ [(f, b, t, v)]
  | .unforce _ f b t => l.filter fun e => !(e.1 == f && e.2.1 == b && e.2.2.1 == t)
  | _ => l

/-- The forced slots that pass n sees (R58, R196): what freed records left, and the records up to pass n. -/
def State.forcesAt (s : State) (p n : Nat) : List (Nat × Nat × Nat × Val) :=
  ((s.plot p).cmt.log.filter fun r => LogRec.pn r ≤ n).foldl forceStep (s.plot p).id.forces

/-- The forced slots that the headland before pass n applies again (R58, R379), at its first execution as at a later one: those
of the records before pass n. -/
def State.forcesBefore (s : State) (p n : Nat) : List (Nat × Nat × Nat × Val) :=
  ((s.plot p).cmt.log.filter fun r => LogRec.pn r < n).foldl forceStep (s.plot p).id.forces

/-- Free the log records below pass n (R211); what they left forced stays known. -/
def State.logTrim (s : State) (p n : Nat) : State :=
  let gone := (s.plot p).cmt.log.filter fun r => LogRec.pn r < n
  s.onPlot p fun x => { x with id := { x.id with forces := gone.foldl forceStep x.id.forces },
                               cmt := { x.cmt with log := x.cmt.log.filter fun r => n ≤ LogRec.pn r } }

/-- The latch logged for a pass and port: the newest. -/
def logLatch (l : List LogRec) (pn q : Nat) : Option (List Val) :=
  l.reverse.findSome? fun r => match r with
    | .latch n port v => if n = pn ∧ port = q then some (unpackVals 32 v.toNat) else none
    | _ => none

/-- The mid-pass sample logged for a pass and port: the newest. -/
def logSample (l : List LogRec) (pn q : Nat) : Option (List Val) :=
  l.reverse.findSome? fun r => match r with
    | .sample n _ port v => if n = pn ∧ port = q then some (unpackVals 32 v.toNat) else none
    | _ => none

/-- The gate sample logged for a pass: the newest. -/
def logGate (l : List LogRec) (pn g : Nat) : Option Val :=
  l.reverse.findSome? fun r => match r with
    | .gate n gt v => if n = pn ∧ gt = g then some v else none
    | _ => none

/-- A pass has been executed before (R196, R297). -/
def State.executed (s : State) (p pn : Nat) : Bool := pn < (s.plot p).cmt.top

/-! ## Words of the scratchpad (R401) -/

/-- A condition of the scratchpad. -/
def State.spmCond (s : State) (i : Nat) : State := s.condition Block.spm Reg.SPM_STAT i

/-- An access to a word meets the injections armed for it (R471). The spec gives this block no FIRST_LOC; ADDR is taken
as the byte address in the 64 banks. DESIGN CHOICE, log 32. -/
def State.spmInject (s : State) (addr : Nat) : State :=
  s.injectAt Reg.SPM_FI_CTRL (fun a => a / 8 == addr / 8) (fun bits s => s.upsetItem Item.spm (addr / 8) bits)
    fun cause _ s => if cause = 1 then (s.spmCond cause).bucket 5 Reg.SPM_CE_BUCKET else s.spmCond cause

/-- SECDED of one 8-byte word (R401): true when it cannot be corrected. -/
def State.spmCheck (s0 : State) (addr : Nat) : Bool × State :=
  let s := s0.spmInject addr
  match s.eccAt Item.spm (addr / 8) with
  | 0 => (false, s)
  | 1 => (false, ((s.eccSet Item.spm (addr / 8) 0).spmCond 1).bucket 5 Reg.SPM_CE_BUCKET)
  | _ => (true, s.spmCond 0)

/-! ## BRIDGE rings -/

/-- Byte address of an inbound or outbound ring entry in the scratchpad (R310). -/
def State.ringAddr (s : State) (q : Nat) (out : Bool) (n : Nat) : Nat :=
  s.fld (Reg.FIO_BRG_CFG q) 26 6 * 2 ^ 18 + (if out then 0x20000 else 0) + 16 * (n % 8192)

/-- FIO_BRG_PTR follows the rings (R321). -/
def State.brgPtr (s : State) (q : Nat) : State :=
  s.rnSet (Reg.FIO_BRG_PTR q) (((s.fio q).inWr - (s.fio q).inRd) * 65536 + ((s.fio q).outWr - (s.fio q).outRd))

/-- A discarded entry (R312): bit 3 outbound, 2 inbound. -/
def State.brgDrop (s : State) (q cause : Nat) (pn : Nat) : State :=
  (s.raiseFio q cause (s.holder Res.fios q) pn).count (Reg.FIO_BRG_DROP_CNT q)

/-- Write one 16-byte ring entry: its two words get new check bits. -/
def State.ringWrite (s : State) (addr : Nat) (ws : List Nat) : State :=
  (((s.spmInject addr).eccSet Item.spm (addr / 8) 0).eccSet Item.spm (addr / 8 + 1) 0).spmWrite addr
    (wordsBytes (ws.map (BitVec.ofNat 32)))

/-- BRIDGE delivery for pass pn (R311): X values from an uncorrectable word (R401). It takes its entry while the supply is bad
too (DESIGN CHOICE, log 75). -/
def State.bridgeDeliver (s : State) (p q pn : Nat) : List Val × State :=
  let x := s.fio q
  let vp := s.fld (Reg.FIO_BRG_CFG q) 21 5
  if x.inDel < x.inWr then
    let addr := s.ringAddr q false x.inDel
    let r := s.spmCheck addr
    let vals := if r.1 then List.replicate 32 .vx else unpackBits 32 (leNat (r.2.spmRead addr 4))
    (setNth vals vp .v1,
     r.2.fioSet q { x with inDel := x.inDel + 1, lastIn := vals, inUse := x.inUse ++ [(pn, x.inDel + 1)] })
  else (setNth x.lastIn vp .v0, s.raiseFio q 4 (some p) pn)

/-! ## Input latch and mid-pass sample -/

/-- A double data rate input bit takes the pin's mid-pass sample of the ending pass (R300). -/
def State.ddrLatch (s : State) (q : Nat) (vals sample : List Val) : List Val :=
  (natsFrom 0 16).foldl (fun vs m => if s.pinDdr q (2 * m) then setNth vs (2 * m + 1) (nth .vx sample (2 * m)) else vs) vals

/-- The mid-pass sample of a pass, X before any. -/
def Fio.sampleOf (x : Fio) (pn : Nat) : List Val :=
  match x.sample.find? fun e => e.1 == pn with
  | some e => e.2
  | none => List.replicate 32 .vx

def Fio.latchNow (x : Fio) : List Val :=
  match x.latch with
  | e :: _ => e.2
  | [] => List.replicate 32 .vx

/-- Latch one port for pass pn (R297, R300, R311): live, or from the input log in a pass executed before. -/
def State.latchPort (s0 : State) (p pn : Nat) (pins : List (Nat × Nat)) (q : Nat) : State :=
  let s := s0.fioInject p pn q
  if s.executed p pn then
    s.onFio q fun x => { x with latch := [(pn, (logLatch (s.plot p).cmt.log pn q).getD (List.replicate 32 .vx))] }
  else
    let (vals, s1) :=
      if s.fioRole q = 2 then (s.supplied q (s.bridgeDeliver p q pn).1, (s.bridgeDeliver p q pn).2)
      else (s.ddrLatch q (s.pinVals q (levelsOf pins q)) ((s.fio q).sampleOf (pn - 1)), s)
    (s1.onFio q fun x => { x with latch := [(pn, vals)] }).logAdd p (.latch pn q (BitVec.ofNat 64 (packVals vals)))

/-- Value of input bit i of a furrow, from what `vals` gives for its port (R100). -/
def State.inputBit (s : State) (phys i : Nat) (vals : Nat → List Val) : Val :=
  let b := s.rn (Reg.FUR_FIO_IN phys i)
  if b.testBit 31 then nth .vx (vals (nfld b 24 4)) (nfld b 0 5) else .vx

/-- Load all 32 input bits of every furrow of a plot from the latches (R101). -/
def State.loadInputs (s : State) (p : Nat) : State :=
  (s.plot p).res.furrows.foldl (fun s l =>
    let phys := s.phys l
    let vs := pinIds.map fun i => s.inputBit phys i fun q => (s.fio q).latchNow
    { s with fur := { s.fur with inBits := csetList .vx s.fur.inBits (phys * 32) vs } }) s

/-- Latch every port of a plot for pass pn and load the input bits. -/
def State.latchAll (s : State) (p pn : Nat) (pins : List (Nat × Nat)) : State :=
  ((s.plot p).res.fios.foldl (fun s q => s.latchPort p pn pins q) s).loadInputs p

/-- Reload the named input bits at step st of the current pass (R101, R298). -/
def State.reloadInputs (s : State) (p phys st : Nat) (bits : List Nat) : State :=
  let pn := (s.plot p).tm.pn
  bits.foldl (fun s i =>
    let v := s.inputBit phys i fun q =>
      if s.fld (Reg.FIO_CLK_CFG q) 0 10 < st then (s.fio q).sampleOf pn else (s.fio q).latchNow
    { s with fur := { s.fur with inBits := cset .vx s.fur.inBits (phys * 32 + i) v } }) s

/-! ## CO-RUN comparison -/

/-- The mismatching response pins, as a mask (R304). -/
def mismatchMask (resp : Nat → Bool) (sample expect : List Val) : Nat :=
  pinIds.foldl (fun m i =>
    let e := nth .vx expect i
    if resp i && Val.known e && decide (nth .vx sample i ≠ e) then m + 2 ^ i else m) 0

/-- Compare a mid-pass sample with the expected values of cycle qn (R304); ft is the FT of the live sample. -/
def State.corunCompare (s : State) (q pn qn ft : Nat) (sample expect : List Val) : State :=
  let m := mismatchMask (fun i => s.pinDir q i == 3) sample expect
  if m = 0 then s
  else s.onFio q fun x => { x with compares := x.compares ++
    [⟨pn, qn, ft, BitVec.ofNat 32 m, BitVec.ofNat 32 (vBits sample), BitVec.ofNat 32 (vBits expect)⟩] }

/-- The mid-pass sample of one port (R298, R304): live, or from the log in a pass executed before. The values compared are
returned, for the feed of R306. -/
def State.midSample (s : State) (p : Nat) (pins : List (Nat × Nat)) (q : Nat) : Option (List Val) × State :=
  let pn := (s.plot p).tm.pn
  let x := s.fio q
  match (if s.executed p pn then logSample (s.plot p).cmt.log pn q else none) with
  | some vals =>
    let s1 := s.onFio q fun x => { x with sample := [(pn, vals)] }
    match x.expLog.find? fun e => e.1 == pn with
    | some (_, qn, ft, ex) => (some vals, s1.corunCompare q pn qn ft vals ex)
    | none => (none, s1)
  | none =>
    let vals := if s.fioRole q = 2 then s.supplied q x.latchNow else s.pinVals q (levelsOf pins q)
    let s1 := (s.onFio q fun x => { x with sample := [(pn, vals)] }).logAdd p
      (.sample pn (s.fld (Reg.FIO_CLK_CFG q) 0 10) q (BitVec.ofNat 64 (packVals vals)))
    match x.cycle with
    | some (qn, at_, ex) =>
      if s.fioRole q = 1 ∧ at_ = pn + 1 then
        let s2 := s1.onFio q fun x => { x with expLog := x.expLog ++ [(pn, qn, s.ftNs, ex)], cycle := none }
        (some vals, s2.corunCompare q pn qn s.ftNs vals ex)
      else (none, s1)
    | none => (none, s1)

/-- A comparison becomes final (R305), and interrupts the plot's owner (R459, R473). -/
def State.corunFinal (s : State) (p q : Nat) (c : Compare) : State :=
  let s1 := ((s.raiseFio q 0 (some p) c.q).count (Reg.FIO_MISMATCH_CNT q)).plotInt p 6
  let s2 := s1.rnSet (Reg.FIO_MISMATCH_PINS q) (s1.rn (Reg.FIO_MISMATCH_PINS q) ||| c.mask.toNat)
  let low := (pinIds.find? fun i => c.mask.toNat.testBit i).getD 0
  let s3 := if s2.bit (Reg.FIO_CMP_FIRST q) 31 then s2
    else
      let a := s2.rnSet (Reg.FIO_CMP_FIRST q) (2 ^ 31 + low)
      let b := (a.rnSet64 (Reg.FIO_CMP_PN_LO q) c.q).rnSet64 (Reg.FIO_CMP_FT_LO q) c.ft
      ((b.rgSet (Reg.FIO_CMP_MASK q) c.mask).rgSet (Reg.FIO_CMP_SAMPLE q) c.sample).rgSet (Reg.FIO_CMP_EXPECT q) c.expect
  s3.event { rtype := 0x11, len := 2, plot := some p, pn := c.q, ft := c.ft,
             body := [BitVec.ofNat 32 q, c.mask, c.sample, c.expect], toDev := true, toPlot := true }

/-- Pass pn commits: the inbound ring entry that it consumed is freed (R311). -/
def State.bridgeCommit (s : State) (p pn : Nat) : State :=
  (s.plot p).res.fios.foldl (fun s q =>
    match (s.fio q).inUse.filter fun e => e.1 ≤ pn with
    | [] => s
    | e :: es =>
      (s.onFio q fun x => { x with inRd := es.foldl (fun m d => max m d.2) e.2,
                                   inUse := x.inUse.filter fun d => pn < d.1 }).brgPtr q) s

/-- The comparisons of pass pn become final; whether one of them stops the plot (R305). -/
def State.corunCommit (s : State) (p pn : Nat) : State :=
  (s.plot p).res.fios.foldl (fun s q =>
    let done := (s.fio q).compares.filter fun c => c.pn == pn
    let s1 := done.foldl (fun s c => s.corunFinal p q c) s
    let s2 := s1.onFio q fun x =>
      { x with compares := x.compares.filter (fun c => c.pn != pn), expLog := x.expLog.filter fun e => pn < e.1 }
    if done ≠ [] ∧ s.bit (Reg.FIO_PORT_CFG q) 23 = true then
      s2.onPlot p fun y => { y with cmt := { y.cmt with stopNow := true, fault := some (match y.cmt.fault with
        | some f => f
        | none => 0x50) } }
    else s2) s

/-- Passes from k on are discarded: comparisons and staging (R305, R197). At a failing headland the staging `keep` stays on
a DIRECT port, which releases it (R24, R197). -/
def State.fioDiscard (s : State) (p k : Nat) (keep : Nat := 0) : State :=
  (s.plot p).res.fios.foldl (fun s q => s.onFio q fun x =>
    { x with compares := x.compares.filter (fun c => c.pn < k),
             staged := x.staged.filter fun e => decide (e.1 < k + 1) || (s.fioDirect q && e.1 == keep) }) s

/-! ## Staging and release -/

/-- Bound output pins of a plot: (physical furrow, binding, port, pin) (R100). -/
def State.outBindings (s : State) (p : Nat) : List (Nat × Nat × Nat × Nat) :=
  (s.plot p).res.furrows.flatMap fun l =>
    let phys := s.phys l
    pinIds.filterMap fun j =>
      let b := s.rn (Reg.FUR_FIO_OUT phys j)
      if b.testBit 31 then some (phys, j, nfld b 24 4, nfld b 0 5) else none

/-- The staging of the pass that ends, by port (R102, R197). -/
def State.stagePass (s : State) (p : Nat) : State :=
  let pn := (s.plot p).tm.pn
  let bs := s.outBindings p
  (s.plot p).res.fios.foldl (fun s q =>
    let vals := pinIds.map fun i =>
      match bs.find? fun b => b.2.2.1 == q && b.2.2.2 == i with
      | some b => cget .vx s.fur.outStage (b.1 * 32 + b.2.1)
      | none => .vz
    s.onFio q fun x => { x with staged := (x.staged.filter fun e => e.1 != pn + 1) ++ [(pn + 1, vals)] }) s

/-- The staging entries back to what pass k - 1 left, before pass k is executed again (R102). -/
def State.restage (s : State) (p k : Nat) : State :=
  (s.outBindings p).foldl (fun s b =>
    match (s.fio b.2.2.1).staged.find? fun e => e.1 == k with
    | some e => { s with fur := { s.fur with outStage := cset .vx s.fur.outStage (b.1 * 32 + b.2.1) (nth .vx e.2 b.2.2.2) } }
    | none => s) s

/-- Set bit i of a word. -/
def setWordBit (w : BitVec 32) (i : Nat) (b : Bool) : BitVec 32 := BitVec.ofNat 32 (putFld w.toNat i 1 (b2n b))

/-- A released value acts on a pin (R296). -/
def pinAct (xdrv i : Nat) (v : Val) (x : Fio) : Fio :=
  match v with
  | .v0 => { x with out := setWordBit x.out i false, oe := setWordBit x.oe i true }
  | .v1 => { x with out := setWordBit x.out i true, oe := setWordBit x.oe i true }
  | .vz => { x with oe := setWordBit x.oe i false }
  | .vx =>
    match xdrv with
    | 0 => { x with out := setWordBit x.out i false, oe := setWordBit x.oe i true }
    | 1 => { x with out := setWordBit x.out i true, oe := setWordBit x.oe i true }
    | 2 => { x with oe := setWordBit x.oe i false }
    | _ => x

/-- The pins a release acts on: outputs, without the odd ball of a DDR pair (R300, R303) and PUSH_PIN (R312). -/
def State.releasePins (s : State) (q : Nat) : List Nat :=
  pinIds.filter fun i => s.pinDir q i == 2 && !(i % 2 == 1 && s.pinDdr q (i - 1)) && !s.pushBall q i

/-- Values act on a list of pins; X_DRIVEN when one is X (R296). -/
def State.driveVals (s : State) (p q : Nat) (pins : List Nat) (vals : List Val) : State :=
  let xdrv := s.fld (Reg.FIO_PORT_CFG q) 27 2
  let s1 := s.onFio q fun x => pins.foldl (fun x i => pinAct xdrv i (nth .vx vals i) x) x
  if pins.any fun i => nth Val.vx vals i == .vx then s1.raiseFio q 1 (some p) (s.plot p).tm.pn else s1

/-- BRIDGE push of the released values (R312). -/
def State.bridgePush (s : State) (p q : Nat) (vals : List Val) : State :=
  let pp := s.fld (Reg.FIO_BRG_CFG q) 16 5
  if nth Val.vx vals pp ≠ .v1 then s
  else
    let xdrv := s.fld (Reg.FIO_PORT_CFG q) 27 2
    let others := pinIds.filter fun i => i ≠ pp
    let y := others.foldl (fun y i => pinAct xdrv i (nth .vx vals i) y) (s.fio q)
    let s1 := if others.any fun i => nth Val.vx vals i == .vx then s.raiseFio q 1 (some p) (s.plot p).tm.pn else s
    let x := s1.fio q
    if x.outWr - x.outRd ≥ 8192 then s1.brgDrop q 3 (s.plot p).tm.pn
    else
      let s2 := s1.ringWrite (s1.ringAddr q true x.outWr)
        [(setWordBit y.out pp false).toNat, (setWordBit y.oe pp false).toNat, 0, 0]
      (s2.onFio q fun x => { x with outWr := x.outWr + 1 }).brgPtr q

/-- One port releases the staging of pass qn at the headland of the executing pass (R197, R297, R303). -/
def State.releasePort (s : State) (p q qn : Nat) : State :=
  match (s.fio q).staged.find? fun e => e.1 == qn + 1 with
  | none => s
  | some e =>
    let vals := e.2
    if s.fioRole q = 2 then s.bridgePush p q vals
    else
      let s1 := s.driveVals p q (s.releasePins q) vals
      let s2 := if s.fioRole q = 1 then
          s1.onFio q fun x => { x with cycle := some (qn, (s.plot p).tm.pn + 2, vals) }
        else s1
      if s.cmode q = 1 then
        let pairs := (natsFrom 0 16).filterMap fun m =>
          if s.pinDdr q (2 * m) ∧ s.pinDir q (2 * m) = 2 then some (2 * m, nth .vx vals (2 * m + 1)) else none
        s2.onFio q fun x => { x with clk := true, fallDue := true, ddr := pairs }
      else s2

/-- The fall of the clock pair at CLK_FALL (R299, R300). -/
def State.clockFall (s : State) (p q : Nat) : State :=
  let x := s.fio q
  if x.fallDue = false then s
  else
    let xdrv := s.fld (Reg.FIO_PORT_CFG q) 27 2
    let s1 := s.onFio q fun x =>
      { (x.ddr.foldl (fun x e => pinAct xdrv e.1 e.2 x) x) with clk := false, fallDue := false, ddr := [] }
    if x.ddr.any fun e => e.2 == .vx then s1.raiseFio q 1 (some p) (s.plot p).tm.pn else s1

/-- The releases of a headland (R197): direct tells whether DIRECT ports release (R194), commit whether pass pn - D
commits. -/
def State.releaseAll (s : State) (p : Nat) (direct : Bool) (commit : Option Nat) : State :=
  (s.plot p).res.fios.foldl (fun s q =>
    let s1 := if s.fioDirect q then (if direct then s.releasePort p q (s.plot p).tm.pn else s)
      else match commit with
        | some c => s.releasePort p q c
        | none => s
    -- only the newest staging and what may still be released or restored is kept
    s1.onFio q fun x => { x with staged := x.staged.filter fun e => min (s.plot p).tm.cpn (s.plot p).tm.dpn ≤ e.1 }) s

/-! ## Parking (R313) -/

/-- Park a port: not driven; the reflex table stops. -/
def State.park (s : State) (q : Nat) : State :=
  (s.onFio q fun x => { x with oe := 0, clkOe := false, running := false }).setBit (Reg.FIO_PORT_STAT q) 7

/-- Park a port and discard its rings. -/
def State.parkReset (s : State) (q : Nat) : State :=
  ((s.park q).fioSet q {}).rnSet (Reg.FIO_BRG_PTR q) 0

/-- Release drives the initial values onto the output pins, from high impedance also after KEEP (R301, R299, R308, R313).
`init` gives the staging of pass -1. -/
def State.unpark (s : State) (p q : Nat) (init : List Val) : State :=
  let s1 := s.clrBit (Reg.FIO_PORT_STAT q) 7
  let s2 := s1.onFio q fun x => { x with staged := [(0, init)], oe := 0, clk := false, clkOe := s1.cmode q == 1,
                                         fallDue := false, ddr := [], reflex := 0, running := s1.fioRole q == 2,
                                         cycle := none, lastEdge := s1.ftNs + 1 }
  s2.driveVals p q (s2.releasePins q) init

/-! ## Gates (R122-R124) -/

/-- A gate takes a value, and presents its park value no longer. -/
def State.gateTake (s : State) (g : Nat) (v : Val) : State :=
  let s1 := (s.put (Reg.FUR_GATE g) 0 2 (valBits v)).clrBit (Reg.FUR_GATE g) 7
  { s1 with sw := { s1.sw with gateTaken := cset false s1.sw.gateTaken g true } }

/-- Gates take what the source plot staged in the pass that commits (R122). -/
def State.gateUpdate (s : State) (p qn : Nat) : State :=
  let mine := s.sw.gateStage.filter fun e => e.2.1 == qn && s.fld (Reg.FUR_GATE e.1) 24 4 == p
  let s1 := mine.foldl (fun s e => s.gateTake e.1 e.2.2) s
  { s1 with sw := { s1.sw with gateStage := s1.sw.gateStage.filter fun e =>
      !(e.2.1 ≤ qn && s1.fld (Reg.FUR_GATE e.1) 24 4 == p) } }

/-- The staging of discarded passes is dropped (R122). -/
def State.gateDiscard (s : State) (p k : Nat) : State :=
  { s with sw := { s.sw with gateStage := s.sw.gateStage.filter fun e =>
      !(k ≤ e.2.1 && s.fld (Reg.FUR_GATE e.1) 24 4 == p) } }

/-- The gates of which a plot is the source (false) or the destination (true). -/
def State.gatesOf (s : State) (p : Nat) (dst : Bool) : List Nat :=
  (natsFrom 0 256).filter fun g => s.bit (Reg.FUR_GATE g) 31 && s.fld (Reg.FUR_GATE g) (if dst then 20 else 24) 4 == p

/-- Sample the gates of a destination plot for pass pn (R123). -/
def State.sampleGates (s : State) (p pn : Nat) : State :=
  (s.gatesOf p true).foldl (fun s g =>
    let keep := fun (s : State) (v : Val) => { s with sw := { s.sw with gateSample := cset .vx s.sw.gateSample g v } }
    match (if s.executed p pn then logGate (s.plot p).cmt.log pn g else none) with
    | some v => keep s v
    | none =>
      let v := bitsVal (s.fld (Reg.FUR_GATE g) 0 2)
      let s1 := if s.bit (Reg.FUR_GATE g) 7 then s.setBit (Reg.FUR_GATE g) 6 else s
      (keep s1 v).logAdd p (.gate pn g v)) s

/-- A gate parks, or takes another park value while it is parked (R124): the value it held when parking began is kept. -/
def State.gateParkOne (s : State) (g : Nat) : State :=
  let a := Reg.FUR_GATE g
  let held := if s.bit a 7 then cget .vx s.sw.gateHeld g
    else if cget false s.sw.gateTaken g then bitsVal (s.fld a 0 2) else .vx
  let v := match s.fld a 18 2 with
    | 0 => Val.v0
    | 1 => .v1
    | 2 => .vx
    | _ => held
  let s1 := (s.put a 0 2 (valBits v)).setBit a 7
  { s1 with sw := { s1.sw with gateHeld := cset .vx s1.sw.gateHeld g held } }

/-- The gates of a source plot park (R124). -/
def State.gatePark (s : State) (p : Nat) : State := (s.gatesOf p false).foldl State.gateParkOne s

/-- At release of the source plot its gates keep presenting the value (R124): one with a constant stays parked until it
takes a value, one with HOLD presents the value that it held. -/
def State.gateUnpark (s : State) (p : Nat) : State :=
  (s.gatesOf p false).foldl (fun s g => if s.fld (Reg.FUR_GATE g) 18 2 = 3 then s.clrBit (Reg.FUR_GATE g) 7 else s) s

/-! ## The reflex table (R308, R309) -/

/-- Reflex outputs of a branch: a 2-bit code for every pin of `outs`, those with DIR 0b11 but PUSH_PIN (R312). -/
def reflexOut (outs : Nat → Bool) (codes : Nat) (x : Fio) : Fio :=
  pinIds.foldl (fun x i =>
    if outs i = false then x
    else match nfld codes (2 * i) 2 with
      | 0 => { x with out := setWordBit x.out i false, oe := setWordBit x.oe i true }
      | 2 => { x with out := setWordBit x.out i true, oe := setWordBit x.oe i true }
      | 3 => { x with oe := setWordBit x.oe i false }
      | _ => x) x

/-- CAP: the sample goes to the inbound ring (R309, R310). -/
def State.reflexCap (s : State) (q levels : Nat) (st : Nat) : State :=
  let x := s.fio q
  if x.inWr - x.inRd ≥ 8192 then s.brgDrop q 2 0
  else
    ((s.ringWrite (s.ringAddr q false x.inWr) [levels, (x.inWr % 65536) * 65536 + st % 32, s.ftNs, 0]).onFio q
      fun x => { x with inWr := x.inWr + 1 }).brgPtr q

/-- Levels and enables of an outbound entry. What an uncorrectable word reads as here no rule states: a free value (log 75). -/
def State.outEntry (s : State) (addr : Nat) : Nat × State :=
  let r := s.spmCheck addr
  if r.1 then r.2.takeFree 64 else (leNat (r.2.spmRead addr 8), r.2)

/-- POP: the next outbound entry is driven onto the data pins and freed (R309). -/
def State.reflexPop (s : State) (q : Nat) : State :=
  let x := s.fio q
  if x.outRd < x.outWr then
    let r := s.outEntry (s.ringAddr q true x.outRd)
    let lv := r.1 % 2 ^ 32
    let en := r.1 / 2 ^ 32
    (r.2.onFio q fun x => { (pinIds.foldl (fun x i =>
      if s.pinDir q i = 2 ∧ s.pushBall q i = false then { x with out := setWordBit x.out i (lv.testBit i), oe := setWordBit x.oe i (en.testBit i) }
      else x) x) with outRd := x.outRd + 1 }).brgPtr q
  else s

/-- The pin levels that the reflex table sees: with VCCIO_BAD every pin reads X (R294) and the spec gives a comparison with X
no result, so they are free values (log 75). -/
def State.reflexPins (s : State) (q levels : Nat) : Nat × State :=
  if s.bit (Reg.FIO_PORT_STAT q) 6 then s.takeFree 32 else (levels % 2 ^ 32, s)

/-- One rising edge of the bus clock on the levels that it sees (R308, R309). -/
def State.reflexStep (s : State) (q levels : Nat) : State :=
  let x := s.fio q
  let e := x.reflex
  let d2 := s.rn (Reg.FIO_RFX2 q e)
  let mask := s.rn (Reg.FIO_RFX0 q e) + nfld d2 0 2 * 2 ^ 32
  let mtch := s.rn (Reg.FIO_RFX1 q e) + nfld d2 2 2 * 2 ^ 32
  let cond := levels + b2n (x.outRd < x.outWr) * 2 ^ 32 + b2n (x.inWr - x.inRd < 8192) * 2 ^ 33
  let t := (cond &&& mask) == (mtch &&& mask)
  let codes := s.rn64 (if t then Reg.FIO_RFX4 q e else Reg.FIO_RFX6 q e)
  let s1 := s.onFio q fun x => { (reflexOut (fun i => s.pinDir q i == 3 && !s.pushBall q i) codes x) with lastEdge := s.ftNs + 1 }
  let s2 := if d2.testBit (if t then 14 else 15) then s1.reflexCap q levels e else s1
  let s3 := if d2.testBit (if t then 16 else 17) then s2.reflexPop q else s2
  s3.onFio q fun x => { x with reflex := if t then nfld d2 4 5 else nfld d2 9 5 }

/-- One rising edge of the bus clock (R308). -/
def State.reflexEdge (s : State) (q levels : Nat) : State := (s.reflexPins q levels).2.reflexStep q (s.reflexPins q levels).1

/-- BRIDGE_BUS_CLOCK_EDGE (R308). -/
def execBridgeBusClockEdge (port pins : Nat) (s : State) : Host.Outcome State Fault Refusal :=
  .next (if (s.fio port).running then s.reflexEdge port pins else s)

/-- CLK_LOST (R308): no edge for 1 µs of FT. -/
def execClkLost (port : Nat) (s : State) : Host.Outcome State Fault Refusal :=
  .next <|
    let x := s.fio port
    if x.running = true ∧ x.lastEdge ≠ 0 then
      let s0 := s.waitUntil (x.lastEdge - 1 + 1000)
      (s0.raiseFio port 5 (s.holder Res.fios port) 0).onFio port fun x => { x with reflex := 0, lastEdge := 0 }
    else s

/-- VCCIO_BAD (R294): a port's supply crosses its power-good threshold. -/
def execVccioBad (port : Nat) (bad : Bool) (s : State) : Host.Outcome State Fault Refusal :=
  .next <|
    if bad = true ∧ s.bit (Reg.FIO_PORT_STAT port) 6 = false then s.raiseFio port 6 (s.holder Res.fios port) 0
    else if bad then s else s.clrBit (Reg.FIO_PORT_STAT port) 6

end Sys2Proof.Machine
end

