-- ==== Sys2Proof/Machine/Signature.lean ====
section
/-! DEFINITION. Signature units: CRC folding, block boundaries, the alive field, and what becomes final at the commit of a
pass (11_field_io_and_signatures.md R314-R320). -/

namespace Sys2Proof.Machine
open Sys2Proof

/-- In the suppressed span (R204). -/
def State.suppressed (s : State) (p : Nat) : Bool := (s.plot p).cmt.suppress.isSome

def State.sig (s : State) (u : Nat) : Sig := cget {} s.io.sig u

def State.onSig (s : State) (u : Nat) (f : Sig → Sig) : State :=
  { s with io := { s.io with sig := cset {} s.io.sig u (f (s.sig u)) } }

/-- The form of a unit (R314-R318), read from its registers. -/
structure SigForm where
  w : Nat
  refin : Bool
  refout : Bool
  vmode : Bool
  xfail : Bool
  bmode : Nat
  expmode : Nat
  npass : Nat
  poly : Nat
  init : Nat
  xorout : Nat
  expect : Nat
  aen : Bool
  aw : Nat
  aofs : Nat
deriving DecidableEq, Repr

def State.sigForm (s : State) (u : Nat) : SigForm :=
  let c := s.rn (Reg.SIG_CFG u)
  let a := s.rn (Reg.SIG_ALIVE_CFG u)
  let w := nfld c 24 7
  { w := w, refin := c.testBit 23, refout := c.testBit 22, vmode := c.testBit 21, xfail := c.testBit 20,
    bmode := nfld c 18 2, expmode := nfld c 16 2, npass := nfld c 0 16,
    poly := s.rn64 (Reg.SIG_POLY_LO u) % 2 ^ w, init := s.rn64 (Reg.SIG_INIT_LO u) % 2 ^ w,
    xorout := s.rn64 (Reg.SIG_XOROUT_LO u) % 2 ^ w, expect := s.rn64 (Reg.SIG_EXP_LO u) % 2 ^ w,
    aen := a.testBit 31, aw := nfld a 16 4 + 1, aofs := nfld a 0 16 }

/-- One bit enters the register (R314). -/
def SigForm.bitIn (f : SigForm) (r : Nat) (b : Bool) : Nat :=
  let fb := (r.testBit (f.w - 1)) != b
  let r1 := (2 * r) % 2 ^ f.w
  if fb then r1 ^^^ f.poly else r1

/-- Bits enter the register in order. -/
def SigForm.bitsIn (f : SigForm) (r : Nat) : List Bool → Nat
  | [] => r
  | b :: bs => f.bitsIn (f.bitIn r b) bs

/-- The bits of a whole or partial byte enter in the order of REFIN (R314). -/
def SigForm.byteIn (f : SigForm) (r : Nat) (byte : List Bool) : Nat :=
  f.bitsIn r (if f.refin then byte else byte.reverse)

/-- A stream bit joins the partial byte; a full byte enters the register. -/
def SigForm.streamBit (f : SigForm) (c : SigCtx) (b : Bool) : SigCtx :=
  let p := c.part ++ [b]
  if p.length = 8 then { c with r := f.byteIn c.r p, part := [] } else { c with part := p }

/-- A value's stream bits: V, and with VMODE = 1 then X (R314). -/
def SigForm.streamVal (f : SigForm) (c : SigCtx) (v : Val) : SigCtx :=
  let vb := f.streamBit c (valBits v ≥ 2 && Val.known v)
  let vraw := f.streamBit c (decide (valBits v ≥ 2))
  if f.vmode then f.streamBit vraw (decide (valBits v % 2 = 1)) else vb

/-- One value fed (R314, R317, R318). -/
def SigForm.feed (f : SigForm) (c : SigCtx) (v : Val) : SigCtx :=
  let c1 := if f.aen && decide (f.aofs ≤ c.count ∧ c.count < f.aofs + f.aw) then { c with avals := c.avals ++ [v] } else c
  let c2 := { c1 with count := c1.count + 1, sawX := c1.sawX || !(Val.known v) }
  if f.expmode = 1 then
    match c2.tail ++ [v] with
    | o :: rest => if rest.length ≥ f.w then f.streamVal { c2 with tail := rest } o else { c2 with tail := o :: rest }
    | [] => c2
  else f.streamVal c2 v

/-- r reflected in w bits. -/
def reflectW (w r : Nat) : Nat := (natsFrom 0 w).foldl (fun a i => if r.testBit i then a + 2 ^ (w - 1 - i) else a) 0

/-- res of a register (R314). -/
def SigForm.result (f : SigForm) (r : Nat) : Nat := (if f.refout then reflectW f.w r else r) ^^^ f.xorout

/-- A context at restart (R314). -/
def SigForm.restart (f : SigForm) : SigCtx := { r := f.init }

/-- Outcome of the alive check: the bit of SIG_STAT or 0, and the expectation after it (R318). -/
def SigForm.aliveCheck (f : SigForm) (c : SigCtx) : Nat × Nat :=
  if f.aen = false then (0, c.alive)
  else if c.avals.length < f.aw ∨ c.avals.any (fun v => !(Val.known v)) = true then (5, c.alive)
  else
    let a := vBits c.avals
    if c.alive = 0 then (0, a + 1)
    else
      let p := c.alive - 1
      if a = (p + 1) % 2 ^ f.aw then (0, a + 1)
      else if a = p then (3, a + 1)
      else (4, a + 1)

/-- A boundary (R314, R317, R318): its result, and the context of the next block. -/
def SigForm.boundary (f : SigForm) (c : SigCtx) (pn ft : Nat) : SigRes × SigCtx :=
  let short := f.expmode == 1 && decide (c.tail.length < f.w)
  let r := if short then f.init else f.byteIn c.r c.part
  let res := f.result r
  let expect := if f.expmode = 1 then vBits2 c.tail else f.expect
  let differs := f.expmode != 2 && res != expect
  let al := f.aliveCheck c
  ({ pn := pn, ft := ft, res := res, expect := if f.expmode = 2 then 0 else expect, compared := f.expmode != 2,
     mismatch := short || differs || (f.xfail && c.sawX), short := short, alive := al.1 },
   { f.restart with alive := al.2 })

/-- A unit takes a boundary now. -/
def State.sigBoundary (s : State) (u pn : Nat) : State :=
  let f := s.sigForm u
  let b := f.boundary (s.sig u).cur pn s.ftNs
  s.onSig u fun x => { x with cur := b.2, results := x.results ++ [b.1] }

/-- A signature condition, bit of SIG_STAT, of the unit's plot (R322). -/
def State.noteSig (s : State) (u cause pn : Nat) : State :=
  s.raiseAt Blk.sig (Reg.SIG_STAT u) cause u (s.holder Res.sigs u) pn

/-- A signature condition that raises the unit's interrupt, the SIG bit of its plot (R317, R318, R459). -/
def State.raiseSig (s : State) (u cause pn : Nat) : State :=
  match s.holder Res.sigs u with
  | some p => (s.noteSig u cause pn).plotInt p 7
  | none => s.noteSig u cause pn

/-- A feed of a unit meets the injections armed for it (R471): the conditions count as R322 states. -/
def State.sigInject (s : State) (u pn : Nat) : State :=
  s.injectAt Reg.SIG_FI_CTRL (fun a => a % 32 == u) (fun _ s => s) fun cause _ s =>
    match cause with
    | 2 => (s.raiseSig u cause pn).count (Reg.SIG_MISMATCH_CNT u)
    | 3 => (s.raiseSig u cause pn).count (Reg.SIG_ALIVE_CNT u)
    | 4 => (s.raiseSig u cause pn).count (Reg.SIG_ALIVE_CNT u)
    | 5 => (s.raiseSig u cause pn).count (Reg.SIG_ALIVE_CNT u)
    | _ => s.noteSig u cause pn

/-- Values reach a unit in pass pn; blkend ends the block after the last of them (R314, R316). -/
def State.sigFeed (s : State) (u pn : Nat) (vals : List Val) (blkend : Bool) : State :=
  if s.bit (Reg.SIG_CFG u) 31 = false then s
  else
    let f := s.sigForm u
    let xs := vals.any fun v => !(Val.known v)
    let s1 := (s.sigInject u pn).onSig u fun x =>
      { x with cur := vals.foldl f.feed x.cur, xPass := if xs && !(x.xPass.contains pn) then pn :: x.xPass else x.xPass }
    if blkend ∧ (f.bmode = 1 ∨ f.bmode = 2) then s1.sigBoundary u pn else s1

/-- The state at the start of a pass is kept (R315). -/
def State.sigPassStart (s : State) (p pn : Nat) : State :=
  (s.plot p).res.sigs.foldl (fun s u => s.onSig u fun x =>
    { x with saved := (x.saved.filter fun e => e.1 != pn) ++ [(pn, x.cur)] }) s

/-- The boundary after the last feed of a pass (R316); a suppressed pass has none (R204). -/
def State.sigPassEnd (s : State) (p pn : Nat) : State :=
  if s.suppressed p then s
  else (s.plot p).res.sigs.foldl (fun s u =>
    let f := s.sigForm u
    if s.bit (Reg.SIG_CFG u) 31 = true ∧ (f.bmode = 0 ∨ f.bmode = 2) ∧ f.npass ≠ 0 ∧ (pn + 1) % f.npass = 0 then
      s.sigBoundary u pn
    else s) s

/-- A SIG_MISMATCH record (R429): code 0 mismatch, 1 ALIVE_REPEAT, 2 ALIVE_SKIP, 3 ALIVE_X. -/
def State.sigRec (s : State) (p u code : Nat) (r : SigRes) : State :=
  s.event { rtype := 0x12, len := 2, plot := some p, pn := r.pn, ft := r.ft,
            body := [u + code * 256, 0, r.res, r.res / 2 ^ 32, r.expect, r.expect / 2 ^ 32].map (BitVec.ofNat 32),
            toDev := true, toPlot := true }

/-- A boundary becomes final (R315, R317, R318). -/
def State.sigFinal (s : State) (p u : Nat) (r : SigRes) : State :=
  let s1 := (s.rnSet64 (Reg.SIG_LAST_LO u) r.res).rnSet64 (Reg.SIG_LAST_PN_LO u) r.pn
  let s2 := if r.compared then s1.putBit (Reg.SIG_STAT u) 1 (!r.mismatch) else s1
  let s3 := if r.short then s2.noteSig u 10 r.pn else s2
  let s4 := if r.mismatch then ((s3.raiseSig u 2 r.pn).count (Reg.SIG_MISMATCH_CNT u)).sigRec p u 0 r else s3
  if r.alive = 0 then s4
  else ((s4.raiseSig u r.alive r.pn).count (Reg.SIG_ALIVE_CNT u)).sigRec p u (r.alive - 2) r

/-- What pass pn leaves becomes final at its commit (R315). -/
def State.sigCommit (s : State) (p pn : Nat) : State :=
  (s.plot p).res.sigs.foldl (fun s u =>
    let x := s.sig u
    let s1 := (x.results.filter fun r => r.pn == pn).foldl (fun s r => s.sigFinal p u r) s
    let s2 := if x.xPass.contains pn then s1.noteSig u 7 pn else s1
    s2.onSig u fun x => { x with results := x.results.filter (fun r => r.pn != pn),
                                 xPass := x.xPass.filter (fun n => n != pn),
                                 saved := x.saved.filter fun e => pn < e.1 }) s

/-- A failed decision restores the state at the start of pass k (R315). -/
def State.sigDiscard (s : State) (p k : Nat) : State :=
  (s.plot p).res.sigs.foldl (fun s u => s.onSig u fun x =>
    { x with cur := match x.saved.find? fun e => e.1 == k with
               | some e => e.2
               | none => x.cur,
             results := x.results.filter (fun r => r.pn < k), xPass := x.xPass.filter (fun n => n < k),
             saved := x.saved.filter fun e => e.1 < k }) s

/-- A unit restarts (R319); what uncommitted passes left stays (R315). DISCONT names the executing pass of the unit's plot. -/
def State.sigRestart (s : State) (u : Nat) : State :=
  (s.onSig u fun x => { x with cur := (s.sigForm u).restart }).noteSig u 6 (match s.holder Res.sigs u with
    | some p => (s.plot p).tm.pn
    | none => 0)

/-- Every unit of a plot restarts, and no uncommitted pass is left (R319). -/
def State.sigRestartAll (s : State) (p : Nat) : State :=
  (s.plot p).res.sigs.foldl (fun s u => (s.onSig u fun _ => {}).sigRestart u) s

/-- The 40 bytes of SIG_CONFIG are in range (R316, R317, R322). -/
def sigConfigOk (cfg : Nat) : Bool :=
  let w := nfld cfg 24 7
  let b := nfld cfg 18 2
  decide (1 ≤ w ∧ w ≤ 64) && b != 3 && nfld cfg 16 2 != 3 && !((b == 0 || b == 2) && nfld cfg 0 16 == 0)

/-- Write the ten registers SIG offsets 0x00-0x24 of a unit (R376). -/
def State.sigWrite (s : State) (u : Nat) (ws : List Word) : State :=
  (natsFrom 0 10).foldl (fun s i => s.rnSet (Reg.SIG_CFG u + 4 * i)
    (if i = 1 then wordAt ws 1 &&& 0x800fffff else wordAt ws i)) s

end Sys2Proof.Machine
end

