-- ==== Sys2Proof/Machine/Switch.lean ====
section
/-! DEFINITION. The field switch: route entries, latencies, trunks, hedges, gates and selects (04_field_switch.md R110-R128). -/

namespace Sys2Proof.Machine
open Sys2Proof

/-! ## Endpoints (R110) -/

/-- The fields of a route entry (R112). -/
structure Route where
  step : Nat
  dst : Nat
  src : Nat
  rsvd : Nat
deriving DecidableEq, Repr

def routeOf (w : BitVec 64) : Route :=
  let n := w.toNat
  { step := nfld n 26 10, dst := nfld n 13 13, src := nfld n 0 13, rsvd := nfld n 36 28 }

/-- Classes of SRC and DST codes. -/
inductive EndPoint where
  /-- send or receive track of a local furrow -/
  | track (f t : Nat)
  | inter (j k : Nat)
  /-- import or export track -/
  | xch (i : Nat)
  | trunk (t : Nat)
  | gate (g : Nat)
  | reserved
deriving DecidableEq, Repr

def endPoint (c : Nat) : EndPoint :=
  if c < 2048 then .track (c / 16) (c % 16)
  else if c < 2432 then .inter ((c - 2048) / 128) ((c - 2048) % 128)
  else if c < 2816 then .xch (c - 2432)
  else if c < 2880 then .trunk (c - 2816)
  else if c < 3136 then .gate (c - 2880)
  else .reserved

/-- The acre that index j names from acre a, and the index of acre a seen from acre b (R110). -/
def otherAcre (a j : Nat) : Nat := if j < a then j else j + 1
def otherIndex (a b : Nat) : Nat := if b < a then b else b - 1

/-- Legal pairs with the steps from STEP to arrival and the latest STEP as L minus a number (R113). -/
def routeLatency (src dst : EndPoint) : Option (Nat × Nat) :=
  match src, dst with
  | .track _ _, .track _ _ => some (2, 3)
  | .track _ _, .trunk _ => some (0, 3)
  | .trunk _, .track _ _ => some (2, 3)
  | .track _ _, .inter _ _ => some (0, 7)
  | .inter _ _, .track _ _ => some (6, 7)
  | .track _ _, .xch _ => some (4, 5)
  | .xch _, .track _ _ => some (4, 5)
  | .track _ _, .gate _ => some (0, 1)
  | .gate _, .track _ _ => some (2, 3)
  | _, _ => none

/-! ## Values in the switch -/

/-- Key of a value sent on a track at a step: logical furrow, track, step. -/
def sentKey (l t st : Nat) : Nat := (l * 16 + t) * 1024 + st

/-- Key of an import group presented to a plot. -/
def presKey (p acre grp st : Nat) : Nat := ((p * 4 + acre) * 48 + grp) * 1024 + st

/-- Active schedule bank of a plot (R129). -/
def State.bank (s : State) (p : Nat) : Nat := s.fld (Reg.PLT_SW_STAT p) 0 1

/-- Route entries of a plot in an acre, in a bank. -/
def routeKey (p bank acre : Nat) : Nat := (p * 2 + bank) * 4 + acre

def State.routes (s : State) (p acre : Nat) : List Route :=
  (cget [] s.sw.routes (routeKey p (s.bank p) acre)).map routeOf

/-! ## Selects and their owners (R117, R120, R125) -/

/-- Index of the select of an output at a step, in a bank of an acre (R125). -/
def selIdx (bank acre dst st : Nat) : Nat := ((bank * 4 + acre) * 8192 + dst) * 1024 + st

/-- Bank, acre, destination code and step of a select. -/
def selBank (i : Nat) : Nat := i / 2 ^ 25
def selAcre (i : Nat) : Nat := i / 2 ^ 23 % 4
def selDst (i : Nat) : Nat := i / 1024 % 8192
def selStep (i : Nat) : Nat := i % 1024

/-- The switch output of an acre belongs to the plot (R117, R118, R120): a track with its furrow, a trunk with its holder, a
gate with its source plot, and an inter-acre or export track with the routes that name it. -/
def State.ownsOut (s : State) (p acre dst : Nat) : Bool :=
  match endPoint dst with
  | .track f _ => (s.plot p).res.furrows.contains (128 * acre + f)
  | .trunk t => (s.plot p).res.trunks.contains (acre * 64 + t)
  | .gate g => s.bit (Reg.FUR_GATE g) 31 && s.fld (Reg.FUR_GATE g) 24 4 == p
  | .inter _ _ => (s.routes p acre).any fun r => r.dst == dst
  | .xch _ => (s.routes p acre).any fun r => r.dst == dst
  | .reserved => false

/-- ECC condition of the active select of an output at a step (R125). -/
def State.selMark (s : State) (p acre dst st : Nat) : Nat := s.eccAt Item.select (selIdx (s.bank p) acre dst st)

/-- The upset active selects of the plot's outputs in an acre at a step: destination code and condition. -/
def State.badSelects (s : State) (p acre st : Nat) : List (Nat × Nat) :=
  s.ecc.filterMap fun e =>
    let i := e.1 / 16
    if e.1 % 16 = Item.select ∧ selBank i = s.bank p ∧ selAcre i = acre ∧ selStep i = st ∧ s.ownsOut p acre (selDst i) = true
    then some (selDst i, e.2) else none

/-- The selects of the plot's own outputs that satisfy a test are rewritten from the seed shadow (R125, R340). -/
def State.selectsOwn (s : State) (p : Nat) (pick : Nat → Bool) : State :=
  { s with ecc := s.ecc.filter fun e =>
      !(e.1 % 16 == Item.select && pick (e.1 / 16) && s.ownsOut p (selAcre (e.1 / 16)) (selDst (e.1 / 16))) }

/-! ## Bank swaps (R126) -/

/-- Firmware writes a plot's standby bank (R126): the routes name logical furrows, so it takes the active bank's. -/
def State.standbyWrite (s : State) (p : Nat) : State :=
  let b := s.bank p
  let routes := (natsFrom 0 4).foldl (fun m a => cset [] m (routeKey p (1 - b) a) (cget [] m (routeKey p b a))) s.sw.routes
  { s.selectsOwn p (fun i => selBank i == 1 - b) with sw := { s.sw with routes := routes } }

/-- A swap of the plot is scheduled, or its old bank is held: the standby bank is not to be written (R126). -/
def State.swapBusy (s : State) (p : Nat) : Bool := s.fld (Reg.PLT_SW_STAT p) 1 2 != 0

/-- The standby bank is written and its swap scheduled for pass n (R126). -/
def State.swapBanks (s : State) (p n : Nat) : State :=
  if s.swapBusy p then s
  else ((s.standbyWrite p).rnSet64 (Reg.PLT_SW_SWAP_PN_LO p) n).setBit (Reg.PLT_SW_STAT p) 1

/-- Firmware begins to write a standby bank of a running plot (R126, R340): it names the pass D + 2 after the newest one this
device has executed. -/
def State.swapPlan (s : State) (p : Nat) : State :=
  { s with sw := { s.sw with plans := s.sw.plans ++ [(p, max (s.plot p).tm.pn ((s.plot p).cmt.top - 1) + s.dlag p + 2)] } }

/-- The standby bank has been written: the swap is scheduled, or it is too late for the pass it names (R126). The FAULT
record has the address of PLT_SW_STAT for its location (DESIGN CHOICE, log 61). -/
def State.swapPlanned (s : State) (e : Nat × Nat) : State :=
  if s.swapBusy e.1 then s
  else if (s.plot e.1).tm.headTop ≤ e.2 then s.swapBanks e.1 e.2
  else
    let s1 := ((s.standbyWrite e.1).setBit (Reg.PLT_SW_STAT e.1) 3).faultRec Block.switch 31 (Reg.PLT_SW_STAT e.1) (some e.1) e.2
      false s.devId
    { s1 with sw := { s1.sw with late := s1.sw.late ++ [e.1] } }

/-- Every bank write in progress is done. -/
def State.plansDone (s : State) : State :=
  s.sw.plans.foldl State.swapPlanned { s with sw := { s.sw with plans := [] } }

/-- Swaps that came too late are applied while the plot is stopped in a hold (R126). -/
def State.lateApply (s : State) (p : Nat) : State :=
  if s.sw.late.contains p then
    { s.putBit (Reg.PLT_SW_STAT p) 0 (s.bank p == 0) with sw := { s.sw with late := s.sw.late.filter (· != p) } }
  else s

/-- The plot's switch configuration goes: no bank write of it remains. -/
def State.swapsForget (s : State) (p : Nat) : State :=
  { s with sw := { s.sw with plans := s.sw.plans.filter (fun e => e.1 != p), late := s.sw.late.filter (· != p) } }

/-! ## What the sources carry -/

/-- Key of the group of 32 inter-acre values of a plot that contains track k, from other acre j, at a step (R127). -/
def d2dIdx (p acre j k st : Nat) : Nat := (((p * 4 + acre) * 3 + j) * 4 + k / 32) * 1024 + st

/-- A send track's value at a step: X when nothing was sent (R125), and X from a furrow of another owner (R120). -/
def State.sendVal (s : State) (p acre f t st : Nat) : Val :=
  if (s.plot p).res.furrows.contains (128 * acre + f) then cget .vx s.sw.sent (sentKey (128 * acre + f) t st) else .vx

/-- The drivers of a trunk at a step: (logical furrow, value). -/
def State.trunkDrivers (s : State) (p acre t st : Nat) : List (Nat × Val) :=
  (s.routes p acre).filterMap fun r =>
    if r.step = st ∧ endPoint r.dst = .trunk t then
      match endPoint r.src with
      | .track f k => some (128 * acre + f, s.sendVal p acre f k st)
      | _ => none
    else none

/-- More than one furrow drives the trunk. -/
def contended (ds : List (Nat × Val)) : Bool :=
  match ds with
  | [] => false
  | d :: rest => rest.any fun e => e.1 != d.1

/-- The value of a trunk at a step (R119). -/
def State.trunkVal (s : State) (p acre t st : Nat) : Val :=
  let ds := s.trunkDrivers p acre t st
  if contended ds then
    if s.fld (Reg.PLT_EVAL_CFG p) 0 2 = 1 then
      match ds.foldl (fun (m : Option (Nat × Val)) d => match m with
        | none => some (s.phys d.1, d.2)
        | some x => if s.phys d.1 < x.1 then some (s.phys d.1, d.2) else some x) none with
      | some x => x.2
      | none => .vx
    else .vx
  else match ds with
    | d :: _ => if s.selMark p acre (2816 + t) st = 2 then .vx else d.2
    | [] => .vx

/-- The value of a source in an acre at a step, for a plot (R113, R125); X on every track of an uncorrectable inter-acre
group (R127). -/
def State.sourceVal (s : State) (p acre src st : Nat) : Val :=
  match endPoint src with
  | .track f t => s.sendVal p acre f t st
  | .trunk t => s.trunkVal p acre t st
  | .inter j k =>
    let b := otherAcre acre j
    let dst := 2048 + 128 * otherIndex b acre + k
    if s.eccAt Item.d2d (d2dIdx p acre j k st) = 2 then .vx
    else match (s.routes p b).find? fun r => r.step == st && r.dst == dst with
    | some r => match endPoint r.src with
      | .track f t =>
        if s.selMark p b dst st = 2 then .vx else s.sendVal p b f t st
      | _ => .vx
    | none => .vx
  | .xch i => bitsVal (nfld (cget (0x5555 : BitVec 16) s.sw.pres (presKey p acre (i / 8) st)).toNat (2 * (i % 8)) 2)
  | .gate g =>
    if s.bit (Reg.FUR_GATE g) 31 ∧ s.fld (Reg.FUR_GATE g) 20 4 = p then cget .vx s.sw.gateSample g else .vx
  | .reserved => .vx

/-- What a destination's select delivers: X when the select is uncorrectable (R125). -/
def State.routed (s : State) (p acre : Nat) (r : Route) : Val :=
  if s.selMark p acre r.dst r.step = 2 then .vx else s.sourceVal p acre r.src r.step

/-- The value an export track presents for a send step (R115, R168): X with no entry. -/
def State.exportVal (s : State) (p acre e st : Nat) : Val :=
  match (s.routes p acre).find? fun r => r.step == st && r.dst == 2432 + e with
  | some r => s.routed p acre r
  | none => .vx

/-- The 16 bits of an export group for a send step (R111). -/
def State.exportGroup (s : State) (p acre g st : Nat) : BitVec 16 :=
  BitVec.ofNat 16 (packVals ((natsFrom 0 8).map fun k => s.exportVal p acre (8 * g + k) st))

/-! ## The switch at one step -/

/-- A value arrives on a receive track (R52, R236). -/
def State.rxDeliver (s : State) (p l t : Nat) (v : Val) : State :=
  let k := s.phys l * 16 + t
  { s with fur := { s.fur with rx := cset .vx s.fur.rx k v,
                               rxTag := if s.bit (Reg.PLT_EVAL_CFG p) 4 then cset false s.fur.rxTag k true else s.fur.rxTag } }

/-- Arrivals at the receive tracks of an acre by the plot's routes (R113). -/
def State.routeArrivals (s : State) (p a st : Nat) : State :=
  (s.routes p a).foldl (fun s r =>
    match endPoint r.dst with
    | .track f t => match routeLatency (endPoint r.src) (.track f t) with
      | some (lat, _) => if r.step + lat = st then s.rxDeliver p (128 * a + f) t (s.routed p a r) else s
      | none => s
    | _ => s) s

/-- An uncorrectable select of a receive track delivers X (R125), two steps later also where no entry names the step
(DEDUCED, log 61). -/
def State.badArrivals (s : State) (p a st : Nat) : State :=
  if st < 2 then s
  else (s.badSelects p a (st - 2)).foldl (fun s e =>
    match endPoint e.1 with
    | .track f t => if e.2 = 2 ∧ ((s.routes p a).any fun r => r.step == st - 2 && r.dst == e.1) = false
        then s.rxDeliver p (128 * a + f) t .vx else s
    | _ => s) s

/-- The arrivals of step st at the receive tracks of a plot (R113, R125). -/
def State.arrivals (s : State) (p st : Nat) : State :=
  (natsFrom 0 4).foldl (fun s a => (s.routeArrivals p a st).badArrivals p a st) s

/-- A send track of a furrow that the plot does not hold (R120). -/
def State.foreign (s : State) (p acre : Nat) (r : Route) : Bool :=
  match endPoint r.src with
  | .track f _ => !((s.plot p).res.furrows.contains (128 * acre + f))
  | .gate g => !(s.bit (Reg.FUR_GATE g) 31 && s.fld (Reg.FUR_GATE g) 20 4 == p)
  | _ => false

/-- A correctable switch event (R125): condition, counter and bucket. -/
def State.swCe (s : State) (acre cause p dst st pn : Nat) : State :=
  ((s.raiseSw acre cause p dst st pn).count (Reg.FUR_SW_CE_CNT acre)).bucket 1 (Reg.FUR_SW_CE_BUCKET acre)

/-- A gate's staging of the source plot's present pass takes a value, over an earlier step's (R122). -/
def State.gateStageSet (s : State) (p g : Nat) (v : Val) : State :=
  if s.bit (Reg.FUR_GATE g) 31 = true ∧ s.fld (Reg.FUR_GATE g) 24 4 = p then
    let pn := (s.plot p).tm.pn
    { s with sw := { s.sw with gateStage := (s.sw.gateStage.filter fun e => !(e.1 == g && e.2.1 == pn)) ++ [(g, pn, v)] } }
  else s

/-- The upset selects of one acre at their step (R125): the condition of each, and X staged for a gate whose select is
uncorrectable. -/
def State.selectsEcc (s : State) (p a st : Nat) : State :=
  let pn := (s.plot p).tm.pn
  (s.badSelects p a st).foldl (fun s e =>
    if e.2 = 1 then s.swCe a 0 p e.1 st pn
    else
      let s1 := s.swError p a 5 e.1 st pn
      match endPoint e.1 with
      | .gate g => s1.gateStageSet p g .vx
      | _ => s1) s

/-- What the routes of one acre do at their step: the hedge and gate staging (R120, R122). Of two entries that stage one gate at
one step, the last in the order of the list is kept (DESIGN CHOICE, log 80). -/
def State.selects (s : State) (p a st : Nat) : State :=
  let pn := (s.plot p).tm.pn
  (s.routes p a).foldl (fun s r =>
    if r.step ≠ st then s
    else
      let s2 := if s.foreign p a r then s.swError p a 1 r.dst st pn else s
      match endPoint r.dst with
      | .gate g => s2.gateStageSet p g (s2.routed p a r)
      | _ => s2) s

/-- The inter-acre groups that reach an acre from the plot's sends at a step (R127): a corrected group, or an uncorrectable
one, where an entry of the plot names a track of it. The location names the group's first inbound track as DST (DESIGN CHOICE,
log 80). -/
def State.d2dCheck (s : State) (p a st : Nat) : State :=
  let pn := (s.plot p).tm.pn
  ((natsFrom 0 3).flatMap fun j => (natsFrom 0 4).map fun g => (j, g)).foldl (fun s e =>
    let used := (s.routes p a).any fun r => r.step == st && decide (2048 ≤ r.src) && (r.src - 2048) / 32 == 4 * e.1 + e.2
    let code := 2048 + 128 * e.1 + 32 * e.2
    match (if used then s.eccAt Item.d2d (d2dIdx p a e.1 (32 * e.2) st) else 0) with
    | 0 => s
    | 1 => s.swCe a 3 p code st pn
    | _ => s.swError p a 4 code st pn) s

/-- Trunk contention of one acre at a step (R119): the condition of the acre, and a pass error charged to every driving
furrow (R200). -/
def State.trunkCheck (s : State) (p a st : Nat) : State :=
  (natsFrom 0 64).foldl (fun s t =>
    let ds := s.trunkDrivers p a t st
    if contended ds then
      let pn := (s.plot p).tm.pn
      let furs := (ds.map fun d => s.phys d.1).dedup
      furs.foldl (fun s f => s.furError p f 12 (locFur st false 0) pn) (s.raiseSw a 2 p (2816 + t) st pn)
    else s) s

/-- Injections at an acre's switch for the plot's present step, and those at the Gleaner for its active selects of the step
(R471). -/
def State.swInjects (s0 : State) (p a st : Nat) : State :=
  let s := s0.glnTouch (some p) fun kind i =>
    kind == Item.select && selBank i == s0.bank p && selAcre i == a && selStep i == st && s0.ownsOut p a (selDst i)
  let (l, s1) := s.takeInjects (Reg.FUR_SW_FI_CTRL a) fun ad => nfld ad 28 4 == p && nfld ad 0 10 == st
  l.foldl (fun s i =>
    let dst := nfld i.2.2 13 13
    match i.1 with
    | 0 => s.upsetItem Item.select (selIdx (s.bank p) a dst st) 1
    | 1 => s.upsetItem Item.select (selIdx (s.bank p) a dst st) 2
    | _ =>
      let pn := (s.plot p).tm.pn
      if [1, 2, 4, 5].contains i.2.1 then s.swError p a i.2.1 dst st pn else s.swCe a i.2.1 p dst st pn) s1

/-- The switch at the send side of a step, after the ports have sent. -/
def State.switchStep (s : State) (p st : Nat) : State :=
  (natsFrom 0 4).foldl (fun s a => (((s.selectsEcc p a st).selects p a st).d2dCheck p a st).trunkCheck p a st) s

end Sys2Proof.Machine
end

