-- ==== Sys2Proof/Machine/Furrow.lean ====
section
/-! DEFINITION. What a furrow does at one schedule step: fetch and evaluation of its 128 BPs with ECC, state versions and
debug tags (02_boolean_processor.md R42-R76, R236-R238), and furrow RAM (03_furrows.md R88-R94). -/

namespace Sys2Proof.Machine
open Sys2Proof

/-! ## Keys -/

def imemKey (phys b n : Nat) : Nat := (phys * 128 + b) * 1024 + n
def dmemKey (phys b n : Nat) : Nat := (phys * 128 + b) * 1024 + n
def stateKey (phys ver b t : Nat) : Nat := ((phys * 8 + ver) * 128 + b) * 256 + t
def dmemRow (phys b n : Nat) : Nat := (phys * 128 + b) * 32 + n / 32
def stateRow (phys ver b t : Nat) : Nat := ((phys * 8 + ver) * 128 + b) * 8 + t / 32

/-- Version index that pass pn writes (R54). -/
def State.verOf (s : State) (p pn : Nat) : Nat := pn % (s.dlag p + 2)

/-- Version index that pass pn reads at start (R54, R55). -/
def State.verBefore (s : State) (p pn : Nat) : Nat := (pn + s.dlag p + 1) % (s.dlag p + 2)

def State.debugMode (s : State) (p : Nat) : Bool := s.bit (Reg.PLT_EVAL_CFG p) 4

/-! ## Operands (R52) -/

/-- Value of an operand source of BP b at a step. Uncorrectable rows read X (R76). -/
def State.srcVal (s : State) (p phys b st code : Nat) : Val :=
  if code < 1024 then
    if s.eccAt Item.dmemRow (dmemRow phys b code) = 2 then .vx else cget .vx s.bp.dmem (dmemKey phys b code)
  else if code < 1280 then
    let ver := s.verBefore p (s.plot p).tm.pn
    if s.eccAt Item.stateRow (stateRow phys ver b (code - 1024)) = 2 then .vx
    else cget .vx s.bp.sstore (stateKey phys ver b (code - 1024))
  else if code < 1408 then (if st = 0 then .vx else cget .vx s.bp.bus (phys * 128 + (code - 1280)))
  else if code < 1424 then cget .vx s.fur.rx (phys * 16 + (code - 1408))
  else if code < 1488 then cget .vx s.fur.memRet (phys * 64 + (code - 1424))
  else if code < 1520 then cget .vx s.fur.inBits (phys * 32 + (code - 1488))
  else match code with
    | 1536 => .v0
    | 1537 => .v1
    | 1538 => .vx
    | 1539 => .vz
    | _ => .vx

/-- The ECC row that an operand source reads: kind and index. -/
def State.srcRow (s : State) (p phys b code : Nat) : Option (Nat × Nat) :=
  if code < 1024 then some (Item.dmemRow, dmemRow phys b code)
  else if code < 1280 then some (Item.stateRow, stateRow phys (s.verBefore p (s.plot p).tm.pn) b (code - 1024))
  else none

/-- The hazard kind of an operand in debug mode, 0 for none (R237). -/
def State.srcHazard (s : State) (phys b : Nat) (pp : Bool) (code : Nat) : Nat :=
  if code < 1024 then (if !pp && !(cget false s.bp.slotTag (dmemKey phys b code)) then 1 else 0)
  else if 1408 ≤ code ∧ code < 1424 then (if cget false s.fur.rxTag (phys * 16 + (code - 1408)) then 0 else 2)
  else if 1424 ≤ code ∧ code < 1488 then (if cget false s.fur.retTag (phys * 64 + (code - 1424)) then 0 else 3)
  else 0

/-! ## Port schedule words -/

/-- The fields of a PSW (R80). -/
structure Psw where
  txsel : List Nat
  txen : Nat
  mop : Nat
  mdesc : Nat
  prbd : Nat
  sigd : Nat
  rsvd : Nat
deriving DecidableEq, Repr

def pswOf (w : BitVec 192) : Psw :=
  let n := w.toNat
  { txsel := (natsFrom 0 16).map fun t => nfld n (80 + 7 * t) 7, txen := nfld n 64 16, mop := nfld n 61 3,
    mdesc := nfld n 53 8, prbd := nfld n 45 8, sigd := nfld n 37 8, rsvd := nfld n 0 37 }

/-! ## One BP (R42, R45, R69, R70, R75) -/

/-- What one BP produces in a step. -/
structure BpOut where
  val : Val
  /-- state slot written -/
  sslot : Option Nat
  offered : Bool
  /-- FUR_STAT bits raised -/
  causes : List Nat
  /-- ECC rows read that hold an error -/
  rows : List (Nat × Nat)
  /-- hazards: (kind, operand) -/
  hazards : List (Nat × Nat)
  /-- a LUT, BUSRES or gang leader result (R236) -/
  real : Bool
deriving DecidableEq, Repr

/-- The fetched word, none when it is uncorrectable (R45). -/
def State.fetch (s : State) (phys b st : Nat) : Option BpWord :=
  if s.eccAt Item.imem (imemKey phys b st) = 2 then none else some (bpWord (cget 0 s.bp.imem (imemKey phys b st)))

/-- BP i + k is the k-th member of a legal gang of n BPs led by word w (R68, R70). -/
def State.gangMember (s : State) (phys i st n k : Nat) (w : BpWord) : Bool :=
  match s.fetch phys (i + k) st with
  | some m => m.op == 2 && !m.illegal && m.size == w.size && m.xm == w.xm && m.role == (if k + 1 = n then 2 else 1)
  | none => false

/-- The values of the operands of BP b. -/
def State.operands (s : State) (p phys b st : Nat) (w : BpWord) : List Val := w.srcs.map (s.srcVal p phys b st)

/-- The result of a gang, none when it is broken (R69, R70). -/
def State.gangResult (s : State) (p phys i st mode : Nat) (w : BpWord) : Option Val :=
  let n := if w.size = 1 then 3 else 5
  if i + n ≤ 128 ∧ ((natsFrom 1 (n - 1)).all fun k => s.gangMember phys i st n k w) = true then
    let ops := fun k => match s.fetch phys (i + k) st with
      | some m => s.operands p phys (i + k) st m
      | none => []
    let data := (natsFrom 0 (n - 1)).flatMap ops
    let sels := (ops (n - 1)).take (if n = 3 then 3 else 4)
    some (gangEval mode data sels)
  else none

/-- Word m leads a gang that BP b, its k-th member, may belong to (R67, R68). -/
def leads (m : BpWord) (k : Nat) : Bool :=
  m.op == 2 && !m.illegal && m.role == 0 && decide (k < (if m.size = 1 then 3 else 5))

/-- BP b executes a data or select member that no leader's word names: its gang is broken (R70). -/
def State.orphan (s : State) (phys b st : Nat) : Bool :=
  !((natsFrom 1 4).any fun k => decide (k ≤ b) && (match s.fetch phys (b - k) st with
    | some m => leads m k
    | none => false))

/-- The protected rows that a word reads: of its operands, and of the keeper of a BUSRES with ZRES 0b11 (R71, R75). -/
def State.rowsRead (s : State) (p phys b st : Nat) (w : BpWord) : List (Nat × Nat) :=
  let keeper := if w.op = 3 ∧ w.zres = 3 then [(Item.dmemRow, dmemRow phys b st)] else []
  (w.srcs.filterMap (s.srcRow p phys b) ++ keeper).dedup

/-- One BP at one step. -/
def State.bpStep (s : State) (p phys b st : Nat) : BpOut :=
  let ce := if s.eccAt Item.imem (imemKey phys b st) = 1 then [0] else []
  match s.fetch phys b st with
  | none => ⟨.vx, none, false, [1], [], [], false⟩
  | some w =>
    if w.illegal then ⟨.vx, none, false, ce ++ [10], [], [], false⟩
    else if w.op = 0 then ⟨.vx, none, false, ce, [], [], false⟩
    else
      let rows := (s.rowsRead p phys b st w).filter fun r => s.eccAt r.1 r.2 ≠ 0
      let errs := rows.map fun r => if s.eccAt r.1 r.2 = 2 then 3 else 2
      let haz := if s.debugMode p then
          ((natsFrom 0 4).map fun i => (s.srcHazard phys b w.pp (nth 0 w.srcs i), i)).filter fun h => h.1 ≠ 0
        else []
      let xdef := s.fld (Reg.PLT_EVAL_CFG p) 0 2
      let mode := w.mode xdef
      let ops := s.operands p phys b st w
      let a := nth .vx ops 0
      let bb := nth .vx ops 1
      let c := nth .vx ops 2
      let d := nth .vx ops 3
      let sl := if w.sw then some w.sslot else none
      match w.op with
      | 1 => ⟨lutEval mode w.tt a bb c d, sl, w.prb, ce ++ errs, rows, haz, true⟩
      | 2 =>
        if w.role = 0 then
          match s.gangResult p phys b st mode w with
          | some v => ⟨v, sl, w.prb, ce ++ errs, rows, haz, true⟩
          | none => ⟨.vx, none, false, ce ++ errs ++ [10], rows, haz, true⟩
        else ⟨.vx, none, false, ce ++ errs ++ (if s.orphan phys b st then [10] else []), rows, haz, false⟩
      | _ =>
        let keeper := s.srcVal p phys b st st
        let r := busEval mode w.busMode w.zres keeper a bb c d
        ⟨r.1, sl, w.prb, ce ++ errs ++ (if r.2 then [11] else []), rows, haz, true⟩

/-! ## Writes -/

/-- The first write into an uncorrectable row writes the row whole: its other slots take X (R76). -/
def State.healDmem (s : State) (phys b n : Nat) : State :=
  let r := dmemRow phys b n
  if s.eccAt Item.dmemRow r = 2 then
    { s.eccSet Item.dmemRow r 0 with bp := { s.bp with dmem := cclear s.bp.dmem (32 * r) 32 } }
  else s

def State.healState (s : State) (phys ver b t : Nat) : State :=
  let r := stateRow phys ver b t
  if s.eccAt Item.stateRow r = 2 then
    { s.eccSet Item.stateRow r 0 with bp := { s.bp with sstore := cclear s.bp.sstore (32 * r) 32 } }
  else s

/-- A state slot of a version as a read gives it: X in an uncorrectable row (R76). -/
def State.slotRead (s : State) (phys ver b t : Nat) : Val :=
  if s.eccAt Item.stateRow (stateRow phys ver b t) = 2 then .vx else cget .vx s.bp.sstore (stateKey phys ver b t)

/-- Rows of a version of a furrow's state store that hold an error: row within the version, and condition (R76). -/
def State.badRows (s : State) (phys ver : Nat) : List (Nat × Nat) :=
  let lo := stateRow phys ver 0 0
  s.ecc.filterMap fun e =>
    if e.1 % 16 = Item.stateRow ∧ lo ≤ e.1 / 16 ∧ e.1 / 16 < lo + 1024 then some (e.1 / 16 - lo, e.2) else none

/-- A row of a version that a copy, a reload or a stake reads (R76): a single-bit error is corrected and written back, an
uncorrectable one raises DATA_UE, charged to pass n. The location names step 0 of a headland (DESIGN CHOICE, log 81). -/
def State.rowRead (s : State) (p phys ver n : Nat) (e : Nat × Nat) : State :=
  let loc := locFur 0 true (e.1 / 8)
  if e.2 = 1 then
    (s.furCe phys 2 loc (some p) n).eccSet Item.stateRow (stateRow phys ver 0 0 + e.1) 0
  else s.furError p phys 3 loc n

/-- A read of rows of a version of a furrow's state store meets the injections armed for them at the Gleaner (R471). -/
def State.rowsTouch (s : State) (p phys ver : Nat) : State :=
  s.glnTouch (some p) fun kind i => kind == Item.stateRow && i / 1024 == phys * 8 + ver

/-- Every row of a version of a furrow's state store is read for pass n (R76). -/
def State.rowsCheck (s : State) (p phys ver n : Nat) : State :=
  (s.badRows phys ver).foldl (fun s e => s.rowRead p phys ver n e) s

/-- Write a data memory slot. -/
def State.dmemSet (s : State) (phys b n : Nat) (v : Val) : State :=
  let s1 := s.healDmem phys b n
  { s1 with bp := { s1.bp with dmem := cset .vx s1.bp.dmem (dmemKey phys b n) v } }

/-- Write a state slot of a version. -/
def State.stateSet (s : State) (phys ver b t : Nat) (v : Val) : State :=
  let s1 := s.healState phys ver b t
  { s1 with bp := { s1.bp with sstore := cset .vx s1.bp.sstore (stateKey phys ver b t) v } }

/-- A debug hazard (R238). -/
def State.hazard (s : State) (p phys kind opnd st b : Nat) : State :=
  let pn := (s.plot p).tm.pn
  let s1 := (s.raiseFur phys 16 (locFur st false b) (some p) pn).onCmt p fun c =>
    { c with hazards := if c.hazards.contains pn then c.hazards else pn :: c.hazards }
  let a := Reg.FUR_HAZ_FIRST phys
  let s2 := if s1.bit a 31 then s1
    else s1.rnSet a (2 ^ 31 + (s1.rn a &&& 0x40000000) + kind * 2 ^ 27 + opnd * 2 ^ 25 + st * 128 + b)
  s2.count (Reg.FUR_HAZ_CNT phys)

/-- Causes of FUR_STAT that are pass errors (R106). -/
def furPassError (cause : Nat) : Bool := [1, 3, 5, 7, 9, 10, 12, 13, 14].contains cause

/-- Correctable causes (R106). -/
def furCorrectable (cause : Nat) : Bool := [0, 2, 4, 6, 8].contains cause

/-- A furrow condition of the executing pass, with what follows from its cause (R106). -/
def State.furCause (s : State) (p phys cause st b : Nat) : State :=
  let pn := (s.plot p).tm.pn
  let loc := locFur st false b
  if furPassError cause then s.furError p phys cause loc pn
  else if furCorrectable cause then s.furCe phys cause loc (some p) pn
  else s.raiseFur phys cause loc (some p) pn

/-- What one BP's step leaves in the state, its bus value apart. -/
def State.bpWrite (s : State) (p phys b st : Nat) (o : BpOut) : State :=
  let s1 := o.causes.foldl (fun s c => s.furCause p phys c st b) s
  -- a corrected row is written back at the same step (R76)
  let s2 := o.rows.foldl (fun s r => if s.eccAt r.1 r.2 = 1 then s.eccSet r.1 r.2 0 else s) s1
  let s3 := o.hazards.foldl (fun s h => s.hazard p phys h.1 h.2 st b) s2
  let s4 := s3.dmemSet phys b st o.val
  let dbg := s.debugMode p
  let s5 := if dbg && o.real then
      { s4 with bp := { s4.bp with slotTag := cset false s4.bp.slotTag (dmemKey phys b st) true } } else s4
  match o.sslot with
  | none => s5
  | some t =>
    let key := (phys * 128 + b) * 256 + t
    let s6 := if dbg && cget false s5.bp.stateTag key then s5.hazard p phys 4 0 st b else s5
    let s7 := if dbg then { s6 with bp := { s6.bp with stateTag := cset false s6.bp.stateTag key true } } else s6
    s7.stateSet phys (s7.verOf p (s7.plot p).tm.pn) b t o.val

/-- Results of the 128 BPs of a furrow at a step. -/
def State.bpAll (s : State) (p phys st : Nat) : List BpOut := (natsFrom 0 128).map fun b => s.bpStep p phys b st

/-- Write the results of a step; the furrow bus carries them in the next step (R42). -/
def State.bpFinish (s : State) (p phys st : Nat) (outs : List BpOut) : State :=
  let s1 := (outs.zip (natsFrom 0 128)).foldl (fun s e => s.bpWrite p phys e.2 st e.1) s
  { s1 with bp := { s1.bp with bus := csetList .vx s1.bp.bus (phys * 128) (outs.map (·.val)),
                               offered := csetList false s1.bp.offered (phys * 128) (outs.map (·.offered)) } }

/-- Injections at a furrow for the plot's present step (R471). -/
def State.furInjects (s : State) (p phys st : Nat) : State :=
  let (l, s1) := s.takeInjects (Reg.FUR_FI_CTRL phys) fun ad => nfld ad 8 10 == st && !ad.testBit 7
  l.foldl (fun s i =>
    let b := nfld i.2.2 0 7
    match i.1 with
    | 0 => s.upsetItem Item.imem (imemKey phys b st) 1
    | 1 => s.upsetItem Item.imem (imemKey phys b st) 2
    | _ => s.furCause p phys i.2.1 st b) s1

/-- The fetch and the operand reads of a furrow at a step meet the injections armed for them at the Gleaner (R471). -/
def State.fetchTouch (s : State) (p phys st : Nat) : State :=
  let reads := fun (e : Nat × Nat) => (natsFrom 0 128).any fun b => match s.fetch phys b st with
    | some w => (s.rowsRead p phys b st w).contains e
    | none => false
  s.glnTouch (some p) fun kind i =>
    (kind == Item.imem && i / 131072 == phys && i % 1024 == st) || (kind == Item.stateRow && reads (kind, i))

/-! ## Furrow bus, gathering (R78, R86) -/

/-- Furrow bus bit during a step: results of the previous step, X at step 0 (R78). -/
def State.busBit (s : State) (phys st b : Nat) : Val := if st = 0 then .vx else cget .vx s.bp.bus (phys * 128 + b)

/-- The fields of a gather descriptor (R85). -/
structure Gather where
  acnt : Nat
  dcnt : Nat
  ween : Bool
  weidx : Nat
  aidx : List Nat
  didx : List Nat
  rsvd : Nat
deriving DecidableEq, Repr

def gatherOf (w : BitVec 704) : Gather :=
  let n := w.toNat
  { acnt := nfld n 687 6, dcnt := nfld n 680 7, ween := n.testBit 679, weidx := nfld n 672 7,
    aidx := (natsFrom 0 32).map fun k => nfld n (448 + 7 * k) 7, didx := (natsFrom 0 64).map fun j => nfld n (7 * j) 7,
    rsvd := nfld n 693 11 }

/-- Two-value reading of address and enable elements under XDEF two-value (R88). -/
def State.addrVal (s : State) (p : Nat) (v : Val) : Val :=
  if s.fld (Reg.PLT_EVAL_CFG p) 0 2 = 1 then boolVal (asBool v) else v

/-- The address a descriptor gathers, none when it holds X (R86, R88). -/
def State.gatherAddr (s : State) (p phys st : Nat) (g : Gather) : Option Nat :=
  let vs := (g.aidx.take g.acnt).map fun b => s.addrVal p (s.busBit phys st b)
  if vs.all Val.known then some (vBits2 vs) else none

/-- The data values a descriptor gathers (R86). -/
def State.gatherData (s : State) (phys st : Nat) (g : Gather) : List Val :=
  (g.didx.take g.dcnt).map (s.busBit phys st)

/-- The write enable: 1 without WEEN (R88). -/
def State.gatherEn (s : State) (p phys st : Nat) (g : Gather) : Val :=
  if g.ween then s.addrVal p (s.busBit phys st g.weidx) else .v1

/-! ## Furrow RAM (R88-R94) -/

/-- Word width of a RAM_SHAPE (R89). -/
def shapeWidth (shape : Nat) : Nat :=
  match shape with
  | 0 => 1
  | 1 => 8
  | 2 => 32
  | _ => 64

/-- Address width of a RAM_SHAPE (R89). -/
def shapeAddr (shape : Nat) : Nat :=
  match shape with
  | 0 => 15
  | 1 => 12
  | 2 => 10
  | _ => 9

def State.ramShape (s : State) (phys : Nat) : Nat := s.fld (Reg.FUR_CFG phys) 0 2

/-- Values of furrow RAM from a value index on. -/
def State.ramGet (s : State) (phys base n : Nat) : List Val := cgetList .vx s.fur.ram (phys * 32768 + base) n

def State.ramPut (s : State) (phys base : Nat) (vs : List Val) : State :=
  { s with fur := { s.fur with ram := csetList .vx s.fur.ram (phys * 32768 + base) vs } }

/-- A furrow condition met by an access that is no part of a schedule step: a plot that runs takes it as one of its
executing pass, and one that stands still has no pass to charge (R106, R185). -/
def State.idleCause (s : State) (p phys cause st b : Nat) : State :=
  if s.plotRuns p then s.furCause p phys cause st b
  else if furCorrectable cause then s.furCe phys cause (locFur st false b) (some p) (s.plot p).tm.pn
  else s.raiseFur phys cause (locFur st false b) (some p) (s.plot p).tm.pn

/-- A read or write reads the protected word (R106): correction, or the uncorrectable condition; whether it is
uncorrectable. -/
def State.ramCheck (s0 : State) (p phys base st : Nat) : Bool × State :=
  let w := phys * 512 + base / 64
  let s := s0.glnTouch (some p) fun kind i => kind == Item.ramWord && i == w
  match s.eccAt Item.ramWord w with
  | 0 => (false, s)
  | 1 => (false, (s.idleCause p phys 8 st 0).eccSet Item.ramWord w 0)
  | _ => (true, s.idleCause p phys 9 st 0)

/-- Values of furrow RAM as a read gives them: X in an uncorrectable protected word (R106). -/
def State.ramSafe (s : State) (phys base n : Nat) : List Val :=
  if s.eccAt Item.ramWord (phys * 512 + base / 64) = 2 then List.replicate n .vx else s.ramGet phys base n

/-- Issue a furrow RAM read (R88, R90, R91, R237). -/
def State.ramRead (s : State) (p l phys st : Nat) (g : Gather) : State :=
  let pn := (s.plot p).tm.pn
  let add := fun (s : State) (base : Nat) (vs : List Val) =>
    { s with fur := { s.fur with ramReads := s.fur.ramReads ++ [⟨l, phys, pn, st + 3, base, vs⟩] } }
  match s.gatherAddr p phys st g with
  | none => add s 32768 (List.replicate g.dcnt .vx)
  | some a =>
    let base := a * shapeWidth (s.ramShape phys) % 32768
    let (ue, s1) := s.ramCheck p phys base st
    add s1 base (if ue then List.replicate g.dcnt .vx else s1.ramGet phys base g.dcnt)

/-- What the undo entry of a write whose address is unknown holds (R93): no word of the RAM, which has 32,768 values, and
nothing to put back. DESIGN CHOICE: the spec gives neither (log 50). -/
def undoUnknown (pn : Nat) : UndoEntry := ⟨pn, 32768, [], false, false⟩

/-- Entries of a furrow's undo ring in use (R93). -/
def State.undoUsed (s : State) (phys : Nat) : Nat := ((cget [] s.fur.undo phys).filter fun e => !e.spare).length

/-- Entries of the undo ring that host writes hold (R93). -/
def State.hostUndo (s : State) (phys : Nat) : Nat := ((cget [] s.fur.undo phys).filter fun e => e.host && !e.spare).length

/-- Add an undo-ring entry (R93); FUR_UNDO_STAT keeps the highest number in use (R109). A host write on a plot that stands still
takes effect at once (R95) also where the 16 host entries are in use (DESIGN CHOICE, log 50). -/
def State.undoAdd (s : State) (phys : Nat) (e : UndoEntry) : State :=
  let e' := { e with spare := e.host && decide (16 ≤ s.hostUndo phys) }
  let s1 := { s with fur := { s.fur with undo := cset [] s.fur.undo phys (cget [] s.fur.undo phys ++ [e']) } }
  s1.put (Reg.FUR_UNDO_STAT phys) 16 9 (max (s1.undoUsed phys) (s.fld (Reg.FUR_UNDO_STAT phys) 16 9))

/-- A write reads the protected word that holds its values and puts it back; an uncorrectable one takes X in its other values
(R106). -/
def State.ramMerge (s : State) (p phys base st : Nat) : State :=
  let (ue, s1) := s.ramCheck p phys base st
  if ue then
    ({ s1 with fur := { s1.fur with ram := cclear s1.fur.ram (phys * 32768 + base / 64 * 64) 64 } }).eccSet Item.ramWord
      (phys * 512 + base / 64) 0
  else s1

/-- Write one word of furrow RAM with its undo entry (R93, R106). -/
def State.ramStore (s : State) (p phys base pn st : Nat) (vs : List Val) (host : Bool) : State :=
  let s2 := s.ramMerge p phys base st
  (s2.undoAdd phys ⟨pn, base, s2.ramGet phys base vs.length, host, false⟩).ramPut phys base vs

/-- Issue a furrow RAM write (R88, R91, R93, R237). -/
def State.ramWrite (s : State) (p phys st : Nat) (g : Gather) : State :=
  let pn := (s.plot p).tm.pn
  match s.gatherAddr p phys st g with
  | none => (s.furCause p phys 15 st 0).undoAdd phys (undoUnknown pn)
  | some a =>
    let base := a * shapeWidth (s.ramShape phys) % 32768
    let inFlight := s.fur.ramReads.any fun r =>
      r.phys == phys && r.pn == pn && r.base == base && (r.due == st + 2 || r.due == st + 1)
    let s1 := if s.debugMode p && inFlight then s.hazard p phys 5 0 st 0 else s
    match s1.gatherEn p phys st g with
    | Val.v0 => (s1.ramCheck p phys base st).2.undoAdd phys ⟨pn, base, s1.ramSafe phys base g.dcnt, false, false⟩
    | Val.v1 => s1.ramStore p phys base pn st (s1.gatherData phys st g) false
    | _ => s1.ramStore p phys base pn st (List.replicate g.dcnt Val.vx) false

/-- Load the memory return register; a delivery tags the bits that it gives (R86, R92, R236). -/
def State.memRetLoad (s : State) (p phys : Nat) (vs : List Val) : State :=
  let all := (vs ++ List.replicate 64 Val.vx).take 64
  let s1 := { s with fur := { s.fur with memRet := csetList .vx s.fur.memRet (phys * 64) all } }
  if s.debugMode p then
    { s1 with fur := { s1.fur with
        retTag := csetList false s1.fur.retTag (phys * 64) (List.replicate (min 64 vs.length) true) } }
  else s1

/-- An HBM return falls at a step of a pass of a furrow (R92). -/
def State.hbmReturnAt (s : State) (furrow pn st : Nat) : Bool :=
  s.hbm.reads.any fun h => h.furrow == furrow && h.pn == pn && h.step == st

/-- Deliver the furrow RAM reads due at the plot's present step (R90), but where an HBM return falls on it, which is loaded
(R92). -/
def State.ramReturns (s : State) (p : Nat) : State :=
  match (s.plot p).tm.phase with
  | .step st =>
    (s.fur.ramReads.filter fun r => r.due == st && r.pn == (s.plot p).tm.pn &&
      (s.plot p).res.furrows.contains r.furrow && !s.hbmReturnAt r.furrow r.pn st).foldl
        (fun s r => s.memRetLoad p r.phys r.vals) s
  | _ => s

/-- Put one entry of the undo ring back: a write as any other (R94, R106). -/
def State.undoPut (s : State) (p phys : Nat) (e : UndoEntry) : State :=
  if e.old = [] then s else (s.ramMerge p phys e.base 0).ramPut phys e.base e.old

/-- Entries of the undo ring back, newest first, for passes from k on (R94). -/
def State.undoRestore (s : State) (p phys k : Nat) : State :=
  let l := cget [] s.fur.undo phys
  let s1 := (l.filter fun e => k ≤ e.pn).reverse.foldl (fun s e => s.undoPut p phys e) s
  { s1 with fur := { s1.fur with undo := cset [] s1.fur.undo phys (l.filter fun e => e.pn < k) } }

/-- The entries of a committed pass are freed (R93). -/
def State.undoFree (s : State) (phys pn : Nat) : State :=
  { s with fur := { s.fur with undo := cset [] s.fur.undo phys ((cget [] s.fur.undo phys).filter fun e => pn < e.pn) } }

end Sys2Proof.Machine
end

