-- ==== Sys2Proof/Machine/Hbm.lean ====
section
/-! DEFINITION. Design memories in HBM: windows and addresses, scheduled reads, the write queue, ECC and poison, drains and
the undo journal, remapping, BAR4 (05_design_memory.md R130-R157, R210-R212). -/

namespace Sys2Proof.Machine
open Sys2Proof

/-! ## Addresses (R130, R134-R136) -/

def mib2 : Nat := 2 ^ 21

/-- 4 KiB: the unit of translation and of most resumable operations (R374, R407), and a stake's header (R207). -/
def kib4 : Nat := 4096

/-- Pseudo-channel of a device HBM address (R130). -/
def pcOf (addr : Nat) : Nat := addr / mib2 / 384

/-- Byte offset within the PC, in 64-byte units, as MEM_FIRST_LOC holds it. -/
def pcOffset (addr : Nat) : Nat := addr % (384 * mib2) / 64

/-- NCH of a plot. -/
def State.nch (s : State) (p : Nat) : Nat := s.fld (Reg.PLT_MEM_CFG p) 16 7

/-- Grain in bytes (R136). -/
def State.grain (s : State) (p : Nat) : Nat := 64 * 2 ^ s.fld (Reg.PLT_MEM_CFG p) 24 4

/-- PCs that carry the plot's design memory, by channel index (R136). -/
def State.designPcs (s : State) (p : Nat) : List Nat := (s.plot p).res.pcs.take (s.nch p)

/-- Channel index and channel offset of a byte of design memory (R136). -/
def State.channelOf (s : State) (p x : Nat) : Nat × Nat :=
  let g := s.grain p
  let blk := x / g
  (blk % s.nch p, blk / s.nch p * g + x % g)

/-- Pages of a plot with a USE on a PC, in map order (R399). -/
def State.pagesUse (s : State) (p pc use : Nat) : List Nat :=
  ((s.plot p).res.map.filter fun e => e.use == use && e.page / 384 == pc).map (·.page)

/-- PC of a byte of design memory, whether or not a page holds it. -/
def State.designPc (s : State) (p x : Nat) : Option Nat := (s.designPcs p)[(s.channelOf p x).1]?

/-- Device HBM address of a byte of design memory, none where the map provides no page (R136, R137). -/
def State.designAddr (s : State) (p x : Nat) : Option Nat :=
  if s.nch p = 0 then none
  else
    let (ch, coff) := s.channelOf p x
    match (s.designPcs p)[ch]? with
    | none => none
    | some pc => ((s.pagesUse p pc 1)[coff / mib2]?).map fun pg => pg * mib2 + coff % mib2

/-- The fields of a window (R134). -/
structure Window where
  form : Nat
  base : Nat
  valid : Bool
  rsvd : Nat
deriving DecidableEq, Repr

def windowOf (w : BitVec 64) : Window :=
  let n := w.toNat
  { form := nfld n 48 2, base := nfld n 16 32, valid := n.testBit 0, rsvd := nfld n 50 14 + nfld n 1 15 }

/-- Bytes of one word of a window (R135). -/
def Window.bytes (w : Window) : Nat := if w.form = 1 then 8 else 16

/-- Byte offset of word n in the plot's design memory (R135). -/
def Window.offset (w : Window) (n : Nat) : Nat := 16 * w.base + n * w.bytes

/-- A stored word of 64 values: DCNT data values, then X, or 0 in a two-value window (R135). -/
def wordOf (w : Window) (vals : List Val) : List Byte :=
  if w.form = 1 then leBytes 8 (vBits2 vals) else leBytes 16 (packVals ((vals ++ List.replicate 64 Val.vx).take 64))

/-- The values of a stored word (R135). -/
def valsOf (twoVal : Bool) (bs : List Byte) : List Val :=
  if twoVal then unpackBits 64 (leNat bs) else unpackVals 64 (leNat bs)

/-! ## ECC words, poison (R149-R151) -/

/-- Index of the 8-byte ECC word of an address. -/
def eccWord (addr : Nat) : Nat := addr / 8

def State.hbmMark (s : State) (addr : Nat) : Nat := s.eccAt Item.hbmWord (eccWord addr)

def State.hbmMarkSet (s : State) (addr v : Nat) : State := s.eccSet Item.hbmWord (eccWord addr) v

/-- A word is in its PC's suspect list. -/
def State.suspect (s : State) (addr : Nat) : Bool := s.hbm.suspects.contains (pcOf addr, eccWord addr)

def State.unsuspect (s : State) (addr : Nat) : State :=
  { s with hbm := { s.hbm with suspects := s.hbm.suspects.filter fun e => e != (pcOf addr, eccWord addr) } }

/-- Plot whose design memory holds an address, with the plot's page use. -/
def State.pageHolder (s : State) (page : Nat) : Option (Nat × Nat) :=
  s.livePlots.findSome? fun p => ((s.plot p).res.map.find? fun e => e.page == page && !e.lifted).map fun e => (p, e.use)

/-- Row of 1 KiB within its PC (R152). -/
def rowOf (addr : Nat) : Nat := addr % (384 * mib2) / 1024

/-- BANK and ROW of a row, as MEM_PC_REMAP holds them. -/
def rowFields (row : Nat) : Nat := row / 65536 * 65536 + row % 65536

/-- Firmware requests a remap entry for a row (R466): not twice, and REMAP_FULL when the 32 entries are in use. -/
def State.remapRequest (s : State) (pc row : Nat) : State :=
  let used := fun k => s.bit (Reg.MEM_PC_REMAP pc k) 31
  if (natsFrom 0 32).any fun k => used k && nfld (s.rn (Reg.MEM_PC_REMAP pc k)) 0 22 == rowFields row then s
  else match (natsFrom 0 32).find? fun k => !(used k) with
    | some k => s.rnSet (Reg.MEM_PC_REMAP pc k) (2 ^ 31 + rowFields row)
    | none => s.raiseGln 9 6 ((pc * 384 * mib2 + row * 1024) / 256) (s.holder Res.pcs pc)

/-- AUTO of GLN_REMAP_CFG (R466). -/
def State.remapAuto (s : State) : Bool := s.bit Reg.GLN_REMAP_CFG 31

/-- The row of the tracker of a PC with the fewest counts, or the most. -/
def rowExtreme (most : Bool) : List (Nat × Nat × Nat) → Option (Nat × Nat × Nat)
  | [] => none
  | e :: es => match rowExtreme most es with
    | none => some e
    | some x => if (if most then x.2.2 ≤ e.2.2 else e.2.2 ≤ x.2.2) then some e else some x

/-- A corrected word is counted in the row tracker of its PC: 64 rows, the one with the fewest counts replaced (R466). -/
def State.rowCount (s0 : State) (addr : Nat) : State :=
  let s := s0.useTriple 0x120
  let pc := pcOf addr
  let row := rowOf addr
  let mine := s.hbm.rows.filter fun e => e.1 == pc
  let n := ((mine.find? fun e => e.2.1 == row).map fun e => e.2.2).getD 0 + 1
  let kept := s.hbm.rows.filter fun e => !(e.1 == pc && e.2.1 == row)
  let kept1 := match rowExtreme false mine with
    | some e => if n = 1 ∧ 64 ≤ mine.length then kept.erase e else kept
    | none => kept
  let s1 := { s with hbm := { s.hbm with rows := kept1 ++ [(pc, row, n)] } }
  let thr : Nat := max 1 (s.fld Reg.GLN_REMAP_CFG 0 8)
  if s.remapAuto = true ∧ thr ≤ n then s1.remapRequest pc row else s1

/-- A correctable event of a PC (R149, R462): cause 0 of the controller's ECC, 6 reported by the stack's on-die ECC. -/
def State.memEvent (s : State) (cause addr : Nat) (plot : Option Nat) (pn : Nat) : State :=
  ((s.raiseMem (pcOf addr) cause (pcOffset addr) plot pn).count (Reg.MEM_PC_CE_CNT (pcOf addr))).bucket 2
    (Reg.MEM_PC_CE_BUCKET (pcOf addr))

/-- A word is corrected that a scheduled read or the patrol met: its row is counted (R149, R466). -/
def State.memCe (s : State) (addr : Nat) (plot : Option Nat) (pn : Nat) : State := (s.memEvent 0 addr plot pn).rowCount addr

/-- An uncorrectable word found (R150, R157). -/
def State.memUe (s : State) (addr : Nat) (plot : Option Nat) (pn : Nat) : State :=
  (s.raiseMem (pcOf addr) 1 (pcOffset addr) plot pn).count (Reg.MEM_PC_UE_CNT (pcOf addr))

/-- A condition of a PC is a pass error of the plot that runs on it (R157): WQ_OVF and LATE, and UE on a scheduled read. -/
def memPassError (cause : Nat) (sched : Bool) : Bool := cause == 4 || cause == 5 || (cause == 1 && sched)

/-- Condition CAUSE of a PC is injected (R471): it counts where the condition counts, and a pass error is charged as the
condition charges it (R186). -/
def State.memRaise (s : State) (cause addr : Nat) (plot : Option Nat) (pn : Nat) (sched : Bool) : State :=
  let pc := pcOf addr
  let s1 := if cause = 0 ∨ cause = 6 then s.memEvent cause addr plot pn
    else if cause = 1 then s.memUe addr plot pn
    else s.raiseMem pc cause (pcOffset addr) plot pn
  match plot with
  | some p => if s.plotRuns p && memPassError cause sched then
      s1.passError p pn Block.mem cause (pc * 2 ^ 24 + pcOffset addr) pc else s1
  | none => s1

/-- An access to an ECC word meets the injections armed for its place, at the controller and at the Gleaner (R471); `sched` marks a scheduled read. -/
def State.memInject (s : State) (addr : Nat) (plot : Option Nat) (pn : Nat) (sched : Bool) : State :=
  (s.glnTouchHbm (eccWord addr) plot).injectAt Reg.MEM_FI_CTRL (fun a => a == pcOf addr * 2 ^ 24 + pcOffset addr)
    (fun bits s => s.upsetItem Item.hbmWord (eccWord addr) bits)
    (fun cause _ s => s.memRaise cause addr plot pn sched)

/-- Design data of a plot is lost (R150, R421): DATA_LOSS with its record and interrupt, and the halt that POISON_HALT asks. -/
def State.dataLoss (s : State) (addr p pn : Nat) : State :=
  let s1 := ((s.setBit (Reg.PLT_MEM_STAT p) 2).plotInt p 0).record 0x13 1 (some p) pn [pcOf addr * 2 ^ 24 + pcOffset addr]
  if s.bit (Reg.PLT_MEM_CFG p) 28 then
    s1.onCmt p fun c => { c with poisoned := if c.poisoned.contains pn then c.poisoned else pn :: c.poisoned }
  else s1

/-- Poison a word (R150). -/
def State.poison (s : State) (addr : Nat) (plot : Option Nat) (pn : Nat) : State :=
  let s1 := ((s.hbmMarkSet addr 3).unsuspect addr).raiseMem (pcOf addr) 2 (pcOffset addr) plot pn
  match plot with
  | none => s1.record 0x13 1 none pn [pcOf addr * 2 ^ 24 + pcOffset addr]
  | some p => s1.dataLoss addr p pn

/-- The plot's next RUN is turned away (R150): it halts on poison, and DATA_LOSS stands. -/
def State.dataLost (s : State) (p : Nat) : Bool := s.bit (Reg.PLT_MEM_CFG p) 28 && s.bit (Reg.PLT_MEM_STAT p) 2

/-- A read of a poisoned word (R151). -/
def State.poisonRead (s : State) (addr : Nat) (plot : Option Nat) (pn : Nat) : State :=
  let s1 := s.raiseMem (pcOf addr) 3 (pcOffset addr) plot pn
  match plot with
  | some p => s1.count (Reg.PLT_MEM_POISON_CNT p)
  | none => s1

/-- Check one ECC word of a non-scheduled read (R149-R151): true when its content is lost. The row tracker does not count what it
corrects (R466). -/
def State.hbmCheck (s0 : State) (addr : Nat) (plot : Option Nat) (pn : Nat) : Bool × State :=
  let s := s0.memInject addr plot pn false
  match s.hbmMark addr with
  | 0 => (false, s)
  | 1 => (false, (s.memEvent 0 addr plot pn).hbmMarkSet addr 0)
  | 2 => (true, (s.memUe addr plot pn).poison addr plot pn)
  | _ => (true, s.poisonRead addr plot pn)

/-- Check every ECC word of a non-scheduled read. -/
def State.hbmCheckRange (s : State) (addr n : Nat) (plot : Option Nat) (pn : Nat) : Bool × State :=
  (natsFrom (addr / 8) ((addr % 8 + n + 7) / 8)).foldl (fun r w =>
    let (bad, s1) := r.2.hbmCheck (8 * w) plot pn
    (r.1 || bad, s1)) (false, s)

/-- A write that covers whole ECC words clears their condition (R150, R151). -/
def State.hbmStore (s : State) (addr : Nat) (bs : List Byte) : State :=
  let s1 := s.hbmWrite addr bs
  (natsFrom ((addr + 7) / 8) ((addr + bs.length) / 8 - (addr + 7) / 8)).foldl
    (fun s w => (s.hbmMarkSet (8 * w) 0).unsuspect (8 * w)) s1

/-! ## The write queue (R143-R148) -/

def State.wqOf (s : State) (pc : Nat) : List WqEntry := s.hbm.wq.filter fun e => e.pc == pc

/-- MEM_PC_WQ_STAT follows the queue (R157). -/
def State.wqStat (s : State) (pc : Nat) : State :=
  let n := (s.wqOf pc).length
  s.rnSet (Reg.MEM_PC_WQ_STAT pc) (max n (s.fld (Reg.MEM_PC_WQ_STAT pc) 16 10) * 65536 + n)

/-- Enter one write-queue entry; false when the queue is full. -/
def State.wqEnter (s : State) (e : WqEntry) : Bool × State :=
  if (s.wqOf e.pc).length ≥ 512 then (false, s)
  else (true, { s with hbm := { s.hbm with wq := s.hbm.wq ++ [e] } }.wqStat e.pc)

/-- Bytes overlaid by one entry on a range. -/
def overlay (addr : Nat) (bs : List Byte) (e : WqEntry) : List Byte :=
  (bs.zip (natsFrom addr bs.length)).map fun b =>
    if e.addr ≤ b.2 ∧ b.2 < e.addr + e.data.length then nth b.1 e.data (b.2 - e.addr) else b.1

/-- Bytes of a range overlaid by the entries that `pick` chooses, oldest first (R143, R145, R148). -/
def State.overlaid (s : State) (addr : Nat) (bs : List Byte) (pick : WqEntry → Bool) : List Byte :=
  (s.wqOf (pcOf addr)).foldl (fun bs e => if pick e then overlay addr bs e else bs) bs

/-- Bytes of a range as reads see them: DRAM overlaid by the entries that `pick` chooses (R143, R145, R148). -/
def State.hbmView (s : State) (addr n : Nat) (pick : WqEntry → Bool) : List Byte := s.overlaid addr (s.hbmRead addr n) pick

/-- The same with X for each value of a poisoned word in DRAM (R151). -/
def State.hbmSeen (s : State) (addr n : Nat) (pick : WqEntry → Bool) : List Byte :=
  let dram := ((s.hbmRead addr n).zip (natsFrom addr n)).map fun b => if s.hbmMark b.2 = 3 then (0x55 : Byte) else b.1
  s.overlaid addr dram pick

/-- The queue holds every byte of an ECC word, so that a read of it does not go to DRAM. -/
def State.forwarded (s : State) (addr : Nat) (pick : WqEntry → Bool) : Bool :=
  (s.wqOf (pcOf addr)).any fun e => pick e && decide (e.addr ≤ addr / 8 * 8 ∧ addr / 8 * 8 + 8 ≤ e.addr + e.data.length)

/-- A write finds its queue full (R146). -/
def State.wqOverflow (s : State) (p pc addr pn : Nat) : State :=
  let s1 := (s.raiseMem pc 4 (pcOffset addr) (some p) pn).setBit (Reg.PLT_MEM_STAT p) 1
  s1.passError p pn Block.mem 4 (pc * 2 ^ 24 + pcOffset addr) pc

/-- The data of a write on its way to the queue (R421): where an express flit of it is lost every value is X, or 0 in a two-value
window, which is a loss of design data. -/
def State.writeFlit (s : State) (p l a pn : Nat) (w : Window) (data : List Byte) : List Byte × State :=
  let x := s.express
  if x.1 || s.slotLost p l (pcOf a) then (wordOf w (List.replicate 64 .vx), x.2.dataLoss a p pn) else (data, x.2)

/-- An HBM write PSW (R88, R143, R144, R146). -/
def State.hbmIssueWrite (s : State) (p l phys st : Nat) (g : Gather) (w : Window) : State :=
  let pn := (s.plot p).tm.pn
  let addr? := s.gatherAddr p phys st g
  let s0 := if addr? = none then s.furCause p phys 15 st 0 else s
  let off := w.offset (addr?.getD 0)
  match s.designAddr p off with
  | none => s0
  | some a =>
    let data := match addr? with
      | none => []
      | some _ => match s.gatherEn p phys st g with
        | .v0 => []
        | .v1 => wordOf w (s.gatherData phys st g)
        | _ => wordOf w (List.replicate 64 .vx)
    let d := if addr? = none then (data, s0) else s0.writeFlit p l a pn w data
    match d.2.wqEnter ⟨pcOf a, p, a, d.1, pn, st, l, false, false⟩ with
    | (true, s1) => s1
    | (false, s1) => s1.wqOverflow p (pcOf a) a pn

/-! ## Scheduled reads (R138-R142) -/

/-- Pass and step of delivery (R138). -/
def State.deliveryOf (s : State) (p pn st : Nat) : Nat × Nat :=
  let n := st + s.fld (Reg.PLT_MEM_CFG p) 0 10
  (pn + n / s.passLen p, n % s.passLen p)

/-- An HBM read PSW (R138, R143, R145); one that loses an express flit has no word and returns late (R421). -/
def State.hbmIssueRead (s : State) (p l phys st : Nat) (g : Gather) (w : Window) : State :=
  let pn := (s.plot p).tm.pn
  let (dp, ds) := s.deliveryOf p pn st
  let mk := fun (pc addr : Nat) (word : Option (List Byte)) (fwd : List Bool) (vals : Option (List Val)) =>
    ({ plot := p, furrow := l, pc := pc, addr := addr, issuePn := pn, pn := dp, step := ds, dcnt := g.dcnt,
       twoVal := w.form == 1, word := word, forwarded := fwd, vals := vals, delivered := false } : HbmRead)
  let add := fun (s : State) (r : HbmRead) => { s with hbm := { s.hbm with reads := s.hbm.reads ++ [r] } }
  match (s.gatherAddr p phys st g).bind fun a => s.designAddr p (w.offset a) with
  | none => add s (mk 0 0 none [] (some (List.replicate g.dcnt .vx)))
  | some ad =>
    let mine := fun (e : WqEntry) => e.plot == p
    let word := s.hbmView ad w.bytes mine
    let fwd := (natsFrom 0 (w.bytes / 8)).map fun i => s.forwarded (ad + 8 * i) mine
    add s.express.2 (mk (pcOf ad) ad (if s.express.1 || s.slotLost p l (pcOf ad) then none else some word) fwd none)

/-- A scheduled read meets one ECC word in DRAM (R149-R151): true when its values are lost. -/
def State.scheduledCheck (s0 : State) (p pn addr : Nat) : Bool × State :=
  let s := s0.memInject addr (some p) pn true
  match s.hbmMark addr with
  | 0 => (false, s.unsuspect addr)
  | 1 => (false, ((s.memCe addr (some p) pn).hbmMarkSet addr 0).unsuspect addr)
  | 2 =>
    if s.suspect addr then (true, (s.memUe addr (some p) pn).poison addr (some p) pn)
    else
      let full := (s.hbm.suspects.filter fun e => e.1 == pcOf addr).length ≥ 16
      let s1 := (s.memUe addr (some p) pn).passError p pn Block.mem 1 (pcOf addr * 2 ^ 24 + pcOffset addr) (pcOf addr)
      (true, if full then s1.poison addr (some p) pn
        else { s1 with hbm := { s1.hbm with suspects := s1.hbm.suspects ++ [(pcOf addr, eccWord addr)] } })
  | _ => (true, s.poisonRead addr (some p) pn)

/-- The values a read delivers, after those of its ECC words that came from DRAM (R135, R145, R150, R151). -/
def State.readValues (s : State) (r : HbmRead) : List Val × State :=
  let bs := r.word.getD []
  let n := if r.twoVal then 1 else 2
  let step := fun (acc : List Val × State) (i : Nat) =>
    let ad := r.addr + 8 * i
    let (bad, s1) := if nth false r.forwarded i then (false, acc.2) else acc.2.scheduledCheck r.plot r.issuePn ad
    let per := if r.twoVal then 64 else 32
    let vals := if bad then List.replicate per (if r.twoVal then Val.v0 else .vx)
      else if r.twoVal then unpackBits 64 (leNat bs) else unpackVals 32 (leNat ((bs.drop (8 * i)).take 8))
    (acc.1 ++ vals, s1)
  let (vs, s1) := (natsFrom 0 n).foldl step ([], s)
  (vs.take r.dcnt, s1)

/-- The return of read n in the list of reads in flight (R139): its values, unless its delivery step has passed, which discards
them (R141). -/
def execHbmReadReturn (n : Nat) (s : State) : Host.Outcome State Fault Refusal :=
  .next <| match s.hbm.reads[n]? with
  | none => s
  | some r =>
    if r.vals.isSome ∨ r.word = none ∨ r.delivered = true then s
    else
      let (vs, s1) := s.readValues r
      { s1 with hbm := { s1.hbm with reads := setNth s1.hbm.reads n { r with vals := some vs } } }

/-- One read delivered at its step (R138, R141, R92). One that has not returned by then has no data any more: it is late again at
every replay that delivers it from the return buffer (R235; DEDUCED, log 62). -/
def State.deliverRead (s : State) (p : Nat) (n : Nat) (r : HbmRead) : State :=
  let phys := s.phys r.furrow
  let pn := (s.plot p).tm.pn
  let collide := s.fur.ramReads.any fun q => q.furrow == r.furrow && q.due == r.step && q.pn == pn
  let s1 := if collide then
      s.furCause p phys 14 r.step 0 else s
  let s2 := match r.vals with
    | some vs => s1.memRetLoad p phys vs
    | none =>
      let a := (s1.memRetLoad p phys []).furCause p phys 13 r.step 0
      let b := (a.raiseMem r.pc 5 (pcOffset r.addr) (some p) pn).setBit (Reg.PLT_MEM_STAT p) 0
      b.passError p pn Block.mem 5 (r.pc * 2 ^ 24 + pcOffset r.addr) r.pc
  let r' := { r with delivered := true, word := if r.vals.isSome then r.word else none }
  { s2 with hbm := { s2.hbm with reads := setNth s2.hbm.reads n r' } }

/-- The reads of a plot that are due at its present step. -/
def State.hbmReturns (s : State) (p : Nat) : State :=
  match (s.plot p).tm.phase with
  | .step st =>
    let pn := (s.plot p).tm.pn
    (s.hbm.reads.zip (natsFrom 0 s.hbm.reads.length)).foldl (fun s e =>
      if e.1.plot == p && e.1.pn == pn && e.1.step == st && !e.1.delivered then s.deliverRead p e.2 e.1 else s) s
  | _ => s

/-- HBM_RETURN_DELIVERY (R138). -/
def execHbmReturnDelivery (p : Nat) (s : State) : Host.Outcome State Fault Refusal := .next (s.hbmReturns p)

/-- FURROW_RAM_RETURN (R90). -/
def execFurrowRamReturn (p : Nat) (s : State) : Host.Outcome State Fault Refusal := .next (s.ramReturns p)

/-- Reads consumed by a committed pass leave the return buffer (R142). -/
def State.readsCommit (s : State) (p pn : Nat) : State :=
  { s with hbm := { s.hbm with reads := s.hbm.reads.filter fun r => !(r.plot == p && r.pn ≤ pn) } }

/-- A failed decision discards reads issued in pass k and later, and re-arms carried returns (R142). -/
def State.readsDiscard (s : State) (p k : Nat) : State :=
  let rearm := fun (r : HbmRead) => if r.plot == p && decide (k ≤ r.pn) then { r with delivered := false } else r
  let kept := s.hbm.reads.filter fun r => !(r.plot == p && k ≤ r.issuePn)
  { s with hbm := { s.hbm with reads := kept.map rearm } }

/-! ## Commit marks, discards, drains -/

/-- Entries of passes up to pn are marked committed (R144). -/
def State.wqCommit (s : State) (p pn : Nat) : State :=
  let mark := fun (e : WqEntry) => if e.plot == p && decide (e.pn ≤ pn) then { e with committed := true } else e
  { s with hbm := { s.hbm with wq := s.hbm.wq.map mark } }

/-- A failed decision discards the entries of pass k and later (R144). -/
def State.wqDiscard (s : State) (p k : Nat) : State :=
  let pcs := ((s.hbm.wq.filter fun e => e.plot == p).map (·.pc)).dedup
  let s1 := { s with hbm := { s.hbm with wq := s.hbm.wq.filter fun e => !(e.plot == p && k ≤ e.pn && !e.committed) } }
  pcs.foldl State.wqStat s1

/-- PN of the stake that the plot's journal and log serve while there is no recovery point (R210, R211): one that is
written and awaits the other devices, or the stake in progress, unless it has overflowed (R212). -/
def State.stakeFrom (s : State) (p : Nat) : Option Nat :=
  let c := (s.plot p).cmt
  match c.awaits, c.stake with
  | some n, _ => some n
  | none, some k => if k.overflow then none else some k.copy.pn
  | none, none => none

/-- PN of the next capture (R205). -/
def State.nextCapture (s : State) (p : Nat) : Nat :=
  let cpn := (s.plot p).tm.cpn
  let w := 2 ^ s.fld (Reg.PLT_STAKE_CFG p) 24 5
  ((s.plot p).cmt.extra.filter fun e => cpn < e.1).foldl (fun m e => min m e.1) ((cpn / w + 1) * w)

/-- The journal or the log is full (R212): bit 0 JRNL_OVF, 1 LOG_OVF. The recovery point is invalid; journal entries and log
records below the next capture are dropped, and a stake in progress fails. The log keeps what uncommitted passes need to be
executed again (DEDUCED, log 52). -/
def State.stakeOverflow (s : State) (p b : Nat) : State :=
  let s1 := (s.setBit (Reg.PLT_STAKE_STAT p) b).clrBit (Reg.PLT_STAKE_STAT p) 31
  let s2 := s1.record 0x0c 1 (some p) (s.rn64 (Reg.PLT_STAKE_PN_LO p)) [4]
  let keep := s.nextCapture p
  let s3 := ((s2.plotInt p 9).logTrim p (min keep (s.plot p).tm.dpn)).onCmt p fun c =>
    { c with stake := c.stake.map (fun k => { k with overflow := true }), awaits := none,
             area0 := c.area0.filter (fun a => c.awaits != some a.pn), area1 := c.area1.filter fun a => c.awaits != some a.pn }
  { s3 with hbm := { s3.hbm with journal := s3.hbm.journal.filter fun e => !(e.1 == p && e.2.2.2 < keep) } }

/-- Journal one old word (R147, R210). -/
def State.journalAdd (s : State) (p addr : Nat) (old : List Byte) (pn : Nat) : State :=
  let from? : Option Nat := if s.bit (Reg.PLT_STAKE_STAT p) 31 then some (s.rn64 (Reg.PLT_STAKE_PN_LO p)) else s.stakeFrom p
  match from? with
  | none => s
  | some f =>
    if pn < f then s
    else
      let used := (s.hbm.journal.filter fun e => e.1 == p && pcOf e.2.1 == pcOf addr).length
      let s1 := if used ≥ s.fld (Reg.PLT_STAKE_MEM p) 0 15 * mib2 / 32 then s.stakeOverflow p 0 else s
      if used ≥ s.fld (Reg.PLT_STAKE_MEM p) 0 15 * mib2 / 32 then s1
      else { s1 with hbm := { s1.hbm with journal := s1.hbm.journal ++ [(p, addr, old, pn)] } }

/-- The input log is full (R212): after records were added. -/
def State.logCheck (s : State) (p : Nat) : State :=
  let c := s.fld (Reg.PLT_STAKE_CFG p) 24 5
  if c ≠ 0 ∧ (s.plot p).cmt.log.length * Config.logRecordBytes > s.fld (Reg.PLT_STAKE_MEM p) 16 15 * mib2 then
    s.stakeOverflow p 1
  else s

/-- Drain one committed entry to DRAM (R147). A word that its read poisons is charged to the entry's pass, which has committed: a
POISON_HALT halts nothing by it (DESIGN CHOICE, log 81). -/
def State.drainEntry (s : State) (e : WqEntry) : State :=
  if e.data = [] then s
  else
    let slice := s.fld (Reg.PLT_HL_CFG e.plot) 8 6
    let s1 := if slice = 0 then s
      else
        let (_, s2) := s.hbmCheckRange e.addr e.data.length (some e.plot) e.pn
        s2.journalAdd e.plot e.addr (s2.hbmRead e.addr e.data.length) e.pn
    s1.hbmStore e.addr e.data

/-- Remove the first entry that satisfies a test. -/
def takeFirst {α : Type} (f : α → Bool) : List α → Option α × List α
  | [] => (none, [])
  | x :: xs => if f x then (some x, xs) else let (r, ys) := takeFirst f xs; (r, x :: ys)

/-- Steps before a refresh headland in which no drain starts (R140). -/
def State.drainGap (s : State) : Nat := if s.boot.grade20 then 96 else 82

/-- First step of a stage of the headland (R23). -/
def stageStep : Stage → Nat
  | .commit => 0
  | .latch => 2
  | .release => 2
  | .mark => 6
  | .apply => 10
  | .flush => 10
  | _ => 24

/-- The point at which a refresh headland of the plot may begin, step L + H of its pass, lies within the gap (R140; DEDUCED,
log 60). -/
def State.refreshNear (s : State) (p : Nat) : Bool :=
  let l := s.fld (Reg.PLT_PASS_CFG p) 16 11
  let h := 24 + s.fld (Reg.PLT_PASS_CFG p) 8 8
  s.bit (Reg.PLT_HL_CFG p) 31 && (match (s.plot p).tm.phase with
    | .stopped => false
    | .step st => decide (l + h ≤ st + s.drainGap)
    | .head g => decide (h ≤ stageStep g + s.drainGap))

/-- The last schedule steps of a pass, in which the controller of an owned PC starts no access but a scheduled one (R133). -/
def State.passEnds (s : State) (p : Nat) : Bool :=
  s.bit (Reg.PLT_HL_CFG p) 31 && (match (s.plot p).tm.phase with
    | .step st => decide (s.fld (Reg.PLT_PASS_CFG p) 16 11 ≤ st + s.drainGap)
    | _ => false)

/-- The controller starts no access on a PC but a scheduled one (R133). -/
def State.accessHeld (s : State) (pc : Nat) : Bool := match s.holder Res.pcs pc with
  | some p => s.passEnds p
  | none => false

/-- The controller holds off the drains of a PC (R140), and with a journal, whose writes are no scheduled accesses, those of R133
too. -/
def State.drainHeld (s : State) (pc : Nat) : Bool := match s.holder Res.pcs pc with
  | some p => s.refreshNear p || (s.fld (Reg.PLT_HL_CFG p) 8 6 != 0 && s.passEnds p)
  | none => false

/-- Drain the oldest committed entry of a PC. -/
def State.drainOne (s : State) (pc : Nat) : State :=
  match takeFirst (fun e => e.pc == pc && e.committed) s.hbm.wq with
  | (none, _) => s
  | (some e, rest) => ({ s with hbm := { s.hbm with wq := rest } }.drainEntry e).wqStat pc

/-- WRITE_QUEUE_DRAIN (R140, R147). -/
def execWriteQueueDrain (pc : Nat) (s : State) : Host.Outcome State Fault Refusal :=
  .next (if s.drainHeld pc then s else s.drainOne pc)

/-- Bytes written to DRAM and into the write-queue entries that stand over them: every read sees them. -/
def State.hbmPatch (s : State) (addr : Nat) (bs : List Byte) : State :=
  let put := fun (o : WqEntry) => if o.pc = pcOf addr then { o with data := overlay o.addr o.data ⟨o.pc, o.plot, addr, bs, o.pn, 0, 0, false, true⟩ } else o
  { s with hbm := { s.hbm with wq := s.hbm.wq.map put } }.hbmStore addr bs

/-- A host write to design memory of a launched plot that does not run takes effect at once (R148): it stands in the write
queue under pass n, behind what the plot has written, and a full queue drains a committed entry to make room. With 512
uncommitted entries it is written to DRAM and into the entries that hold its bytes (DESIGN CHOICE, log 63). -/
def State.hbmNow (s : State) (p n addr : Nat) (bs : List Byte) : State :=
  let pc := pcOf addr
  let s1 := if (s.wqOf pc).length < 512 then s else s.drainOne pc
  match s1.wqEnter ⟨pc, p, addr, bs, n, 0, 0, false, true⟩ with
  | (true, s2) => s2
  | (false, s2) => s2.hbmPatch addr bs

/-- What the host sees of design memory (R148): DRAM overlaid by committed entries, and while the plot does not run by what the
host has written to it. -/
def State.hostSees (s : State) (e : WqEntry) : Bool := e.committed || (e.host && !s.plotRuns e.plot)

/-- A running plot owns the PC (R33, R152). -/
def State.pcRuns (s : State) (pc : Nat) : Bool := match s.holder Res.pcs pc with
  | some p => s.plotRuns p
  | none => false

/-- AUTONOMOUS_REFRESH (R33): an all-bank refresh of a PC that no running plot owns. -/
def execAutonomousRefresh (pc : Nat) (s : State) : Host.Outcome State Fault Refusal :=
  .next <|
    if s.pcRuns pc || s.hbm.selfRefresh then s
    else { s with hbm := { s.hbm with refreshes := cset 0 s.hbm.refreshes pc (cget 0 s.hbm.refreshes pc + 1) } }

/-! ## Fill, remapping, BAR4 -/

/-- Every byte 0 with valid check bits (R153). -/
def State.hbmZero (s : State) : State :=
  { s with hbm := { s.hbm with mem := [], suspects := [] }, ecc := s.ecc.filter fun e => e.1 % 16 != Item.hbmWord }

/-- HBM_FILL_DONE (R153): the stacks have been trained and filled, or one has failed its training. Which of the two is a free
value (log 64). -/
def execHbmFillDone (s : State) : Host.Outcome State Fault Refusal :=
  .next <|
    if s.bit Reg.MEM_STAT 0 || s.hbm.failed then s
    else
      let f := s.takeFree 1
      let s1 := f.2.pllLock
      if f.1 = 1 then (State.setBit { s1 with hbm := { s1.hbm with failed := true } } Reg.MEM_STAT 1)
      else
        let s2 := (s1.setBit Reg.MEM_STAT 0).hbmZero
        let s3 := if s2.fld Reg.SOW_BOOT_STAT 28 4 = 0 then s2.put Reg.SOW_BOOT_STAT 28 4 1 else s2
        { s3 with gln := { s3.gln with last := cset 0 s3.gln.last 4 s3.ftNs } }

/-- HBM is ready for commands: 0, or BUSY during the fill, INTERNAL after a failed training (R153). -/
def State.hbmStatus (s : State) : Nat :=
  if s.hbm.failed then Status.internal else if s.bit Reg.MEM_STAT 0 then 0 else Status.busy

/-- What an opcode whose command touches HBM does with a command that a unit has taken (R153). -/
def State.onTakenHbm (s : State) (opc id : Nat) (f : Cmd → State) : State :=
  s.onTaken opc id fun c => if s.hbmStatus ≠ 0 then s.finish id s.hbmStatus 0 else f c

/-- The copy of a row into its spare row reads every word of it (R152): the spare row holds it corrected, poison included. -/
def State.remapCopy (s : State) (pc row : Nat) : State :=
  let addr := pc * 384 * mib2 + row * 1024
  if row < 786432 then (s.hbmCheckRange addr 1024 ((s.pageHolder (addr / mib2)).map (·.1)) 0).2 else s

/-- Switch a remap entry active (R152). -/
def State.remapActive (s : State) (pc k : Nat) : State :=
  if s.bit (Reg.MEM_PC_REMAP pc k) 31 && !s.bit (Reg.MEM_PC_REMAP pc k) 30 then
    ((s.remapCopy pc (s.fld (Reg.MEM_PC_REMAP pc k) 0 22)).setBit (Reg.MEM_PC_REMAP pc k) 30).raiseMem pc 7 0 (s.holder Res.pcs pc) 0
  else s

/-- The copied rows of a PC take effect at the first step of a refresh headland of its plot (R152). -/
def State.remapReady (s : State) (pc : Nat) : State :=
  ((s.hbm.ready.filter fun e => e.1 == pc).foldl (fun s e => s.remapActive pc e.2)
    { s with hbm := { s.hbm with ready := s.hbm.ready.filter fun e => e.1 != pc } })

/-- Copied rows on PCs of a plot that has stopped take effect at once (R152). -/
def State.remapStopped (s : State) : State :=
  (((s.hbm.ready.map (·.1)).filter fun pc => !s.pcRuns pc).dedup).foldl State.remapReady s

/-- REMAP_ACTIVATE (R152): the copy of a row is complete. The entry becomes active at once where no running plot owns the PC,
else at the next refresh headland. -/
def execRemapActivate (pc entry : Nat) (s : State) : Host.Outcome State Fault Refusal :=
  .next <|
    if s.pcRuns pc then { s with hbm := { s.hbm with ready := s.hbm.ready.filter (· != (pc, entry)) ++ [(pc, entry)] } }
    else (s.remapReady pc).remapActive pc entry

/-- REMAP_ADD (R152). -/
def execRemapAdd (id : Nat) (s : State) : Host.Outcome State Fault Refusal :=
  .next <| match s.taken 0x91 id with
  | none => s
  | some c =>
    let pc := nfld (c.dw 6) 0 6
    if s.hbmStatus ≠ 0 then s.finish id s.hbmStatus 0
    else match (natsFrom 0 32).find? fun k => !s.bit (Reg.MEM_PC_REMAP pc k) 31 with
      | none => s.finish id Status.noResource 0
      | some k =>
        (s.rnSet (Reg.MEM_PC_REMAP pc k) (2 ^ 31 + nfld (c.dw 7) 16 6 * 65536 + nfld (c.dw 7) 0 16)).finish id Status.ok k

/-- Bytes that a refused BAR4 read returns. -/
def allOnes (n : Nat) : List Byte := List.replicate n 0xff

/-- What an access to BAR4 answers: all ones for a read that is refused, nothing for a write. -/
def refusedData (len : Nat) (data : Option (List Byte)) : Option (List Byte) :=
  if data.isNone then some (allOnes len) else none

def State.outData (s : State) (d : Option (List Byte)) : State := { s with out := { s.out with data := d } }

/-- An access that its rights allow (R155): a write to a design page of a running plot is discarded and noted, and one to any
other page takes effect at once, over the write-queue entries that hold its bytes too (R148). A word that a read poisons is
charged to pass 0 (DESIGN CHOICE, log 81). -/
def State.bar4Do (s : State) (addr len : Nat) (data : Option (List Byte)) (holder : Option (Nat × Nat)) : State :=
  let plot := holder.map (·.1)
  let runs := match holder with
    | some (p, use) => s.plotRuns p && use == 1
    | none => false
  match data with
  | some bs =>
    if runs then (s.outData none).raiseMem (pcOf addr) 8 (pcOffset addr) plot 0
    else (s.outData none).hbmPatch addr (bs.take len)
  | none =>
    let s1 := (s.hbmCheckRange addr len plot 0).2
    s1.outData (some (s1.hbmSeen addr len s1.hostSees))

/-- A function may reach a page through BAR4: its own plots' pages, and PF0 also those of no plot but firmware's (R155). -/
def State.bar4Mine (s : State) (fn page : Nat) : Bool :=
  match s.pageHolder page with
  | some (p, _) => fn == 0 || (s.plot p).id.owner == fn
  | none => fn == 0 && !(Config.firmwarePage page)

/-- An access to BAR4 by a function whose link is up: refused before RUNNING (R324), beyond its pages, and across the end of a
2 MiB page as a whole (DESIGN CHOICE, log 65); during the fill a read gives all ones and a write does nothing (R153). -/
def State.bar4 (s : State) (fn offset len : Nat) (data : Option (List Byte)) : State :=
  let page := s.fld (Reg.MEM_WIN_BASE fn) 0 15 + offset / mib2
  if s.running && !s.bit Reg.MEM_STAT 0 then s.outData (refusedData len data)
  else if !s.running || page ≥ 24576 || !(s.bar4Mine fn page) || offset % mib2 + len > mib2 then
    (s.setBit Reg.MEM_STAT 2).outData (refusedData len data)
  else
    let addr := page * mib2 + offset % mib2
    let bs := (data.getD []).take len
    let owner := (s.pageHolder page).map (·.1)
    let r := s.packet (s.hostFlit false (pcOf addr) (b2n data.isSome) bs.length owner addr).word bs owner
    if r.1 then r.2.outData (refusedData len data)
    else
      let s1 := r.2.bar4Do addr len data (s.pageHolder page)
      s1.respond false (pcOf addr) s1.out.data

/-- BAR4_ACCESS (R155, R153, R324): a read returns its bytes in out.data; data gives the bytes of a write. -/
def execBar4Access (fn offset len : Nat) (data : Option (List Byte)) (s : State) : Host.Outcome State Fault Refusal :=
  if 2 ^ 32 ≤ offset ∨ 2 ^ 32 < offset + len then .fault .outsideBar
  else .next (if s.hostDown fn then s.outData none else s.bar4 fn offset len data)

end Sys2Proof.Machine
end

