-- ==== Sys2Proof/Machine/Exchange.lean ====
section
/-! DEFINITION. The exchange table and its SECDED, export sampling, relays, import presentation and the retention buffers
(06_exchange.md R158, R165-R176). -/

namespace Sys2Proof.Machine
open Sys2Proof

/-! ## XT entries (R166) -/

/-- Position codes: the integers from 3 upward that are not powers of two, 56 of them. -/
def xtCodes : List Nat := ((natsFrom 3 60).filter fun n => ¬ [4, 8, 16, 32].contains n).take 56

/-- Check bit i of 56 data bits. -/
def xtCheck (d i : Nat) : Nat :=
  (xtCodes.zip (natsFrom 0 56)).foldl (fun a e => if e.1.testBit i && d.testBit e.2 then 1 - a else a) 0

/-- Exclusive or of the bits [62:0]. -/
def parityOf (n bits : Nat) : Nat := (natsFrom 0 bits).foldl (fun a i => if n.testBit i then 1 - a else a) 0

/-- An entry with its check bits (R166). -/
def xtEncode (data : Nat) : BitVec 64 :=
  let d := data % 2 ^ 56
  let low := (natsFrom 0 6).foldl (fun a i => a + xtCheck d i * 2 ^ (56 + i)) d
  BitVec.ofNat 64 (low + parityOf low 62 * 2 ^ 62)

/-- What the decoder finds. -/
inductive XtRead where
  | ok (data : Nat)
  | corrected (data : Nat)
  | lost
deriving DecidableEq, Repr

/-- Decode an entry (R166). A parity error with a syndrome that no single error gives, 63, leaves the data as they stand
(DESIGN CHOICE, log 68). -/
def xtDecode (w : BitVec 64) : XtRead :=
  let n := w.toNat
  let d := n % 2 ^ 56
  let syn := (natsFrom 0 6).foldl (fun a i => a + ((xtCheck d i + nfld n (56 + i) 1) % 2) * 2 ^ i) 0
  let par := parityOf n 63
  if par = 1 then
    match (xtCodes.zip (natsFrom 0 56)).find? fun e => e.1 == syn with
    | some e => .corrected (d ^^^ 2 ^ e.2)
    | none => .corrected d
  else if syn = 0 then .ok d
  else .lost

/-- The fields of an entry (R166). -/
structure XtEntry where
  valid : Bool
  kind : Nat
  plot : Nat
  fidx : Nat
  sofs : Nat
  grp : Nat
  port : Nat
  lane : Nat
  acre : Nat
  xgrp : Nat
  rport : Nat
  rlane : Nat
  rsvd : Nat
deriving DecidableEq, Repr

def xtFields (n : Nat) : XtEntry :=
  { valid := n.testBit 55, kind := nfld n 53 2, plot := nfld n 49 4, fidx := nfld n 44 5, sofs := nfld n 39 5,
    grp := nfld n 33 6, port := nfld n 29 4, lane := nfld n 26 3, acre := nfld n 24 2, xgrp := nfld n 18 6,
    rport := nfld n 14 4, rlane := nfld n 11 3, rsvd := nfld n 0 11 }

/-! ## Regions (R173) -/

/-- First entry and number of entries of a half of a plot's region. -/
def State.xtHalf (s : State) (p half : Nat) : Nat × Nat :=
  let size := s.fld (Reg.XCH_RGN_CFG p) 0 11 * 1024
  (s.fld (Reg.XCH_RGN_CFG p) 16 11 * 1024 + half * size, size)

/-- Active half. -/
def State.xtActive (s : State) (p : Nat) : Nat := s.fld (Reg.XCH_RGN_STAT p) 0 1

/-- Write one entry with its check bits, and its copy in HBM (R166, R172). -/
def State.xtWrite (s : State) (e data : Nat) : State :=
  { s with xch := { s.xch with xt := cset 0 s.xch.xt e (xtEncode data), xtCopy := cset 0 s.xch.xtCopy e (xtEncode data) } }

/-- The valid entries of a plot's active half, with their index, as the index built at load associates them with slots
(R172). A frame that arrives after a swap meets the half that is active then (DESIGN CHOICE, log 69). -/
def State.xtEntries (s : State) (p : Nat) : List (Nat × XtEntry) :=
  let (lo, n) := s.xtHalf p (s.xtActive p)
  (s.xch.xtCopy.filter fun e => lo ≤ e.1 && e.1 < lo + n).filterMap fun e =>
    let x := xtFields e.2.toNat
    if x.valid then some (e.1, x) else none

/-- An access to an entry meets the injections armed for it, at the exchange and at the Gleaner (R471). -/
def State.xtInject (s : State) (p e : Nat) : State :=
  (s.glnTouch (some p) fun kind i => kind == Item.xt && i == e).injectAt Reg.XCH_FI_CTRL (fun a => a == 2 ^ 31 + e)
    (fun bits s => s.xtFlip e bits)
    (fun cause _ s =>
      let pn := (s.plot p).tm.pn
      let s1 := s.raiseXt cause e (some p) pn
      match cause with
      | 0 => (s1.count (Reg.XCH_CNT 6)).bucket 4 Reg.XCH_CE_BUCKET
      | 1 => s1.passError p pn Block.xch 1 (2 ^ 31 + e) e
      | _ => s1)

/-- An entry is used (R172): false when it is uncorrectable, which is a pass error. -/
def State.xtUse (s0 : State) (p e : Nat) : Bool × State :=
  let s := s0.xtInject p e
  match xtDecode (cget 0 s.xch.xt e) with
  | .ok _ => (true, s)
  | .corrected _ => (true, ((s.raiseXt 0 e (some p) (s.plot p).tm.pn).count (Reg.XCH_CNT 6)).bucket 4 Reg.XCH_CE_BUCKET)
  | .lost =>
    let pn := (s.plot p).tm.pn
    (false, (s.raiseXt 1 e (some p) pn).passError p pn Block.xch 1 (2 ^ 31 + e) e)

/-! ## Timing (R158, R168-R170) -/

/-- Frames of a pass, NF (R158). -/
def State.nf (s : State) (p : Nat) : Nat := (s.passLen p - 4 + 31) / 32

/-- Slot start of DATA frame f. -/
def slotStart (f : Nat) : Nat := 32 * f + 31

def State.alat (s : State) (q : Nat) : Nat := s.fld (Reg.LNK_ALAT q) 0 10

/-- Send step of a send entry (R166). -/
def XtEntry.sendStep (x : XtEntry) : Nat := 32 * x.fidx + x.sofs

/-- Passes later and step of presentation of a receive (R169). -/
def State.recvAt (s : State) (p : Nat) (x : XtEntry) : Nat × Nat :=
  let n := slotStart x.fidx + s.alat x.port - 4
  (n / s.passLen p, n % s.passLen p)

/-- Passes later and send step of a relay (R170). -/
def State.relayAt (s : State) (p : Nat) (x : XtEntry) : Nat × Nat :=
  let n := slotStart x.fidx + s.alat x.port + 4
  (n / s.passLen p, n % s.passLen p)

/-! ## Sampling and relaying within a step -/

/-- Key of a group of an outgoing frame: port, logical lane, frame, group. -/
def txKey (port lane fidx grp : Nat) : Nat := ((port * 8 + lane) * 32 + fidx) * 48 + grp

def State.txGroupSet (s : State) (port lane fidx grp : Nat) (v : BitVec 16) : State :=
  { s with xch := { s.xch with txGroups := cset 0x5555 s.xch.txGroups (txKey port lane fidx grp) v } }

/-- Export groups sampled at step st: those of send step st - 4 (R168). -/
def State.exportSample (s : State) (p st : Nat) : State :=
  (s.xtEntries p).foldl (fun s e =>
    let x := e.2
    if x.kind = 0 ∧ x.sendStep + 4 = st then
      let (ok, s1) := s.xtUse p e.1
      s1.txGroupSet x.port x.lane x.fidx x.grp (if ok then s1.exportGroup p x.acre x.xgrp x.sendStep else 0x5555)
    else s) s

/-- Relays sent at the plot's present step (R170). -/
def State.relaySend (s : State) (p st : Nat) : State :=
  let pn := (s.plot p).tm.pn
  let due := fun (h : GroupHeld) => h.plot == p && h.relay && h.pn == pn && h.step == st && !h.done
  let s1 := (s.xch.held.filter due).foldl
    (fun s h => s.txGroupSet h.dst (h.grp / 48) (st / 32) (h.grp % 48) h.data) s
  { s1 with xch := { s1.xch with held := s1.xch.held.map fun h => if due h then { h with done := true } else h } }

/-- Import groups presented at the plot's present step (R169). -/
def State.importPresent (s : State) (p : Nat) : State :=
  match (s.plot p).tm.phase with
  | .step st =>
    let pn := (s.plot p).tm.pn
    let due := fun (h : GroupHeld) => h.plot == p && !h.relay && h.pn == pn && h.step == st && !h.done
    let s1 := (s.xch.held.filter due).foldl (fun s h =>
      { s with sw := { s.sw with pres := cset 0x5555 s.sw.pres (presKey p h.dst h.grp st) h.data } }) s
    { s1 with xch := { s1.xch with held := s1.xch.held.map fun h => if due h then { h with done := true } else h } }
  | _ => s

/-- IMPORT_PRESENTATION (R169). -/
def execImportPresentation (p : Nat) (s : State) : Host.Outcome State Fault Refusal := .next (s.importPresent p)

/-- The groups of an arriving DATA frame, or X for each when it is lost (R163, R169-R171). `groups` gives the payload. -/
def State.takeGroups (s : State) (p port lane fidx sentPn : Nat) (groups : Option (List (BitVec 16))) : State :=
  (s.xtEntries p).foldl (fun s e =>
    let x := e.2
    if (x.kind = 1 ∨ x.kind = 2) ∧ x.port = port ∧ x.lane = lane ∧ x.fidx = fidx then
      let (ok, s1) := s.xtUse p e.1
      let data : BitVec 16 := match groups with
        | some gs => if ok then nth 0x5555 gs x.grp else 0x5555
        | none => 0x5555
      let (j, st) := if x.kind = 1 then s1.recvAt p x else s1.relayAt p x
      let h : GroupHeld := { plot := p, relay := x.kind == 2, dst := if x.kind = 1 then x.acre else x.rport,
                             grp := if x.kind = 1 then x.xgrp else 48 * x.rlane + x.xgrp, pn := sentPn + j, step := st,
                             sentPn := sentPn, carried := j != 0, data := data, port := port, done := false }
      { s1 with xch := { s1.xch with held := s1.xch.held ++ [h] } }
    else s) s

/-- The lane has a receive or relay entry for a frame (R163). -/
def State.frameWanted (s : State) (p port lane fidx : Nat) : Bool :=
  (s.xtEntries p).any fun e => (e.2.kind == 1 || e.2.kind == 2) && e.2.port == port && e.2.lane == lane && e.2.fidx == fidx

/-- The groups that the lane's send and relay entries claim in frame f (R162). -/
def State.frameClaims (s : State) (p port lane fidx : Nat) : List Nat :=
  (s.xtEntries p).filterMap fun e =>
    let x := e.2
    if x.kind = 0 ∧ x.port = port ∧ x.lane = lane ∧ x.fidx = fidx then some x.grp
    else if x.kind = 2 ∧ x.rport = port ∧ x.rlane = lane ∧ (s.relayAt p x).2 / 32 = fidx then some x.xgrp
    else none

/-- Groups consumed by a committed pass leave the retention buffers (R171). -/
def State.heldCommit (s : State) (p pn : Nat) : State :=
  { s with xch := { s.xch with held := s.xch.held.filter fun h => !(h.plot == p && h.pn ≤ pn) } }

/-- A failed decision discards the groups of pass k and later, and re-arms carried ones (R171). -/
def State.heldDiscard (s : State) (p k : Nat) : State :=
  let rearm := fun (h : GroupHeld) => if h.plot == p && decide (k ≤ h.pn) then { h with done := false } else h
  let kept := s.xch.held.filter fun h => !(h.plot == p && k ≤ h.sentPn)
  { s with xch := { s.xch with held := kept.map rearm } }

end Sys2Proof.Machine
end

