-- ==== Sys2Proof/Machine/FieldTime.lean ====
section
/-! DEFINITION. Field Time: stamps, the sync exchange, choice of grandmaster and parent, the servo, PPS, TIME_STEP and
TIME_CONFIG (10_field_time.md). Times with a fraction are integers in units of 2^-32 ns. -/

namespace Sys2Proof.Machine
open Sys2Proof

/-! ## Stamps -/

/-- FT with its fraction (R273). -/
def State.ftNow (s : State) : Int := (s.ft.ft : Int)

/-- Picoseconds in units of 2^-32 ns. -/
def psUnits (ps : Int) : Int := ps * 2 ^ 32 / 1000

/-- Whole picoseconds of a time, toward 0. -/
def unitsPs (t : Int) : Int := Int.tdiv (t * 1000) (2 ^ 32)

/-- TX stamp of a frame sent now on a physical lane (R276). -/
def State.txStamp (s : State) (q i : Nat) : Int := s.ftNow + psUnits (signedOf (s.rn (Reg.LNK_TX_CORR q i)) 16)

/-- RX stamp of a frame received now on a physical lane (R276). -/
def State.rxStamp (s : State) (q i : Nat) : Int := s.ftNow - psUnits (signedOf (s.rn (Reg.LNK_RX_CORR q i)) 16)

def State.sync (s : State) (q : Nat) : SyncPort := cget {} s.ft.ports q

def State.onSync (s : State) (q : Nat) (f : SyncPort → SyncPort) : State :=
  { s with ft := { s.ft with ports := cset {} s.ft.ports q (f (s.sync q)) } }

/-- SYNC_INT in ns (R292). -/
def State.syncInt (s : State) : Nat := 1000 * max 1 (s.fld Reg.FT_CFG 12 8)

/-- FT_STAT.STATE (R280). -/
def State.ftState (s : State) : Nat := s.fld Reg.FT_STAT 28 4

def State.ftStateSet (s : State) (v : Nat) : State := s.put Reg.FT_STAT 28 4 v

/-! ## Grandmaster and parent -/

/-- A candidate of R279: GMPRIO, GMID, HOPS announced, port (16 for the device itself). -/
abbrev Candidate := Nat × Nat × Nat × Nat

/-- The order of R279: lowest (GMPRIO, GMID), the device itself before a port, then lowest HOPS, then lowest port. -/
def candBefore (a b : Candidate) : Bool :=
  let key := fun (c : Candidate) => ((c.1 * 2 ^ 18 + c.2.1) * 2 + b2n (c.2.2.2 != 16)) * 2 ^ 13 + c.2.2.1 * 2 ^ 5 + c.2.2.2
  key a < key b

/-- The candidates of R279: the device itself, and announcements of the last 4 * SYNC_INT on UP ports. -/
def State.candidates (s : State) : List Candidate :=
  let own : List Candidate := if s.fld Reg.FT_CFG 24 8 < 255 then [(s.fld Reg.FT_CFG 24 8, s.devId, 0, 16)] else []
  own ++ s.upPorts.filterMap fun q =>
    match (s.sync q).ann with
    | some (prio, id, hops, at_) =>
      if hops < 255 ∧ (s.ftNs : Int) < at_ + 4 * s.syncInt then some (prio, id, hops, q) else none
    | none => none

def State.isGm (s : State) : Bool := s.fld Reg.FT_STAT 8 8 = 0 && !s.bit Reg.FT_STAT 23

/-- A grandmaster and parent are chosen: GMID and port, 16 for the device itself. A change of either from the last choice
sets GM_CHANGE and is recorded, a change of GMPRIO alone is none (R283). -/
def State.choose (s : State) (gmid q : Nat) : State :=
  let s1 := { s with ft := { s.ft with chosen := some (gmid, q) } }
  if s.ft.chosen = none ∨ s.ft.chosen = some (gmid, q) then s1
  else (s1.condition Block.ft Reg.FT_STAT 19).record 0x10 1 none 0 [2, 0]

/-- Counting toward LOCKED starts again (R280, R282). -/
def State.recount (s : State) : State := { s with ft := { s.ft with lockCnt := 0, unlockCnt := 0, refused := 0 } }

/-- A grandmaster is LOCKED while PPS_IN does not discipline it, and starts in ACQUIRE when it does (R280, R288). -/
def State.discipline (s : State) : State :=
  if s.bit Reg.FT_CFG 11 = false then { s with ft := { s.ft with disciplined := false } }.ftStateSet 2
  else if s.ft.disciplined then s
  else ({ s with ft := { s.ft with disciplined := true, lastPps := s.ftNs } }.recount).ftStateSet 1

/-- No candidate (R279, R280): FREE_RUN with ADJ = 0, while HOLDOVER after the loss of a parent stays (R284); that of a
grandmaster without PPS_IN (R288) does not. -/
def State.noGm (s : State) : State :=
  let s1 := (s.put Reg.FT_STAT 8 8 255).clrBit Reg.FT_STAT 23
  let s2 := { s1 with ft := { s1.ft with disciplined := false } }
  if s2.ftState = 3 ∧ s.isGm = false then s2 else { s2 with ft := { s2.ft with phaseEnd := none } }.ftStateSet 0 |>.rnSet Reg.FT_ADJ 0

/-- The device selects itself (R279, R280). -/
def State.selfGm (s : State) (gm : Nat) : State :=
  let s1 := if s.isGm then s
    else
      let s2 := { s with ft := { s.ft with disciplined := false } }
      ((s2.choose (gm % 2 ^ 24) 16).put Reg.FT_STAT 8 8 0).clrBit Reg.FT_STAT 23
  (s1.rnSet Reg.FT_GM gm).discipline

/-- A parent port is selected, on which the grandmaster is announced `hops` hops away (R279, R283). Samples pass whatever their
delay after a change of the port, not after one of the grandmaster alone (R278). -/
def State.takeParent (s : State) (gm hops q : Nat) : State :=
  let same := s.bit Reg.FT_STAT 23 && s.fld Reg.FT_STAT 24 4 == q && s.fld Reg.FT_GM 0 18 == gm % 2 ^ 24
  let s1 := if same then s
    else
      let s2 := (((s.choose (gm % 2 ^ 24) q).put Reg.FT_STAT 24 4 q).setBit Reg.FT_STAT 23).ftStateSet 1
      let since := if s.ft.chosen.map (·.2) = some q then s.ft.sinceParent else 0
      { s2 with ft := { s2.ft with sinceParent := since, disciplined := false } }.recount
  (s1.rnSet Reg.FT_GM gm).put Reg.FT_STAT 8 8 (min 254 (hops + 1))

/-- Choose grandmaster and parent (R279). -/
def State.chooseGm (s : State) : State :=
  match s.candidates with
  | [] => s.noGm
  | c :: cs =>
    let b := cs.foldl (fun a x => if candBefore x a then x else a) c
    let gm := b.1 * 2 ^ 24 + b.2.1 % 2 ^ 18
    if b.2.2.2 = 16 then s.selfGm gm else s.takeParent gm b.2.2.1 b.2.2.2

/-- The parent is lost (R284). -/
def State.parentLost (s : State) : State :=
  let q := s.fld Reg.FT_STAT 24 4
  let s1 := ((s.condition Block.ft Reg.FT_STAT 20).clrBit Reg.FT_STAT 23).onSync q fun x => { x with ann := none }
  ((s1.phaseEnds.ftStateSet 3).put Reg.FT_STAT 8 8 255).chooseGm

/-- No sync packet has come from the parent for 4 * SYNC_INT, or its port has left UP (R284). -/
def State.parentSilent (s : State) : Bool :=
  let q := s.fld Reg.FT_STAT 24 4
  s.bit Reg.FT_STAT 23 && (!(s.portUp q) || match (s.sync q).ann with
    | some (_, _, _, at_) => decide (at_ + 4 * s.syncInt ≤ (s.ftNs : Int))
    | none => true)

/-- The selection that runs all the time (R279, R284): a silent parent is lost first. -/
def State.selectGm (s : State) : State := if s.parentSilent then s.parentLost else s.chooseGm

/-! ## The servo -/

/-- The announcement and the last sync packet of a port, FT stepped by d ns since (R277, R284). -/
def SyncPort.shift (x : SyncPort) (d : Int) : SyncPort :=
  { x with ann := x.ann.map fun a => (a.1, a.2.1, a.2.2.1, a.2.2.2 + d), sent := x.sent + d }

def shiftPorts (m : Cells SyncPort) (d : Int) (qs : List Nat) : Cells SyncPort :=
  qs.foldl (fun m q => cset {} m q ((cget {} m q).shift d)) m

/-- A step of FT by d ns: an interval of FT that is running keeps its length, and a step back lets the edges of PPS_OUT that
lie ahead again come again (R275, R277, R284, R288, R289). -/
def FtSt.shift (x : FtSt) (d : Int) : FtSt :=
  { x with
    ports := shiftPorts x.ports d (natsFrom 0 16), lastPps := x.lastPps + d, ppsRose := x.ppsRose + d, phaseEnd := x.phaseEnd.map (· + d),
    ppsDone := if d < 0 then 0 else x.ppsDone }

def State.shiftFt (s : State) (d : Int) : State := { s with ft := s.ft.shift d }

/-- Give FT a value, with its FT_STEP record (R274): kind 0 first lock, 1 TIME_STEP. -/
def State.ftStep (s : State) (v : Int) (kind : Nat) : State :=
  let old := s.ftNs
  let s1 := { s with ft := { s.ft with ft := v.toNat } }
  let new := s1.ftNs
  (s1.shiftFt ((new : Int) - old)).record 0x0f 2 none 0 [old, old / 2 ^ 32, new, new / 2 ^ 32, kind]

/-- Counting toward LOCKED and back to ACQUIRE (R280). -/
def State.lockCount (s : State) (o : Int) : State :=
  let inside := decide (o.natAbs ≤ 2 * 2 ^ 32)
  let outside := decide (o.natAbs > 20 * 2 ^ 32)
  let lc := if inside then s.ft.lockCnt + 1 else 0
  let uc := if outside then s.ft.unlockCnt + 1 else 0
  let s1 := { s with ft := { s.ft with lockCnt := min 16 lc, unlockCnt := min 4 uc, refused := 0 } }
  if s1.ftState = 2 ∧ uc ≥ 4 then
    let s2 := s1.ftStateSet 1
    { s2 with ft := { s2.ft with lockCnt := 0 } }
  else if s1.ftState = 2 then s1
  else if lc ≥ 16 then s1.ftStateSet 2 else s1.ftStateSet 1

/-- An accepted sample's offset, and its delay when it has one (R278, R292). -/
def State.keepSample (s : State) (o : Int) (d : Option Int) : State :=
  let s1 := s.rgSet Reg.FT_OFFSET (BitVec.ofInt 32 (unitsPs o))
  match d with
  | some d =>
    let s2 := s1.rgSet Reg.FT_DELAY (BitVec.ofInt 32 (unitsPs d))
    { s2 with ft := { s2.ft with delays := (d :: s2.ft.delays).take 16 } }
  | none => s1

/-- The first sample after the reset or a loss steps FT (R281). -/
def State.servoFirst (s : State) (o : Int) (d : Option Int) : State :=
  let s1 := (s.keepSample o d).ftStep (s.ftNow - o) 0
  { s1 with ft := { s1.ft with f := 0, first := true } }.lockCount o

/-- A sample beyond FT_JUMP_LIMIT is refused (R282). -/
def State.servoRefuse (s : State) (o : Int) : State :=
  let s1 := ((s.condition Block.ft Reg.FT_STAT 22).count Reg.FT_JUMP_CNT).record 0x10 1 none 0
    [1, (BitVec.ofInt 32 (unitsPs o)).toNat]
  let n := s.ft.refused + 1
  let s2 := { s1 with ft := { s1.ft with refused := min 16 n, lockCnt := 0 } }
  if n ≥ 16 then s2.ftStateSet 1 else s2

/-- The new ADJ of an applied sample: the frequency term, and the phase term for one interval (R281). -/
def State.servoApply (s : State) (o : Int) (t : Nat) (d : Option Int) : State :=
  let tc := min 8 (s.fld Reg.FT_CFG 20 4)
  let f := s.ft.f - Int.tdiv (o * 2 ^ 8) (t * 2 ^ (2 * tc) : Nat)
  let want := f - Int.tdiv (o * 2 ^ 8) (t * 2 ^ tc : Nat)
  let s1 := { s with ft := { s.ft with f := f, phaseEnd := some ((s.ftNs : Int) + t) } }
  ((s1.keepSample o d).setAdj want).lockCount o

/-- A sample that passed the filter of R278: step at first lock, refusal, or a new ADJ (R281, R282). t is the interval in
ns; d the delay of a sync sample. -/
def State.servo (s : State) (o : Int) (t : Nat) (d : Option Int) : State :=
  if s.ft.first = false then s.servoFirst o d
  else if o.natAbs > s.fld Reg.FT_JUMP_LIMIT 0 20 * 2 ^ 32 then s.servoRefuse o
  else s.servoApply o t d

/-- The mean of the accepted delays (R278). -/
def meanDelay (ds : List Int) : Int := ds.sum / (ds.length : Int)

/-- The filter of R278: the first 16 samples after a change of parent pass; later ones within 8 ns of the mean. -/
def State.syncSample (s : State) (o d : Int) : State :=
  let s1 := { s with ft := { s.ft with sinceParent := min 16 (s.ft.sinceParent + 1) } }
  if s.ft.sinceParent ≥ 16 ∧ s.ft.delays ≠ [] ∧ (d - meanDelay s.ft.delays).natAbs > 8 * 2 ^ 32 then
    s1.count Reg.FT_OUTLIER_CNT
  else s1.servo o s.syncInt (some d)

/-! ## The sync exchange -/

/-- A 96-bit stamp as three dwords: ns low, ns high, fraction (R277). -/
def stampWords (t : Int) : List Nat :=
  let n := (t % 2 ^ 96).toNat
  [n / 2 ^ 32, n / 2 ^ 64, n]

/-- The stamp in three dwords from dword i on. -/
def stampAt (ws : List Word) (i : Nat) : Int := (word64 ws i * 2 ^ 32 + wordAt ws (i + 2) : Nat)

/-- A packet's sequence and stamp among those held, newest first. -/
def stampOf (l : List (Nat × Int)) (seq : Nat) : Option Int := (l.find? fun e => e.1 == seq).map (·.2)

/-- Stamps held for one port and direction: the newest 16. -/
def holdStamp (l : List (Nat × Int)) (seq : Nat) (t : Int) : List (Nat × Int) := ((seq, t) :: l).take 16

/-- A time sync packet (R277, R278): parent selection from its announcement, and one sample when its stamps complete a
round with the parent. -/
def State.timeSync (s : State) (q i : Nat) (ws : List Word) : State :=
  if !s.portUp q then s
  else
    let x := s.sync q
    let sseq := wordAt ws 8 / 65536
    let pseq := wordAt ws 13 / 65536
    let rseq := wordAt ws 17 / 65536
    let valid2 := (wordAt ws 17).testBit 0
    let t2 := stampOf x.rx pseq
    let t3 := stampOf x.tx rseq
    let s1 := s.onSync q fun x =>
      { x with ann := some (wordAt ws 8 % 256, wordAt ws 9 / 2 ^ 14, nfld (wordAt ws 8) 8 8, s.ftNs),
               rx := holdStamp x.rx sseq (s.rxStamp q i) }
    let s2 := s1.selectGm
    if t2 = none ∨ (valid2 = true ∧ t3 = none) then s2.count Reg.FT_OUTLIER_CNT
    else if s2.bit Reg.FT_STAT 23 = false ∨ s2.fld Reg.FT_STAT 24 4 ≠ q ∨ valid2 = false then s2
    else match t2, t3 with
      | some t2, some t3 =>
        let a := t2 - stampAt ws 10
        let b := stampAt ws 14 - t3
        s2.syncSample ((a - b) / 2) ((a + b) / 2)
      | _, _ => s2

/-- TIME_SYNC (R278). -/
def execTimeSync (port lane : Nat) (words : List Word) (s : State) : Host.Outcome State Fault Refusal :=
  .next (s.timeSync port lane words)

/-- TIME_SYNC_SEND (R277): on an UP port, when SYNC_INT has passed. -/
def execTimeSyncSend (port : Nat) (s : State) : Host.Outcome State Fault Refusal :=
  .next <|
    if s.portUp port = false ∨ s.running = false then s
    else
      let s0 := s.waitUntil ((s.sync port).sent + s.syncInt).toNat
      let x := s0.sync port
      let gm := s0.fld Reg.FT_STAT 8 8 ≠ 255
      let prev := x.tx.head?
      let got := x.rx.head?
      let body := [x.sseq * 65536 + s0.fld Reg.FT_STAT 8 8 * 256 +
          (if gm then (if s0.isGm then s0.fld Reg.FT_CFG 24 8 else s0.fld Reg.FT_GM 24 8) else 255),
          (if gm then s0.fld Reg.FT_GM 0 18 else 0) * 2 ^ 14 + s0.ftState] ++
        (match prev with
          | some (_, t) => stampWords t
          | none => [0, 0, 0]) ++
        [(prev.map (·.1)).getD 0 * 65536] ++
        (match got with
          | some (_, t) => stampWords t
          | none => [0, 0, 0]) ++
        [(got.map (·.1)).getD 0 * 65536 + b2n got.isSome]
      (s0.sendNbr port 1 0 body).onSync port fun x => { x with sseq := (x.sseq + 1) % 65536, sent := s0.ftNs }

/-- PARENT_LOST (R284): no sync packet from the parent for 4 * SYNC_INT. -/
def execParentLost (s : State) : Host.Outcome State Fault Refusal :=
  .next <|
    if s.bit Reg.FT_STAT 23 = false then s
    else match (s.sync (s.fld Reg.FT_STAT 24 4)).ann with
      | some (_, _, _, at_) => (s.waitUntil (at_ + 4 * s.syncInt).toNat).parentLost
      | none => s.parentLost

/-! ## PPS -/

/-- PPS_IN_EDGE (R288). -/
def execPpsInEdge (s : State) : Host.Outcome State Fault Refusal :=
  .next <|
    let ns := s.ftNs
    let s1 := (s.rnSet64 Reg.FT_PPS_STAMP_LO ns).record 0x10 1 none 0 [0, 0]
    let s2 := { s1 with ft := { s1.ft with lastPps := ns } }
    if s.bit Reg.FT_CFG 11 && s.isGm then
      let o0 := ((ns : Int) - (s.rg Reg.FT_PPS_OFS).toInt) % 10 ^ 9
      let o := if o0 > 5 * 10 ^ 8 then o0 - 10 ^ 9 else o0
      s2.servo (o * 2 ^ 32) (10 ^ 9) none
    else s2

/-- PPS_MISS (R288): no edge for 1.5 s on a disciplined grandmaster. -/
def execPpsMiss (s : State) : Host.Outcome State Fault Refusal :=
  .next <|
    if s.bit Reg.FT_CFG 11 && s.isGm then
      let s0 := s.waitUntil (s.ft.lastPps + 1500000000).toNat
      (s0.condition Block.ft Reg.FT_STAT 18).phaseEnds.ftStateSet 3
    else s

/-- PPS_OUT is low while it is not enabled (R289). -/
def State.ppsGate (s : State) : State :=
  if s.bit Reg.FT_CFG 10 then s else { s with ft := { s.ft with ppsOut := false } }

/-- PPS_OUT_EDGE (R289): PPS_OUT rises at the next instant of FT ns mod 10^9 = OFS, or falls WIDTH µs after it rose. -/
def execPpsOutEdge (s : State) : Host.Outcome State Fault Refusal :=
  .next <|
    let ofs := s.fld Reg.FT_PPS_OUT_OFS 0 30
    if s.bit Reg.FT_CFG 10 = false then s.ppsGate
    else if s.ft.ppsOut then
      let s1 := s.waitUntil (s.ft.ppsRose + (1000 * max 1 (s.fld Reg.FT_PPS_OUT 24 8) : Nat)).toNat
      { s1 with ft := { s1.ft with ppsOut := false } }
    else if ofs ≥ 10 ^ 9 then s
    else
      let at_ := (max s.ftNs s.ft.ppsDone + (10 ^ 9 - 1 - ofs)) / 10 ^ 9 * 10 ^ 9 + ofs
      let s1 := s.waitUntil at_
      { s1 with ft := { s1.ft with ppsOut := true, ppsDone := at_ + 1, ppsRose := at_ } }

/-! ## Commands -/

/-- TIME_CONFIG (R285). -/
def execTimeConfig (id : Nat) (s : State) : Host.Outcome State Fault Refusal :=
  .next <| match s.taken 0x80 id with
  | none => s
  | some c =>
    let fields : List (Nat × Nat × Nat × Nat × Nat) :=
      [(0, 7, Reg.FT_CFG, 10, 22), (1, 8, Reg.FT_JUMP_LIMIT, 0, 20), (2, 9, Reg.FT_PPS_OFS, 0, 32),
       (3, 10, Reg.FT_PPS_OUT, 24, 8), (4, 11, Reg.FT_PPS_OUT_OFS, 0, 30)]
    let picked := fields.filter fun f => (c.dw 6).testBit f.1
    let changes := picked.any fun f =>
      f.1 != 1 && nfld (c.dw f.2.1) f.2.2.2.1 f.2.2.2.2 != s.fld f.2.2.1 f.2.2.2.1 f.2.2.2.2
    if s.anyReleased && changes then s.finish id Status.busy 0
    else
      let s1 := picked.foldl (fun s f => s.put f.2.2.1 f.2.2.2.1 f.2.2.2.2 (nfld (c.dw f.2.1) f.2.2.2.1 f.2.2.2.2)) s
      s1.ppsGate.selectGm.finish id Status.ok 0

/-- The new FT of TIME_STEP, set or added to, in units of 2^-32 ns (R285). -/
def State.stepTarget (s : State) (add : Bool) (ns frac : Nat) : Int :=
  if add then s.ftNow + signedOf ns 64 * 2 ^ 32 + frac else Int.ofNat (ns * 2 ^ 32 + frac)

/-- The refusal count of R282 starts again. -/
def State.noRefusals (s : State) : State := { s with ft := { s.ft with refused := 0 } }

/-- TIME_STEP (R285). -/
def execTimeStep (id : Nat) (s : State) : Host.Outcome State Fault Refusal :=
  .next <| match s.taken 0x81 id with
  | none => s
  | some c =>
    if s.anyReleased then s.finish id Status.busy 0
    else
      let s1 := (s.ftStep (s.stepTarget ((c.dw 6).testBit 0) (c.dw64 7) (c.dw 9)) 1).noRefusals
      let s2 := s1.ftStateSet (if s1.isGm then 2 else 1)
      s2.finish id Status.ok s2.ftNs

end Sys2Proof.Machine
end

