-- ==== Sys2Proof/Machine/Lanes.lean ====
section
/-! DEFINITION. Fabric ports and lanes (09_fabric_lanes.md): training, alignment, latency measurement, monitoring,
sparing, test mode, PRBS and loopback. -/

namespace Sys2Proof.Machine
open Sys2Proof

/-! ## Lanes and ports -/

def State.lane (s : State) (q i : Nat) : Lane := cget {} s.lnk.lanes (q * 9 + i)

def State.onLane (s : State) (q i : Nat) (f : Lane → Lane) : State :=
  { s with lnk := { s.lnk with lanes := cset {} s.lnk.lanes (q * 9 + i) (f (s.lane q i)) } }

def State.port (s : State) (q : Nat) : Port := cget {} s.lnk.ports q

def State.onPort (s : State) (q : Nat) (f : Port → Port) : State :=
  { s with lnk := { s.lnk with ports := cset {} s.lnk.ports q (f (s.port q)) } }

def laneIds : List Nat := natsFrom 0 9

/-- LNK_LANE_STAT.STATE (R247). -/
def State.laneState (s : State) (q i : Nat) : Nat := s.fld (Reg.LNK_LANE_STAT q i) 28 4

def State.laneStateSet (s : State) (q i v : Nat) : State := s.put (Reg.LNK_LANE_STAT q i) 28 4 v

/-- Receive physical lane of logical lane k (R242). -/
def State.rxLane (s : State) (q k : Nat) : Nat := s.fld (Reg.LNK_PORT_RXMAP q) (4 * k) 4

/-- Transmit physical lane of logical lane k (R242). -/
def State.txLane (s : State) (q k : Nat) : Nat := s.fld (Reg.LNK_PORT_TXMAP q) (4 * k) 4

/-- Logical lane that a physical lane carries on receive, 8 for none: the spare (R242). -/
def State.rxLogical (s : State) (q i : Nat) : Nat := ((natsFrom 0 8).find? fun k => s.rxLane q k == i).getD 8

/-- Logical lane that a physical lane carries on transmit, 8 for none: the spare (R242). -/
def State.txLogical (s : State) (q i : Nat) : Nat := ((natsFrom 0 8).find? fun k => s.txLane q k == i).getD 8

/-- A released plot uses the port (R256, R267). -/
def State.portReleased (s : State) (q : Nat) : Bool :=
  match s.portPlot q with
  | some p => s.sow p == Sow.released
  | none => false

def State.spareUsed (s : State) (q : Nat) : Bool := s.bit (Reg.LNK_PORT_STAT q) 27

/-- A lane in service for a released plot (R269). -/
def State.laneServes (s : State) (q i : Nat) : Bool := s.portReleased q && (decide (i < 8) || s.spareUsed q)

/-- The device refuses test mode on a lane (R267). -/
def State.testRefused (s : State) (q i : Nat) : Bool := if i < 8 then s.portReleased q else s.spareUsed q

/-- A physical lane carries a logical lane in some direction. -/
def State.laneMapped (s : State) (q i : Nat) : Bool := s.rxLogical q i != 8 || s.txLogical q i != 8

/-- Firmware may retrain and spare the port by itself (R258, R261): no released plot uses it, and AUTO_RETRAIN is 1. -/
def State.autoPort (s : State) (q : Nat) : Bool := !(s.portReleased q) && s.bit (Reg.LNK_PORT_CTRL q) 29

/-- Every logical lane mapped to a lane in service. -/
def State.eightUp (s : State) (q : Nat) : Bool :=
  (natsFrom 0 8).all fun k => s.laneState q (s.rxLane q k) == 6

/-- The lanes that take part in the training in progress. -/
def State.seqLanes (s : State) (q : Nat) : List Nat := laneIds.filter fun i => (s.lane q i).inSeq

/-- Reduced rate selected (R244). -/
def State.reducedSel (s : State) (q : Nat) : Bool := s.bit (Reg.LNK_PORT_CTRL q) 30

def State.markEn (s : State) (q : Nat) : Bool := s.bit (Reg.LNK_PORT_CTRL q) 31

/-- The port leaves UP; a time parent on it is lost (R284). -/
def State.portLeavesUp (s : State) (q : Nat) : State :=
  let s1 := s.clrBit (Reg.LNK_PORT_STAT q) 31
  if s.portUp q && s.bit Reg.FT_STAT 23 && s.fld Reg.FT_STAT 24 4 == q then s1.parentLost else s1

/-- CTRL packets queued on a port are discarded (R256). -/
def State.dropCtrl (s : State) (q : Nat) : State :=
  { s with xch := { s.xch with ctrlQ := s.xch.ctrlQ.filter fun w => w.port ≠ q } }

/-! ## Training -/

/-- Limit of a training phase in steps (R247); a lane that falls back on markers has their limit. -/
def State.phaseLimit (s : State) (q : Nat) : Nat :=
  match (s.port q).phase with
  | 1 => s.usSteps 2000
  | 2 => if (s.port q).mode = 1 ∨ (s.seqLanes q).any (fun i => (s.lane q i).marks) = true then s.usSteps 500 else if s.reducedSel q then 360000 else 180000
  | 3 => s.usSteps 10
  | 4 => s.usSteps 10
  | _ => s.usSteps 20

/-- Fail code of a training phase (R247, R271). -/
def phaseCode (phase : Nat) : Nat :=
  match phase with
  | 1 => 1
  | 2 => 2
  | 3 => 3
  | 4 => 4
  | _ => 8

/-- Begin a phase on the lanes that take part. -/
def State.beginPhase (s : State) (q phase : Nat) : State :=
  let s1 := (s.seqLanes q).foldl (fun s i =>
    (s.onLane q i fun l => { l with passed := false, settle := 2, compared := 0, matchCnt := 0,
                                    ident := if phase = 3 then none else l.ident, arrival := [] }).laneStateSet q i phase) s
  s1.onPort q fun x => { x with phase := phase, since := s.ft.wall, arr := if phase = 5 then 0 else x.arr,
                                measured := 0, pingAt := none, echoFor := none }

/-- The lanes of the training in progress leave it: those that were in service before return to it. -/
def State.endSeq (s : State) (q : Nat) : State :=
  (s.seqLanes q).foldl (fun s i =>
    (s.onLane q i fun l => { l with inSeq := false, joined := false }).laneStateSet q i (if (s.lane q i).joined then 6 else 0)) s

/-- Start training of a list of lanes of a port with a phase, CDR or, where their clocks are recovered, ALIGN (R247, R260). -/
def State.startTrain (s : State) (q : Nat) (lanes : List Nat) (phase : Nat) (f : Port → Port) : State :=
  let s0 := lanes.foldl (fun s i => s.onLane q i fun l =>
    { l with inSeq := true, joined := false, cdr := l.cdr && phase != 1, bound := 0, marks := false, marker := 0, markers := 0,
             sinceMarker := 0 }) (s.endSeq q)
  let s2 := lanes.foldl (fun s i => s.put (Reg.LNK_LANE_STAT q i) 25 3 0) s0
  let s3 := s2.onPort q f
  { s3 with xch := { s3.xch with txGrid := lanes.foldl (fun m i => cdel m (q * 9 + i)) s3.xch.txGrid } }.beginPhase q phase

/-- Lanes that LINK_TRAIN and a firmware training of the whole port train (R247, R262, R267). -/
def State.trainable (s : State) (q : Nat) (retired : Bool) : List Nat :=
  laneIds.filter fun i => s.laneState q i != 7 && (retired || s.laneState q i != 9)

/-- The spare leaves test mode when sparing begins (R261). -/
def State.endTest (s : State) (q i : Nat) : State :=
  if s.laneState q i = 7 then
    ((s.laneStateSet q i 0).clrBit (Reg.LNK_LANE_CTRL q i) 27).setBit (Reg.LNK_LANE_STAT q i) 22
  else s

/-- The physical lanes that carry a spare: the port's own, and on a REVERSED port lane 0 too, on which the neighbour's arrives
(R242, R252). -/
def State.spareLanes (s : State) (q : Nat) : List Nat := if s.bit (Reg.LNK_PORT_STAT q) 28 then [8, 0] else [8]

/-- Move logical lane k to the spare and retrain the spare through ALIGN, IDENT, DESKEW and LATENCY (R260). The receive lane that
k left is RETIRED. False when the spare is taken, or while LINK_TRAIN trains the port. -/
def State.startSparing (s : State) (q k : Nat) (ack : Bool) : State × Bool :=
  if s.spareUsed q ∨ (s.port q).cmd ≠ 0 then (s, false)
  else
    let s1 := ((s.endSeq q).endTest q 8).put (Reg.LNK_PORT_TXMAP q) (4 * k) 4 8
    let s2 := (s1.laneStateSet q (s.rxLane q k) 9).clrBit (Reg.LNK_LANE_STAT q (s.rxLane q k)) 25
    let s3 := (s2.setBit (Reg.LNK_PORT_STAT q) 27).put (Reg.LNK_PORT_STAT q) 24 3 k
    ((s3.portLeavesUp q).startTrain q (s.spareLanes q) 2
      fun x => { x with cmd := 0, mode := 0, only := 0, sparing := k + 1, ackDue := ack }, true)

/-- Firmware spares the logical lane that a physical lane of an unused port carries, and asks the neighbour for the same
(R258, R261 case 3). While the port trains it waits for the training's end (`spareDegraded`). -/
def State.spareUnused (s : State) (q i : Nat) : State :=
  let k := s.rxLogical q i
  if s.autoPort q = false ∨ k = 8 ∨ (s.port q).phase ≠ 0 then s
  else match s.startSparing q k false with
    | (s1, true) => s1.sendMgmt q 1 k 0 0 0
    | (s1, false) => s1

/-- A DEGRADED lane of an unused port is spared once no training runs (R261 case 3). -/
def State.spareDegraded (s : State) (q : Nat) : State :=
  match laneIds.find? fun i => s.rxLogical q i != 8 && s.bit (Reg.LNK_LANE_STAT q i) 25 with
  | some i => s.spareUnused q i
  | none => s

/-- Reset lane maps to k on lane k (R242). -/
def identityMap : Nat := 0x76543210

/-- A training ends without success (R247, R256, R265): its lanes leave it, and a SPARE_REQ is answered. -/
def State.endTraining (s : State) (q : Nat) : State :=
  let x := s.port q
  let s1 := s.endSeq q
  let s2 := if s1.eightUp q then s1.setBit (Reg.LNK_PORT_STAT q) 31 else s1.portLeavesUp q
  let s3 := s2.onPort q fun x => { x with phase := 0, cmd := 0, sparing := 0, only := 0, ackDue := false }
  if x.ackDue then s3.sendMgmt q 2 (x.sparing - 1) 2 0 0 else s3

/-- Training of a port fails: FAIL, TRAIN_FAIL and the command (R247). The traffic of a lane that firmware could not retrain
moves to the spare (R258). -/
def State.trainFail (s : State) (q code : Nat) : State :=
  let x := s.port q
  let s1 := (s.endTraining q).put (Reg.LNK_PORT_STAT q) 8 8 code
  let s2 := if x.cmd = 0 then s1 else (s1.raiseLnk q 0 4).finish x.cmd Status.linkDown 0
  (if x.only = 0 then s2 else s2.spareUnused q (x.only - 1)).spareDegraded q

/-- The lanes left are enough to go on with (R247): eight of the port, and the lane that is trained alone, or those of the
spare. -/
def State.seqEnough (s : State) (q : Nat) : Bool :=
  let x := s.port q
  let alone := if x.only ≠ 0 then [x.only - 1] else if x.sparing ≠ 0 then s.spareLanes q else []
  alone.all (fun i => (s.lane q i).inSeq) &&
    ((alone != [] && decide (x.phase < 4)) || decide (8 ≤ (s.seqLanes q).length))

/-- Versions: the lower of the two highest versions (R255). -/
def lowerVersion (a b : Nat × Nat) : Nat × Nat := if a.1 < b.1 ∨ (a.1 = b.1 ∧ a.2 ≤ b.2) then a else b

/-- The port comes up after LATENCY (R254, R262). -/
def State.trainDone (s : State) (q : Nat) : State :=
  let x := s.port q
  let arr := x.arr
  let valid := !(s.reducedSel q) && x.locked
  let s1 := (s.seqLanes q).foldl (fun s i =>
    ((s.onLane q i fun l => { l with inSeq := false, joined := false, undecoded := 0, sinceMarker := 0 }).laneStateSet q i 6)) s
  let s2 := s1.rnSet (Reg.LNK_LAT q) (b2n valid * 2 ^ 31 + (arr % 1024) * 65536 + (arr + 58) % 1024)
  let s3 := ((s2.putBit (Reg.LNK_PORT_STAT q) 30 (s.reducedSel q)).putBit (Reg.LNK_PORT_STAT q) 29 x.locked).put
    (Reg.LNK_PORT_STAT q) 8 8 0
  let s4 := { s3 with xch := { s3.xch with rxAlive := cclear s3.xch.rxAlive (q * 9) 9 } }
  let s5 := s4.putBit (Reg.LNK_PORT_STAT q) 31 (s4.eightUp q)
  let s6 := if x.sparing = 0 then s5 else s5.raiseLnk q 8 3
  let s7 := s6.onPort q fun x => { x with phase := 0, cmd := 0, sparing := 0, only := 0, ackDue := false }
  let s8 := if x.ackDue then s7.sendMgmt q 2 (x.sparing - 1) 0 0 0 else s7
  (s8.finishOpt x.cmd Status.ok (s8.rn (Reg.LNK_PORT_STAT q) + 2 ^ 32 * s8.rn (Reg.LNK_LAT q))).spareDegraded q

/-- The lanes in service of a port of which one lane is trained alone take part from DESKEW on (R253, R260). -/
def State.joinLanes (s : State) (q : Nat) : State :=
  let up := laneIds.filter fun i => s.laneState q i == 6
  if (s.port q).only = 0 ∧ (s.port q).sparing = 0 then s
  else (up.foldl (fun s i => s.onLane q i fun l => { l with inSeq := true, joined := true }) s).portLeavesUp q

/-- With one of lanes 0-7 out of the training of a whole port, the spare carries its logical lane (R262). -/
def State.replaceFailed (s : State) (q : Nat) : State :=
  let x := s.port q
  match (natsFrom 0 8).filter fun i => !(s.lane q i).inSeq with
  | [j] =>
    if x.only ≠ 0 ∨ x.sparing ≠ 0 ∨ s.spareUsed q = true ∨ (s.lane q 8).inSeq = false then s
    else
      let k := s.txLogical q j
      let rx := nth 8 (s.spareLanes q).reverse 0
      let s1 := (s.put (Reg.LNK_PORT_TXMAP q) (4 * k) 4 8).put (Reg.LNK_PORT_RXMAP q) (4 * s.rxLogical q j) 4 rx
      (s1.setBit (Reg.LNK_PORT_STAT q) 27).put (Reg.LNK_PORT_STAT q) 24 3 k
  | _ => s

/-- Numbers of a list differ from one another. -/
def allDiffer (l : List Nat) : Bool := l.eraseDups.length == l.length

/-- What the lanes received in IDENT agrees, or the training fails (R248, R252). -/
def State.identCheck (s : State) (q : Nat) : List (Nat × LaneId) → State
  | [] => s.trainFail q 3
  | (i0, d0) :: rest =>
    let ids := (i0, d0) :: rest
    let same := ids.all fun e => e.2.device == d0.device && e.2.port == d0.port
    let straight := ids.all fun e => e.2.phys == e.1
    let crossed := ids.all fun e => e.2.phys == 8 - e.1
    let numbers := allDiffer (ids.map fun e => if e.2.spare then 8 else e.2.logical)
    let ver := lowerVersion (1, 1) (d0.major, d0.minor)
    if !same || !numbers || !(straight || crossed) then s.trainFail q 3
    else if ids.any fun e => e.2.rate ≠ s.reducedSel q then s.trainFail q 6
    else if ver.1 < 1 ∨ ver.1 < d0.low then s.trainFail q 5
    else
      let map := ids.foldl (fun m e => if e.2.spare then m else putFld m (4 * e.2.logical) 4 e.1)
        (s.rn (Reg.LNK_PORT_RXMAP q))
      let s1 := s.rnSet (Reg.LNK_PORT_RXMAP q) map
      let s2 := s1.putBit (Reg.LNK_PORT_STAT q) 28 (!straight)
      let s3 := s2.rnSet (Reg.LNK_NBR_ID q) (2 ^ 31 + (d0.port % 16) * 2 ^ 18 + d0.device % 2 ^ 18)
      let s4 := s3.rnSet (Reg.LNK_PORT_VER q) (ver.1 * 2 ^ 24 + ver.2 * 2 ^ 16 + d0.major * 256 + d0.minor)
      (s4.joinLanes q).beginPhase q 4

/-- IDENT ends: lane order, device, port, rate and version of every trained lane checked; maps, neighbour and version recorded
(R252, R255). -/
def State.identDone (s : State) (q : Nat) : State :=
  let trained := laneIds.filter fun i => (s.lane q i).inSeq || s.laneState q i == 6
  s.identCheck q (trained.filterMap fun i => ((s.lane q i).ident).map fun d => (i, d))

/-- A lane leaves the training (R247). -/
def State.leaveSeq (s : State) (q i : Nat) : State :=
  (s.onLane q i fun l => { l with inSeq := false, joined := false }).laneStateSet q i 0

/-- The newest ALIVE of which a frame has arrived on every lane of the training (R253). -/
def State.commonAlive (s : State) (q : Nat) : Option Nat :=
  let lists := (s.seqLanes q).map fun i => (s.lane q i).arrival.map (·.1)
  match lists with
  | [] => none
  | l :: ls => l.find? fun a => ls.all fun m => m.contains a

/-- DESKEW ends: every lane delayed to the latest; a lane that needs more than 63 steps leaves (R253). -/
def State.deskewDone (s : State) (q : Nat) : State :=
  match s.commonAlive q with
  | none => s.trainFail q 4
  | some a =>
    let arr := (s.seqLanes q).filterMap fun i => ((s.lane q i).arrival.find? fun e => e.1 == a).map fun e => (i, e.2)
    let latest := arr.foldl (fun m e => max m e.2) 0
    let (good, bad) := arr.partition fun e => decide (latest - e.2 ≤ 63)
    let s1 := good.foldl (fun s e => s.put (Reg.LNK_LANE_STAT q e.1) 16 6 (latest - e.2)) s
    let s2 := bad.foldl (fun s e => s.leaveSeq q e.1) s1
    if s2.seqEnough q then (s2.replaceFailed q).beginPhase q 5 else s2.trainFail q 4

/-- What follows when the present phase is over on the lanes that take part (R247). -/
def State.nextPhase (s0 : State) (q : Nat) : State :=
  let s := s0.replaceFailed q
  match (s.port q).phase with
  | 1 => s.beginPhase q 2
  | 2 => s.beginPhase q 3
  | 3 => s.identDone q
  | 4 => s.deskewDone q
  | 5 => s.trainDone q
  | _ => s

/-- Advance when every lane that takes part has passed the phase; a manual alignment ends with ALIGN_DONE (R250). -/
def State.checkPhase (s : State) (q : Nat) : State :=
  if (s.port q).phase ≠ 0 ∧ (s.port q).phase ≠ 5 ∧ ¬ ((s.port q).phase = 2 ∧ (s.port q).mode = 2) ∧ (s.seqLanes q).all (fun i => (s.lane q i).passed) = true then
    s.nextPhase q
  else s

/-- A lane has left the training: it goes on with the lanes that remain, or fails (R247); in LATENCY the spare takes its place
at once (R262). -/
def State.seqLeft (s : State) (q : Nat) : State :=
  if (s.port q).phase = 0 then s
  else if s.seqEnough q then (if (s.port q).phase = 5 then s.replaceFailed q else s.checkPhase q)
  else s.trainFail q (phaseCode (s.port q).phase)

/-- The limit of a phase is exceeded, or a manual alignment is ended: lanes that have not passed leave the sequence, and
the port continues with eight or more (R247). -/
def State.closePhase (s : State) (q : Nat) : State :=
  let x := s.port q
  let late := (s.seqLanes q).filter fun i => !(s.lane q i).passed
  let s1 := late.foldl (fun s i => s.leaveSeq q i) s
  if x.phase = 0 then s
  else if x.phase = 5 then s.trainFail q (phaseCode x.phase)
  else if s1.seqEnough q then s1.nextPhase q
  else s1.trainFail q (phaseCode x.phase)

/-! ## TRAIN and ALIGN frames -/

/-- Dword 0 of a TRAIN frame (R248). -/
def trainSync : Nat := 0x1e6ba3c5

/-- The 32 wire bits that carry SYNC: the low half of dword 0, then its high half (R177, R249). -/
def syncBits : Nat := (trainSync % 65536) * 65536 + trainSync / 65536

/-- The 32 wire bits of a frame window in the place of SYNC. -/
def frameSync (f : BitVec 896) : Nat := nfld f.toNat 832 32

/-- Payload dwords of a TRAIN or ALIGN frame (R248). -/
def State.trainWords (s : State) (q i : Nat) (ping echo : Bool) (w : Nat) : List Word :=
  let k := s.txLogical q i
  let d1 := s.devId * 2 ^ 14 + q * 2 ^ 10 + i * 64 + (if k = 8 then 4 else k * 8)
  let d2 := s.laneState q i * 2 ^ 28 + 1 * 2 ^ 24 + 1 * 2 ^ 16 + 1 * 2 ^ 12 + b2n (s.reducedSel q) * 2 ^ 11 +
    b2n (s.markEn q) * 2 ^ 10
  let d3 := b2n ping * 2 ^ 31 + b2n echo * 2 ^ 30 + (if echo then (w % 128) * 2 ^ 23 +
    (s.fld (Reg.LNK_LANE_STAT q (s.rxLane q 0)) 16 6) * 2 ^ 17 else 0)
  ([trainSync, d1, d2, d3] ++ List.replicate 20 0xc3c3c3c3).map (BitVec.ofNat 32)

/-- The fields a TRAIN frame carries in IDENT (R248). -/
def trainIdent (ws : List Word) : LaneId :=
  let d1 := wordAt ws 1
  let d2 := wordAt ws 2
  { device := d1 / 2 ^ 14, port := nfld d1 10 4, phys := nfld d1 6 4, logical := nfld d1 3 3, spare := d1.testBit 2,
    major := nfld d2 24 4, minor := nfld d2 16 8, low := nfld d2 12 4, rate := d2.testBit 11 }

/-- Reserved bits of a TRAIN frame are 0 (R248). -/
def trainReservedOk (ws : List Word) : Bool :=
  wordAt ws 1 % 4 == 0 && wordAt ws 2 % 1024 == 0 && wordAt ws 3 % 2 ^ 17 == 0

/-- One boundary of bit-slip (R249, R250). -/
def Lane.slip (l : Lane) : Lane :=
  { l with bound := (l.bound + 1) % 896, settle := 2, compared := 0, matchCnt := 0 }

/-- The matcher takes one frame window in ALIGN (R249, R250). Firmware's search slips after 4 compared frames without a
match, and ends after 896 boundaries; with MARK_EN = 1 markers are the fall-back (R251). -/
def State.matchFrame (s : State) (q i : Nat) (f : BitVec 896) : State :=
  let l := s.lane q i
  let auto := (s.port q).mode = 0
  if l.settle > 0 then s.onLane q i fun l => { l with settle := l.settle - 1 }
  else
    let direct := frameSync f = syncBits
    let compl := frameSync f = 0xffffffff - syncBits
    let n := if (direct ∧ (l.matchCnt = 0 ∨ l.inverse = false)) ∨ (compl ∧ (l.matchCnt = 0 ∨ l.inverse = true)) then
        l.matchCnt + 1 else if direct ∨ compl then 1 else 0
    let l1 := { l with matchCnt := n, inverse := decide compl, compared := l.compared + 1 }
    if n ≥ 4 then
      let s1 := (s.onLane q i fun _ => { l1 with passed := true }).setBit (Reg.LNK_LANE_STAT q i) 27
      (s1.putBit (Reg.LNK_LANE_STAT q i) 26 (decide compl)).checkPhase q
    else if auto ∧ l1.compared ≥ 4 then
      if l.bound + 1 ≥ 896 then
        if s.markEn q then s.onLane q i fun _ => { l1 with marks := true } else (s.leaveSeq q i).seqLeft q
      else s.onLane q i fun _ => l1.slip
    else s.onLane q i fun _ => l1

/-- The window holds an ALIGN frame, FTYPE 0x2 with SYNC (R251). -/
def isMarker (f : BitVec 896) : Bool := frameSync f == syncBits && nfld f.toNat 892 4 == 2

/-- Marker alignment: two markers at one offset, 4,096 frames apart (R251). -/
def State.markerFrame (s : State) (q i offset : Nat) (f : BitVec 896) : State :=
  let l := s.lane q i
  if !(isMarker f || isMarker (~~~f)) then s.onLane q i fun l => { l with sinceMarker := l.sinceMarker + 1 }
  else if l.marker = offset + 1 ∧ l.sinceMarker + 1 = 4096 then
    let s1 := (s.onLane q i fun l => { l with sinceMarker := 0, markers := 2, bound := offset, passed := true }).setBit
      (Reg.LNK_LANE_STAT q i) 27
    (s1.putBit (Reg.LNK_LANE_STAT q i) 26 (isMarker (~~~f))).checkPhase q
  else s.onLane q i fun l => { l with marker := offset + 1, markers := 1, sinceMarker := 0 }

/-- A lane's bits with its receive polarity undone (R249). -/
def State.unInvert (s : State) (q i : Nat) (f : BitVec 896) : BitVec 896 :=
  if s.bit (Reg.LNK_LANE_STAT q i) 26 then ~~~f else f

/-- One measurement of ARR, with the steps RT, W, d and DREM (R254). -/
def arrOf (rt w d drem : Nat) : Nat := ((rt + d) - w - drem + 1) / 2

/-- A TRAIN frame reaches a lane in training; `off` is the bit offset at which it was found in ALIGN, and the step clock
count of its first bit in the later phases (R248-R254). -/
def State.trainFrame (s : State) (q i off : Nat) (f : BitVec 896) : State :=
  let x := s.port q
  let l := s.lane q i
  if x.phase = 0 ∨ l.inSeq = false ∨ l.passed = true ∧ x.phase < 4 then s
  else if x.phase = 2 then (if x.mode = 1 ∨ l.marks = true then s.markerFrame q i off f else s.matchFrame q i f)
  else match openFrame (s.unInvert q i f) with
    | none => s
    | some d =>
      let ws := payloadWords d.payload
      if ¬ (nfld d.hdr 28 4 = 4 ∨ nfld d.hdr 28 4 = 2) ∨ trainReservedOk ws = false ∨ wordAt ws 0 ≠ trainSync then s
      else if x.phase = 3 then
        (s.onLane q i fun l => { l with ident := some (trainIdent ws), passed := true }).checkPhase q
      else if x.phase = 4 then
        let alive := nfld d.hdr 20 8
        let s1 := s.onLane q i fun l => { l with arrival := ((alive, off) :: l.arrival).take 4, passed := true }
        if (s1.commonAlive q).isSome then s1.deskewDone q else s1
      else if x.phase = 5 ∧ i = s.rxLane q 0 then
        let dly := s.fld (Reg.LNK_LANE_STAT q i) 16 6
        let d3 := wordAt ws 3
        let s1 := if d3.testBit 31 then s.onPort q fun x => { x with echoFor := some (off + dly) } else s
        if d3.testBit 30 then
          match x.pingAt with
          | none => s1
          | some t0 =>
            let a := arrOf (off + dly - t0) (nfld d3 23 7) dly (nfld d3 17 6)
            let s2 := s1.onPort q fun y => { y with arr := max y.arr a, measured := y.measured + 1, pingAt := none }
            if x.measured + 1 ≥ 16 then s2.trainDone q else s2
        else s1
      else s

/-! ## Lanes going down, sparing -/

/-- Firmware trains lanes of a port anew, from CDR; `only` names the one that is trained alone. -/
def State.retrain (s : State) (q only : Nat) (lanes : List Nat) : State :=
  s.startTrain q lanes 1 fun x => { x with cmd := 0, mode := 0, only := only, sparing := 0, ackDue := false }

/-- What firmware does about a lane that has gone DOWN (R258, R259): on a port that no released plot uses it retrains the
lane, or the port where another lane is being trained alone or spared; a lane that does not leave the low-power idle of deep
fallow has its port retrained before any plot is woken. -/
def State.downCure (s : State) (q i st : Nat) (inSeq : Bool) : State :=
  let x := s.port q
  if x.sparing ≠ 0 ∧ x.cmd = 0 ∧ inSeq = false ∧ s.autoPort q = true then
    s.startTrain q (s.trainable q false) 1 fun x => { x with mode := 0 }
  else if x.cmd ≠ 0 ∨ x.sparing ≠ 0 then (if inSeq then s.seqLeft q else s)
  else if st = 8 then s.retrain q 0 (s.trainable q false)
  else if x.phase = 0 then (if s.autoPort q then s.retrain q (i + 1) [i] else s)
  else if x.only ≠ 0 ∧ s.autoPort q = true then s.retrain q 0 (s.trainable q false)
  else if inSeq then s.seqLeft q
  else s

/-- A lane in service or in training goes DOWN (R258): LANE_DOWN, the port leaves UP, and firmware's cure. A RETIRED lane
stays retired (R262), and one in test mode stays in it (R267). -/
def State.laneDown (s : State) (q i : Nat) : State :=
  let st := s.laneState q i
  if st = 0 ∨ st = 9 then s
  else if st = 7 then s.onLane q i fun l => { l with cdr := false }
  else
    let s0 := (s.laneStateSet q i 0).onLane q i fun l =>
      { l with cdr := false, inSeq := false, joined := false, undecoded := 0, decoded := 0, sinceMarker := 0 }
    let s1 := { s0 with xch := { s0.xch with rxAlive := cset 0 s0.xch.rxAlive (q * 9 + i) 0 } }.raiseLnk q i 0
    let s2 := if s.rxLogical q i ≠ 8 then s1.portLeavesUp q else s1
    s2.downCure q i st (s.lane q i).inSeq

/-- A marker at another place, or none where one is due (R251): ALIGN_LOST, and the lane goes DOWN. -/
def State.markerLost (s : State) (q i : Nat) : State :=
  (((s.setBit (Reg.LNK_LANE_STAT q i) 24).raiseLnk q i 2).onLane q i fun l => { l with sinceMarker := 0 }).laneDown q i

/-- A TRAIN or ALIGN frame is found at a bit offset: in training it is the lane's (R248-R254), and on a lane in service with
MARK_EN = 1 a marker at another offset than the lane's is a failure (R251). -/
def State.trainArrives (s : State) (q i off : Nat) (f : BitVec 896) : State :=
  let st := s.laneState q i
  if (s.port q).phase = 0 ∧ s.markEn q = true ∧ (st = 6 ∨ st = 8) ∧ isMarker (s.unInvert q i f) = true ∧ off ≠ (s.lane q i).bound then
    s.markerLost q i
  else s.trainFrame q i off f

/-! ## Rows: training -/

/-- LINK_TRAIN (R247, R256). -/
def execLinkTrain (id : Nat) (s : State) : Host.Outcome State Fault Refusal :=
  .next <| match s.taken 0x70 id with
  | none => s
  | some c =>
    let q := nfld (c.dw 6) 0 4
    let b := fun i => (c.dw 6).testBit i
    if s.portReleased q = true ∨ (s.port q).phase ≠ 0 then s.finish id Status.busy 0
    else
      let s1 := (s.portLeavesUp q).dropCtrl q
      let s2 := (s1.putBit (Reg.LNK_PORT_CTRL q) 30 (b 4)).putBit (Reg.LNK_PORT_CTRL q) 31 (b 7)
      let s3 := ((s2.rnSet (Reg.LNK_PORT_TXMAP q) identityMap).rnSet (Reg.LNK_PORT_RXMAP q) identityMap).rnSet
        (Reg.LNK_LAT q) 0
      let s4 := ((s3.put (Reg.LNK_PORT_STAT q) 24 7 0).put (Reg.LNK_PORT_STAT q) 8 8 0).rnSet (Reg.LNK_NBR_ID q) 0
      let lanes := s.trainable q true
      if lanes.length < 8 then
        ((s4.put (Reg.LNK_PORT_STAT q) 8 8 7).raiseLnk q 0 4).finish id Status.linkDown 0
      else
        (s4.startTrain q lanes 1 fun x =>
          { x with cmd := id, mode := if b 6 then 2 else if b 5 then 1 else 0, only := 0, sparing := 0, ackDue := false }).blockCmd id

/-- CDR_LOCK (R247): the receiver's clock recovery locks on a lane; sync tells whether the clocks are
frequency-locked (R263). -/
def execCdrLock (port lane : Nat) (sync : Bool) (s : State) : Host.Outcome State Fault Refusal :=
  .next <|
    if (s.port port).phase = 1 ∧ (s.lane port lane).inSeq = true then
      ((s.onLane port lane fun l => { l with cdr := true, passed := true }).onPort port
        fun x => { x with locked := sync }).checkPhase port
    else s

/-- TRAIN_FRAME_RECEIVE (R248-R254). -/
def execTrainFrameReceive (port lane offset : Nat) (frame : BitVec 896) (s : State) : Host.Outcome State Fault Refusal :=
  .next (s.trainArrives port lane offset frame)

/-- TRAINING_PHASE_TIMEOUT (R247): the limit of the present phase has passed. A manual alignment has none (R250). -/
def execTrainingPhaseTimeout (port : Nat) (s : State) : Host.Outcome State Fault Refusal :=
  .next <|
    if (s.port port).phase = 0 ∨ (s.port port).phase = 2 ∧ (s.port port).mode = 2 then s
    else (s.waitSteps ((s.port port).since + s.phaseLimit port)).closePhase port

/-! ## Register writes of a lane and a port -/

/-- Firmware retrains a lane that has left test mode, on a port that has been trained and that no released plot uses (R258,
R267). -/
def State.testCure (s : State) (q i : Nat) : State :=
  if s.autoPort q = true ∧ (s.port q).phase = 0 ∧ s.bit (Reg.LNK_NBR_ID q) 31 = true ∧ (s.laneMapped q i = true ∨ i = 8) then
    s.retrain q (i + 1) [i]
  else s

/-- Test mode wanted or left, which returns the lane to DOWN (R267). -/
def State.setTest (s : State) (q i : Nat) (on : Bool) : State :=
  if on then
    if s.testRefused q i then s.setBit (Reg.LNK_LANE_STAT q i) 23
    else if s.laneState q i = 7 then s
    else
      let s1 := ((s.setBit (Reg.LNK_LANE_CTRL q i) 27).laneStateSet q i 7).onLane q i
        fun l => { l with inSeq := false, joined := false, prbs := 0, gen := 0, sinceInj := 0, injOne := 0 }
      let s2 := s1.clrBit (Reg.LNK_LANE_TEST q i) 21
      let s3 := if s.laneMapped q i then s2.portLeavesUp q else s2
      if (s.lane q i).inSeq then s3.seqLeft q else s3
  else if s.laneState q i = 7 then ((s.clrBit (Reg.LNK_LANE_CTRL q i) 27).laneStateSet q i 0).testCure q i
  else s.clrBit (Reg.LNK_LANE_CTRL q i) 27

/-- Per-lane reset (R269); a lane in training ends the training (R256). -/
def State.laneReset (s : State) (q i : Nat) : State :=
  if s.laneServes q i then s.setBit (Reg.LNK_LANE_STAT q i) 23
  else
    let x := s.port q
    let training := x.phase ≠ 0 ∧ (s.lane q i).inSeq = true
    let s0 := if training then (s.endTraining q).finishOpt x.cmd Status.abortedCmd 0 else s
    let s1 := s0.rgResetRange (Reg.LNK_LANE_CTRL q i) 0x50
    let s2 := s1.onLane q i fun _ => {}
    let s3 := { s2 with xch := { s2.xch with txAlive := cset 0 s2.xch.txAlive (q * 9 + i) 0,
                                             txGrid := cdel s2.xch.txGrid (q * 9 + i),
                                             rxAlive := cset 0 s2.xch.rxAlive (q * 9 + i) 0 } }
    if s.laneMapped q i then s3.portLeavesUp q else s3

/-- A write of LNK_LANE_CTRL (R249, R267-R269); one that asks for test mode where it is refused is ignored whole. -/
def State.laneCtrlWrite (s : State) (fn v : Nat) (r : RegRow) (is : List Nat) : State :=
  let q := is.getD 0 0
  let i := is.getD 1 0
  let s0 := s.rsvdCheck fn v r.fields
  if v.testBit 31 then s0.laneReset q i
  else if v.testBit 27 && !(s.bit (Reg.LNK_LANE_CTRL q i) 27) && s.testRefused q i then s0.setBit (Reg.LNK_LANE_STAT q i) 23
  else
    let s1 := s0.putBit (Reg.LNK_LANE_CTRL q i) 26 (v.testBit 26)
    let s2 := if v.testBit 27 == s.bit (Reg.LNK_LANE_CTRL q i) 27 then s1 else s1.setTest q i (v.testBit 27)
    let lp := nfld v 28 2
    let s3 := if lp ≠ 0 ∧ i ≠ 8 then s2.setBit (Reg.LNK_LANE_STAT q i) 23 else s2.put (Reg.LNK_LANE_CTRL q i) 28 2 lp
    if v.testBit 30 then
      (s3.onLane q i fun l => { l.slip with passed := false }).clrBit (Reg.LNK_LANE_STAT q i) 27
    else s3

/-- A write of LNK_LANE_TEST (R266): INJ_ONE inverts one transmitted bit, while TEST = 1. -/
def State.laneTestWrite (s : State) (fn v : Nat) (r : RegRow) (is : List Nat) : State :=
  let q := is.getD 0 0
  let i := is.getD 1 0
  let a := Reg.LNK_LANE_TEST q i
  let old := s.rn a
  let s1 := (s.rsvdCheck fn v r.fields).rnSet a (fieldsWrite false v r.fields old)
  let s2 := if v.testBit 27 ∧ s.bit (Reg.LNK_LANE_CTRL q i) 27 = true then
      s1.onLane q i fun l => { l with injOne := l.injOne + 1 }
    else s1
  if v.testBit 28 = false ∨ nfld v 30 2 ≠ nfld old 30 2 then s2.clrBit a 21 else s2

/-- A write of LNK_PORT_CTRL (R250, R261, R271). -/
def State.portCtrlWrite (s : State) (fn v : Nat) (r : RegRow) (is : List Nat) : State :=
  let q := is.getD 0 0
  let s1 := s.plainWrite fn (Reg.LNK_PORT_CTRL q) v r is
  let s2 := s1.clrBit (Reg.LNK_PORT_CTRL q) 28
  if v.testBit 28 ∧ (s.port q).phase = 2 ∧ (s.port q).mode = 2 then s2.closePhase q else s2.spareDegraded q

/-- A write of LNK_TX_CORR or LNK_RX_CORR (R293). -/
def State.corrWrite (s : State) (fn a v : Nat) (r : RegRow) (is : List Nat) : State :=
  let q := is.getD 0 0
  if s.portReleased q then (s.rsvdCheck fn v r.fields).setBit (Reg.LNK_LANE_STAT q (is.getD 1 0)) 23 else s.plainWrite fn a v r is

/-- BITSLIP (R250). -/
def execBitslip (fn port lane v : Nat) (s : State) : Host.Outcome State Fault Refusal :=
  .next (s.gated fn (Reg.LNK_LANE_CTRL port lane) fun s r is => s.laneCtrlWrite fn v r is)

/-- LANE_RESET (R269). -/
def execLaneReset (fn port lane v : Nat) (s : State) : Host.Outcome State Fault Refusal :=
  .next (s.gated fn (Reg.LNK_LANE_CTRL port lane) fun s r is => s.laneCtrlWrite fn v r is)

/-- LANE_TEST_MODE (R267). -/
def execLaneTestMode (fn port lane v : Nat) (s : State) : Host.Outcome State Fault Refusal :=
  .next (s.gated fn (Reg.LNK_LANE_CTRL port lane) fun s r is => s.laneCtrlWrite fn v r is)

/-- INJ_ONE (R266). -/
def execInjOne (fn port lane v : Nat) (s : State) : Host.Outcome State Fault Refusal :=
  .next (s.gated fn (Reg.LNK_LANE_TEST port lane) fun s r is => s.laneTestWrite fn v r is)

/-- ALIGN_DONE (R250). -/
def execAlignDone (fn port v : Nat) (s : State) : Host.Outcome State Fault Refusal :=
  .next (s.gated fn (Reg.LNK_PORT_CTRL port) fun s r is => s.portCtrlWrite fn v r is)

/-! ## Test patterns -/

/-- Synchronise a checker from received bits, then compare (R266): pattern, register, bits still to take, compared and
errored bits. -/
def prbsCheck (pat : Nat) : List Bool → Nat → Nat → Nat → Nat → Nat × Nat × Nat × Nat
  | [], st, need, n, e => (st, need, n, e)
  | b :: bs, st, need, n, e =>
    let st' := (2 * st + b2n b) % 2 ^ 31
    if need > 0 then prbsCheck pat bs st' (need - 1) n e
    else prbsCheck pat bs ((2 * st + prbsNext pat st) % 2 ^ 31) 0 (n + 1) (e + (if b2n b = prbsNext pat st then 0 else 1))

/-- 48-bit saturating PRBS_BITS, OVF bit 4 (R16, R270). -/
def State.countBits (s : State) (q i n : Nat) : State :=
  let v := min (s.rn64 (Reg.LNK_LANE_PRBS_BITS_LO q i) + n) (2 ^ 48 - 1)
  let s1 := s.rnSet64 (Reg.LNK_LANE_PRBS_BITS_LO q i) v
  if v = 2 ^ 48 - 1 then s1.setBit (Reg.LNK_LANE_OVF q i) 4 else s1

/-- The checker of a lane in test mode takes received bits, synchronises itself and counts (R266). -/
def State.chkBits (s : State) (port lane : Nat) (bits : List Bool) : State :=
  let t := Reg.LNK_LANE_TEST port lane
  let pat := s.fld t 30 2
  if s.bit (Reg.LNK_LANE_CTRL port lane) 27 = false ∨ s.bit t 28 = false ∨ pat = 0 then s
  else
    let need := if s.bit t 21 then 0 else (prbsTaps pat).1
    let (st, left, n, e) := prbsCheck pat bits (s.lane port lane).prbs need 0 0
    let s1 := s.onLane port lane fun l => { l with prbs := st }
    let s2 := if left = 0 then s1.setBit t 21 else s1
    (s2.countBits port lane n).countBy (Reg.LNK_LANE_PRBS_ERR port lane) e

/-- CHK_LOCK (R266). -/
def execChkLock (port lane : Nat) (bits : List Bool) (s : State) : Host.Outcome State Fault Refusal :=
  .next (s.chkBits port lane bits)

/-- LINK_TEST (R266-R268): the lane enters test mode with the pattern, and with FAR the neighbour loops its spare back; a loopback
on lanes 0-7 is ignored and sets REFUSED. A port that runs one already is BUSY (log 73).
The command waits for its duration; its result counts from here, the RO-S counters go on (R13). -/
def execLinkTest (id : Nat) (s : State) : Host.Outcome State Fault Refusal :=
  .next <| match s.taken 0x71 id with
  | none => s
  | some c =>
    let q := nfld (c.dw 6) 0 4
    let i := nfld (c.dw 6) 4 4
    let lp := nfld (c.dw 6) 10 2
    if i > 8 ∨ c.dw 7 = 0 then s.finish id Status.invalidParam 0
    else if s.testRefused q i = true ∨ (s.port q).testCmd ≠ 0 then s.finish id Status.busy 0
    else
      let s0 := s.setTest q i true
      let s1 := if lp ≠ 0 ∧ i ≠ 8 then s0.setBit (Reg.LNK_LANE_STAT q i) 23 else s0.put (Reg.LNK_LANE_CTRL q i) 28 2 lp
      let s2 := s1.rnSet (Reg.LNK_LANE_TEST q i)
        (nfld (c.dw 6) 8 2 * 2 ^ 30 + 2 ^ 29 + 2 ^ 28 + nfld (c.dw 6) 12 5 * 2 ^ 22)
      let s4 := s2.onPort q fun x =>
        { x with testCmd := id, testLane := i, testBits := c.dw 7, testSince := s.ft.wall,
                 testBase := (s.rn (Reg.LNK_LANE_PRBS_ERR q i), s.rn64 (Reg.LNK_LANE_PRBS_BITS_LO q i)) }
      (if (c.dw 6).testBit 20 then s4.sendMgmt q 3 0 1 0 0 else s4).blockCmd id

/-- LINK_TEST runs for its duration: due commands end on the step clock (R266). -/
def State.testTick (s : State) : State :=
  portIds.foldl (fun s q =>
    let x := s.port q
    if x.testCmd ≠ 0 ∧ x.testSince + s.usSteps x.testBits ≤ s.ft.wall then
      let i := x.testLane
      let res := s.rn (Reg.LNK_LANE_PRBS_ERR q i) - x.testBase.1 +
        2 ^ 32 * ((s.rn64 (Reg.LNK_LANE_PRBS_BITS_LO q i) - x.testBase.2) / 2 ^ 16)
      let s1 := ((s.clrBit (Reg.LNK_LANE_TEST q i) 29).clrBit (Reg.LNK_LANE_TEST q i) 28).finish x.testCmd Status.ok res
      s1.onPort q fun y => { y with testCmd := 0 }
    else s) s

/-! ## Link management packets -/

/-- A link management packet that is discarded (R265). -/
def State.mgmtBad (s : State) (q : Nat) : State := s.raiseLnk q 0 6

/-- SPARE_REQ is followed (R261): on a port of a released plot in the hold that it names, and on a port that none uses
(DEDUCED, log 73). -/
def State.spareAllowed (s : State) (q : Nat) (ws : List Word) : Bool :=
  !(s.portReleased q) || match (s.portPlot q).bind fun p => (s.plot p).cmt.hold with
    | some h => h.recovery && h.k % 2 ^ 64 == ctlPn ws
    | none => false

/-- A hold that spares one more lane. -/
def Hold.addLane (h : Hold) (u : Nat) : Hold := if h.lanes.contains u then h else { h with lanes := h.lanes ++ [u] }

/-- The lane is among those that the plot's hold spares, so that the checks of R230 run on its port (R231, R261). -/
def State.holdLane (s : State) (q k : Nat) : State :=
  match s.portPlot q with
  | some p => s.onCmt p fun c => { c with hold := c.hold.map fun h => h.addLane (q * 16 + k) }
  | none => s

/-- SPARE_REQ (R261): action 3 on the port as well. A request for the lane that is already being moved is answered when its
training ends. -/
def State.spareReq (s : State) (q : Nat) (ws : List Word) : State :=
  let k := mgmtLane ws
  if s.spareAllowed q ws = false then s
  else if s.spareUsed q = true ∧ s.fld (Reg.LNK_PORT_STAT q) 24 3 = k then
    if (s.port q).sparing = k + 1 then s.onPort q fun x => { x with ackDue := true } else s.sendMgmt q 2 k 0 (ctlPn ws) 0
  else match s.startSparing q k true with
    | (s1, true) => s1.holdLane q k
    | (s1, false) => s1.sendMgmt q 2 k 1 (ctlPn ws) 0

/-- SPARE_ACK (R265): a failed sparing fails the recovery of the device that asked for it. -/
def State.spareAck (s : State) (q : Nat) (ws : List Word) : State :=
  if mgmtStatus ws = 0 then s
  else match s.portPlot q with
    | some p => s.onCmt p fun c => { c with hold := c.hold.map fun h => if h.recovery then { h with failed := true } else h }
    | none => s

/-- LOOP_REQ (R268): start or stop far-end loopback on the spare, answered by LOOP_ACK. -/
def State.loopReq (s : State) (q : Nat) (ws : List Word) : State :=
  if mgmtStatus ws = 1 then
    if s.testRefused q 8 then s.sendMgmt q 4 0 1 0 0
    else ((s.setTest q 8 true).put (Reg.LNK_LANE_CTRL q 8) 28 2 3).sendMgmt q 4 0 0 0 0
  else ((s.put (Reg.LNK_LANE_CTRL q 8) 28 2 0).setTest q 8 false).sendMgmt q 4 0 0 0 0

/-- LOOP_ACK (R265): a refused loopback ends the LINK_TEST that asked for it with BUSY. -/
def State.loopAck (s : State) (q : Nat) (ws : List Word) : State :=
  let x := s.port q
  if mgmtStatus ws ≠ 0 ∧ x.testCmd ≠ 0 then
    (s.finish x.testCmd Status.busy 0).onPort q fun y => { y with testCmd := 0 }
  else s

/-- LANE_HEALTH (R265): discarded at link version 1.0. -/
def State.laneHealth (s : State) (q : Nat) (_ws : List Word) : State :=
  if s.fld (Reg.LNK_PORT_VER q) 16 16 = 0x100 then s.mgmtBad q else s

/-- A link management packet delivered (R265). -/
def State.mgmtPacket (s : State) (q : Nat) (ws : List Word) : State :=
  match ctlSub ws with
  | 1 => s.spareReq q ws
  | 2 => s.spareAck q ws
  | 3 => s.loopReq q ws
  | 4 => s.loopAck q ws
  | 5 => s.laneHealth q ws
  | _ => s.mgmtBad q

/-- SPARE_REQ (R261). -/
def execSpareReq (port : Nat) (words : List Word) (s : State) : Host.Outcome State Fault Refusal :=
  .next (s.spareReq port words)

/-- SPARE_ACK (R265). -/
def execSpareAck (port : Nat) (words : List Word) (s : State) : Host.Outcome State Fault Refusal :=
  .next (s.spareAck port words)

/-- LOOP_REQ (R268). -/
def execLoopReq (port : Nat) (words : List Word) (s : State) : Host.Outcome State Fault Refusal :=
  .next (s.loopReq port words)

/-- LOOP_ACK (R265). -/
def execLoopAck (port : Nat) (words : List Word) (s : State) : Host.Outcome State Fault Refusal :=
  .next (s.loopAck port words)

/-- LANE_HEALTH (R265). -/
def execLaneHealth (port : Nat) (words : List Word) (s : State) : Host.Outcome State Fault Refusal :=
  .next (s.laneHealth port words)

/-- CDR_LOSS (R258): a lane loses clock recovery and goes DOWN. -/
def execCdrLoss (port lane : Nat) (s : State) : Host.Outcome State Fault Refusal :=
  .next (s.laneDown port lane)

end Sys2Proof.Machine
end

