-- ==== Sys2Proof/Machine/Frames.lean ====
section
/-! DEFINITION. Frames sent by a lane (06_exchange.md R158-R164, R181; 09_fabric_lanes.md R243-R251, R263, R266), the
stretch table (R36-R39) and the votes of frame headers (R187, R188). -/

namespace Sys2Proof.Machine
open Sys2Proof

/-! ## Stretch table -/

/-- Level of the stretch table for a target (R37). -/
def State.stretchOf (s : State) (p t : Nat) : Nat := cget 0 (s.plot p).tm.stretch t

/-- A request for target t (R37, R38): merged, or late. A target already committed is ignored. -/
def State.wantStretch (s : State) (p t n : Nat) : State :=
  if t < (s.plot p).tm.cpn ∨ n ≤ s.stretchOf p t then s
  else if t < (s.plot p).tm.headTop then s.divergePass p t true
  else s.onTm p fun x => { x with stretch := cset 0 x.stretch t n }

/-- Thermal level of the device, as every plot reports it (R39). -/
def State.thermLvl (s : State) (p : Nat) : Nat := s.fld (Reg.PLT_HL_STAT p) 8 4

/-- The device's own need (R39). -/
def State.ownNeed (s : State) (p : Nat) : Nat := max (s.thermLvl p) (s.fld (Reg.PLT_HL_CFG p) 0 4)

/-- At the start of pass P the device asks for the headland of P + D + 1 (R36, R39): a need that stands at launch first asks at
pass 0, for the headland of D + 1 (DESIGN CHOICE, log 82). A need that first arises in a suppressed
span, for a headland that ran before it, is late as any other request (DESIGN CHOICE, log 49). -/
def State.askStretch (s : State) (p : Nat) : State :=
  let n := s.ownNeed p
  let t := (s.plot p).tm.pn + s.dlag p + 1
  let key := s.devId
  if n = 0 then s
  else
    let s1 := s.wantStretch p t n
    if (s.plot p).tm.notices.contains (key, t) then s1
    else (s1.onTm p fun x => { x with notices := (key, t) :: x.notices }).flood p 4 [t, t / 2 ^ 32, n]

/-- Queue a flooded packet on every other port of its plot, or of the device, with one hop less (R180). -/
def State.forwardFlood (s : State) (port : Nat) (ws : List Word) : State :=
  let k := parsePkt ws
  if k.nhop = 0 then s
  else
    let out := ({ k with nhop := k.nhop - 1 } : Pkt).words
    let ports := if k.ptag = 0 then s.upPorts
      else match s.plotByTag k.ptag with
        | some p => (s.plot p).res.ports.filter s.portUp
        | none => []
    s.ctrlQueueAll (ports.filter (· ≠ port)) k.ptype out

/-- A stretch notice (R37): repeats of a device and target are dropped, of a committed target too; others are merged and
forwarded. -/
def State.stretchNotice (s : State) (port : Nat) (ws : List Word) : State :=
  match s.plotByTag (pktTag ws) with
  | none => s
  | some p =>
    let t := word64 ws 8
    if (s.plot p).tm.notices.contains (pktSrc ws, t) then s
    else
      let s1 := s.onTm p fun x => { x with notices := (pktSrc ws, t) :: x.notices }
      (s1.forwardFlood port ws).wantStretch p t (wordAt ws 10 % 16)

/-- STRETCH_NOTICE (R37). -/
def execStretchNotice (port : Nat) (words : List Word) (s : State) : Host.Outcome State Fault Refusal :=
  .next (s.stretchNotice port words)

/-! ## Votes -/

/-- VOTE of a frame sent in pass Q (R187). -/
def State.voteBits (s : State) (p : Nat) : Nat :=
  let c := (s.plot p).cmt
  let q := (s.plot p).tm.pn
  c.flags.foldl (fun v k => if k ≤ q ∧ q < k + 4 then v ||| 2 ^ (k % 4) else v) 0

/-- A pass has been discarded and not begun again (R185, R193). -/
def State.isDiscarded (s : State) (p k : Nat) : Bool :=
  match (s.plot p).cmt.discarded with
  | some (a, b) => decide (a ≤ k ∧ k ≤ b)
  | none => false

/-- VOTE of a decoded frame of the sender's pass Q (R188, R193, R213). -/
def State.takeVotes (s : State) (p q vote : Nat) : State :=
  if vote = 0 ∨ s.isDiscarded p q = true then s
  else (natsFrom 0 4).foldl (fun s i =>
    let back := (q + 4 - i) % 4
    if vote.testBit i = false ∨ q < back then s
    else
      let k := q - back
      if k < (s.plot p).tm.dpn then s.divergePass p k true
      else s.onCmt p fun c => { c with flags := if c.flags.contains k then c.flags else k :: c.flags }) s

/-! ## Sending -/

/-- n bits of the PRBS generator with error injection (R266): register, bits since the last injection, the single errors
asked for, bits in order of sending. -/
def prbsSend (pat rate : Nat) : Nat → Nat → Nat → Nat → List Bool → Nat × Nat × Nat × List Bool
  | 0, st, since, ones, acc => (st, since, ones, acc.reverse)
  | n + 1, st, since, ones, acc =>
    let b := prbsNext pat st
    let due := rate ≠ 0 ∧ since + 1 ≥ 2 ^ (rate + 3)
    let bit := (b = 1) != (decide (0 < ones) || decide due)
    prbsSend pat rate n ((2 * st + b) % 2 ^ 31) (if due then 0 else since + 1) (if due then ones else ones - 1) (bit :: acc)

/-- The number that bits spell, first bit most significant. -/
def bitsNat (l : List Bool) : Nat := l.foldl (fun a b => 2 * a + b2n b) 0

/-- What leaves a lane: TX_INV inverts it (R249). -/
def State.sendBits (s : State) (q i : Nat) (f : BitVec 896) : State :=
  let w := if s.bit (Reg.LNK_LANE_CTRL q i) 26 then ~~~f else f
  { s with out := { s.out with frame := cset 0 s.out.frame (q * 9 + i) w } }

/-- 896 bits of a lane in test mode (R266, R268): near-end loopbacks carry them to the lane's own checker, the serial one
through the inversions of transmitter and receiver (R249). The generator starts from a state the spec does not give. -/
def State.sendTest (s : State) (q i : Nat) : State :=
  let t := Reg.LNK_LANE_TEST q i
  let pat := s.fld t 30 2
  if s.bit t 29 = false ∨ pat = 0 then s
  else
    let (seed, s0) := if (s.lane q i).gen = 0 then s.takeFree 30 else (0, s)
    let l := s0.lane q i
    let (st, since, ones, bits) := prbsSend pat (s0.fld t 22 5) 896 (if l.gen = 0 then 2 * seed + 1 else l.gen) l.sinceInj l.injOne []
    let s1 := s0.onLane q i fun l => { l with gen := st, sinceInj := since, injOne := ones }
    let lp := s.fld (Reg.LNK_LANE_CTRL q i) 28 2
    let f := BitVec.ofNat 896 (bitsNat bits)
    if lp = 1 then s1.chkBits q i (bits.map fun b => b != (s.bit (Reg.LNK_LANE_CTRL q i) 26 != s.bit (Reg.LNK_LANE_STAT q i) 26))
    else if lp = 2 then (s1.chkBits q i bits).sendBits q i f
    else s1.sendBits q i f

/-- Lanes that carry frames of a port: its own logical lane, or 8 on the spare (R243). -/
def State.frameCount (s : State) (q i : Nat) : State :=
  let s1 := s.onLane q i fun l => { l with frames := l.frames + 1 }
  if s.markEn q && (s1.lane q i).frames % 4096 == 0 then s1.onLane q i fun l => { l with markDue := true } else s1

/-- The ALIVE of the frame that a lane sends now; it counts every frame (R164). -/
def State.nextAlive (s : State) (q i : Nat) : Nat × State :=
  let alive := cget 0 s.xch.txAlive (q * 9 + i)
  (alive, { s with xch := { s.xch with txAlive := cset 0 s.xch.txAlive (q * 9 + i) ((alive + 1) % 256) } })

/-- The header of a frame of lane i (R161): VOTE and HDL of the running plot, PNLOW of its pass. Without one VOTE and HDL
are 0 and PNLOW is not stated. -/
def State.frameHeader (s : State) (q i ftype fidx : Nat) : Nat × State :=
  let (alive, s1) := s.nextAlive q i
  let run := (s.portPlot q).filter s.plotRuns
  match run with
  | some p =>
    let pn := (s.plot p).tm.pn
    (mkHeader ftype alive (s.voteBits p) (s.stretchOf p (pn + s.dlag p + 1)) fidx pn, s1)
  | none =>
    let (v, s2) := s1.takeFree 2
    (mkHeader ftype alive 0 0 fidx v, s2)

/-- Send a frame of lane i with logical lane k; DATA, IDLE and CTRL are scrambled (R246). -/
def State.sendFrame (s : State) (q i k ftype fidx payload : Nat) : State :=
  let (hdr, s1) := s.frameHeader q i ftype fidx
  let f := mkFrame hdr payload
  let w := if ftype = 0 ∨ ftype = 1 ∨ ftype = 3 then scramble k f else f
  (s1.sendBits q i w).frameCount q i

/-- A TRAIN frame (R248, R254): on logical lane 0 in LATENCY a ping, or the answer to one. A marker goes out in its place
(R251). -/
def State.sendTrain (s : State) (q i : Nat) : State :=
  let x := s.port q
  let mark := x.markNow
  let first := x.phase = 5 ∧ s.txLogical q i = 0 ∧ mark = false
  let echo := match x.echoFor with
    | some t => decide first && decide (t + 40 ≤ s.ft.wall)
    | none => false
  let w := match x.echoFor with
    | some t => s.ft.wall - t
    | none => 0
  let ping := decide first && x.pingAt.isNone && !echo
  let s1 := if echo then s.onPort q fun x => { x with echoFor := none }
    else if ping then s.onPort q fun x => { x with pingAt := some s.ft.wall } else s
  let (alive, s2) := s1.nextAlive q i
  let f := mkFrame (mkHeader (if mark then 2 else 4) alive 0 0 63 0) (wordsPayload (s.trainWords q i ping echo w))
  ((s2.onLane q i fun l => { l with trainAlive := alive }).sendBits q i f).frameCount q i

/-- The bits of a fill of r steps: r × 28 bits of alternating 1 and 0, starting with 1 (R158). -/
def fillBits (r : Nat) : Nat := 2 * (4 ^ (14 * r) - 1) / 3

/-- The fill before the slot of frame 0 of a running plot (R158, R159, R290): it is sent unscrambled (R246) and places that slot
at step 31 of the pass. Where a lane's slots lay before its first fill the spec does not say: its length is free. -/
def State.sendFill (s : State) (q i p : Nat) : State :=
  let key := q * 9 + i
  let place := ((s.plot p).tm.start + 31) % 32
  let grid := cget 0 s.xch.txGrid key
  let (r, s1) := if grid = 0 then s.takeFree 5 else ((place + 33 - grid) % 32, s)
  let bits := if s.bit (Reg.LNK_LANE_CTRL q i) 26 then 2 ^ (28 * r) - 1 - fillBits r else fillBits r
  { s1 with xch := { s1.xch with txGrid := cset 0 s1.xch.txGrid key (place + 1) },
            out := { s1.out with fill := cset (0, 0) s1.out.fill key (r, bits) } }

/-- The slot of DATA frame f that is due on logical lane k, or on the spare as 8, of a running plot's port (R158). -/
def State.dataDue (s : State) (q k : Nat) : Option (Nat × Nat) :=
  match (s.portPlot q).filter s.plotRuns with
  | none => none
  | some p =>
    let f := cget 0 s.xch.txFrame (q * 9 + k)
    if f < s.nf p then
      match (s.plot p).tm.phase with
      | .step st => if slotStart f < st then some (p, f) else none
      | .head _ => some (p, f)
      | .stopped => none
    else none

/-- The port's present slot holds a DATA frame on some lane (R162). -/
def State.dataSlot (s : State) (q : Nat) : Bool :=
  (natsFrom 0 8).any fun k => match s.dataDue q k with
    | some (p, f) => !(s.frameClaims p q k f).isEmpty
    | none => false

/-- Lane k sends its slot of the present slot period; a lane that sends again begins the next one (R158, R181). A marker that is
due on a lane goes out on all nine lanes in the first slot that holds no DATA frame (R251). -/
def State.slotMark (s : State) (q k : Nat) : State :=
  let mine := s.xch.slotSent.filter fun e => e.1 == q
  let begins := mine == [] || mine.contains (q, k)
  let old := if begins then s.xch.slotSent.filter fun e => e.1 != q else s.xch.slotSent
  let s1 := { s with xch := { s.xch with slotSent := old ++ [(q, k)] } }
  if begins = false then s1
  else
    let now := (laneIds.any fun i => (s.lane q i).markDue) && !(s.dataSlot q)
    (if now then laneIds.foldl (fun s i => s.onLane q i fun l => { l with markDue := false }) s1 else s1).onPort q
      fun x => { x with markNow := now }

/-- Send the payload of DATA frame f (R162, R165): 0x5555 in groups that no entry claims. -/
def State.sendData (s : State) (q i k f : Nat) (claims : List Nat) : State :=
  let gs := (natsFrom 0 48).map fun g =>
    if claims.contains g then (cget 0x5555 s.xch.txGroups (txKey q k f g)).toNat else 0x5555
  ((s.sendFrame q i k 0 f (groupsPayload gs)).onLane q i fun l => { l with sinceIdle := l.sinceIdle + 1 })

/-- Packet n of a port in the order of R181: the high class first. -/
def State.ctrlNext (s : State) (q n : Nat) : Option CtrlWait :=
  let mine := s.xch.ctrlQ.filter fun w => w.port == q
  (mine.filter (fun w => w.high) ++ mine.filter (fun w => !w.high))[n]?

/-- Send one CTRL packet; the frame of a sync packet is stamped (R276, R277). -/
def State.sendCtrl (s : State) (q i k : Nat) (w : CtrlWait) : State :=
  let s0 := { s with xch := { s.xch with ctrlQ := s.xch.ctrlQ.erase w }, out := { s.out with ctrl := s.out.ctrl ++ [(q, w.words)] } }
  let s1 := if (parsePkt w.words).ptype = 1 then
      s0.onSync q fun x => { x with tx := holdStamp x.tx (wordAt w.words 8 / 65536) (s.txStamp q i) }
    else s0
  (s1.sendFrame q i k 3 63 (wordsPayload w.words)).onLane q i fun l => { l with sinceIdle := l.sinceIdle + 1 }

/-- An IDLE frame is due: the transmitter sends one in every 1,024 frames on a port with SYNC = 0 (R263), early enough for the
markers that may come before it (R162). -/
def State.idleDue (s : State) (q i : Nat) : Bool := !(s.bit (Reg.LNK_PORT_STAT q) 29) && decide ((s.lane q i).sinceIdle ≥ 1014)

/-- Logical lane j has a free non-DATA slot in the present slot period (R181). -/
def State.slotFree (s : State) (q j : Nat) : Bool :=
  let i := s.txLane q j
  let st := s.laneState q i
  let data := match s.dataDue q j with
    | some (p, f) => !(s.frameClaims p q j f).isEmpty
    | none => false
  !(s.xch.slotSent.contains (q, j)) && (st == 0 || st == 6 || st == 8) && !data && !(s.idleDue q i)

/-- A slot that is no DATA frame (R158, R162, R181, R243, R251, R263): ALIGN, an IDLE frame that is due, CTRL, IDLE in that order.
The packets go out in the free slots of a slot period from the lowest-numbered lane on. -/
def State.sendOther (s : State) (q i k : Nat) : State :=
  let lower := ((natsFrom 0 k).filter fun j => s.slotFree q j).length
  if (s.port q).markNow then
    (s.onLane q i fun l => { l with sinceIdle := l.sinceIdle + 1 }).sendFrame q i k 2 63
      (wordsPayload (s.trainWords q i false false 0))
  else match (if k < 8 ∧ s.idleDue q i = false then s.ctrlNext q lower else none) with
    | some w => s.sendCtrl q i k w
    | none => (s.onLane q i fun l => { l with sinceIdle := 0 }).sendFrame q i k 1 63 0

/-- A slot of a lane that carries frames; the slot of frame 0 of a running plot follows a fill (R158). -/
def State.frameSlot (s0 : State) (q i k : Nat) : State :=
  let s := s0.slotMark q k
  match s.dataDue q k with
  | some (p, f) =>
    let s1 := if f = 0 then s.sendFill q i p else s
    let s2 := { s1 with xch := { s1.xch with txFrame := cset 0 s1.xch.txFrame (q * 9 + k) (f + 1) } }
    match s.frameClaims p q k f with
    | [] => s2.sendOther q i k
    | claims => s2.sendData q i k f claims
  | none => s.sendOther q i k

/-- One slot of a lane. A transmitter that carries no logical lane and is not the spare is retired (R260); its receiver does not
matter to it (R258). -/
def State.slot (s0 : State) (q i : Nat) : State :=
  let s := { s0 with out := { s0.out with fill := cdel s0.out.fill (q * 9 + i) } }
  let st := s.laneState q i
  let k := s.txLogical q i
  if st = 7 then s.sendTest q i
  else if st = 8 then (s.slotMark q k).sendOther q i k
  else if (s.lane q i).inSeq ∧ 1 ≤ st ∧ st ≤ 5 then (s.slotMark q k).sendTrain q i
  else if k = 8 ∧ i ≠ 8 then s
  else s.frameSlot q i k

/-- FRAME_TRANSMIT (R158): one slot of a physical lane. -/
def execFrameTransmit (port lane : Nat) (s : State) : Host.Outcome State Fault Refusal := .next (s.slot port lane)

end Sys2Proof.Machine
end

