-- ==== Sys2Proof/Machine/Harvest.lean ====
section
/-! DEFINITION. Harvest (15_harvest.md): records and rings, the event FIFO, probe flush, trigger and reduction units, the
sequencer, fires, arming and stops (R426-R451). The commands that move data to the host are in Machine/Drain.lean. -/

namespace Sys2Proof.Machine
open Sys2Proof

/-! ## Headland stages -/

/-- The plot stands at a part of its headland (R23). -/
def State.atHead (s : State) (p : Nat) (g : Stage) : Bool := (s.plot p).tm.phase == .head g

def State.toHead (s : State) (p : Nat) (g : Stage) : State := s.onTm p fun t => { t with phase := .head g }

/-! ## Records and rings -/

/-- Records that lie below a position leave the ring; undrained ones count as lost (R435). -/
def Ring.overwrite (low : Nat) : List (Nat × Nat × Bool × Nat × Nat × Bool) → Ring → Ring
  | [], r => { r with recs := [] }
  | e :: es, r =>
    if e.1 < low then
      if r.dptr ≤ e.1 then
        let fresh := r.lostBytes = 0
        Ring.overwrite low es { r with lostBytes := r.lostBytes + e.2.1, dptr := e.1 + e.2.1,
                                       lostSeq := if fresh then e.2.2.2.2.1 else r.lostSeq,
                                       lostEpoch := if fresh then e.2.2.2.2.2 else r.lostEpoch }
      else Ring.overwrite low es r
    else { r with recs := e :: es }

/-- Write one record at the write position (R428, R435): the ring, and the offset and dwords written. -/
def Ring.append (size : Nat) (x : Rec) (r : Ring) : Ring × (Nat × List Word) :=
  let n := 32 * x.len
  let r1 := Ring.overwrite (r.total + n - size) r.recs r
  let entry := (r.total, n, x.plot.isSome, x.plot.getD 0, r.seq, r.epoch)
  ({ r1 with recs := r1.recs ++ [entry], total := r.total + n, seq := (r.seq + 1) % 2 ^ 32,
             epoch := if r.seq + 1 = 2 ^ 32 then !r.epoch else r.epoch, syncRecs := r.syncRecs + 1 },
    (r.total % size, x.words r.seq r.epoch))

/-- Bytes from the write position to the end of the ring that a record does not fit into (R435). -/
def Ring.gap (size : Nat) (x : Rec) (r : Ring) : Nat :=
  let left := size - r.total % size
  if 32 * x.len ≤ left then 0 else left

/-- Write a record, with the PAD before it that the end of the ring asks for (R435): the ring, and what is written. -/
def Ring.put (size : Nat) (x : Rec) (r : Ring) : Ring × List (Nat × List Word) :=
  if size < 32 * x.len then (r, [])
  else
    let g := r.gap size x
    if g = 0 then let (r1, w1) := r.append size x; (r1, [w1])
    else
      let (r1, w1) := r.append size { rtype := 0x15, len := g / 32, plot := x.plot, pn := x.pn, ft := x.ft, body := [] }
      let (r2, w2) := r1.append size x
      (r2, [w1, w2])

/-- Size of the device event ring (R426). -/
def devRingSize : Nat := 2 ^ 26

/-- Size of a plot's ring (R435). -/
def State.ringSize (s : State) (p : Nat) : Nat := s.fld (Reg.HVT_RING p) 16 15 * mib2

def State.hvtState (s : State) (p : Nat) : Nat := s.fld (Reg.HVT_STAT p) 28 4
def State.hvtStateSet (s : State) (p v : Nat) : State := s.put (Reg.HVT_STAT p) 28 4 v
def State.hvtBuf (s : State) (p : Nat) : Nat := s.fld (Reg.HVT_CFG p) 30 2

/-- Staging bytes drained by a step: 512 GB/s (R427). -/
def State.stageRate (s : State) : Nat := 512000 / s.stepMhz

/-- Staging bytes in use (R427). -/
def State.staged (s : State) : Nat := s.hvt.staging - s.ft.wall * s.stageRate

/-- The 8 MiB of staging have room for n bytes more (R427). -/
def State.stageRoom (s : State) (n : Nat) : Bool := decide (s.staged + n ≤ 2 ^ 23)

/-- Bytes enter staging. -/
def State.stageAdd (s : State) (n : Nat) : State :=
  { s with hvt := { s.hvt with staging := max s.hvt.staging (s.ft.wall * s.stageRate) + n } }

/-- Device HBM address of a byte of a plot's ring (R435): none where its page is lifted. -/
def State.ringByte (s : State) (p off : Nat) : Option Nat :=
  let i := s.fld (Reg.HVT_RING p) 0 15
  match (s.plot p).res.map[i + off / mib2]? with
  | some e => if e.lifted then none else some (e.page * mib2 + off % mib2)
  | none => none

/-- Write bytes of a plot's ring in HBM, 8 bytes at a time. -/
def State.ringStore (s : State) (p off : Nat) (bs : List Byte) : State :=
  (natsFrom 0 (bs.length / 8)).foldl (fun s i => match s.ringByte p (off + 8 * i) with
    | some a => s.hbmStore a ((bs.drop (8 * i)).take 8)
    | none => s) s

/-- The registers of a plot's stream follow its ring (R452). -/
def State.hvtMirror (s : State) (p : Nat) : State :=
  let r := (s.plot p).hvt.ring
  let size := s.ringSize p
  let s1 := (s.rnSet64 (Reg.HVT_WPTR_LO p) (r.total % size)).rnSet64 (Reg.HVT_DPTR_LO p) (r.dptr % size)
  let s2 := (s1.rnSet (Reg.HVT_SEQ p) r.seq).putBit (Reg.HVT_STAT p) 24 r.epoch
  s2.putBit (Reg.HVT_STAT p) 18 (decide (size ≤ r.total) && size ≠ 0)

/-- A record and its padding go into a plot's ring in memory (R426); LOSS shows that undrained bytes were overwritten (R435). -/
def State.plotStore (s : State) (p : Nat) (x : Rec) (put : Ring × List (Nat × List Word)) : State :=
  let s1 := put.2.foldl (fun (s : State) w => s.ringStore p w.1 (wordsBytes w.2)) (s.stageAdd (32 * x.len))
  let s2 := (s1.onHvt p fun h => { h with ring := put.1 }).hvtMirror p
  if (s.plot p).hvt.ring.lostBytes < put.1.lostBytes then s2.setBit (Reg.HVT_STAT p) 19 else s2

/-- Write a record into a plot's stream (R435): in FILL mode capture stops before undrained bytes are overwritten. -/
def State.plotPut (s : State) (p : Nat) (x : Rec) : State :=
  let size := s.ringSize p
  let r := (s.plot p).hvt.ring
  if s.hvtBuf p = 0 ∨ s.hvtBuf p = 3 ∨ size < 32 * x.len then s
  else if s.hvtBuf p = 2 ∧ size < r.total + r.gap size x + 32 * x.len - r.dptr then s.hvtStop p 3 (s.newest p) s.ftNs
  else
    s.plotStore p x (r.put size x)

/-- Write a record into the device event ring. -/
def State.devPut (s : State) (x : Rec) : State :=
  let s1 := s.stageAdd (32 * x.len)
  let (r, ws) := s1.hvt.ring.put devRingSize x
  let mem := ws.foldl (fun m w => csetList 0 m (w.1 / 4) w.2) s1.hvt.evMem
  { s1 with hvt := { s1.hvt with ring := r, evMem := mem } }.rnSet Reg.HVT_EVT_SEQ r.seq

/-- One event record leaves the FIFO for the streams it belongs to (R426). -/
def State.eventOut (s : State) (e : EvRec) (trunc : Bool) : State :=
  let x : Rec := { rtype := e.rtype, len := e.len, plot := e.plot, pn := e.pn, ft := e.ft, body := e.body, trunc := trunc }
  let s1 := if e.toDev then s.devPut x else s
  match e.plot with
  | some p => if e.toPlot then s1.plotPut p x else s1
  | none => s1

/-- A LOSS record of the device ring (R427, R451). -/
def State.devLoss (s : State) (count cause : Nat) : State :=
  s.devPut { rtype := 3, len := 1, plot := none, pn := 0, ft := s.ftNs, body := [BitVec.ofNat 32 count, BitVec.ofNat 32 cause] }

/-- Records leave the FIFO while staging has room for one in each stream (R427); the others stay in it. -/
def State.fifoRun (s : State) : List EvRec → State
  | [] => s
  | e :: es =>
    if s.stageRoom (64 * e.len) then (s.eventOut e false).fifoRun es
    else { s with hvt := { s.hvt with fifo := e :: es ++ s.hvt.fifo } }

/-- The event FIFO drains into the streams while firmware is RUNNING (R426, R427). -/
def State.drainFifo (s : State) : State :=
  if s.running = false ∨ 2 ≤ s.pwrState then s
  else
    let s1 := { s with hvt := { s.hvt with fifo := [] } }.fifoRun s.hvt.fifo
    if s.hvt.dropped = 0 ∨ s1.stageRoom 32 = false then s1
    else { s1 with hvt := { s1.hvt with dropped := 0 } }.devLoss s.hvt.dropped 1

/-- TIME_SYNC body (R429). -/
def State.syncBody (s : State) (cpn : Nat) : List Word :=
  [s.ft.ft % 2 ^ 32, s.ftState * 2 ^ 28 + s.fld Reg.FT_STAT 8 8 * 256, s.rn Reg.FT_OFFSET, cpn, cpn / 2 ^ 32, s.devId].map
    (BitVec.ofNat 32)

/-- When the next TIME_SYNC of a stream is due, and its ring (R430). -/
def State.syncWait (s : State) (r : Ring) : State := if r.syncRecs ≥ 4096 then s else s.waitUntil (r.syncFt + 1000)

/-- A TIME_SYNC record of a plot's stream. -/
def State.plotSync (s : State) (p : Nat) : State :=
  let s1 := s.plotPut p { rtype := 2, len := 2, plot := some p, pn := (s.plot p).tm.pn, ft := s.ftNs,
                          body := s.syncBody (s.plot p).tm.cpn }
  s1.onHvt p fun h => { h with ring := { h.ring with syncFt := s.ftNs, syncRecs := 0 } }

/-- A TIME_SYNC record of the device event ring. -/
def State.devSync (s : State) : State :=
  let s1 := s.devPut { rtype := 2, len := 2, plot := none, pn := 0, ft := s.ftNs, body := s.syncBody 0 }
  { s1 with hvt := { s1.hvt with ring := { s1.hvt.ring with syncFt := s.ftNs, syncRecs := 0 } } }

/-- TIME_SYNC_RECORD (R427, R430): stream p of a plot, 16 for the device event ring; one that finds no room in staging is still to
be written, and in deep fallow no stream is being written (R451). -/
def execTimeSyncRecord (stream : Nat) (s : State) : Host.Outcome State Fault Refusal :=
  .next <|
    if 2 ≤ s.pwrState then s
    else if stream < 16 then
      if s.hvtState stream = 1 ∨ s.hvtState stream = 2 then
        let s1 := s.syncWait (s.plot stream).hvt.ring
        if s1.stageRoom 64 then s1.plotSync stream else s1
      else s
    else if s.running then
      let s1 := s.syncWait s.hvt.ring
      if s1.stageRoom 64 then s1.devSync else s1
    else s

/-! ## Trigger and reduction units -/

/-- The probe word of a unit: WM1 + 1 values from FIRST on, X where the descriptor supplies none (R438). -/
def State.probeWord (s : State) (u : Nat) (vals : List Val) : List Val :=
  (natsFrom (s.fld (Reg.HVT_TU_CFG u) 15 5) (s.fld (Reg.HVT_TU_CFG u) 20 5 + 1)).map fun i => nth .vx vals i

/-- The word a unit saw in the current pass (R438). -/
def State.unitWord (s : State) (p u : Nat) : List Val :=
  match (s.plot p).hvt.words.find? fun e => e.1 == u with
  | some e => s.probeWord u e.2
  | none => s.probeWord u []

/-- A word as an integer (R439). -/
def wordInt (signed : Bool) (vs : List Val) : Int :=
  if signed then signedOf (vBits vs) vs.length else (vBits vs : Int)

/-- LO or HI as an integer of the unit's signedness. -/
def State.boundInt (s : State) (signed : Bool) (a : Nat) : Int := if signed then (s.rg a).toInt else (s.rn a : Int)

/-- The masked values of a word. -/
def State.masked (s : State) (u : Nat) (vs : List Val) : List (Nat × Val) :=
  ((natsFrom 0 vs.length).zip vs).filter fun e => (s.rn (Reg.HVT_TU_MASK u)).testBit e.1

/-- Edge of one bit under an EDGE kind (R439). -/
def edgeHit (kind : Nat) (a b : Val) : Bool :=
  match kind with
  | 0 => Val.known a && Val.known b && a != b
  | 1 => a == .v0 && b == .v1
  | 2 => a == .v1 && b == .v0
  | _ => false

/-- The condition of modes 1 to 4, and whether X or Z decides it (R439). -/
def State.unitCond (s : State) (u : Nat) (vs : List Val) (prev : Option (List Val)) : Bool × Bool :=
  let c := s.rn (Reg.HVT_TU_CFG u)
  let m := s.masked u vs
  let xm := m.any fun e => !(Val.known e.2)
  let lo := s.rn (Reg.HVT_TU_LO u)
  match nfld c 29 3 with
  | 1 => (m.all (fun e => (e.2 == .v1) == lo.testBit e.1) && !xm, xm)
  | 2 =>
    let x := vs.any fun v => !(Val.known v)
    let w := wordInt (c.testBit 27) vs
    (!x && decide (s.boundInt (c.testBit 27) (Reg.HVT_TU_LO u) ≤ w ∧ w ≤ s.boundInt (c.testBit 27) (Reg.HVT_TU_HI u)), x)
  | 3 => match prev with
    | some old => (m.any fun e => edgeHit (nfld c 25 2) (nth .vx old e.1) e.2, m.any fun e => !(Val.known e.2) || !(Val.known (nth .vx old e.1)))
    | none => (false, xm)
  | 4 => (xm, false)
  | _ => (false, true)

/-- The hit of modes 1 to 4 (R439). -/
def State.unitHit (s : State) (u : Nat) (vs : List Val) (prev : Option (List Val)) : Bool :=
  let (hit, x) := s.unitCond u vs prev
  if (s.rn (Reg.HVT_TU_CFG u)).testBit 28 then !hit && !x else hit

/-- Units of a plot. -/
def State.units (s : State) (p : Nat) : List Nat := (s.plot p).res.tus

/-- The word of the pass before pn: of an uncommitted pass, or of the newest committed one. The first pass after arming has none
(R439). -/
def HvtSt.before (h : HvtSt) (pn u : Nat) : Option (List Val) :=
  if pn ≤ h.armPn then none
  else match h.passWords.find? fun e => e.1 + 1 == pn && e.2.1 == u with
    | some e => some e.2.2
    | none => (h.prevWord.find? fun e => e.1 == u).map (·.2)

/-- Hits and words of the pass that ends (R439); those of an earlier execution are replaced (R440). -/
def State.unitsEval (s : State) (p : Nat) : State :=
  let pn := (s.plot p).tm.pn
  let h := (s.plot p).hvt
  let words := (s.units p).map fun u => (pn, u, s.unitWord p u)
  let hits := (s.units p).filterMap fun u =>
    if s.unitHit u (s.unitWord p u) (h.before pn u) then some (pn, u) else none
  s.onHvt p fun h => { h with hits := h.hits.filter (fun e => e.1 < pn) ++ hits, words := [],
                              passWords := h.passWords.filter (fun e => e.1 < pn) ++ words }

/-- Units in event mode whose event becomes final at the commit of pass k (R439). -/
def State.eventHits (s : State) (p k : Nat) : List (Nat × Nat) :=
  (s.units p).filterMap fun u =>
    let idx := s.fld (Reg.HVT_TU_SRC u) 24 5
    let mine := if s.fld (Reg.HVT_TU_CFG u) 29 3 ≠ 6 then false
      else match s.fld (Reg.HVT_TU_SRC u) 29 3 with
        | 0 => (s.plot p).res.fios.contains idx && (s.fio idx).compares.any fun c => c.pn == k
        | 1 => (s.plot p).res.sigs.contains idx && (s.sig idx).results.any fun r => r.pn == k && r.mismatch
        | 2 => (s.plot p).res.sigs.contains idx && (s.sig idx).results.any fun r => r.pn == k && r.alive != 0
        | _ => false
    if mine then some (k, u) else none

/-- A reduction unit reads the word of a committed pass (R441): samples with X or Z are counted apart. A REDUCE record that finds
no room in staging waits behind the event FIFO (R427; DESIGN CHOICE, log 86). -/
def State.reduceStep (s : State) (p k u : Nat) : State :=
  let h := (s.plot p).hvt
  let word := (h.passWords.find? fun e => e.1 == k && e.2.1 == u).map fun e => e.2.2
  let vs := word.getD []
  let signed := s.bit (Reg.HVT_TU_CFG u) 27
  let (n, x, mn, mx, ok) := match h.reduce.find? fun e => e.1 == u with
    | some e => e.2
    | none => (0, 0, 0, 0, false)
  let bad := vs.any fun v => !(Val.known v)
  let w := wordInt signed vs
  let now : Nat × Nat × Int × Int × Bool :=
    if word.isNone then (n, x, mn, mx, ok)
    else if bad then (n, x + 1, mn, mx, ok) else (n + 1, x, if ok then min mn w else w, if ok then max mx w else w, true)
  let redk := s.fld (Reg.HVT_TU_SRC u) 19 5
  let rest := h.reduce.filter fun e => e.1 != u
  if (k + 1) % 2 ^ redk = 0 then
    let s1 := s.onHvt p fun h => { h with reduce := rest }
    if s.hvtState p = 1 ∨ s.hvtState p = 2 then
      let e : EvRec :=
        { rtype := 9, len := 2, plot := some p, pn := k, ft := s.ftNs, toDev := false, toPlot := true,
          body := [BitVec.ofNat 32 (u + redk * 256 + b2n now.2.2.2.2 * 65536), BitVec.ofNat 32 now.1,
                   BitVec.ofNat 32 now.2.1, BitVec.ofInt 32 (if now.2.2.2.2 then now.2.2.1 else 0),
                   BitVec.ofInt 32 (if now.2.2.2.2 then now.2.2.2.1 else 0)] }
      if s1.stageRoom 64 then s1.eventOut e false else { s1 with hvt := { s1.hvt with fifo := s1.hvt.fifo ++ [e] } }
    else s1
  else s.onHvt p fun h => { h with reduce := rest ++ [(u, now)] }

/-- The reduction units of a plot at the commit of pass k. -/
def State.reduceAll (s : State) (p k : Nat) : State :=
  ((s.units p).filter fun u => s.fld (Reg.HVT_TU_CFG u) 29 3 == 5).foldl (fun s u => s.reduceStep p k u) s

/-! ## Fires, hold-off and stops -/

/-- The capture stop that follows from POST_KIND, when a fire with T = t is taken (R443, R446). -/
def State.postPn (s : State) (p : Nat) : Nat := s.rn64 (Reg.HVT_TRIG_PN_LO p) + s.rn (Reg.HVT_POST p)

def State.postKind (s : State) (p : Nat) : Nat := s.fld (Reg.HVT_CFG p) 26 2

/-- FT ns at which an FT post count ends. -/
def State.postFt (s : State) (p : Nat) : Nat := (s.plot p).hvt.fireFt + 1000 * s.rn (Reg.HVT_POST p)

/-- TRIGGER record (R443). -/
def State.triggerRec (s : State) (p t mask dev : Nat) : State :=
  (s.plotInt p 8).event
    { rtype := 7, len := 1, plot := some p, pn := t, ft := s.ftNs, toDev := true, toPlot := true,
      body := [BitVec.ofNat 32 mask, BitVec.ofNat 32 (dev % 2 ^ 18 + s.fld (Reg.HVT_STAT p) 25 3 * 2 ^ 18)] }

/-- The stream becomes FIRED with T = t at a fire FT (R443). -/
def State.fired (s : State) (p t ft : Nat) : State :=
  ((s.rnSet64 (Reg.HVT_TRIG_PN_LO p) t).hvtStateSet p 2).onHvt p fun h => { h with fireFt := ft }

/-- FIRE packet (R446, R447). -/
def State.fireFlood (s : State) (p : Nat) : State :=
  let (t, ft) := (s.plot p).hvt.fireOwn
  s.flood p 2 [2, t, t / 2 ^ 32, ft, ft / 2 ^ 32, s.devId]

/-- Hold-off of COUNT_MODE begins (R444). -/
def State.holdOff (s : State) (p : Nat) : State :=
  let n := s.rn (Reg.HVT_HOLD p)
  let kind := s.fld (Reg.HVT_CFG p) 23 2
  if kind = 0 ∨ n = 0 then s.put (Reg.HVT_STAT p) 25 3 0
  else (s.setBit (Reg.HVT_STAT p) 23).onHvt p fun h => { h with hold := if kind = 2 then s.ftNs + 1000 * n else n }

/-- Hold-off ends: the sequencer returns to state 0 (R443). -/
def State.holdEnd (s : State) (p : Nat) : State :=
  ((s.clrBit (Reg.HVT_STAT p) 23).put (Reg.HVT_STAT p) 25 3 0).onHvt p fun h => { h with cnt := 0 }

/-- A hold-off counts a committed pass with its hits (R444); one in FT counts none. -/
def State.holdCount (s : State) (p hits : Nat) : State :=
  let kind := s.fld (Reg.HVT_CFG p) 23 2
  let h := (s.plot p).hvt
  if kind = 2 then s
  else
    let dec := if kind = 1 then 1 else b2n (hits.testBit (s.fld (Reg.HVT_CFG p) 18 5))
    if h.hold ≤ dec then s.holdEnd p else s.onHvt p fun h => { h with hold := h.hold - dec }

/-- The sequencer fires with T = q (R443). -/
def State.fire (s : State) (p q hits : Nat) : State :=
  let s1 := (s.triggerRec p q hits s.devId).count (Reg.HVT_FIRE_CNT p)
  if s.bit (Reg.HVT_CFG p) 25 then s1.holdOff p
  else
    let s2 := s1.fired p q s.ftNs
    let s3 := if s.bit (Reg.HVT_CFG p) 17 then
        (s2.onHvt p fun h => { h with fireRep := 10, fireNext := s.ftNs + 100000, fireOwn := (q, s.ftNs) }).fireFlood p
      else s2
    if s3.postKind p = 1 ∧ s3.rn (Reg.HVT_POST p) = 0 then s3.hvtStop p 0 q s.ftNs else s3

/-- A hold-off counted in FT whose end has come is over (R444). -/
def State.holdOver (s : State) (p : Nat) : State :=
  if s.bit (Reg.HVT_STAT p) 23 = true ∧ s.fld (Reg.HVT_CFG p) 23 2 = 2 ∧ (s.plot p).hvt.hold ≤ s.ftNs then s.holdEnd p else s

/-- The sequencer steps once on the committed hits of pass q (R442). -/
def State.seqStep (s0 : State) (p q hits : Nat) : State :=
  let s := s0.holdOver p
  if s.hvtState p ≠ 1 then s
  else if s.bit (Reg.HVT_STAT p) 23 then s.holdCount p hits
  else
    let st := s.fld (Reg.HVT_STAT p) 25 3
    let mask := s.rn (Reg.HVT_SEQST_MASK p st)
    let ctl := s.rn (Reg.HVT_SEQST_CTL p st)
    let go := if ctl.testBit 31 then decide (hits &&& mask = mask) else decide (hits &&& mask ≠ 0)
    if mask = 0 ∨ go = false then s
    else
      let cnt := (s.plot p).hvt.cnt + 1
      if cnt < max (nfld ctl 0 16) 1 then s.onHvt p fun h => { h with cnt := cnt }
      else
        let s1 := s.onHvt p fun h => { h with cnt := 0 }
        if ctl.testBit 30 then s1.fire p q hits else s1.put (Reg.HVT_STAT p) 25 3 (nfld ctl 27 3)

/-- Hits of the units of a plot in a pass, as a mask. -/
def HvtSt.hitMask (h : HvtSt) (q : Nat) : Nat := h.hits.foldl (fun m e => if e.1 = q then m ||| 2 ^ e.2 else m) 0

/-- HVT_TU_HITS and HIT_LAST at a commit (R440, R453). -/
def State.hitCounts (s : State) (p mask : Nat) : State :=
  (s.units p).foldl (fun s u =>
    let s1 := s.putBit (Reg.HVT_TU_STAT u) 0 (mask.testBit u)
    if mask.testBit u then s1.count (Reg.HVT_TU_HITS u) else s1) s

/-- Words and hits of passes up to q leave; the word of q is the previous one from now on. -/
def HvtSt.settle (h : HvtSt) (q : Nat) : HvtSt :=
  let mine := h.passWords.filter fun e => e.1 == q
  { h with due := false, hits := h.hits.filter fun e => q < e.1,
           passWords := h.passWords.filter fun e => q < e.1,
           prevWord := if mine = [] then h.prevWord else mine.map fun e => e.2 }

/-- What a commit of pass q does at headland steps 10-23: hits, reductions, sequencer (R440-R442). -/
def State.hvtCommit (s : State) (p q : Nat) : State :=
  let mask := (s.plot p).hvt.hitMask q
  (((s.hitCounts p mask).reduceAll p q).seqStep p q mask).onHvt p fun h => h.settle q

/-- A failed decision discards the hits of passes from k on (R440). -/
def State.hvtDiscard (s : State) (p k : Nat) : State :=
  s.onHvt p fun h => { h with hits := h.hits.filter fun e => e.1 < k, passWords := h.passWords.filter fun e => e.1 < k,
                              probes := [], words := [] }

/-- The stops that act at headland step 0 (R443); k is the pass that commits there, if any. -/
def State.hvtStep0 (s : State) (p : Nat) (k : Option Nat) : State :=
  if s.hvtState p ≠ 2 then s
  else if s.postKind p = 1 then (if k = some (s.postPn p) then s.hvtStop p 0 (s.postPn p) s.ftNs else s)
  else if s.postKind p = 2 ∧ s.postFt p ≤ s.ftNs then s.hvtStop p 1 (s.newest p) (s.postFt p)
  else s

/-- Probe word stream of one furrow: its PROBE record (R429, R432). -/
def State.probeRec (s : State) (p furrow : Nat) (vals : List Val) : Rec :=
  let n := vals.length
  let packed := packVals vals
  { rtype := 1, len := 1 + (n + 127) / 128, plot := some p, pn := (s.plot p).tm.pn, ft := s.ftNs,
    body := [BitVec.ofNat 32 (furrow + s.retry p * 512 + n * 8192), 0] ++
      (natsFrom 0 ((n + 15) / 16)).map fun i => BitVec.ofNat 32 (packed / 2 ^ (32 * i)) }

/-- The values that each furrow captured in the pass, furrows ascending (R432). -/
def State.probeSets (s : State) (p : Nat) : List (Nat × List Val) :=
  (s.plot p).res.furrows.filterMap fun l =>
    let vs := ((s.plot p).hvt.probes.filter fun e => e.1 == l).flatMap (·.2)
    if vs = [] then none else some (l, vs.take 512)

/-- LOSS record of a plot's stream (R421, R433); LOSS of HVT_STAT shows it. -/
def State.plotLoss (s : State) (p pn count cause : Nat) : State :=
  (s.plotPut p { rtype := 3, len := 1, plot := some p, pn := pn, ft := s.ftNs,
                 body := [BitVec.ofNat 32 count, BitVec.ofNat 32 cause] }).setBit (Reg.HVT_STAT p) 19

/-- The LOSS record of the passes whose probes were dropped is due (R433). -/
def State.lossDue (s : State) (p : Nat) : State :=
  if (s.plot p).hvt.lost = 0 then s
  else (s.plotLoss p (s.plot p).hvt.lostPn (s.plot p).hvt.lost 0).onHvt p fun h => { h with lost := 0, lostPn := 0 }

/-- A stream that has stopped, or whose plot stands still, has room for its LOSS record (R433). -/
def State.lossAfter (s : State) (p : Nat) : State :=
  if (s.plot p).hvt.lost ≠ 0 ∧ (s.hvtState p = 3 ∨ s.plotRuns p = false) ∧ s.pwrState < 2 ∧ s.stageRoom 32 = true then s.lossDue p
  else s

/-- A pass of probes is lost: the condition of Harvest, and the pass joins those that the next LOSS record names (R433). -/
def State.probesLost (s : State) (p cause : Nat) : State :=
  let pn := (s.plot p).tm.pn
  ((s.raiseAt Blk.hvt Reg.HVT_DEV_STAT cause p (some p) pn).setBit (Reg.HVT_STAT p) 19).onHvt p fun h =>
    { h with lost := h.lost + 1, lostPn := if h.lost = 0 then pn else h.lostPn }

/-- The PROBE records of a flush leave for the ring while capture goes on (R432, R435): one whose flit the network loses, or whose
express slot a retired plane took, is reported by a LOSS record (R421). -/
def State.probeWrite (s : State) (p : Nat) (recs : List Rec) : State :=
  recs.foldl (fun s r =>
    if s.hvtState p ≠ 1 ∧ s.hvtState p ≠ 2 then s
    else
      let x := s.express
      if x.1 = true ∨ s.slotLost p (nfld ((nth 0 r.body 0).toNat) 0 9) 64 = true then x.2.plotLoss p r.pn 1 4 else x.2.plotPut p r) s

/-- The probe flush (R432, R433); `bad` says that a staging word of its first record is uncorrectable: the record is discarded
(R454). -/
def State.probeFlush (s : State) (p : Nat) (bad : Bool) : State :=
  let sets := s.probeSets p
  let clean := s.onHvt p fun h => { h with probes := [] }
  if (s.hvtState p ≠ 1 ∧ s.hvtState p ≠ 2) ∨ s.bit (Reg.HVT_CFG p) 29 = false ∨ s.suppressed p = true then clean
  else
    let recs := sets.map fun e => s.probeRec p e.1 e.2
    let bytes := recs.foldl (fun a r => a + 32 * r.len) 0
    if s.stageRoom bytes = false then (clean.count (Reg.HVT_LOSS_CNT p)).probesLost p 1
    else if bad = true ∧ recs ≠ [] then ((clean.lossDue p).probeWrite p recs.tail).probesLost p 3
    else (clean.lossDue p).probeWrite p recs

/-! ## Arming and stopping by command or packet -/

/-- The stream arms (R442, R445): by command, or by packet with the arming device. -/
def State.arm (s : State) (p dev : Nat) (late packet : Bool) : State :=
  let s1 := ((s.hvtStateSet p 1).put (Reg.HVT_STAT p) 25 3 0).clrBit (Reg.HVT_STAT p) 23
  let s2 := s1.onHvt p fun h => { h with cnt := 0, prevWord := [], armPn := (s.plot p).tm.pn + 1, reduce := [],
                                         armAt := none, hold := 0 }
  let s3 := if late then s2.setBit (Reg.HVT_STAT p) 22 else s2
  s3.record 6 1 (some p) (s.plot p).tm.pn [b2n late + 2 * b2n packet, dev]

/-- A pending arm acts at steps 10-23 of the headland it names, or of the next (R445). The number beside it is 0 for a
command, and 1 + the arming device for a packet. -/
def State.armDue (s : State) (p : Nat) : State :=
  match (s.plot p).hvt.armAt with
  | none => s
  | some (at_, cmd, by_) =>
    let pn := (s.plot p).tm.pn
    let due := match at_ with
      | none => true
      | some n => decide (n ≤ pn)
    if due = false then s
    else
      let late := by_ ≠ 0 && at_ != some pn
      if s.hvtState p = 0 then
        let s1 := s.arm p (if by_ = 0 then s.devId else by_ - 1) late (by_ ≠ 0)
        match cmd with
        | some id => s1.finish id Status.ok 0
        | none => s1
      else
        let s1 := s.onHvt p fun h => { h with armAt := none }
        match cmd with
        | some id => s1.finish id Status.busy 0
        | none => s1

/-- A pending TRACE_STOP acts (R448). -/
def State.stopDue (s : State) (p : Nat) : State :=
  match (s.plot p).hvt.stopAt with
  | none => s
  | some (at_, id) =>
    let due := match at_ with
      | none => true
      | some n => decide (n ≤ (s.plot p).tm.pn)
    if due = false then s
    else
      let s1 := s.onHvt p fun h => { h with stopAt := none }
      (s1.hvtStop p 2 (s.newest p) s.ftNs).finish id Status.ok (s.firedPn p)

/-- A double-bit error is armed for a staging word of a plot (R471). -/
def State.stageBad (s : State) (p : Nat) : Bool :=
  s.inject.any fun i => i.reg == Reg.HVT_FI_CTRL && i.addr % 16 == p && nfld i.ctrl 28 2 == 1

/-- A probe flush meets the injections armed for its plot (R471); a dropped event counts (R427). -/
def State.hvtInject (s : State) (p : Nat) : State :=
  s.injectAt Reg.HVT_FI_CTRL (fun a => a % 16 == p) (fun _ s => s) fun cause _ s =>
    let s1 := s.raiseAt Blk.hvt Reg.HVT_DEV_STAT cause p (some p) (s.plot p).tm.pn
    if cause = 0 then s1.count Reg.HVT_EVT_LOSS_CNT else s1

/-- PROBE_FLUSH (R432, R439-R445): the commit's hits and sequencer, stops, the units of the ending pass and its flush,
then a pending arm. A failing headland flushes nothing. -/
def execProbeFlush (p : Nat) (s0 : State) : Host.Outcome State Fault Refusal :=
  .next <|
    if s0.atHead p .flush = false then s0
    else
      let s := s0.drainFifo.hvtInject p
      let hl := (s.plot p).tm.hl
      let pn := (s.plot p).tm.pn
      let s1 := if hl.commit && (s.plot p).hvt.due then s.hvtCommit p (pn - s.dlag p) else s
      let s2 := s1.stopDue p
      let s3 := if hl.fail || s.suppressed p then s2.onHvt p fun h => { h with probes := [], words := [] }
        else (s2.unitsEval p).probeFlush p (s0.stageBad p)
      (s3.armDue p).toHead p .check

/-- HOLDOFF_EXPIRY (R444): a hold-off counted in FT ends. -/
def execHoldoffExpiry (p : Nat) (s : State) : Host.Outcome State Fault Refusal :=
  .next <|
    if s.bit (Reg.HVT_STAT p) 23 && s.fld (Reg.HVT_CFG p) 23 2 == 2 then
      (s.waitUntil (s.plot p).hvt.hold).holdEnd p
    else s

/-- FT_POST_EXPIRY (R450): an FT post count that ends while the plot passes no headland. -/
def execFtPostExpiry (p : Nat) (s : State) : Host.Outcome State Fault Refusal :=
  .next <|
    if s.hvtState p = 2 ∧ s.postKind p = 2 ∧ s.plotRuns p = false then
      let s1 := s.waitUntil (s.postFt p)
      s1.hvtStop p 1 (s1.newest p) (s.postFt p)
    else s

/-- ARM packet (R445). -/
def State.armPacket (s : State) (ws : List Word) : State :=
  match s.plotByTag (pktTag ws) with
  | none => s
  | some p =>
    if s.hvtState p = 0 ∧ (s.plot p).hvt.armAt = none then
      s.onHvt p fun h => { h with armAt := some (some (word64 ws 9), none, 1 + wordAt ws 13 % 2 ^ 18) }
    else s

/-- ARM (R445). -/
def execArm (_port : Nat) (words : List Word) (s : State) : Host.Outcome State Fault Refusal := .next (s.armPacket words)

/-- FIRE packet (R446). -/
def State.firePacket (s : State) (ws : List Word) : State :=
  match s.plotByTag (pktTag ws) with
  | none => s
  | some p =>
    let t := word64 ws 9
    let ft := word64 ws 11
    let st := s.hvtState p
    let below := st == 1 || (st == 2 && decide (t < s.rn64 (Reg.HVT_TRIG_PN_LO p)))
    if st = 0 then s
    else if below = false then s.setBit (Reg.HVT_STAT p) 20
    else if s.bit (Reg.HVT_CFG p) 17 = false then s
    else
      let s0 := (s.triggerRec p t 0 (wordAt ws 13)).count (Reg.HVT_FIRE_CNT p)
      let s1 := s0.fired p t ft
      let stop := s1.postPn p
      if s.bit (Reg.HVT_CFG p) 25 then s0.holdOff p
      else if s1.postKind p = 1 ∧ stop < (s.plot p).tm.cpn then (s1.setBit (Reg.HVT_STAT p) 21).hvtStop p 5 stop s.ftNs
      else s1

/-- FIRE (R446). -/
def execFire (_port : Nat) (words : List Word) (s : State) : Host.Outcome State Fault Refusal := .next (s.firePacket words)

/-- FIRE_REPEAT (R446): every 100 µs of FT for 1 ms. -/
def execFireRepeat (p : Nat) (s : State) : Host.Outcome State Fault Refusal :=
  .next <|
    if (s.plot p).hvt.fireRep = 0 then s
    else
      let s1 := s.waitUntil (s.plot p).hvt.fireNext
      (s1.onHvt p fun h => { h with fireRep := h.fireRep - 1, fireNext := h.fireNext + 100000 }).fireFlood p

/-- FALLOW_ENTER or FALLOW_LEAVE (R450, R451). -/
def State.fallowRec (s : State) (p : Option Nat) (enter : Bool) (level ns : Nat) : State :=
  let body := if enter then [level] else [ns % 2 ^ 32, ns / 2 ^ 32 % 2 ^ 30 + level * 2 ^ 30]
  s.event { rtype := if enter then 4 else 5, len := 1, plot := p, pn := (match p with
              | some q => (s.plot q).tm.pn
              | none => 0),
            ft := s.ftNs, body := body.map (BitVec.ofNat 32), toDev := true, toPlot := p.isSome }

/-- Reduction and edge history restart (R449). -/
def State.hvtRestart (s : State) (p : Nat) : State := s.onHvt p fun h => { h with reduce := [], prevWord := [] }

end Sys2Proof.Machine
end

