-- ==== Sys2Proof/Machine/Commit.lean ====
section
/-! DEFINITION. The start of a pass and headland steps 0-9: the commit decision, version advance and restore, stake capture,
input latch, output release and write-queue marks (R23, R24, R31, R56, R61, R185-R198, R205-R208). -/

namespace Sys2Proof.Machine
open Sys2Proof

/-! ## Timetable values -/

/-- VWIN of a plot (R22). -/
def State.vwin (s : State) (p : Nat) : Nat := s.fld (Reg.PLT_PASS_CFG p) 8 8

/-- Base headland H = 24 + VWIN (R22). -/
def State.headBase (s : State) (p : Nat) : Nat := 24 + s.vwin p

/-- L + H. -/
def State.passBase (s : State) (p : Nat) : Nat := s.passLen p + s.headBase p

/-- Stake slice length S (R27). -/
def State.sliceLen (s : State) (p : Nat) : Nat := 64 * s.fld (Reg.PLT_HL_CFG p) 8 6

/-- Refresh interval K of the registers' L and VWIN (R31). -/
def State.refreshK (s : State) (p : Nat) : Nat := (if s.boot.grade20 then 7800 else 6630) / s.passBase p

/-- PLT_HL_CFG: K reads 0 while REF_EN is 0 (R30, R41). -/
def State.hlCfg (s : State) (p : Nat) : Nat :=
  let v := s.rn (Reg.PLT_HL_CFG p)
  if v.testBit 31 then v else v - nfld v 16 8 * 2 ^ 16

/-- Refresh budget B (R31). -/
def State.refreshB (s : State) (p : Nat) : Nat := nfld (s.hlCfg p) 16 8 * s.passBase p

/-- The physical furrows of a plot. -/
def State.plotPhys (s : State) (p : Nat) : List Nat := (s.plot p).res.furrows.map s.phys

/-- The pass that begins next: the first one discarded and not begun again, or the one after the present one. -/
def State.nextPass (s : State) (p : Nat) : Nat :=
  match (s.plot p).cmt.discarded with
  | some (a, _) => a
  | none => (s.plot p).tm.pn + 1

/-! ## State versions and data memory -/

/-- Copy every slot of one version of a furrow into another: the target rows are written whole, those of an uncorrectable
source row with X (R56, R76). -/
def State.copyRows (s : State) (f src dst : Nat) : State :=
  let lo := stateRow f dst 0 0
  let copied := ccopy s.bp.sstore (stateKey f src 0 0) (stateKey f dst 0 0) 32768
  let lost := (s.badRows f src).filter fun e => e.2 == 2
  { s with bp := { s.bp with sstore := lost.foldl (fun m e => cclear m (stateKey f dst 0 0 + 32 * e.1) 32) copied },
           ecc := s.ecc.filter fun e => !(e.1 % 16 == Item.stateRow && decide (lo ≤ e.1 / 16 ∧ e.1 / 16 < lo + 1024)) }

/-- The version that pass n writes takes every slot of another version of a plot; what its rows hold is charged to pass n
(R56, R76). -/
def State.versionCopy (s : State) (p src dst n : Nat) : State :=
  (s.plotPhys p).foldl (fun s f => ((s.rowsTouch p f src).copyRows f src dst).rowsCheck p f src n) s

/-- Version advance: version P into version P + 1 (R56). -/
def State.versionAdvance (s : State) (p : Nat) : State :=
  let pn := (s.plot p).tm.pn
  s.versionCopy p (s.verOf p pn) (s.verOf p (pn + 1)) (pn + 1)

/-- Restore: version k - 1 over version k (R56). -/
def State.versionRestore (s : State) (p k : Nat) : State := s.versionCopy p (s.verBefore p k) (s.verOf p k) k

/-- Rows of a furrow whose state slots data memory carries. -/
def carriedRows (carry : List (Nat × Nat)) : List Nat := (carry.map fun e => e.1 % 32768 / 32).dedup

/-- Reload data memory before pass n (R61): carried slots from the version that the pass reads, other slots X. -/
def State.reloadData (s : State) (p n : Nat) : State :=
  let ver := s.verBefore p n
  (s.plotPhys p).foldl (fun s00 f =>
    let s0 := s00.rowsTouch p f ver
    let mine := s0.bp.carry.filter fun e => f * 32768 ≤ e.1 && e.1 < (f + 1) * 32768
    let s := ((s0.badRows f ver).filter fun e => (carriedRows mine).contains e.1).foldl
      (fun s e => s.rowRead p f ver n e) s0
    let cleared := cclear s.bp.dmem (dmemKey f 0 0) 131072
    let dmem := mine.foldl (fun d e =>
      let b := e.1 / 256 % 128
      cset .vx d (dmemKey f b (e.2 - 1)) (s.slotRead f ver b (e.1 % 256))) cleared
    { s with bp := { s.bp with dmem := dmem },
             ecc := s.ecc.filter fun e => !(e.1 % 16 == Item.dmemRow && dmemRow f 0 0 ≤ e.1 / 16 && e.1 / 16 < dmemRow (f + 1) 0 0) }) s

/-- Write a state slot of BP b in the version that pass n reads, in the version it writes, and its carried slot, as a poke
or force does in a headland (R58, R62). `l` is the logical furrow. -/
def State.pokeSlot (s : State) (p n l b t : Nat) (v : Val) : State :=
  let f := s.phys l
  let s1 := (s.stateSet f (s.verBefore p n) b t v).stateSet f (s.verOf p n) b t v
  match cget 0 s.bp.carry (f * 32768 + b * 256 + t) with
  | 0 => s1
  | c + 1 => s1.dmemSet f b c v

/-! ## The start of a pass -/

/-- Values that live within one pass return to their start (R52, R92, R117, R236), and send slots start at frame 0 (R158). -/
def State.clearPass (s : State) (p : Nat) : State :=
  let s1 := (s.plotPhys p).foldl (fun s f =>
    { s with bp := { s.bp with bus := cclear s.bp.bus (f * 128) 128, offered := cclear s.bp.offered (f * 128) 128,
                               slotTag := cclear s.bp.slotTag (dmemKey f 0 0) 131072,
                               stateTag := cclear s.bp.stateTag (f * 32768) 32768 },
             fur := { s.fur with memRet := cclear s.fur.memRet (f * 64) 64, rx := cclear s.fur.rx (f * 16) 16,
                                 rxTag := cclear s.fur.rxTag (f * 16) 16, retTag := cclear s.fur.retTag (f * 64) 64 } }) s
  let mine := (s.plot p).res.furrows
  let sent := s1.sw.sent.filter fun e => !(mine.contains (e.1 / 16384))
  let pres := s1.sw.pres.filter fun e => !(presKey p 0 0 0 ≤ e.1 && e.1 < presKey (p + 1) 0 0 0)
  let ecc := s1.ecc.filter fun e => !(e.1 % 16 == Item.d2d && e.1 / 16 / 49152 == p)
  let s2 := { s1 with sw := { s1.sw with sent := sent, pres := pres }, ecc := ecc }
  (s.plot p).res.ports.foldl (fun s q =>
    { s with xch := { s.xch with txFrame := cclear s.xch.txFrame (q * 9) 9,
                                 txGroups := cclear s.xch.txGroups (txKey q 0 0 0) (txKey 1 0 0 0) } }) s2

/-- Microseconds of wall time since the pause began (R214, R218). -/
def State.pauseUs (s : State) (p : Nat) : Nat := min (2 ^ 32 - 1) ((s.ftNs - (s.plot p).cmt.pauseSince) / 1000)

/-- The suppressed span ends with pass n: the plot runs unsuppressed, and the signature units restart (R204, R319). -/
def State.spanEnd (s : State) (p n : Nat) : State :=
  let s1 := (s.clrBit (Reg.PLT_CMT_STAT p) 7).cmtStateSet p
    (if (s.plot p).cmt.lastFail = some n ∧ s.retry p ≠ 0 then 2 else 1)
  (s1.onCmt p fun c => { c with suppress := none }).sigRestartAll p

/-- Recoveries whose pass k the plot reaches with pass n are complete, and the ROLLBACKs among them (R204, R215). With the last
one the suppressed span ends. -/
def State.recoveryDone (s : State) (p n : Nat) : State :=
  let ended := (s.plot p).cmt.recov.filter fun e => decide (e.1 ≤ n)
  if ended = [] then s
  else
    let left := (s.plot p).cmt.recov.filter fun e => !decide (e.1 ≤ n)
    let s1 := ended.foldl (fun s _ => s.count (Reg.PLT_RECOVER_CNT p)) (s.setBit (Reg.PLT_CMT_STAT p) 5)
    let s2 := (s1.rnSet (Reg.PLT_RECOVER_LAST p) (s.pauseUs p)).onCmt p fun c => { c with recov := left }
    ended.foldl (fun s e => s.finishOpt e.2 Status.ok e.1) (if left = [] then s2.spanEnd p n else s2)

/-- Pass n begins with its step 0. -/
def State.beginPass (s : State) (p n : Nat) : State :=
  let s1 := s.onPlot p fun x =>
    { x with tm := { x.tm with pn := n, phase := .step 0, hl := {}, start := x.tm.due },
             cmt := { x.cmt with
               discarded := match x.cmt.discarded with
                 | some (a, b) => if a ≤ n then (if b ≤ n then none else some (n + 1, b)) else some (a, b)
                 | none => none,
               hazards := x.cmt.hazards.filter (· ≠ n) },
             hvt := { x.hvt with probes := [], words := [] } }
  (((s1.recoveryDone p n).clearPass p).sigPassStart p n).askStretch p

/-- The L steps of the pass are over: its headland begins (R23). -/
def State.beginHeadland (s : State) (p : Nat) : State :=
  let pn := (s.plot p).tm.pn
  let s0 := { s with gln := { s.gln with wrCount := (s.plotPhys p).foldl cdel s.gln.wrCount } }
  let s1 := (s0.stagePass p).sigPassEnd p pn
  (s1.onPlot p fun x =>
    { x with tm := { x.tm with phase := .head .commit, headTop := max x.tm.headTop (pn + 1),
                               hl := { again := decide (pn < x.cmt.top) } },
             cmt := { x.cmt with top := max x.cmt.top (pn + 1) } }).readyPlot p

/-! ## Swaps (R126, R174) -/

/-- The swap registers, XCH_RGN_STAT and PLT_SW_STAT, each with the pass its pending or last swap names. -/
def State.swapRegs (s : State) (p : Nat) : List (Nat × Nat) :=
  [(Reg.XCH_RGN_STAT p, s.rn64 (Reg.XCH_RGN_SWAP_PN_LO p)), (Reg.PLT_SW_STAT p, s.rn64 (Reg.PLT_SW_SWAP_PN_LO p))]

/-- At the end of the headland of pass n, swaps that name n take effect. -/
def State.swapsEnd (s : State) (p n : Nat) : State :=
  (s.swapRegs p).foldl (fun s e =>
    if e.2 = n ∧ s.bit e.1 1 = true then
      ((s.putBit e.1 0 (!(s.bit e.1 0))).clrBit e.1 1).setBit e.1 2
    else s) s

/-- Pass k commits: the old half or bank of a swap named k is free. -/
def State.swapsCommit (s : State) (p k : Nat) : State :=
  (s.swapRegs p).foldl (fun s e => if e.2 ≤ k ∧ s.bit e.1 1 = false then s.clrBit e.1 2 else s) s

/-- Passes from k on are executed again: a swap that named one of them is taken back and waits again. -/
def State.swapsBack (s : State) (p k : Nat) : State :=
  (s.swapRegs p).foldl (fun s e =>
    if k ≤ e.2 ∧ s.bit e.1 2 = true then ((s.putBit e.1 0 (!(s.bit e.1 0))).setBit e.1 1).clrBit e.1 2 else s) s

/-! ## Stakes: capture (R205-R208) -/

/-- The plot takes stakes (R205). -/
def State.takesStakes (s : State) (p : Nat) : Bool :=
  s.fld (Reg.PLT_STAKE_CFG p) 24 5 ≠ 0 && s.fld (Reg.PLT_STAKE_CFG p) 0 16 ≠ 0 && s.fld (Reg.PLT_HL_CFG p) 8 6 ≠ 0

/-- A stake of PN n is due by the timetable or by STAKE (R205). -/
def State.stakeDue (s : State) (p n : Nat) : Bool :=
  s.takesStakes p && decide (0 < n) &&
    (n % 2 ^ s.fld (Reg.PLT_STAKE_CFG p) 24 5 == 0 || (s.plot p).cmt.extra.any fun e => e.1 == n)

/-- STAKE record (R429): 0 captured, 1 promoted, 2 incomplete, 3 skipped, 4 overflow. -/
def State.stakeRec (s : State) (p kind n : Nat) : State := s.record 0x0c 1 (some p) n [kind]

/-- The gates that a plot is the source of, with the values they present. -/
def State.gateVals (s : State) (p : Nat) : List (Nat × Val) :=
  (s.gatesOf p false).map fun g => (g, bitsVal (s.fld (Reg.FUR_GATE g) 0 2))

/-- What a stake of PN n copies (R206). A slot of an uncorrectable row or RAM word is read as X (R76, R106). -/
def State.copyFor (s : State) (p n : Nat) : StakeCopy :=
  let ver := s.verBefore p n
  let ls := (s.plot p).res.furrows
  let undone := (s.plotPhys p).foldl (fun s f => s.undoRestore p f n) s
  { pn := n,
    state := ls.flatMap fun l => s.bp.sstore.filterMap fun e =>
      let r := e.1 - stateKey (s.phys l) ver 0 0
      if stateKey (s.phys l) ver 0 0 ≤ e.1 ∧ r < 32768 ∧ s.slotRead (s.phys l) ver (r / 256) (r % 256) ≠ .vx then
        some (l * 32768 + r, e.2) else none,
    ram := ls.flatMap fun l => undone.fur.ram.filterMap fun e =>
      if e.1 / 32768 = s.phys l ∧ s.eccAt Item.ramWord (e.1 / 64) ≠ 2 then some (l * 32768 + e.1 % 32768, e.2) else none,
    reads := s.hbm.reads.filter fun r => r.plot == p && decide (r.issuePn < n ∧ n ≤ r.pn),
    groups := s.xch.held.filter fun h => h.plot == p && decide (h.sentPn < n ∧ n ≤ h.pn),
    gates := s.gateVals p, outs := [] }

/-- A row that is read while no pass of the plot executes (R76): a single-bit error is corrected and written back, an uncorrectable
one raises DATA_UE, which no pass is charged with. `b` is the BP, `mark` the row's ECC mark. -/
def State.rowIdle (s : State) (p f kind row b mark : Nat) : State :=
  if mark = 1 then (s.idleCause p f 2 0 b).eccSet kind row 0 else s.idleCause p f 3 0 b

/-- Every row of a plot's data memory is read (R76). -/
def State.dataChecks (s : State) (p : Nat) : State :=
  (s.plotPhys p).foldl (fun s0 f =>
    (s0.ecc.filter fun e => e.1 % 16 == Item.dmemRow && e.1 / 16 / 4096 == f).foldl
      (fun s e => s.rowIdle p f Item.dmemRow (e.1 / 16) (e.1 / 16 % 4096 / 32) e.2) s0) s

/-- Data memory as reads give it: X in the slots of an uncorrectable row (R76). -/
def State.dmemSafe (s : State) : Cells Val :=
  (s.ecc.filter fun e => e.1 % 16 == Item.dmemRow && e.2 == 2).foldl (fun d e => cclear d (32 * (e.1 / 16)) 32) s.bp.dmem

/-- The rows and RAM words that a copy for pass n reads raise their conditions: charged to the executing pass of a plot that
runs (R76, R106; DEDUCED, log 54). -/
def State.copyChecks (s : State) (p n : Nat) : State :=
  let ver := s.verBefore p n
  let pn := (s.plot p).tm.pn
  (s.plotPhys p).foldl (fun s0 f =>
    let s := s0.rowsTouch p f ver
    let s1 := if s.plotRuns p then s.rowsCheck p f ver pn
      else (s.badRows f ver).foldl (fun s e => s.rowIdle p f Item.stateRow (stateRow f ver 0 0 + e.1) (e.1 / 8) e.2) s
    (s1.ecc.filter fun e => e.1 % 16 == Item.ramWord && e.1 / 16 / 512 == f).foldl
      (fun s e => (s.ramCheck p f (e.1 / 16 % 512 * 64) 0).2) s1) s

/-- The capture headland of stake n (R205, R206, R208). -/
def State.capture (s : State) (p n : Nat) : State :=
  let mine := (s.plot p).cmt.extra.filter fun e => e.1 == n
  match (s.plot p).cmt.stake with
  | some _ =>
    let s1 := (((s.setBit (Reg.PLT_STAKE_STAT p) 3).plotInt p 9).stakeRec p 3 n).onCmt p fun c =>
      { c with extra := c.extra.filter fun e => e.1 != n }
    mine.foldl (fun s e => s.finishOpt e.2 Status.busy 0) s1
  | none =>
    let run : StakeRun := { copy := s.copyFor p n, slices := 0, body := 0, overflow := false }
    let s1 := ((s.copyChecks p n).onCmt p fun c => { c with stake := some run }).setBit (Reg.PLT_STAKE_STAT p) 30
    (s1.put (Reg.PLT_STAKE_STAT p) 13 16 0).stakeRec p 0 n

/-! ## Host operations applied again (R25, R95, R148, R196) -/

/-- One record applied again for the pass it was recorded with (R25, R95, R148). -/
def State.reapplyRec (s : State) (p : Nat) : LogRec → State
  | .poke n l b t v => s.pokeSlot p n l b t v
  | .force n l b t v => s.pokeSlot p n l b t v
  | .ramWrite n l base vs => s.ramStore p (s.phys l) base n 0 vs true
  | .memWrite n a bs =>
    match s.wqEnter ⟨pcOf a, p, a, bs, n, 0, 0, false, true⟩ with
    | (true, s1) => s1
    | (false, s1) => s1.wqOverflow p (pcOf a) a n
  | .sigRestart _ u => s.sigRestart u
  | _ => s

/-- Host writes of furrow RAM and design memory that pass n sees, applied again when a replay or a recovery begins with
pass n: its headland is not executed again. -/
def State.reapplyMem (s : State) (p n : Nat) : State :=
  ((s.plot p).cmt.log.filter fun r => LogRec.pn r == n).foldl (fun s r => match r with
    | .ramWrite _ _ _ _ => s.reapplyRec p r
    | .memWrite _ _ _ => s.reapplyRec p r
    | _ => s) s

/-! ## The commit decision -/

/-- Free the log records of committed passes: below the recovery point, or below the stake that may become it, or all of
them while C = 0 (R211). -/
def State.logCommit (s : State) (p k : Nat) : State :=
  if s.fld (Reg.PLT_STAKE_CFG p) 24 5 = 0 then s.logTrim p (k + 1)
  else if s.bit (Reg.PLT_STAKE_STAT p) 31 ∨ (s.stakeFrom p).isSome = true then s
  else s.logTrim p (k + 1)

/-- A stop of the plot at step 23 with a fault (R150, R198, R238). -/
def State.stopFor (s : State) (p status : Nat) : State := (s.onCmt p fun c => { c with stopNow := true }).noteFault p status

/-- A pass more has committed since RUN or STEP_PASS started (R374). -/
def State.runProgress (s : State) (p : Nat) : State :=
  { s with cmd := { s.cmd with store := s.cmd.store.map fun c =>
      if c.plot == p && (c.opc == 0x30 || c.opc == 0x32) && c.stage == .blocked then { c with pos := c.pos + 1 } else c } }

/-- A commit of pass k is one of a pass that committed before a recovery took the plot back (R204). -/
def State.commitsAgain (s : State) (p k : Nat) : Bool := s.suppressed p || decide (k < (s.plot p).tm.cpn)

/-- Pass k commits (R24, R192, R197). The design has seen a pass that committed before (R204): neither in the suppressed span nor
at the headlands after it that decide passes of the span is anything released or delivered again (DEDUCED, log 53). -/
def State.commitPass (s : State) (p k : Nat) : State :=
  let sup := s.commitsAgain p k
  let c := (s.plot p).cmt
  let fresh := k = (s.plot p).tm.cpn
  let s1 := s.onPlot p fun x =>
    { x with tm := { x.tm with dpn := k + 1, cpn := max x.tm.cpn (k + 1),
                               stretch := x.tm.stretch.filter fun e => k < e.1 },
             cmt := { x.cmt with kept := if sup then x.cmt.kept else none,
                                 flags := x.cmt.flags.filter (k < ·), voted := x.cmt.voted.filter (k < ·),
                                 charges := x.cmt.charges.filter fun e => k < e.pn,
                                 hazards := x.cmt.hazards.filter (k < ·), poisoned := x.cmt.poisoned.filter (k < ·) },
             hvt := if sup then x.hvt else { x.hvt with due := true, hits := x.hvt.hits ++ s.eventHits p k } }
  let s2 := (if fresh then s1.runProgress p else s1).put (Reg.PLT_CMT_FAIL p) 0 4 0
  let s3 := (s2.plotPhys p).foldl (fun s f => s.undoFree f k) s2
  let s4 := ((s3.readsCommit p k).heldCommit p k).swapsCommit p k
  let s5 := if sup then s4 else ((s4.sigCommit p k).corunCommit p k).bridgeCommit p k
  let s6 := if c.poisoned.contains k then s5.stopFor p Status.dataLoss else s5
  let s7 := if c.hazards.contains k && s.bit (Reg.PLT_EVAL_CFG p) 5 && !sup then
      (s6.stopFor p Status.plotFault).plotInt p 5 else s6
  let s8 := if s.cmtState p = 2 ∧ c.lastFail = some k then s7.cmtStateSet p 1 else s7
  let s9 := if fresh ∧ s.stakeDue p (k + 1) = true then s8.capture p (k + 1) else s8
  s9.logCommit p k

/-- EXPOSED (R198): passes k to P were released on DIRECT ports. -/
def State.exposure (s : State) (p k : Nat) : State :=
  if (s.plot p).res.fios.any fun q => s.fioDirect q && s.fioRole q != 2 then
    let s1 := (((s.setBit (Reg.PLT_CMT_STAT p) 2).plotState p 6 0 []).plotInt p 1).onCmt p
      fun c => { c with exposed := true }
    if s.bit (Reg.PLT_CMT_CFG p) 8 then s1.onCmt p fun c => { c with stopNow := true } else s1
  else s

/-- The status that RUN, STEP_PASS and HALT complete with at a stop (R26, R198). -/
def State.stopStatus (s : State) (p : Nat) : Nat :=
  let c := (s.plot p).cmt
  match (if c.exposed then worseFault c.fault Status.plotFault else c.fault) with
  | some f => f
  | none => Status.ok

/-- The action after a failure (R192): replay turn, and hold. -/
def failAction (retry limit : Nat) : Bool × Bool :=
  if limit ≤ retry then (false, true) else if retry = 2 then (true, true) else (true, false)

/-- Pass k fails (R24, R192, R193, R198, R199, R200); the staging of the executing pass stays on DIRECT ports, which
release it. -/
def State.failPass (s : State) (p k : Nat) : State :=
  let pn := (s.plot p).tm.pn
  let c := (s.plot p).cmt
  let retry := if c.lastFail = some k then min 15 (s.retry p + 1) else 1
  let (turn, hold) := failAction retry (s.fld (Reg.PLT_CMT_CFG p) 0 4)
  let s1 := ((s.put (Reg.PLT_CMT_FAIL p) 0 4 retry).rnSet64 (Reg.PLT_FAIL_PN_LO p) k).count (Reg.PLT_REPLAY_CNT p)
  let s2 := s1.onPlot p fun x =>
    { x with tm := { x.tm with hl := { x.tm.hl with fail := true, replay := turn, hold := hold } },
             cmt := { x.cmt with flags := x.cmt.flags.filter (pn < ·), voted := x.cmt.voted.filter (· < k),
                                 charges := x.cmt.charges.filter fun e => e.pn == k,
                                 discarded := some (k, pn), lastFail := some k, hostFrom := max x.cmt.hostFrom (pn + 1),
                                 hazards := x.cmt.hazards.filter (· < k) } }
  let s3 := (s2.record 0x0a 1 (some p) k [pn, pn / 2 ^ 32]).versionRestore p k
  let s4 := (((s3.fioDiscard p k (pn + 1)).gateDiscard p k).sigDiscard p k).hvtDiscard p k
  let s5 := if s.cmtState p = 1 then s4.cmtStateSet p 2 else s4
  (s5.swapsBack p k).exposure p k

/-- COMMIT_DECISION (R24, R192): headland steps 0-1. -/
def execCommitDecision (p : Nat) (s : State) : Host.Outcome State Fault Refusal :=
  .next <|
    if s.atHead p .commit = false then s
    else
      let pn := (s.plot p).tm.pn
      let k := pn - s.dlag p
      let due := s.dlag p ≤ pn ∧ (s.plot p).tm.dpn ≤ k
      let s1 := if due then
          if (s.plot p).cmt.flags.contains k then (s.hvtStep0 p none).failPass p k
          else
            let s2 := s.onTm p fun t => { t with hl := { t.hl with commit := true } }
            ((s2.commitPass p k).versionAdvance p).hvtStep0 p (if s.commitsAgain p k then none else some k)
        else (s.versionAdvance p).hvtStep0 p none
      (s1.spend p 2).toHead p .latch

/-- INPUT_LATCH (R123, R297): headland steps 2-5; a pass executed before takes its inputs from the input log. -/
def execInputLatch (p : Nat) (pins : List (Nat × Nat)) (s : State) : Host.Outcome State Fault Refusal :=
  .next <|
    if s.atHead p .latch = false then s
    else
      let n := s.nextPass p
      ((s.latchAll p n pins).sampleGates p n).toHead p .release

/-- OUTPUT_RELEASE (R122, R194, R197, R204): headland steps 2-5. The headland of a re-executed pass that takes no decision, or
that commits a pass a second time, releases nothing. -/
def execOutputRelease (p : Nat) (s : State) : Host.Outcome State Fault Refusal :=
  .next <|
    if s.atHead p .release = false then s
    else if s.suppressed p then (s.spend p 4).toHead p .mark
    else
      let k := (s.plot p).tm.pn - s.dlag p
      let hl := (s.plot p).tm.hl
      let fresh := hl.commit && decide ((s.plot p).tm.cpn = k + 1)
      let s1 := s.releaseAll p (!hl.again || fresh || hl.fail) (if fresh then some k else none)
      ((if fresh then s1.gateUpdate p k else s1).spend p 4).toHead p .mark

/-- WRITE_QUEUE_COMMIT_MARK (R144): headland steps 6-9. -/
def execWriteQueueCommitMark (p : Nat) (s : State) : Host.Outcome State Fault Refusal :=
  .next <|
    if s.atHead p .mark = false then s
    else
      let hl := (s.plot p).tm.hl
      let k := (s.plot p).tm.pn - s.dlag p
      let s1 := if hl.fail then s.wqDiscard p k else if hl.commit then s.wqCommit p k else s
      (s1.spend p 4).toHead p .apply

end Sys2Proof.Machine
end

