-- ==== Sys2Proof/Machine/Holds.lean ====
section
/-! DEFINITION. Heal and recovery holds, resumption, suppression, stake promotion, and the plot control packets of
commit (07_commit_and_stakes.md R199-R217; R105, R231, R260, R261). -/

namespace Sys2Proof.Machine
open Sys2Proof

/-- The devices of a plot (R332); a plot whose image names none runs on this device alone. -/
def State.devicesOf (s : State) (p : Nat) : List Nat :=
  match (s.plot p).img.devices with
  | [] => [s.devId]
  | ds => ds

/-- The coordinator of a hold: the lowest device ID (R203). -/
def State.coordinator (s : State) (p : Nat) : Bool := (s.devicesOf p).all fun d => s.devId ≤ d

def State.onHold (s : State) (p : Nat) (f : Hold → Hold) : State := s.onCmt p fun c => { c with hold := c.hold.map f }

/-- FT is locked (R203). -/
def State.ftLocked (s : State) : Bool := s.ftState == 2

/-! ## Resumption (R203) -/

/-- RESUME is accepted: the hold has a start instant. -/
def State.resumeAt (s : State) (p pass ft : Nat) : State :=
  if (s.plot p).cmt.hold.isSome then s.onCmt p fun c => { c with resume := some (pass, ft) } else s

/-- READY from every device (R203): the coordinator floods RESUME for its own FT plus 50 µs. A device that reports
failure, or another recovery point, fails the hold (R202). -/
def State.readyCheck (s : State) (p : Nat) : State :=
  match (s.plot p).cmt.hold with
  | none => s
  | some h =>
    if h.ready.any (fun r => r.2.2 || (h.recovery && h.sent.isSome && r.2.1 != h.point)) = true then s.recoveryFailed p
    else if (s.plot p).cmt.resume.isNone && s.coordinator p &&
        (s.devicesOf p).all (fun d => h.ready.any fun r => r.1 == d) then
      let ft := s.ftNs + 50000
      let pass := if h.recovery then h.point else h.k
      (s.floodCtl p 0x13 0 0 pass ft).resumeAt p pass ft
    else s

/-- A READY packet counts (R199, R201, R203). -/
def State.holdReady (s : State) (p dev point : Nat) (failed : Bool) : State :=
  (s.onHold p fun h => { h with ready := h.ready.filter (fun r => r.1 != dev) ++ [(dev, point, failed)] }).readyCheck p

/-! ## Heal hold (R199) -/

/-- Rewrite XT entries from the copy in HBM (R172, R200). -/
def State.xtRewrite (s : State) (es : List Nat) : State :=
  es.foldl (fun s e => { s with xch := { s.xch with xt := cset 0 s.xch.xt e (cget 0 s.xch.xtCopy e) } }) s

/-- Acres in which a plot has furrows. -/
def State.plotAcres (s : State) (p : Nat) : List Nat := (natsFrom 0 4).filter fun a => (s.plot p).res.furrows.any fun l => acreOf l == a

/-- Both banks of the stage settings of some acres are rebuilt from the seed shadow (R200). -/
def State.selectsRewrite (s : State) (acres : List Nat) : State :=
  { s with ecc := s.ecc.filter fun e => !(e.1 % 16 == Item.select && acres.contains (selAcre (e.1 / 16))) }

/-- The configuration items that a charged event may have found uncorrectable, as keys of the ECC record (R45, R84, R85,
R125): the word fetched, the PSW, what the PSW names, the select. -/
def State.chargedItems (s : State) (p : Nat) (c : Charge) : List Nat :=
  let loc := c.loc.toNat
  let st := nfld loc 8 10
  if c.block = Block.furrow then
    match c.cause with
    | 1 => [eccKey Item.imem (imemKey c.unit (nfld loc 0 7) st)]
    | 5 => [eccKey Item.psw (c.unit * 1024 + st)]
    | 7 =>
      let w := pswOf (cget 0 s.fur.psw (c.unit * 1024 + st))
      [eccKey Item.gather (c.unit * 256 + w.mdesc), eccKey Item.window (c.unit * 256 + w.mdesc),
        eccKey Item.probe (c.unit * 256 + w.prbd), eccKey Item.sigdesc (c.unit * 256 + w.sigd)]
    | _ => []
  else if c.block = Block.switch ∧ c.cause = 5 then
    [eccKey Item.select (selIdx (s.bank p) c.unit (nfld loc 13 13) (nfld loc 0 10))]
  else []

/-- The XT entries that charged events found uncorrectable (R172). -/
def chargedEntries (cs : List Charge) : List Nat :=
  ((cs.filter fun c => c.block == Block.xch && c.cause == 1).map fun c => c.loc.toNat % 2 ^ 31).dedup

/-- The firmware work of a heal hold on pass k (R199): the items found uncorrectable in its failed executions are rewritten,
and counted. -/
def State.healWork (s : State) (p k : Nat) : Nat × State :=
  let cs := (s.plot p).cmt.charges.filter fun c => c.pn == k
  let items := ((cs.flatMap (s.chargedItems p)).dedup).filter fun i => cget 0 s.ecc i == 2
  let xts := (chargedEntries cs).filter fun e => xtDecode (cget 0 s.xch.xt e) = XtRead.lost
  (items.length + xts.length, ({ s with ecc := s.ecc.filter fun e => !(items.contains e.1) }).xtRewrite xts)

/-- HEAL_WORK_DONE (R199): the items are rewritten and HEAL_READY is flooded. -/
def execHealWorkDone (p : Nat) (s : State) : Host.Outcome State Fault Refusal :=
  .next <| match (s.plot p).cmt.hold with
  | some h =>
    if h.recovery = true ∨ h.sent ≠ none then s
    else
      let (n, s1) := (s.lateApply p).healWork p h.k
      let bad := !s.ftLocked
      let s2 := s1.onHold p fun h => { h with sent := some s.ftNs, action := min 255 n, failed := bad }
      (s2.floodCtl p 0x11 (min 255 n) (b2n bad) h.k 0).holdReady p s.devId h.k bad
  | none => s

/-! ## Recovery hold (R200, R201) -/

/-- Physical furrows charged with a condition that a spare cures (R200). -/
def chargedFurrows (cs : List Charge) : List Nat :=
  (cs.filter fun c => (c.block == Block.furrow && c.cause != 13)).map (·.unit) |>.eraseDups

/-- Acres charged with an uncorrectable select or a hedge block (R200). -/
def chargedAcres (cs : List Charge) : List Nat :=
  (cs.filter fun c => c.block == Block.switch && (c.cause == 1 || c.cause == 5)).map (·.unit) |>.eraseDups

/-- Lanes charged with frame errors, port * 16 + logical lane (R200), those of a spare aside. -/
def chargedLanes (cs : List Charge) : List Nat :=
  ((cs.filter fun c => c.block == Block.xch && c.cause != 1 && c.unit % 16 != 8).map (·.unit)).eraseDups

/-- An event for which there is no remedy (R200): no spare replaces a port's spare lane. -/
def noRemedy (c : Charge) : Bool :=
  (c.block == Block.furrow && c.cause == 13) || (c.block == Block.switch && c.cause == 4) ||
    (c.block == Block.mem && c.cause != 1) || (c.block == Block.xch && c.cause != 1 && c.unit % 16 == 8)

/-- Spare physical furrows of an acre (R104, R105). -/
def State.spares (s : State) (a : Nat) : List Nat :=
  (natsFrom (132 * a) 132).filter fun f => !s.fur.failed.contains f && !s.boot.fusedOut.contains f && (s.logicalOf f).isNone

/-- Configuration of a physical furrow written to another from the seed shadow (R105), with the output staging of its bindings
(R102). -/
def State.moveConfig (s : State) (l old new : Nat) (settings : List (Nat × Nat × Nat)) : State :=
  let s1 := { s with
    bp := { s.bp with imem := ccopy s.bp.imem (imemKey old 0 0) (imemKey new 0 0) 131072,
                      carry := ccopy s.bp.carry (old * 32768) (new * 32768) 32768 },
    fur := { s.fur with outStage := ccopy s.fur.outStage (old * 32) (new * 32) 32,
                        psw := ccopy s.fur.psw (old * 1024) (new * 1024) 1024,
                        gdesc := ccopy s.fur.gdesc (old * 256) (new * 256) 256,
                        win := ccopy s.fur.win (old * 256) (new * 256) 256,
                        pdesc := ccopy s.fur.pdesc (old * 256) (new * 256) 256,
                        sdesc := ccopy s.fur.sdesc (old * 256) (new * 256) 256 } }
  (settings.filter fun e => e.1 == l).foldl (fun s e => s.rnSet (0x1000000 + 0x1000 * new + e.2.1) e.2.2) s1

/-- A furrow is power-gated: its values are lost (R105, R411). -/
def State.gateFurrow (s : State) (f : Nat) : State :=
  let keep := fun (e : Nat × Nat) => !((e.1 % 16 == Item.stateRow && e.1 / 16 / 8192 == f) ||
    (e.1 % 16 == Item.dmemRow && e.1 / 16 / 4096 == f) || (e.1 % 16 == Item.ramWord && e.1 / 16 / 512 == f))
  { s with bp := { s.bp with sstore := cclear s.bp.sstore (stateKey f 0 0 0) 262144, dmem := cclear s.bp.dmem (dmemKey f 0 0) 131072,
                             bus := cclear s.bp.bus (f * 128) 128 },
           fur := { s.fur with ram := cclear s.fur.ram (f * 32768) 32768, undo := cdel s.fur.undo f },
           ecc := s.ecc.filter keep }

/-- The owner fields of FUR_CFG move from one physical furrow to another (R105, R109). -/
def State.moveOwner (s : State) (p old new : Nat) : State :=
  let s1 := (s.clrBit (Reg.FUR_CFG old) 31).put (Reg.FUR_CFG old) 24 4 0
  (s1.setBit (Reg.FUR_CFG new) 31).put (Reg.FUR_CFG new) 24 4 p

/-- Places of one furrow in a sweep of the Gleaner (R463). -/
def furPlaces : Nat := 141822

/-- The Gleaner meets a substitution (R468): writes pending for the old furrow are gone, and the new furrow is swept in its
place in the current sweep, at once where the sweep has passed it and not the old one. -/
def State.sweepMoved (s : State) (old new : Nat) : State :=
  let at_ := cget 0 s.gln.pos (old / 132) / furPlaces
  let gln := { s.gln with writes := s.gln.writes.filter fun w => w.1 != old }
  if new % 132 < at_ ∧ at_ ≤ old % 132 then { s with gln := { gln with prio := gln.prio ++ [(0, new)] } }
  else { s with gln := gln }

/-- Substitute a spare for a failed physical furrow (R105), which is power-gated; false when the acre has none left. Of
several spares it is the one of the lowest physical index (DESIGN CHOICE, log 50). -/
def State.substitute (s : State) (p old : Nat) : State × Bool :=
  match s.logicalOf old, s.spares (old / 132) with
  | some l, f :: rest =>
    let def_ := 132 * (l / 128) + l % 128
    let s1 := { s with fmap := cset 0 s.fmap l (if f = def_ then 0 else f + 1),
                       fur := { s.fur with failed := s.fur.failed ++ [old] } }
    let s2 := ((s1.moveConfig l old f (s.plot p).img.settings).moveOwner p old f).gateFurrow old |>.sweepMoved old f
    (s2.rnSet (Reg.FUR_ACRE_SPARE (old / 132)) rest.length, true)
  | _, _ => (s, false)

/-- The neighbour that training found is the one of the plot's system description, of which the image gives the hash (R222,
R230; DEDUCED, log 71). -/
def State.neighbourOk (s : State) (p q : Nat) : Bool :=
  let hash := (natsFrom 0 8).map fun i => s.rn (Reg.PLT_IMG_SDHASH p i)
  s.bit (Reg.LNK_NBR_ID q) 31 && s.fld (Reg.LNK_NBR_ID q) 0 22 == Config.neighbour hash s.devId q

/-- The latency contract of a port (R230, R231). -/
def State.latencyOk (s : State) (p q : Nat) : Bool :=
  let total := s.fld (Reg.LNK_LAT q) 0 10
  s.neighbourOk p q && s.bit (Reg.LNK_LAT q) 31 && decide (total ≤ s.alat q) && decide (s.alat q - total ≤ 255) &&
    decide (s.fld (Reg.LNK_LAT q) 16 10 + 58 ≤ s.alat q)

/-- A failed latency check is recorded (R231). -/
def State.latFail (s : State) (p q : Nat) : State := (s.setBit (Reg.PLT_IMG_INFO p) 8).put (Reg.PLT_IMG_INFO p) 4 4 q

/-- A degraded lane of a port with a free spare (R261). -/
def State.degradedLane (s : State) (q : Nat) : Option Nat :=
  if s.spareUsed q then none
  else ((natsFrom 0 8).find? fun k => s.bit (Reg.LNK_LANE_STAT q (s.rxLane q k)) 25).map fun k => q * 16 + k

/-- Lanes to spare at the start of a recovery hold (R200 action 3, R261): charged ones, and at a planned rollback the degraded
lanes of the plot's other ports. -/
def State.lanesToSpare (s : State) (p : Nat) (cs : List Charge) (planned : Bool) : List Nat :=
  let charged := chargedLanes cs
  let free := (s.plot p).res.ports.filter fun q => charged.all fun u => u / 16 != q
  charged ++ (if planned then free.filterMap s.degradedLane else [])

/-- Spare the lanes of action 3 in the hold of pass k, and ask the neighbours for the same (R261, R265). -/
def State.spareCharged (s : State) (p k : Nat) (lanes : List Nat) : State :=
  lanes.foldl (fun s u =>
    match s.startSparing (u / 16) (u % 16) false with
    | (s1, true) => s1.sendMgmt (u / 16) 1 (u % 16) 0 k 0
    | (s1, false) => s1.onHold p fun h => { h with failed := true }) s

/-! ## Entering a hold -/

/-- The hold that the headland asked for begins (R199, R200); lanes charged with errors are spared at once so that they can
retrain (R260, R261). A ROLLBACK recovers to the pass that its headland decides (R215; DEDUCED, log 56). -/
def State.enterHold (s : State) (p : Nat) : State :=
  let hl := (s.plot p).tm.hl
  let recovery := !hl.replay
  let c := (s.plot p).cmt
  let pn := (s.plot p).tm.pn
  let mine := c.rollback.filter fun e => e.1 == pn
  let k := if hl.fail then c.lastFail.getD (s.plot p).tm.cpn else pn - s.dlag p
  let point := s.rn64 (Reg.PLT_STAKE_PN_LO p)
  let lanes := if recovery then s.lanesToSpare p (c.charges.filter fun e => e.pn == k) (!mine.isEmpty) else []
  let h : Hold := { recovery := recovery, k := k, point := if recovery then point else k, since := s.ftNs, action := 0,
                    failed := false, sent := none, lanes := lanes, ready := [], cmd := mine.findSome? (·.2), back := none }
  let s1 := s.onPlot p fun x =>
    { x with tm := { x.tm with phase := .stopped },
             cmt := { x.cmt with hold := some h, pauseSince := s.ftNs, resume := none,
                                 rollback := x.cmt.rollback.filter fun e => e.1 != pn } }
  if recovery then
    let s2 := ((s1.cmtStateSet p 4).plotInt p 2).setBit (Reg.PLT_CMT_STAT p) 3
    (s2.holdRec p 1 0 point k).spareCharged p k lanes
  else (s1.cmtStateSet p 3).holdRec p 0 0 0 k

/-- FAULT record for each event charged to pass k (R200). -/
def State.chargeRecs (s : State) (p : Nat) (cs : List Charge) : State :=
  cs.foldl (fun s c => s.faultRec c.block c.cause c.loc.toNat (some p) c.pn false s.devId) s

/-- The actions of R200 other than lane sparing, in order; the lowest code of the actions taken, and success. -/
def State.takeActions (s : State) (p : Nat) (cs : List Charge) (lanes : List Nat) : State × Nat × Bool :=
  let furs := chargedFurrows cs
  let (s1, ok1) := furs.foldl (fun (x : State × Bool) f => let (t, ok) := x.1.substitute p f; (t, x.2 && ok)) (s, true)
  let acres := chargedAcres cs
  let s2 := if acres = [] then s1 else s1.selectsRewrite acres
  let xt := cs.any fun c => c.block == Block.xch && c.cause == 1
  let s3 := if xt then s2.xtRewrite ((s2.xtEntries p).map (·.1)) else s2
  let bad := (s.plot p).res.ports.filter fun q => lanes.any (fun u => u / 16 == q) && !(s3.portUp q && s3.latencyOk p q)
  let s4 := match bad with
    | [] => s3
    | q :: _ => s3.latFail p q
  let code := if furs ≠ [] then 1 else if acres ≠ [] then 2 else if lanes ≠ [] then 3 else if xt then 4 else 0
  (s4, code, ok1 && bad.isEmpty && !(cs.any noRemedy))

/-- The stake area that holds the recovery point (R209). -/
def State.pointCopy (s : State) (p : Nat) : Option StakeCopy :=
  if s.bit (Reg.PLT_STAKE_STAT p) 31 then
    if s.bit (Reg.PLT_STAKE_STAT p) 29 then (s.plot p).cmt.area1 else (s.plot p).cmt.area0
  else none

/-- State slots of a copy written into the version that pass n reads, whose rows are written whole (R76), and copied into the one
that it writes (R56, R201). -/
def State.loadState (s : State) (p : Nat) (c : StakeCopy) (n : Nat) : State :=
  let ver := s.verBefore p n
  let s1 := (s.plotPhys p).foldl (fun s f =>
    let lo := stateRow f ver 0 0
    { s with bp := { s.bp with sstore := cclear s.bp.sstore (stateKey f ver 0 0) 32768 },
             ecc := s.ecc.filter fun e => !(e.1 % 16 == Item.stateRow && decide (lo ≤ e.1 / 16 ∧ e.1 / 16 < lo + 1024)) }) s
  let s2 := c.state.foldl (fun s e => s.stateSet (s.phys (e.1 / 32768)) ver (e.1 / 256 % 128) (e.1 % 256) e.2) s1
  s2.versionRestore p n

/-- Furrow RAM of a copy, with empty undo rings. -/
def State.loadRam (s : State) (p : Nat) (c : StakeCopy) : State :=
  let phys := s.plotPhys p
  let kept := s.fur.ram.filter fun e => !(phys.contains (e.1 / 32768))
  let ram := c.ram.foldl (fun m e => cset .vx m (s.phys (e.1 / 32768) * 32768 + e.1 % 32768) e.2) kept
  let undo := phys.foldl (fun u f => cdel u f) s.fur.undo
  { s with fur := { s.fur with ram := ram, undo := undo },
           ecc := s.ecc.filter fun e => !(e.1 % 16 == Item.ramWord && phys.contains (e.1 / 16 / 512)) }

/-- Carried returns, imports and relays of a copy (R201). -/
def State.loadCarried (s : State) (p : Nat) (c : StakeCopy) : State :=
  { s with hbm := { s.hbm with reads := (s.hbm.reads.filter fun r => r.plot != p) ++ c.reads.map fun r => { r with delivered := false } },
           xch := { s.xch with held := (s.xch.held.filter fun h => h.plot != p) ++ c.groups.map fun h => { h with done := false } } }

/-- Step 2 of R201: committed entries below S drain, the others go. -/
def State.settleQueue (s : State) (p n : Nat) : State :=
  let mine := s.hbm.wq.filter fun e => e.plot == p
  let s1 := { s with hbm := { s.hbm with wq := s.hbm.wq.filter fun e => e.plot != p } }
  let s2 := (mine.filter fun e => e.committed && decide (e.pn < n)).foldl (fun s e => s.drainEntry e) s1
  (s.plot p).res.pcs.foldl (fun s pc => s.wqStat pc) s2

/-- Step 4 of R201: the undo journal in reverse order. -/
def State.undoJournal (s : State) (p n : Nat) : State :=
  let mine := s.hbm.journal.filter fun e => e.1 == p && decide (n ≤ e.2.2.2)
  let s1 := mine.reverse.foldl (fun s e => s.hbmStore e.2.1 e.2.2.1) s
  { s1 with hbm := { s1.hbm with journal := s1.hbm.journal.filter fun e => !(e.1 == p && decide (n ≤ e.2.2.2)) } }

/-- What restoring the stake of PN n takes from a plot (R201, R215). -/
def State.takenBack (s : State) (p n : Nat) : TakenBack :=
  let js := s.hbm.journal.filter fun e => e.1 == p && decide (n ≤ e.2.2.2)
  { copy := s.copyFor p (s.plot p).tm.cpn,
    words := js.map fun e => (e.2.1, s.hbmRead e.2.1 e.2.2.1.length),
    journal := js,
    wq := s.hbm.wq.filter fun e => e.plot == p && e.committed && decide (n ≤ e.pn) }

/-- Restore the stake of PN S and make ready for passes S to k - 1 (R201, R204). A stake in progress keeps its copy and its
slices. The charges have had their remedy (R200), and swaps named for passes that are executed again wait again (R126). A
recovery in the suppressed span of another one leaves the end of that span where it is (DESIGN CHOICE, log 79). -/
def State.restoreStake (s : State) (p k : Nat) (c : StakeCopy) : State :=
  let n := c.pn
  let old := (s.plot p).cmt.suppress
  let newest := (s.copyFor p (s.plot p).tm.cpn).state
  let s1 := ((s.settleQueue p n).loadState p c n).loadRam p c
  let s2 := (((s1.loadCarried p c).reloadData p n).undoJournal p n).reapplyMem p n
  let s3 := ((((s2.fioDiscard p k).gateDiscard p n).sigDiscard p k).hvtDiscard p k).swapsBack p n
  let top := (s.plot p).cmt.top
  let last := max k (old.getD 0)
  s3.onPlot p fun x =>
    { x with tm := { x.tm with dpn := n },
             cmt := { x.cmt with flags := [], voted := [], charges := [], suppress := if n < last then some last else none,
                                 kept := some (x.cmt.kept.getD newest), hazards := [],
                                 discarded := if n < top then some (n, top - 1) else none,
                                 hostFrom := max x.cmt.hostFrom top } }

/-- A hold that has restored its stake is abandoned (R215): the plot is back at PLT_CPN. -/
def State.putBack (s : State) (p : Nat) (b : TakenBack) : State :=
  let k := b.copy.pn
  let s1 := b.words.foldl (fun s e => s.hbmStore e.1 e.2) s
  let s2 := { s1 with hbm := { s1.hbm with journal := s1.hbm.journal ++ b.journal, wq := s1.hbm.wq ++ b.wq } }
  let s3 := (((s2.loadState p b.copy k).loadRam p b.copy).loadCarried p b.copy).reloadData p k
  let top := (s.plot p).cmt.top
  ((s.plot p).res.pcs.foldl (fun s pc => s.wqStat pc) s3).onPlot p fun x =>
    { x with tm := { x.tm with dpn := k },
             cmt := { x.cmt with suppress := none, kept := none,
                                 discarded := if k < top then some (k, top - 1) else none } }

/-- RECOVERY_WORK_DONE (R200, R201): `ok` says whether the environment's part of the work succeeded. It fails on a plot whose
express slots crossed a plane that has been retired (R421). -/
def execRecoveryWorkDone (p : Nat) (ok : Bool) (s : State) : Host.Outcome State Fault Refusal :=
  .next <| match (s.plot p).cmt.hold with
  | none => s
  | some h =>
    if h.recovery = false ∨ h.sent ≠ none then s
    else
      let cs := (s.plot p).cmt.charges.filter fun c => c.pn == h.k
      let lanes := h.lanes
      let s0 := (s.lateApply p).chargeRecs p cs
      let (s1, code, fine) := s0.takeActions p cs lanes
      let good := ok && fine && !h.failed && s.ftLocked && s.bit (Reg.PLT_CMT_CFG p) 4 && !s.slotsLost p
      match (if good then s.pointCopy p else none) with
      | some c =>
        let back := if s.suppressed p then none else some (s1.takenBack p c.pn)
        let s0 := s1.restoreStake p h.k c
        let s2 := (if code = 1 then s0.swapBanks p c.pn else s0).onHold p fun h =>
          { h with sent := some s.ftNs, action := code, point := c.pn, back := back }
        (s2.floodCtl p 0x12 code 0 c.pn 0).holdReady p s.devId c.pn false
      | none =>
        let s2 := s1.onHold p fun h => { h with sent := some s.ftNs, action := code, failed := true }
        (s2.floodCtl p 0x12 code 1 h.point 0).holdReady p s.devId h.point true

/-- HOLD_TIMEOUT (R202): 100 ms without every READY, or without RESUME after the own READY. -/
def execHoldTimeout (p : Nat) (s : State) : Host.Outcome State Fault Refusal :=
  .next <| match (s.plot p).cmt.hold, (s.plot p).cmt.resume with
  | some h, none =>
    let all := (s.devicesOf p).all fun d => h.ready.any fun r => r.1 == d
    let limit := if all then (h.sent.getD h.since) + 100000000 else h.since + 100000000
    (s.waitUntil limit).recoveryFailed p
  | _, _ => s

/-! ## Stake promotion (R209) -/

/-- Stake n becomes the recovery point (R209-R211). A STAKE of an older one can no longer succeed: it ends with NO_RESOURCE
(DESIGN CHOICE, log 55). -/
def State.promote (s : State) (p n : Nat) : State :=
  let area1 := ((s.plot p).cmt.area1.map (·.pn)) == some n
  let s1 := ((s.setBit (Reg.PLT_STAKE_STAT p) 31).putBit (Reg.PLT_STAKE_STAT p) 29 area1).rnSet64 (Reg.PLT_STAKE_PN_LO p) n
  let s2 := { s1 with hbm := { s1.hbm with journal := s1.hbm.journal.filter fun e => !(e.1 == p && decide (e.2.2.2 < n)) } }
  let cmds := (s.plot p).cmt.extra.filter fun e => e.1 ≤ n
  let s3 := ((s2.logTrim p n).stakeRec p 1 n).onCmt p fun c =>
    { c with done := c.done.filter fun e => n < e.1, extra := c.extra.filter (fun e => n < e.1),
             awaits := c.awaits.filter fun a => n < a }
  cmds.foldl (fun s e => if e.1 = n then s.finishOpt e.2 Status.ok n else s.finishOpt e.2 Status.noResource 0) s3

/-- STAKE_DONE of a device (R205, R209): promotion, or the end of STAKE when one reports failure. -/
def State.stakeDone (s : State) (p dev n status : Nat) : State :=
  let s1 := s.onCmt p fun c => { c with done := c.done.filter (fun e => !(e.1 == n && e.2.1 == dev)) ++ [(n, dev, status)] }
  let held := (s1.plot p).cmt.done
  if status ≠ 0 then
    let cmds := (s.plot p).cmt.extra.filter fun e => e.1 == n
    let s2 := cmds.foldl (fun s e => s.finishOpt e.2 Status.noResource 0) s1
    s2.onCmt p fun c => { c with extra := c.extra.filter (fun e => e.1 != n), awaits := c.awaits.filter fun a => a != n }
  else if (s.devicesOf p).all (fun d => held.contains (n, d, 0)) = true ∧
      ((s.plot p).cmt.area0.map (·.pn) = some n ∨ (s.plot p).cmt.area1.map (·.pn) = some n) then s1.promote p n
  else s1

/-- The body of a stake as bytes, and its header with the PN, the device ID, the plot tag, the body's size and its CRC-32C
(R207): the spec does not give their layout (DESIGN CHOICE, log 59). -/
opaque Config.stakeImage : StakeCopy → List Byte
opaque Config.stakeHeader (pn dev tag size crc : Nat) : List Byte

/-- The stake area that does not hold the recovery point (R209): it takes the stake in progress. -/
def State.stakeArea (s : State) (p : Nat) : Nat :=
  b2n (s.bit (Reg.PLT_STAKE_STAT p) 31 && !(s.bit (Reg.PLT_STAKE_STAT p) 29))

/-- Bytes from an offset of a stake area: its pages are those of one USE, in map order (R209, R399). -/
def State.areaWrite (s : State) (p area off : Nat) (bs : List Byte) : State :=
  let pages := ((s.plot p).res.map.filter fun e => e.use == 3 + area && !e.lifted).map (·.page)
  (pages.zipIdx).foldl (fun s e =>
    let lo := e.2 * mib2
    let part := (bs.drop (lo - off)).take (lo + mib2 - max lo off)
    if part = [] ∨ lo + mib2 ≤ off then s else s.hbmStore (e.1 * mib2 + (max lo off - lo)) part) s

/-- The body of a stake as written to HBM (R207). -/
def State.stakeBody (s : State) (p : Nat) (c : StakeCopy) : List Byte :=
  let n := (s.plot p).img.stakeBytes
  (Config.stakeImage c ++ List.replicate n 0).take n

/-- The bytes of the body that one slice writes (R207). -/
def State.stakeWrite (s : State) (p : Nat) (r r1 : StakeRun) : State :=
  s.areaWrite p (s.stakeArea p) (kib4 + r.body) (((s.stakeBody p r.copy).take r1.body).drop r.body)

/-- The header of a stake, written last (R207): PN, device ID, plot tag, sizes and the CRC-32C of the body. -/
def State.stakeHead (s : State) (p : Nat) (c : StakeCopy) : State :=
  let body := s.stakeBody p c
  s.areaWrite p (s.stakeArea p) 0
    ((Config.stakeHeader c.pn s.devId (s.plot p).id.ptag body.length (crc32c body)).take kib4)

/-- The last slice has been taken (R207): the stake is written, incomplete or overflowed. -/
def State.stakeEnd (s : State) (p : Nat) (r : StakeRun) : State :=
  let n := r.copy.pn
  let whole := decide ((s.plot p).img.stakeBytes ≤ r.body)
  let status := if r.overflow then 2 else if whole then 0 else 1
  let s0 := if status = 0 then s.stakeHead p r.copy else s
  let s1 := (s0.onCmt p fun c =>
    let c1 := { c with stake := none, awaits := if status = 0 then some n else c.awaits }
    if status ≠ 0 then c1
    else if s.stakeArea p = 1 then { c1 with area1 := some r.copy } else { c1 with area0 := some r.copy }).clrBit
      (Reg.PLT_STAKE_STAT p) 30
  let s2 := if status = 0 then s1
    else if status = 1 then ((s1.setBit (Reg.PLT_STAKE_STAT p) 2).plotInt p 9).stakeRec p 2 n
    else s1.plotInt p 9
  (s2.floodCtl p 0x10 0 status n 0).stakeDone p s.devId n status

/-! ## Plot control packets of this chapter (R217) -/

/-- STAKE_DONE (R209). -/
def State.stakeDonePacket (s : State) (ws : List Word) : State :=
  match s.plotByTag (pktTag ws) with
  | some p => s.stakeDone p (pktSrc ws) (ctlPn ws) (ctlStatus ws)
  | none => s

/-- HEAL_READY and RECOVER_READY (R199, R201). -/
def State.readyPacket (s : State) (ws : List Word) (recovery : Bool) : State :=
  match s.plotByTag (pktTag ws) with
  | some p => match (s.plot p).cmt.hold with
    | some h => if h.recovery == recovery then s.holdReady p (pktSrc ws) (ctlPn ws) (ctlStatus ws != 0) else s
    | none => s
  | none => s

/-- RESUME (R203). -/
def State.resumePacket (s : State) (ws : List Word) : State :=
  match s.plotByTag (pktTag ws) with
  | some p => s.resumeAt p (ctlPn ws) (ctlFt ws)
  | none => s

/-- DIVERGE (R213). -/
def State.divergePacket (s : State) (ws : List Word) : State :=
  match s.plotByTag (pktTag ws) with
  | some p => if s.plotBusy p || (s.plot p).tm.launched then s.divergePass p (ctlPn ws) false else s
  | none => s

/-- ROLLBACK by packet (R126, R217): a recovery hold at the named headland, if it has not passed step 10. -/
def State.rollbackPacket (s : State) (ws : List Word) : State :=
  match s.plotByTag (pktTag ws) with
  | some p => s.onCmt p fun c => { c with rollback := c.rollback ++ [(ctlPn ws, none)] }
  | none => s

/-- Vote packet (R191, R216): its cause enters the event trace. -/
def State.votePacket (s : State) (ws : List Word) : State :=
  let d := wordAt ws 10
  let block := nfld d 24 8
  match s.plotByTag (pktTag ws) with
  | some p => s.faultRec (if 1 ≤ block ∧ block ≤ 4 then block else 0) (nfld d 16 5) (wordAt ws 11) (some p) (word64 ws 8) true (pktSrc ws)
  | none => s

/-- STAKE_DONE (R209). -/
def execStakeDone (_port : Nat) (words : List Word) (s : State) : Host.Outcome State Fault Refusal := .next (s.stakeDonePacket words)
/-- HEAL_READY (R203). -/
def execHealReady (_port : Nat) (words : List Word) (s : State) : Host.Outcome State Fault Refusal := .next (s.readyPacket words false)
/-- RECOVER_READY (R203). -/
def execRecoverReady (_port : Nat) (words : List Word) (s : State) : Host.Outcome State Fault Refusal := .next (s.readyPacket words true)
/-- RESUME (R203). -/
def execResume (_port : Nat) (words : List Word) (s : State) : Host.Outcome State Fault Refusal := .next (s.resumePacket words)
/-- DIVERGE (R213). -/
def execDiverge (_port : Nat) (words : List Word) (s : State) : Host.Outcome State Fault Refusal := .next (s.divergePacket words)
/-- ROLLBACK_PACKET (R217). -/
def execRollbackPacket (_port : Nat) (words : List Word) (s : State) : Host.Outcome State Fault Refusal := .next (s.rollbackPacket words)
/-- VOTE_PACKET (R191). -/
def execVotePacket (_port : Nat) (words : List Word) (s : State) : Host.Outcome State Fault Refusal := .next (s.votePacket words)

end Sys2Proof.Machine
end

