-- ==== Sys2Proof/Machine/Headland.lean ====
section
/-! DEFINITION. The end of a headland: the pre-emption check, stops, eviction, and the extensions (01_passes_and_headland.md
R26-R38; 14_plots_hosts_network.md R410, R411). -/

namespace Sys2Proof.Machine
open Sys2Proof

/-! ## Stops -/

/-- STOP_PN of a RUN or STEP_PASS in flight is reached (R26, R378). -/
def State.runReached (s : State) (p : Nat) : Bool :=
  s.cmd.store.any fun c => c.plot == p && (c.opc == 0x30 || c.opc == 0x32) && c.stage == .blocked && c.mark != 0 &&
    decide (c.mark ≤ (s.plot p).tm.pn)

/-- Pages an eviction save takes (R411). -/
def State.savePages (s : State) (p : Nat) : Nat := 1 + ((s.plot p).res.furrows.length + 63) / 64

/-- A page may take an eviction save: an owned PC carries none (R132). -/
def State.saveOk (s : State) (page : Nat) : Bool := (s.holder Res.pcs (page / 384)).isNone

/-- Free entries of a plot's memory map that may take an eviction save. -/
def State.freePages (s : State) (p : Nat) : Nat :=
  ((s.plot p).res.map.filter fun e => e.use == 0 && !e.lifted && s.saveOk e.page).length

/-- Mark the first n free entries whose page satisfies a test with a USE. -/
def markUse (use : Nat) (ok : Nat → Bool) : Nat → List MapEntry → List MapEntry
  | 0, es => es
  | _, [] => []
  | n + 1, e :: es =>
    if e.use = 0 ∧ e.lifted = false ∧ ok e.page = true then { e with use := use } :: markUse use ok n es
    else e :: markUse use ok (n + 1) es

/-- Abandon a stake in progress (R411). -/
def State.abandonStake (s : State) (p : Nat) : State :=
  match (s.plot p).cmt.stake with
  | none => s
  | some r =>
    let cmds := (s.plot p).cmt.extra.filter fun e => e.1 == r.copy.pn
    let s1 := ((s.setBit (Reg.PLT_STAKE_STAT p) 2).clrBit (Reg.PLT_STAKE_STAT p) 30).onCmt p fun c =>
      { c with stake := none, extra := c.extra.filter fun e => e.1 != r.copy.pn }
    cmds.foldl (fun s e => s.finishOpt e.2 Status.abortedCmd 0) s1

/-- The plot goes back to the start of pass k by the restorations of R195, design memory apart; swaps named for its passes
wait again (R126). -/
def State.rewindTo (s : State) (p k : Nat) : State :=
  let s1 := (s.plotPhys p).foldl (fun s f => s.undoRestore p f k) s
  let s2 := ((s1.readsDiscard p k).heldDiscard p k).fioDiscard p k
  let s3 := (((s2.gateDiscard p k).sigDiscard p k).hvtDiscard p k).swapsBack p k
  let top := (s.plot p).cmt.top
  s3.onCmt p fun c => { c with flags := [], voted := c.voted.filter (· < k),
                               discarded := if k < top then some (k, top - 1) else none,
                               hostFrom := max c.hostFrom top,
                               hazards := c.hazards.filter (· < k) }

/-- The furrows of a plot are power-gated: their values are lost. -/
def State.gateFurrows (s : State) (p : Nat) : State := (s.plotPhys p).foldl State.gateFurrow s

/-- The pass at which an evicted plot wakes (R215, R411): the oldest uncommitted one, and in a suppressed span the oldest of
the span whose re-execution has not committed. -/
def State.evictPass (s : State) (p : Nat) : Nat := if s.suppressed p then (s.plot p).tm.dpn else (s.plot p).tm.cpn

/-- The bytes of an eviction save (R411), whose layout the spec does not give (DESIGN CHOICE, log 59). -/
opaque Config.saveImage : SaveCopy → List Byte

/-- Eviction at level 1, or pre-emption at level 2 (R411). The save is written to its pages whole within the step that takes it,
so no state evicting is seen (DESIGN CHOICE, log 83). -/
def State.evict (s : State) (p level : Nat) : State :=
  let k := s.evictPass p
  let s1 := ((((s.abandonStake p).settleQueue p (2 ^ 64)).rewindTo p k)).copyChecks p k
  let n := (s.plot p).res.furrows.length
  let save : SaveCopy := ⟨s1.copyFor p k, s.plotPhys p, (s.plot p).res.furrows, (s.plot p).res.trunks⟩
  let pages := s.savePages p
  let s2 := (s1.gateFurrows p).onPlot p fun x =>
    { x with id := { x.id with save := some save }, res := { x.res with map := markUse 7 s.saveOk pages x.res.map },
             tm := { x.tm with dpn := k } }
  let s3 := (s2.areaWrite p 4 0 (Config.saveImage save)).rnSet (Reg.PLT_FALLOW p) ((level + 2) * 2 ^ 28 + pages * 65536 + n)
  if level = 2 then
    let s4 := (s.plot p).res.trunks.foldl (fun s t => s.rnSet (Reg.FUR_SW_TRUNK (t / 64) (t % 64)) 0) s3
    let s5 := (s.plotPhys p).foldl (fun s f => (s.clrBit (Reg.FUR_CFG f) 31).put (Reg.FUR_CFG f) 24 4 0) s4
    s5.onRes p fun r => { r with furrows := [], trunks := [] }
  else s3

/-- A plot that enters fallow does not run (R218); one that stopped for good stays so (R543). -/
def State.notRunning (s : State) (p : Nat) : State := if s.cmtState p < 6 then s.cmtStateSet p 0 else s

/-- Owned PCs of a stopped plot refresh autonomously (R34, R410). -/
def State.fallowEnter (s : State) (p level : Nat) : State :=
  let s1 := ((s.notRunning p).fallowRec (some p) true level 0).onId p fun x => { x with fallowFt := s.ftNs }
  if level = 0 then s1.put (Reg.PLT_FALLOW p) 28 4 1 else (s1.evict p level).hvtRestart p

/-- The requests that a stop serves (R26): the deepest acts, and every one completes. -/
def State.serveStops (s : State) (p status pn : Nat) (serving : List (Nat × Option Nat × Nat)) : State :=
  let deepest := serving.foldl (fun m e => max m e.1) 0
  let s1 := if deepest = 0 then s else s.fallowEnter p (deepest - 1)
  let pos := if deepest ≥ 2 then (s.plot p).res.furrows.length else 0
  serving.foldl (fun s e => if e.2.2 = 0 then s
    else s.finishAt e.2.2 (if e.1 = 0 then status else Status.ok) (if e.1 = 0 then pn else 0) (if e.1 ≥ 2 then pos else 0)
      (if e.1 ≥ 2 then pos else 0)) s1

/-- The plot stops at the end of a headland (R26). -/
def State.stopPlot (s : State) (p : Nat) : State :=
  let pn := (s.plot p).tm.pn
  let status := s.stopStatus p
  let s1 := s.onPlot p fun x =>
    { x with tm := { x.tm with phase := .stopped }, id := { x.id with serving := [] },
             cmt := { x.cmt with stopNow := false, fault := none } }
  (((s1.cmtStateSet p 0).finishRuns p status pn).plotState p 1 status []).serveStops p status pn (s.plot p).id.serving

/-- A diverged plot stops at the end of a headland (R26, R213): the requests of the same step 23 have their work done. -/
def State.stopDiverged (s : State) (p : Nat) : State :=
  (s.stopFault p 6 Status.divergence).serveStops p Status.divergence (s.plot p).tm.pn (s.plot p).id.serving

/-! ## The resume pass (R203) -/

/-- The resume pass begins, or the plot stops before it for an exposure or another stop that waited (R198, R203; DEDUCED,
log 57). -/
def State.resumePass (s : State) (p pass : Nat) : State :=
  if (s.plot p).cmt.stopNow then
    let t := (s.plot p).cmt.top
    (s.onCmt p fun c => { c with discarded := some (pass, max pass (t - 1)) }).stopPlot p
  else (s.clockFrom p).beginPass p pass

/-- RESUME_START (R203): the instant of RESUME has come, and the resume pass begins. -/
def execResumeStart (p : Nat) (s : State) : Host.Outcome State Fault Refusal :=
  .next <| match (s.plot p).cmt.hold, (s.plot p).cmt.resume with
  | some h, some (pass, ft) =>
    let s1 := (s.waitUntil ft).holdRec p 2 h.action (if h.recovery then h.point else 0) pass
    let s2 := s1.onCmt p fun c =>
      { c with hold := none, resume := none, recov := if h.recovery then c.recov ++ [(h.k, h.cmd.getD 0)] else c.recov }
    let s3 := s2.rnSet (Reg.PLT_REF_REMAIN p) (s2.refreshB p)
    let s4 := if h.recovery then
        (s3.cmtStateSet p 5).putBit (Reg.PLT_CMT_STAT p) 7 (s3.suppressed p)
      else ((s3.cmtStateSet p 2).setBit (Reg.PLT_CMT_STAT p) 4).rnSet (Reg.PLT_RECOVER_LAST p) (s3.pauseUs p)
    -- a recovery takes the inputs of its first pass from the input log
    let s5 := if h.recovery then (s4.latchAll p pass []).sampleGates p pass else s4
    s5.resumePass p pass
  | _, _ => s

/-! ## The pre-emption check and the plan of the headland -/

/-- Steps of a headland's extensions other than refresh (R27). -/
def State.laterSteps (s : State) (p : Nat) (hl : Headland) : Nat :=
  64 * b2n hl.replay + (if hl.stake then s.sliceLen p else 0) + 64 * hl.stretch

/-- The refresh rule (R32): whether this headland refreshes, and R after it. While REF_EN = 0 PLT_REF_REMAIN reads 0 (DESIGN
CHOICE, log 82). -/
def State.refreshPlan (s : State) (p : Nat) (hl : Headland) : Bool × Nat :=
  let lh : Int := s.passBase p
  let e : Int := s.laterSteps p hl
  let r : Int := (s.rn (Reg.PLT_REF_REMAIN p) : Int) - lh
  if s.bit (Reg.PLT_HL_CFG p) 31 = false then (false, 0)
  else if r - e < lh then (true, ((s.refreshB p : Int) - e).toNat)
  else (false, (r - e).toNat)

/-- PRE_EMPTION_CHECK (R26): headland step 23. An eviction that finds too few pages is left out of the choice. -/
def State.preCheck (s : State) (p : Nat) : State :=
  let x := s.plot p
  let pn := x.tm.pn
  let sup := s.suppressed p
  let forced := fun (e : Nat × Option Nat × Nat) => s.forcing && e.2.2 == 0
  let due := fun (e : Nat × Option Nat × Nat) => (!sup || forced e) && (match e.2.1 with
    | some n => decide (n ≤ pn)
    | none => true)
  let poor := fun (e : Nat × Option Nat × Nat) => decide (2 ≤ e.1) && decide (s.freePages p < s.savePages p) && !(forced e)
  let dues := x.id.stops.filter due
  let bad := dues.filter poor
  let good := dues.filter fun e => !(poor e)
  let hl := x.tm.hl
  let stop := x.cmt.diverge || (!hl.hold && (x.cmt.stopNow || !good.isEmpty || (!sup && s.runReached p)))
  let hl1 : Headland := { hl with stop := stop, div := x.cmt.diverge, stretch := s.stretchOf p pn,
                                  stake := x.cmt.stake.isSome && !hl.replay }
  let (ref, r) := s.refreshPlan p hl1
  let s1 := (s.rnSet (Reg.PLT_REF_REMAIN p) r).onPlot p fun y =>
    { y with tm := { y.tm with hl := { hl1 with refresh := ref } },
             id := if stop then { y.id with serving := good, stops := y.id.stops.filter fun e => !(due e) }
               else { y.id with stops := y.id.stops.filter fun e => !(due e && poor e) } }
  bad.foldl (fun s e => s.finishOpt e.2.2 Status.noResource 0) s1

/-! ## Extensions -/

/-- The end of the headland (R26, R199, R200, R213): divergence, hold, stop, or the next pass. A plot that diverged after its
step 23 stops at its next headland, or here when it stops for another reason. -/
def State.endHeadland (s : State) (p : Nat) : State :=
  let hl := (s.plot p).tm.hl
  let pn := (s.plot p).tm.pn
  let h := s.headBase p + 720 * b2n hl.refresh + s.laterSteps p hl
  let a := Reg.PLT_HL_STAT p
  let s1 := ((((s.put a 16 16 h).put a 12 4 hl.stretch).putBit a 7 hl.refresh).putBit a 6 hl.replay).putBit a 5 hl.stake
  let s2 := if hl.fail then s1 else s1.swapsEnd p pn
  if hl.div || (hl.stop && (s.plot p).cmt.diverge) then s2.stopDiverged p
  else if hl.hold then s2.enterHold p
  else if hl.stop then s2.stopPlot p
  else s2.beginPass p (s2.nextPass p)

/-- The first extension after a stage that this headland carries (R27). -/
def nextExt (hl : Headland) (after : Stage) : Option Stage :=
  let rest : List (Stage × Bool) := match after with
    | .check => [(.refresh, hl.refresh), (.replay, hl.replay), (.stake, hl.stake), (.stretch, hl.stretch ≠ 0)]
    | .refresh => [(.replay, hl.replay), (.stake, hl.stake), (.stretch, hl.stretch ≠ 0)]
    | .replay => [(.stake, hl.stake), (.stretch, hl.stretch ≠ 0)]
    | .stake => [(.stretch, hl.stretch ≠ 0)]
    | _ => []
  (rest.find? fun e => e.2).map (·.1)

/-- Go on after a stage. -/
def State.extend (s : State) (p : Nat) (after : Stage) : State :=
  match nextExt (s.plot p).tm.hl after with
  | some g => s.toHead p g
  | none => s.endHeadland p

/-- PRE_EMPTION_CHECK (R23, R26): headland step 23, and the vote window that follows it. -/
def execPreEmptionCheck (p : Nat) (s : State) : Host.Outcome State Fault Refusal :=
  .next (if s.atHead p .check then ((s.preCheck p).spend p (1 + s.vwin p)).extend p .check else s)

/-- REFRESH_HEADLAND (R33): an all-bank refresh of every PC the plot owns. -/
def execRefreshHeadland (p : Nat) (s : State) : Host.Outcome State Fault Refusal :=
  .next <|
    if s.atHead p .refresh then
      let pcs := (s.plot p).res.pcs
      let refreshes := pcs.foldl (fun m pc => cset 0 m pc (cget 0 m pc + 1)) s.hbm.refreshes
      let s1 := ({ s with hbm := { s.hbm with refreshes := refreshes } }).count (Reg.PLT_REFRESH_CNT p)
      ((pcs.foldl State.remapReady s1).spend p 720).extend p .refresh
    else s

/-- Receivers of a plot's ports do not check the next ALIVE (R164, R195). -/
def State.resyncAlive (s : State) (p : Nat) : State :=
  (s.plot p).res.ports.foldl (fun s q => { s with xch := { s.xch with rxAlive := cclear s.xch.rxAlive (q * 9) 9 } }) s

/-- REPLAY_TURN (R35, R61, R94, R142, R164, R171): the resources go back to the start of the pass that begins again. -/
def execReplayTurn (p : Nat) (s : State) : Host.Outcome State Fault Refusal :=
  .next <|
    if s.atHead p .replay then
      let k := s.nextPass p
      let s1 := (s.plotPhys p).foldl (fun s f => s.undoRestore p f k) s
      let s2 := ((s1.readsDiscard p k).heldDiscard p k).reloadData p k
      let s3 := ((s2.reapplyMem p k).restage p k).onTm p fun t => { t with turn := (t.due, t.due + 64) }
      (s3.spend p 64).extend p .replay
    else s

/-- Channels that carry the stake area (R234). -/
def State.stakeChannels (s : State) (p : Nat) : Nat := if s.bit (Reg.PLT_HL_CFG p) 31 then s.nch p else 1

/-- STAKE_SLICE (R207): one slice of the stake in progress. -/
def execStakeSlice (p : Nat) (s : State) : Host.Outcome State Fault Refusal :=
  .next <|
    if s.atHead p .stake then
      match (s.plot p).cmt.stake with
      | none => (s.spend p (s.sliceLen p)).extend p .stake
      | some r =>
        let r1 : StakeRun := { r with slices := r.slices + 1, body := r.body + s.sliceLen p * 8 * s.stakeChannels p }
        let cmds := (s.plot p).cmt.extra.filter fun e => e.1 == r.copy.pn
        let total := s.fld (Reg.PLT_STAKE_CFG p) 0 16
        let s1 := (s.onCmt p fun c => { c with stake := some r1 }).put (Reg.PLT_STAKE_STAT p) 13 16 r1.slices
        let s2 := cmds.foldl (fun s e => s.onCmd e.2 fun c => { c with pos := r1.slices, total := total }) s1
        let s3 := s2.stakeWrite p r r1
        ((if total ≤ r1.slices then s3.stakeEnd p r1 else s3).spend p (s.sliceLen p)).extend p .stake
    else s

/-- STRETCH (R38): n * 64 steps at the end of the headland. -/
def execStretch (p : Nat) (s : State) : Host.Outcome State Fault Refusal :=
  .next <|
    if s.atHead p .stretch then
      ((s.count (Reg.PLT_STRETCH_CNT p)).spend p (64 * (s.plot p).tm.hl.stretch)).extend p .stretch
    else s

/-! ## Starts -/

/-- Commit state at a start from a stop: running, in a replay span or suppressed. -/
def State.startState (s : State) (p : Nat) : State :=
  let c := (s.plot p).cmt
  let st := if c.suppress.isSome then 5 else if c.lastFail = some (s.plot p).tm.dpn ∧ s.retry p ≠ 0 then 2 else 1
  s.cmtStateSet p st

/-- The plot resumes from a stop with its next pass (R26, R378, R410). -/
def State.resumePlot (s : State) (p : Nat) : State :=
  let s1 := (s.clockFrom p).startState p
  ((s1.onId p fun x => { x with startAt := none }).plotState p 2 0 []).beginPass p (s1.nextPass p)

end Sys2Proof.Machine
end

