-- ==== Sys2Proof/Machine/Pass.lean ====
section
/-! DEFINITION. One schedule step of a plot: the furrow ports' schedule words, the Boolean processors, the field switch,
the exchange and Field I/O (R42, R78-R102, R298-R306). -/

namespace Sys2Proof.Machine
open Sys2Proof

/-! ## Port schedule words -/

/-- A value list of a probe or signature descriptor: CNT bus bits (R96, R98). -/
def idxList (n cnt : Nat) : List Nat := (natsFrom 0 cnt).map fun i => nfld n (7 * i) 7

/-- Check a configuration item when the port reads it (R84, R85): usable or not. -/
def State.descCheck (s0 : State) (p phys kind idx ce ue st : Nat) : Bool × State :=
  let s := s0.glnTouch (some p) fun k i => k == kind && i == idx
  match s.eccAt kind idx with
  | 1 => (true, s.furCause p phys ce st 0)
  | 2 => (false, s.furCause p phys ue st 0)
  | _ => (true, s)

/-- Drive the 16 send tracks (R81); X on all of them after an uncorrectable PSW (R84). -/
def State.sendTracks (s : State) (l phys st : Nat) (w : Psw) (lost : Bool) : State :=
  (natsFrom 0 16).foldl (fun s t =>
    let v := if lost then Val.vx else s.busBit phys st (nth 0 w.txsel t)
    if lost ∨ w.txen.testBit t = true then
      { s with sw := { s.sw with sent := cset .vx s.sw.sent (sentKey l t st) v } }
    else s) s

/-- The memory or pin operation of a PSW (R82). -/
def State.mopDo (s : State) (p l phys st : Nat) (w : Psw) : State :=
  if w.mop = 0 then s
  else if w.mop = 7 then s.furCause p phys 10 st 0
  else
    let (ok, s1) := s.descCheck p phys Item.gather (phys * 256 + w.mdesc) 6 7 st
    if ok = false then s1
    else
      let g := gatherOf (cget 0 s.fur.gdesc (phys * 256 + w.mdesc))
      match w.mop with
      | 1 => s1.ramRead p l phys st g
      | 2 => s1.ramWrite p phys st g
      | 5 => s1.reloadInputs p phys st (g.didx.take g.dcnt)
      | 6 =>
        let vs := s1.gatherData phys st g
        ((natsFrom 0 32).zip vs).foldl (fun s e =>
          { s with fur := { s.fur with outStage := cset .vx s.fur.outStage (phys * 32 + e.1) e.2 } }) s1
      | m =>
        let (ok2, s2) := s1.descCheck p phys Item.window (phys * 256 + w.mdesc) 6 7 st
        if ok2 = false then s2
        else
          let win := windowOf (cget 0 s.fur.win (phys * 256 + w.mdesc))
          if m = 3 then s2.hbmIssueRead p l phys st g win else s2.hbmIssueWrite p l phys st g win

/-- The stream takes probe values (R432). -/
def State.capturing (s : State) (p : Nat) : Bool :=
  (s.hvtState p == 1 || s.hvtState p == 2) && s.bit (Reg.HVT_CFG p) 29 && !s.suppressed p

/-- Trigger words of a descriptor with TRIG = 1 (R438). -/
def State.trigWords (s : State) (p l st : Nat) (vals : List Val) : State :=
  let us := (s.units p).filter fun u => s.fld (Reg.HVT_TU_SRC u) 10 9 == l && s.fld (Reg.HVT_TU_SRC u) 0 10 == st
  s.onHvt p fun h => { h with words := h.words ++ us.map fun u => (u, vals) }

/-- The probe path at step st (R97): results offered at the step before in BP order, then the descriptor's values. -/
def State.probePath (s : State) (p l phys st : Nat) (w : Psw) : State :=
  let off := if st = 0 then [] else
    (natsFrom 0 128).filterMap fun b =>
      if cget false s.bp.offered (phys * 128 + b) then some (s.busBit phys st b) else none
  let (ok, s1) := if w.prbd = 0 then (false, s) else s.descCheck p phys Item.probe (phys * 256 + w.prbd) 6 7 st
  let n := (cget 0 s.fur.pdesc (phys * 256 + w.prbd)).toNat
  let vals := if ok then (idxList n (nfld n 224 6)).map (s.busBit phys st) else []
  let s2 := if ok ∧ n.testBit 230 = true then s1.trigWords p l st vals else s1
  if s.capturing p ∧ off ++ vals ≠ [] then s2.onHvt p fun h => { h with probes := h.probes ++ [(l, off ++ vals)] } else s2

/-- The signature feed of a PSW (R98, R99, R314). -/
def State.sigPath (s : State) (p phys st : Nat) (w : Psw) : State :=
  if w.sigd = 0 then s
  else
    let (ok, s1) := s.descCheck p phys Item.sigdesc (phys * 256 + w.sigd) 6 7 st
    let n := (cget 0 s.fur.sdesc (phys * 256 + w.sigd)).toNat
    let u := nfld n 455 5
    if ok = false ∨ s.suppressed p = true ∨ (s.plot p).res.sigs.contains u = false then s1
    else s1.sigFeed u (s.plot p).tm.pn ((idxList n (nfld n 448 7)).map (s.busBit phys st)) (n.testBit 460)

/-- One furrow port executes its PSW for step st (R80-R84). -/
def State.portStep (s : State) (p l st : Nat) : State :=
  let phys := s.phys l
  let (ok, s1) := s.descCheck p phys Item.psw (phys * 1024 + st) 4 5 st
  let w := pswOf (cget 0 s.fur.psw (phys * 1024 + st))
  if ok then (((s1.sendTracks l phys st w false).mopDo p l phys st w).probePath p l phys st w).sigPath p phys st w
  else s1.sendTracks l phys st w true

/-! ## The step -/

/-- Furrow RAM returns of a step that have been delivered leave. -/
def State.ramReadsDone (s : State) (p st : Nat) : State :=
  let pn := (s.plot p).tm.pn
  let mine := (s.plot p).res.furrows
  let reads := s.fur.ramReads.filter fun r => !(mine.contains r.furrow && (r.pn != pn || decide (r.due ≤ st)))
  { s with fur := { s.fur with ramReads := reads } }

/-- What arrives at step st: imports, memory returns and switch deliveries (R90, R113, R138, R169). -/
def State.stepArrivals (s : State) (p st : Nat) : State :=
  ((((s.importPresent p).ramReturns p).hbmReturns p).ramReadsDone p st).arrivals p st

/-- Mid-pass samples, comparisons and the clock's fall at step st (R298, R299, R304, R306). -/
def State.stepPorts (s : State) (p st : Nat) (pins : List (Nat × Nat)) : State :=
  (s.plot p).res.fios.foldl (fun s q =>
    let s1 := if s.fld (Reg.FIO_CLK_CFG q) 0 10 = st then
        let (vals, s1) := s.midSample p pins q
        if s.suppressed p then s1.onFio q fun x => { x with compares := x.compares.filter fun c => c.pn != (s.plot p).tm.pn }
        else match vals with
          | some vs =>
            if s.bit (Reg.FIO_PORT_CFG q) 22 then s1.sigFeed (s.fld (Reg.FIO_PORT_CFG q) 17 5) (s.plot p).tm.pn vs false else s1
          | none => s1
      else s
    if s.fld (Reg.FIO_CLK_CFG q) 10 10 = st then s1.clockFall p q else s1) s

/-- Step st of the executing pass of a plot, in the order of R42: what arrives is readable, every BP reads, every port
executes its word on the results of the step before, then results are written. -/
def State.stepDo (s : State) (p st : Nat) (pins : List (Nat × Nat)) : State :=
  let fs := (s.plot p).res.furrows
  let s1 := s.stepArrivals p st
  let s2 := fs.foldl (fun s l => (s.furInjects p (s.phys l) st).fetchTouch p (s.phys l) st) s1
  let s3 := (s2.plotAcres p).foldl (fun s a => s.swInjects p a st) s2
  let outs := fs.map fun l => (s3.phys l, s3.bpAll p (s3.phys l) st)
  let s4 := fs.foldl (fun s l => s.portStep p l st) s3
  let s5 := outs.foldl (fun s e => s.bpFinish p e.1 st e.2) s4
  let s6 := ((s5.switchStep p st).exportSample p st).relaySend p st
  s6.stepPorts p st pins

/-- SCHEDULE_STEP (R42): the plot's present schedule step; `pins` gives the levels of its Field I/O ports. -/
def execScheduleStep (p : Nat) (pins : List (Nat × Nat)) (s : State) : Host.Outcome State Fault Refusal :=
  .next <| match (s.plot p).tm.phase with
  | .step st =>
    let s1 := (s.stepDo p st pins).spend p 1
    if st + 1 < s.passLen p then s1.onTm p fun t => { t with phase := .step (st + 1) } else s1.beginHeadland p
  | _ => s

end Sys2Proof.Machine
end

