-- ==== Sys2Proof/Machine/Dma.lean ====
section
/-! DEFINITION. Host memory access: translation, page requests, ring accesses and the DMA of commands
(14_plots_hosts_network.md R406-R409; 13_dziene_commands.md R356, R374, R375). -/

namespace Sys2Proof.Machine
open Sys2Proof


/-- ATS is enabled for a function (R406). -/
def State.atsOn (s : State) (fn : Nat) : Bool := cget false s.host.ats fn

/-! ## Page requests (R408) -/

/-- A page request may be sent: 512 for the device, and the function's allocation. -/
def State.pageSlot (s : State) (fn : Nat) : Bool :=
  decide (s.host.pageReqs.length < 512) &&
    decide ((s.host.pageReqs.filter fun r => r.1 == fn).length < cget 0 s.host.priAlloc fn)

/-- A fault asks for its page, or waits for a free slot. -/
def State.pageRequest (s : State) (fn page : Nat) : State :=
  if s.pageSlot fn then
    { s with host := { s.host with pageReqs := s.host.pageReqs ++ [(fn, page)] },
             out := { s.out with pri := s.out.pri ++ [(fn, page)] } }
  else { s with host := { s.host with pageWait := s.host.pageWait ++ [(fn, page)] } }

/-- Waiting faults take the slots that a response freed, oldest first. -/
def State.pageRetry (s : State) : State :=
  let wait := s.host.pageWait
  wait.foldl (fun s r => s.pageRequest r.1 r.2) { s with host := { s.host with pageWait := [] } }

/-! ## Translation (R406, R407) -/

/-- The requesters that tag the cache (R406): ring accesses, and the DMA of a command. -/
def ringReq : Nat := 0
def dmaReq : Nat := 1

/-- A request for a host page, as the host sees it. -/
def State.hostReq (s : State) (k : HostReq) (fn page : Nat) : State :=
  { s with out := { s.out with ats := s.out.ats ++ [(k, fn, page)] } }

/-- A translation is the most recently used of the 4,096 (R406). -/
def State.atcPut (s : State) (fn req page : Nat) : State :=
  let e := (fn, req, page)
  { s with host := { s.host with atc := (e :: s.host.atc.filter fun x => x != e).take 4096 } }

/-- The host's answer to a Translation Request (R407, R409): whether it gives again a page that it has withdrawn is a free value
(log 9). -/
def State.hostGives (s : State) (fn page : Nat) : Bool × State :=
  if s.host.refused.contains (fn, page) then (false, s)
  else if s.host.withdrawn.contains (fn, page) = false then (true, s)
  else
    let f := s.takeFree 1
    let h := f.2.host
    let left := h.withdrawn.filter fun e => e != (fn, page)
    (f.1 == 1, { f.2 with host := { h with withdrawn := left, refused := if f.1 = 1 then h.refused else h.refused ++ [(fn, page)] } })

/-- Translate one page for a requester: true when the access may go on. A hit is requested translated; a miss asks the host
(R406). -/
def State.translate (s : State) (fn req page : Nat) : Bool × State :=
  if s.atsOn fn = false then (!(s.host.refused.contains (fn, page)), s.hostReq .untranslated fn page)
  else if s.host.atc.contains (fn, req, page) then (true, (s.atcPut fn req page).hostReq .translated fn page)
  else
    let r := (s.hostReq .translation fn page).hostGives fn page
    if r.1 then (true, (r.2.atcPut fn req page).hostReq .translated fn page) else (false, r.2)

/-- A translation failed: a page request, when the function has ATS enabled. -/
def State.pageFault (s : State) (fn page : Nat) : State := if s.atsOn fn then s.pageRequest fn page else s

/-- Translate the pages of a byte range in order: the first page that fails, or none. -/
def State.translateRange (s : State) (fn addr n : Nat) : Option Nat × State :=
  if n = 0 then (none, s)
  else
    (natsFrom (addr / kib4) ((addr + n - 1) / kib4 - addr / kib4 + 1)).foldl (fun r page => match r.1 with
      | some _ => r
      | none => let (ok, s1) := r.2.translate fn dmaReq page; (if ok then none else some page, s1)) (none, s)

/-! ## Ring accesses (R356, R408) -/

/-- The queue pair stops on a translation fault. -/
def State.queueFault (s : State) (fn q page : Nat) : State := (s.setBit (Reg.QCF_STAT q) 6).pageFault fn page

def State.sqBase (s : State) (q : Nat) : Nat := s.rn64 (Reg.QCF_SQ_BASE_LO q)
def State.cqBase (s : State) (q : Nat) : Nat := s.rn64 (Reg.QCF_CQ_BASE_LO q)
def State.sqHead (s : State) (q : Nat) : Nat := s.fld (Reg.QCF_STAT q) 20 12
def State.cqTail (s : State) (q : Nat) : Nat := s.fld (Reg.QCF_STAT q) 8 12
def State.sqLast (s : State) (q : Nat) : Nat := s.fld (Reg.QCF_SIZE q) 16 12
def State.cqLast (s : State) (q : Nat) : Nat := s.fld (Reg.QCF_SIZE q) 0 12

/-- Pages at which a queue pair's next ring accesses fall. -/
def State.queuePages (s : State) (q : Nat) : List Nat :=
  [(s.sqBase q + 64 * s.sqHead q) / kib4, (s.cqBase q + 32 * s.cqTail q) / kib4]

/-- The queue pairs of a function. -/
def State.queuesOf (s : State) (fn : Nat) : List Nat := natsFrom (s.fld (Reg.CMD_FUNC_Q fn) 0 12) (s.fld (Reg.CMD_FUNC_Q fn) 16 13)

/-- PAGE_REQUEST_RESPONSE (R408): Success maps the page and resumes the queue pairs that stopped on it. -/
def execPageRequestResponse (fn page : Nat) (ok : Bool) (s : State) : Host.Outcome State Fault Refusal :=
  .next <|
    if s.host.pageReqs.contains (fn, page) = false then s
    else
      let s1 := { s with host := { s.host with pageReqs := s.host.pageReqs.erase (fn, page) } }
      let s2 := if ok then
          let s2 := { s1 with host := { s1.host with refused := s1.host.refused.filter fun e => e != (fn, page) } }
          (s2.queuesOf fn).foldl (fun s q =>
            if s.bit (Reg.QCF_STAT q) 6 && (s.queuePages q).contains page then s.clrBit (Reg.QCF_STAT q) 6 else s) s2
        else s1
      s2.pageRetry

/-- ATS_INVALIDATION (R409): the translations leave the cache, and the Invalidation Completion follows. Whether the host gives a
page again, a later access finds. -/
def execAtsInvalidation (fn page count : Nat) (s : State) : Host.Outcome State Fault Refusal :=
  .next <|
    let inRange := fun (f g : Nat) => f == fn && decide (page ≤ g ∧ g < page + count)
    let gone := (natsFrom page count).map fun g => (fn, g)
    let host := { s.host with atc := s.host.atc.filter fun e => !(inRange e.1 e.2.2),
                              withdrawn := (s.host.withdrawn.filter fun e => !(inRange e.1 e.2)) ++ gone }
    { s with host := host }.hostReq .invalidated fn page

/-! ## DMA of a command (R374, R375, R407) -/

/-- How far a DMA of n bytes from `addr` gets, in units of `size` bytes from unit `start` on: the bytes reached (on a unit
boundary, or n), and the page that failed. -/
def State.dmaUnits (s : State) (fn addr n size : Nat) : Nat → Nat → Nat × Option Nat × State
  | _, 0 => (n, none, s)
  | start, k + 1 =>
    let pos := start * size
    if n ≤ pos then (n, none, s)
    else match s.translateRange fn (addr + pos) (min size (n - pos)) with
      | (some page, s1) => (pos, some page, s1.pageFault fn page)
      | (none, s1) => s1.dmaUnits fn addr n size (start + 1) k

/-- A whole DMA from a unit on: bytes reached, the failing page. -/
def State.dma (s : State) (fn addr n size start : Nat) : Nat × Option Nat × State :=
  s.dmaUnits fn addr n size start (n / size + 1 - start)

/-- The end of a DMA command: OK with a result, or TRANSLATION_FAULT at the position reached with the faulting address. -/
def State.dmaEnd (s : State) (id reached total : Nat) (page : Option Nat) (result : Nat) : State :=
  match page with
  | none => s.finishAt id Status.ok result total total
  | some g => s.finishAt id Status.translationFault (g * kib4) reached total

end Sys2Proof.Machine
end

