-- ==== Sys2Proof/Machine/HostOps.lean ====
section
/-! DEFINITION. What the host asks of a plot: starts and stops, peeks, pokes, forces, memory accesses, signature
configuration, extra stakes and rollback, and headland steps 10-23 that apply them (R25, R26, R58, R59, R62, R95, R148,
R196, R205, R215, R290, R319, R346, R347, R370, R378, R379, R543). -/

namespace Sys2Proof.Machine
open Sys2Proof

/-! ## AT and what a plot accepts -/

/-- PN named by AT, if AT is by PN (R361). -/
def Cmd.atPn (c : Cmd) : Option Nat := if c.dw64 4 = 0 ∨ 2 ^ 63 ≤ c.dw64 4 then none else some (c.dw64 4)

/-- Headland pn of a plot has passed step 10 in its present timetable (R370). -/
def State.passed10 (s : State) (p pn : Nat) : Bool :=
  let t := (s.plot p).tm
  t.launched && (decide (pn < t.pn) || (pn == t.pn && (match t.phase with
    | .step _ => false
    | .head g => !([Stage.commit, .latch, .release, .mark, .apply].contains g)
    | .stopped => true)))

/-- The headland that a command names has passed step 10 (R370). -/
def State.missed (s : State) (p : Nat) (c : Cmd) : Bool := match c.atPn with
  | some n => s.passed10 p n
  | none => false

/-- The status of a plot that stopped for good (R543). -/
def State.deadStatus (s : State) (p : Nat) : Option Nat :=
  if s.cmtState p = 6 then some Status.divergence else if s.cmtState p = 7 then some Status.plotFault else none

/-- PLT_FALLOW.STATE (R423). -/
def State.fallowState (s : State) (p : Nat) : Nat := s.fld (Reg.PLT_FALLOW p) 28 4

/-- The plot is evicted or pre-empted: its furrows hold nothing of it (R411, R423). -/
def State.gone (s : State) (p : Nat) : Bool := decide (2 ≤ s.fallowState p ∧ s.fallowState p ≤ 4)

/-- NDEV of a plot's image; 1 before there is one (R333). -/
def State.ndev (s : State) (p : Nat) : Nat := max 1 (s.plot p).img.ndev

/-- A command waits for a headland of its plot, in submission order (R25, R371). -/
def State.queueHost (s : State) (p id : Nat) : State :=
  (s.blockCmd id).onId p fun x => { x with hostQ := x.hostQ ++ [id] }

/-! ## Slots named by PEEK_STATE, POKE_STATE, FORCE and UNFORCE (R376, R379) -/

/-- Logical furrow, BP, first slot and COUNT of an entry. -/
def Cmd.slots (c : Cmd) : Nat × Nat × Nat × Nat :=
  (nfld (c.dw 6) 0 9, nfld (c.dw 6) 16 7, nfld (c.dw 7) 0 8, nfld (c.dw 7) 16 5 + 1)

/-- The slots lie in the plot and in the BP. -/
def State.slotsOk (s : State) (p : Nat) (c : Cmd) : Bool :=
  let ls := match (s.plot p).id.save with
    | some v => v.logical
    | none => (s.plot p).res.furrows
  ls.contains c.slots.1 && decide (c.slots.2.2.1 + c.slots.2.2.2 ≤ 256)

/-- The slots of a POKE_STATE or FORCE with their values, in order. -/
def Cmd.slotVals (c : Cmd) : List (Nat × Nat × Nat × Val) :=
  let (l, b, t, n) := c.slots
  ((natsFrom t n).zip (unpackVals n (c.dw64 8))).map fun e => (l, b, e.1, e.2)

/-- Key of a slot of the initial state. -/
def initKey (l b t : Nat) : Nat := (l * 128 + b) * 256 + t

/-- Pokes and forces that wait in the pre-launch headland, in submission order (R347). -/
def State.preLaunch (s : State) (p : Nat) : List (Nat × Nat × Nat × Val) :=
  (s.plot p).id.hostQ.flatMap fun id => match s.cmdOf id with
    | some c => if c.opc = 0x41 ∨ c.opc = 0x42 then c.slotVals else []
    | none => []

/-- The version whose rows a PEEK_STATE reads (R59): the newest committed pass's in the state store, and before the launch that of
an imported state. None where the values come from elsewhere: initial contents, a save, or what a restored stake took the place
of (R202, R543; DESIGN CHOICE, log 58). -/
def State.peekVersion (s : State) (p : Nat) : Option Nat :=
  let x := s.plot p
  if s.sow p ≠ Sow.released then none
  else if x.tm.launched = false then (if x.img.imported then some (s.verBefore p x.tm.cpn) else none)
  else if x.id.save.isSome || x.cmt.kept.isSome then none
  else some (s.verBefore p x.tm.dpn)

/-- A slot of a copy of state, by logical furrow. -/
def copySlot (state : Cells Val) (l b t : Nat) : Val := cget .vx state (l * 32768 + b * 256 + t)

/-- A state slot as PEEK_STATE returns it (R59, R202, R347, R411, R543). -/
def State.peekSlot (s : State) (p l b t : Nat) : Val :=
  let x := s.plot p
  let waiting := if x.tm.launched then none
    else (s.preLaunch p).reverse.find? fun e => e.1 == l && e.2.1 == b && e.2.2.1 == t
  match waiting, s.peekVersion p with
  | some e, _ => if s.sow p = Sow.released then e.2.2.2 else .vx
  | none, some ver => s.slotRead (s.phys l) ver b t
  | none, none =>
    if s.sow p ≠ Sow.released then .vx
    else if x.tm.launched = false then cget .vx x.img.initState (initKey l b t)
    else match x.cmt.kept, x.id.save with
      | some state, _ => copySlot state l b t
      | none, some v => copySlot v.copy.state l b t
      | none, none => .vx

/-- The rows that a PEEK_STATE reads in the state store. -/
def State.peekRows (s : State) (p l b t n : Nat) : List Nat :=
  match s.peekVersion p with
  | none => []
  | some ver => ((natsFrom t n).map fun i => stateRow (s.phys l) ver b i).dedup

/-- The read of a PEEK_STATE meets the injections armed for its rows (R471). -/
def State.peekTouch (s : State) (p l b t n : Nat) : State :=
  let rows := s.peekRows p l b t n
  s.glnTouch (some p) fun kind i => kind == Item.stateRow && rows.contains i

/-- The rows that a PEEK_STATE reads are checked (R76). Of a plot that runs, an error is charged to its executing pass, and of one
that stands still to none (DESIGN CHOICE, log 81). -/
def State.peekCheck (s : State) (p l b t n : Nat) : State :=
  (s.peekRows p l b t n).foldl (fun s r => match s.eccAt Item.stateRow r with
    | 0 => s
    | 1 => (s.idleCause p (s.phys l) 2 0 b).eccSet Item.stateRow r 0
    | _ => s.idleCause p (s.phys l) 3 0 b) s

/-- PEEK_STATE (R59). -/
def State.peek (s : State) (c : Cmd) : State :=
  let (l, b, t, n) := c.slots
  if s.slotsOk c.plot c = false then s.finish c.id Status.invalidParam 0
  else
    let s1 := s.peekTouch c.plot l b t n
    (s1.peekCheck c.plot l b t n).finish c.id Status.ok
      (packVals ((natsFrom t n).map fun i => s1.peekSlot c.plot l b i))

def execPeekState (id : Nat) (s : State) : Host.Outcome State Fault Refusal := .next (s.onTaken 0x40 id s.peek)

/-- POKE_STATE, FORCE and UNFORCE reach their unit: checked, then held for their headland (R370, R371, R379, R543). -/
def State.slotCmd (s : State) (c : Cmd) : State :=
  let p := c.plot
  if s.slotsOk p c = false ∨ s.sow p ≠ Sow.released then s.finish c.id Status.invalidParam 0
  else match s.deadStatus p with
    | some st => s.finish c.id st 0
    | none => if s.missed p c then s.finish c.id Status.deadlineMissed 0 else s.queueHost p c.id

def execPokeState (id : Nat) (s : State) : Host.Outcome State Fault Refusal := .next (s.onTaken 0x41 id s.slotCmd)
def execForce (id : Nat) (s : State) : Host.Outcome State Fault Refusal := .next (s.onTaken 0x42 id s.slotCmd)
def execUnforce (id : Nat) (s : State) : Host.Outcome State Fault Refusal := .next (s.onTaken 0x43 id s.slotCmd)

/-- One poke applied for pass n, with its record (R25, R58). -/
def State.pokeDo (s : State) (p n : Nat) (e : Nat × Nat × Nat × Val) : State :=
  (s.pokeSlot p n e.1 e.2.1 e.2.2.1 e.2.2.2).logAdd p (.poke n e.1 e.2.1 e.2.2.1 e.2.2.2)

def State.forceDo (s : State) (p n : Nat) (e : Nat × Nat × Nat × Val) : State :=
  (s.pokeSlot p n e.1 e.2.1 e.2.2.1 e.2.2.2).logAdd p (.force n e.1 e.2.1 e.2.2.1 e.2.2.2)

def State.unforceDo (s : State) (p n : Nat) (e : Nat × Nat × Nat × Val) : State :=
  s.logAdd p (.unforce n e.1 e.2.1 e.2.2.1)

/-- Forced slots after a FORCE for pass n (R379). -/
def State.forcedAfter (s : State) (p n : Nat) (es : List (Nat × Nat × Nat × Val)) : Nat :=
  (es.foldl (fun l e => forceStep l (.force n e.1 e.2.1 e.2.2.1 e.2.2.2)) (s.forcesAt p n)).length

/-- Apply a POKE_STATE, FORCE or UNFORCE whole and complete it (R379). -/
def State.slotApply (s : State) (p n : Nat) (c : Cmd) : State :=
  let es := c.slotVals
  if c.opc = 0x41 then (es.foldl (fun s e => s.pokeDo p n e) s).finish c.id Status.ok n
  else if c.opc = 0x43 then (es.foldl (fun s e => s.unforceDo p n e) s).finish c.id Status.ok n
  else if s.forcedAfter p n es > 4096 then s.finish c.id Status.noResource 0
  else (es.foldl (fun s e => s.forceDo p n e) s).finish c.id Status.ok n

/-! ## MEM_READ and MEM_WRITE (R95, R148, R376) -/

def Cmd.memSpace (c : Cmd) : Nat := nfld (c.dw 6) 0 2
def Cmd.memOffset (c : Cmd) : Nat := c.dw64 8
def Cmd.memLength (c : Cmd) : Nat := c.dw 10
def Cmd.memHost (c : Cmd) : Nat := c.dw64 11

/-- Bytes of one furrow RAM word, at least one (R89). -/
def ramBytes (shape : Nat) : Nat := max 1 (shapeWidth shape / 4)

/-- The bytes from an offset on that one operation covers: to the next 16-byte unit of design memory, or to the end of
the furrow RAM word. -/
def State.memUnit (s : State) (p : Nat) (c : Cmd) (off left : Nat) : Nat :=
  let u := if c.memSpace = 1 then ramBytes (s.ramShape (s.phys (nfld (c.dw 7) 0 9))) else 16
  let _ := p
  min left (u - off % u)

/-- Operations of R25 that a unit counts as: a 32K x 1 furrow RAM has four words in a byte. -/
def State.memCost (s : State) (c : Cmd) : Nat :=
  if c.memSpace = 1 ∧ s.ramShape (s.phys (nfld (c.dw 7) 0 9)) = 0 then 4 else 1

/-- A word of furrow RAM in the committed view (R95): the old value of the oldest uncommitted entry. On a plot that does not
run, a host write has taken effect at once. -/
def State.ramView (s : State) (p phys base w : Nat) : List Val :=
  let es := (cget [] s.fur.undo phys).filter fun e => e.base == base && decide ((s.plot p).tm.dpn ≤ e.pn)
  let newestHost := match es.getLast? with
    | some e => e.host && !s.plotRuns p
    | none => true
  match es with
  | e :: _ => if newestHost then s.ramSafe phys base w else e.old
  | [] => s.ramSafe phys base w

/-- Bytes of furrow RAM from a byte offset on. -/
def State.ramBytesView (s : State) (p phys off n : Nat) : List Byte :=
  let w := shapeWidth (s.ramShape phys)
  let first := 4 * off / w * w
  let words := (4 * (off + n) + w - 1) / w - first / w
  let vals := (natsFrom 0 words).flatMap fun i => s.ramView p phys (first + i * w) w
  leBytes n (packVals ((vals.drop (4 * off - first)).take (4 * n)))

/-- The protected words of bytes of furrow RAM are checked before a host read (R106). -/
def State.ramBytesCheck (s : State) (p phys off n : Nat) : State :=
  ((natsFrom (4 * off / 64) ((4 * (off + n) + 63) / 64 - 4 * off / 64))).foldl
    (fun s i => (s.ramCheck p phys (64 * i) 0).2) s

/-- Write one furrow RAM word for pass n with its undo entry and record (R95). On a launched plot that stands stopped the
entry is made too, and no bound of 16 applies (DESIGN CHOICE, log 50). -/
def State.ramHostWord (s : State) (p n phys l base : Nat) (vs : List Val) : State :=
  if (s.plot p).tm.launched then (s.ramStore p phys base n 0 vs true).logAdd p (.ramWrite n l base vs)
  else (s.ramMerge p phys base 0).ramPut phys base vs

/-- Write bytes that lie in one unit of furrow RAM. -/
def State.ramHostWrite (s : State) (p n l off : Nat) (bs : List Byte) : State :=
  let phys := s.phys l
  let w := shapeWidth (s.ramShape phys)
  let vals := unpackVals (4 * bs.length) (leNat bs)
  let first := 4 * off / w * w
  let words := (4 * (off + bs.length) + w - 1) / w - first / w
  (natsFrom 0 words).foldl (fun s i =>
    let base := first + i * w
    let old := s.ramSafe phys base w
    let new := (old.zip (natsFrom base w)).map fun e =>
      if 4 * off ≤ e.2 ∧ e.2 < 4 * off + vals.length then nth e.1 vals (e.2 - 4 * off) else e.1
    s.ramHostWord p n phys l base new) s

/-- Design memory bytes as MEM_READ sees them (R148). -/
def State.designView (s : State) (addr n : Nat) : List Byte := s.hbmSeen addr n s.hostSees

/-- Device HBM address of a byte of the plot's pages, in map order (R399). -/
def State.plotPageAddr (s : State) (p off : Nat) : Option Nat :=
  match (s.plot p).res.map[off / mib2]? with
  | some e => if e.lifted then none else some (e.page * mib2 + off % mib2)
  | none => none

/-- Address of a byte for MEM_READ and MEM_WRITE of HBM. -/
def State.memAddr (s : State) (p : Nat) (c : Cmd) (off : Nat) : Option Nat :=
  if c.memSpace = 0 then s.designAddr p off else s.plotPageAddr p off

/-- Serve one unit at byte position pos for pass n: none when it must wait for the next headland; otherwise whether
poisoned data was met. A read goes to the DRAM words of its bytes also where committed entries cover them whole, and meets
their errors (DESIGN CHOICE, log 81). -/
def State.memServe (s : State) (n : Nat) (c : Cmd) (pos len : Nat) : Option (Bool × State) :=
  let p := c.plot
  let off := c.memOffset + pos
  let host := c.memHost + pos
  let write := c.opc == 0x45
  if c.memSpace = 1 then
    let l := nfld (c.dw 7) 0 9
    let phys := s.phys l
    if write then
      if s.plotRuns p && decide (s.hostUndo phys + s.memCost c > 16) then none
      else some (false, s.ramHostWrite p n l off (s.hostRead c.func host len))
    else
      let s1 := s.ramBytesCheck p phys off len
      some (false, s1.hostWrite c.func host (s1.ramBytesView p phys off len))
  else match s.memAddr p c off with
    | none => some (false, s)
    | some a =>
      if write then
        let bs := s.hostRead c.func host len
        if c.memSpace = 2 ∨ (s.plot p).tm.launched = false then some (false, s.hbmStore a bs)
        else if s.plotRuns p = false then some (false, (s.hbmNow p n a bs).logAdd p (.memWrite n a bs))
        else match s.wqEnter ⟨pcOf a, p, a, bs, n, 0, 0, false, true⟩ with
          | (true, s1) => some (false, s1.logAdd p (.memWrite n a bs))
          | (false, _) => none
      else
        let (bad, s1) := s.hbmCheckRange a len (some p) n
        some (bad, s1.hostWrite c.func host (s1.designView a len))

/-- Serve units from position pos to `last` within a budget: the position reached, the budget left, whether it must wait,
whether poisoned data was met. -/
def State.memRun (s : State) (n : Nat) (c : Cmd) (last : Nat) : Nat → Nat → Nat → Nat × Nat × Bool × Bool × State
  | 0, pos, budget => (pos, budget, false, false, s)
  | k + 1, pos, budget =>
    if last ≤ pos then (pos, budget, false, false, s)
    else
      let len := s.memUnit c.plot c (c.memOffset + pos) (last - pos)
      if budget < s.memCost c then (pos, budget, true, false, s)
      else match s.memServe n c pos len with
        | none => (pos, budget, true, false, s)
        | some (true, s1) => (pos, budget, false, true, s1)
        | some (false, s1) => s1.memRun n c last k (pos + len) (budget - s.memCost c)

/-- Completion of a memory command at a position. `mark` holds the bytes that DMA can reach, `result` the page that failed. -/
def State.memEnd (s : State) (c : Cmd) (pos : Nat) (poisoned : Bool) : State :=
  let n := c.memLength
  if poisoned then s.finishAt c.id Status.dataLoss 0 pos n
  else if c.mark < n then s.finishAt c.id Status.translationFault c.result c.mark n
  else s.finishAt c.id Status.ok (n - c.dw 13 * kib4) n n

/-- Serve a memory command as far as the budget goes: the budget left, and whether it still waits. -/
def State.memStep (s : State) (n : Nat) (c : Cmd) (budget : Nat) : Nat × Bool × State :=
  match s.memRun n c c.mark (c.memLength + 1) c.pos budget with
  | (pos, left, wait, bad, s1) =>
    if wait then (left, true, s1.onCmd c.id fun c => { c with pos := pos }) else (left, false, s1.memEnd c pos bad)

/-- Every byte that a memory command names exists (R148). -/
def State.memRangeOk (s : State) (p : Nat) (c : Cmd) : Bool :=
  let off := c.memOffset
  let n := c.memLength
  match c.memSpace with
  | 0 => off % 8 == 0 && n % 8 == 0 && decide (8 ≤ n) &&
      (natsFrom 0 (n / 8)).all fun i => (s.designAddr p (off + 8 * i)).isSome
  | 1 => (s.plot p).res.furrows.contains (nfld (c.dw 7) 0 9) && decide (off + n ≤ 8192 ∧ 0 < n)
  | 2 => off % 8 == 0 && n % 8 == 0 && decide (8 ≤ n) &&
      (natsFrom (off / mib2) ((off + n - 1) / mib2 - off / mib2 + 1)).all fun i => (s.plotPageAddr p (i * mib2)).isSome
  | _ => false

/-- A design page of a running plot lies among the plot pages that a MEM_WRITE names. -/
def State.pagesBusy (s : State) (p : Nat) (c : Cmd) : Bool :=
  s.plotRuns p && (natsFrom (c.memOffset / mib2) ((c.memOffset + c.memLength - 1) / mib2 - c.memOffset / mib2 + 1)).any
    fun i => match (s.plot p).res.map[i]? with
      | some e => e.use == 1
      | none => false

/-- MEM_READ and MEM_WRITE reach their unit (R95, R148, R153, R370, R543). -/
def State.memCmd (s : State) (c : Cmd) : State :=
  let p := c.plot
  let write := c.opc == 0x45
  let gone := s.gone p
  if c.memSpace ≠ 1 ∧ s.hbmStatus ≠ 0 then s.finish c.id s.hbmStatus 0
  else if s.sow p < Sow.sown then s.finish c.id Status.busy 0
  else if s.memRangeOk p c = false then s.finish c.id Status.invalidParam 0
  else if (c.memSpace = 1 ∧ gone = true) ∨ (c.memSpace = 0 ∧ ((s.plot p).res.map.any fun e => e.use == 1 && e.lifted) = true)
      ∨ (c.memSpace = 2 ∧ write = true ∧ s.pagesBusy p c = true) then s.finish c.id Status.busy 0
  else if write && s.missed p c then s.finish c.id Status.deadlineMissed 0
  else
    let (reach, page, s1) := s.dma c.func c.memHost c.memLength kib4 (c.dw 13)
    let upd := fun (c : Cmd) => { c with pos := min c.memLength (c.dw 13 * kib4), total := c.memLength, mark := reach,
                                         result := page.getD 0 * kib4 }
    let s2 := s1.onCmd c.id upd
    let waits := c.memSpace ≠ 2 ∧ (if write then s.plotBusy p else s.plotRuns p) = true
    if waits then s2.queueHost p c.id
    else
      let (_, wait, s3) := s2.memStep (s.nextPass p) (upd c) (2 ^ 40)
      if wait then s3.queueHost p c.id else s3

def execMemRead (id : Nat) (s : State) : Host.Outcome State Fault Refusal := .next (s.onTaken 0x44 id s.memCmd)
def execMemWrite (id : Nat) (s : State) : Host.Outcome State Fault Refusal := .next (s.onTaken 0x45 id s.memCmd)

/-! ## SIG_CONFIG (R319) -/

/-- The 40 bytes of a SIG_CONFIG, as dwords. -/
def State.sigBlock (s : State) (c : Cmd) : List Word := leWords 10 (s.hostRead c.func (c.dw64 7) 40)

/-- A SIG_CONFIG takes effect for pass n; on a running plot the unit restarts (R319). -/
def State.sigApply (s : State) (n : Nat) (c : Cmd) : State :=
  let u := nfld (c.dw 6) 0 5
  let s1 := s.sigWrite u (s.sigBlock c)
  let s2 := if s.plotRuns c.plot then (s1.sigRestart u).logAdd c.plot (.sigRestart n u) else s1
  s2.finish c.id Status.ok 0

def State.sigConfigCmd (s : State) (c : Cmd) : State :=
  let p := c.plot
  let (reach, page, s1) := s.dma c.func (c.dw64 7) 40 40 0
  if (s.plot p).res.sigs.contains (nfld (c.dw 6) 0 5) = false then s.finish c.id Status.notOwner 0
  else if reach < 40 then s1.dmaEnd c.id 0 0 page 0
  else if sigConfigOk (wordAt (s.sigBlock c) 0) = false then s1.finish c.id Status.invalidParam 0
  else match s.deadStatus p with
    | some st => s1.finish c.id st 0
    | none =>
      if s.missed p c then s1.finish c.id Status.deadlineMissed 0
      else if s.plotBusy p then s1.queueHost p c.id
      else s1.sigApply (s.nextPass p) c

def execSigConfig (id : Nat) (s : State) : Host.Outcome State Fault Refusal := .next (s.onTaken 0xb0 id s.sigConfigCmd)

/-! ## Headland steps 10-23 (R25, R196) -/

/-- One waiting command at the headland of pass pn: the budget left, and whether it and the ones after it wait. -/
def State.applyOne (s : State) (p n id budget : Nat) : Nat × Bool × State :=
  match s.cmdOf id with
  | none => (budget, false, s)
  | some c =>
    if c.opc = 0xb0 then (budget, false, s.sigApply n c)
    else if c.opc = 0x44 ∨ c.opc = 0x45 then s.memStep n c budget
    else
      let cost := c.slots.2.2.2
      if budget < cost then (budget, true, s) else (budget - cost, false, s.slotApply p n c)

/-- Waiting commands in submission order; one that does not fit holds those after it that are due too. -/
def State.applyList (s : State) (p n budget : Nat) (stuck : Bool) : List Nat → List Nat × State
  | [] => ([], s)
  | id :: ids =>
    let due := match s.cmdOf id with
      | some c => (match c.atPn with
        | some a => decide (a < n)
        | none => true)
      | none => true
    if !due || stuck then
      let (rest, s1) := s.applyList p n budget stuck ids
      (id :: rest, s1)
    else
      let (left, wait, s1) := s.applyOne p n id budget
      let (rest, s2) := s1.applyList p n left wait ids
      (if wait then id :: rest else rest, s2)

/-- The waiting host operations of a plot, 56 at most (R25). -/
def State.applyQueue (s : State) (p n : Nat) : State :=
  let (rest, s1) := s.applyList p n 56 false (s.plot p).id.hostQ
  s1.onId p fun x => { x with hostQ := rest }

/-- The records of pass n applied again (R196). -/
def State.reapply (s : State) (p n : Nat) : State :=
  ((s.plot p).cmt.log.filter fun r => LogRec.pn r == n).foldl (fun s r => s.reapplyRec p r) s

/-- A ROLLBACK named for this headland makes it a recovery hold (R215); one named for an earlier headland has missed it. -/
def State.rollbackCheck (s : State) (p : Nat) : State :=
  let pn := (s.plot p).tm.pn
  let rb := (s.plot p).cmt.rollback
  let s1 := (rb.filter fun e => decide (e.1 < pn)).foldl (fun s e => s.finishOpt (e.2.getD 0) Status.deadlineMissed 0)
    (s.onCmt p fun c => { c with rollback := c.rollback.filter fun e => decide (pn ≤ e.1) })
  if rb.any fun e => e.1 == pn then s1.onTm p fun t => { t with hl := { t.hl with hold := true, replay := false } } else s1

/-- Headland steps 10-23 of a plot. A failing headland applies nothing: the pass that follows is one executed before. -/
def State.hostApply (s : State) (p : Nat) : State :=
  let s0 := s.rollbackCheck p
  if (s.plot p).tm.hl.fail then s0
  else
    let n := (s.plot p).tm.pn + 1
    let s1 := (s0.forcesBefore p n).foldl (fun s e => s.pokeSlot p n e.1 e.2.1 e.2.2.1 e.2.2.2) s0
    let again := decide ((s.plot p).tm.pn < (s.plot p).cmt.hostFrom) || s.suppressed p
    (if again then s1.reapply p n else s1.applyQueue p n).logCheck p

/-- HEADLAND_HOST_APPLY (R25). -/
def execHeadlandHostApply (p : Nat) (s : State) : Host.Outcome State Fault Refusal :=
  .next (if s.atHead p .apply then ((s.hostApply p).spend p 13).toHead p .flush else s)

/-! ## Starts and stops (R26, R290, R346, R347, R378) -/

/-- T_RESUME is present exactly on a plot of several devices, and passes the checks of R290: none, or a status. -/
def State.resumeStatus (s : State) (p t : Nat) : Option Nat :=
  if (s.ndev p = 1) ≠ (t = 0) then some Status.invalidParam
  else if t = 0 then none
  else if s.ftLocked = false then some Status.timeUnlocked
  else if t < s.ftNs + 20000 then some Status.deadlineMissed
  else none

/-- A stopped plot starts again at once or at T_RESUME. -/
def State.startPlot (s : State) (p t : Nat) : State :=
  if t = 0 then s.resumePlot p else s.onId p fun x => { x with startAt := some (t, s.nextPass p, 1) }

/-- A plot that waits for its start, or runs, or is in a hold. -/
def State.started (s : State) (p : Nat) : Bool := s.plotBusy p || (s.plot p).id.startAt.isSome

/-- A LIFT or DROP of the plot is in progress (R415). -/
def State.liftRuns (s : State) (p : Nat) : Bool :=
  s.cmd.store.any fun c => c.plot == p && (c.opc == 0x54 || c.opc == 0x55) && c.stage == .executing

/-- A CKPT_EXPORT or CKPT_IMPORT of the plot is in progress (R488, R489). -/
def State.ckptBusy (s : State) (p : Nat) : Bool :=
  s.cmd.store.any fun c => c.plot == p && (c.opc == 0x51 || c.opc == 0x52) && c.stage == .executing

/-- RUN and STEP_PASS (R378): stop is the STOP_PN, 0 for none. -/
def State.runCmd (s : State) (c : Cmd) (stop t : Nat) : State :=
  let p := c.plot
  let x := s.plot p
  if s.fallowState p ≠ 0 ∨ s.ckptBusy p = true then s.finish c.id Status.busy 0
  else if s.dataLost p then s.finish c.id Status.dataLoss 0
  else if s.sow p ≠ Sow.released ∨ x.tm.launched = false ∨ (stop ≠ 0 ∧ stop ≤ x.tm.pn) then s.finish c.id Status.invalidParam 0
  else if s.started p then s.finish c.id Status.busy 0
  else match s.deadStatus p, s.resumeStatus p t with
    | some st, _ => s.finish c.id st 0
    | none, some st => s.finish c.id st 0
    | none, none => (s.onCmd c.id fun c =>
        { c with stage := .blocked, mark := stop, pos := 0,
                 total := if stop = 0 then 0 else stop + 1 - s.dlag p - x.tm.cpn }).startPlot p t

def State.runOp (s : State) (c : Cmd) : State := s.runCmd c (c.dw64 6) (c.dw64 8)

def State.stepOp (s : State) (c : Cmd) : State :=
  if c.dw 6 = 0 then s.finish c.id Status.invalidParam 0
  else s.runCmd c ((s.plot c.plot).tm.pn + c.dw 6) (c.dw64 8)

def execRun (id : Nat) (s : State) : Host.Outcome State Fault Refusal := .next (s.onTaken 0x30 id s.runOp)
def execStepPass (id : Nat) (s : State) : Host.Outcome State Fault Refusal := .next (s.onTaken 0x32 id s.stepOp)

/-- A stop request enters (R26). -/
def State.askStop (s : State) (p kind : Nat) (pn : Option Nat) (id : Nat) : State :=
  s.onId p fun x => { x with stops := x.stops ++ [(kind, pn, id)] }

/-- HALT_AT of a command with FLOOD (R345, R376). -/
def State.floodHalt (s : State) (p action pn : Nat) : State := s.floodCtl p 3 action 0 pn 0

/-- HALT (R26, R351, R378). On a plot that does not run, one that waits for T0 or T_RESUME among them, it completes at once, with
PLOT_FAULT where an exposure is still to be reported (R198). -/
def State.haltOp (s : State) (c : Cmd) : State :=
  let p := c.plot
  let flood := (c.dw 6).testBit 0
  if (1 < s.ndev p ∨ flood = true) ∧ c.atPn = none then s.finish c.id Status.invalidParam 0
  else if s.sow p = Sow.releasing ∨ s.sowRuns p = true then s.finish c.id Status.busy 0
  else
    let s1 := if flood then s.floodHalt p 0 (c.atPn.getD 0) else s
    if s.plotBusy p = false then
      (s1.onCmt p fun x => { x with exposed := false }).finish c.id (s.stopStatus p) (s.plot p).tm.pn
    else if s.missed p c then s1.finish c.id Status.deadlineMissed 0
    else (s1.blockCmd c.id).askStop p 0 c.atPn c.id

def execHalt (id : Nat) (s : State) : Host.Outcome State Fault Refusal := .next (s.onTaken 0x31 id s.haltOp)

/-- A packet of HALT_AT (R346). -/
def State.haltPacket (s : State) (ws : List Word) : State :=
  match s.plotByTag (pktTag ws) with
  | none => s
  | some p =>
    let action := ctlAction ws
    let pn := ctlPn ws
    if 4 ≤ action then s
    else
      let t := (s.plot p).tm
      let begun := t.launched && (decide (pn < t.pn) || (pn == t.pn && (match t.phase with
        | .step _ => false
        | _ => true)))
      if begun then s.plotState p 8 Status.deadlineMissed [action, pn, pn / 2 ^ 32]
      else s.askStop p action (some pn) 0

def execHaltAt (_port : Nat) (words : List Word) (s : State) : Host.Outcome State Fault Refusal := .next (s.haltPacket words)

/-- The timing registers are in range (R41, R77, R156, R218). -/
def State.launchRegsOk (s : State) (p : Nat) : Bool :=
  let l := s.passLen p
  let c := s.fld (Reg.PLT_STAKE_CFG p) 24 5
  let memOk := s.bit (Reg.PLT_HL_CFG p) 31 == false ||
    ((if s.boot.grade20 then 200 else 170) ≤ s.fld (Reg.PLT_MEM_CFG p) 0 10 && 1 ≤ s.nch p && s.nch p ≤ 64 &&
      s.fld (Reg.PLT_MEM_CFG p) 24 4 ≤ 8)
  16 ≤ l && l ≤ 1024 && l % 8 == 0 && 1 ≤ s.dlag p && s.dlag p ≤ 4 && s.fld (Reg.PLT_HL_CFG p) 8 6 ≤ 32 &&
    s.fld (Reg.PLT_EVAL_CFG p) 0 2 != 0 && memOk && (c == 0 || (10 ≤ c && c ≤ 24 && s.fld (Reg.PLT_STAKE_CFG p) 0 16 != 0))

/-- The checks of LAUNCH_AT (R290): none, or a status. -/
def State.launchStatus (s : State) (p t0 : Nat) : Option Nat :=
  if s.sow p = Sow.releasing ∨ s.sowRuns p = true then some Status.busy
  else if s.sow p ≠ Sow.released ∨ s.launchRegsOk p = false then some Status.invalidParam
  else if s.fallowState p ≠ 0 ∨ s.started p = true ∨ s.ckptBusy p = true then some Status.busy
  else if s.ftLocked = false then some Status.timeUnlocked
  else if t0 < s.ftNs + 20000 then some Status.deadlineMissed
  else none

/-- A launch is accepted: K is computed and the start waits for T0 (R31, R290). -/
def State.launchAccept (s : State) (p t0 : Nat) : State :=
  (s.put (Reg.PLT_HL_CFG p) 16 8 (if s.bit (Reg.PLT_HL_CFG p) 31 then s.refreshK p else 0)).onId p
    fun x => { x with startAt := some (t0, 0, 0) }

def State.launchOp (s : State) (c : Cmd) : State :=
  let p := c.plot
  match s.launchStatus p (c.dw64 6) with
  | some st => s.finish c.id st 0
  | none =>
    let s1 := if (c.dw 8).testBit 0 then s.floodCtl p 2 0 0 0 (c.dw64 6) else s
    (s1.blockCmd c.id).launchAccept p (c.dw64 6)

def execLaunchAt (id : Nat) (s : State) : Host.Outcome State Fault Refusal := .next (s.onTaken 0x35 id s.launchOp)

/-- A LAUNCH packet (R346): its outcome enters the event trace. -/
def State.launchPacket (s : State) (ws : List Word) : State :=
  match s.plotByTag (pktTag ws) with
  | none => s
  | some p =>
    if s.sow p ≠ Sow.released then s
    else
      let st := s.launchStatus p (ctlFt ws)
      let s1 := s.plotState p 7 (st.getD 0) []
      if st.isNone then s1.launchAccept p (ctlFt ws) else s1

def execLaunch (_port : Nat) (words : List Word) (s : State) : Host.Outcome State Fault Refusal := .next (s.launchPacket words)

/-- The initial state goes into version D + 1, and from there into the version of pass 0 as at a version advance
(R54, R56, R347). -/
def State.loadInitial (s : State) (p : Nat) : State :=
  let ver := s.verBefore p 0
  let ls := (s.plot p).res.furrows
  let clear := fun (s : State) (l : Nat) =>
    { s with bp := { s.bp with sstore := cclear s.bp.sstore (stateKey (s.phys l) ver 0 0) 32768 },
             ecc := s.ecc.filter fun e => !(e.1 % 16 == Item.stateRow && e.1 / 16 / 1024 == s.phys l * 8 + ver) }
  let s1 := ls.foldl clear s
  let s2 := (s.plot p).img.initState.foldl (fun s e =>
    if ls.contains (e.1 / 32768) then s.stateSet (s.phys (e.1 / 32768)) ver (e.1 / 256 % 128) (e.1 % 256) e.2 else s) s1
  s2.versionCopy p ver (s.verOf p 0) 0

/-- Pokes and forces of the pre-launch headland, without the limit of R25, recorded with the first PN (R347). -/
def State.applyPreLaunch (s : State) (p n : Nat) : State :=
  let now := fun id => match s.cmdOf id with
    | some c => c.atPn.isNone
    | none => true
  let s1 := (s.applyList p n (2 ^ 40) false ((s.plot p).id.hostQ.filter now)).2
  s1.onId p fun x => { x with hostQ := x.hostQ.filter fun id => !(now id) }

/-- A final all-bank refresh of the plot's pseudo-channels (R34, R410). -/
def State.finalRefresh (s : State) (p : Nat) : State :=
  let pcs := (s.plot p).res.pcs
  { s with hbm := { s.hbm with refreshes := pcs.foldl (fun m pc => cset 0 m pc (cget 0 m pc + 1)) s.hbm.refreshes } }

/-- The initial values of a port's pins, as the staging of pass -1 (R301). -/
def State.initPins (s : State) (p q : Nat) : List Val :=
  let bs := (s.plot p).res.furrows.flatMap fun l => (natsFrom 0 32).filterMap fun j =>
    let a := Reg.FUR_FIO_OUT (s.phys l) j
    if s.bit a 31 && s.fld a 24 4 == q then some (s.fld a 0 5, cget .vz (s.plot p).img.initOut (l * 32 + j)) else none
  pinIds.map fun i => match bs.find? fun b => b.1 == i with
    | some b => b.2
    | none => .vz

/-- The output staging entries hold the initial values before pass 0 (R102, R301). -/
def State.initStaging (s : State) (p : Nat) : State :=
  (s.plot p).res.furrows.foldl (fun s l => (natsFrom 0 32).foldl (fun s j =>
    let v := cget Val.vz (s.plot p).img.initOut (l * 32 + j)
    { s with fur := { s.fur with outStage := cset Val.vx s.fur.outStage (s.phys l * 32 + j) v } }) s) s

/-- What the host has written to design memory stays there when the run that it met is given up, as contents of before the new
one (R148). -/
def State.keepHostWrites (s : State) (p : Nat) : State :=
  { s with hbm := { s.hbm with wq := s.hbm.wq.map fun e =>
      if e.plot == p && e.host then { e with committed := true, pn := 0 } else e } }

/-- Values carried by an earlier run of the plot are gone; STAKE and ROLLBACK commands that wait for a headland go on waiting
(R370). -/
def State.forgetRun (s : State) (p : Nat) : State :=
  let s1 := ((s.keepHostWrites p).wqDiscard p 0).gateDiscard p 0
  let s2 := { s1 with hbm := { s1.hbm with reads := s1.hbm.reads.filter (fun r => r.plot != p),
                                           journal := s1.hbm.journal.filter fun e => e.1 != p },
                      xch := { s1.xch with held := s1.xch.held.filter fun h => h.plot != p } }
  let s3 := (s.plotPhys p).foldl (fun s f => { s with fur := { s.fur with undo := cdel s.fur.undo f } }) s2
  let s4 := (s.plot p).res.fios.foldl (fun s q => s.onFio q fun x =>
    { x with staged := [(0, s.initPins p q)], compares := [], expLog := [], inUse := [], cycle := none }) (s3.initStaging p)
  s4.onPlot p fun x =>
    { x with tm := { launched := true, phase := .stopped }, cmt := { extra := x.cmt.extra, rollback := x.cmt.rollback },
             id := { x.id with forces := [], startAt := none },
             hvt := { x.hvt with hits := [], passWords := [], prevWord := [], words := [], probes := [] } }

/-- An imported state begins its run with its own pass (R489). -/
def State.startImported (s : State) (p : Nat) : State :=
  let k := (s.plot p).tm.pn
  s.onPlot p fun x =>
    { x with tm := { launched := true, pn := k, cpn := k, dpn := k },
             cmt := { top := k, extra := x.cmt.extra, rollback := x.cmt.rollback },
             id := { x.id with forces := [], startAt := none } }

/-- The high-water marks of the write queues and undo rings count from the launch (R109, R157). -/
def State.hwmReset (s : State) (p : Nat) : State :=
  let s1 := (s.plot p).res.pcs.foldl (fun s pc =>
    s.put (Reg.MEM_PC_WQ_STAT pc) 16 10 (s.fld (Reg.MEM_PC_WQ_STAT pc) 0 10)) s
  (s1.plotPhys p).foldl (fun s f => s.put (Reg.FUR_UNDO_STAT f) 16 9 (s.undoUsed f)) s1

/-- The launched plot is at the start of pass k, and its timetable begins. -/
def State.launchPass (s : State) (p k : Nat) : State :=
  ((s.onTm p fun t => { t with turn := (0, 0) }).clockFrom p).beginPass p k

/-- Pass 0, or the pass of an imported state, begins (R34, R54, R61, R290, R347, R489). -/
def State.launch (s : State) (p : Nat) (pins : List (Nat × Nat)) : State :=
  let imported := (s.plot p).img.imported && !(s.plot p).tm.launched
  let k := if imported then (s.plot p).tm.pn else 0
  let s0 := (if imported then s.startImported p else (s.forgetRun p).loadInitial p).hwmReset p
  let s1 := (s0.applyPreLaunch p k).reloadData p k
  let s2 := ((s1.onImg p fun x => { x with gsr := false, imported := false }).sigRestartAll p).finalRefresh p
  let s3 := (((s2.put (Reg.PLT_STAKE_STAT p) 30 2 0).put (Reg.PLT_CMT_FAIL p) 0 4 0).rnSet (Reg.PLT_REF_REMAIN p)
    (s2.refreshB p)).cmtStateSet p 1
  let s4 := ((s3.latchAll p k pins).sampleGates p k).plotState p 0 0 []
  (s4.launchPass p k).finishAll p (fun c => c.opc == 0x35 && c.stage == .blocked) Status.ok s.ftNs

/-- LAUNCH_START (R290): FT reaches T0. -/
def execLaunchStart (p : Nat) (pins : List (Nat × Nat)) (s : State) : Host.Outcome State Fault Refusal :=
  .next <| match (s.plot p).id.startAt with
  | some (t, _, 0) => (s.waitUntil t).launch p pins
  | _ => s

/-- T_RESUME_START (R290, R410): FT reaches the instant of a RUN, STEP_PASS or WAKE, and a plot that was waking is out of
fallow (R423). -/
def execTResumeStart (p : Nat) (s : State) : Host.Outcome State Fault Refusal :=
  .next <| match (s.plot p).id.startAt with
  | some (t, _, 1) =>
    (((s.waitUntil t).rnSet (Reg.PLT_FALLOW p) 0).resumePlot p).finishAll p (fun c => c.opc == 0x34 && c.stage == .blocked) Status.ok 0
  | _ => s

/-! ## STAKE and ROLLBACK (R205, R215) -/

/-- STAKE (R205). -/
def State.stakeOp (s : State) (c : Cmd) : State :=
  let p := c.plot
  if s.takesStakes p = false ∨ s.sow p ≠ Sow.released then s.finish c.id Status.invalidParam 0
  else match s.deadStatus p, c.atPn with
    | some st, _ => s.finish c.id st 0
    | none, none => s.finish c.id Status.invalidParam 0
    | none, some n =>
      if s.missed p c = true ∨ n ≤ (s.plot p).tm.cpn then s.finish c.id Status.deadlineMissed 0
      else (s.blockCmd c.id).onCmt p fun x => { x with extra := x.extra ++ [(n, c.id)] }

def execStake (id : Nat) (s : State) : Host.Outcome State Fault Refusal := .next (s.onTaken 0x50 id s.stakeOp)

/-- ROLLBACK (R215). One that another command of the plot still waits for finds it BUSY (DESIGN CHOICE, log 16). -/
def State.rollbackOp (s : State) (c : Cmd) : State :=
  let p := c.plot
  if s.sow p ≠ Sow.released then s.finish c.id Status.invalidParam 0
  else match s.deadStatus p, c.atPn with
    | some st, _ => s.finish c.id st 0
    | none, none => s.finish c.id Status.invalidParam 0
    | none, some n =>
      if s.missed p c then s.finish c.id Status.deadlineMissed 0
      else if (s.plot p).cmt.rollback.any fun e => e.2.isSome then s.finish c.id Status.busy 0
      else (s.blockCmd c.id).onCmt p fun x => { x with rollback := x.rollback ++ [(n, some c.id)] }

def execRollback (id : Nat) (s : State) : Host.Outcome State Fault Refusal := .next (s.onTaken 0x53 id s.rollbackOp)

end Sys2Proof.Machine
end

