-- ==== Sys2Proof/Machine/Image.lean ====
section
/-! DEFINITION. The seed image: segment headers, the part header, records and items, and the load checks that run at
SOW_SEGMENT (12_sowing_and_release.md R330-R333, R338; R22, R47, R67, R71, R83, R85, R96, R98, R112, R134, R138, R166, R219). -/

namespace Sys2Proof.Machine
open Sys2Proof

/-! ## Segment headers (R330) -/

/-- The fields of a segment header. -/
structure SegHdr where
  magic : Nat
  fmtMinor : Nat
  fmtMajor : Nat
  kind : Nat
  keyslot : Nat
  segidx : Nat
  nseg : Nat
  length : Nat
  iv : Nat
  imgid : Nat
  rsvd : Nat
deriving DecidableEq, Repr

/-- n bytes of a byte list from an offset, as a number. -/
def leAt (bs : List Byte) (off n : Nat) : Nat := leNat ((bs.drop off).take n)

def segHdr (bs : List Byte) : SegHdr :=
  { magic := leAt bs 0 4, fmtMinor := leAt bs 4 1, fmtMajor := leAt bs 5 1, kind := leAt bs 6 1, keyslot := leAt bs 7 1,
    segidx := leAt bs 8 4, nseg := leAt bs 12 4, length := leAt bs 16 4, iv := leAt bs 20 12, imgid := leAt bs 32 8,
    rsvd := leAt bs 40 24 }

/-- Key of a KEYSLOT (R329): none when the slot is refused or empty. -/
def State.imageKey (s : State) (slot : Nat) : Option (List Byte) :=
  if slot < 8 then (match cget [] s.boot.keys slot with
    | [] => none
    | k => some k)
  else if slot = 255 ∧ s.boot.lifecycle ≠ 2 then some (List.replicate 32 0) else none

/-- The segment header keeps to R330 and R331 beside a part already begun: NSEG and IMGID of the part, or none. -/
def SegHdr.ok (h : SegHdr) (part : Option (Nat × Nat)) : Bool :=
  h.magic == 0x4e534650 && h.fmtMajor == 1 && h.fmtMinor == 0 && decide (1 ≤ h.kind ∧ h.kind ≤ 15) &&
    decide (1 ≤ h.nseg ∧ h.nseg ≤ 65535 ∧ h.segidx < h.nseg) &&
    decide (16 ≤ h.length ∧ h.length ≤ 2 ^ 22 ∧ h.length % 16 = 0) && h.rsvd == 0 && (h.kind == 1) == (h.segidx == 0) &&
    (match part with
      | some (n, g) => h.nseg == n && h.imgid == g
      | none => true)

/-! ## The part header (R333) -/

/-- A field of the part header. -/
def hdrAt (b : List Byte) (off n : Nat) : Nat := leAt b off n

/-- Part header checks (R22, R138, R219, R333, R338). -/
def State.partHeaderOk (s : State) (b : List Byte) : Bool :=
  let f := hdrAt b
  let refEn := (f 7 1).testBit 0
  let c := f 9 1
  b.length == 128 && f 1 1 == 0 && f 21 3 == 0 && (b.drop 72).all (· == 0) &&
    f 0 1 == (if s.boot.grade20 then 1 else 2) && f 24 4 == s.devId &&
    decide (16 ≤ f 2 2 ∧ f 2 2 ≤ 1024 ∧ f 2 2 % 8 = 0) && decide (1 ≤ f 5 1 ∧ f 5 1 ≤ 4) &&
    f 6 1 &&& 0xec == 0 && nfld (f 6 1) 0 2 != 0 && decide (f 7 1 < 4) && decide (f 8 1 ≤ 32) &&
    (c == 0 || decide (10 ≤ c ∧ c ≤ 24 ∧ f 10 2 ≠ 0)) && decide (f 12 2 ≤ 1023) &&
    (!refEn || decide ((if s.boot.grade20 then 200 else 170) ≤ f 12 2 ∧ 1 ≤ f 14 1 ∧ f 14 1 ≤ 64)) && decide (f 14 1 ≤ 64) &&
    decide (f 15 1 ≤ 8) && decide (f 16 2 < 2 ^ 15 ∧ f 18 2 < 2 ^ 15) && decide (1 ≤ f 20 1 ∧ f 20 1 ≤ 15) &&
    decide (1 ≤ f 28 4 ∧ f 28 4 ≤ 262144)

/-! ## Records (R332) -/

/-- One record: UNIT, SUB, FIRST and its items as numbers. -/
structure ImgRec where
  unit : Nat
  sub : Nat
  first : Nat
  items : List Nat
deriving DecidableEq, Repr

/-- Bytes of an item of a kind; 0 for kinds whose size is fixed elsewhere. -/
def itemBytes (kind : Nat) : Nat :=
  match kind with
  | 2 => 4 | 3 => 10 | 4 => 24 | 5 => 88 | 6 => 8 | 7 => 32 | 8 => 64 | 9 => 8 | 10 => 8 | 11 => 8 | 12 => 1 | 13 => 1 | 15 => 1
  | _ => 0

/-- n items of a size from a byte list. -/
def takeItems (size : Nat) : Nat → List Byte → List Nat
  | 0, _ => []
  | n + 1, bs => leNat (bs.take size) :: takeItems size n (bs.drop size)

/-- The records of a body, with the item size that a record's SUB asks for; none when the format is broken. The first
argument bounds the number of records. -/
def parseRecs (size : Nat → Nat → Nat) : Nat → List Byte → Option (List ImgRec)
  | _, [] => some []
  | 0, _ => none
  | k + 1, bs =>
    let unit := leAt bs 0 2
    let sub := leAt bs 2 2
    let count := leAt bs 8 4
    let sz := size unit sub
    let len := (count * sz + 15) / 16 * 16
    let body := bs.drop 16
    if bs.length < 16 ∨ count = 0 ∨ sz = 0 ∨ leAt bs 12 4 ≠ 0 ∨ body.length < len then none
    else if ((body.take len).drop (count * sz)).all (· == 0) = false then none
    else match parseRecs size k (body.drop len) with
      | some rs => some (⟨unit, sub, leAt bs 4 4, takeItems sz count body⟩ :: rs)
      | none => none

/-- Records of a body of a kind with fixed item size. -/
def kindRecs (kind : Nat) (body : List Byte) : Option (List ImgRec) := parseRecs (fun _ _ => itemBytes kind) (body.length / 16) body

/-- UNIT, SUB and the targets of a record lie within their tables (R332). -/
def ImgRec.inTable (r : ImgRec) (kind : Nat) : Bool :=
  let fur := decide (r.unit < 512)
  let past := r.first + r.items.length
  match kind with
  | 2 => r.unit == 0 && r.sub == 0 && r.first == 0
  | 3 => fur && decide (r.sub < 128 ∧ past ≤ 1024)
  | 4 => fur && r.sub == 0 && decide (past ≤ 1024)
  | 5 => fur && r.sub == 0 && decide (past ≤ 256)
  | 6 => fur && r.sub == 0 && decide (past ≤ 256)
  | 7 => fur && r.sub == 0 && decide (1 ≤ r.first ∧ past ≤ 256)
  | 8 => fur && r.sub == 0 && decide (1 ≤ r.first ∧ past ≤ 256)
  | 9 => decide (r.unit < 4) && r.sub == 0 && r.first == 0
  | 10 => r.unit == 0 && r.sub == 0 && decide (past ≤ 2 ^ 20)
  | 11 => r.unit == 0 && r.sub == 0 && r.first == 0
  | 12 => fur && decide (r.sub < 128 ∧ past ≤ 256)
  | 13 => fur && r.sub == 0 && decide (past ≤ 32768)
  | 15 => fur && r.sub == 0 && decide (past ≤ 32)
  | _ => false

/-! ## Reserved fields and codes within one item (R338) -/

/-- Static checks of a PSW (R83). -/
def pswItemOk (n : Nat) : Bool :=
  let w := pswOf (BitVec.ofNat 192 n)
  w.mop != 7 && w.rsvd == 0 && (w.mop != 0 || w.mdesc == 0) &&
    (w.txsel.zip (natsFrom 0 16)).all fun e => w.txen.testBit e.2 || e.1 == 0

/-- Static checks of a gather descriptor (R85). -/
def gatherItemOk (n : Nat) : Bool :=
  let g := gatherOf (BitVec.ofNat 704 n)
  g.rsvd == 0 && decide (g.acnt ≤ 32 ∧ g.dcnt ≤ 64) && (g.ween || g.weidx == 0) &&
    (g.aidx.drop g.acnt).all (· == 0) && (g.didx.drop g.dcnt).all (· == 0)

/-- Static checks of a window (R134). -/
def windowItemOk (n : Nat) : Bool :=
  let w := windowOf (BitVec.ofNat 64 n)
  w.rsvd == 0 && decide (w.form < 2)

/-- Static checks of a probe descriptor (R96). -/
def probeItemOk (n : Nat) : Bool := nfld n 231 25 == 0 && decide (1 ≤ nfld n 224 6 ∧ nfld n 224 6 ≤ 32)

/-- Static checks of a signature feed descriptor (R98). -/
def sigItemOk (n : Nat) : Bool := nfld n 461 51 == 0 && decide (1 ≤ nfld n 448 7 ∧ nfld n 448 7 ≤ 64)

/-- Static checks of a route entry (R110, R112, R116). -/
def routeItemOk (n : Nat) : Bool :=
  let r := routeOf (BitVec.ofNat 64 n)
  r.rsvd == 0 && endPoint r.src != .reserved && endPoint r.dst != .reserved

/-- Static checks of an XT entry (R166, R167): the fields that its KIND reserves are 0. -/
def xtItemOk (n : Nat) : Bool :=
  let x := xtFields n
  nfld n 56 8 == 0 && x.rsvd == 0 && x.kind != 3 && decide (x.grp < 48 ∧ x.xgrp < 48) &&
    (x.kind == 2 || (x.rport == 0 && x.rlane == 0)) && (x.kind != 2 || x.acre == 0)

/-- RW-L fields of a register. -/
def rwlMask (r : RegRow) : Nat := fieldsMask (fun f => match f.acc with
  | .rwl => true
  | _ => false) r.fields

/-- The FUR offsets that a register setting may name: FUR_CFG, FUR_FIO_IN, FUR_FIO_OUT. -/
def furSetting (a : Nat) : Bool :=
  let o := (a - 0x1000000) % 0x1000
  0x1000000 ≤ a && a < Reg.FUR_CFG 528 && decide ((a - 0x1000000) / 0x1000 % 132 < 128) &&
    (o == Reg.FUR_CFG 0 - 0x1000000 || (natsFrom 0 32).any fun i =>
      o == Reg.FUR_FIO_IN 0 i - 0x1000000 || o == Reg.FUR_FIO_OUT 0 i - 0x1000000)

/-- A register setting names a register that an image may set (R332). -/
def settingItemOk (n : Nat) : Bool :=
  let a := n % 2 ^ 32
  furSetting a || portIds.any (fun q => a == Reg.LNK_ALAT q) ||
    (a % 4 == 0 && match regAt a with
      | some (r, _) => r.cls == RegClass.fio && rwlMask r != 0
      | none => false)

/-- The static check of one item of a kind. -/
def itemOk (kind n : Nat) : Bool :=
  match kind with
  | 2 => decide (n < 2 ^ 18)
  | 3 => !(bpWord (BitVec.ofNat 80 n)).illegal
  | 4 => pswItemOk n
  | 5 => gatherItemOk n
  | 6 => windowItemOk n
  | 7 => probeItemOk n
  | 8 => sigItemOk n
  | 9 => routeItemOk n
  | 10 => xtItemOk n
  | 11 => settingItemOk n
  | 12 => decide (n < 4)
  | 13 => decide (n < 4)
  | 15 => decide (n < 4)
  | _ => false

/-- The checks of a segment's body at SOW_SEGMENT (R338); of design memory contents only the first record header (R332). -/
def bodyOk (kind : Nat) (body : List Byte) : Bool :=
  if kind = 14 then
    decide (leAt body 0 2 < 512 ∧ leAt body 2 2 < 256) && leAt body 8 4 != 0 && leAt body 12 4 == 0
  else match kindRecs kind body with
    | some rs => rs.all fun r => r.inTable kind && r.items.all (itemOk kind)
    | none => false

/-! ## What an image supplies -/

/-- One target that the image supplies: kind, UNIT, SUB, index, content. -/
structure Target where
  kind : Nat
  unit : Nat
  sub : Nat
  idx : Nat
  val : Nat
deriving DecidableEq, Repr

/-- The targets of a record. -/
def ImgRec.targets (r : ImgRec) (kind : Nat) : List Target :=
  (r.items.zip (natsFrom r.first r.items.length)).map fun e => ⟨kind, r.unit, r.sub, e.2, e.1⟩

/-- The targets that a part's segments of fixed item size supply. -/
def shadowTargets (segs : List Seg) : List Target :=
  segs.flatMap fun g => if g.kind = 1 ∨ g.kind = 14 then [] else
    ((kindRecs g.kind g.body).getD []).flatMap fun r => r.targets g.kind

/-- Targets of one kind. -/
def ofKind (ts : List Target) (kind : Nat) : List Target := ts.filter fun t => t.kind == kind

end Sys2Proof.Machine
end

