-- ==== Sys2Proof/Machine/Load.lean ====
section
/-! DEFINITION. The load checks of SOW_COMMIT: items that depend on other items and on the plot's resources
(12_sowing_and_release.md R332, R338; R68, R83, R87, R90, R92, R93, R97, R99, R100, R102, R113-R118, R121, R134, R137, R138,
R140, R142, R167-R171, R173, R176, R209, R300-R302, R315, R400). -/

namespace Sys2Proof.Machine
open Sys2Proof

/-- What the checks look at: the plot, the part header's values and what the image supplies. -/
structure Part where
  p : Nat
  l : Nat
  h : Nat
  d : Nat
  pad : Nat
  nch : Nat
  grain : Nat
  refEn : Bool
  grade20 : Bool
  ts : List Target
deriving DecidableEq, Repr

/-- The part of a plot's shadow. -/
def State.partOf (s : State) (p : Nat) : Part :=
  let b := (s.plot p).img.header
  { p := p, l := hdrAt b 2 2, h := 24 + hdrAt b 4 1, d := hdrAt b 5 1, pad := hdrAt b 12 2, nch := hdrAt b 14 1,
    grain := 64 * 2 ^ hdrAt b 15 1, refEn := (hdrAt b 7 1).testBit 0, grade20 := s.boot.grade20,
    ts := shadowTargets (s.plot p).img.shadow }

/-- The content that the image supplies for a target. -/
def Part.get (x : Part) (kind unit sub idx : Nat) : Option Nat :=
  (x.ts.find? fun t => t.kind == kind && t.unit == unit && t.sub == sub && t.idx == idx).map (·.val)

def Part.kind (x : Part) (k : Nat) : List Target := ofKind x.ts k

/-- No target of a kind is supplied twice (R338); the target of a register setting is its register. -/
def Part.onceOk (x : Part) : Bool :=
  ([3, 4, 5, 6, 7, 8, 10, 12, 13, 15].all fun k => decide ((x.kind k).map fun t => (t.unit, t.sub, t.idx)).Nodup) &&
    decide ((x.kind 11).map fun t => t.val % 2 ^ 32).Nodup

/-! ## Gangs (R68) -/

def Part.word (x : Part) (l b n : Nat) : BpWord := bpWord (BitVec.ofNat 80 ((x.get 3 l b n).getD 0))

/-- Members of a gang after the leader. -/
def gangMembers (w : BpWord) : Nat := if w.size = 1 then 2 else 4

/-- A GANG word stands in a complete gang, with its roles in order. -/
def Part.gangOk (x : Part) (t : Target) : Bool :=
  let w := bpWord (BitVec.ofNat 80 t.val)
  if w.op ≠ 2 then true
  else if w.role = 0 then
    let m := gangMembers w
    decide (t.sub + m ≤ 127) && (natsFrom 1 m).all fun k =>
      let v := x.word t.unit (t.sub + k) t.idx
      v.op == 2 && v.size == w.size && v.xm == w.xm && v.role == (if k < m then 1 else 2)
  else (natsFrom 1 4).any fun k =>
    let v := x.word t.unit (t.sub - k) t.idx
    decide (k ≤ t.sub) && v.op == 2 && v.role == 0 && decide (k ≤ gangMembers v)

/-! ## Port schedule words (R83, R87, R90, R92, R93, R97, R134, R138, R140, R142) -/

/-- The PSWs that the image supplies for a furrow, with their steps (R83). -/
def Part.allPsws (x : Part) (l : Nat) : List (Nat × Psw) :=
  ((x.kind 4).filter fun t => t.unit == l).map fun t => (t.idx, pswOf (BitVec.ofNat 192 t.val))

/-- The PSWs of a furrow that the schedule executes, with their steps. -/
def Part.psws (x : Part) (l : Nat) : List (Nat × Psw) := (x.allPsws l).filter fun e => decide (e.1 < x.l)

def Part.gather (x : Part) (l i : Nat) : Gather := gatherOf (BitVec.ofNat 704 ((x.get 5 l 0 i).getD 0))

def Part.window (x : Part) (l i : Nat) : Window := windowOf (BitVec.ofNat 64 ((x.get 6 l 0 i).getD 0))

/-- The descriptor limits of a MOP (R87). -/
def gatherFits (mop shape : Nat) (g : Gather) : Bool :=
  let zero := (g.didx.take g.dcnt).all (· == 0)
  match mop with
  | 0 => true
  | 1 => g.acnt == shapeAddr shape && g.dcnt == shapeWidth shape && zero && !g.ween
  | 2 => g.acnt == shapeAddr shape && g.dcnt == shapeWidth shape
  | 3 => decide (1 ≤ g.acnt ∧ 1 ≤ g.dcnt) && zero && !g.ween
  | 4 => decide (1 ≤ g.acnt ∧ 1 ≤ g.dcnt)
  | 5 => g.acnt == 0 && decide (1 ≤ g.dcnt ∧ g.dcnt ≤ 32) && !g.ween && (g.didx.take g.dcnt).all (· < 32)
  | 6 => g.acnt == 0 && decide (1 ≤ g.dcnt ∧ g.dcnt ≤ 32) && !g.ween
  | _ => false

/-- One PSW against its descriptors, window and step. -/
def Part.pswOk (x : Part) (l shape : Nat) (e : Nat × Psw) : Bool :=
  let w := e.2
  let hbm := w.mop == 3 || w.mop == 4
  gatherFits w.mop shape (x.gather l w.mdesc) &&
    (w.prbd == 0 || (x.get 7 l 0 w.prbd).isSome) && (w.sigd == 0 || (x.get 8 l 0 w.sigd).isSome) &&
    (w.mop != 1 || decide (e.1 + 4 ≤ x.l)) &&
    (!hbm || (x.refEn && (x.window l w.mdesc).valid && decide (e.1 + (if x.grade20 then 96 else 82) ≤ x.l + x.h)))

/-- Return steps of a furrow's reads do not collide (R92, R138). -/
def Part.returnsOk (x : Part) (l : Nat) : Bool :=
  let ps := x.psws l
  let ram := (ps.filter fun e => e.2.mop == 1).map fun e => e.1 + 3
  let hbm := (ps.filter fun e => e.2.mop == 3).map fun e => (e.1 + x.pad) % x.l
  ram.all fun r => !(hbm.contains r)

/-- Undo-ring use of a furrow (R93). -/
def Part.undoOk (x : Part) (l : Nat) : Bool :=
  decide (((x.psws l).filter fun e => e.2.mop == 2).length * (x.d + 1) ≤ 240)

/-- Carried returns of a furrow (R142). -/
def Part.carriedOk (x : Part) (l : Nat) : Bool :=
  let js := ((x.psws l).filter fun e => e.2.mop == 3).map fun e => (e.1 + x.pad) / x.l
  decide (((js.filter (1 ≤ ·)).map (· + x.d)).sum ≤ 256)

/-- Probe values of a furrow by step and by pass (R97). -/
def Part.probesOk (x : Part) (l : Nat) : Bool :=
  let prb := (x.kind 3).filter fun t => t.unit == l && (bpWord (BitVec.ofNat 80 t.val)).prb
  let at_ := fun c =>
    (prb.filter fun t => t.idx + 1 == c).length +
      (match (x.psws l).find? fun e => e.1 == c with
        | some e => if e.2.prbd = 0 then 0 else nfld ((x.get 7 l 0 e.2.prbd).getD 0) 224 6
        | none => 0)
  let counts := (natsFrom 0 x.l).map at_
  counts.all (· ≤ 64) && decide (counts.sum ≤ 512)

/-- Windows of a furrow: span, and none without design memory (R134, R138). -/
def Part.windowsOk (x : Part) (l : Nat) : Bool :=
  ((x.kind 6).filter fun t => t.unit == l).all fun t =>
    let w := windowOf (BitVec.ofNat 64 t.val)
    !w.valid || (x.refEn && decide (w.offset (2 ^ (x.gather l t.idx).acnt) ≤ 2 ^ 36))

/-- The valid windows of the part as byte ranges of design memory. -/
def Part.spans (x : Part) : List (Nat × Nat × Window × Nat × Nat) :=
  (x.kind 6).filterMap fun t =>
    let w := windowOf (BitVec.ofNat 64 t.val)
    if w.valid then some (w.offset 0, w.offset (2 ^ (x.gather t.unit t.idx).acnt), w, t.unit, t.idx) else none

/-! ## Routes (R113-R116, R118, R121) -/

/-- The route entries of an acre. -/
def Part.routes (x : Part) (a : Nat) : List Route :=
  ((x.kind 9).filter fun t => t.unit == a).map fun t => routeOf (BitVec.ofNat 64 t.val)

/-- An endpoint names a furrow of the plot, or none. -/
def endInPlot (furrows : List Nat) (a : Nat) : EndPoint → Bool
  | .track f _ => furrows.contains (128 * a + f)
  | _ => true

/-- One route entry (R113, R116). -/
def Part.routeOk (x : Part) (furrows : List Nat) (a : Nat) (r : Route) : Bool :=
  let src := endPoint r.src
  let dst := endPoint r.dst
  let pairOk := match routeLatency src dst with
    | some (_, late) => decide (r.step + late ≤ x.l)
    | none => false
  let sent := match src with
    | .track f t => match (x.psws (128 * a + f)).find? fun e => e.1 == r.step with
      | some e => e.2.txen.testBit t
      | none => false
    | _ => true
  let paired := match src, dst with
    | _, .inter j k =>
      let b := otherAcre a j
      (x.routes b).any fun q => q.step == r.step && endPoint q.src == .inter (otherIndex b a) k
    | .inter j k, _ =>
      let b := otherAcre a j
      (x.routes b).any fun q => q.step == r.step && endPoint q.dst == .inter (otherIndex b a) k
    | _, _ => true
  pairOk && sent && paired && endInPlot furrows a src && endInPlot furrows a dst

/-- What a route entry claims: its destination and arrival step (R115); gates take any number. -/
def routeClaim (r : Route) : Option (Nat × Nat) :=
  match endPoint r.dst, routeLatency (endPoint r.src) (endPoint r.dst) with
  | .gate _, _ => none
  | _, some (lat, _) => some (r.dst, r.step + lat)
  | _, none => none

/-- The route entries of an acre keep to R115 and R116. -/
def Part.routesOk (x : Part) (furrows : List Nat) (a : Nat) : Bool :=
  (x.routes a).all (x.routeOk furrows a) && decide ((x.routes a).filterMap routeClaim).Nodup

/-- Trunks that the image claims, acre * 64 + trunk (R118). -/
def Part.trunks (x : Part) : List Nat :=
  ((natsFrom 0 4).flatMap fun a => (x.routes a).filterMap fun r => match endPoint r.dst, endPoint r.src with
    | .trunk t, _ => some (a * 64 + t)
    | _, .trunk t => some (a * 64 + t)
    | _, _ => none).dedup

/-- Gates that an entry may use (R121). -/
def State.gateOk (s : State) (p : Nat) (r : Route) : Bool :=
  (match endPoint r.dst with
    | .gate g => s.bit (Reg.FUR_GATE g) 31 && s.fld (Reg.FUR_GATE g) 24 4 == p
    | _ => true) &&
  (match endPoint r.src with
    | .gate g => s.bit (Reg.FUR_GATE g) 31 && s.fld (Reg.FUR_GATE g) 20 4 == p
    | _ => true)

/-- Another plot holds a trunk. -/
def State.trunkTaken (s : State) (p u : Nat) : Bool :=
  s.bit (Reg.FUR_SW_TRUNK (u / 64) (u % 64)) 31 && s.fld (Reg.FUR_SW_TRUNK (u / 64) (u % 64)) 0 4 != p

/-! ## Exchange Table entries (R167-R171, R173, R176) -/

/-- ALAT that the image sets for a port. -/
def Part.alat (x : Part) (q : Nat) : Option Nat :=
  ((x.kind 11).find? fun t => t.val % 2 ^ 32 == Reg.LNK_ALAT q).map fun t => t.val / 2 ^ 32

/-- DATA frames of a pass. -/
def frameCountOf (l : Nat) : Nat := (l - 4 + 31) / 32

/-- One XT entry of a plot (R167): `alat` gives the ALAT of a port. An entry with VALID = 0 names nothing that the checks
look at, so they and R176's setting pass it (DESIGN CHOICE, log 80). -/
def xtEntryOk (p l : Nat) (ports : List Nat) (alat : Nat → Nat) (e : XtEntry) : Bool :=
  let recv := slotStart e.fidx + alat e.port - 4
  let rel := (slotStart e.fidx + alat e.port + 4) % l
  !e.valid || (e.plot == p && ports.contains e.port && decide (e.fidx < frameCountOf l) &&
    (match e.kind with
      | 0 => decide (e.sofs ≤ 27 ∧ e.sendStep + 5 ≤ l)
      | 1 => decide (recv % l + 5 ≤ l)
      | _ => ports.contains e.rport && decide (rel % 32 ≤ 27 ∧ rel + 5 ≤ l)))

/-- Outgoing place that an entry claims (R167). -/
def xtOutClaim (l : Nat) (alat : Nat → Nat) (e : XtEntry) : Option (Nat × Nat × Nat × Nat) :=
  if !e.valid then none
  else match e.kind with
    | 0 => some (e.port, e.lane, e.fidx, e.grp)
    | 2 => some (e.rport, e.rlane, (slotStart e.fidx + alat e.port + 4) % l / 32, e.xgrp)
    | _ => none

/-- Import place and step that an entry claims (R167). -/
def xtInClaim (l : Nat) (alat : Nat → Nat) (e : XtEntry) : Option (Nat × Nat × Nat) :=
  if e.valid && e.kind == 1 then some (e.acre, e.xgrp, (slotStart e.fidx + alat e.port - 4) % l) else none

/-- Cost of a carried receive in an acre, or of a carried relay on a port (R171): its outbound one (DESIGN CHOICE, log 70). -/
def xtCarried (l d : Nat) (alat : Nat → Nat) (kind place : Nat) (e : XtEntry) : Nat :=
  let j := (slotStart e.fidx + alat e.port + (if kind = 1 then 0 else 8) - 4) / l
  let here := if kind = 1 then e.acre else e.rport
  if e.valid && e.kind == kind && here == place && decide (1 ≤ j) then j + d else 0

/-- The XT entries of a plot as a whole (R167, R171). -/
def xtOk (p l d : Nat) (ports : List Nat) (alat : Nat → Nat) (es : List XtEntry) : Bool :=
  es.all (xtEntryOk p l ports alat) && decide (es.filterMap (xtOutClaim l alat)).Nodup &&
    decide (es.filterMap (xtInClaim l alat)).Nodup &&
    ((natsFrom 0 4).all fun a => decide ((es.map (xtCarried l d alat 1 a)).sum ≤ 2048)) &&
    portIds.all fun q => decide ((es.map (xtCarried l d alat 2 q)).sum ≤ 512)

def Part.xt (x : Part) : List XtEntry := (x.kind 10).map fun t => xtFields t.val

/-- Every fabric port that a receive or relay entry names, a relay's outbound port too, has an ALAT setting, and every
setting lies in range (R176). -/
def Part.alatOk (x : Part) : Bool :=
  ((x.kind 11).all fun t => !(portIds.any fun q => t.val % 2 ^ 32 == Reg.LNK_ALAT q) ||
    decide (78 ≤ t.val / 2 ^ 32 ∧ t.val / 2 ^ 32 ≤ 1023)) &&
  x.xt.all fun e => !e.valid || e.kind == 0 || ((x.alat e.port).isSome && (e.kind == 1 || (x.alat e.rport).isSome))

/-! ## Field I/O and signature units (R99, R100, R102, R300-R302, R315) -/

/-- Bindings of a plot's furrows with VALID = 1: (furrow, element, port, pin). -/
def State.bindings (s : State) (p : Nat) (out : Bool) : List (Nat × Nat × Nat × Nat) :=
  (s.plot p).res.furrows.flatMap fun l => (natsFrom 0 32).filterMap fun j =>
    let a := if out then Reg.FUR_FIO_OUT (s.phys l) j else Reg.FUR_FIO_IN (s.phys l) j
    if s.bit a 31 then some (l, j, s.fld a 24 4, s.fld a 0 5) else none

/-- Every binding of a furrow names one of the 12 Field I/O ports (R109). -/
def State.bindPortsOk (s : State) (l : Nat) : Bool :=
  (natsFrom 0 32).all fun j => decide (s.fld (Reg.FUR_FIO_IN (s.phys l) j) 24 4 < 12 ∧ s.fld (Reg.FUR_FIO_OUT (s.phys l) j) 24 4 < 12)

/-- A Field I/O port's settings fit its role, its supply and the pass of l steps (R300-R302, R321). -/
def State.fioOk (s : State) (l q : Nat) : Bool :=
  let role := s.fioRole q
  let ddr := pinIds.filter fun i => s.pinDdr q i
  (match role with
    | 0 => decide (s.cmode q ≤ 1) && pinIds.all fun i => s.pinDir q i != 3
    | 1 => !s.fioDirect q && s.cmode q == 1
    | 2 => !s.fioDirect q && s.cmode q == 2 && ddr.isEmpty
    | _ => false) &&
  ddr.all (fun i => i % 2 == 0) && (ddr.isEmpty || s.cmode q == 1) && decide (s.fld (Reg.FIO_PORT_CFG q) 24 3 ≤ 3) &&
    decide (s.fld (Reg.FIO_CLK_CFG q) 0 10 < l ∧ s.fld (Reg.FIO_CLK_CFG q) 10 10 < l)

/-- Every element that a drive descriptor of the schedule names has a valid output binding (R102). -/
def State.drivesOk (s : State) (x : Part) (l : Nat) : Bool :=
  (x.psws l).all fun e => e.2.mop != 6 ||
    (natsFrom 0 (x.gather l e.2.mdesc).dcnt).all fun j => s.bit (Reg.FUR_FIO_OUT (s.phys l) j) 31

/-- Values that reach a unit at a step (R315). -/
def State.sigLoad (s : State) (x : Part) (u st : Nat) : Nat :=
  let fed := (s.plot x.p).res.furrows.map fun l =>
    match (x.psws l).find? fun e => e.1 == st with
    | some e =>
      let n := (x.get 8 l 0 e.2.sigd).getD 0
      if e.2.sigd ≠ 0 ∧ nfld n 455 5 = u then nfld n 448 7 else 0
    | none => 0
  let corun := (s.plot x.p).res.fios.map fun q =>
    if s.bit (Reg.FIO_PORT_CFG q) 22 && s.fioRole q == 1 && s.fld (Reg.FIO_PORT_CFG q) 17 5 == u &&
        s.fld (Reg.FIO_CLK_CFG q) 0 10 == st then 32 else 0
  fed.sum + corun.sum

/-- Units that descriptors of the schedule name (R99). -/
def Part.units (x : Part) (furrows : List Nat) : List Nat :=
  (furrows.flatMap fun l => (x.psws l).filterMap fun e =>
    if e.2.sigd = 0 then none else some (nfld ((x.get 8 l 0 e.2.sigd).getD 0) 455 5)).dedup

/-! ## Memory pages (R137, R209, R400) -/

/-- Highest channel offset plus 1 that a byte range needs on a channel; 0 for none (R136). -/
def channelTop (g nch ch lo hi : Nat) : Nat :=
  if hi ≤ lo then 0
  else
    let last := (hi - 1) / g
    let blk := last - (last + nch - ch) % nch
    if last < ch ∨ blk < lo / g then 0
    else blk / nch * g + (if blk = last then (hi - 1) % g else g - 1) + 1

/-- Design pages that a channel needs. -/
def Part.designPages (x : Part) (ch : Nat) : Nat :=
  let tops := x.spans.map fun e => channelTop x.grain x.nch ch e.1 e.2.1
  ((tops.foldl max 0) + mib2 - 1) / mib2

/-- Mark the first n free, unlifted entries whose page satisfies a test; none when there are too few. -/
def placePages (use : Nat) (ok : Nat → Bool) : Nat → List MapEntry → Option (List MapEntry)
  | 0, es => some es
  | _, [] => none
  | n + 1, e :: es =>
    if e.use = 0 ∧ e.lifted = false ∧ ok e.page = true then (placePages use ok n es).map ({ e with use := use } :: ·)
    else (placePages use ok (n + 1) es).map (e :: ·)

/-- Place n pages on each of a list of PCs. -/
def placeEach (use : Nat) (need : List (Nat × Nat)) (es : List MapEntry) : Option (List MapEntry) :=
  need.foldl (fun m e => m.bind fun es => placePages use (fun page => page / 384 == e.1) e.2 es) (some es)

/-- The plot memory map after SOW_COMMIT (R400); none when an item cannot be placed. -/
def State.placeMap (s : State) (x : Part) : Option (List MapEntry) :=
  let b := (s.plot x.p).img.header
  let pcs := (s.plot x.p).res.pcs.take x.nch
  let chans := pcs.zip (natsFrom 0 pcs.length)
  let free := fun page => (s.holder Res.pcs (page / 384)).isNone
  let stake := hdrAt b 32 8
  let c := hdrAt b 9 1
  let per := if x.nch = 0 then 0 else (stake + x.nch * mib2 - 1) / (x.nch * mib2)
  let whole := (stake + mib2 - 1) / mib2
  if (s.plot x.p).res.pcs.length < x.nch then none
  else
    let m1 := placeEach 1 (if x.refEn then chans.map fun e => (e.1, x.designPages e.2) else []) (s.plot x.p).res.map
    let m2 := m1.bind fun m => placeEach 2 (if x.refEn then chans.map fun e => (e.1, hdrAt b 16 2) else []) m
    let area := fun use m => if c = 0 then some m
      else if x.refEn then placeEach use (chans.map fun e => (e.1, per)) m else placePages use free whole m
    let m3 := (m2.bind (area 3)).bind (area 4)
    m3.bind fun m => placePages 5 free (hdrAt b 18 2) m

/-! ## The checks as a whole -/

/-- Furrow registers that the image names, by the furrow that it names (R332). -/
def settingFurrow (a : Nat) : Option Nat :=
  if furSetting a then
    let q := (a - 0x1000000) / 0x1000
    some (128 * (q / 132) + q % 132)
  else none

/-- Field I/O port or fabric port that a setting names, held by the plot. -/
def State.settingOwned (s : State) (p a : Nat) : Bool :=
  match settingFurrow a with
  | some _ => true
  | none => match portIds.find? fun q => a == Reg.LNK_ALAT q with
    | some q => (s.plot p).res.ports.contains q
    | none => match regAt a with
      | some (_, is) => (s.plot p).res.fios.contains (is.headD 0)
      | none => false

/-- UNITs of the image lie in the plot (R332). -/
def State.unitsOk (s : State) (x : Part) : Bool :=
  let furs := (s.plot x.p).res.furrows
  let acre := fun a => furs.any fun l => acreOf l == a
  x.ts.all fun t =>
    if [3, 4, 5, 6, 7, 8, 12, 13, 15].contains t.kind then furs.contains t.unit
    else if t.kind = 9 then acre t.unit
    else if t.kind = 11 then (match settingFurrow (t.val % 2 ^ 32) with
      | some l => furs.contains l
      | none => true)
    else true

/-- Exactly one plot devices record, with NDEV distinct IDs, DEVID among them (R333). -/
def State.devicesOk (s : State) (x : Part) : Bool :=
  let b := (s.plot x.p).img.header
  let recs := ((s.plot x.p).img.shadow.filter fun g => g.kind == 2).flatMap fun g => (kindRecs 2 g.body).getD []
  let ids := (x.kind 2).map (·.val)
  recs.length == 1 && ids.length == hdrAt b 28 4 && decide (List.Nodup (α := Nat) ids) && ids.contains (hdrAt b 24 4)

/-- Design memory contents of the part: (window's furrow, window, first word, contents), none when a record is broken (R332). -/
def State.memRecords (s : State) (x : Part) : Option (List ImgRec) :=
  let size := fun unit sub => if (x.window unit sub).form = 1 then 8 else 16
  ((s.plot x.p).img.shadow.filter fun g => g.kind == 14).foldl (fun acc g => match acc with
    | none => none
    | some rs => match parseRecs size (g.body.length / 16) g.body with
      | some more => some (rs ++ more)
      | none => none) (some [])

/-- A design memory contents record names words of a valid window (R332). -/
def Part.memRecOk (x : Part) (r : ImgRec) : Bool :=
  (x.window r.unit r.sub).valid && decide (r.first + r.items.length ≤ 2 ^ (x.gather r.unit r.sub).acnt)

/-- Checks of SOW_COMMIT with IMAGE_CHECK_FAIL, on a state in which the register settings are written (R338). -/
def State.loadChecks (s : State) (x : Part) : Bool :=
  let furs := (s.plot x.p).res.furrows
  let alat := fun q => (x.alat q).getD 0
  (match s.memRecords x with
    | some rs => rs.all (fun r => furs.contains r.unit && x.memRecOk r) &&
        decide (rs.flatMap fun r => (r.targets 14).map fun t => (t.unit, t.sub, t.idx)).Nodup
    | none => false) &&
  s.unitsOk x && s.devicesOk x && x.onceOk && (x.kind 3).all x.gangOk &&
  furs.all (fun l => (x.allPsws l).all (x.pswOk l (s.ramShape (s.phys l))) && s.bindPortsOk l && x.returnsOk l && x.undoOk l && x.carriedOk l &&
    x.probesOk l && x.windowsOk l && s.drivesOk x l) &&
  (natsFrom 0 4).all (x.routesOk furs) && x.alatOk && xtOk x.p x.l x.d (s.plot x.p).res.ports alat x.xt &&
  (natsFrom 0 32).all (fun u => (natsFrom 0 x.l).all fun st => decide (s.sigLoad x u st ≤ 256)) &&
  decide ((s.bindings x.p true).map fun e => (e.2.2.1, e.2.2.2)).Nodup && (s.plot x.p).res.fios.all (s.fioOk x.l)

/-- Checks of SOW_COMMIT with NOT_OWNER (R99, R100, R116, R302, R321, R332). -/
def State.ownerChecks (s : State) (x : Part) : Bool :=
  let res := (s.plot x.p).res
  (x.kind 11).all (fun t => s.settingOwned x.p (t.val % 2 ^ 32)) && (x.units res.furrows).all res.sigs.contains &&
  (s.bindings x.p true).all (fun e => res.fios.contains e.2.2.1) &&
  (s.bindings x.p false).all (fun e => res.fios.contains e.2.2.1) &&
  (natsFrom 0 4).all (fun a => (x.routes a).all (s.gateOk x.p)) &&
  res.fios.all fun q => (s.fioRole q != 2 || s.bankPlot (s.fld (Reg.FIO_BRG_CFG q) 26 6) == some x.p) &&
    (!(s.bit (Reg.FIO_PORT_CFG q) 22) || res.sigs.contains (s.fld (Reg.FIO_PORT_CFG q) 17 5))

/-- The transfers of a part's schedule that cross the internal network in express slots (R418). -/
def State.expressUse (s : State) (x : Part) : List (Nat × Nat × Nat) :=
  (s.plot x.p).res.furrows.flatMap fun l =>
    ((x.psws l).flatMap fun e =>
      (if e.2.mop = 3 ∨ e.2.mop = 4 then [(s.phys l, e.1, 0)] else []) ++ (if e.2.prbd = 0 then [] else [(s.phys l, e.1, 1)])) ++
    (x.kind 3).filterMap fun t =>
      if t.unit = l ∧ (bpWord (BitVec.ofNat 80 t.val)).prb = true ∧ t.idx < x.l then some (s.phys l, t.idx, 1) else none

/-- The express slots that a part needs are free beside those of the other plots that hold an image (R418). -/
def State.expressOk (s : State) (x : Part) : Bool :=
  let mine := s.expressUse x
  let others := (s.livePlots.filter fun q => q != x.p && decide (Sow.sown ≤ s.sow q)).flatMap fun q => s.expressUse (s.partOf q)
  mine == [] || Config.expressFits mine others

/-- Checks of SOW_COMMIT with NO_RESOURCE (R118, R137, R173, R209, R418). -/
def State.resourceChecks (s : State) (x : Part) : Bool :=
  let size := s.fld (Reg.XCH_RGN_CFG x.p) 0 11
  x.trunks.all (fun u => !(s.trunkTaken x.p u)) && (x.kind 10).all (fun t => decide (t.idx < size * 1024)) &&
    (s.placeMap x).isSome && s.expressOk x

end Sys2Proof.Machine
end

