-- ==== Sys2Proof/Machine/Sowing.lean ====
section
/-! DEFINITION. Boot, sowing and release (12_sowing_and_release.md): the boot window and firmware start (R326-R328), the
sow commands (R335-R341, R348, R351), the release with SOWN_N and the fabric sown exchange (R342-R345, R350). -/

namespace Sys2Proof.Machine
open Sys2Proof

/-! ## Firmware boot window (R326-R328) -/

/-- SOW_BOOT_STAT.STATE. -/
def State.bootState (s : State) : Nat := s.fld Reg.SOW_BOOT_STAT 28 4

def State.bootSet (s : State) (state cause : Nat) : State := (s.put Reg.SOW_BOOT_STAT 28 4 state).put Reg.SOW_BOOT_STAT 24 4 cause

/-- Size of the boot window. -/
def bootSize : Nat := 2 ^ 25

/-- A write to the boot window: before the fill is done it is discarded with EARLY; it is stored while LOADING. -/
def State.bootWrite (s : State) (offset : Nat) (data : List Byte) : State :=
  if s.bit Reg.MEM_STAT 0 = false then s.put Reg.SOW_BOOT_STAT 24 4 5
  else if s.bootState = 1 then { s with boot := { s.boot with window := csetList 0 s.boot.window offset data } }
  else s

/-- BOOT_WINDOW_WRITE (R326): PF0 of link 0 writes. -/
def execBootWindowWrite (fn offset : Nat) (data : List Byte) (s : State) : Host.Outcome State Fault Refusal :=
  if bootSize < offset + data.length then .fault .outsideBar
  else .next (if fn ≠ 0 ∨ s.hostDown 0 = true then s else s.bootWrite offset data)

/-- The first check that a firmware image fails (R328), as the code of CAUSE; 0 when it passes. -/
def fwCheck (len fusedMin : Nat) (image : List Byte) : Nat :=
  if leAt image 0 4 ≠ 0x50574657 ∨ leAt image 4 4 ≠ 1 ∨ ((image.drop 0x14).take 44).all (· == 0) = false then 1
  else if leAt image 0xc 4 ≠ len ∨ len % 16 ≠ 0 ∨ len < 4096 ∨ bootSize < len then 2
  else if leAt image 8 4 < fusedMin then 3
  else if Config.fwSignatureValid image = false then 4
  else 0

/-- Bytes of the image that a check needs: its length, bounded by the window, and never less than its header. -/
def fwBytes (len : Nat) : Nat := max 64 (min len bootSize)

/-- The firmware that the boot ROM has started, VERSION and SVN. -/
def State.setStarted (s : State) (x : Option (Nat × Nat)) : State := { s with boot := { s.boot with started := x } }

/-- GO: the boot ROM verifies the window (R328). After a failure STATE is LOADING again, with the code in CAUSE. -/
def State.bootGo (s : State) : State :=
  let len := s.fld Reg.SOW_BOOT_LEN 0 26
  let image := cgetList 0 s.boot.window 0 (fwBytes len)
  match fwCheck len s.boot.fusedMin image with
  | 0 => (s.bootSet 2 0).setStarted (some (leAt image 0x10 4, leAt image 8 4))
  | n => s.bootSet 1 n

/-- A write of SOW_BOOT_CTRL (R328, R352): GO is ignored unless STATE = LOADING, and comes from PF0 of link 0. -/
def State.goWrite (s : State) (fn v : Nat) (r : RegRow) : State :=
  let s1 := s.rsvdCheck fn v r.fields
  if v.testBit 31 = true ∧ s1.bootState = 1 then s1.bootGo else s1

def execGo (fn v : Nat) (s : State) : Host.Outcome State Fault Refusal :=
  .next (s.gated fn Reg.SOW_BOOT_CTRL fun s r _ => s.goWrite fn v r)

/-- FW_UPDATE with ACTIVATE is the only command in the store: the management cores restart on the new image and the command
completes; fetching goes on once its completion is written (R380). -/
def State.fwRestart (s : State) : State :=
  match s.boot.staged, s.cmd.store with
  | some (version, svn), [c] =>
    if c.opc = 0xa0 ∧ c.stage = CmdStage.blocked then
      let s1 := (s.rnSet Reg.SOW_FW_VER version).put Reg.SOW_FW_SVN 0 8 svn
      let s2 := { s1 with boot := { s1.boot with staged := none } }
      s2.finishAt c.id Status.ok (version + svn * 2 ^ 32) (c.dw 8) (c.dw 8)
    else s
  | _, _ => s

/-! ## SOWN_N (R343) -/

/-- Plots named in SOW_SOWN_MASK. -/
def State.sownMask (s : State) : List Nat := plotIds.filter fun p => s.bit Reg.SOW_SOWN_MASK p

/-- A plot has reached stage 3 of a RELEASE with OK local status, or is released. -/
def State.sownReady (s : State) (p : Nat) : Bool :=
  s.sow p == Sow.released || (s.sow p == Sow.releasing && decide (3 ≤ (s.plot p).rel.stage) && (s.plot p).rel.localStatus == 0)

/-- The device holds SOWN_N low. -/
def State.sownLow (s : State) : Bool :=
  !s.running || (s.bit Reg.SOW_CFG 31 && s.sownMask.any fun p => !(s.sownReady p))

/-- SOW_SOWN_PIN follows: a device that holds the line low reads it low. -/
def State.sownPin (s : State) : State :=
  let s1 := s.putBit Reg.SOW_SOWN_PIN 1 s.sownLow
  if s.sownLow then s1.clrBit Reg.SOW_SOWN_PIN 0 else s1

/-! ## The seed image of a plot -/

/-- The plot of a sow command ends with FAILED and a status (R334, R336). -/
def State.sowFail (s : State) (p id status : Nat) : State :=
  (((s.sowSet p Sow.failed).put (Reg.SOW_PLOT_STAT p) 8 8 status).onImg p fun x => { x with failStatus := status }).finish id status 0

/-- Map entries of the uses that an image gave return to free (R400). -/
def freeImageUses (m : List MapEntry) : List MapEntry :=
  m.map fun e => if 1 ≤ e.use ∧ e.use ≤ 5 then { e with use := 0 } else e

/-- An eviction save is discarded: its entries return to free (R400). -/
def freeSaveUses (m : List MapEntry) : List MapEntry := m.map fun e => if e.use = 7 then { e with use := 0 } else e

/-- Kinds of item that a furrow holds. -/
def furrowKinds : List Nat :=
  [Item.imem, Item.psw, Item.gather, Item.probe, Item.sigdesc, Item.window, Item.dmemRow, Item.stateRow, Item.ramWord]

/-- ECC items of a physical furrow. -/
def furrowItem (f key : Nat) : Bool := furrowKinds.contains (key % 16) && key / 16 / glnPer (key % 16) == f

/-- A physical furrow's memories are empty: instruction words NOP, PSWs and descriptors all-zero, values X (R337, R395). -/
def State.clearFurrow (s : State) (f : Nat) : State :=
  let bp := { s.bp with imem := cclear s.bp.imem (imemKey f 0 0) 131072, dmem := cclear s.bp.dmem (dmemKey f 0 0) 131072,
                        sstore := cclear s.bp.sstore (stateKey f 0 0 0) 262144, carry := cclear s.bp.carry (f * 32768) 32768,
                        bus := cclear s.bp.bus (f * 128) 128, offered := cclear s.bp.offered (f * 128) 128 }
  let fur := { s.fur with psw := cclear s.fur.psw (f * 1024) 1024, gdesc := cclear s.fur.gdesc (f * 256) 256,
                          win := cclear s.fur.win (f * 256) 256, pdesc := cclear s.fur.pdesc (f * 256) 256,
                          sdesc := cclear s.fur.sdesc (f * 256) 256, ram := cclear s.fur.ram (f * 32768) 32768,
                          undo := cdel s.fur.undo f, outStage := cclear s.fur.outStage (f * 32) 32 }
  { s with bp := bp, fur := fur, ecc := s.ecc.filter fun e => !(furrowItem f e.1),
           gln := { s.gln with writes := s.gln.writes.filter fun w => w.1 != f } }

def State.clearFurrows (s : State) (p : Nat) : State := (s.plotPhys p).foldl State.clearFurrow s

/-- Commands of a plot that wait for an event of the discarded image, and a SOW_SEGMENT or SOW_COMMIT in progress, complete with
ABORTED_CMD (R339, R351); TRACE_ARM and TRACE_STOP do not depend on the image. -/
def State.abortWaiting (s : State) (p id : Nat) : State :=
  let image := fun (c : Cmd) => c.stage == .blocked && c.opc != 0x61 && c.opc != 0x62
  (s.finishAll p (fun c => c.id != id && (image c || sowRun c)) Status.abortedCmd 0).onId p
    fun x => { x with hostQ := [], stops := [], serving := [], startAt := none, forces := [] }

/-- The plot holds no committed image (R241): the identity registers read 0. -/
def State.imageGone (s : State) (p : Nat) : State :=
  (natsFrom 0 8).foldl (fun s i => s.rnSet (Reg.PLT_IMG_SDHASH p i) 0) ((s.rnSet (Reg.PLT_IMG_INFO p) 0).rnSet (Reg.PLT_IMG_DEV p) 0)

/-- The Gleaner gives up a plot's furrows (R468): pending writes to them are discarded, and its sweeps skip them. -/
def State.glnForget (s : State) (p : Nat) : State :=
  let fs := s.plotPhys p
  { s with gln := { s.gln with writes := s.gln.writes.filter (fun w => !(fs.contains w.1)),
                               skip := s.gln.skip.filter (fun f => !(fs.contains f)) ++ fs } }

/-- The uncommitted passes, the carried values, the recovery point and the shadow of a plot's image go (R335, R348, R396). -/
def State.dropImage (s : State) (p : Nat) : State :=
  let s1 := s.settleQueue p (2 ^ 64)
  let hbm := { s1.hbm with reads := s1.hbm.reads.filter (fun r => r.plot != p),
                           journal := s1.hbm.journal.filter fun e => e.1 != p }
  let s2 := { s1 with hbm := hbm, xch := { s1.xch with held := s1.xch.held.filter fun h => h.plot != p } }
  let s3 := s2.onPlot p fun x =>
    { x with img := { gsr := true }, cmt := {}, rel := {}, tm := {},
             id := { x.id with save := none }, res := { x.res with map := freeSaveUses (freeImageUses x.res.map) } }
  let s4 := (((s3.put (Reg.PLT_STAKE_STAT p) 30 2 0).put (Reg.PLT_CMT_FAIL p) 0 4 0).cmtStateSet p 0).clrBit (Reg.PLT_CMT_STAT p) 7
  let s5 := ((s4.rnSet (Reg.SOW_PLOT_SEG p) 0).clrBit (Reg.SOW_PLOT_STAT p) 25).rnSet (Reg.PLT_FALLOW p) 0
  ((s5.swapsForget p).imageGone p).glnForget p

/-- SOW_BEGIN (R335, R348). -/
def State.sowBeginOp (s : State) (c : Cmd) : State :=
  let p := c.plot
  let st := s.sow p
  let keep := (c.dw 6).testBit 0
  if st = Sow.sowing ∨ st = Sow.releasing ∨ s.ckptBusy p = true ∨ (st = Sow.released ∧ s.plotBusy p = true) then s.finish c.id Status.busy 0
  else
    let s1 := ((s.abortWaiting p c.id).dropImage p).gatePark p
    let s2 := (s.plot p).res.fios.foldl (fun s q =>
      if keep then s.onFio q fun x => { x with running := false } else s.park q) s1
    let s3 := ((s2.sowSet p Sow.sowing).putBit (Reg.SOW_PLOT_STAT p) 27 keep).putBit (Reg.SOW_PLOT_STAT p) 26 ((c.dw 6).testBit 1)
    (s3.finish c.id Status.ok 0).sownPin

def execSowBegin (id : Nat) (s : State) : Host.Outcome State Fault Refusal := .next (s.onTaken 0x20 id s.sowBeginOp)

/-! ## SOW_SEGMENT (R330, R336, R340) -/

/-- Authentication of a segment (R329, R330): the decrypted body, or none. With KEYSLOT 0xFF the body is plaintext, and the
tag is taken over the body as it stands: DEDUCED, log 41. -/
def State.openSegment (s : State) (p : Nat) (h : SegHdr) (bytes : List Byte) : Option (List Byte) :=
  let x := (s.plot p).img
  if x.shadow.any (fun g => g.iv == h.iv) || (x.header != [] && h.keyslot != x.keyslot) then none
  else match s.imageKey h.keyslot with
    | none => none
    | some key =>
      let body := (bytes.drop 64).take h.length
      let iv := (bytes.drop 20).take 12
      let tag := (bytes.drop (64 + h.length)).take 16
      if h.keyslot = 255 then (if gcmTagOk key iv (bytes.take 64) body tag then some body else none)
      else gcmOpen key iv (bytes.take 64) body tag

/-- Device HBM address of a word of a plot's seed shadow (R340): an 8-byte word of the 48 GiB. -/
def shadowAt (p idx w : Nat) : Nat := 8 * ((Config.shadowAddr p idx + w) % (24576 * mib2 / 8))

/-- The words of a segment are written into the seed shadow, with new check bits (R150, R340). -/
def State.shadowStore (s : State) (p idx : Nat) (body : List Byte) : State :=
  (natsFrom 0 (body.length / 8)).foldl (fun s w => s.hbmMarkSet (shadowAt p idx w) 0) s

/-- An accepted segment enters the seed shadow (R336, R340). -/
def State.acceptSegment (s : State) (p : Nat) (h : SegHdr) (body : List Byte) : State :=
  let seg : Seg := ⟨h.segidx, h.kind, h.iv, body⟩
  let s1 := (s.shadowStore p h.segidx body).onImg p fun x =>
    let x1 := { x with shadow := x.shadow ++ [seg] }
    if h.segidx = 0 then { x1 with header := body, imgid := h.imgid, keyslot := h.keyslot } else x1
  let s2 := (s1.put (Reg.SOW_PLOT_SEG p) 16 16 h.nseg).put (Reg.SOW_PLOT_SEG p) 0 16 (s1.plot p).img.shadow.length
  s2.setBit (Reg.SOW_PLOT_STAT p) 25

/-- Format checks of a segment (R338): its header, and its body by kind. -/
def State.segmentOk (s : State) (p : Nat) (h : SegHdr) (body : List Byte) : Bool :=
  let part := if (s.plot p).img.header = [] then none else some (s.fld (Reg.SOW_PLOT_SEG p) 16 16, (s.plot p).img.imgid)
  h.ok part && (if h.kind = 1 then s.partHeaderOk body else bodyOk h.kind body)

/-- The free firmware pages hold n bytes more of seed shadow (R340). -/
def State.shadowFits (s : State) (n : Nat) : Bool :=
  let held := (s.livePlots.flatMap fun p => (s.plot p).img.shadow.map (·.body.length)).sum
  decide (held + n ≤ Config.shadowRoom ((natsFrom 0 64).filter fun pc => (s.holder Res.pcs pc).isSome))

/-- A segment that the device has fetched whole (R336, R340). -/
def State.takeSegment (s : State) (c : Cmd) (bytes : List Byte) : State :=
  let p := c.plot
  let h := segHdr bytes
  let x := (s.plot p).img
  if x.shadow.any (fun g => g.idx == h.segidx) || (x.header == [] && h.segidx != 0) then s.finish c.id Status.invalidParam 0
  else match s.openSegment p h bytes with
    | none => s.finish c.id Status.imageAuthFail 0
    | some body =>
      if s.segmentOk p h body = false then s.sowFail p c.id Status.imageCheckFail
      else if s.shadowFits body.length = false then s.sowFail p c.id Status.noResource
      else (s.acceptSegment p h body).finishAt c.id Status.ok h.segidx (c.dw 8) (c.dw 8)

/-- SOW_SEGMENT (R336). The header tells the length before the body is moved. -/
def State.sowSegmentOp (s : State) (c : Cmd) : State :=
  let p := c.plot
  let n := c.dw 8
  let addr := c.dw64 6
  if s.sow p = Sow.failed then s.finish c.id (s.plot p).img.failStatus 0
  else if s.sow p ≠ Sow.sowing then s.finish c.id Status.invalidParam 0
  else
    let (got, page, s1) := s.dma c.func addr (min n 64) kib4 0
    if got < min n 64 then s1.dmaEnd c.id 0 n page 0
    else if n ≠ 80 + (segHdr (s1.hostRead c.func addr (min n 64))).length then s1.finish c.id Status.invalidParam 0
    else
      let (reach, page2, s2) := s1.dma c.func addr n kib4 (c.dw 13)
      if reach < n then s2.dmaEnd c.id reach n page2 0
      else s2.takeSegment c (s2.hostRead c.func addr n)

def execSowSegment (id : Nat) (s : State) : Host.Outcome State Fault Refusal := .next (s.onTakenHbm 0x21 id s.sowSegmentOp)

/-! ## SOW_COMMIT (R337-R341) -/

/-- One register setting takes effect: only RW-L fields change (R332). -/
def State.applySetting (s : State) (val : Nat) : State :=
  let a := val % 2 ^ 32
  let v := val / 2 ^ 32
  let at_ := match settingFurrow a with
    | some l => 0x1000000 + 0x1000 * s.phys l + a % 0x1000
    | none => a
  match regAt at_ with
  | some (r, _) =>
    let m := rwlMask r
    s.rnSet at_ (s.rn at_ - (s.rn at_ &&& m) + (v &&& m))
  | none => s

/-- The register settings of an image, over the reset values of its furrows' bindings and RAM shapes. -/
def State.applySettings (s : State) (x : Part) : State :=
  let s1 := (s.plotPhys x.p).foldl (fun s f =>
    (natsFrom 0 32).foldl (fun s j => (s.rgReset (Reg.FUR_FIO_IN f j)).rgReset (Reg.FUR_FIO_OUT f j)) (s.put (Reg.FUR_CFG f) 0 2 0)) s
  (x.kind 11).foldl (fun s t => s.applySetting t.val) s1

/-- The registers of the part header (R333). -/
def State.headerRegs (s : State) (x : Part) : State :=
  let p := x.p
  let f := hdrAt (s.plot p).img.header
  let s1 := ((((s.put (Reg.PLT_IMG_INFO p) 24 8 1).put (Reg.PLT_IMG_INFO p) 16 8 0).put (Reg.PLT_IMG_INFO p) 14 2 (f 0 1)).put
    (Reg.PLT_PASS_CFG p) 16 11 x.l).put (Reg.PLT_PASS_CFG p) 8 8 (f 4 1)
  let s2 := ((s1.put (Reg.PLT_PASS_CFG p) 0 3 x.d).put (Reg.PLT_EVAL_CFG p) 0 2 (f 6 1)).put (Reg.PLT_EVAL_CFG p) 4 1 (f 6 1 / 16)
  let s3 := ((s2.put (Reg.PLT_HL_CFG p) 31 1 (f 7 1)).put (Reg.PLT_CMT_CFG p) 4 1 (f 7 1 / 2)).put (Reg.PLT_HL_CFG p) 8 6 (f 8 1)
  let s4 := ((s3.put (Reg.PLT_STAKE_CFG p) 24 5 (f 9 1)).put (Reg.PLT_STAKE_CFG p) 0 16 (f 10 2)).put (Reg.PLT_MEM_CFG p) 0 10 x.pad
  let s5 := ((s4.put (Reg.PLT_MEM_CFG p) 16 7 x.nch).put (Reg.PLT_MEM_CFG p) 24 4 (f 15 1)).put (Reg.PLT_STAKE_MEM p) 0 15 (f 16 2)
  let s6 := ((s5.put (Reg.PLT_STAKE_MEM p) 16 15 (f 18 2)).put (Reg.PLT_CMT_CFG p) 0 4 (f 20 1)).rnSet (Reg.PLT_IMG_DEV p) (f 24 4)
  (natsFrom 0 8).foldl (fun s i => s.rnSet (Reg.PLT_IMG_SDHASH p i) (f (40 + 4 * i) 4)) s6

/-- One target of an image in the plot's furrows; `f` is the physical furrow. -/
def State.writeTarget (s : State) (t : Target) : State :=
  let f := s.phys t.unit
  match t.kind with
  | 3 => { s with bp := { s.bp with imem := cset 0 s.bp.imem (imemKey f t.sub t.idx) (BitVec.ofNat 80 t.val) } }
  | 4 => { s with fur := { s.fur with psw := cset 0 s.fur.psw (f * 1024 + t.idx) (BitVec.ofNat 192 t.val) } }
  | 5 => { s with fur := { s.fur with gdesc := cset 0 s.fur.gdesc (f * 256 + t.idx) (BitVec.ofNat 704 t.val) } }
  | 6 => { s with fur := { s.fur with win := cset 0 s.fur.win (f * 256 + t.idx) (BitVec.ofNat 64 t.val) } }
  | 7 => { s with fur := { s.fur with pdesc := cset 0 s.fur.pdesc (f * 256 + t.idx) (BitVec.ofNat 256 t.val) } }
  | 8 => { s with fur := { s.fur with sdesc := cset 0 s.fur.sdesc (f * 256 + t.idx) (BitVec.ofNat 512 t.val) } }
  | 13 => s.ramPut f t.idx [bitsVal t.val]
  | _ => s

/-- The carry map of one BP: for each state slot the highest word below L that writes it (R60). -/
def State.carryMap (s : State) (x : Part) : State :=
  (x.kind 3).foldl (fun s t =>
    let w := bpWord (BitVec.ofNat 80 t.val)
    let k := s.phys t.unit * 32768 + t.sub * 256 + w.sslot
    if w.sw = true ∧ t.idx < x.l ∧ cget 0 s.bp.carry k ≤ t.idx then
      { s with bp := { s.bp with carry := cset 0 s.bp.carry k (t.idx + 1) } }
    else s) s

/-- The essential map (R341): instruction words and PSWs below L that are not all-zero. -/
def Part.essential (x : Part) : Cells Bool :=
  x.ts.foldl (fun m t =>
    if t.val = 0 ∨ x.l ≤ t.idx then m
    else if t.kind = 3 then cset false m (t.unit * 132096 + t.sub * 1024 + t.idx) true
    else if t.kind = 4 then cset false m (t.unit * 132096 + 131072 + t.idx) true
    else m) []

/-- The stage settings of the switch in bank 0 (R112, R125). -/
def State.writeRoutes (s : State) (x : Part) : State :=
  let routes := (natsFrom 0 4).foldl (fun m a =>
    cset [] (cdel m (routeKey x.p 1 a)) (routeKey x.p 0 a)
      (((x.kind 9).filter fun t => t.unit == a).map fun t => BitVec.ofNat 64 t.val)) s.sw.routes
  let s1 := { s with sw := { s.sw with routes := routes } }
  ((s1.put (Reg.PLT_SW_STAT x.p) 0 3 0).swapsForget x.p).selectsOwn x.p fun _ => true

/-- Half 0 of the XT region: the image's entries, and no others (R173). -/
def State.writeXt (s : State) (x : Part) : State :=
  let (lo, n) := s.xtHalf x.p 0
  let s1 := { s with xch := { s.xch with xt := cclear s.xch.xt lo n, xtCopy := cclear s.xch.xtCopy lo n } }
  (x.kind 10).foldl (fun s t => s.xtWrite (lo + t.idx) t.val) (s1.put (Reg.XCH_RGN_STAT x.p) 0 3 0)

/-- Write a word of design memory at a plot offset. -/
def State.writeDesign (s : State) (p off : Nat) (bs : List Byte) : State :=
  match s.designAddr p off with
  | some a => s.hbmStore a bs
  | none => s

/-- Design memory: words that the image does not supply become X or 0, unless MEMKEEP keeps them (R154, R335). -/
def State.writeMemory (s : State) (x : Part) : State :=
  let blank := fun (w : Window) => List.replicate w.bytes (BitVec.ofNat 8 (if w.form = 1 then 0 else 0x55))
  let fill := fun (s : State) (t : Target) =>
    let w := windowOf (BitVec.ofNat 64 t.val)
    if w.valid then
      (natsFrom 0 (2 ^ (x.gather t.unit t.idx).acnt)).foldl (fun s n => s.writeDesign x.p (w.offset n) (blank w)) s
    else s
  let s1 := if s.bit (Reg.SOW_PLOT_STAT x.p) 26 then s else (x.kind 6).foldl fill s
  ((s.memRecords x).getD []).foldl (fun s r =>
    let w := x.window r.unit r.sub
    (r.items.zip (natsFrom r.first r.items.length)).foldl (fun s e =>
      s.writeDesign x.p (w.offset e.2) (leBytes w.bytes e.1)) s) s1

/-- Trunks of the plot: exactly those that the image claims (R118). -/
def State.setTrunks (s : State) (p : Nat) (us : List Nat) : State :=
  let s1 := (s.plot p).res.trunks.foldl (fun s u => s.rnSet (Reg.FUR_SW_TRUNK (u / 64) (u % 64)) 0) s
  let s2 := us.foldl (fun s u => s.rnSet (Reg.FUR_SW_TRUNK (u / 64) (u % 64)) (2 ^ 31 + p)) s1
  s2.onRes p fun r => { r with trunks := us }

/-- The channels of design memory, as MEM_PC_CFG names them (R136, R157). -/
def State.setChannels (s : State) (x : Part) : State :=
  let pcs := (s.plot x.p).res.pcs
  (pcs.zip (natsFrom 0 pcs.length)).foldl (fun s e =>
    let used := x.refEn && decide (e.2 < x.nch)
    (s.putBit (Reg.MEM_PC_CFG e.1) 23 used).put (Reg.MEM_PC_CFG e.1) 16 6 (if used then e.2 else 0)) s

/-- What the plot keeps of its image. -/
def State.keepImage (s : State) (x : Part) : State :=
  let h := (s.plot x.p).img.header
  let init := (x.kind 12).foldl (fun m t => cset .vx m (initKey t.unit t.sub t.idx) (bitsVal t.val)) []
  let outs := (x.kind 15).foldl (fun m t => cset .vz m (t.unit * 32 + t.idx) (bitsVal t.val)) []
  let sets := (x.kind 11).filterMap fun t => (settingFurrow (t.val % 2 ^ 32)).map fun l => (l, t.val % 0x1000, t.val / 2 ^ 32)
  s.onImg x.p fun g => { g with devices := (x.kind 2).map (·.val), ndev := hdrAt h 28 4, stakeBytes := hdrAt h 32 8,
                                settings := sets, essential := x.essential, initState := init, initOut := outs }

/-- One word of a plot's seed shadow is read (R340): one whose content is lost reads as a free value (log 85). -/
def State.shadowWord (s : State) (p idx w : Nat) : State :=
  let r := s.hbmCheck (shadowAt p idx w) none 0
  if r.1 then
    let f := r.2.takeFree 64
    f.2.onImg p fun x => { x with shadow := x.shadow.map fun g =>
      if g.idx = idx then { g with body := g.body.take (8 * w) ++ leBytes 8 f.1 ++ g.body.drop (8 * w + 8) } else g }
  else r.2

/-- Device firmware reads a plot's seed shadow, which SECDED protects (R340). -/
def State.shadowRead (s : State) (p : Nat) : State :=
  (s.plot p).img.shadow.foldl (fun s g => (natsFrom 0 (g.body.length / 8)).foldl (fun s w => s.shadowWord p g.idx w) s) s

/-- A part that passed its checks is written (R337), and the express slots of its transfers are reserved on the planes in service
(R418, R421). -/
def State.writePart (s0 : State) (x : Part) : State :=
  let planes := s0.fld Reg.NOC_CFG 24 4
  let s := { s0 with tile := { s0.tile with planesAt := cset 0 s0.tile.planesAt x.p planes } }
  let s1 := (((s.clearFurrows x.p).applySettings x).headerRegs x).keepImage x
  let s2 := ((x.ts.foldl State.writeTarget s1).carryMap x).writeRoutes x
  let s3 := ((s2.setTrunks x.p x.trunks).writeXt x).setChannels x
  let s4 := s3.onRes x.p fun r => { r with map := ((s.placeMap x).getD r.map) }
  s4.writeMemory x

/-- A declared gate joins the plot with itself (R128). -/
def State.gateLoop (s : State) (p : Nat) : Bool :=
  (natsFrom 0 256).any fun g =>
    s.bit (Reg.FUR_GATE g) 31 && s.fld (Reg.FUR_GATE g) 24 4 == p && s.fld (Reg.FUR_GATE g) 20 4 == p

/-- The first check of SOW_COMMIT that fails (R128, R338); OK when none does. -/
def State.commitStatus (s : State) (x : Part) : Nat :=
  let t := s.applySettings x
  if s.gateLoop x.p then Status.invalidParam
  else if t.loadChecks x = false then Status.imageCheckFail
  else if t.ownerChecks x = false then Status.notOwner
  else if t.resourceChecks x = false then Status.noResource
  else Status.ok

/-- SOW_COMMIT (R128, R334, R337): a gate that joins the plot with itself leaves it in SOWING. -/
def State.sowCommitOp (s : State) (c : Cmd) : State :=
  let p := c.plot
  let n := (s.plot p).res.furrows.length
  if s.sow p = Sow.failed then s.finish c.id (s.plot p).img.failStatus 0
  else if s.sow p ≠ Sow.sowing ∨ (s.plot p).img.header = [] ∨ (s.plot p).img.shadow.length < s.fld (Reg.SOW_PLOT_SEG p) 16 16 then
    s.finish c.id Status.invalidParam 0
  else
    let s1 := s.shadowRead p
    let st := s1.commitStatus (s1.partOf p)
    if st = Status.invalidParam then s1.finish c.id st 0
    else if st ≠ Status.ok then s1.sowFail p c.id st
    else (((s1.writePart (s1.partOf p)).rnSet (Reg.SOW_PLOT_PROG p) n).sowSet p Sow.sown).finishAt c.id Status.ok n n n

def execSowCommit (id : Nat) (s : State) : Host.Outcome State Fault Refusal := .next (s.onTakenHbm 0x22 id s.sowCommitOp)

/-- SOW_ABORT (R339): pins and gates stay as SOW_BEGIN set them. -/
def State.sowAbortOp (s : State) (c : Cmd) : State :=
  let p := c.plot
  if [Sow.sowing, Sow.failed, Sow.sown].contains (s.sow p) = false then s.finish c.id Status.invalidParam 0
  else
    let s1 := (((s.abortWaiting p c.id).dropImage p).clearFurrows p).sowSet p Sow.empty
    s1.finish c.id Status.ok 0

def execSowAbort (id : Nat) (s : State) : Host.Outcome State Fault Refusal := .next (s.onTaken 0x23 id s.sowAbortOp)

/-! ## The release (R342-R345) -/

/-- The lowest link version found on the plot's ports, major [7:4] and minor [3:0] (R255). -/
def State.portVersions (s : State) (p : Nat) : Nat :=
  (s.plot p).res.ports.foldl (fun m q => min m (s.fld (Reg.LNK_PORT_VER q) 24 8 * 16 + s.fld (Reg.LNK_PORT_VER q) 16 8)) 0x11

/-- The local status of R230, with the port that failed. -/
def State.localCheck (s : State) (p : Nat) : Option Nat := (s.plot p).res.ports.find? fun q => !(s.latencyOk p q)

/-- REL_TMO in ms (R352). -/
def State.relTmo (s : State) : Nat := max 1 (s.fld Reg.SOW_CFG 0 16)

/-- The plot's own system description hash. -/
def State.sdHash (s : State) (p : Nat) : List Word := (natsFrom 0 8).map fun i => s.rg (Reg.PLT_IMG_SDHASH p i)

/-- The packet that this device sends for a plot (R344, R345). -/
def State.ownSown (s : State) (p : Nat) : SownPkt :=
  { device := s.devId, status := (s.plot p).rel.localStatus, version := s.portVersions p, hash := s.sdHash p,
    limit := s.fld (Reg.PLT_CMT_CFG p) 0 4, recov := s.bit (Reg.PLT_CMT_CFG p) 4 }

/-- Hold a packet, in place of an earlier one of its device. -/
def State.holdSown (s : State) (p : Nat) (k : SownPkt) : State :=
  s.onRel p fun r => { r with packets := r.packets.filter (fun e => e.device != k.device) ++ [k] }

/-- Flood the plot's SOWN packet. -/
def State.sendSown (s : State) (p : Nat) : State :=
  let k := s.ownSown p
  (s.flood p 5 (plotCtlBody 1 k.version k.status 0 0 (k.hash.map (·.toNat) ++ [k.limit + b2n k.recov * 16]))).onRel p
    fun r => { r with sent := s.ftNs }

/-- The verdict on the packets of every device (R344). -/
def sownVerdict (ks : List SownPkt) : Nat :=
  let bad := ks.filterMap fun k => if k.status = 0 then none else some k.status
  if bad.contains Status.latencyContractFail then Status.latencyContractFail
  else match bad, ks with
    | b :: _, _ => b
    | [], [] => Status.ok
    | [], k :: rest =>
      if rest.any (fun e => e.hash != k.hash) then Status.imageCheckFail
      else if rest.any (fun e => e.limit != k.limit || e.recov != k.recov) then Status.invalidParam
      else Status.ok

/-- A release that failed: the plot is SOWN again (R334, R342). -/
def State.releaseFail (s : State) (p status : Nat) : State :=
  let id := (s.plot p).rel.cmd
  let s1 := ((s.sowSet p Sow.sown).put (Reg.SOW_PLOT_STAT p) 8 8 status).onRel p fun _ => {}
  (s1.finishOpt id status 0).sownPin

/-- Stages 4 and 5: the plot is RELEASED (R342). -/
def State.releaseDone (s : State) (p version : Nat) : State :=
  let id := (s.plot p).rel.cmd
  let s1 := (s.plot p).res.fios.foldl (fun s q => s.unpark p q (s.initPins p q)) (s.initStaging p)
  let s2 := ((s1.gateUnpark p).sowSet p Sow.released).onPlot p fun x =>
    { x with rel := { version := version }, img := { x.img with writeEn := true }, id := { x.id with locked := true } }
  ((s2.plotState p 3 0 []).finishOpt id Status.ok 0).sownPin

/-- Stage 3: what is still missing, and the verdict (R343, R344). -/
def State.releaseCheck (s : State) (p : Nat) : State :=
  let r := (s.plot p).rel
  let devs := s.devicesOf p
  let fabric := decide (1 < s.ndev p)
  let all := devs.all fun d => r.packets.any fun k => k.device == d
  let ks := r.packets.filter fun k => devs.contains k.device
  let verdict := if fabric then sownVerdict ks else r.localStatus
  let version := if fabric then ks.foldl (fun m k => min m k.version) (s.portVersions p) else s.portVersions p
  if s.sow p ≠ Sow.releasing ∨ r.stage ≠ 3 ∨ (fabric = true ∧ all = false) then s
  else if verdict ≠ Status.ok then s.releaseFail p verdict
  else if s.bit Reg.SOW_SOWN_MASK p = true ∧ r.pinHigh = false then s
  else s.releaseDone p version

/-- RELEASE (R342): stages 1 to 3. -/
def State.releaseOp (s : State) (c : Cmd) : State :=
  let p := c.plot
  if s.sow p ≠ Sow.sown then s.finish c.id Status.invalidParam 0
  else if s.bit Reg.CRP_STAT 1 = false ∨ ((s.plot p).res.ports != [] && !s.bit Reg.CRP_STAT 2) = true ∨
      (s.plot p).res.ports.all s.portUp = false then
    (s.put (Reg.SOW_PLOT_STAT p) 8 8 Status.linkDown).finish c.id Status.linkDown 0
  else
    let bad := s.localCheck p
    let st := if bad.isSome then Status.latencyContractFail else Status.ok
    let s1 := match bad with
      | some q => s.latFail p q
      | none => s
    let s2 := ((s1.sowSet p Sow.releasing).blockCmd c.id).onRel p fun r =>
      { r with stage := 3, cmd := c.id, localStatus := st, since := s.ftNs, sent := s.ftNs, pinHigh := false }
    let s3 := s2.sownPin
    let s4 := s3.onRel p fun r => { r with pinHigh := s3.bit Reg.SOW_SOWN_PIN 0 }
    let s5 := if 1 < s.ndev p then (s4.holdSown p (s4.ownSown p)).sendSown p else s4
    s5.releaseCheck p

def execRelease (id : Nat) (s : State) : Host.Outcome State Fault Refusal := .next (s.onTaken 0x24 id s.releaseOp)

/-- A SOWN packet (R344, R345). Packets are held from SOWN on, so that a device whose RELEASE comes later has them. -/
def State.sownPacket (s : State) (ws : List Word) : State :=
  match s.plotByTag (pktTag ws) with
  | none => s
  | some p =>
    if s.sow p ≠ Sow.sown ∧ s.sow p ≠ Sow.releasing then s
    else
      let k : SownPkt := { device := pktSrc ws, status := ctlStatus ws, version := ctlAction ws, hash := (ws.drop 13).take 8,
                           limit := nfld (wordAt ws 21) 0 4, recov := (wordAt ws 21).testBit 4 }
      (s.holdSown p k).releaseCheck p

def execSown (_port : Nat) (words : List Word) (s : State) : Host.Outcome State Fault Refusal := .next (s.sownPacket words)

/-- SOWN_REPEAT (R344): every 100 µs of FT until RELEASE completes. -/
def execSownRepeat (p : Nat) (s : State) : Host.Outcome State Fault Refusal :=
  .next <|
    if s.sow p = Sow.releasing ∧ (s.plot p).rel.stage = 3 ∧ 1 < s.ndev p then
      (s.waitUntil ((s.plot p).rel.sent + 100000)).sendSown p
    else s

/-- SOWN_N_HIGH (R343): the line reads high through its filter; plots of the mask in stage 3 pass. -/
def execSownNHigh (s : State) : Host.Outcome State Fault Refusal :=
  .next <|
    if s.sownLow then s
    else s.sownMask.foldl (fun s p =>
      if s.sow p = Sow.releasing ∧ (s.plot p).rel.stage = 3 then (s.onRel p fun r => { r with pinHigh := true }).releaseCheck p
      else s) (s.setBit Reg.SOW_SOWN_PIN 0)

/-- RELEASE_TIMEOUT (R342): REL_TMO ms of FT in stage 3. -/
def execReleaseTimeout (p : Nat) (s : State) : Host.Outcome State Fault Refusal :=
  .next <|
    if s.sow p = Sow.releasing ∧ (s.plot p).rel.stage = 3 then
      (s.waitUntil ((s.plot p).rel.since + 1000000 * s.relTmo)).releaseFail p Status.deadlineMissed
    else s

end Sys2Proof.Machine
end

