-- ==== Sys2Proof/Machine/Plots.lean ====
section
/-! DEFINITION. Plots and what they hold (14_plots_hosts_network.md): creation, grants and revokes (R393-R395), reset and
destruction (R396, R397), the plot memory map with LIFT and DROP (R399, R413, R414), the scratchpad (R401-R405), fallow
and wake of a plot (R410-R412, R415), sorted mode of the internal network (R420). -/

namespace Sys2Proof.Machine
open Sys2Proof

/-! ## Functions and resources -/

/-- A function is enabled (R393). -/
def State.enabledFn (s : State) (f : Nat) : Bool :=
  if f < 4 then decide (f < s.links)
  else decide (f < 64 ∧ (f - 4) / 15 < s.links ∧ (f - 4) % 15 + 1 ≤ cget 0 s.host.numVfs ((f - 4) / 15))

/-- PLT_PAGES follows the map (R423). -/
def State.mapRegs (s : State) (p : Nat) : State :=
  let m := (s.plot p).res.map
  s.rnSet (Reg.PLT_PAGES p) ((m.filter (·.lifted)).length * 65536 + m.length)

/-- Number of resources of a kind (R394); bank 63 is never assigned. -/
def kindLimit (kind : Nat) : Nat :=
  match kind with
  | 0 => 128 | 1 => 16 | 2 => 64 | 3 => 24576 | 4 => 63 | 5 => 32 | 6 => 12 | 8 => 32 | _ => 0

/-- The resources that FIRST and COUNT name; a furrow group is four logical furrows. -/
def kindItems (kind first count : Nat) : List Nat := if kind = 0 then natsFrom (4 * first) (4 * count) else natsFrom first count

/-- The plot that holds a resource (R394). -/
def State.ownerOf (s : State) (kind i : Nat) : Option Nat :=
  match kind with
  | 0 => s.holder Res.furrows i
  | 1 => s.holder Res.ports i
  | 2 => s.holder Res.pcs i
  | 3 => (s.pageHolder i).map (·.1)
  | 4 => s.bankPlot i
  | 5 => s.holder Res.sigs i
  | 6 => s.holder Res.fios i
  | 8 => s.holder Res.tus i
  | _ => none

/-- A resource is still being zero-filled or handed over (R395, R397, R405). -/
def State.filling (s : State) (kind i : Nat) : Bool :=
  let j := if kind = 0 then i / 4 else i
  s.tile.zero.contains ⟨kind, j⟩ || (kind == 4 && s.tile.handover.any fun e => e.1 == i)

/-- Begin the zero-fill of resources (R395). -/
def State.zeroStart (s : State) (kind : Nat) (is : List Nat) : State :=
  { s with tile := { s.tile with zero := s.tile.zero ++ is.map fun i => ⟨kind, i⟩ } }

/-- The XT region of a plot: BASE and SIZE in units of 1,024 entries. -/
def State.xtRegion (s : State) (p : Nat) : Nat × Nat := (s.fld (Reg.XCH_RGN_CFG p) 16 11, s.fld (Reg.XCH_RGN_CFG p) 0 11)

/-- The XT range that a grant names is free. -/
def State.xtFree (s : State) (first count : Nat) : Bool :=
  (s.livePlots.all fun q =>
    let (b, n) := s.xtRegion q
    n == 0 || decide (b + 2 * n ≤ first ∨ first + 2 * count ≤ b)) &&
  s.tile.zero.all fun z => z.kind != 7 || decide (z.index < first ∨ first + 2 * count ≤ z.index)

/-- The owner registers of a resource (R394). -/
def State.ownerReg (s : State) (p kind i : Nat) (on : Bool) : State :=
  let v := if on then 8 * 16 + p else 0
  match kind with
  | 0 => (s.putBit (Reg.FUR_CFG (s.phys i)) 31 on).put (Reg.FUR_CFG (s.phys i)) 24 4 v
  | 2 => if on then (s.setBit (Reg.MEM_PC_CFG i) 31).put (Reg.MEM_PC_CFG i) 24 4 p else s.rnSet (Reg.MEM_PC_CFG i) 0
  | 4 => (s.putBit (Reg.SPM_BANK_OWNER i) 31 on).put (Reg.SPM_BANK_OWNER i) 24 4 v
  | 5 => s.rnSet (Reg.SIG_OWN i) (if on then 2 ^ 31 + p * 2 ^ 24 else 0)
  | 8 => (s.putBit (Reg.HVT_TU_STAT i) 31 on).put (Reg.HVT_TU_STAT i) 24 4 v
  | _ => s

/-- Ascending union and difference of resource lists. -/
def resAdd (n : Nat) (l is : List Nat) : List Nat := (natsFrom 0 n).filter fun i => l.contains i || is.contains i
def resDel (l is : List Nat) : List Nat := l.filter fun i => !(is.contains i)

/-- The lists of a plot after a grant or a revoke. -/
def Res.change (r : Res) (kind : Nat) (is : List Nat) (on : Bool) : Res :=
  let f := fun n l => if on then resAdd n l is else resDel l is
  match kind with
  | 0 => { r with furrows := f 512 r.furrows }
  | 1 => { r with ports := f 16 r.ports }
  | 2 => { r with pcs := f 64 r.pcs }
  | 3 =>
    let had := r.map.map fun e => if e.lifted then 24576 else e.page
    if on then { r with map := r.map ++ (is.filter fun i => !(had.contains i)).map fun i => ⟨i, 0, false⟩ }
    else { r with map := r.map.filter fun e => e.lifted || !(is.contains e.page) }
  | 5 => { r with sigs := f 32 r.sigs }
  | 6 => { r with fios := f 12 r.fios }
  | 8 => { r with tus := f 32 r.tus }
  | _ => r

/-- HBM pages are zero-filled. -/
def State.zeroPages (s : State) (pages : List Nat) : State :=
  let mem := pages.foldl (fun m g => cclear m (g * mib2) mib2) s.hbm.mem
  let hbm := { s.hbm with mem := mem, suspects := s.hbm.suspects.filter fun e => !(pages.contains (e.2 * 8 / mib2)) }
  { s with hbm := hbm, ecc := s.ecc.filter fun e => !(e.1 % 16 == Item.hbmWord && pages.contains (e.1 / 16 * 8 / mib2)) }

/-- A scratchpad bank is zero-filled. -/
def State.zeroBank (s : State) (b : Nat) : State :=
  { s with tile := { s.tile with spm := cclear s.tile.spm (b * 2 ^ 18) (2 ^ 18) },
           ecc := s.ecc.filter fun e => !(e.1 % 16 == Item.spm && e.1 / 16 / 32768 == b) }

/-- XT entries are zero-filled, in units of 1,024. -/
def State.zeroXt (s : State) (first n : Nat) : State :=
  { s with xch := { s.xch with xt := cclear s.xch.xt (first * 1024) (n * 1024),
                               xtCopy := cclear s.xch.xtCopy (first * 1024) (n * 1024) } }

/-! ## PLOT_CREATE and PLOT_ASSIGN (R393-R395) -/

/-- PLOT_CREATE (R393). -/
def State.plotCreateOp (s : State) (c : Cmd) : State :=
  let p := c.plot
  let ptag := c.dw 6 / 65536
  let owner := nfld (c.dw 6) 0 6
  if ptag = 0 ∨ s.enabledFn owner = false then s.finish c.id Status.invalidParam 0
  else if (s.plot p).id.live ∨ (s.plotByTag ptag).isSome then s.finish c.id Status.noResource 0
  else
    let s1 := s.plotSet p { id := { live := true, owner := owner, ptag := ptag } }
    (s1.rnSet (Reg.PLT_ID p) (2 ^ 31 + owner * 65536 + ptag)).finish c.id Status.ok 0

def execPlotCreate (id : Nat) (s : State) : Host.Outcome State Fault Refusal := .next (s.onTaken 0x10 id s.plotCreateOp)

/-- KIND, FIRST and COUNT of a PLOT_ASSIGN. -/
def Cmd.grant (c : Cmd) : Nat × Nat × Nat := (nfld (c.dw 6) 0 4, c.dw 7, c.dw 8)

/-- The index range of a PLOT_ASSIGN is one that exists (R394). -/
def Cmd.grantOk (c : Cmd) : Bool :=
  let (kind, first, count) := c.grant
  count != 0 && (if kind = 7 then decide (first < 2048 ∧ 2 * count ≤ 2048 - first) else decide (first + count ≤ kindLimit kind))

/-- A grant of a kind is accepted in the plot's state (R394). -/
def State.grantState (s : State) (p kind : Nat) : Bool :=
  [3, 4, 8].contains kind || decide (s.sow p ≤ Sow.sown) || (kind == 0 && s.gone p)

/-- Page g of a PC keeps it from a plot (R132): an owned PC carries only design memory, journal and stakes of its plot. -/
def State.pageForeign (s : State) (p g : Nat) : Bool :=
  Config.firmwarePage g || (match s.pageHolder g with
    | some (q, use) => q != p || decide (5 ≤ use)
    | none => false)

/-- A grant breaks R132: a PC that carries what an owned one may not, or a page on another plot's PC. -/
def State.pcExcluded (s : State) (p kind i : Nat) : Bool :=
  match kind with
  | 2 => s.holder Res.pcs i != some p && (natsFrom (384 * i) 384).any (s.pageForeign p)
  | 3 => Config.firmwarePage i || (match s.holder Res.pcs (i / 384) with
    | some q => q != p
    | none => false)
  | _ => false

/-- A grant (R394): all of the resources or none. -/
def State.plotAssignOp (s : State) (c : Cmd) : State :=
  let p := c.plot
  let (kind, first, count) := c.grant
  let is := kindItems kind first count
  if c.grantOk = false then s.finish c.id Status.invalidParam 0
  else if s.grantState p kind = false then s.finish c.id Status.busy 0
  else if kind = 7 then
    if (s.xtRegion p).2 ≠ 0 ∨ s.xtFree first count = false then s.finish c.id Status.noResource 0
    else ((s.put (Reg.XCH_RGN_CFG p) 16 11 first).put (Reg.XCH_RGN_CFG p) 0 11 count).finish c.id Status.ok 0
  else if is.any (fun i => (match s.ownerOf kind i with
      | some q => q != p
      | none => false) || s.filling kind i || s.pcExcluded p kind i) then s.finish c.id Status.noResource 0
  else
    let s1 := is.foldl (fun s i => s.ownerReg p kind i true) (s.onRes p fun r => r.change kind is true)
    (s1.mapRegs p).finish c.id Status.ok 0

/-- A bank that a BRIDGE port of a released plot uses (R310, R395, R405). -/
def State.bridgeBank (s : State) (b : Nat) : Bool :=
  (natsFrom 0 12).any fun q => s.fioRole q == 2 && s.fld (Reg.FIO_BRG_CFG q) 26 6 == b &&
    (match s.holder Res.fios q with
      | some p => s.sow p == Sow.released
      | none => false)

/-- A revoke meets one of the exclusions of R395. -/
def State.revokeBusy (s : State) (p kind : Nat) (is : List Nat) : Bool :=
  ([0, 1, 2, 5, 6, 7].contains kind && decide (Sow.sown ≤ s.sow p)) ||
    (kind == 3 && (s.plot p).res.map.any fun e => !e.lifted && is.contains e.page && e.use != 0) ||
    (kind == 4 && is.any s.bridgeBank) ||
    (kind == 8 && (s.hvtState p == 1 || s.hvtState p == 2) && is.any fun u => s.fld (Reg.HVT_TU_CFG u) 29 3 != 0)

/-- Resources leave a plot and are zero-filled (R395). -/
def State.revoke (s : State) (p kind : Nat) (is : List Nat) : State :=
  let s1 := is.foldl (fun s i => s.ownerReg p kind i false) (s.onRes p fun r => r.change kind is false)
  let s2 := match kind with
    | 0 => (is.foldl (fun (s : State) l => s.clearFurrow (s.phys l)) s1).zeroStart 0 ((is.map (· / 4)).dedup)
    | 3 => (s1.zeroPages is).zeroStart 3 is
    | 4 => (is.foldl State.zeroBank s1).zeroStart 4 is
    | 5 => is.foldl (fun s u => s.onSig u fun _ => {}) s1
    | 6 => is.foldl (fun s q => s.parkReset q) s1
    | _ => s1
  s2.mapRegs p

/-- PLOT_ASSIGN with REVOKE (R395). -/
def State.plotRevokeOp (s : State) (c : Cmd) : State :=
  let p := c.plot
  let (kind, first, count) := c.grant
  let is := kindItems kind first count
  let held := if kind = 7 then s.xtRegion p == (first, count) else is.all fun i => s.ownerOf kind i == some p
  if c.grantOk = false ∨ held = false then s.finish c.id Status.invalidParam 0
  else if s.revokeBusy p kind is then s.finish c.id Status.busy 0
  else if (kind = 3 ∨ kind = 7) ∧ s.hbmStatus ≠ 0 then s.finish c.id s.hbmStatus 0
  else if kind = 7 then
    (((s.rnSet (Reg.XCH_RGN_CFG p) 0).zeroXt first (2 * count)).zeroStart 7 (natsFrom first (2 * count))).finish c.id Status.ok 0
  else (s.revoke p kind is).finish c.id Status.ok 0

/-- PLOT_ASSIGN without REVOKE (R394). -/
def execPlotAssign (id : Nat) (s : State) : Host.Outcome State Fault Refusal :=
  .next (s.onTaken 0x13 id fun c => if (c.dw 6).testBit 8 then s else s.plotAssignOp c)

/-- PLOT_ASSIGN with REVOKE (R395). -/
def execPlotRevoke (id : Nat) (s : State) : Host.Outcome State Fault Refusal :=
  .next (s.onTaken 0x13 id fun c => if (c.dw 6).testBit 8 then s.plotRevokeOp c else s)

/-! ## PLOT_RESET and PLOT_DESTROY (R396, R397) -/

/-- Every command on a plot but one completes with ABORTED_CMD (R387). -/
def State.abortAll (s : State) (p id : Nat) : State :=
  s.finishAll p (fun c => c.id != id && c.stage != .away) Status.abortedCmd 0

/-- The plot stops at once and returns to EMPTY with the resources granted (R396). -/
def State.resetPlot (s : State) (p : Nat) : State :=
  let s1 := ((s.hvtStop p 4 (s.newest p) s.ftNs).dropImage p).gatePark p
  let s2 := (s.plot p).res.fios.foldl (fun s q => s.parkReset q) s1
  let s3 := (s.plot p).res.sigs.foldl (fun s u => s.onSig u fun _ => {}) ((s2.clearFurrows p).setTrunks p [])
  let s4 := s3.onPlot p fun x =>
    { x with tm := {}, id := { x.id with hostQ := [], stops := [], serving := [], startAt := none, forces := [], fallowFt := 0 },
             hvt := { x.hvt with armAt := none, stopAt := none } }
  ((s4.sowSet p Sow.empty).plotState p 4 0 []).sownPin

/-- PLOT_RESET (R396): without FORCE it waits behind an export or import of the plot (R415, R490). -/
def State.plotResetOp (s : State) (c : Cmd) : State :=
  if s.ckptBusy c.plot = true ∧ (c.dw 0).testBit 16 = false then s
  else ((s.abortAll c.plot c.id).resetPlot c.plot).finish c.id Status.ok 0

def execPlotReset (id : Nat) (s : State) : Host.Outcome State Fault Refusal := .next (s.onTaken 0x14 id s.plotResetOp)

/-- Banks of a plot. -/
def State.banksOf (s : State) (p : Nat) : List Nat := (natsFrom 0 63).filter fun b => s.bankPlot b == some p

/-- The records that wait for a stream of a plot reach it no more: its ring is zero-filled (R449). -/
def State.streamEnds (s : State) (p : Nat) : State :=
  let off := fun (e : EvRec) => if e.plot = some p then { e with toPlot := false } else e
  { s with hvt := { s.hvt with fifo := s.hvt.fifo.map off, fallowBuf := s.hvt.fallowBuf.map off } }

/-- A plot is reset and its memories are zero-filled; it is deleted when the fill ends (R397, R449). id is the command, 0 for
none. -/
def State.destroyPlot (s : State) (p id : Nat) : State :=
  let s1 := ((s.resetPlot p).plotState p 5 0 []).streamEnds p
  let pages := ((s.plot p).res.map.filter fun e => !e.lifted).map (·.page)
  let (base, size) := s.xtRegion p
  let s2 := (((s.banksOf p).foldl (fun s b => s.zeroBank b) (s1.zeroPages pages)).zeroXt base (2 * size)).setBit (Reg.PLT_ID p) 30
  let s3 := s2.onPlot p fun x => { x with id := { x.id with zeroing := true }, hvt := { x.hvt with ring := {} } }
  { s3 with tile := { s3.tile with destroying := s3.tile.destroying ++ [(p, id)] } }

/-- The plot holds pages or an XT region, which its destruction zero-fills in HBM (R153, R397). -/
def State.holdsHbm (s : State) (p : Nat) : Bool := (s.plot p).res.map.any (fun e => !e.lifted) || (s.xtRegion p).2 != 0

/-- PLOT_DESTROY (R153, R397): it completes when the fill ends. -/
def State.plotDestroyOp (s : State) (c : Cmd) : State :=
  if s.holdsHbm c.plot = true ∧ s.hbmStatus ≠ 0 then s.finish c.id s.hbmStatus 0
  else ((s.abortAll c.plot c.id).blockCmd c.id).destroyPlot c.plot c.id

def execPlotDestroy (id : Nat) (s : State) : Host.Outcome State Fault Refusal := .next (s.onTaken 0x11 id s.plotDestroyOp)

/-- The registers of a plot, back to reset (R457): the thermal level is the device's (R41), and the stream's counters keep
their counts and OVF bits (R13), and its conditions stay until they are cleared. -/
def State.plotRegsReset (s : State) (p : Nat) : State :=
  let s1 := (s.rgResetRange (Reg.PLT_ID p) 0x400).rgResetRange (Reg.HVT_CFG p) 0x100
  let s2 := (s1.rgResetRange (Reg.XCH_RGN_CFG p) 0x20).rgResetRange (Reg.SOW_PLOT_STAT p) 0x10
  let s3 := (s2.rnSet (Reg.HVT_FIRE_CNT p) (s.rn (Reg.HVT_FIRE_CNT p))).rnSet (Reg.HVT_LOSS_CNT p) (s.rn (Reg.HVT_LOSS_CNT p))
  let s4 := (s3.put (Reg.HVT_STAT p) 16 2 (s.fld (Reg.HVT_STAT p) 16 2)).put (Reg.HVT_STAT p) 19 4 (s.fld (Reg.HVT_STAT p) 19 4)
  (s4.put (Reg.PLT_HL_STAT p) 8 4 (s.thermLvl p)).intEmptied p

/-- The fill of a destroyed plot ends: its resources return to the pool, and it is deleted (R397). -/
def State.destroyDone (s : State) (p id : Nat) : State :=
  let r := (s.plot p).res
  let own := fun kind (is : List Nat) (s : State) => is.foldl (fun s i => s.ownerReg p kind i false) s
  let s1 := own 8 r.tus (own 5 r.sigs (own 4 (s.banksOf p) (own 2 r.pcs (own 0 r.furrows s))))
  let s2 := (s1.plotSet p {}).plotRegsReset p
  ({ s2 with tile := { s2.tile with destroying := s2.tile.destroying.filter fun e => e.1 != p } }).finishOpt id Status.ok 0

/-- ZERO_FILL_DONE (R395, R397): kinds as KIND of R394; kind 9 is the fill of a destroyed plot. -/
def execZeroFillDone (kind index : Nat) (s : State) : Host.Outcome State Fault Refusal :=
  .next <|
    if kind = 9 then
      match s.tile.destroying.find? fun e => e.1 == index with
      | some (p, id) => s.destroyDone p id
      | none => s
    else { s with tile := { s.tile with zero := s.tile.zero.filter fun z => z != ⟨kind, index⟩ } }

/-! ## LIFT and DROP (R413, R414) -/

/-- FIRST and COUNT lie within the map. -/
def State.mapRangeOk (s : State) (c : Cmd) : Bool :=
  c.dw 7 != 0 && decide (c.dw 6 + c.dw 7 ≤ (s.plot c.plot).res.map.length ∧ c.dw 13 ≤ c.dw 7)

/-- The entries from START on. -/
def State.mapEntries (s : State) (c : Cmd) : List MapEntry :=
  (((s.plot c.plot).res.map.drop (c.dw 6 + c.dw 13)).take (c.dw 7 - c.dw 13))

def State.setEntry (s : State) (p i : Nat) (e : MapEntry) : State := s.onRes p fun r => { r with map := setNth r.map i e }

/-- An entry may not be lifted now (R413). -/
def State.liftBusy (s : State) (p : Nat) (e : MapEntry) : Bool :=
  let idle := s.gone p || s.sow p != Sow.released
  if e.use = 0 ∨ e.use = 6 then e.use == 6 && (s.hvtState p == 1 || s.hvtState p == 2) else !idle

/-- Lift one entry to host memory (R413). -/
def State.liftOne (s : State) (c : Cmd) (i : Nat) : State :=
  match (s.plot c.plot).res.map[c.dw 6 + i]? with
  | some e =>
    let s1 := s.hostWrite c.func (c.dw64 8 + mib2 * i) (s.hbmRead (e.page * mib2) mib2)
    (s1.zeroPages [e.page]).setEntry c.plot (c.dw 6 + i) { e with lifted := true }
  | none => s

/-- The entries that the DMA reached are lifted (R375, R413). -/
def State.liftEnd (s : State) (c : Cmd) (reach : Nat) (page : Option Nat) : State :=
  let got := reach / mib2
  let s1 := (natsFrom (c.dw 13) (got - c.dw 13)).foldl (fun s i => s.liftOne c i) s
  (s1.mapRegs c.plot).dmaEnd c.id got (c.dw 7) page (c.dw 7)

/-- LIFT (R413). -/
def State.liftOp (s : State) (c : Cmd) : State :=
  let n := c.dw 7
  let es := s.mapEntries c
  if s.mapRangeOk c = false ∨ es.any (·.lifted) then s.finish c.id Status.invalidParam 0
  else if es.any (s.liftBusy c.plot) then s.finish c.id Status.busy 0
  else
    let r := s.dma c.func (c.dw64 8) (n * mib2) mib2 (c.dw 13)
    r.2.2.liftEnd c r.1 r.2.1

def execLift (id : Nat) (s : State) : Host.Outcome State Fault Refusal := .next (s.onTakenHbm 0x54 id s.liftOp)

/-- The lowest unassigned page that suits an entry (R414). -/
def State.dropPage (s : State) (e : MapEntry) : Option Nat :=
  let pc := e.page / 384
  let free := fun g => (s.pageHolder g).isNone && !(s.filling 3 g) && !(Config.firmwarePage g)
  if 1 ≤ e.use ∧ e.use ≤ 4 then (natsFrom (384 * pc) 384).find? free
  else (natsFrom 0 24576).find? fun g => free g && (s.holder Res.pcs (g / 384)).isNone

/-- Page g takes the bytes of entry i from host memory: none, or the status and the page that failed (R414). -/
def State.dropIn (s : State) (c : Cmd) (i : Nat) (e : MapEntry) (g size : Nat) : Option (Nat × Option Nat) × State :=
  match s.translateRange c.func (c.dw64 8 + size * i) size with
  | (some page, s1) => (some (Status.translationFault, some page), s1.pageFault c.func page)
  | (none, s1) =>
    let s2 := s1.hbmStore (g * size) (s1.hostRead c.func (c.dw64 8 + size * i) size)
    (none, s2.setEntry c.plot (c.dw 6 + i) { e with page := g, lifted := false })

/-- One entry comes back from host memory: none, or the status that stops the run and the page that failed (R414). -/
def State.dropOne (s : State) (c : Cmd) (i : Nat) : Option (Nat × Option Nat) × State :=
  match (s.plot c.plot).res.map[c.dw 6 + i]? with
  | none => (some (Status.invalidParam, none), s)
  | some e =>
    match s.dropPage e with
    | none => (some (Status.noResource, none), s)
    | some g => s.dropIn c i e g mib2

/-- Drop entries from the i-th on, n of them: the number reached and the status, with a faulting page. -/
def State.dropRun (s : State) (c : Cmd) : Nat → Nat → Nat × Nat × Option Nat × State
  | i, 0 => (i, Status.ok, none, s)
  | i, n + 1 =>
    match s.dropOne c i with
    | (some (status, page), s1) => (i, status, page, s1)
    | (none, s1) => s1.dropRun c (i + 1) n

/-- DROP (R414). -/
def State.dropOp (s : State) (c : Cmd) : State :=
  let n := c.dw 7
  if s.mapRangeOk c = false ∨ (s.mapEntries c).all (·.lifted) = false then s.finish c.id Status.invalidParam 0
  else
    let (got, st, page, s1) := s.dropRun c (c.dw 13) (n - c.dw 13)
    let result := if st = Status.ok then n else (page.getD 0) * kib4
    (s1.mapRegs c.plot).finishAt c.id st result got n

def execDrop (id : Nat) (s : State) : Host.Outcome State Fault Refusal := .next (s.onTakenHbm 0x55 id s.dropOp)

/-! ## Scratchpad (R401-R405) -/

/-- BANK_HANDOVER (R405): PF0 writes SPM_BANK_OWNER. -/
def State.bankWrite (s : State) (fn b v : Nat) (r : RegRow) : State :=
  let s0 := s.rsvdCheck fn v r.fields
  if isAdmin fn = false then s0.devStat fn 3
  else if s.bit (Reg.SPM_BANK_OWNER b) 29 ∨ s.bridgeBank b = true ∨ b = 63 then s0.spmCond 3
  else
    let new := if v.testBit 31 then some (nfld v 24 4) else none
    let func := fun (x : Option Nat) => x.map fun p => (s.plot p).id.owner
    let zero := v.testBit 30 || func (s.bankPlot b) != func new
    let s1 := (s0.putBit (Reg.SPM_BANK_OWNER b) 31 (v.testBit 31)).put (Reg.SPM_BANK_OWNER b) 24 4 (nfld v 24 4)
    let s2 := s1.setBit (Reg.SPM_BANK_OWNER b) 29
    { s2 with tile := { s2.tile with handover := s2.tile.handover ++ [(b, zero)] } }

def execBankHandover (fn bank v : Nat) (s : State) : Host.Outcome State Fault Refusal :=
  .next (s.gated fn (Reg.SPM_BANK_OWNER bank) fun s r _ => s.bankWrite fn bank v r)

/-- HANDOVER_DONE (R405). -/
def execHandoverDone (bank : Nat) (s : State) : Host.Outcome State Fault Refusal :=
  .next <| match s.tile.handover.find? fun e => e.1 == bank with
  | none => s
  | some (b, zero) =>
    let s1 := if zero then s.zeroBank b else s
    let s2 := s1.clrBit (Reg.SPM_BANK_OWNER b) 29
    { s2 with tile := { s2.tile with handover := s2.tile.handover.filter fun e => e.1 != b } }

/-- A function may access a bank now (R402, R405). -/
def State.bankAccess (s : State) (fn b : Nat) : Bool :=
  isAdmin fn || (!(s.bit (Reg.SPM_BANK_OWNER b) 29) && match s.bankPlot b with
    | some p => (s.plot p).id.live && (s.plot p).id.owner == fn
    | none => false)

/-- A refused window access (R402). -/
def State.spmRefuse (s : State) (len : Nat) (read : Bool) : State :=
  let s1 := s.spmCond 2
  { s1 with out := { s1.out with data := if read then some (allOnes len) else none } }

/-- A read of a bank. -/
def State.spmGet (s : State) (addr len : Nat) : State :=
  let (bad, s1) := s.spmCheck addr
  { s1 with out := { s1.out with data := some (if bad then allOnes len else s1.spmRead addr len) } }

/-- A write of a bank: a whole word gets new check bits. -/
def State.spmPut (s : State) (addr : Nat) (bs : List Byte) : State :=
  let s1 := if bs.length = 8 then (s.spmInject addr).eccSet Item.spm (addr / 8) 0 else (s.spmCheck addr).2
  let s2 := s1.spmWrite addr bs
  { s2 with out := { s2.out with data := none } }

/-- The plot that owns a bank, as the scratchpad's interface compares it (R419). -/
def State.bankOwner (s : State) (bank : Nat) : Option Nat :=
  if s.bit (Reg.SPM_BANK_OWNER bank) 31 then some (s.fld (Reg.SPM_BANK_OWNER bank) 24 4) else none

/-- The request of an access to the scratchpad crosses the network (R417, R421): true when it is not served. -/
def State.spmPacket (s : State) (addr cmd : Nat) (data : List Byte) : Bool × State :=
  let bank := addr / 2 ^ 18
  let owner := s.bankOwner bank
  s.packet (s.hostFlit true bank cmd data.length owner addr).word data owner

/-- The scratchpad answers a request that it has served (R417, R419). -/
def State.spmReply (s : State) (addr : Nat) : State := s.respond true (addr / 2 ^ 18) s.out.data

/-- An access through the data window (R402, R405, R421, R505). -/
def State.spmAccess (s : State) (fn offset len : Nat) (data : Option (List Byte)) : State :=
  if (len ≠ 4 ∧ len ≠ 8) ∨ offset % len ≠ 0 then s.devStat fn 1
  else if s.bankAccess fn (offset / 2 ^ 18) = false then s.spmRefuse len data.isNone
  else
    let bs := data.map fun bs => (bs ++ List.replicate len 0).take len
    let r := s.spmPacket offset (b2n data.isSome) (bs.getD [])
    if r.1 then r.2.outData (refusedData len data)
    else (match bs with
      | some bs => r.2.spmPut offset bs
      | none => r.2.spmGet offset len).spmReply offset

/-- SPM_DATA_ACCESS (R402): the offset counts from the start of the data window; an access is aligned and of 4 or 8 bytes. -/
def execSpmDataAccess (fn offset len : Nat) (data : Option (List Byte)) (s : State) : Host.Outcome State Fault Refusal :=
  if 2 ^ 24 < offset + len then .fault .outsideBar
  else .next <|
    if s.hostDown fn then { s with out := { s.out with data := none } }
    else if s.running = false then s
    else s.spmAccess fn offset len data

/-- A write of an alias (R403): one access that changes the bits named, by a packet of CMD 0x7 or 0x8 (R417). -/
def State.aliasWrite (s : State) (fn base addr cmd v : Nat) (f : Nat → Nat) : State :=
  let b := (addr - base) / 2 ^ 16
  let a := b * 2 ^ 18 + (addr - base) % 2 ^ 16
  if s.running = false ∨ addr < base ∨ base + 2 ^ 22 ≤ addr then s
  else if addr % 4 ≠ 0 then s.devStat fn 1
  else if s.bankAccess fn b = false then s.spmRefuse 4 false
  else
    let bits := leBytes 4 v
    let r := s.spmPacket a cmd bits
    if r.1 then r.2.outData none
    else (r.2.spmPut a (leBytes 4 (f (leNat (r.2.spmRead a 4))))).spmReply a

/-- BIT_SET (R403). -/
def execBitSet (fn addr v : Nat) (s : State) : Host.Outcome State Fault Refusal :=
  .next (if s.hostDown fn then s else s.aliasWrite fn 0x2400000 addr 7 v fun d => d ||| v)

/-- BIT_CLEAR (R403). -/
def execBitClear (fn addr v : Nat) (s : State) : Host.Outcome State Fault Refusal :=
  .next (if s.hostDown fn then s else s.aliasWrite fn 0x2800000 addr 8 v fun d => d - (d &&& v))

/-! ## Fallow and wake of a plot (R410-R412, R415) -/

/-- Depth of a fallow state beside a LEVEL. -/
def fallowDepth (state : Nat) : Nat := if state = 1 then 1 else if state = 3 then 2 else if state = 4 then 3 else 0

/-- A plot that does not run enters fallow, or goes deeper, at once (R410, R411, R415). -/
def State.fallowNow (s : State) (p level : Nat) : State :=
  let f := s.fallowState p
  let since := (s.plot p).id.fallowFt
  if f = 3 then
    let s1 := (s.plot p).res.trunks.foldl (fun s t => s.rnSet (Reg.FUR_SW_TRUNK (t / 64) (t % 64)) 0) s
    let s2 := (s.plot p).res.furrows.foldl (fun s l => s.ownerReg p 0 l false) (s1.fallowRec (some p) true level 0)
    (s2.put (Reg.PLT_FALLOW p) 28 4 4).onRes p fun r => { r with furrows := [], trunks := [] }
  else if f = 1 then (s.fallowEnter p level).onId p fun x => { x with fallowFt := since }
  else s.fallowEnter p level

/-- FALLOW of a plot at a level (R410, R411, R415, R376). A plot that waits for T0 or T_RESUME answers BUSY (DESIGN CHOICE,
log 16). -/
def State.fallowOp (s : State) (level : Nat) (c : Cmd) : State :=
  let p := c.plot
  let flood := (c.dw 6).testBit 4
  let n := (s.plot p).res.furrows.length
  let pos := if level = 0 then 0 else n
  if s.ckptBusy p then s
  else if s.liftRuns p = true ∨ s.fallowState p = 5 then s.finish c.id Status.busy 0
  else if (1 < s.ndev p ∨ flood = true) ∧ c.atPn = none then s.finish c.id Status.invalidParam 0
  else if s.sow p = Sow.sowing ∨ s.sow p = Sow.releasing then s.finish c.id Status.busy 0
  else if s.sow p ≠ Sow.released ∨ (s.plot p).tm.launched = false then s.finish c.id Status.invalidParam 0
  else match s.deadStatus p with
    | some st => s.finish c.id st 0
    | none =>
      let s1 := if flood then s.floodHalt p (level + 1) (c.atPn.getD 0) else s
      if level < fallowDepth (s.fallowState p) then s1.finish c.id Status.ok 0
      else if s.missed p c then s1.finish c.id Status.deadlineMissed 0
      else if s.plotBusy p = false ∧ (s.plot p).id.startAt.isSome = true then s1.finish c.id Status.busy 0
      else if s.plotBusy p = true ∨ c.atPn.isSome = true then (s1.blockCmd c.id).askStop p (level + 1) c.atPn c.id
      else if level ≠ 0 ∧ fallowDepth (s.fallowState p) < 2 ∧ s.freePages p < s.savePages p then s1.finish c.id Status.noResource 0
      else (s1.fallowNow p level).finishAt c.id Status.ok 0 pos pos

/-- FALLOW rows share an opcode: a row acts on the LEVEL that it names, and not with DEEP. -/
def State.fallowRow (s : State) (level : Nat) (c : Cmd) : State :=
  if (c.dw 6).testBit 8 = true ∨ nfld (c.dw 6) 0 2 ≠ level then s else s.fallowOp level c

/-- FALLOW LEVEL 0 (R410). -/
def execFallow (id : Nat) (s : State) : Host.Outcome State Fault Refusal := .next (s.onTaken 0x33 id (s.fallowRow 0))
/-- FALLOW LEVEL 1 (R411). -/
def execFallowEvict (id : Nat) (s : State) : Host.Outcome State Fault Refusal := .next (s.onTaken 0x33 id (s.fallowRow 1))
/-- FALLOW LEVEL 2 (R411). -/
def execFallowPreEmpt (id : Nat) (s : State) : Host.Outcome State Fault Refusal := .next (s.onTaken 0x33 id (s.fallowRow 2))

/-- What keeps an evicted plot from waking (R412): none, or a status. -/
def State.wakeStatus (s : State) (p : Nat) (v : SaveCopy) : Option Nat :=
  if (s.plot p).res.furrows ≠ v.logical then some Status.noResource
  else if v.trunks.any (s.trunkTaken p) then some Status.noResource
  else if (s.plot p).res.map.any (fun e => e.lifted && e.use != 0 && e.use != 6) then some Status.busy
  else none

/-- The furrows are sown again from the shadow (R340, R412). -/
def State.resow (s0 : State) (p : Nat) : State :=
  let s := s0.shadowRead p
  let x := s.partOf p
  let s1 := (s.clearFurrows p).applySettings x
  (((x.ts.filter fun t => t.kind != 13).foldl State.writeTarget s1).carryMap x).selectsOwn p fun _ => true

/-- A save is restored, and the plot stands at the start of pass PLT_CPN, with the latches and samples of the input log (R297,
R411, R412). The restore runs whole within the step that takes it (DESIGN CHOICE, log 83). -/
def State.restoreSave (s : State) (p : Nat) (v : SaveCopy) : State :=
  let k := v.copy.pn
  let s1 := (s.resow p).setTrunks p v.trunks
  let c := v.copy
  let s2 := ((((s1.loadState p c k).loadRam p c).loadCarried p c).reloadData p k).reapplyMem p k
  let s3 := ((s2.restage p k).resyncAlive p).sigRestartAll p
  let s4 := s3.onPlot p fun x => { x with id := { x.id with save := none }, res := { x.res with map := freeSaveUses x.res.map } }
  let s5 := (s4.latchAll p k []).sampleGates p k
  if s.suppressed p then s5 else s5.exposure p k

/-- PLT_FALLOW of a WAKE (R423): waking, with the furrows restored, until T_RESUME; none where it resumes at once or stays
halted. -/
def State.wakeState (s : State) (p : Nat) (c : Cmd) : Nat :=
  if (c.dw 6).testBit 0 = true ∨ c.dw64 8 = 0 then 0
  else 5 * 2 ^ 28 + (if (s.plot p).id.save.isSome then (s.plot p).res.furrows.length else 0)

/-- The plot leaves fallow (R410, R450): R starts again from B. -/
def State.leaveFallow (s : State) (p : Nat) (c : Cmd) : State :=
  let s1 := (s.rnSet (Reg.PLT_FALLOW p) (s.wakeState p c)).rnSet (Reg.PLT_REF_REMAIN p) (s.refreshB p)
  (s1.fallowRec (some p) false (fallowDepth (s.fallowState p) - 1) (s.ftNs - (s.plot p).id.fallowFt)).finalRefresh p

/-- The plot resumes now, at T_RESUME, or stays halted with HOLD (R410). -/
def State.wakeStart (s : State) (c : Cmd) : State :=
  let t := c.dw64 8
  if (c.dw 6).testBit 0 then s.finish c.id Status.ok 0
  else if t = 0 then (s.startPlot c.plot 0).finish c.id Status.ok 0
  else (s.blockCmd c.id).startPlot c.plot t

/-- WAKE of a plot (R410, R412); firmware retrains a port of the plot first (R259). -/
def State.wakeOp (s : State) (c : Cmd) : State :=
  let p := c.plot
  let hold := (c.dw 6).testBit 0
  let trains := (s.plot p).res.ports.any fun q => (s.port q).phase != 0
  if s.ckptBusy p || trains then s
  else if s.pwrState ≠ 0 ∨ s.liftRuns p = true ∨ s.fallowState p = 5 then s.finish c.id Status.busy 0
  else if s.fallowState p = 0 then s.finish c.id Status.invalidParam 0
  else match (if hold then none else s.resumeStatus p (c.dw64 8)), (s.plot p).id.save with
    | some st, _ => s.finish c.id st 0
    | none, none => (s.leaveFallow p c).wakeStart c
    | none, some v => match s.wakeStatus p v with
      | some st => s.finish c.id st 0
      | none => ((s.leaveFallow p c).restoreSave p v).wakeStart c

/-- WAKE with a plot (R412). -/
def execWake (id : Nat) (s : State) : Host.Outcome State Fault Refusal :=
  .next (s.onTaken 0x34 id fun c => if c.plot = 255 then s else s.wakeOp c)

/-! ## The internal network (R420) -/

/-- A write of NOC_CFG (R420): sorted mode is refused while a plot is released. -/
def State.nocCfgWrite (s : State) (fn v : Nat) (r : RegRow) : State :=
  let s1 := s.rsvdCheck fn v r.fields
  if v.testBit 31 = true ∧ s.anyReleased = true then s1.raiseNoc 5 0 none 0
  else (s1.putBit Reg.NOC_CFG 31 (v.testBit 31)).putBit Reg.NOC_CFG 30 (v.testBit 31 || !s.running || s.tile.diagnosing)

/-- SORT_REQ (R420). -/
def execSortReq (fn v : Nat) (s : State) : Host.Outcome State Fault Refusal :=
  .next (s.gated fn Reg.NOC_CFG fun s r _ => s.nocCfgWrite fn v r)

end Sys2Proof.Machine
end

