-- ==== Sys2Proof/Machine/Queues.lean ====
section
/-! DEFINITION. Queue pairs, entries and their checks, the matching store, delay and ready lists, dispatch, completions,
forwarded commands, and the commands NOP, QUERY, NEGOTIATE and PROGRESS (13_dziene_commands.md). -/

namespace Sys2Proof.Machine
open Sys2Proof

/-! ## Queue pair registers (R354, R355, R389) -/

/-- Vectors of a function's MSI-X table (R355, R459). -/
def vectors (fn : Nat) : Nat := if isPf fn then 2048 else 64

def State.queueEn (s : State) (q : Nat) : Bool := s.bit (Reg.QCF_CTRL q) 31
def State.queueVec (s : State) (q : Nat) : Nat := s.fld (Reg.QCF_CTRL q) 0 11
def State.inflight (s : State) (q : Nat) : Nat := s.fld (Reg.QCF_INFLIGHT q) 0 17
def State.forwards (s : State) (q : Nat) : Bool := s.bit (Reg.QCF_FWD q) 31

/-- Setting EN is refused (R355). -/
def State.enableBad (s : State) (q : Nat) : Bool :=
  match s.queueOwner q with
  | none => true
  | some f => s.sqLast q == 0 || s.cqLast q == 0 || s.sqBase q % kib4 != 0 || s.cqBase q % kib4 != 0 ||
      decide (vectors f ≤ s.queueVec q)

/-- EN is set: head, tail, phase, ALIVE expectation and doorbells return to their start (R355, R503). -/
def State.queueStart (s : State) (q : Nat) : State :=
  let s1 := (((((s.setBit (Reg.QCF_CTRL q) 31).put (Reg.QCF_STAT q) 20 12 0).put (Reg.QCF_STAT q) 6 14 2).clrBit
    (Reg.QCF_STAT q) 3).put (Reg.QCF_ALIVE q) 0 8 0)
  { s1 with cmd := { s1.cmd with sqTail := cdel s1.cmd.sqTail q, cqHead := cdel s1.cmd.cqHead q,
                                 coalesce := cdel s1.cmd.coalesce q, coalFt := cdel s1.cmd.coalFt q,
                                 credit := cdel s1.cmd.credit q } }

/-- The queue's interrupt (R360). -/
def State.signal (s : State) (fn q : Nat) : State :=
  let cmd := { s.cmd with coalesce := cdel s.cmd.coalesce q, coalFt := cdel s.cmd.coalFt q }
  { s with cmd := cmd }.msix fn (s.queueVec q)

/-- The interrupt is due (R360): IEN = 1, and ICNT + 1 completions have been written since the last signal. -/
def State.signalDue (s : State) (q : Nat) : State :=
  match s.queueOwner q with
  | some fn =>
    if s.bit (Reg.QCF_CTRL q) 30 && decide (s.fld (Reg.QCF_INT q) 24 8 < cget 0 s.cmd.coalesce q) then s.signal fn q else s
  | none => s

/-- A write of QCF_CTRL (R355). -/
def State.queueCtrlWrite (s : State) (fn q v : Nat) (r : RegRow) : State :=
  let a := Reg.QCF_CTRL q
  let on := v.testBit 31
  let was := s.queueEn q
  let s1 := ((s.rsvdCheck fn v r.fields).putBit a 30 (v.testBit 30)).put a 0 11 (nfld v 0 11)
  let s2 := (if was then s1 else s1.put a 16 8 (nfld v 16 8)).signalDue q
  if on = was then s2
  else if on then (if s2.enableBad q then s2.setBit (Reg.QCF_STAT q) 4 else s2.queueStart q)
  else if s2.inflight q ≠ 0 then s2.setBit (Reg.QCF_STAT q) 4
  else s2.clrBit a 31

/-- A write of a QCF register (R355): while EN = 1 only EN, IEN and the interrupt fields take it; the W1C conditions clear. -/
def State.queueWrite (s : State) (fn a v : Nat) (r : RegRow) (is : List Nat) : State :=
  let q := is.headD 0
  if a = Reg.QCF_CTRL q then s.queueCtrlWrite fn q v r
  else if s.queueEn q = true ∧ a ≠ Reg.QCF_INT q ∧ a ≠ Reg.QCF_STAT q then s.rsvdCheck fn v r.fields
  else
    let s1 := s.plainWrite fn a v r is
    if a = Reg.QCF_INT q then s1.signalDue q else s1

/-- QUEUE_ENABLE (R355): a write of QCF_CTRL with EN = 1. -/
def execQueueEnable (fn q v : Nat) (s : State) : Host.Outcome State Fault Refusal :=
  .next <| if q < 4096 ∧ v.testBit 31 = true then
    s.gated fn (Reg.QCF_CTRL q) fun s r is => s.queueWrite fn (Reg.QCF_CTRL q) v r is else s

/-- QUEUE_DISABLE (R355): a write of QCF_CTRL with EN = 0. -/
def execQueueDisable (fn q v : Nat) (s : State) : Host.Outcome State Fault Refusal :=
  .next <| if q < 4096 ∧ v.testBit 31 = false then
    s.gated fn (Reg.QCF_CTRL q) fun s r is => s.queueWrite fn (Reg.QCF_CTRL q) v r is else s

/-- A queue pair lies in a range. -/
def inRange (q base n : Nat) : Bool := base ≤ q && decide (q < base + n)

/-- A range write is refused (R354). -/
def State.rangeBad (s : State) (f base n : Nat) : Bool :=
  let ob := s.fld (Reg.CMD_FUNC_Q f) 0 12
  let on := s.fld (Reg.CMD_FUNC_Q f) 16 13
  decide (4096 < base + n) ||
    ((natsFrom 0 64).any fun g =>
      let gb := s.fld (Reg.CMD_FUNC_Q g) 0 12
      let gn := s.fld (Reg.CMD_FUNC_Q g) 16 13
      g != f && n != 0 && gn != 0 && decide (base < gb + gn ∧ gb < base + n)) ||
    ((natsFrom ob on ++ natsFrom base n).any fun q => s.queueEn q && inRange q ob on != inRange q base n)

/-- A write of CMD_FUNC_Q (R354). -/
def State.rangeWrite (s : State) (fn a v : Nat) (r : RegRow) (is : List Nat) : State :=
  let s1 := s.rsvdCheck fn v r.fields
  let base := nfld v 0 12
  let n := nfld v 16 13
  if isAdmin fn = false then (s1.pf0Field fn a 0 12 v).pf0Field fn a 16 13 v
  else if s1.rangeBad (is.headD 0) base n then s1.raiseAt Blk.cmd Reg.CMD_STAT 0 base none 0
  else (s1.put a 0 12 base).put a 16 13 n

/-- QUEUE_RANGE_WRITE (R354): q is the function whose range is written. -/
def execQueueRangeWrite (fn q v : Nat) (s : State) : Host.Outcome State Fault Refusal :=
  .next <| if q < 64 then
    s.gated fn (Reg.CMD_FUNC_Q q) fun s r is => s.rangeWrite fn (Reg.CMD_FUNC_Q q) v r is else s

/-! ## Doorbells (R324, R356, R357, R408) -/

/-- A doorbell write to a stopped queue pair asks for its page again (R408). -/
def State.pageAgain (s : State) (q : Nat) : State :=
  match s.queueOwner q with
  | none => s
  | some f =>
    if s.bit (Reg.QCF_STAT q) 6 = false then s
    else match (s.queuePages q).find? fun g => s.host.refused.contains (f, g) with
      | some g => if s.host.pageReqs.contains (f, g) ∨ s.host.pageWait.contains (f, g) then s else s.pageFault f g
      | none => s

/-- A doorbell write: a refusal is noted, a value above the last index is noted, else the doorbell takes the value. -/
def State.doorbell (s : State) (fn q last v : Nat) (f : CmdSt → CmdSt) : State :=
  if s.running = false ∨ 4096 ≤ q ∨ s.hostDown fn = true then s
  else if fn ≠ 0 ∧ s.queueOwner q ≠ some fn then s.raiseAt Blk.cmd Reg.CMD_STAT 1 q none 0
  else
    let s1 := s.pageAgain q
    if last < v then s1.setBit (Reg.QCF_STAT q) 5 else { s1 with cmd := f s1.cmd }

/-- DOORBELL_SQ_TAIL (R357): the host has written its memory before it. -/
def execDoorbellSqTail (fn q tail : Nat) (mem : List (Nat × Byte)) (s : State) : Host.Outcome State Fault Refusal :=
  .next <|
    let f := (s.queueOwner q).getD fn
    let s1 := mem.foldl (fun (s : State) e => s.hostWrite f e.1 [e.2]) s
    s1.doorbell fn q (s1.sqLast q) tail fun c => { c with sqTail := cset 0 c.sqTail q tail }

/-- A completion queue has no free slot (R359). -/
def State.cqFull (s : State) (q : Nat) : Bool := (s.cqTail q + 1) % (s.cqLast q + 1) == cget 0 s.cmd.cqHead q

/-- DOORBELL_CQ_HEAD (R357): held completions may go on. -/
def execDoorbellCqHead (fn q head : Nat) (s : State) : Host.Outcome State Fault Refusal :=
  .next <|
    let s1 := s.doorbell fn q (s.cqLast q) head fun c => { c with cqHead := cset 0 c.cqHead q head }
    if s1.cqFull q then s1 else s1.clrBit (Reg.QCF_STAT q) 3

/-! ## The opcode table (R376, R377) -/

/-- What AT by PN is to an opcode (R370). -/
inductive AtForm where
  | none | headland | start | required
deriving DecidableEq, Repr

/-- What PLOT must be (R377). -/
inductive PlotForm where
  | plot | device | either
deriving DecidableEq, Repr

/-- One row of the opcode table: code, AT form, PLOT form, PF0 only, bits named in DW6 to DW13. -/
structure OpRow where
  opc : Nat
  form : AtForm
  plot : PlotForm
  pf0 : Bool
  dws : List Nat
deriving DecidableEq, Repr

def w32 : Nat := 0xffffffff

def opRows0 : List OpRow := [
  ⟨0x00, .none, .device, false, []⟩,
  ⟨0x01, .none, .either, false, [0xffff, w32]⟩,
  ⟨0x02, .none, .device, false, [0xffff, 0xff00]⟩,
  ⟨0x10, .none, .plot, true, [0xffff003f]⟩,
  ⟨0x11, .none, .plot, false, []⟩,
  ⟨0x13, .none, .plot, true, [0x10f, w32, w32]⟩,
  ⟨0x14, .none, .plot, false, []⟩,
  ⟨0x20, .none, .plot, false, [0x3]⟩,
  ⟨0x21, .none, .plot, false, [w32, w32, w32, 0, 0, 0, 0, w32]⟩,
  ⟨0x22, .none, .plot, false, []⟩,
  ⟨0x23, .none, .plot, false, []⟩,
  ⟨0x24, .none, .plot, false, []⟩,
  ⟨0x30, .none, .plot, false, [w32, w32, w32, w32]⟩,
  ⟨0x31, .headland, .plot, false, [0x1]⟩,
  ⟨0x32, .none, .plot, false, [w32, 0, w32, w32]⟩,
  ⟨0x33, .headland, .either, false, [0x113]⟩,
  ⟨0x34, .none, .either, false, [0x1, 0, w32, w32]⟩,
  ⟨0x35, .none, .plot, false, [w32, w32, 0x1]⟩,
  ⟨0x40, .none, .plot, false, [0x7f01ff, 0x1f00ff]⟩,
  ⟨0x41, .headland, .plot, false, [0x7f01ff, 0x1f00ff, w32, w32]⟩,
  ⟨0x42, .headland, .plot, false, [0x7f01ff, 0x1f00ff, w32, w32]⟩,
  ⟨0x43, .headland, .plot, false, [0x7f01ff, 0x1f00ff]⟩]

def opRows1 : List OpRow := [
  ⟨0x44, .start, .plot, false, [0x3, 0x1ff, w32, w32, w32, w32, w32, w32]⟩,
  ⟨0x45, .headland, .plot, false, [0x3, 0x1ff, w32, w32, w32, w32, w32, w32]⟩,
  ⟨0x50, .required, .plot, false, []⟩,
  ⟨0x51, .none, .plot, false, [w32, w32, w32, w32, 0, 0, 0, w32]⟩,
  ⟨0x52, .none, .plot, false, [w32, w32, w32, w32, 0, 0, 0, w32]⟩,
  ⟨0x53, .required, .plot, false, []⟩,
  ⟨0x54, .none, .plot, false, [w32, w32, w32, w32, 0, 0, 0, w32]⟩,
  ⟨0x55, .none, .plot, false, [w32, w32, w32, w32, 0, 0, 0, w32]⟩,
  ⟨0x60, .none, .plot, false, [w32, w32, w32]⟩,
  ⟨0x61, .headland, .plot, false, [0x1]⟩,
  ⟨0x62, .headland, .plot, false, []⟩,
  ⟨0x63, .none, .plot, false, [w32, w32, w32, w32, 0, 0, 0, w32]⟩,
  ⟨0x70, .none, .device, true, [0xff]⟩,
  ⟨0x71, .none, .device, true, [0x11ffff, w32]⟩,
  ⟨0x72, .start, .plot, false, [0x3, 0x1fffff, w32, w32, w32, w32, w32, w32]⟩,
  ⟨0x80, .none, .device, true, [0x1f, w32, w32, w32, w32, w32]⟩,
  ⟨0x81, .none, .device, true, [0x1, w32, w32, w32]⟩,
  ⟨0x90, .none, .device, false, [0x3, w32, w32, w32, w32, 0, 0, w32]⟩,
  ⟨0x91, .none, .device, true, [0x3f, 0x3fffff]⟩,
  ⟨0x92, .none, .device, false, [w32, w32, w32]⟩,
  ⟨0xa0, .none, .device, true, [w32, w32, w32, 0x3]⟩,
  ⟨0xa1, .none, .device, true, [0xffff, w32, w32, w32]⟩,
  ⟨0xb0, .headland, .plot, false, [0x1f, w32, w32]⟩,
  ⟨0xc0, .none, .plot, false, [0xffff]⟩]

def opRows : List OpRow := opRows0 ++ opRows1

def opRow (opc : Nat) : Option OpRow := opRows.find? fun r => r.opc == opc

/-- Opcodes 0xF0 to 0xFF (R376). -/
def privateOp (opc : Nat) : Bool := decide (0xf0 ≤ opc)

/-! ## Fields of an entry (R361) -/

def Cmd.tag (c : Cmd) : Nat := nfld (c.dw 0) 0 16
def Cmd.flag (c : Cmd) (i : Nat) : Bool := (c.dw 0).testBit (16 + i)
def Cmd.major (c : Cmd) : Nat := nfld (c.dw 0) 22 2 + 1
def Cmd.minor (c : Cmd) : Nat := nfld (c.dw 0) 20 2
def Cmd.plotField (c : Cmd) : Nat := nfld (c.dw 1) 24 8
def Cmd.prio (c : Cmd) : Nat := nfld (c.dw 1) 21 3
def Cmd.waitKind (c : Cmd) (i : Nat) : Nat := nfld (c.dw (2 + i)) 30 2
def Cmd.waitTag (c : Cmd) (i : Nat) : Nat := nfld (c.dw (2 + i)) 0 16
/-- AT by FT: the instant in ns. -/
def Cmd.atFt (c : Cmd) : Option Nat := if 2 ^ 63 ≤ c.dw64 4 then some (c.dw64 4 - 2 ^ 63) else none
/-- FALLOW or WAKE of the whole device. -/
def Cmd.deep (c : Cmd) : Bool := (c.opc == 0x33 && (c.dw 6).testBit 8) || (c.opc == 0x34 && c.plotField == 255)

/-- Items of QUERY that name a plot (R382). -/
def plotItem (n : Nat) : Bool := [0x0004, 0x0010, 0x0011].contains n
def queryItems : List Nat := [0x0000, 0x0001, 0x0002, 0x0003, 0x0004, 0x0005, 0x0010, 0x0011]

/-- Namespace of a command's tags: its function, or the source and queue of a forwarded one (R366, R386). -/
def Cmd.space (c : Cmd) : Nat := match c.origin with
  | .queue _ _ => c.func
  | .forwarded src q => 64 + src * 4096 + q

def tagKey (space tag : Nat) : Nat := space * 65536 + tag
def State.tagOf (s : State) (space tag : Nat) : Nat := cget 0 s.cmd.tags (tagKey space tag)
def State.tagSet (s : State) (space tag v : Nat) : State :=
  { s with cmd := { s.cmd with tags := cset 0 s.cmd.tags (tagKey space tag) v } }

/-! ## Checks at fetch (R364) -/

/-- Check 3 (R384). -/
def State.versionOk (s : State) (c : Cmd) : Bool :=
  let a := Reg.CMD_FUNC_CFG c.func
  if s.bit a 23 then c.major == s.fld a 28 4 && decide (c.minor ≤ s.fld a 24 4)
  else c.opc ≤ 2 && c.major == 1 && c.minor == 0

/-- Check 5: reserved bits, and flags that the opcode does not define. -/
def Cmd.reservedOk (c : Cmd) (r : OpRow) : Bool :=
  (!(c.flag 0) || c.opc == 0x11 || c.opc == 0x14) && !(c.flag 3) && nfld (c.dw 1) 0 21 == 0 &&
    nfld (c.dw 2) 16 14 == 0 && nfld (c.dw 3) 16 14 == 0 && nfld (c.dw 14) 0 24 == 0 &&
    (natsFrom 0 8).all fun i => c.dw (6 + i) &&& (w32 - nth 0 r.dws i) == 0

/-- PF0 may issue this command on any plot (R377). -/
def Cmd.pf0Any (c : Cmd) : Bool :=
  [0x01, 0x40, 0x44, 0x13, 0x14, 0x11].contains c.opc || (c.opc == 0x33 && nfld (c.dw 6) 0 2 == 2)

/-- Check 6 (R377): none, or a status. -/
def State.plotCheck (s : State) (c : Cmd) (r : OpRow) : Option Nat :=
  let p := c.plotField
  let dev := p = 255
  let wantDev := match r.plot with
    | .plot => false
    | .device => true
    | .either => if c.opc = 0x01 then !(plotItem (nfld (c.dw 6) 0 16)) else c.deep
  let live := p < 16 ∧ (s.plot p).id.live = true
  if dev ≠ (wantDev = true) ∨ (¬ dev ∧ 16 ≤ p) then some Status.invalidParam
  else if ¬ dev ∧ ¬ live ∧ c.opc ≠ 0x10 then some Status.invalidParam
  else if ¬ dev ∧ c.opc ≠ 0x10 ∧ (s.plot p).id.owner ≠ c.func ∧ ¬ (c.func = 0 ∧ c.pf0Any = true) then some Status.notOwner
  else if c.func ≠ 0 ∧ (r.pf0 = true ∨ c.deep = true) then some Status.notOwner
  else none

/-- WAIT kinds and tags of check 7. -/
def Cmd.waitsOk (c : Cmd) : Bool :=
  (natsFrom 0 2).all fun i => c.waitKind i != 3 && (c.waitKind i != 0 || c.waitTag i == 0) &&
    (c.waitKind i == 0 || c.waitTag i != c.tag)

/-- AT form of check 7 (R370): `dev` when the command names no plot. -/
def Cmd.atOk (c : Cmd) (r : OpRow) (dev : Bool) : Bool :=
  match c.atPn, r.form with
  | some _, .none => false
  | some _, _ => !dev
  | none, .required => false
  | none, _ => true

/-- OFFSET and LENGTH of a MEM_READ or MEM_WRITE suit its SPACE (R95, R148). -/
def Cmd.memOk (c : Cmd) : Bool :=
  match nfld (c.dw 6) 0 2 with
  | 1 => decide (0 < c.dw 10 ∧ c.dw64 8 + c.dw 10 ≤ 8192)
  | 3 => false
  | _ => c.dw64 8 % 8 == 0 && c.dw 10 % 8 == 0 && decide (8 ≤ c.dw 10)

/-- First, length and bytes of one unit of a SCRUB_RANGE. -/
def Cmd.scrub (c : Cmd) : Nat × Nat × Nat := (c.dw64 7, c.dw64 9, match nfld (c.dw 6) 0 2 with
  | 0 => 1
  | 1 => mib2
  | _ => 8)

/-- The span of a SCRUB_RANGE is aligned and in range (R467). -/
def Cmd.scrubOk (c : Cmd) : Bool :=
  let (first, n, _) := c.scrub
  match nfld (c.dw 6) 0 2 with
  | 0 => first % kib4 == 0 && n % kib4 == 0 && decide (first + n ≤ 48 * 2 ^ 30)
  | 1 => decide (first + n ≤ 512)
  | 2 => decide (first + n ≤ 2097152)
  | _ => false

/-- SLOT, KEK slot and bytes of a KEY_PROVISION (R381). -/
def Cmd.keyOk (c : Cmd) : Bool :=
  let kek := nfld (c.dw 6) 8 8
  [0, 1, 2, 3, 4, 5, 6, 7, 0x10, 0x11].contains (nfld (c.dw 6) 0 8) &&
    ((kek == 255 && c.dw 9 == 32) || (decide (kek < 8) && c.dw 9 == 40))

/-- Check 8: ranges that the rules state for a command's own parameters (R376, R379, R381, R382, R394, R413, R434, R467). -/
def Cmd.paramsOk (c : Cmd) : Bool :=
  match c.opc with
  | 0x01 => queryItems.contains (nfld (c.dw 6) 0 16) && c.dw 7 == 0 && (nfld (c.dw 6) 0 16 < 0x10 || 1 ≤ c.minor)
  | 0x10 => nfld (c.dw 6) 16 16 != 0
  | 0x13 => c.grantOk
  | 0x32 => decide (1 ≤ c.dw 6)
  | 0x33 => c.deep || nfld (c.dw 6) 0 2 != 3
  | 0x40 => decide (c.slots.2.2.1 + c.slots.2.2.2 ≤ 256)
  | 0x41 => decide (c.slots.2.2.1 + c.slots.2.2.2 ≤ 256)
  | 0x42 => decide (c.slots.2.2.1 + c.slots.2.2.2 ≤ 256)
  | 0x43 => decide (c.slots.2.2.1 + c.slots.2.2.2 ≤ 256)
  | 0x44 => c.memOk
  | 0x45 => c.memOk
  | 0x54 => decide (1 ≤ c.dw 7)
  | 0x55 => decide (1 ≤ c.dw 7)
  | 0x60 => c.dw 8 % 8 == 0 && decide (c.dw 8 ≤ 4096)
  | 0x71 => decide (1 ≤ c.dw 7 ∧ nfld (c.dw 6) 4 4 ≤ 8)
  | 0x72 => c.dw 8 != 0 || (c.dw 6).testBit 1
  | 0x90 => c.scrubOk
  | 0xa1 => c.keyOk
  | _ => true

/-- Checks 6 to 8 against a row. `fwd` marks a forwarded command, whose plot and rights R386 gives. -/
def State.lateChecks (s : State) (c : Cmd) (r : OpRow) (fwd : Bool) : Option (Nat × Bool) :=
  match (if fwd then none else s.plotCheck c r) with
  | some st => some (st, false)
  | none =>
    if s.tagOf c.space c.tag = 1 then some (Status.invalidParam, true)
    else if c.waitsOk = false ∨ c.atOk r (!fwd && c.plotField == 255) = false ∨ c.paramsOk = false then
      some (Status.invalidParam, false)
    else none

/-- The row of an opcode in a lifecycle state (R364 check 4, R376): 0xF0 to 0xFF are accepted outside FIELD. Of their entries no
more is known than what every entry holds: their parameters are free, and an AT by PN waits as the general rule says (log 13). -/
def State.entryRow (s : State) (opc : Nat) : Option OpRow :=
  if privateOp opc then
    (if s.boot.lifecycle = 2 then none else some ⟨opc, .headland, .plot, false, List.replicate 8 w32⟩)
  else opRow opc

/-- Checks 3 to 8 (R364): none, or a status and whether the tag was PENDING. A forwarding queue stops after check 5 and
the WAIT kinds (R385). -/
def State.checks (s : State) (c : Cmd) (forward : Bool) : Option (Nat × Bool) :=
  if s.versionOk c = false then some (Status.versionUnsupported, false)
  else match s.entryRow c.opc with
    | none => some (Status.invalidOpcode, false)
    | some r =>
      if c.reservedOk r = false then some (Status.invalidParam, false)
      else if forward then
        (if c.waitKind 0 = 0 ∧ c.waitKind 1 = 0 then none else some (Status.invalidParam, false))
      else s.lateChecks c r false

/-! ## The matching store (R366-R370) -/

/-- Keep CMD_MS_STAT and QCF_INFLIGHT in step with the store (R369, R388, R389). -/
def State.storeRegs (s : State) (o : Origin) : State :=
  let s1 := s.put Reg.CMD_MS_STAT 0 17 s.cmd.store.length
  match o with
  | .queue q _ => s1.put (Reg.QCF_INFLIGHT q) 0 17 (s.cmd.store.filter fun c => match c.origin with
      | .queue p _ => p == q
      | .forwarded _ _ => false).length
  | .forwarded _ _ => s1

/-- Two commands came from the same submission queue. -/
def sameQueue (a b : Origin) : Bool := match a, b with
  | .queue p _, .queue q _ => p == q
  | .forwarded m p, .forwarded n q => m == n && p == q
  | _, _ => false

/-- FENCE is met (R368). -/
def State.fenceOk (s : State) (c : Cmd) : Bool :=
  !(c.flag 2) || s.cmd.store.all fun d => !(decide (d.id < c.id) && sameQueue d.origin c.origin)

/-- A WAIT token: met, failed, or still waiting (R367); one that was met stays met. -/
def State.token (s : State) (c : Cmd) (i : Nat) : Option Bool :=
  let t := s.tagOf c.space (c.waitTag i)
  match (if c.met.testBit i then 0 else c.waitKind i) with
  | 0 => some true
  | 1 => if 2 ≤ t then some true else none
  | _ => if t = 2 then some true else if t = 3 then some false else none

/-- Commands with a key become ready (R371). -/
def State.readyId (s : State) (id : Nat) : State := s.makeReady fun c => c.id == id

/-- A command leaves the store for a delay list or a ready list (R367, R370). -/
def State.release (s : State) (c : Cmd) : State :=
  match c.atFt, c.atPn with
  | some t, _ => if t ≤ s.ftNs then s.readyId c.id else s.onCmd c.id fun c => { c with stage := .ftDelay }
  | none, some _ => if s.pnReady c then s.readyId c.id else s.onCmd c.id fun c => { c with stage := .pnDelay }
  | none, none => s.readyId c.id

/-- The tokens that a command has met are kept (R367). -/
def State.keepMet (s : State) (id : Nat) (a b : Option Bool) : State :=
  s.onCmd id fun c => { c with met := c.met ||| (b2n (a == some true) + 2 * b2n (b == some true)) }

/-- What the tokens and the fence decide for one command. -/
def State.advance (s : State) (id : Nat) : State :=
  match s.cmdOf id with
  | none => s
  | some c =>
    if c.stage ≠ CmdStage.store then s
    else match s.token c 0, s.token c 1 with
      | some false, _ => s.finish id Status.depFailed 0
      | _, some false => s.finish id Status.depFailed 0
      | some true, some true => if s.fenceOk c then s.release c else s.keepMet id (some true) (some true)
      | a, b => s.keepMet id a b

/-- What the tokens and fences decide for every command that waits in the store. -/
def State.advanceAll (s : State) : State := (s.cmd.store.map (·.id)).foldl State.advance s

/-- An entry is held, with the outcome of its checks. -/
def State.storeCmd (s : State) (c : Cmd) : State :=
  let cmd := { s.cmd with store := s.cmd.store ++ [c], nextId := s.cmd.nextId + 1 }
  { s with cmd := cmd }.storeRegs c.origin

/-- A checked entry enters the store: a failed one completes at once, and its tag becomes DONE_FAIL unless check 1 failed
or it was PENDING (R364, R366). -/
def State.enter (s : State) (c : Cmd) (bad : Option (Nat × Bool)) : State :=
  match bad with
  | some (st, keep) =>
    ((if keep then s else s.tagSet c.space c.tag 3).storeCmd { c.endAs s.cmd.doneSeq st 0 with noTag := true }).nextDone
  | none => (s.tagSet c.space c.tag 1).storeCmd c

/-- FWD_EN: the command goes to its device in a PTYPE 0x6 packet (R385). -/
def State.forwardCmd (s : State) (c : Cmd) (q : Nat) : State :=
  let (seq, s1) := s.nextSeq
  let ra := Reg.QCF_FWD_ROUTE q
  let k : Pkt := { ptype := 6, flood := false, nhop := s.fld (Reg.QCF_FWD q) 26 5, hidx := 1,
                   ptag := s.fld (Reg.QCF_FWD_CFG q) 16 16, seq := seq, src := s.devId, dst := s.fld (Reg.QCF_FWD q) 0 18,
                   route := s.rn (ra 0) + 2 ^ 32 * s.rn (ra 1) + 2 ^ 64 * s.rn (ra 2),
                   body := BitVec.ofNat 32 (1 + q * 65536) :: c.words.take 14 }
  (s1.ctrlQueue (k.hop 0) 6 k.words).count (Reg.CMD_CNT 3)

/-! ## Fetch (R356, R358, R369, R372) -/

/-- Matching-store entries that a function holds. -/
def State.heldBy (s : State) (fn : Nat) : Nat := (s.cmd.store.filter fun c => c.func == fn && (match c.origin with
  | .queue _ _ => true
  | .forwarded _ _ => false)).length

/-- The queue pair has entries and its function is below its quota. -/
def State.fetchable (s : State) (q : Nat) : Bool :=
  s.queueEn q && !(s.bit (Reg.QCF_STAT q) 6) && s.sqHead q != cget 0 s.cmd.sqTail q &&
    match s.queueOwner q with
    | some f => decide (s.heldBy f < s.fld (Reg.CMD_FUNC_CFG f) 0 17) && !(s.hostDown f)
    | none => false

/-- The queue pair has fetched fewer entries in this round than its WEIGHT. -/
def State.hasCredit (s : State) (q : Nat) : Bool :=
  decide (cget 0 s.cmd.credit q < max 1 (s.fld (Reg.QCF_CTRL q) 16 8))

/-- The round allows q an entry: it has credit, or a new round begins. -/
def State.roundTurn (s : State) (q : Nat) : Option State :=
  let used := fun (s : State) => { s with cmd := { s.cmd with credit := cset 0 s.cmd.credit q (cget 0 s.cmd.credit q + 1) } }
  if s.hasCredit q then some (used s)
  else if (natsFrom 0 4096).any fun p => s.fetchable p && s.hasCredit p then none
  else some (used { s with cmd := { s.cmd with credit := [] } })

/-- ALIVE (R365): none when the entry passes. -/
def State.aliveCheck (s : State) (q a : Nat) : Option Nat × State :=
  let e := s.fld (Reg.QCF_ALIVE q) 0 8
  let next := s.put (Reg.QCF_ALIVE q) 0 8 ((a + 1) % 256)
  if a = e then (none, next)
  else if (a + 1) % 256 = e then (some Status.aliveRepeat, s)
  else (some Status.aliveSkip, next)

/-- A fetched entry is checked and enters the store (R364). -/
def State.takeEntry (s : State) (fn q slot : Nat) (ws : List Word) : State :=
  let c : Cmd := { id := s.cmd.nextId, func := fn, origin := .queue q slot, words := ws, stage := .store,
                   plot := nfld (wordAt ws 1) 24 8, status := 0, result := 0, pos := 0, total := 0, told := 0, mark := 0,
                   noTag := false }
  if crc32c (wordsBytes (ws.take 15)) ≠ wordAt ws 15 then (s.count (Reg.CMD_CNT 1)).enter c (some (Status.badCrc, true))
  else match s.aliveCheck q (c.dw 14 / 2 ^ 24) with
    | (some st, s1) => (s1.count (Reg.CMD_CNT 2)).enter c (some (st, false))
    | (none, s1) =>
      let bad := s1.checks c (s1.forwards q)
      if s1.forwards q = true ∧ bad.isNone = true then
        (s1.forwardCmd c q).enter { c with stage := .away, mark := s1.ftNs } none
      else s1.enter c bad

/-- ENTRY_FETCH (R364, R369, R372). -/
def State.fetchEntry (s : State) (q : Nat) : State :=
  match s.queueOwner q with
  | none => s
  | some fn =>
    if s.running = false ∨ s.cmd.fetchStop = true ∨ s.fetchable q = false then s
    else if 65536 ≤ s.cmd.store.length then s.raiseAt Blk.cmd Reg.CMD_STAT 2 q none 0
    else match s.roundTurn q with
      | none => s
      | some s1 =>
        let slot := s.sqHead q
        let addr := s.sqBase q + 64 * slot
        match s1.translate fn ringReq (addr / kib4) with
        | (false, s2) => s2.queueFault fn q (addr / kib4)
        | (true, s2) =>
          let s3 := (s2.count (Reg.CMD_CNT 0)).put (Reg.QCF_STAT q) 20 12 ((slot + 1) % (s.sqLast q + 1))
          (s3.takeEntry fn q slot (leWords 16 (s.hostRead fn addr 64))).advanceAll

/-- A fetch of a queue pair meets the injections armed for it (R471). -/
def State.cmdInject (s : State) (q : Nat) : State :=
  s.injectAt Reg.CMD_FI_CTRL (fun a => a % 4096 == q) (fun _ s => s) fun cause _ s =>
    s.raiseAt Blk.cmd Reg.CMD_STAT cause q none 0

def execEntryFetch (q : Nat) (s : State) : Host.Outcome State Fault Refusal :=
  .next (if q < 4096 then (if s.inject = [] then s else s.cmdInject q).fetchEntry q else s)

/-- The next tick of the FT delay list: the instants at which FT ns reaches a whole multiple of 1,000, each once (R275). -/
def State.nextTick (s : State) : Nat :=
  if s.ftNs % 1000 = 0 ∧ s.cmd.tick ≠ s.ftNs then s.ftNs else (s.ftNs / 1000 + 1) * 1000

/-- FT_DELAY_TICK (R370): the next multiple of 1 µs of FT. -/
def execFtDelayTick (s : State) : Host.Outcome State Fault Refusal :=
  .next <|
    let s1 := s.waitUntil s.nextTick
    let s2 := { s1 with cmd := { s1.cmd with tick := s1.ftNs } }
    s2.makeReady fun c => c.stage == .ftDelay && match c.atFt with
      | some t => decide (t ≤ s1.ftNs)
      | none => false

/-! ## Dispatch (R371, R387, R478, R480) -/

/-- A ready command may be taken now. -/
def State.takable (s : State) (c : Cmd) : Bool := c.stage == .ready && s.unitRuns c

/-- PRIO, limited by PRIO_MAX (R371). -/
def State.prioOf (s : State) (c : Cmd) : Nat := min c.prio (s.fld (Reg.CMD_FUNC_CFG c.func) 20 3)

/-- The oldest ready command of the highest list, among those that satisfy a test. -/
def State.nextReady (s : State) (pick : Cmd → Bool) : Option Cmd :=
  let cs := s.cmd.store.filter fun c => s.takable c && pick c
  (natsFrom 0 8).reverse.findSome? fun k => cs.find? fun c => s.prioOf c == k

/-- Commands that a unit executes. -/
def State.executing (s : State) (fast : Bool) : Nat :=
  (s.cmd.store.filter fun c => c.stage == .executing && fastOp c.opc == fast).length

/-- Status codes of a command that has been executed (R383). -/
def endCodes : List Nat :=
  [Status.ok, Status.invalidParam, Status.notOwner, Status.noResource, Status.busy, Status.imageAuthFail, Status.imageCheckFail,
    Status.internal]

/-- An opcode from 0xF0 on outside FIELD: the spec gives the command no effect and no answer, and its status and result are
free values (R376, R492, log 13). -/
def State.privateEnd (s : State) (c : Cmd) : State :=
  let code := s.takeFree 3
  let value := code.2.takeFree 64
  value.2.finish c.id (nth Status.ok endCodes code.1) value.1

/-- A unit takes a command; a plot whose destroy fill is in progress answers BUSY (R397). -/
def State.takeUp (s : State) (c : Cmd) : State :=
  if c.plot < 16 ∧ (s.plot c.plot).id.zeroing = true then s.finish c.id Status.busy 0
  else if privateOp c.opc then s.privateEnd c
  else s.onCmd c.id fun c => { c with stage := .executing }

/-- COMMAND_DISPATCH (R371): a free unit takes a command; the fast path before the management cores. -/
def execCommandDispatch (s : State) : Host.Outcome State Fault Refusal :=
  .next <|
    let fast := if s.executing true = 0 then s.nextReady (fun c => fastOp c.opc) else none
    let core := if s.executing false < 4 then s.nextReady (fun c => !(fastOp c.opc)) else none
    match fast, core with
    | some c, _ => s.takeUp c
    | none, some c => s.takeUp c
    | none, none => s

/-! ## Completions (R359, R360, R362, R373, R386) -/

/-- PROG_PCT (R374). -/
def pctOf (pos total : Nat) : Nat := if total = 0 then 0 else min 10000 (10000 * pos / total)

/-- PROG_PCT and PROG_POS of a command as its completion carries them. A forwarded one's were reported by the other
device: its PROG_PCT is kept in `total`. -/
def State.progress (s : State) (c : Cmd) : Nat × Nat :=
  let away := match c.origin with
    | .queue q _ => s.forwards q
    | .forwarded _ _ => false
  if c.stage = CmdStage.finished ∧ c.status = 0 then (10000, if away then c.pos else c.total)
  else if away then (c.total, c.pos) else (pctOf c.pos c.total, c.pos)

/-- DW0 to DW6 of a completion (R362). -/
def State.completion (s : State) (c : Cmd) (phase : Bool) (slot : Nat) : List Word :=
  let (pct, pos) := s.progress c
  let final := c.stage = CmdStage.finished
  let status := if final then c.status else 0
  let result := if final then c.result else 0
  [c.tag * 65536 + status * 256 + b2n phase, pct * 65536 + slot % 4096, pos, pos / 2 ^ 32, result, result / 2 ^ 32,
    s.ftNs].map (BitVec.ofNat 32)

/-- One completion more has been written (R360). -/
def State.coalesced (s : State) (q : Nat) : State :=
  let n := cget 0 s.cmd.coalesce q
  let cmd := { s.cmd with coalesce := cset 0 s.cmd.coalesce q (n + 1),
                          coalFt := if n = 0 then cset 0 s.cmd.coalFt q s.ftNs else s.cmd.coalFt }
  { s with cmd := cmd }.signalDue q

/-- Write a completion at the CQ tail: false when it is held (R356, R359). -/
def State.cqWrite (s : State) (c : Cmd) (q slot : Nat) : Bool × State :=
  let fn := c.func
  let tail := s.cqTail q
  let addr := s.cqBase q + 32 * tail
  if s.bit (Reg.QCF_STAT q) 6 ∨ s.hostDown fn = true then (false, s)
  else if s.cqFull q then (false, s.setBit (Reg.QCF_STAT q) 3)
  else match s.translate fn ringReq (addr / kib4) with
    | (false, s1) => (false, s1.queueFault fn q (addr / kib4))
    | (true, s1) =>
      let phase := s.bit (Reg.QCF_STAT q) 7
      let ws := s.completion c phase slot
      let bytes := wordsBytes (ws ++ [BitVec.ofNat 32 (crc32c (wordsBytes ws))])
      let next := (tail + 1) % (s.cqLast q + 1)
      let s2 := ((s1.hostWrite fn addr bytes).put (Reg.QCF_STAT q) 8 12 next).putBit (Reg.QCF_STAT q) 7
        (if next = 0 then !phase else phase)
      (true, s2.coalesced q)

/-- A completion leaves for its ring, or for the device that forwarded the command (R386). -/
def State.sendCompletion (s : State) (c : Cmd) : Bool × State :=
  match c.origin with
  | .queue q slot => s.cqWrite c q slot
  | .forwarded src q =>
    (true, s.flood c.plot 6 ([2 + q * 65536] ++ (s.completion c false 0).map BitVec.toNat ++ [src]))

/-- Opcodes that a device executes for another one. -/
def forwardOps : List Nat :=
  [0x00, 0x01, 0x30, 0x32, 0x31, 0x35, 0x40, 0x41, 0x42, 0x43, 0x50, 0x53, 0x61, 0x62, 0xc0]

/-- A command packet enters the store (R386): executed with PF0's rights on the plot of its PTAG, or refused with NOT_OWNER. -/
def State.takeForwarded (s : State) (ws : List Word) : State :=
  match s.plotByTag (pktTag ws) with
  | none => s
  | some p =>
    let q := nfld (wordAt ws 8) 16 12
    let c : Cmd := { id := s.cmd.nextId, func := 0, origin := .forwarded (pktSrc ws) q,
                     words := (ws.drop 9).take 14 ++ [0, 0], stage := .store, plot := p, status := 0, result := 0,
                     pos := 0, total := 0, told := 0, mark := 0, noTag := false }
    let bad := if s.bit Reg.CMD_CFG 31 = false ∨ forwardOps.contains c.opc = false then some (Status.notOwner, true)
      else match opRow c.opc with
        | some r => s.lateChecks c r true
        | none => some (Status.notOwner, true)
    (s.enter c bad).advanceAll

/-- A command packet that found the store full is taken when an entry of it is free: no command is dropped (R369). -/
def State.takeWaiting (s : State) : State :=
  match s.cmd.waiting with
  | [] => s
  | ws :: rest =>
    if s.cmd.store.length < 65536 then { s with cmd := { s.cmd with waiting := rest } }.takeForwarded ws else s

/-- A final completion ends the command: its tag, its COMMAND record, its matching-store entry (R366, R368, R369, R429). -/
def State.retire (s : State) (c : Cmd) : State :=
  let q := match c.origin with
    | .queue q _ => q
    | .forwarded _ q => q
  let s1 := if c.noTag then s else s.tagSet c.space c.tag (if c.status = 0 then 2 else 3)
  let plot := if c.plot < 16 ∧ (s.plot c.plot).id.live = true then some c.plot else none
  let s2 := s1.record 0x0e 1 plot (s.plot c.plot).tm.pn [c.opc + c.status * 256 + c.func * 65536, c.tag + q * 65536]
  let on := decide (c.opc = 0xa0) && s2.boot.staged.isNone
  let s3 := { s2 with cmd := { s2.cmd with store := s2.cmd.store.filter (fun d => d.id != c.id),
                                           fetchStop := s2.cmd.fetchStop && !on } }
  (s3.storeRegs c.origin).advanceAll.fwRestart.takeWaiting

/-- A command has finished: one that waited for its event has a management core for its end (R371). -/
def State.hasEnded (s : State) (c : Cmd) : Bool := c.stage == .finished && (!c.woken || decide (s.executing false < 4))

/-- It is the first to finish of those of its completion queue whose completion is still to be written (R359). -/
def State.endsFirst (s : State) (c : Cmd) : Bool :=
  s.hasEnded c && s.cmd.store.all fun d => !(s.hasEnded d && sameQueue d.origin c.origin && decide (d.done < c.done))

/-- COMPLETION_WRITE (R359): the final completion of a finished command, or an intermediate one that is due (R373). -/
def State.complete (s : State) (c : Cmd) : State :=
  if c.stage = CmdStage.finished then
    if s.endsFirst c then
      match s.sendCompletion c with
      | (true, s1) => s1.retire c
      | (false, s1) => s1
    else s
  else
    let pct := (s.progress c).1
    let due := c.flag 1 && decide (c.told / 1000 < pct / 1000 ∧ pct < 10000) &&
      (c.stage == .executing || c.stage == .blocked || c.stage == .away)
    if due then match s.sendCompletion c with
      | (true, s1) => s1.onCmd c.id fun c => { c with told := pct }
      | (false, s1) => s1
    else s

def execCompletionWrite (id : Nat) (s : State) : Host.Outcome State Fault Refusal :=
  .next <| match s.cmdOf id with
  | some c => s.complete c
  | none => s

/-- INTERRUPT_COALESCE_TIMEOUT (R360): ITIME µs of FT after the first completion not yet signalled. -/
def execInterruptCoalesceTimeout (q : Nat) (s : State) : Host.Outcome State Fault Refusal :=
  .next <|
    let itime := s.fld (Reg.QCF_INT q) 0 16
    match s.queueOwner q with
    | some fn =>
      if s.bit (Reg.QCF_CTRL q) 30 = true ∧ itime ≠ 0 ∧ cget 0 s.cmd.coalesce q ≠ 0 then
        (s.waitUntil (cget 0 s.cmd.coalFt q + 1000 * itime)).signal fn q
      else s
    | none => s

/-- A vector is unmasked (R460): a pending message is sent. -/
def State.unmaskVec (s : State) (fn vec : Nat) : State :=
  if 64 ≤ fn ∨ vectors fn ≤ vec then s
  else
    let k := fn * 2048 + vec
    let pend := cget false s.host.msixPend k
    let s1 := { s with host := { s.host with unmasked := cset false s.host.unmasked k true,
                                             msixPend := cdel s.host.msixPend k } }
    if pend then s1.msix fn vec else s1

/-- MSIX_UNMASK (R460). -/
def execMsixUnmask (fn vec : Nat) (s : State) : Host.Outcome State Fault Refusal := .next (s.unmaskVec fn vec)

/-! ## Forwarded commands (R386) -/

/-- A command packet arrives (R369, R386). -/
def State.forwardedCommand (s : State) (ws : List Word) : State :=
  match s.plotByTag (pktTag ws) with
  | none => s
  | some _ =>
    if nfld (wordAt ws 8) 0 8 ≠ 1 then s
    else if 65536 ≤ s.cmd.store.length then
      { s with cmd := { s.cmd with waiting := s.cmd.waiting ++ [ws] } }.raiseAt Blk.cmd Reg.CMD_STAT 2
        (nfld (wordAt ws 8) 16 12) none 0
    else s.takeForwarded ws

/-- FORWARDED_COMMAND (R386). -/
def execForwardedCommand (_port : Nat) (words : List Word) (s : State) : Host.Outcome State Fault Refusal :=
  .next (s.forwardedCommand words)

/-- A completion packet for this device: the command it names takes the reported outcome or progress; any other goes on
(R386). -/
def State.forwardedCompletion (s : State) (ws : List Word) : State :=
  if nfld (wordAt ws 8) 0 8 ≠ 2 ∨ nfld (wordAt ws 16) 0 18 ≠ s.devId then s
  else
    let q := nfld (wordAt ws 8) 16 12
    let tag := wordAt ws 9 / 65536
    let status := nfld (wordAt ws 9) 8 8
    let pct := wordAt ws 10 / 65536
    let mine := fun (c : Cmd) => c.stage == .away && c.tag == tag && match c.origin with
      | .queue k _ => k == q
      | .forwarded _ _ => false
    match s.cmd.store.find? mine with
    | none => s
    | some c =>
      let upd := fun (c : Cmd) => { c with pos := word64 ws 11, total := pct }
      let s1 := s.onCmd c.id upd
      if status ≠ 0 ∨ pct = 10000 then
        s1.finish c.id status (word64 ws 13)
      else s1

/-- FORWARDED_COMPLETION (R386), which arrives flooded and goes on by R180. -/
def execForwardedCompletion (port : Nat) (words : List Word) (s : State) : Host.Outcome State Fault Refusal :=
  .next ((s.forwardedCompletion words).forwardFlood port words)

/-- FORWARD_TIMEOUT (R386): no final completion within FWD_TMO ms. -/
def execForwardTimeout (id : Nat) (s : State) : Host.Outcome State Fault Refusal :=
  .next <| match s.cmdOf id with
  | some c =>
    match c.stage, c.origin with
    | .away, .queue q _ =>
      let tmo := s.fld (Reg.QCF_FWD_CFG q) 0 16
      if tmo = 0 then s
      else ((s.waitUntil (c.mark + 1000000 * tmo)).finish id Status.linkDown 1).raiseAt Blk.cmd Reg.CMD_STAT 3 q none 0
    | _, _ => s
  | none => s

/-! ## NOP, QUERY, NEGOTIATE, PROGRESS (R376, R382, R384) -/

def execNop (id : Nat) (s : State) : Host.Outcome State Fault Refusal :=
  .next (s.onTaken 0x00 id fun c => s.finish c.id Status.ok 0)

/-- The value of a QUERY item (R382). -/
def State.queryValue (s : State) (c : Cmd) : Option Nat :=
  let p := c.plot
  match nfld (c.dw 6) 0 16 with
  | 0x0000 => some 0x0101
  | 0x0001 => some (s.rn Reg.SOW_FW_VER)
  | 0x0002 => some (s.fld (Reg.CMD_FUNC_Q c.func) 0 12 + s.fld (Reg.CMD_FUNC_Q c.func) 16 13 * 65536 + c.func * 2 ^ 32)
  | 0x0003 => some (s.heldBy c.func + s.fld (Reg.CMD_FUNC_CFG c.func) 0 17 * 2 ^ 32)
  | 0x0004 => some (s.sow p * 2 ^ 28 + s.cmtState p * 2 ^ 24 + (s.plot p).tm.pn % 2 ^ 32 * 2 ^ 32)
  | 0x0005 => some s.ftNs
  | 0x0010 => some (s.rn (Reg.PLT_PASS_CFG p) + s.hlCfg p * 2 ^ 32)
  | 0x0011 => some (s.plot p).tm.cpn
  | _ => none

/-- QUERY (R382). -/
def State.queryOp (s : State) (c : Cmd) : State :=
  match s.queryValue c with
  | some v => if c.paramsOk then s.finish c.id Status.ok v else s.finish c.id Status.invalidParam 0
  | none => s.finish c.id Status.invalidParam 0

def execQuery (id : Nat) (s : State) : Host.Outcome State Fault Refusal := .next (s.onTaken 0x01 id s.queryOp)

/-- NEGOTIATE (R384): this firmware supports 1.0 and 1.1. -/
def State.negotiateOp (s : State) (c : Cmd) : State :=
  let a := Reg.CMD_FUNC_CFG c.func
  let high := nfld (c.dw 6) 8 8
  let low := nfld (c.dw 7) 8 8
  let minor := if high = 1 then min 1 (nfld (c.dw 6) 0 8) else 1
  if s.bit a 23 = true ∧ s.heldBy c.func ≠ 1 then s.finish c.id Status.busy 0
  else if low ≤ 1 ∧ 1 ≤ high then
    (((s.put a 28 4 1).put a 24 4 minor).setBit a 23).finish c.id Status.ok (0x01010100 + minor)
  else s.finish c.id Status.versionUnsupported 0

def execNegotiate (id : Nat) (s : State) : Host.Outcome State Fault Refusal := .next (s.onTaken 0x02 id s.negotiateOp)

/-- Stage codes of PROGRESS. -/
def stageCode : CmdStage → Nat
  | .store => 0
  | .ftDelay => 1
  | .pnDelay => 1
  | .ready => 2
  | .executing => 3
  | .blocked => 3
  | .finished => 3
  | .away => 3

/-- PROGRESS (R376). -/
def State.progressOp (s : State) (c : Cmd) : State :=
  let want := nfld (c.dw 6) 0 16
  match s.cmd.store.find? fun d => d.space == c.space && d.tag == want && !d.noTag with
  | none => s.finish c.id Status.invalidParam 0
  | some d =>
    let (pct, pos) := s.progress d
    s.finishAt c.id Status.ok (pct * 65536 + stageCode d.stage) pos pos

def execProgress (id : Nat) (s : State) : Host.Outcome State Fault Refusal := .next (s.onTaken 0xc0 id s.progressOp)

end Sys2Proof.Machine
end

