-- ==== Sys2Proof/Machine/Drain.lean ====
section
/-! DEFINITION. The commands of Harvest: TRACE_CONFIG, TRACE_ARM, TRACE_STOP, TRACE_DRAIN and FAULT_DRAIN
(15_harvest.md R434-R437, R445, R448). -/

namespace Sys2Proof.Machine
open Sys2Proof

/-! ## TRACE_CONFIG (R434) -/

/-- The items of a configuration block: BAR0 offset and value. -/
def cfgItems : Nat → List Byte → List (Nat × Nat)
  | 0, _ => []
  | n + 1, bs => (leAt bs 0 4, leAt bs 4 4) :: cfgItems n (bs.drop 8)

/-- The RW bits of the register at an offset. -/
def rwMaskAt (a : Nat) : Nat := match regAt a with
  | some (r, _) => fieldsMask (fun f => f.acc == .rw) r.fields
  | none => 0

/-- Trigger unit whose registers hold an offset. -/
def tuOf (a : Nat) : Option Nat := if 0x62000 ≤ a ∧ a < 0x62800 then some ((a - 0x62000) / 0x40) else none

/-- An item names RW fields of the plot's HVT registers or of a trigger unit. -/
def cfgItemOk (p : Nat) (e : Nat × Nat) : Bool :=
  (decide (Reg.HVT_CFG p ≤ e.1 ∧ e.1 < Reg.HVT_CFG p + 0x100) || (tuOf e.1).isSome) &&
    rwMaskAt e.1 != 0 && e.2 &&& (w32 - rwMaskAt e.1) == 0

/-- Units that an item names: its own, or those of a sequencer mask. -/
def cfgUnits (p : Nat) (e : Nat × Nat) : List Nat :=
  match tuOf e.1 with
  | some u => [u]
  | none =>
    if Reg.HVT_SEQST_MASK p 0 ≤ e.1 ∧ e.1 < Reg.HVT_SEQST_MASK p 8 ∧ (e.1 - Reg.HVT_SEQST_MASK p 0) % 8 = 0 then
      (natsFrom 0 32).filter fun u => e.2.testBit u
    else []

/-- Codes and sums of a trigger unit that R434 accepts. -/
def State.unitCfgOk (s : State) (u : Nat) : Bool :=
  s.fld (Reg.HVT_TU_CFG u) 29 3 != 7 && s.fld (Reg.HVT_TU_CFG u) 25 2 != 3 &&
    decide (s.fld (Reg.HVT_TU_CFG u) 15 5 + s.fld (Reg.HVT_TU_CFG u) 20 5 ≤ 31) &&
    decide (s.fld (Reg.HVT_TU_SRC u) 29 3 ≤ 2) && decide (s.fld (Reg.HVT_TU_SRC u) 19 5 ≤ 24)

/-- Map entries of the ring that HVT_RING names. -/
def State.ringEntries (s : State) (p : Nat) : List Nat :=
  natsFrom (s.fld (Reg.HVT_RING p) 0 15) (s.fld (Reg.HVT_RING p) 16 15)

/-- The ring's entries may serve (R434). -/
def State.ringOk (s : State) (p : Nat) : Bool :=
  (s.hvtBuf p == 0 || s.ringEntries p != []) && (s.ringEntries p).all fun i => match (s.plot p).res.map[i]? with
    | some e => !e.lifted && (e.use == 0 || e.use == 6) && (s.holder Res.pcs (e.page / 384)).isNone
    | none => false

/-- A configuration block against the state in which it is applied: none, or a status. -/
def State.cfgStatus (s : State) (p : Nat) (es : List (Nat × Nat)) : Option Nat :=
  let units := (es.filterMap fun e => tuOf e.1).dedup
  let ok := es.all (cfgItemOk p) && s.hvtBuf p != 3 && s.fld (Reg.HVT_CFG p) 26 2 != 3 && units.all s.unitCfgOk && s.ringOk p
  let mine := fun u => (s.plot p).res.tus.contains u
  let holdUnit := s.fld (Reg.HVT_CFG p) 23 2 != 3 || mine (s.fld (Reg.HVT_CFG p) 18 5)
  if ok = false then some Status.invalidParam
  else if (es.flatMap (cfgUnits p)).all mine = false ∨ holdUnit = false then some Status.notOwner
  else if s.hvtState p = 1 ∨ s.hvtState p = 2 then some Status.busy
  else none

/-- The ring's entries become USE trace and earlier ones free; the stream is empty and IDLE. -/
def State.ringStart (s : State) (p : Nat) : State :=
  let ring := s.ringEntries p
  let s1 := s.onRes p fun r =>
    { r with map := (r.map.zip (natsFrom 0 r.map.length)).map fun e =>
        if ring.contains e.2 then { e.1 with use := 6 } else if e.1.use = 6 then { e.1 with use := 0 } else e.1 }
  let s2 := s1.onHvt p fun h => { h with ring := {}, cnt := 0, reduce := [], prevWord := [], fireFt := 0, hold := 0,
                                          lost := 0, lostPn := 0 }
  (((s2.hvtStateSet p 0).put (Reg.HVT_STAT p) 25 3 0).clrBit (Reg.HVT_STAT p) 23).hvtMirror p |>.mapRegs p

/-- TRACE_CONFIG (R434): all of the block or nothing. -/
def State.traceConfigOp (s : State) (c : Cmd) : State :=
  let p := c.plot
  let n := c.dw 8
  if n % 8 ≠ 0 ∨ 4096 < n then s.finish c.id Status.invalidParam 0
  else match s.dma c.func (c.dw64 6) n kib4 0 with
    | (_, some g, s1) => s1.finish c.id Status.translationFault (g * kib4)
    | (_, none, s1) =>
      let es := cfgItems (n / 8) (s1.hostRead c.func (c.dw64 6) n)
      let s2 := es.foldl (fun (s : State) e => if cfgItemOk p e then s.rnSet e.1 e.2 else s) s1
      match s2.cfgStatus p es with
      | some st => s1.finish c.id st 0
      | none => (s2.ringStart p).finish c.id Status.ok 0

def execTraceConfig (id : Nat) (s : State) : Host.Outcome State Fault Refusal := .next (s.onTaken 0x60 id s.traceConfigOp)

/-! ## TRACE_ARM and TRACE_STOP (R445, R448) -/

/-- TRACE_ARM (R445). -/
def State.traceArmOp (s : State) (c : Cmd) : State :=
  let p := c.plot
  let flood := (c.dw 6).testBit 0
  let pn := c.atPn.getD 0
  if flood = true ∧ c.atPn = none then s.finish c.id Status.invalidParam 0
  else if s.hvtState p ≠ 0 ∨ (s.plot p).hvt.armAt.isSome = true then s.finish c.id Status.busy 0
  else match s.deadStatus p with
    | some st => s.finish c.id st 0
    | none =>
      if s.missed p c then s.finish c.id Status.deadlineMissed 0
      else
        let s1 := if flood then s.flood p 2 [1, pn, pn / 2 ^ 32, 0, 0, s.devId] else s
        (s1.blockCmd c.id).onHvt p fun h => { h with armAt := some (c.atPn, some c.id, 0) }

def execTraceArm (id : Nat) (s : State) : Host.Outcome State Fault Refusal := .next (s.onTaken 0x61 id s.traceArmOp)

/-- TRACE_STOP (R448); on a plot that stopped for good it acts at once (R543). -/
def State.traceStopOp (s0 : State) (c : Cmd) : State :=
  let p := c.plot
  let s := s0.drainFifo
  if s.hvtState p ≠ 1 ∧ s.hvtState p ≠ 2 then s.finish c.id Status.ok (s.firedPn p)
  else if (s.deadStatus p).isSome then (s.hvtStop p 2 (s.newest p) s.ftNs).finish c.id Status.ok (s.firedPn p)
  else if s.missed p c then s.finish c.id Status.deadlineMissed 0
  else if (s.plot p).hvt.stopAt.isSome then s.finish c.id Status.busy 0
  else (s.blockCmd c.id).onHvt p fun h => { h with stopAt := some (c.atPn, c.id) }

def execTraceStop (id : Nat) (s : State) : Host.Outcome State Fault Refusal := .next (s.onTaken 0x62 id s.traceStopOp)

/-! ## TRACE_DRAIN and FAULT_DRAIN (R435-R437) -/

/-- A LOSS record of cause 3, made up for a drain (R435, R437). -/
def lossWords (bytes seq : Nat) (epoch : Bool) (ft : Nat) : List Word :=
  Rec.words { rtype := 3, len := 1, plot := none, pn := 0, ft := ft, body := [BitVec.ofNat 32 bytes, 3] } seq epoch

/-- Bytes of a plot's ring from a position on; a lifted page reads 0. -/
def State.ringRead (s : State) (p pos n : Nat) : List Byte :=
  (natsFrom 0 (n / 8)).flatMap fun i => match s.ringByte p ((pos + 8 * i) % s.ringSize p) with
    | some a => s.hbmRead a 8
    | none => List.replicate 8 0

/-- Records that fit into a number of bytes: the position after them and their places. -/
def fitRecs (dptr : Nat) : Nat → List (Nat × Nat × Bool × Nat × Nat × Bool) → Nat × List (Nat × Nat)
  | _, [] => (dptr, [])
  | room, e :: es =>
    if e.2.1 ≤ room then
      let (d, l) := fitRecs (e.1 + e.2.1) (room - e.2.1) es
      (d, (e.1, e.2.1) :: l)
    else (dptr, [])

/-- The output of a drain into a buffer: the position reached, and the bytes. -/
def State.drainOut (s : State) (p room : Nat) : Nat × List Byte :=
  let r := (s.plot p).hvt.ring
  let loss := if r.lostBytes = 0 then [] else wordsBytes (lossWords r.lostBytes r.lostSeq r.lostEpoch s.ftNs)
  if room < loss.length then (r.dptr, [])
  else
    let (d, l) := fitRecs r.dptr (room - loss.length) (r.recs.filter fun e => decide (r.dptr ≤ e.1))
    (d, loss ++ l.flatMap fun e => s.ringRead p e.1 e.2)

/-- TRACE_DRAIN (R436): DPTR advances with OK. -/
def State.traceDrainOp (s0 : State) (c : Cmd) : State :=
  let p := c.plot
  let s := s0.drainFifo
  let room := c.dw64 8
  let (d, bs) := s.drainOut p room
  let n := bs.length
  let start := min n (c.dw 13 * kib4)
  let (reach, page, s1) := s.dma c.func (c.dw64 6) n kib4 (c.dw 13)
  let s2 := s1.hostWrite c.func (c.dw64 6 + start) ((bs.take reach).drop start)
  let s3 := if page.isNone ∧ 32 ≤ room then
      (s2.onHvt p fun h => { h with ring := { h.ring with dptr := d, lostBytes := 0 } }).hvtMirror p
    else s2
  s3.dmaEnd c.id reach n page (n - start)

def execTraceDrain (id : Nat) (s : State) : Host.Outcome State Fault Refusal := .next (s.onTakenHbm 0x63 id s.traceDrainOp)

/-- A function receives a record of the device event ring (R437). -/
def State.mayDrain (s : State) (fn : Nat) (e : Nat × Nat × Bool × Nat × Nat × Bool) : Bool :=
  fn == 0 || (e.2.2.1 && (s.plot e.2.2.2.1).id.live && (s.plot e.2.2.2.1).id.owner == fn)

/-- Records of the device ring for a function: the position reached with the SEQ and EPOCH that follow, and their places. -/
def State.devFit (s : State) (fn : Nat) :
    Nat × Nat → Nat → List (Nat × Nat × Bool × Nat × Nat × Bool) → (Nat × Nat) × List (Nat × Nat)
  | d, _, [] => (d, [])
  | d, room, e :: es =>
    let seq := (e.2.2.2.2.1 + 1) % 2 ^ 32
    let epoch := if seq = 0 then !e.2.2.2.2.2 else e.2.2.2.2.2
    let next := (e.1 + e.2.1, seq + b2n epoch * 2 ^ 32)
    if s.mayDrain fn e then
      if e.2.1 ≤ room then
        let (d1, l) := s.devFit fn next (room - e.2.1) es
        (d1, (e.1, e.2.1) :: l)
      else (d, [])
    else s.devFit fn next room es

/-- Bytes of the device event ring from a position on. -/
def State.devRead (s : State) (pos n : Nat) : List Byte :=
  wordsBytes (cgetList 0 s.hvt.evMem (pos % devRingSize / 4) (n / 4))

/-- The output of a drain of the device event ring by a function into a buffer: the position reached with the SEQ and EPOCH
that follow, and the bytes (R437). -/
def State.faultOut (s : State) (fn room : Nat) : (Nat × Nat) × List Byte :=
  let pos := cget 0 s.hvt.drain fn
  let seq := cget 0 s.hvt.drainSeq fn
  let low := match s.hvt.ring.recs with
    | e :: _ => e.1
    | [] => s.hvt.ring.total
  let loss := if low ≤ pos then [] else wordsBytes (lossWords (low - pos) (seq % 2 ^ 32) (decide (2 ^ 32 ≤ seq)) s.ftNs)
  let recs := s.hvt.ring.recs.filter fun e => decide (pos ≤ e.1)
  let d0 := match recs with
    | e :: _ => (e.1, e.2.2.2.2.1 + b2n e.2.2.2.2.2 * 2 ^ 32)
    | [] => (pos, seq)
  if room < loss.length then ((pos, seq), [])
  else
    let (d, l) := s.devFit fn d0 (room - loss.length) recs
    (d, loss ++ l.flatMap fun e => s.devRead e.1 e.2)

/-- The drain position of a function that is enabled now: the oldest record (R437). -/
def State.drainStart (s : State) (fn : Nat) : State :=
  let r := s.hvt.ring
  let d := match r.recs with
    | e :: _ => (e.1, e.2.2.2.2.1 + b2n e.2.2.2.2.2 * 2 ^ 32)
    | [] => (r.total, r.seq + b2n r.epoch * 2 ^ 32)
  { s with hvt := { s.hvt with drain := cset 0 s.hvt.drain fn d.1, drainSeq := cset 0 s.hvt.drainSeq fn d.2 } }

/-- FAULT_DRAIN (R437): the device event ring lies in HBM (R153). -/
def State.faultDrainOp (s0 : State) (c : Cmd) : State :=
  let s := s0.drainFifo
  let fn := c.func
  let (d, bs) := s.faultOut fn (c.dw 8)
  match s.dma fn (c.dw64 6) bs.length kib4 0 with
  | (_, some g, s1) => s1.finish c.id Status.translationFault (g * kib4)
  | (_, none, s1) =>
    let hvt := { s1.hvt with drain := cset 0 s1.hvt.drain fn d.1, drainSeq := cset 0 s1.hvt.drainSeq fn d.2 }
    ({ s1 with hvt := hvt }.hostWrite fn (c.dw64 6) bs).finish c.id Status.ok bs.length

def execFaultDrain (id : Nat) (s : State) : Host.Outcome State Fault Refusal := .next (s.onTakenHbm 0x92 id s.faultDrainOp)

end Sys2Proof.Machine
end

