-- ==== Sys2Proof/Machine/Gleaner.lean ====
section
/-! DEFINITION. Acknowledging faults and clearing counters, leaky buckets, the Gleaner, SCRUB_RANGE and fault injection
(16_faults_and_gleaner.md R457-R472; 03_furrows.md R107, R108; 00_scope.md R16, R17). -/

namespace Sys2Proof.Machine
open Sys2Proof

/-! ## FIRST_ACK, HIST_ACK and clear registers (R17, R107, R108) -/

/-- A write of FIRST_ACK: 0 clears VALID, MERGED and MERGED_OVF. -/
def State.firstAck (s : State) (b : Blk) (v : Nat) : State :=
  if v = 0 then (s.clrBit b.first 31).countClear b.merged else s

/-- A write of HIST_ACK (R109): the N oldest unread entries are read; 0 and values above UNREAD act as UNREAD. -/
def State.histAck (s : State) (b : Blk) (v : Nat) : State :=
  let n := nfld v 0 5
  let unread := s.fld b.ptr 16 5
  s.put b.ptr 16 5 (if n = 0 then 0 else unread - n)

/-- Port and lane of an LNK_LANE_PRBS_BITS_CLR register. -/
def bitsClrOf (a : Nat) : Option (Nat × Nat) :=
  (natsFrom 0 16).findSome? fun q => (natsFrom 0 9).findSome? fun i =>
    if Reg.LNK_LANE_PRBS_BITS_CLR q i = a then some (q, i) else none

/-- A write of 0 to FUR_HAZ_CLR acknowledges the first hazard of a furrow too (R240). -/
def State.hazardAck (s : State) (a p : Nat) : State := if a = Reg.FUR_HAZ_CLR p then s.clrBit (Reg.FUR_HAZ_FIRST p) 31 else s

/-- A write of a clear register: 0 clears its counter and OVF bit. -/
def State.clearWrite (s : State) (a v : Nat) : State :=
  if v ≠ 0 then s
  else match findCnt CntRow.clr a cntRows with
    | some (r, is) => (s.countClear (r.cntAt is)).hazardAck a (is.headD 0)
    | none => match bitsClrOf a with
      | some (q, i) => (s.rnSet64 (Reg.LNK_LANE_PRBS_BITS_LO q i) 0).clrBit (Reg.LNK_LANE_OVF q i) 4
      | none => s

/-- FIRST_ACK (R107). -/
def execFirstAck (fn addr v : Nat) (s : State) : Host.Outcome State Fault Refusal :=
  .next <| match blkOfAck addr with
  | some b => s.gated fn addr fun s r _ => (s.rsvdCheck fn v r.fields).firstAck b (v % 2 ^ 32)
  | none => s

/-- HIST_ACK (R108). -/
def execHistAck (fn addr v : Nat) (s : State) : Host.Outcome State Fault Refusal :=
  .next <| match blkOfHistAck addr with
  | some b => s.gated fn addr fun s r _ => (s.rsvdCheck fn v r.fields).histAck b v
  | none => s

/-- COUNTER_CLEAR (R17). -/
def execCounterClear (fn addr v : Nat) (s : State) : Host.Outcome State Fault Refusal :=
  .next <|
    if (findCnt CntRow.clr addr cntRows).isSome ∨ (bitsClrOf addr).isSome then
      s.gated fn addr fun s r _ => (s.rsvdCheck fn v r.fields).clearWrite addr (v % 2 ^ 32)
    else s

/-! ## Leaky buckets (R461, R462) -/

/-- Bucket registers of a class: address and unit. -/
def bucketsOf (cls : Nat) : List (Nat × Nat) :=
  match cls with
  | 0 => (natsFrom 0 528).map fun f => (Reg.FUR_CE_BUCKET f, f)
  | 1 => (natsFrom 0 4).map fun a => (Reg.FUR_SW_CE_BUCKET a, a)
  | 2 => (natsFrom 0 64).map fun pc => (Reg.MEM_PC_CE_BUCKET pc, pc)
  | 3 => (natsFrom 0 144).map fun k => (Reg.LNK_LANE_CE_BUCKET (k / 9) (k % 9), k)
  | 4 => [(Reg.XCH_CE_BUCKET, 0)]
  | 5 => [(Reg.SPM_CE_BUCKET, 0)]
  | _ => []

/-- Block of a class. -/
def bucketBlock (cls : Nat) : Nat :=
  match cls with
  | 0 => Block.furrow
  | 1 => Block.switch
  | 2 => Block.mem
  | 3 => Block.lnk
  | 4 => Block.xch
  | _ => Block.spm

/-- The class action of an overflow (R257, R261, R462). -/
def State.bucketAction (s0 : State) (cls u : Nat) : State :=
  let s := if cls = 2 then s0.useTriple 0x120 else s0
  match cls with
  | 2 => if s.remapAuto then (match rowExtreme true (s.hbm.rows.filter fun e => e.1 == u) with
      | some e => s.remapRequest u e.2.1
      | none => s) else s
  | 3 => ((s.setBit (Reg.LNK_LANE_STAT (u / 9) (u % 9)) 25).raiseLnk (u / 9) (u % 9) 1).spareUnused (u / 9) (u % 9)
  | 5 => s
  | _ => { s with gln := { s.gln with prio := s.gln.prio ++ [(cls, u)] } }

/-- What follows a bucket's overflow (R461): its FAULT record carries the address of its register. -/
def State.bucketDo (s : State) (cls : Nat) (e : Nat × Nat) : State :=
  ((s.devInt (bucketBlock cls)).faultRec (bucketBlock cls) 31 e.1 none 0 false s.devId).bucketAction cls e.2

/-- A bucket overflows (R19, R461): its level went to 0 when it reached SIZE; a level that SIZE was lowered to meet does so
here. -/
def State.bucketOver (s : State) (cls : Nat) (e : Nat × Nat) : State :=
  if s.gln.spilt.contains (cls, e.1) then
    { s with gln := { s.gln with spilt := s.gln.spilt.erase (cls, e.1) } }.bucketDo cls e
  else if s.bktSize cls = 0 ∨ s.fld e.1 0 16 < s.bktSize cls then s
  else (s.put e.1 0 16 0).bucketDo cls e

/-- BUCKET_OVERFLOW (R461). -/
def execBucketOverflow (addr : Nat) (s : State) : Host.Outcome State Fault Refusal :=
  .next <| (natsFrom 0 6).foldl (fun s cls => match (bucketsOf cls).find? fun e => e.1 == addr with
    | some e => s.bucketOver cls e
    | none => s) s

/-- Drain period of a class in ns (R472). -/
def State.drainNs (s : State) (cls : Nat) : Nat :=
  let a := Reg.GLN_BKT_CFG0 + 4 * cls
  let unit := match s.fld a 14 2 with
    | 0 => 1000
    | 1 => 10000
    | _ => 1000000
  max 1 (s.fld a 0 14) * unit

/-- BUCKET_DRAIN_TICK (R461): one drain period of FT after the previous tick, also where the row comes late; overflows that are
due first. -/
def execBucketDrainTick (cls : Nat) (s : State) : Host.Outcome State Fault Refusal :=
  .next <|
    if 6 ≤ cls then s
    else
      let s0 := (bucketsOf cls).foldl (fun s e => s.bucketOver cls e) (s.useTriple (0x100 + 4 * cls))
      let due := cget 0 s0.gln.tick cls + s0.drainNs cls
      let s1 := s0.waitUntil due
      let s2 := { s1 with gln := { s1.gln with tick := cset 0 s1.gln.tick cls due } }
      (bucketsOf cls).foldl (fun s e => s.put e.1 0 16 (s.fld e.1 0 16 - 1)) s2

/-! ## The Gleaner's items (R463, R464) -/

/-- The plot that owns the output of a select (R117). -/
def State.selPlot (s : State) (i : Nat) : Option Nat := s.livePlots.find? fun p => s.ownsOut p (selAcre i) (selDst i)

/-- The plot in whose region an exchange table entry lies (R173). -/
def State.xtPlot (s : State) (e : Nat) : Option Nat := s.livePlots.find? fun p =>
  let lo := s.fld (Reg.XCH_RGN_CFG p) 16 11 * 1024
  decide (lo ≤ e ∧ e < lo + 2 * (s.fld (Reg.XCH_RGN_CFG p) 0 11 * 1024))

/-- The plot to which an item is assigned (R472). -/
def State.itemPlot (s : State) (kind idx : Nat) : Option Nat :=
  if kind = Item.select then s.selPlot idx else if kind = Item.xt then s.xtPlot idx else s.furPlot (idx / glnPer kind)

/-- A Gleaner condition at an item. -/
def State.glnRaise (s : State) (cause kind idx : Nat) : State :=
  s.raiseGln cause (glnSpace kind) (glnIndex kind idx) (s.itemPlot kind idx)

/-- A plot's seed shadow is held. -/
def State.hasShadow (s : State) (p : Option Nat) : Bool := match p with
  | some p => (s.plot p).img.shadow != []
  | none => false

/-- A stored word of an index at or above L (R464). -/
def State.beyondL (s : State) (kind idx : Nat) : Bool :=
  (kind == Item.imem || kind == Item.psw) && match s.itemPlot kind idx with
    | some p => (s.plot p).img.shadow != [] && decide (s.passLen p ≤ idx % 1024)
    | none => false

/-- The word of an index at or above L is not the all-zero word as stored. -/
def State.zeroDue (s : State) (kind idx : Nat) : Bool :=
  s.eccAt kind idx != 0 || (if kind = Item.imem then cget 0 s.bp.imem idx != 0 else cget 0 s.fur.psw idx != 0)

/-- Rewritten as the all-zero word. -/
def State.zeroItem (s : State) (kind idx : Nat) : State :=
  let s1 := s.eccSet kind idx 0
  if kind = Item.imem then { s1 with bp := { s1.bp with imem := cdel s1.bp.imem idx } }
  else { s1 with fur := { s1.fur with psw := cdel s1.fur.psw idx } }

/-- The outcome of one item read: nothing, corrected, uncorrectable. -/
inductive GlnFind where
  | clean | corrected | lost
deriving DecidableEq, Repr

/-- A configuration item: corrected, rewritten from the shadow, or left (R464). `shadow` says whether the plot's seed shadow
is held. -/
def State.glnConfig (s : State) (kind idx : Nat) (shadow : Bool) : GlnFind × State :=
  match s.eccAt kind idx with
  | 0 => (.clean, s)
  | 1 => (.corrected, ((s.eccSet kind idx 0).glnRaise 0 kind idx).count (Reg.GLN_CNT 0))
  | _ =>
    if shadow then (.lost, ((s.eccSet kind idx 0).glnRaise 1 kind idx).count (Reg.GLN_CNT 1))
    else (.lost, s.glnRaise 2 kind idx)

/-- A state row or furrow RAM word: corrected, or left (R464). -/
def State.glnDataFix (s : State) (kind idx : Nat) : GlnFind × State :=
  match s.eccAt kind idx with
  | 0 => (.clean, s)
  | 1 => (.corrected, ((s.eccSet kind idx 0).glnRaise 0 kind idx).count (Reg.GLN_CNT 0))
  | _ => (.lost, s.glnRaise 4 kind idx)

/-- The stored entry of the exchange table is corrected, or rewritten from the copy of the loaded half (R172, R464). -/
def State.glnXtFix (s : State) (e : Nat) : GlnFind × State :=
  match xtDecode (cget 0 s.xch.xt e) with
  | .ok _ => (.clean, s)
  | .corrected d =>
    (.corrected, (({ s with xch := { s.xch with xt := cset 0 s.xch.xt e (xtEncode d) } }).glnRaise 0 Item.xt e).count (Reg.GLN_CNT 0))
  | .lost => (.lost, ((s.xtRewrite [e]).glnRaise 1 Item.xt e).count (Reg.GLN_CNT 1))

/-- An item at its write point (R464): it is read again there. -/
def State.glnFix (s : State) (kind idx : Nat) : GlnFind × State :=
  if kind = Item.xt then s.glnXtFix idx
  else if kind = Item.stateRow ∨ kind = Item.ramWord then s.glnDataFix kind idx
  else if s.beyondL kind idx then (.clean, s.zeroItem kind idx)
  else s.glnConfig kind idx (s.hasShadow (s.itemPlot kind idx))

/-- What the Gleaner finds in an item, and whether it would write the item (R464). -/
def State.glnLook (s : State) (kind idx : Nat) : GlnFind × Bool :=
  if kind = Item.xt then (match xtDecode (cget 0 s.xch.xt idx) with
    | .ok _ => (.clean, false)
    | .corrected _ => (.corrected, true)
    | .lost => (.lost, true))
  else if s.beyondL kind idx then (.clean, s.zeroDue kind idx)
  else match s.eccAt kind idx with
    | 0 => (.clean, false)
    | 1 => (.corrected, true)
    | _ => (.lost, kind != Item.stateRow && kind != Item.ramWord && s.hasShadow (s.itemPlot kind idx))

/-- Under what the writes of an item wait: its physical furrow, or after the furrows the plot of a select or an entry. -/
def State.writeUnit (s : State) (kind idx : Nat) : Nat :=
  if kind = Item.select ∨ kind = Item.xt then 528 + (s.itemPlot kind idx).getD 0 else idx / glnPer kind

/-- An item is read (R46, R464): while its plot runs a write waits for the write point. -/
def State.glnItem (s : State) (kind idx : Nat) : GlnFind × State :=
  let runs := match s.itemPlot kind idx with
    | some p => s.plotRuns p
    | none => false
  let w := (s.writeUnit kind idx, kind, idx)
  let (found, write) := s.glnLook kind idx
  if runs && write then
    (found, if s.gln.writes.contains w then s else { s with gln := { s.gln with writes := s.gln.writes ++ [w] } })
  else s.glnFix kind idx

/-- A select (R126, R464): one of a running plot's active bank that is uncorrectable is rebuilt in the standby bank, which
firmware writes and swaps in; every other one is rewritten in place (DEDUCED, log 61). -/
def State.glnSelect (s : State) (i : Nat) : GlnFind × State :=
  match s.selPlot i with
  | none => s.glnConfig Item.select i false
  | some p =>
    if s.eccAt Item.select i = 2 ∧ s.hasShadow (some p) = true ∧ s.plotRuns p = true ∧ selBank i = s.bank p then
      if s.swapBusy p || s.sw.plans.any (fun e => e.1 == p) || s.sw.late.contains p then (.lost, s)
      else (.lost, ((s.glnRaise 1 Item.select i).count (Reg.GLN_CNT 1)).swapPlan p)
    else s.glnItem Item.select i

/-- One item is read (R464). -/
def State.glnRead (s : State) (kind idx : Nat) : GlnFind × State :=
  if kind = Item.select then s.glnSelect idx else s.glnItem kind idx

/-- A furrow is swept: in service, and not of a plot between SOWING and SOWN, nor power-gated, nor given up by an image (R463,
R468). -/
def State.glnServes (s : State) (phys : Nat) : Bool :=
  match s.logicalOf phys with
  | none => false
  | some l => !(s.fur.failed.contains phys) && match s.holder Res.furrows l with
    | some p => !(decide (1 ≤ s.sow p ∧ s.sow p ≤ 3)) && !s.gone p && (s.sow p != Sow.empty || !(s.gln.skip.contains phys))
    | none => !(s.gln.skip.contains phys)

/-- Places of one furrow in a sweep: kind, first place, items. -/
def glnPlan : List (Nat × Nat × Nat) :=
  [(Item.imem, 0, 131072), (Item.psw, 131072, 1024), (Item.gather, 132096, 256), (Item.probe, 132352, 255),
   (Item.sigdesc, 132607, 255), (Item.window, 132862, 256), (Item.stateRow, 133118, 8192), (Item.ramWord, 141310, 512)]

def acrePlaces : Nat := 132 * furPlaces
/-- the selects of both banks of an acre -/
def selPlaces : Nat := 2 * 2 ^ 23

/-- Places of a whole sweep of a sequencer. -/
def sweepPlaces (a : Nat) : Nat := acrePlaces + selPlaces + (if a = 0 then 2097152 else 0)

/-- The item at a place: kind and index; descriptors 0 of the probes and signature feeds do not exist (R96, R98). -/
def placeItem (a n : Nat) : Nat × Nat :=
  if n < acrePlaces then
    let f := 132 * a + n / furPlaces
    let k := n % furPlaces
    match glnPlan.find? fun e => decide (e.2.1 ≤ k ∧ k < e.2.1 + e.2.2) with
    | some e => (e.1, f * glnPer e.1 + (256 - e.2.2 % 256) % 256 + (k - e.2.1))
    | none => (Item.imem, f * 131072)
  else if n < acrePlaces + selPlaces then
    (Item.select, ((n - acrePlaces) / 2 ^ 23 * 4 + a) * 2 ^ 23 + (n - acrePlaces) % 2 ^ 23)
  else (Item.xt, n - acrePlaces - selPlaces)

/-- Sweep number of a sequencer in which non-essential items are due (R463). -/
def State.fullSweep (s : State) (a : Nat) : Bool := cget 0 s.gln.sweeps a % max 1 (s.fld Reg.GLN_CFG 16 4) == 0

/-- The first furrow in service from place n on, and its place there. -/
def State.sweepFurrow (s : State) (a n : Nat) : Option (Nat × Nat) :=
  ((natsFrom (n / furPlaces) (132 - n / furPlaces)).find? fun f => s.glnServes (132 * a + f)).map fun f =>
    (f, max n (f * furPlaces) % furPlaces)

/-- What a sequencer reads of a furrow's essential map from place k on (R341, R463): the furrow's first map bit, and the next
essential one or the end. A word that firmware has yet to rebuild is essential as a whole (R468). -/
def State.mapScan (s : State) (phys k : Nat) : Option (Nat × Nat) :=
  match s.logicalOf phys, s.furPlot phys with
  | some l, some p =>
    let lo := l * 132096 + k
    let hi := (l + 1) * 132096
    let at_ := match (s.plot p).img.essential.find? fun e => decide (lo ≤ e.1 ∧ e.1 < hi) with
      | some e => e.1
      | none => hi
    some (l * 132096, ((s.gln.mapLost.filter fun w => decide (lo < 64 * w + 64 ∧ 64 * w < hi)).map fun w => max lo (64 * w)).foldl min at_)
  | _, _ => none

/-- The next place from n on that the present sweep reads (R341, R463). -/
def State.nextPlace (s : State) (a n : Nat) : Nat :=
  if n < acrePlaces then
    match s.sweepFurrow a n with
    | none => acrePlaces
    | some (f, k) =>
      if s.fullSweep a = true ∨ 132096 ≤ k then f * furPlaces + k
      else match s.mapScan (132 * a + f) k with
        | some (base, b) => f * furPlaces + (b - base)
        | none => f * furPlaces + 132096
  else if n < acrePlaces + selPlaces ∨ s.fullSweep a = true then n
  else
    let e := n - acrePlaces - selPlaces
    let starts := s.livePlots.filterMap fun p =>
      let (lo, len) := s.xtHalf p (s.xtActive p)
      if e < lo + len then some (max lo e) else none
    starts.foldl min 2097152 + acrePlaces + selPlaces

/-- A sweep ends (R463): counted, SWEEP_DONE, and SLOW when it took longer than PERIOD. -/
def State.sweepEnd (s : State) (a : Nat) : State :=
  let period := 1000000 * max 10 (min 10000 (s.fld Reg.GLN_CFG 0 16))
  let slow := decide (period < s.ftNs - cget 0 s.gln.start a)
  let s1 := (s.setBit Reg.GLN_STAT 10).count (Reg.GLN_CNT 4)
  let gln := { s1.gln with pos := cset 0 s1.gln.pos a 0, sweeps := cset 0 s1.gln.sweeps a (cget 0 s1.gln.sweeps a + 1),
                           mapLost := [], start := cset 0 s1.gln.start a s1.ftNs }
  let s2 := { s1 with gln := gln }
  if slow then s2.setBit Reg.GLN_STAT 11 else s2

/-- The items that an injection armed at the HBM controller, the exchange or the Gleaner names (R471, R472). -/
def armedItems (i : Inject) : List (Nat × Nat) :=
  if i.reg = Reg.MEM_FI_CTRL then
    (natsFrom 0 8).map fun k => (Item.hbmWord, (i.addr / 2 ^ 24 * (384 * mib2) + i.addr % 2 ^ 24 * 64) / 8 + k)
  else if i.reg = Reg.GLN_FI_CTRL then (glnItemAt i.addr).toList
  else []

/-- The items that a sweep at full speed may find in error: those with an error, and those that an injection is armed for. -/
def State.glnKeys (s : State) : List Nat :=
  let keys := s.ecc.map (·.1)
  if s.inject = [] then keys else (keys ++ s.inject.flatMap fun i => (armedItems i).map fun e => eccKey e.1 e.2).dedup

/-- The same of the exchange table. -/
def State.glnXtKeys (s : State) : List Nat :=
  let keys := s.xch.xt.map (·.1)
  if s.inject = [] then keys
  else (keys ++ (s.inject.flatMap armedItems).filterMap fun e => if e.1 = Item.xt then some e.2 else none).dedup

/-- An item is read, with the injections armed for it (R464, R471). -/
def State.glnAccess (s : State) (kind idx : Nat) : GlnFind × State :=
  (s.glnTouch (s.itemPlot kind idx) fun k i => k == kind && i == idx).glnRead kind idx

/-- A sequencer reads the essential map on its way to the next item (R463, R468): an injection armed for a word of it gives a
corrected word, or MAP_UE with the word lost until firmware has rebuilt it. -/
def State.mapMeet (s : State) (a : Nat) : State :=
  if s.inject = [] ∨ s.fullSweep a = true then s
  else match s.sweepFurrow a (cget 0 s.gln.pos a) with
    | none => s
    | some (f, k) => match s.mapScan (132 * a + f) k with
      | none => s
      | some (base, b) =>
        let t := s.takeInjects Reg.GLN_FI_CTRL fun x => x / 2 ^ 28 == 8 &&
          decide (base + k < x % 2 ^ 28 * 64 + 64 ∧ x % 2 ^ 28 * 64 ≤ b ∧ x % 2 ^ 28 * 64 < base + 132096)
        t.1.foldl (fun s i => match i.1 with
          | 0 => s.glnCond 0 8 i.2.2 (s.furPlot (132 * a + f))
          | 1 =>
            let s1 := s.glnCond 8 8 i.2.2 (s.furPlot (132 * a + f))
            { s1 with gln := { s1.gln with mapLost := s1.gln.mapLost ++ [i.2.2 % 2 ^ 28] } }
          | _ => s.glnCond i.2.1 8 i.2.2 (s.furPlot (132 * a + f))) t.2

/-- A priority sweep reads every item of a unit (R462). -/
def State.prioSweep (s : State) (cls u : Nat) : State :=
  let item := fun (k : Nat) =>
    let kind := k % 16
    let idx := k / 16
    match cls with
    | 0 => glnPlan.any (fun e => e.1 == kind) && idx / glnPer kind == u
    | 1 => kind == Item.select && selAcre idx == u
    | _ => false
  let s1 := (s.glnKeys.filter item).foldl (fun s k => (s.glnAccess (k % 16) (k / 16)).2) s
  if cls = 4 then s.glnXtKeys.foldl (fun s e => (s.glnAccess Item.xt e).2) s1 else s1

/-- Sequencer that performs a priority sweep. -/
def prioSeq (e : Nat × Nat) : Nat := match e.1 with
  | 0 => e.2 / 132
  | 1 => e.2
  | _ => 0

/-- A sequencer runs (R463, R468, R470). -/
def State.seqRuns (s : State) (a : Nat) : Bool :=
  decide (a < 4) && s.bit Reg.GLN_CFG 31 && !(s.bit Reg.GLN_STAT (12 + a)) && s.pwrState == 0

/-- One item of a sequencer's sweep, a priority sweep first. -/
def State.glnStep (s0 : State) (a : Nat) : State :=
  match s0.gln.prio.find? fun e => prioSeq e == a with
  | some e =>
    let s1 := s0.prioSweep e.1 e.2
    { s1 with gln := { s1.gln with prio := s1.gln.prio.erase e } }
  | none =>
    let s := s0.mapMeet a
    let n := s.nextPlace a (cget 0 s.gln.pos a)
    if sweepPlaces a ≤ n then s.sweepEnd a
    else
      let (kind, idx) := placeItem a n
      let s1 := (s.glnAccess kind idx).2
      let s2 := { s1 with gln := { s1.gln with pos := cset 0 s1.gln.pos a (n + 1) } }
      if sweepPlaces a ≤ n + 1 then s2.sweepEnd a else s2

/-- GLEANER_ITEM_READ (R463, R464); it uses the triples of GLN_CFG and of its position (R469). -/
def execGleanerItemRead (seq : Nat) (s0 : State) : Host.Outcome State Fault Refusal :=
  .next <|
    let s := (s0.useTriple 0).useTriple (0x1000 + seq % 4)
    if s.seqRuns seq then
      let s1 := s.plansDone.glnStep seq
      { s1 with gln := { s1.gln with last := cset 0 s1.gln.last seq s1.ftNs } }
    else s

/-- The plot stands at a headland step 0-23 (R46). -/
def State.writePoint (s : State) (p : Nat) : Bool := match (s.plot p).tm.phase with
  | .head .commit => true
  | .head .latch => true
  | .head .release => true
  | .head .mark => true
  | .head .apply => true
  | .head .flush => true
  | .head .check => true
  | _ => false

/-- GLEANER_WRITE (R464): the oldest pending write of the plot: of its selects and entries, and of its furrows that have taken
fewer than 8 in this headland. -/
def execGleanerWrite (p : Nat) (s : State) : Host.Outcome State Fault Refusal :=
  .next <|
    let mine := fun (w : Nat × Nat × Nat) =>
      w.1 == 528 + p || ((s.plotPhys p).contains w.1 && decide (cget 0 s.gln.wrCount w.1 < 8))
    if s.writePoint p = false ∧ s.plotRuns p = true then s
    else match s.gln.writes.find? mine with
      | none => s
      | some w =>
        let n := if s.plotRuns p && decide (w.1 < 528) then cget 0 s.gln.wrCount w.1 + 1 else 0
        let s1 := { s with gln := { s.gln with writes := s.gln.writes.erase w, wrCount := cset 0 s.gln.wrCount w.1 n } }
        (s1.glnFix w.2.1 w.2.2).2

/-! ## The HBM patrol (R465, R466) -/

def hbmBytes : Nat := 48 * 2 ^ 30

/-- The plot that holds the page of an address. -/
def State.addrPlot (s : State) (addr : Nat) : Option Nat := (s.pageHolder (addr / mib2)).map (·.1)

def State.pnOf (s : State) (p : Option Nat) : Nat := match p with
  | some p => (s.plot p).tm.pn
  | none => 0

/-- One ECC word of the patrol or of SCRUB_RANGE (R149-R151, R465). -/
def State.patrolWord (s0 : State) (addr : Nat) : GlnFind × State :=
  let p := s0.addrPlot addr
  let pn := s0.pnOf p
  let s := (s0.memInject addr p pn false).useTriple 0x120
  match s.hbmMark addr with
  | 0 => (.clean, s.unsuspect addr)
  | 1 => (.corrected, (((s.memCe addr p pn).hbmMarkSet addr 0).unsuspect addr).count (Reg.GLN_CNT 2))
  | 2 =>
    let s1 := (((s.memUe addr p pn).poison addr p pn).raiseGln 3 6 (addr / 256) p).count (Reg.GLN_CNT 3)
    (.lost, if s1.remapAuto then s1.remapRequest (pcOf addr) (rowOf addr) else s1)
  | _ => (.lost, s.poisonRead addr p pn)

/-- The patrol runs (R465, R470): it is not paused. -/
def State.patrolRuns (s : State) : Bool :=
  s.fld Reg.GLN_HBM_RATE 0 16 != 0 && !s.hbm.selfRefresh && s.pwrState == 0 && s.hbmStatus == 0

/-- HBM_PATROL_READ (R133, R465): the next ECC word, when it lies on the PC and no pass that nears its end holds the PC; at the end
of a patrol the trackers are halved. A spare row is read from the activation of its entry on, in the place of the row that it
took (DEDUCED, log 30). -/
def execHbmPatrolRead (pc : Nat) (s0 : State) : Host.Outcome State Fault Refusal :=
  .next <|
    let s := s0.useTriple 0xc
    let addr := s.rn64 Reg.GLN_HBM_POS_LO
    if s.patrolRuns = false ∨ pcOf addr ≠ pc ∨ s.accessHeld pc = true then s
    else
      let s1 := (s.patrolWord addr).2
      let next := if hbmBytes ≤ addr + 8 then 0 else addr + 8
      let halved := (s1.hbm.rows.map fun e => (e.1, e.2.1, e.2.2 / 2)).filter fun e => e.2.2 != 0
      let s2 := if next = 0 then { s1 with hbm := { s1.hbm with rows := halved } } else s1
      let s3 := s2.rnSet64 Reg.GLN_HBM_POS_LO next
      { s3 with gln := { s3.gln with last := cset 0 s3.gln.last 4 s3.ftNs } }

/-! ## Control triples and watchdogs (R469, R470) -/

/-- Offsets of the control triples. -/
def triples : List Nat := [0x0, 0xc, 0x100, 0x104, 0x108, 0x10c, 0x110, 0x114, 0x120, 0x1000, 0x1001, 0x1002, 0x1003]

/-- CONTROL_TRIPLE_VOTE (R469): every 1 µs of FT. -/
def execControlTripleVote (s : State) : Host.Outcome State Fault Refusal :=
  .next <|
    let s1 := s.waitUntil ((cget 0 s.gln.tick 6 / 1000 + 1) * 1000)
    let s2 := { s1 with gln := { s1.gln with tick := cset 0 s1.gln.tick 6 s1.ftNs } }
    triples.foldl State.useTriple s2

/-- The watchdogs of some sequencers start again: what was disabled, stopped or paused runs (R470). -/
def State.watchFrom (s : State) (seqs : List Nat) : State :=
  { s with gln := { s.gln with last := seqs.foldl (fun m a => cset 0 m a s.ftNs) s.gln.last } }

/-- GLEANER_WATCHDOG (R470): 10 ms of FT without an item; sequencer 4 is the patrol. -/
def execGleanerWatchdog (seq : Nat) (s : State) : Host.Outcome State Fault Refusal :=
  .next <|
    let runs := s.seqRuns seq || (seq == 4 && s.patrolRuns)
    if runs = false then s
    else
      let s1 := s.waitUntil (cget 0 s.gln.last seq + 10000000)
      let now := s1.ftNs
      let s2 := (s1.raiseGln 7 7 (0x1000 + seq) none).count (Reg.GLN_CNT 6)
      let old := s2.gln.stalls.filter fun e => e.1 == seq && decide (now < e.2 + 1000000000)
      let stalls := (s2.gln.stalls.filter fun e => e.1 != seq) ++ old ++ [(seq, now)]
      let s3 := { s2 with gln := { s2.gln with stalls := stalls, last := cset 0 s2.gln.last seq now } }
      if seq = 4 then s3.rnSet64 Reg.GLN_HBM_POS_LO 0
      else
        let s4 := s3.sweepRestart seq
        if 2 ≤ old.length then s4.setBit Reg.GLN_STAT (12 + seq) else s4

/-- A write of GLN_CFG (R470, R472): every copy of the triple; EN = 1 restarts stopped sequencers. -/
def State.glnCfgWrite (s : State) (fn v : Nat) (r : RegRow) : State :=
  let a := Reg.GLN_CFG
  let s1 := (((s.rsvdCheck fn v r.fields).pf0Field fn a 31 1 v).pf0Field fn a 16 4 v).pf0Field fn a 0 16 v
  if isAdmin fn = true ∧ v.testBit 31 = true then
    let s2 := (s1.put Reg.GLN_STAT 12 4 0).watchFrom ((natsFrom 0 4).filter fun a => !s.seqRuns a)
    { s2 with gln := { s2.gln with stalls := s2.gln.stalls.filter fun e => e.1 == 4 } }
  else s1

/-- A write of GLN_HBM_RATE (R470, R472): the watchdog of a patrol that 0 had stopped starts again. -/
def State.hbmRateWrite (s : State) (fn a v : Nat) (r : RegRow) (is : List Nat) : State :=
  let s1 := s.plainWrite fn a v r is
  if s.patrolRuns then s1 else s1.watchFrom [4]

/-- GLEANER_RESTART (R470): a write of GLN_CFG with EN = 1. -/
def execGleanerRestart (fn v : Nat) (s : State) : Host.Outcome State Fault Refusal :=
  .next <| if v.testBit 31 then s.gated fn Reg.GLN_CFG fun s r _ => s.glnCfgWrite fn v r else s

/-! ## SCRUB_RANGE (R467) -/

/-- A page, furrow or XT entry belongs to a plot of a function. -/
def State.scrubMine (s : State) (fn space i : Nat) : Bool :=
  let own := fun (p : Nat) => (s.plot p).id.owner == fn
  match space with
  | 0 => match s.addrPlot i with
    | some p => own p
    | none => false
  | 1 => match s.holder Res.furrows i with
    | some p => own p
    | none => false
  | _ => s.livePlots.any fun p => own p &&
      (let base := s.fld (Reg.XCH_RGN_CFG p) 16 11
       let size := s.fld (Reg.XCH_RGN_CFG p) 0 11
       decide (base * 1024 ≤ i ∧ i < (base + 2 * size) * 1024))

/-- The function may scrub the span. -/
def State.scrubAllowed (s : State) (c : Cmd) : Bool :=
  let (first, n, _) := c.scrub
  c.func == 0 || (match nfld (c.dw 6) 0 2 with
    | 0 => (natsFrom (first / mib2) ((first + n + mib2 - 1) / mib2 - first / mib2)).all fun g => s.scrubMine c.func 0 (g * mib2)
    | k => (natsFrom first n).all fun i => s.scrubMine c.func k i)

/-- One find of a scrub joins the counts. -/
def scrubAdd (n : Nat × Nat) : GlnFind → Nat × Nat
  | .clean => n
  | .corrected => (n.1 + 1, n.2)
  | .lost => (n.1, n.2 + 1)

/-- The keys of the items that a scrub of units lo to hi - 1 reads and may find in error. -/
def State.scrubKeys (s : State) (space lo hi : Nat) : List Nat :=
  s.glnKeys.filter fun k =>
    let kind := k % 16
    let idx := k / 16
    match space with
    | 0 => kind == Item.hbmWord && decide (lo ≤ 8 * idx ∧ 8 * idx < hi)
    | _ => glnPlan.any (fun e => e.1 == kind) && (natsFrom lo (hi - lo)).any fun l => s.phys l == idx / glnPer kind

/-- Condition of the Gleaner that an uncorrectable item is: of a word of HBM HBM_UE, also where it was poisoned before (DESIGN
CHOICE, log 84). -/
def State.lostCause (s : State) (kind idx : Nat) : Nat :=
  if kind = Item.hbmWord then 3 else if kind = Item.stateRow ∨ kind = Item.ramWord then 4
  else if kind = Item.xt ∨ s.hasShadow (s.itemPlot kind idx) = true then 1 else 2

/-- Each uncorrectable item that a scrub reads feeds FIRST and HIST and writes a FAULT record, also where it joins the newest
entry of HIST (R467). -/
def State.scrubFault (s : State) (kind idx : Nat) (joins again : Bool) : State :=
  let plot := if kind = Item.hbmWord then s.addrPlot (8 * idx) else s.itemPlot kind idx
  let cause := s.lostCause kind idx
  let s1 := if again then s.raiseGln cause (glnSpace kind) (glnIndex kind idx) plot else s
  if joins then
    s1.faultRec Block.gln cause (glnSpace kind * 2 ^ 28 + glnIndex kind idx % 2 ^ 28) plot 0 false s.devId
  else s1

/-- A scrub reads one item (R467). -/
def State.scrubItem (s : State) (kind idx : Nat) : GlnFind × State :=
  let r := if kind = Item.hbmWord then s.patrolWord (8 * idx) else s.glnAccess kind idx
  let waits := r.2.gln.writes.any fun w => w.2 == (kind, idx)
  if r.1 = .lost ∧ waits = false then
    (r.1, r.2.scrubFault kind idx (s.histJoins Blk.gln) (kind == Item.hbmWord && s.hbmMark (8 * idx) == 3))
  else r

/-- Scrub units lo to hi - 1 of a space: corrected and uncorrectable items. -/
def State.scrubRun (s : State) (space lo hi : Nat) : (Nat × Nat) × State :=
  let items := if space < 2 then (s.scrubKeys space lo hi).map fun k => (k % 16, k / 16)
    else (s.glnXtKeys.filter fun e => decide (lo ≤ e ∧ e < hi)).map fun e => (Item.xt, e)
  items.foldl (fun r e => let (f, s1) := r.2.scrubItem e.1 e.2; (scrubAdd r.1 f, s1)) ((0, 0), s)

/-- SCRUB_RANGE (R467). -/
def State.scrubOp (s : State) (c : Cmd) : State :=
  let (first, n, unit) := c.scrub
  let space := nfld (c.dw 6) 0 2
  if c.scrubOk = false then s.finish c.id Status.invalidParam 0
  else if s.scrubAllowed c = false then s.finish c.id Status.notOwner 0
  else if space = 0 ∧ s.hbmStatus ≠ 0 then s.finish c.id s.hbmStatus 0
  else
    let start := min n (c.dw 13 * kib4 / unit)
    let ((ce, ue), s1) := s.scrubRun space (first + start) (first + n)
    s1.finishAt c.id Status.ok (ce % 2 ^ 32 + ue * 2 ^ 32) (n * unit) (n * unit)

def execScrubRange (id : Nat) (s : State) : Host.Outcome State Fault Refusal := .next (s.onTaken 0x90 id s.scrubOp)

/-! ## Fault injection (R471) -/

/-- STAT register of the block of an injection register, and whether it is a furrow's. -/
def injectStat (a : Nat) : Option (Nat × Bool) :=
  if a = Reg.CMD_FI_CTRL then some (Reg.CMD_STAT, false)
  else if a = Reg.HVT_FI_CTRL then some (Reg.HVT_DEV_STAT, false)
  else if a = Reg.GLN_FI_CTRL then some (Reg.GLN_STAT, false)
  else if a = Reg.XCH_FI_CTRL then some (Reg.XCH_STAT, false)
  else if a = Reg.NOC_FI_CTRL then some (Reg.NOC_STAT, false)
  else if a = Reg.SPM_FI_CTRL then some (Reg.SPM_STAT, false)
  else if a = Reg.MEM_FI_CTRL then some (Reg.MEM_PC_STAT 0, false)
  else if a = Reg.FIO_FI_CTRL then some (Reg.FIO_PORT_STAT 0, false)
  else if a = Reg.SIG_FI_CTRL then some (Reg.SIG_STAT 0, false)
  else if a = Reg.LNK_FI_CTRL then some (Reg.LNK_EVT, false)
  else if Reg.FUR_FI_CTRL 0 ≤ a ∧ a < Reg.FUR_FI_CTRL 528 ∧ (a - Reg.FUR_FI_CTRL 0) % 0x1000 = 0 then
    some (Reg.FUR_STAT ((a - Reg.FUR_FI_CTRL 0) / 0x1000), true)
  else if Reg.FUR_SW_FI_CTRL 0 ≤ a ∧ a < Reg.FUR_SW_FI_CTRL 4 ∧ (a - Reg.FUR_SW_FI_CTRL 0) % 0x800 = 0 then
    some (Reg.FUR_SW_STAT ((a - Reg.FUR_SW_FI_CTRL 0) / 0x800), false)
  else none

/-- CAUSE names a condition of the block's STAT register. -/
def causeNamed (stat cause : Nat) : Bool := match regAt stat with
  | some (r, _) => (fieldsMask (fun f => f.acc == .w1c) r.fields).testBit cause
  | none => false

/-- A write of ARM takes effect. -/
def armOk (v addr stat : Nat) (furrow : Bool) : Bool :=
  nfld v 28 2 != 3 && (nfld v 28 2 != 2 || causeNamed stat (nfld v 23 5)) && (!furrow || !(addr.testBit 7))

/-- A write of an injection control register (R471): nothing outside FACTORY. -/
def State.injectWrite (s : State) (fn a v stat : Nat) (furrow : Bool) (r : RegRow) : State :=
  if s.boot.lifecycle ≠ 0 then s
  else
    let addr := s.rn (a + 4)
    let s1 := (((s.rsvdCheck fn v r.fields).put a 28 2 (nfld v 28 2)).put a 23 5 (nfld v 23 5)).putBit a 30
      (s.bit a 30 && !(v.testBit 30))
    let rest := s.inject.filter fun i => i.reg != a
    if v.testBit 31 = false then { s1.clrBit a 31 with inject := rest }
    else if armOk v addr stat furrow then { s1.setBit a 31 with inject := rest ++ [⟨a, v, addr⟩] }
    else s1

/-- FAULT_INJECTION_ARM (R471). -/
def execFaultInjectionArm (fn addr v : Nat) (s : State) : Host.Outcome State Fault Refusal :=
  .next <| match injectStat addr with
  | some (stat, furrow) => s.gated fn addr fun s r _ => s.injectWrite fn addr v stat furrow r
  | none => s

end Sys2Proof.Machine
end

