-- ==== Sys2Proof/Machine/Power.lean ====
section
/-! DEFINITION. Clocks, power states and thermal limits (17_power_clocks_resets.md): loss of SYS_REFCLK (R476), D3hot
(R478), deep fallow (R479-R481, R451), the thermal evaluation (R39, R482, R483) and the 115 C trip (R484). -/

namespace Sys2Proof.Machine
open Sys2Proof

/-- A CRP condition: its bit, the device interrupt and a FAULT record (R476, R482). -/
def State.raiseCrp (s : State) (i : Nat) : State :=
  (s.condition Block.crp Reg.CRP_STAT i).faultRec Block.crp i 0 none 0 false s.devId

/-! ## SYS_REFCLK (R476) -/

/-- Every running plot stops as after a failed recovery (R202, R476, R499). -/
def State.stopRunning (s : State) : State := (s.livePlots.filter s.plotBusy).foldl State.recoveryFailed s

/-- REFCLK_LOST (R476). -/
def execRefclkLost (s : State) : Host.Outcome State Fault Refusal :=
  .next <|
    if s.pwr.refLost || s.pwr.tripped then s
    else
      let s1 := ((s.raiseCrp 4).stopRunning.put Reg.CRP_STAT 1 3 0).ftStateSet 3
      { s1 with pwr := { s1.pwr with refLost := true }, ft := { s1.ft with internal := true },
                svc := { s1.svc with alert := true } }

/-- REFCLK_RETURN (R476): the PLLs relock, and the servo goes on from HOLDOVER. -/
def execRefclkReturn (s : State) : Host.Outcome State Fault Refusal :=
  .next <|
    if s.pwr.refLost then
      { s with pwr := { s.pwr with refLost := false }, ft := { s.ft with internal := false } }.pllLock
    else s

/-! ## D3hot (R478) -/

/-- VFs of a PF: VF v of link n is function 4 + 15 n + (v - 1) (R353). -/
def vfsOf (fn : Nat) : List Nat := if fn < 4 then natsFrom (4 + 15 * fn) 15 else []

/-- The PF of a function (R353). -/
def pfOf (fn : Nat) : Nat := if fn < 4 then fn else (fn - 4) / 15

/-- D3HOT_ENTRY (R478): a VF follows its PF. -/
def execD3hotEntry (fn : Nat) (s : State) : Host.Outcome State Fault Refusal :=
  .next <|
    if s.linksDown || !(s.enabledFn fn) || s.pwr.d3.contains fn then s
    else
      let vfs := (vfsOf fn).filter fun f => !(s.pwr.d3.contains f)
      { s with pwr := { s.pwr with d3 := s.pwr.d3 ++ fn :: vfs } }

/-- The messages that were held for a function are sent (R478). -/
def State.sendHeld (s : State) (fns : List Nat) : State :=
  let due := s.pwr.heldMsgs.filter fun m => fns.contains m.1
  let s1 := { s with pwr := { s.pwr with heldMsgs := s.pwr.heldMsgs.filter fun m => !(fns.contains m.1) } }
  due.foldl (fun s m => s.msix m.1 m.2) s1

/-- D0_RETURN (R477, R478): every setting is kept; a VF does not leave before its PF. -/
def execD0Return (fn : Nat) (s : State) : Host.Outcome State Fault Refusal :=
  .next <|
    if s.linksDown || !(s.pwr.d3.contains fn) || (4 ≤ fn && s.pwr.d3.contains (pfOf fn)) then s
    else
      let fns := fn :: vfsOf fn
      { s with pwr := { s.pwr with d3 := s.pwr.d3.filter fun f => !(fns.contains f) } }.sendHeld fns

/-! ## Deep fallow (R479-R481) -/

/-- An operation that FALLOW with DEEP waits out (R479): a plot of several devices that runs, is in light fallow or in a
hold, or an export or import. -/
def State.deepBusy (s : State) : Bool :=
  s.livePlots.any (fun p => decide (1 < s.ndev p) && (s.plotBusy p || s.fallowState p == 1)) ||
  s.cmd.store.any fun c => (c.opc == 0x51 || c.opc == 0x52) && (c.stage == .executing || c.stage == .blocked)

/-- Plots that deep fallow evicts (R479). -/
def State.deepPlots (s : State) : List Nat :=
  s.livePlots.filter fun p => s.sow p == Sow.released && !s.gone p

/-- A plot that stands still is evicted at once; a start that it waits for is given up. -/
def State.evictNow (s : State) (p : Nat) : State :=
  let t := (s.plot p).id.startAt
  let s1 := (s.onId p fun x => { x with startAt := none }).fallowNow p 1
  if t.isNone then s1
  else (s1.finishRuns p (s.stopStatus p) (s.plot p).tm.pn).finishAll p
    (fun c => (c.opc == 0x35 || c.opc == 0x34) && c.stage == .blocked) Status.abortedCmd 0

/-- Pass at whose headland a plot of several devices is evicted by force (R482). -/
def State.forcedPass (s : State) (p : Nat) : Nat :=
  let w := s.passBase p
  (s.plot p).tm.pn + 2 + (50 * s.stepMhz + w - 1) / w

/-- A hold is abandoned for a forced deep fallow (R215, R482): the plot is at PLT_CPN, does not run (R218), and the fault recurs
on wake. -/
def State.dropHold (s : State) (p : Nat) : State :=
  let id := ((s.plot p).cmt.hold.bind (·.cmd)).getD 0
  let s1 := match (s.plot p).cmt.hold.bind (·.back) with
    | some b => s.putBack p b
    | none => s
  ((s1.onCmt p fun c => { c with hold := none, resume := none }).cmtStateSet p 0).finishOpt id Status.abortedCmd 0

/-- A plot is evicted for deep fallow (R479, R482): a running plot at its next step 23, every other at once. -/
def State.deepEvict (s : State) (forced : Bool) (p : Nat) : State :=
  if (s.plot p).cmt.hold.isSome then (if forced then (s.dropHold p).evictNow p else s.askStop p 2 none 0)
  else if s.plotRuns p then
    if forced && decide (1 < s.ndev p) then (s.floodHalt p 2 (s.forcedPass p)).askStop p 2 (some (s.forcedPass p)) 0
    else s.askStop p 2 none 0
  else s.evictNow p

/-- Deep fallow begins (R479 step 1). -/
def State.deepStart (s : State) (forced : Bool) (id : Nat) : State :=
  let s1 := (s.put Reg.CRP_PWR_STAT 28 4 1).putBit Reg.CRP_PWR_STAT 27 forced
  let s2 := { s1 with pwr := { s1.pwr with deepCmd := id, since := s1.ftNs } }
  s.deepPlots.foldl (fun s p => s.deepEvict forced p) s2

/-- FALLOW with DEEP (R479). -/
def State.fallowDeepOp (s : State) (c : Cmd) : State :=
  if (c.dw 6).testBit 8 = false then s
  else if s.deepBusy then s.finish c.id Status.busy 0
  else if s.deepPlots.any fun p => s.freePages p < s.savePages p then s.finish c.id Status.noResource 0
  else (s.blockCmd c.id).deepStart false c.id

def execFallowDeep (id : Nat) (s : State) : Host.Outcome State Fault Refusal := .next (s.onTaken 0x33 id s.fallowDeepOp)

/-- Plots whose stream is being written (R430, R451). -/
def State.streamPlots (s : State) : List Nat := s.livePlots.filter fun p => s.hvtState p == 1 || s.hvtState p == 2

/-- A FALLOW record of the device, in the device ring and in every plot stream that is being written (R451). -/
def State.deepRec (s : State) (enter : Bool) (ns : Nat) : State :=
  let body := if enter then [3] else [ns % 2 ^ 32, ns / 2 ^ 32 % 2 ^ 30 + 3 * 2 ^ 30]
  let x : Rec := { rtype := if enter then 4 else 5, len := 1, plot := none, pn := 0, ft := s.ftNs,
                   body := body.map (BitVec.ofNat 32) }
  s.streamPlots.foldl (fun s p => s.plotPut p x) (s.devPut x)

/-- µs since an instant, saturating (R491). -/
def State.lastUs (s : State) (ns : Nat) : State := s.put Reg.CRP_PWR_STAT 0 16 (min 65535 ((s.ftNs - ns) / 1000))

/-- Lanes in one state. -/
def State.lanesIn (s : State) (st : Nat) : List (Nat × Nat) :=
  portIds.flatMap fun q => (laneIds.filter fun i => s.laneState q i == st).map fun i => (q, i)

/-- DEEP_FALLOW_ENTERED (R479 steps 2-6): nothing more is to be evicted. -/
def State.deepEntered (s : State) : State :=
  let start := s.livePlots.foldl (fun m p => max m (s.plot p).id.fallowFt) s.pwr.since
  let s1 := { s with hvt := { s.hvt with staging := 0 } }.drainFifo.deepRec true 0
  let s2 := { s1 with hvt := { s1.hvt with staging := 0, deepSince := s1.ftNs }, hbm := { s1.hbm with selfRefresh := true } }
  let s3 := (s.lanesIn 6).foldl (fun s e => s.laneStateSet e.1 e.2 8) s2
  let s4 := (s3.livePlots.filter fun p => s3.sow p == Sow.sown).foldl State.clearFurrows s3
  let s5 := ((s4.put Reg.CRP_PWR_STAT 28 4 2).clrBit Reg.CRP_STAT 3).lastUs start
  ({ s5 with pwr := { s5.pwr with deepCmd := 0 } }).finishOpt s.pwr.deepCmd Status.ok 0

def execDeepFallowEntered (s : State) : Host.Outcome State Fault Refusal :=
  .next (if s.pwrState = 1 ∧ s.deepPlots = [] then s.deepEntered else s)

/-- Exit of deep fallow ends (R481 steps 4, 5; R451): every lane has left the low-power idle. -/
def State.wakeDone (s : State) : State :=
  let s1 := s.put Reg.CRP_PWR_STAT 28 4 0
  let s2 := (s1.deepRec false (s.ftNs - s.hvt.deepSince)).lastUs s.pwr.since
  let cut := fun (e : EvRec) => { e with len := min e.len 1, body := e.body.take 2 }
  let s3 := s.hvt.fallowBuf.foldl (fun s e => s.eventOut (cut e) (decide (1 < e.len))) s2
  let s4 := if s.hvt.fallowLost = 0 then s3 else s3.devLoss s.hvt.fallowLost 2
  let s5 := { s4 with hvt := { s4.hvt with fallowBuf := [], fallowLost := 0 }, pwr := { s4.pwr with deepCmd := 0 } }
  let s6 := (s5.livePlots.filter fun p => s5.sow p == Sow.sown).foldl State.resow s5
  let s7 := { s6 with gln := { s6.gln with last := (natsFrom 0 5).foldl (fun m a => cset 0 m a s6.ftNs) s6.gln.last } }
  s7.finishOpt s.pwr.deepCmd Status.ok 0

def State.wakeCheck (s : State) : State := if s.pwrState = 3 ∧ s.lanesIn 8 = [] then s.wakeDone else s

/-- A forced deep fallow has cooled for 1 ms (R483). -/
def State.cooled (s : State) : Bool := decide (s.pwr.coolSince ≠ 0 ∧ s.pwr.coolSince - 1 + 1000000 ≤ s.ftNs)

/-- WAKE with PLOT = 0xFF (R481, R483). -/
def State.wakeDeepOp (s : State) (c : Cmd) : State :=
  if c.plot ≠ 255 then s
  else if s.pwrState = 0 then s.finish c.id Status.invalidParam 0
  else if s.pwrState ≠ 2 ∨ (s.bit Reg.CRP_PWR_STAT 27 = true ∧ s.cooled = false) then s.finish c.id Status.busy 0
  else
    let s1 := ((s.blockCmd c.id).put Reg.CRP_PWR_STAT 27 5 (3 * 2)).pllLock
    let s2 := { s1 with hbm := { s1.hbm with selfRefresh := false }, pwr := { s1.pwr with deepCmd := c.id, since := s1.ftNs } }
    ((s2.lanesIn 8).foldl (fun s e => s.onLane e.1 e.2 fun l => { l with decoded := 0, undecoded := 0 }) s2).wakeCheck

def execWakeDeep (id : Nat) (s : State) : Host.Outcome State Fault Refusal := .next (s.onTaken 0x34 id s.wakeDeepOp)

/-! ## Thermal limits (R39, R482-R484) -/

/-- The thermal level after an evaluation (R39); temperatures in 1/16 C, the level falls by one at most. -/
def thermalLevel (soft old : Nat) (tmax : Int) : Nat :=
  let n := if tmax < soft * 16 then 0 else min 15 (1 + ((tmax - soft * 16) / 16).toNat)
  if old ≤ n then n
  else if tmax ≤ ((soft : Int) + old - 1 - 2) * 16 then old - 1 else old

/-- The hottest reading and its sensor. -/
def hottest (temps : List Int) : Int × Nat :=
  (temps.zipIdx).foldl (fun m e => if m.1 < e.1 then e else m) ((temps.headD 0), 0)

/-- Alert cause of SMBus code 0x30 (R501). -/
def State.alertCause (s : State) : Nat :=
  let tmax := signedOf (s.fld Reg.CRP_THERM_STAT 16 16) 16
  let valid := s.bit (Reg.CRP_TEMP 0) 31
  b2n (valid && decide ((s.fld Reg.CRP_THERM_CFG 24 8 : Int) * 16 ≤ tmax)) + 2 * b2n (s.bit Reg.CRP_STAT 0) +
    4 * b2n s.pwr.trip + 8 * b2n s.pwr.refLost

/-- SMB_ALERT_N goes low when an alert cause is set (R501). -/
def State.alertFrom (s : State) (old : Nat) : State :=
  let new := s.alertCause
  if new &&& (15 - old % 16) ≠ 0 then { s with svc := { s.svc with alert := true } } else s

/-- Deep fallow is forced (R482): without the checks of FALLOW. -/
def State.forceDeep (s : State) : State :=
  let s1 := s.raiseCrp 0
  if s.pwrState = 0 then s1.deepStart true 0
  else if s.pwrState = 1 then s.deepPlots.foldl (fun s p => s.deepEvict true p) (s1.setBit Reg.CRP_PWR_STAT 27)
  else s1.setBit Reg.CRP_PWR_STAT 27

/-- Readings of the 64 sensors (R482, R491). -/
def State.readTemps (s : State) (temps : List Int) : State :=
  (natsFrom 0 64).foldl (fun s i => s.rnSet (Reg.CRP_TEMP i) (match temps[i]? with
    | some t => 2 ^ 31 + (BitVec.ofInt 16 t).toNat
    | none => 0)) s

/-- THERMAL_EVALUATION (R39, R482, R483): every 10 µs of FT; temperatures in 1/16 C by sensor. -/
def State.thermal (s0 : State) (temps0 : List Int) : State :=
  let temps := temps0.take 64
  let s := s0.waitUntil (s0.pwr.evalFt + 10000)
  let tmax : Int := (hottest temps).1
  let hot : Nat := (hottest temps).2
  let hard : Int := s.fld Reg.CRP_THERM_CFG 16 8
  let level := thermalLevel (s.fld Reg.CRP_THERM_CFG 24 8) (s.fld Reg.CRP_THERM_STAT 6 4) tmax
  let s1 : State := (s.readTemps temps).rnSet Reg.CRP_THERM_STAT ((BitVec.ofInt 16 tmax).toNat * 65536 + hot * 1024 + level * 64)
  let s2 : State := (natsFrom 0 16).foldl (fun s p => s.put (Reg.PLT_HL_STAT p) 8 4 level) s1
  let n : Nat := if hard * 16 < tmax then min 3 (s.pwr.hot + 1) else 0
  let cool := if tmax ≤ (hard - 10) * 16 then (if s.pwr.coolSince = 0 then s.ftNs + 1 else s.pwr.coolSince) else 0
  let s3 : State := { s2 with pwr := { s2.pwr with hot := n, coolSince := cool, evalFt := s.ftNs } }
  if n = 3 ∧ s3.bit Reg.CRP_PWR_STAT 27 = false ∧ s3.pwrState ≠ 3 then s3.forceDeep else s3

def execThermalEvaluation (temps : List Int) (s : State) : Host.Outcome State Fault Refusal :=
  .next (if s.pwr.tripped || temps.isEmpty then s else (s.thermal temps).alertFrom s.alertCause)

/-- Every lane and port of the fabric goes DOWN (R484, R499). -/
def State.lanesOff (s : State) : State :=
  let s1 := portIds.foldl (fun s q => laneIds.foldl (fun s i => s.laneStateSet q i 0) (s.portLeavesUp q)) s
  { s1 with lnk := {}, xch := { s1.xch with ctrlQ := [] } }

/-- THERMAL_TRIP (R484): every PLL stops, so every plot and every command stands still until POR_N. -/
def execThermalTrip (s : State) : Host.Outcome State Fault Refusal :=
  .next <|
    let s1 := (natsFrom 0 12).foldl State.park (s.lanesOff.put Reg.CRP_STAT 1 3 0)
    let s2 := s1.livePlots.foldl (fun s p => s.onPlot p fun x =>
      { x with tm := { x.tm with phase := .stopped }, id := { x.id with startAt := none },
               cmt := { x.cmt with hold := none, resume := none } }) s1
    { s2 with cmd := { s2.cmd with store := [] }, pwr := { s2.pwr with tripped := true, trip := true },
              svc := { s2.svc with alert := true } }

end Sys2Proof.Machine
end

