-- ==== Sys2Proof/Machine/Resets.lean ====
section
/-! DEFINITION. Resets and boot (17_power_clocks_resets.md, 12_sowing_and_release.md, 14_plots_hosts_network.md): the
whole-device resets (R323, R485-R487), resets of one link or function (R325, R387, R398), configuration-ready (R324),
firmware reaching RUNNING (R104, R328, R343, R420) and the VBAT domain (R329). -/

namespace Sys2Proof.Machine
open Sys2Proof

/-! ## Whole-device resets (R323, R485) -/

/-- What is fused, and the battery-backed key slots while VBAT holds (R329, R485). -/
def BootSt.kept (b : BootSt) (lost : Bool) : BootSt :=
  { keys := if lost then b.keys.filter fun e => !(decide (4 ≤ e.1 ∧ e.1 < 8)) else b.keys, vbatLost := b.vbatLost && !lost,
    lifecycle := b.lifecycle, grade20 := b.grade20, dieRev := b.dieRev, fusedOut := b.fusedOut, fusedMin := b.fusedMin,
    serial := b.serial }

/-- The hosts' side: their memory and translations; configuration space only where PCIe is kept (R485). -/
def HostSt.kept (h : HostSt) (pcie : Bool) (strap : Nat) : HostSt :=
  if pcie then { h with atc := [], pageReqs := [], pageWait := [] }
  else { mem := h.mem, refused := h.refused, withdrawn := h.withdrawn, strap := strap }

/-- A whole-device reset (R323, R485): CAUSE, the monitor's new nonce, whether it is POR_N, and whether PCIe is kept. -/
def State.wholeReset (s : State) (cause nonce : Nat) (por pcie : Bool) (strap gpio : Nat) : State :=
  let lost := por && s.boot.vbatLost
  let trip := s.pwr.trip && !lost
  let s1 : State :=
    { pending := s.pending, free := s.free,
      boot := { s.boot.kept lost with cfgReady := if pcie then s.boot.cfgReady else [] },
      host := s.host.kept pcie strap,
      fur := { failed := if por then [] else s.fur.failed },
      pwr := { trip := trip, d3 := if pcie then s.pwr.d3 else [], refLost := s.pwr.refLost },
      svc := { locked := s.boot.lifecycle == 2, nonce := nonce % 2 ^ 128, fails := if lost then 0 else s.svc.fails,
               sensor := s.svc.sensor, alert := s.svc.alert && !s.pwr.tripped, gpio := gpio } }
  let s2 := s1.rnSet Reg.CRP_RST_CAUSE cause
  let s3 := if lost then (s2.setBit Reg.SOW_KEY_STAT 8).devInt 0xf else s2
  if s.pwr.refLost then
    let s4 := (s3.setBit Reg.CRP_STAT 4).devInt 0xe
    { s4 with ft := { s4.ft with internal := true } }
  else s3

/-- POR_N (R323, R390, R485): PCIE_BIF and GPIO[1:0] are sampled. -/
def execPorN (strap gpio nonce : Nat) (s : State) : Host.Outcome State Fault Refusal :=
  .next (s.wholeReset 0 nonce true false (strap % 4) (gpio % 4))

/-- DEV_RESET (R487): KEY = 0xA5 from PF0. -/
def State.devResetWrite (s : State) (fn v nonce : Nat) (r : RegRow) : State :=
  if isAdmin fn = true ∧ nfld v 24 8 = 0xa5 then s.wholeReset 3 nonce false true s.host.strap s.svc.gpio else s.rsvdCheck fn v r.fields

def execDevReset (fn v nonce : Nat) (s : State) : Host.Outcome State Fault Refusal :=
  .next (s.gated fn Reg.CRP_DEV_RESET fun s r _ => s.devResetWrite fn v nonce r)

/-! ## Resets of a function or of one link (R325, R387, R398) -/

/-- Commands that a function has submitted itself. -/
def ownCmd (fn : Nat) (c : Cmd) : Bool := c.func == fn && (match c.origin with
  | .queue _ _ => true
  | .forwarded _ _ => false)

/-- A training or a lane test that a discarded command started ends (R256). -/
def State.endLinkCmds (s : State) (ids : List Nat) : State :=
  portIds.foldl (fun s q =>
    let x := s.port q
    let s1 := if x.phase ≠ 0 ∧ ids.contains x.cmd = true then s.endTraining q else s
    if x.testCmd ≠ 0 ∧ ids.contains x.testCmd = true then (s1.endTest q x.testLane).onPort q fun y => { y with testCmd := 0 }
    else s1) s

/-- Requests of discarded commands leave the plots they wait on. -/
def State.dropRequests (s : State) (ids : List Nat) : State :=
  let gone := fun (i : Nat) => i != 0 && ids.contains i
  s.livePlots.foldl (fun s p => s.onPlot p fun x =>
    { x with id := { x.id with hostQ := x.id.hostQ.filter (fun i => !(gone i)),
                               stops := x.id.stops.filter fun e => !(gone e.2.2) },
             hvt := { x.hvt with armAt := x.hvt.armAt.filter (fun e => !(gone e.2.2)),
                                 stopAt := x.hvt.stopAt.filter fun e => !(gone e.2) },
             cmt := { x.cmt with rollback := x.cmt.rollback.filter fun e => !(gone (e.2.getD 0)) } }) s

/-- The commands of a function are discarded without completion; its tags are IDLE, its queue pairs disabled and its
version un-negotiated (R366, R384, R387). -/
def State.discardCmds (s : State) (fn : Nat) : State :=
  let ids := (s.cmd.store.filter (ownCmd fn)).map (·.id)
  let s1 := (s.endLinkCmds ids).dropRequests ids
  let s2 := { s1 with cmd := { s1.cmd with store := s1.cmd.store.filter (fun c => !(ownCmd fn c)),
                                           tags := cclear s1.cmd.tags (tagKey fn 0) 65536 } }
  let s3 := (s2.queuesOf fn).foldl (fun s q => (s.clrBit (Reg.QCF_CTRL q) 31).put (Reg.QCF_INFLIGHT q) 0 17 0) s2
  let s4 := (s3.put (Reg.CMD_FUNC_CFG fn) 23 9 0).copyWr fn Reg.DEV_SCRATCH 0
  let upd := s.cmd.store.any fun c => ownCmd fn c && c.opc == 0xa0
  let s5 := if upd then { s4 with boot := { s4.boot with staged := none }, cmd := { s4.cmd with fetchStop := false } } else s4
  (s5.rnSet Reg.CMD_MS_STAT s5.cmd.store.length).fwRestart

/-- What configuration space of a function holds returns to reset (R398, R406, R460). -/
def State.configReset (s : State) (fn : Nat) : State :=
  let drop := fun (l : List (Nat × Nat)) => l.filter fun e => e.1 != fn
  let h := s.host
  { s with host := { h with atc := h.atc.filter (fun e => e.1 != fn), pageReqs := drop h.pageReqs, pageWait := drop h.pageWait,
                            priAlloc := cset 0 h.priAlloc fn 0, ats := cset false h.ats fn false, numVfs := cset 0 h.numVfs fn 0,
                            unmasked := cclear h.unmasked (fn * 2048) 2048, funcMask := cset false h.funcMask fn false,
                            msixPend := cclear h.msixPend (fn * 2048) 2048 },
           pwr := { s.pwr with d3 := s.pwr.d3.filter (· != fn), heldMsgs := drop s.pwr.heldMsgs } }

/-- One function is reset: every plot that it owns is destroyed, and the commands of others on them end with ABORTED_RESET (R383). -/
def State.resetFn (s : State) (fn : Nat) : State :=
  let mine := s.livePlots.filter fun p => (s.plot p).id.owner == fn && !(s.plot p).id.zeroing
  let s1 := (s.discardCmds fn).configReset fn
  mine.foldl (fun s p => (s.finishAll p (fun c => c.stage != .away) Status.abortedReset 0).destroyPlot p 0) s1

/-- FLR (R387, R398): FLR of a PF clears VF Enable, so its VFs go with it. -/
def execFlr (fn : Nat) (s : State) : Host.Outcome State Fault Refusal :=
  .next <|
    if s.linksDown || !(s.enabledFn fn) then s
    else ((vfsOf fn).filter s.enabledFn ++ [fn]).foldl (fun s f => s.resetFn f) s

/-- PERST_N, a hot reset or the link down of a link (R325, R485): the whole device for link 0 in x16 mode, else the
functions of the link. -/
def State.linkReset (s : State) (link cause nonce : Nat) : State :=
  if s.pwr.tripped || decide (s.links ≤ link) then s
  else if s.links = 1 then s.wholeReset cause nonce false false s.host.strap s.svc.gpio
  else
    let s1 := ((vfsOf link).filter s.enabledFn ++ [link]).foldl (fun s f => s.resetFn f) s
    { s1 with boot := { s1.boot with cfgReady := s1.boot.cfgReady.filter (· != link) } }

/-- PERST_N (R325, R485, R486). -/
def execPerstN (link nonce : Nat) (s : State) : Host.Outcome State Fault Refusal := .next (s.linkReset link 1 nonce)

/-- DL_DOWN (R485, R486): hot reset, or a link down of more than 1 ms. -/
def execDlDown (link nonce : Nat) (s : State) : Host.Outcome State Fault Refusal := .next (s.linkReset link 2 nonce)

/-! ## Boot -/

/-- CONFIGURATION_READY (R323, R324): the link's function answers; the PLLs have locked before it. -/
def execConfigurationReady (link : Nat) (s : State) : Host.Outcome State Fault Refusal :=
  .next <|
    if s.linksDown || decide (s.links ≤ link) || s.boot.cfgReady.contains link then s
    else { s with boot := { s.boot with cfgReady := s.boot.cfgReady ++ [link] } }.pllLock

/-- Firmware maps the logical furrows of an acre: furrow l to its default, or a spare where that is out of service (R104). -/
def State.mapAcre (s : State) (a : Nat) : State :=
  let bad := fun f => s.boot.fusedOut.contains f || s.fur.failed.contains f
  let spares := (natsFrom (132 * a + 128) 4).filter fun f => !(bad f)
  let out := (natsFrom (128 * a) 128).filter fun l => bad (132 * a + l % 128)
  let fmap := (out.zip spares).foldl (fun m e => cset 0 m e.1 (e.2 + 1)) s.fmap
  { s with fmap := fmap }.rnSet (Reg.FUR_ACRE_SPARE a) (spares.length - out.length)

/-- The boot window is gone once firmware is RUNNING (R326). -/
def State.bootEnd (s : State) : State := { s with boot := { s.boot with window := [], started := none } }

/-- FIRMWARE_RUNNING (R104, R326, R328, R343, R420): the firmware that passed its checks has initialised. -/
def State.fwRunning (s : State) (version svn : Nat) : State :=
  let s1 := ((s.bootSet 3 0).rnSet Reg.SOW_FW_VER version).put Reg.SOW_FW_SVN 0 8 svn
  (((natsFrom 0 4).foldl State.mapAcre s1.bootEnd).clrBit Reg.NOC_CFG 30).sownPin

def execFirmwareRunning (s : State) : Host.Outcome State Fault Refusal :=
  .next (match s.boot.started with
    | some (version, svn) => if s.bootState = 2 then s.fwRunning version svn else s
    | none => s)

/-- VBAT_LOST (R329): the battery-backed slots are lost, which the next POR_N finds. -/
def execVbatLost (s : State) : Host.Outcome State Fault Refusal := .next { s with boot := { s.boot with vbatLost := true } }

end Sys2Proof.Machine
end

