-- ==== Sys2Proof/Machine/Checkpoint.lean ====
section
/-! DEFINITION. Checkpoint export and import (17_power_clocks_resets.md, R488-R490). -/

namespace Sys2Proof.Machine
open Sys2Proof

/-! ## The body -/

/-- Bytes of the carried buffers in an export, by image (R488): the spec does not give their layout. -/
opaque Config.carrySize : Nat → Nat

/-- The carried buffers as bytes (R488). -/
opaque Config.carryBytes : List HbmRead → List GroupHeld → List Byte

/-- The carried buffers read back from bytes (R489). -/
opaque Config.carryRead : List Byte → List HbmRead × List GroupHeld

/-- Bytes of the state store version, data memory and furrow RAM of one furrow: two bits a value (R8). -/
def ckptState : Nat := 8192
def ckptData : Nat := 32768
def ckptRam : Nat := 8192
def ckptFurrow : Nat := ckptState + ckptData + ckptRam

/-- Four values a byte, little-endian (R8, R10). -/
def packBytes (vs : List Val) : List Byte := leBytes (vs.length / 4) (packVals vs)
def unpackBytes (bs : List Byte) : List Val := unpackVals (4 * bs.length) (leNat bs)

/-- The copy that an export writes: the save of an evicted plot, the initial state before the launch, else the committed
state (R488). -/
def State.ckptCopy (s : State) (p : Nat) : StakeCopy :=
  match (s.plot p).id.save with
  | some v => v.copy
  | none =>
    if (s.plot p).tm.launched ∨ (s.plot p).img.imported = true then s.copyFor p (s.plot p).tm.cpn
    else (s.loadInitial p).copyFor p 0

/-- State, data memory and furrow RAM of a logical furrow, in this order (R76, R488). -/
def State.ckptFur (s : State) (c : StakeCopy) (l : Nat) : List Byte :=
  packBytes (cgetList .vx c.state (l * 32768) 32768) ++ packBytes (cgetList .vx s.dmemSafe (dmemKey (s.phys l) 0 0) 131072) ++
    packBytes (cgetList .vx c.ram (l * 32768) 32768)

/-- Pages of an export: design, journal and stake pages in map order (R488). -/
def State.ckptPages (s : State) (p : Nat) : List Nat :=
  ((s.plot p).res.map.filter fun e => decide (1 ≤ e.use ∧ e.use ≤ 4)).map (·.page)

def State.carryLen (s : State) (p : Nat) : Nat := Config.carrySize (s.plot p).img.imgid

/-- Bytes of the body (R488, R489). -/
def State.ckptBody (s : State) (p : Nat) : Nat :=
  (s.plotPhys p).length * ckptFurrow + s.carryLen p + (s.ckptPages p).length * mib2

/-- The body of an export (R488); committed writes have drained. -/
def State.ckptBytes (s : State) (p : Nat) : List Byte :=
  let c := s.ckptCopy p
  let n := s.carryLen p
  let t := s.settleQueue p (s.plot p).tm.cpn
  (s.plot p).res.furrows.flatMap (s.ckptFur c) ++ ((Config.carryBytes c.reads c.groups) ++ List.replicate n 0).take n ++
    (s.ckptPages p).flatMap fun g => t.hbmRead (g * mib2) mib2

/-- The header of an export (R488). -/
def State.ckptHeader (s : State) (p : Nat) (body : List Byte) : List Byte :=
  let x := s.plot p
  let h := leBytes 4 0x54504b43 ++ leBytes 4 1 ++ leBytes 4 x.id.ptag ++ leBytes 4 s.devId ++ leBytes 8 x.tm.cpn ++
    leBytes 8 body.length ++ leBytes 8 x.img.imgid ++ leBytes 4 (crc32c body) ++ leBytes 16 0
  h ++ leBytes 4 (crc32c h) ++ List.replicate 4032 0

/-- Pages of an export stand in host memory (R413). -/
def State.ckptLifted (s : State) (p : Nat) : Bool :=
  (s.plot p).res.map.any fun e => e.lifted && decide (1 ≤ e.use ∧ e.use ≤ 4)

/-! ## CKPT_EXPORT (R488) -/

/-- What the DMA reached is written: the header unit as zeros first, and last with its fields (R488). -/
def State.ckptExportEnd (s : State) (c : Cmd) (body : List Byte) (n reach : Nat) (page : Option Nat) : State :=
  let start := min reach (c.dw 13 * kib4)
  let out := ((List.replicate kib4 0 ++ body).take reach).drop start
  let s1 := s.hostWrite c.func (c.dw64 6 + start) out
  let s2 := if page.isNone then s1.hostWrite c.func (c.dw64 6) (s.ckptHeader c.plot body) else s1
  s2.dmaEnd c.id reach n page n

/-- An export reads every row and RAM word that it writes out (R76, R106), but for those of a save. -/
def State.ckptChecks (s : State) (p : Nat) : State :=
  if (s.plot p).id.save.isSome then s
  else if (s.plot p).tm.launched ∨ (s.plot p).img.imported = true then (s.copyChecks p (s.plot p).tm.cpn).dataChecks p
  else s.dataChecks p

/-- CKPT_EXPORT (R488). -/
def State.ckptExportOp (s : State) (c : Cmd) : State :=
  let p := c.plot
  let st := s.sow p
  let n := kib4 + s.ckptBody p
  if s.plotBusy p = true ∨ st = Sow.sowing ∨ st = Sow.releasing then s.finish c.id Status.busy 0
  else if st ≠ Sow.sown ∧ st ≠ Sow.released then s.finish c.id Status.invalidParam 0
  else if s.ckptLifted p then s.finish c.id Status.busy 0
  else if c.dw64 8 < n then s.finish c.id Status.invalidParam n
  else
    let s1 := s.ckptChecks p
    let r := s1.dma c.func (c.dw64 6) n kib4 (c.dw 13)
    r.2.2.ckptExportEnd c (s1.ckptBytes p) n r.1 r.2.1

def execCkptExport (id : Nat) (s : State) : Host.Outcome State Fault Refusal := .next (s.onTakenHbm 0x51 id s.ckptExportOp)

/-! ## CKPT_IMPORT (R489) -/

/-- The checks of an import on the header unit: MAGIC, HDR_VER and the header's CRC, then IMGID, PTAG, device ID and body
bytes (R488, R489). -/
def State.ckptHeaderOk (s : State) (p : Nat) (h : List Byte) : Bool :=
  let x := s.plot p
  leAt h 0 4 == 0x54504b43 && leAt h 4 4 == 1 && leAt h 60 4 == crc32c (h.take 60) && leAt h 32 8 == x.img.imgid &&
    leAt h 8 4 % 65536 == x.id.ptag && leAt h 12 4 % 2 ^ 18 == s.devId && leAt h 24 8 == s.ckptBody p

/-- State, data memory and furrow RAM of a furrow, from the body. -/
def State.ckptLoadFur (s : State) (p n f : Nat) (bs : List Byte) : State :=
  let ver := s.verBefore p n
  let st := unpackBytes (bs.take ckptState)
  let dm := unpackBytes ((bs.drop ckptState).take ckptData)
  let ram := unpackBytes ((bs.drop (ckptState + ckptData)).take ckptRam)
  let items := fun (e : Nat × Nat) => (e.1 % 16 == Item.stateRow && e.1 / 16 / 1024 == f * 8 + ver) ||
    (e.1 % 16 == Item.dmemRow && e.1 / 16 / 4096 == f) || (e.1 % 16 == Item.ramWord && e.1 / 16 / 512 == f)
  { s with bp := { s.bp with sstore := csetList .vx s.bp.sstore (stateKey f ver 0 0) st,
                             dmem := csetList .vx s.bp.dmem (dmemKey f 0 0) dm },
           fur := { s.fur with ram := csetList .vx s.fur.ram (f * 32768) ram, undo := cdel s.fur.undo f },
           ecc := s.ecc.filter fun e => !(items e) }

/-- The carried buffers of an import. -/
def State.ckptLoadCarried (s : State) (p : Nat) (bs : List Byte) : State :=
  let (reads, groups) := Config.carryRead bs
  { s with hbm := { s.hbm with reads := (s.hbm.reads.filter fun r => r.plot != p) ++
                      reads.map fun r => { r with plot := p, delivered := false } },
           xch := { s.xch with held := (s.xch.held.filter fun h => h.plot != p) ++
                      groups.map fun h => { h with plot := p, done := false } } }

/-- The second read writes the body in its export order (R489). -/
def State.ckptWrite (s : State) (p n : Nat) (body : List Byte) (reach : Nat) : State :=
  let fs := s.plotPhys p
  let base := fs.length * ckptFurrow
  let carry := s.carryLen p
  let bs := body.take reach ++ (s.ckptBytes p).drop reach
  let s1 := (fs.zipIdx).foldl (fun s e =>
    if e.2 * ckptFurrow < reach then s.ckptLoadFur p n e.1 ((bs.drop (e.2 * ckptFurrow)).take ckptFurrow) else s) s
  let s2 := if base + carry ≤ reach then s1.ckptLoadCarried p ((bs.drop base).take carry) else s1
  ((s.ckptPages p).zipIdx).foldl (fun s e =>
    let off := base + carry + e.2 * mib2
    if off < reach then s.hbmStore (e.1 * mib2) ((bs.drop off).take mib2) else s) s2

/-- What remains of the earlier run goes before the body is written (R489). -/
def State.ckptClear (s : State) (p : Nat) : State :=
  let hbm := { s.hbm with wq := s.hbm.wq.filter (fun e => e.plot != p), journal := s.hbm.journal.filter fun e => e.1 != p }
  let s1 := (s.plot p).res.pcs.foldl State.wqStat { s with hbm := hbm }
  let s2 := ((s1.gateDiscard p 0).fioDiscard p 0).hvtDiscard p 0
  (s.plot p).res.fios.foldl (fun s q => s.onFio q fun x => { x with staged := [], latch := [], sample := [] }) s2

/-- State after an import (R56, R489): the plot continues from pass n as a new run, and the version that pass n writes takes
what was imported into the one that it reads. -/
def State.ckptDone (s : State) (p n : Nat) : State :=
  let s1 := s.onPlot p fun x =>
    { x with tm := { launched := x.tm.launched, pn := n, cpn := n, dpn := n },
             cmt := { top := n, extra := x.cmt.extra, rollback := x.cmt.rollback,
                      discarded := if x.tm.launched then some (n, n) else none },
             id := { x.id with forces := [] }, img := { x.img with imported := !x.tm.launched || x.img.imported } }
  ((((s1.put (Reg.PLT_STAKE_STAT p) 30 2 0).put (Reg.PLT_CMT_FAIL p) 0 4 0).cmtStateSet p 0).sigRestartAll p).versionRestore p n

/-- The second read has come: the body is written as far as it reached, and with all of it the plot stands at pass CPN. -/
def State.importEnd (s : State) (c : Cmd) (h body : List Byte) (reach : Nat) (page : Option Nat) : State :=
  let len := s.ckptBody c.plot
  let total := kib4 + 2 * len
  let n := leAt h 16 8
  let s1 := (s.ckptClear c.plot).ckptWrite c.plot n body reach
  if reach < len then s1.dmaEnd c.id ((kib4 + len + reach) / kib4 * kib4) total page 0
  else (s1.ckptDone c.plot n).dmaEnd c.id total total none total

/-- The second read of the body, from a unit on. -/
def State.importBody (s : State) (c : Cmd) (h : List Byte) (start : Nat) : State :=
  let len := s.ckptBody c.plot
  let r := s.dma c.func (c.dw64 6 + kib4) len kib4 start
  r.2.2.importEnd c h (s.hostRead c.func (c.dw64 6 + kib4) len) r.1 r.2.1

/-- The first read has come: the CRC of the body. -/
def State.importCheck (s : State) (c : Cmd) (h : List Byte) (reach : Nat) (page : Option Nat) : State :=
  let len := s.ckptBody c.plot
  if reach < kib4 + len then s.dmaEnd c.id reach (kib4 + 2 * len) page 0
  else if crc32c (s.hostRead c.func (c.dw64 6 + kib4) len) ≠ leAt h 40 4 then s.finish c.id Status.imageCheckFail 0
  else s.importBody c h 0

/-- The header unit has come: its checks, the size of the buffer, then the first read, or the second where the resumption lies in it. -/
def State.importHead (s : State) (c : Cmd) (reach : Nat) (page : Option Nat) : State :=
  let len := s.ckptBody c.plot
  let first := kib4 + len
  let h := s.hostRead c.func (c.dw64 6) kib4
  if reach < kib4 then s.dmaEnd c.id 0 (kib4 + 2 * len) page 0
  else if s.ckptHeaderOk c.plot h = false then s.finish c.id Status.imageCheckFail 0
  else if c.dw64 8 < first then s.finish c.id Status.invalidParam 0
  else if first ≤ c.dw 13 * kib4 then s.importBody c h ((c.dw 13 * kib4 - first) / kib4)
  else
    let r := s.dma c.func (c.dw64 6) first kib4 1
    r.2.2.importCheck c h r.1 r.2.1

/-- CKPT_IMPORT (R489). A resumption in the first read restarts it at byte 4,096. -/
def State.ckptImportOp (s : State) (c : Cmd) : State :=
  let p := c.plot
  let st := s.sow p
  let ready := s.plotBusy p = false ∧ s.fallowState p = 0 ∧ (s.plot p).id.startAt = none ∧ (st = Sow.sown ∨ st = Sow.released)
  if !(decide ready) || s.ckptLifted p then s.finish c.id Status.busy 0
  else match s.deadStatus p with
    | some d => s.finish c.id d 0
    | none =>
      if c.dw64 8 < kib4 then s.finish c.id Status.invalidParam 0
      else
        let r := s.dma c.func (c.dw64 6) kib4 kib4 0
        r.2.2.importHead c r.1 r.2.1

def execCkptImport (id : Nat) (s : State) : Host.Outcome State Fault Refusal := .next (s.onTakenHbm 0x52 id s.ckptImportOp)

end Sys2Proof.Machine
end

