-- ==== Sys2Proof/Machine/Update.lean ====
section
/-! DEFINITION. XT_LOAD (R173, R174), FW_UPDATE (R380), KEY_PROVISION (R381) and the gate declaration (R121, R124). -/

namespace Sys2Proof.Machine
open Sys2Proof

/-! ## XT_LOAD -/

/-- The headland of a pass has begun (R174). -/
def State.headBegun (s : State) (p n : Nat) : Bool := (s.plot p).tm.launched && decide (n < (s.plot p).tm.headTop)

/-- A swap of the exchange table at the end of the headland of pass n (R174). -/
def State.xtSwapAt (s : State) (c : Cmd) (n : Nat) : State :=
  let p := c.plot
  let cnt := c.dw 8
  if s.headBegun p n then s.finishAt c.id Status.deadlineMissed 0 cnt cnt
  else ((s.rnSet64 (Reg.XCH_RGN_SWAP_PN_LO p) n).setBit (Reg.XCH_RGN_STAT p) 1).finishAt c.id Status.ok cnt cnt cnt

/-- Entries of XT_LOAD, eight bytes each, from one to another. -/
def State.xtLoadRange (s : State) (c : Cmd) (a b : Nat) : State :=
  let base := (s.xtHalf c.plot (nfld (c.dw 6) 0 1)).1 + nfld (c.dw 7) 0 21
  (natsFrom a (b - a)).foldl (fun s i => s.xtWrite (base + i) (leNat (s.hostRead c.func (c.dw64 9 + 8 * i) 8))) s

/-- The load check of R167 on a half as it would stand with words written from an offset on. -/
def State.xtLoadOk (s : State) (p half off : Nat) (words : List Nat) : Bool :=
  let (lo, n) := s.xtHalf p half
  let kept := s.xch.xtCopy.filterMap fun e =>
    if lo ≤ e.1 ∧ e.1 < lo + n ∧ ¬ (lo + off ≤ e.1 ∧ e.1 < lo + off + words.length) then some (xtFields e.2.toNat) else none
  xtOk p (s.passLen p) (s.dlag p) (s.plot p).res.ports s.alat (kept ++ words.map xtFields)

/-- XT_LOAD (R167, R173, R174, R375, R543): the standby half while the plot runs, either half while it does not. -/
def State.xtLoadOp (s : State) (c : Cmd) : State :=
  let p := c.plot
  let half := nfld (c.dw 6) 0 1
  let swap := (c.dw 6).testBit 1
  let cnt := c.dw 8
  let (_, size) := s.xtHalf p half
  let standby := half ≠ s.xtActive p
  let held := s.bit (Reg.XCH_RGN_STAT p) 1 || s.bit (Reg.XCH_RGN_STAT p) 2
  if s.sow p = Sow.sowing ∨ s.sow p = Sow.releasing then s.finish c.id Status.busy 0
  else if size < nfld (c.dw 7) 0 21 + cnt ∨ (¬ standby ∧ (swap = true ∨ s.plotBusy p = true)) then
    s.finish c.id Status.invalidParam 0
  else if swap = true ∧ (s.deadStatus p).isSome = true then s.finish c.id ((s.deadStatus p).getD 0) 0
  else if standby ∧ held = true then s.finish c.id Status.busy 0
  else if s.hbmStatus ≠ 0 then s.finish c.id s.hbmStatus 0
  else
    let (reach, page, s1) := s.dma c.func (c.dw64 9) (8 * cnt) kib4 (c.dw 13)
    let words := (natsFrom (c.dw 13 * 512) (reach / 8 - c.dw 13 * 512)).map fun i => leNat (s1.hostRead c.func (c.dw64 9 + 8 * i) 8)
    if (words.all xtItemOk && s1.xtLoadOk p half (nfld (c.dw 7) 0 21 + c.dw 13 * 512) words) = false then
      s1.finish c.id Status.imageCheckFail 0
    else
      let s2 := s1.xtLoadRange c (c.dw 13 * 512) (reach / 8)
      if page.isSome then s2.dmaEnd c.id (reach / 8) cnt page 0
      else if swap then s2.xtSwapAt c (c.dw64 11)
      else s2.finishAt c.id Status.ok cnt cnt cnt

def execXtLoad (id : Nat) (s : State) : Host.Outcome State Fault Refusal := .next (s.onTaken 0x72 id s.xtLoadOp)

/-! ## FW_UPDATE (R380) -/

/-- The fused minimum SVN rises (R380). -/
def State.raiseSvn (s : State) (svn : Nat) : State := { s with boot := { s.boot with fusedMin := max s.boot.fusedMin svn } }

/-- ACTIVATE: fetching stops, and the command waits until it is the only one in the store. -/
def State.fwStage (s : State) (c : Cmd) (version svn : Nat) : State :=
  let s1 := s.blockCmd c.id
  { s1 with boot := { s1.boot with staged := some (version, svn) }, cmd := { s1.cmd with fetchStop := true } }.fwRestart

/-- The image of FW_UPDATE has been read: the checks of R328, then RAISE_SVN and ACTIVATE. -/
def State.fwTake (s : State) (c : Cmd) (image : List Byte) : State :=
  let version := leAt image 0x10 4
  let svn := leAt image 8 4
  let n := c.dw 8
  match fwCheck n s.boot.fusedMin image with
  | 0 =>
    let s1 := if (c.dw 9).testBit 0 then s.raiseSvn svn else s
    if (c.dw 9).testBit 1 then s1.fwStage c version svn
    else s1.finishAt c.id Status.ok (version + svn * 2 ^ 32) n n
  | k => s.finishAt c.id (if k ≤ 2 then Status.imageCheckFail else Status.imageAuthFail) 0 n n

def State.fwUpdateOp (s : State) (c : Cmd) : State :=
  let n := c.dw 8
  if (c.dw 9).testBit 1 = true ∧ s.anyReleased = true then s.finish c.id Status.busy 0
  else
    let want := fwBytes n
    let (reach, page, s1) := s.dma c.func (c.dw64 6) want kib4 0
    if reach < want then s1.dmaEnd c.id reach n page 0 else s1.fwTake c (s1.hostRead c.func (c.dw64 6) want)

def execFwUpdate (id : Nat) (s : State) : Host.Outcome State Fault Refusal := .next (s.onTaken 0xa0 id s.fwUpdateOp)

/-! ## KEY_PROVISION (R381) -/

/-- A slot holds a value. -/
def State.keySet (s : State) (slot : Nat) : Bool := cget [] s.boot.keys slot != []

/-- What keeps KEY_PROVISION from reading the value: none, or a status. -/
def State.keyStatus (s : State) (slot kek bytes : Nat) : Option Nat :=
  if kek = 255 then
    if s.boot.lifecycle = 2 ∨ bytes ≠ 32 then some Status.invalidParam
    else if (slot < 4 ∨ 16 ≤ slot) ∧ s.keySet slot = true then some Status.noResource else none
  else if 8 ≤ kek ∨ s.keySet kek = false ∨ bytes ≠ 40 then some Status.invalidParam
  else if (slot < 4 ∨ 16 ≤ slot) ∧ s.keySet slot = true then some Status.noResource else none

def State.keyWrite (s : State) (slot : Nat) (v : List Byte) : State :=
  { s with boot := { s.boot with keys := cset [] s.boot.keys slot (v ++ List.replicate 32 0 |>.take 32) } }

def State.keyOp (s : State) (c : Cmd) : State :=
  let slot := nfld (c.dw 6) 0 8
  let kek := nfld (c.dw 6) 8 8
  match s.keyStatus slot kek (c.dw 9) with
  | some st => s.finish c.id st 0
  | none =>
    let (reach, page, s1) := s.dma c.func (c.dw64 7) (c.dw 9) (c.dw 9) 0
    let blob := s1.hostRead c.func (c.dw64 7) (c.dw 9)
    if reach < c.dw 9 then s1.dmaEnd c.id 0 0 page 0
    else match (if kek = 255 then some blob else keyUnwrap (cget [] s.boot.keys kek) blob) with
      | none => s1.finish c.id Status.imageAuthFail 0
      | some v => (s1.keyWrite slot v).finish c.id Status.ok 0

def execKeyProvision (id : Nat) (s : State) : Host.Outcome State Fault Refusal := .next (s.onTaken 0xa1 id s.keyOp)

/-! ## FUR_GATE (R121, R124) -/

/-- A declared gate is locked while either endpoint plot is released (R13, R128). -/
def State.gateLocked (s : State) (g : Nat) : Bool :=
  let a := Reg.FUR_GATE g
  s.bit a 31 && ((s.plot (s.fld a 24 4)).id.locked || (s.plot (s.fld a 20 4)).id.locked)

/-- A write of FUR_GATE: a new declaration presents its park value until its source plot is released (R124). -/
def State.gateWrite (s : State) (fn a v : Nat) (r : RegRow) (is : List Nat) : State :=
  let g := is.headD 0
  let old := s.rn a
  let new := fieldsWrite (s.gateLocked g) v r.fields old
  let s1 := (s.rsvdCheck fn v r.fields).rnSet a new
  if new / 2 ^ 18 = old / 2 ^ 18 then s1
  else
    let moved := new / 2 ^ 24 ≠ old / 2 ^ 24
    let s2 := if moved then { s1 with sw := { s1.sw with gateTaken := cset false s1.sw.gateTaken g false,
                                                         gateStage := s1.sw.gateStage.filter fun e => e.1 != g } } else s1
    let s3 := if moved then s2.clrBit a 7 else s2
    if s3.bit a 31 = false then (s3.put a 0 2 1).clrBit a 7
    else if s3.sow (s3.fld a 24 4) = Sow.released then (if moved then s3.put a 0 2 1 else s3)
    else s3.gateParkOne g

/-- GATE_DECLARE (R121): PF0 writes FUR_GATE. -/
def execGateDeclare (fn g v : Nat) (s : State) : Host.Outcome State Fault Refusal :=
  .next (s.gated fn (Reg.FUR_GATE g) fun s r is => s.gateWrite fn (Reg.FUR_GATE g) v r is)

end Sys2Proof.Machine
end

