-- ==== Sys2Proof/Machine/Receive.lean ====
section
/-! DEFINITION. What arrives over the fabric: frames (06_exchange.md, R161-R164; 09_fabric_lanes.md, R246, R251,
R257-R259, R263, R268) and CTRL packets (R177-R180, R217, R345, R447). -/

namespace Sys2Proof.Machine
open Sys2Proof

/-! ## CTRL packets (R178-R180) -/

/-- A condition of a packet that arrived on physical lane i of port q (R178, R179, R183): in a CTRL frame, of FIDX 63. -/
def State.raisePkt (s : State) (cause q i : Nat) : State :=
  s.raiseXch cause q (s.rxLogical q i) 63 (s.portPlot q) (s.portPn q)

/-- A discarded packet: XCH_CNT[7] and a condition (R178). -/
def State.pktBad (s : State) (q i cause : Nat) : State := (s.raisePkt cause q i).count (Reg.XCH_CNT 7)

/-- A packet that has reached the wrong place (R179). -/
def State.misroute (s : State) (q i : Nat) : State := s.raisePkt 8 q i

/-- Plot control by SUBTYPE (R217, R345); reserved subtypes are discarded. -/
def State.plotControl (s : State) (ws : List Word) : State :=
  match ctlSub ws with
  | 0x01 => s.sownPacket ws
  | 0x02 => s.launchPacket ws
  | 0x03 => s.haltPacket ws
  | 0x10 => s.stakeDonePacket ws
  | 0x11 => s.readyPacket ws false
  | 0x12 => s.readyPacket ws true
  | 0x13 => s.resumePacket ws
  | 0x14 => s.divergePacket ws
  | 0x15 => s.rollbackPacket ws
  | _ => s

/-- Cross-trigger by SUBTYPE (R447). -/
def State.crossTrigger (s : State) (ws : List Word) : State :=
  match ctlSub ws with
  | 1 => s.armPacket ws
  | 2 => s.firePacket ws
  | _ => s

/-- Forwarded commands and completions by SUBTYPE (R386). -/
def State.forwardedPacket (s : State) (ws : List Word) : State :=
  match ctlSub ws with
  | 1 => s.forwardedCommand ws
  | 2 => s.forwardedCompletion ws
  | _ => s

/-- Local delivery by PTYPE (R178); i is the physical lane on which it arrived. -/
def State.deliver (s : State) (q i : Nat) (ws : List Word) : State :=
  match (parsePkt ws).ptype with
  | 1 => s.timeSync q i ws
  | 2 => s.crossTrigger ws
  | 3 => s.votePacket ws
  | 4 => s.stretchNotice q ws
  | 5 => s.plotControl ws
  | 6 => s.forwardedPacket ws
  | 7 => s.mgmtPacket q ws
  | _ => s

/-- A stretch notice of a plot forwards itself, so that its repeats are dropped by device and target (R37); one with tag 0
is forwarded as any flooded packet (R180). -/
def selfForwards (k : Pkt) : Bool := k.ptype == 4 && k.ptag != 0

/-- The tag of a packet names no plot that the device holds (R180). -/
def State.strangeTag (s : State) (k : Pkt) : Bool := k.ptag != 0 && (s.plotByTag k.ptag).isNone

/-- A packet that has passed its checks: flooded, forwarded or delivered (R179, R180). -/
def State.routePacket (s : State) (q i : Nat) (ws : List Word) : State :=
  let k := parsePkt ws
  if k.flood then
    if s.xch.seen.contains (k.src, k.seq) then s
    else
      let s1 := s.markSeen k.src k.seq
      if s1.strangeTag k then s1
      else
        let s2 := s1.deliver q i ws
        if selfForwards k then s2 else s2.forwardFlood q ws
  else if k.hidx < k.nhop then
    let out := k.hop k.hidx
    if s.portUp out then s.ctrlQueue out k.ptype ({ k with hidx := k.hidx + 1 } : Pkt).words else s.misroute q i
  else if k.hidx = k.nhop ∧ k.dst = s.devId then s.deliver q i ws
  else s.misroute q i

/-- A CTRL packet arrives on physical lane i of port q (R178). -/
def State.ctrlReceive (s : State) (q i : Nat) (ws : List Word) : State :=
  let t := (parsePkt ws).ptype
  if pktCrcOk ws = false then s.pktBad q i 9
  else if t = 0 ∨ (8 ≤ t ∧ t ≤ 14) then s.pktBad q i 10
  else if t = 15 ∧ s.boot.lifecycle = 2 then s.count (Reg.XCH_CNT 7)
  else s.routePacket q i ws

/-- CTRL_PACKET_RECEIVE (R179): on the lane that carries logical lane 0. -/
def execCtrlPacketReceive (port : Nat) (words : List Word) (s : State) : Host.Outcome State Fault Refusal :=
  .next (s.ctrlReceive port (s.rxLane port 0) words)

/-! ## Frames -/

/-- What a frame slot means to its receiver: the running plot of the port, logical lane, the sender's pass and frame
index (63 for a slot that is no DATA slot), and whether a receive or relay entry expects the frame. -/
structure RxSlot where
  plot : Option Nat
  k : Nat
  pn : Nat
  fidx : Nat
  wanted : Bool
deriving DecidableEq, Repr

def State.rxSlot (s : State) (q i pn fidx : Nat) : RxSlot :=
  let k := s.rxLogical q i
  let p := (s.portPlot q).filter s.plotRuns
  { plot := p, k := k, pn := pn, fidx := if p.isSome then fidx else 63,
    wanted := match p with
      | some p => decide (k < 8 ∧ fidx < s.nf p) && s.frameWanted p q k fidx
      | none => false }

/-- The entries of a lost frame present or relay X (R163). -/
def State.loseFrame (s : State) (q : Nat) (x : RxSlot) : State :=
  match x.plot with
  | some p => if x.wanted then s.takeGroups p q x.k x.fidx x.pn none else s
  | none => s

/-- A frame condition of R163, with its counter. -/
def State.rxError (s : State) (q : Nat) (x : RxSlot) (cause cnt : Nat) : State := s.xchError cause cnt q x.k x.fidx x.pn

/-- A slot of a lane that is DOWN (R163, R258). -/
def State.rxDown (s : State) (q : Nat) (x : RxSlot) : State :=
  if x.wanted then (s.rxError q x 5 3).loseFrame q x else s

/-- A slot of the port in which a DATA frame is expected on some lane (R162). -/
def State.rxDataSlot (s : State) (q : Nat) (x : RxSlot) : Bool :=
  match x.plot with
  | some p => decide (x.fidx < s.nf p) && (natsFrom 0 8).any fun k => s.frameWanted p q k x.fidx
  | none => false

/-- ALIGN markers of an aligned port (R251): n frames since the last multiple of 4,096 is known once a marker has come. A marker
that is due comes in the first slot of the port without a DATA frame. -/
def State.markerWatch (s : State) (q i : Nat) (x : RxSlot) (f : BitVec 896) : State :=
  let l := s.lane q i
  if s.markEn q = false then s
  else if l.sinceMarker = 0 then (if isMarker f then s.onLane q i fun l => { l with sinceMarker := 1 } else s)
  else
    let n := l.sinceMarker + 1
    if isMarker f then s.onLane q i fun l => { l with sinceMarker := if n ≤ 4096 then 1 else n - 4096 }
    else if n ≤ 4096 ∨ s.rxDataSlot q x = true then s.onLane q i fun l => { l with sinceMarker := n }
    else s.markerLost q i

/-- The frame under its scrambling: TRAIN and ALIGN frames carry SYNC and none (R246, R248). -/
def State.rxOpen (s : State) (q i : Nat) (f : BitVec 896) : Option Decoded :=
  if frameSync f = syncBits then openFrame f else openFrame (scramble (s.rxLogical q i) f)

/-- A frame that cannot be decoded (R163, R257-R259). -/
def State.rxUndecoded (s : State) (q i : Nat) (x : RxSlot) : State :=
  let n := (s.lane q i).undecoded + 1
  let s1 := ((s.rxError q x 2 0).loseFrame q x).count (Reg.LNK_LANE_FECUE q i)
  let s2 := s1.onLane q i fun l => { l with undecoded := n, decoded := 0 }
  if 8 ≤ n ∨ (s.laneState q i = 8 ∧ s.pwrState = 3) then s2.laneDown q i else s2

/-- Corrected symbols: the lane's counter and bucket (R257). -/
def State.rxFixed (s : State) (q i n : Nat) : State :=
  (natsFrom 0 n).foldl (fun s _ => s.bucket 3 (Reg.LNK_LANE_CE_BUCKET q i)) (s.countBy (Reg.LNK_LANE_SYMCE q i) n)

/-- The lane leaves the low-power idle after 64 decoded frames (R259). -/
def State.rxLowPower (s : State) (q i : Nat) : State :=
  if s.laneState q i = 8 ∧ s.pwrState = 3 then
    let n := (s.lane q i).decoded + 1
    if 64 ≤ n then (s.onLane q i fun l => { l with decoded := 0 }).laneStateSet q i 6
    else s.onLane q i fun l => { l with decoded := n }
  else s

/-- The last replay turn of the plot of a slot (R164): the step clock counts at which it began and ended. -/
def State.turnOf (s : State) (x : RxSlot) : Nat × Nat := match x.plot with
  | some p => (s.plot p).tm.turn
  | none => (0, 0)

/-- Step clock count at which the slot of an arriving frame began at the sender: LNK_LAT.ARR steps before the expected arrival
(R163). -/
def State.slotBegan (s : State) (q : Nat) (late : Int) : Int := (s.ft.wall : Int) - (s.fld (Reg.LNK_LAT q) 16 10 : Int) - late

/-- The ALIVE of a frame is not checked (R164): its slot began at the sender within the replay turn, or it is the first of its
lane whose slot began at or after the end of the turn. -/
def State.resyncs (s : State) (q i : Nat) (x : RxSlot) (late : Int) : Bool :=
  let turn := s.turnOf x
  let start := s.slotBegan q late
  turn.2 != 0 && decide ((turn.1 : Int) ≤ start) &&
    (decide (start < (turn.2 : Int)) || cget 0 s.xch.rxTurn (q * 9 + i) != turn.2)

/-- The ALIVE check (R163, R164): rxAlive holds 1 + the expectation, 0 for none. On a port without SYNC one frame deleted
or repeated by the elastic buffer is a slip (R263). -/
def State.rxAliveCheck (s : State) (q i : Nat) (x : RxSlot) (late : Int) (alive ftype : Nat) : State :=
  let key := q * 9 + i
  let want := cget 0 s.xch.rxAlive key
  let free := s.resyncs q i x late
  let after := decide (((s.turnOf x).2 : Int) ≤ s.slotBegan q late)
  let s1 := { s with xch := { s.xch with
    rxAlive := cset 0 s.xch.rxAlive key (1 + (alive + 1) % 256),
    rxTurn := if free && after then cset 0 s.xch.rxTurn key (s.turnOf x).2 else s.xch.rxTurn } }
  if want = 0 ∨ free = true ∨ want - 1 = alive then s1
  else if s.bit (Reg.LNK_PORT_STAT q) 29 = false ∧ (want % 256 = alive ∨ (want + 254) % 256 = alive ∧ ftype = 1) then
    (s1.raiseLnk q i 5).count (Reg.LNK_PORT_SLIP q)
  else s1.rxError q x 3 1

/-- VOTE and HDL of a port of a running plot (R37, R188). -/
def State.rxHeader (s : State) (q : Nat) (x : RxSlot) (hdr : Nat) : State :=
  let _ := q
  match x.plot with
  | some p =>
    let s1 := s.takeVotes p x.pn (nfld hdr 16 4)
    let n := nfld hdr 12 4
    if n = 0 then s1 else s1.wantStretch p (x.pn + s1.dlag p + 1) n
  | none => s

/-- FIDX or PNLOW differs from what the slot expects (R161, R163); on a port of no running plot no slot is a DATA slot and no
PNLOW is stated. -/
def RxSlot.mismatch (x : RxSlot) (hdr : Nat) : Bool :=
  nfld hdr 6 6 != (if nfld hdr 28 4 = 0 then x.fidx else 63) || (x.plot.isSome && nfld hdr 4 2 != x.pn % 4)

/-- The payload by FTYPE (R162, R163). -/
def State.rxPayload (s : State) (q i : Nat) (x : RxSlot) (ftype payload : Nat) : State :=
  let s1 := if x.wanted ∧ ftype ≠ 0 then (s.rxError q x 5 3).loseFrame q x else s
  if ftype = 0 then
    match x.plot, x.wanted with
    | some p, true => s1.takeGroups p q x.k x.fidx x.pn (some ((natsFrom 0 48).map fun g => BitVec.ofNat 16 (payloadGroup payload g)))
    | _, _ => (s1.raiseXch 6 q x.k x.fidx (s.portPlot q) x.pn).count (Reg.XCH_CNT 4)
  else if ftype = 3 then s1.ctrlReceive q i (payloadWords payload)
  else s1

/-- A frame that decodes (R161-R163). -/
def State.rxDecoded (s : State) (q i : Nat) (x : RxSlot) (late : Int) (d : Decoded) : State :=
  let ftype := nfld d.hdr 28 4
  let s1 := ((s.onLane q i fun l => { l with undecoded := 0 }).rxFixed q i d.fixed).rxLowPower q i
  if 5 ≤ ftype then
    let s2 := s1.count (Reg.LNK_LANE_BADTYPE q i)
    if x.wanted then (s2.rxError q x 5 3).loseFrame q x else s2
  else if ftype = 4 then (if x.wanted then (s1.rxError q x 5 3).loseFrame q x else s1)
  else
    let s2 := s1.rxAliveCheck q i x late (nfld d.hdr 20 8) ftype
    if late < -16 ∨ 16 < late ∨ x.mismatch d.hdr = true then (s2.rxError q x 4 2).loseFrame q x
    else (s2.rxHeader q x d.hdr).rxPayload q i x ftype d.payload

/-- The bits of a frame in the order of arrival (R160). -/
def frameBits (f : BitVec 896) : List Bool := (natsFrom 0 896).map fun j => f.getLsbD (895 - j)

/-- Bits that reach a lane in test mode: its checker takes them, their polarity undone (R249), but for a near-end loopback,
which takes the place of the line; the far-end loopback sends them back (R266, R268). -/
def State.rxTest (s : State) (q i : Nat) (f : BitVec 896) : State :=
  let lp := s.fld (Reg.LNK_LANE_CTRL q i) 28 2
  if lp = 1 ∨ lp = 2 then s
  else
    let s1 := s.chkBits q i (frameBits (s.unInvert q i f))
    if lp = 3 then s1.sendBits q i f else s1

/-- FRAME_RECEIVE (R163): the frame of the sender's slot (pass, frame index) arrives `late` steps after its expected
time. -/
def State.frameReceive (s : State) (q i pn fidx : Nat) (late : Int) (f0 : BitVec 896) : State :=
  let x := s.rxSlot q i pn fidx
  let st := s.laneState q i
  if st = 7 then s.rxTest q i f0
  else if st = 6 ∨ st = 8 then
    let f := s.unInvert q i f0
    let s1 := match s.rxOpen q i f with
      | some d => s.rxDecoded q i x late d
      | none => s.rxUndecoded q i x
    (s1.markerWatch q i x f).wakeCheck
  else s.rxDown q x

/-- A frame meets the injections armed for its lane and for its slot (R471): a slip counts in LNK_PORT_SLIP, an exchange
condition in its counter, and those that are pass errors are charged as R163 charges them. -/
def State.rxInject (s : State) (q i pn fidx : Nat) : State :=
  let k := s.rxLogical q i
  let s1 := s.injectAt Reg.LNK_FI_CTRL (fun a => nfld a 4 4 == q && nfld a 0 4 == i) (fun _ s => s) fun cause _ s =>
    let s1 := s.raiseLnk q i cause
    if cause = 5 then s1.count (Reg.LNK_PORT_SLIP q) else s1
  s1.injectAt Reg.XCH_FI_CTRL
    (fun a => !(a.testBit 31) && nfld a 24 4 == q && nfld a 21 3 == k && nfld a 16 5 == fidx) (fun _ s => s)
    fun cause _ s => match cause with
      | 2 => s.xchError 2 0 q k fidx pn
      | 3 => s.xchError 3 1 q k fidx pn
      | 4 => s.xchError 4 2 q k fidx pn
      | 5 => s.xchError 5 3 q k fidx pn
      | 6 => (s.raiseXch 6 q k fidx (s.portPlot q) pn).count (Reg.XCH_CNT 4)
      | 7 => (s.raiseXch 7 q k fidx (s.portPlot q) pn).count (Reg.XCH_CNT 5)
      | 9 => (s.raiseXch 9 q k fidx (s.portPlot q) pn).count (Reg.XCH_CNT 7)
      | 10 => (s.raiseXch 10 q k fidx (s.portPlot q) pn).count (Reg.XCH_CNT 7)
      | c => s.raiseXch c q k fidx (s.portPlot q) pn

def execFrameReceive (port lane pn fidx : Nat) (late : Int) (frame : BitVec 896) (s : State) : Host.Outcome State Fault Refusal :=
  .next ((s.rxInject port lane pn fidx).frameReceive port lane pn fidx late frame)

end Sys2Proof.Machine
end

