-- ==== Sys2Proof/Machine/Bar0.lean ====
section
/-! DEFINITION. A BAR0 write to any register (19_register_map.md R13, R14, R504-R508): which handler takes it, and the
registers whose writes have conditions of their own. -/

namespace Sys2Proof.Machine
open Sys2Proof

/-! ## Registers with conditions of their own -/

/-- CRP_THERM_CFG (R491): a write out of range is ignored as a whole. -/
def State.thermCfgWrite (s : State) (fn a v : Nat) (r : RegRow) (is : List Nat) : State :=
  let soft := nfld v 24 8
  let hard := nfld v 16 8
  if 60 ≤ soft ∧ soft ≤ 100 ∧ 70 ≤ hard ∧ hard ≤ 105 ∧ soft < hard then
    (s.plainWrite fn a v r is).alertFrom s.alertCause
  else s.rsvdCheck fn v r.fields

/-- CRP_RST_CAUSE (R484, R491): TRIP is held in the VBAT domain. -/
def State.rstCauseWrite (s : State) (fn v : Nat) (r : RegRow) : State :=
  let s1 := s.rsvdCheck fn v r.fields
  if v.testBit 31 then { s1 with pwr := { s1.pwr with trip := false } } else s1

/-- CMD_FUNC_CFG (R388): PRIO_MAX and QUOTA are PF0's. -/
def State.funcCfgWrite (s : State) (fn a v : Nat) (r : RegRow) : State :=
  ((s.rsvdCheck fn v r.fields).pf0Field fn a 20 3 v).pf0Field fn a 0 17 v

/-- PLT_CMT_CFG (R218): a write of 0 leaves REPLAY_LIMIT unchanged. -/
def State.cmtCfgWrite (s : State) (fn a v : Nat) (r : RegRow) (is : List Nat) : State :=
  s.plainWrite fn a (if nfld v 0 4 = 0 then putFld v 0 4 (s.fld a 0 4) else v) r is

/-- PLT_INT_CFG (R459): a write of a VEC outside the owner's table is ignored. -/
def State.intCfgWrite (s : State) (fn a v : Nat) (r : RegRow) (is : List Nat) : State :=
  if vectors (s.plot (is.headD 0)).id.owner ≤ nfld v 0 11 then s.rsvdCheck fn v r.fields
  else (s.plainWrite fn a v r is).intEmptied (is.headD 0)

/-- The configuration of a signature unit (R319): direct writes are ignored while its plot runs. -/
def State.sigCfgWrite (s : State) (fn a v : Nat) (r : RegRow) (is : List Nat) : State :=
  match s.holder Res.sigs (is.headD 0) with
  | some p => if s.plotRuns p then s.rsvdCheck fn v r.fields else s.plainWrite fn a v r is
  | none => s.plainWrite fn a v r is

/-- XCH_DEV_ID (R182): ignored while any plot is released. -/
def State.devIdWrite (s : State) (fn a v : Nat) (r : RegRow) (is : List Nat) : State :=
  if s.anyReleased then s.rsvdCheck fn v r.fields else s.plainWrite fn a v r is

/-- SOW_SOWN_MASK (R352): ignored while any masked plot is RELEASING. -/
def State.sownMaskWrite (s : State) (fn a v : Nat) (r : RegRow) (is : List Nat) : State :=
  if s.livePlots.any (fun p => s.bit a p && s.sow p == Sow.releasing) then s.rsvdCheck fn v r.fields
  else (s.plainWrite fn a v r is).sownPin

/-- GLN_BKT_CFG (R472): a write of the reserved UNIT is ignored. -/
def State.bktCfgWrite (s : State) (fn a v : Nat) (r : RegRow) (is : List Nat) : State :=
  if nfld v 14 2 = 3 then s else s.plainWrite fn a v r is

/-- A new FT_CFG (R279, R292): the priority takes part in the choice of the grandmaster. -/
def State.ftCfgWrite (s : State) (fn a v : Nat) (r : RegRow) (is : List Nat) : State :=
  let s1 := (s.plainWrite fn a v r is).ppsGate
  if s1.running then s1.selectGm else s1

/-- The monitor is locked, in FIELD (R495, R502). -/
def State.monLock (s : State) : State :=
  if s.boot.lifecycle = 2 then { s with svc := { s.svc with locked := true } } else s

def State.monCtrlWrite (s : State) (fn v : Nat) (r : RegRow) : State :=
  let s1 := s.rsvdCheck fn v r.fields
  if v.testBit 31 then s1.monLock else s1

/-! ## Dispatch -/

/-- The harvest registers that only TRACE_CONFIG writes (R434). -/
def hvtRw (base : Nat) : Bool :=
  [Reg.HVT_CFG 0, Reg.HVT_RING 0, Reg.HVT_POST 0, Reg.HVT_HOLD 0, Reg.HVT_SEQST_MASK 0 0, Reg.HVT_SEQST_CTL 0 0,
   Reg.HVT_TU_CFG 0, Reg.HVT_TU_SRC 0, Reg.HVT_TU_MASK 0, Reg.HVT_TU_LO 0, Reg.HVT_TU_HI 0].contains base

/-- Writes of the DEV to SOW blocks whose registers act. -/
def State.writeLow (s : State) (fn a v nonce : Nat) (r : RegRow) (is : List Nat) : State :=
  let b := r.base
  if b = Reg.CRP_THERM_CFG then s.thermCfgWrite fn a v r is
  else if b = Reg.CRP_RST_CAUSE then s.rstCauseWrite fn v r
  else if b = Reg.CRP_DEV_RESET then s.devResetWrite fn v nonce r
  else if b = Reg.FT_CFG then s.ftCfgWrite fn a v r is
  else if b = Reg.CMD_FUNC_Q 0 then s.rangeWrite fn a v r is
  else if b = Reg.CMD_FUNC_CFG 0 then s.funcCfgWrite fn a v r
  else if b = Reg.PLT_CMT_CFG 0 then s.cmtCfgWrite fn a v r is
  else if b = Reg.PLT_INT_CFG 0 then s.intCfgWrite fn a v r is
  else if b = Reg.PLT_INT_STAT 0 then (s.plainWrite fn a v r is).intEmptied (is.headD 0)
  else if b = Reg.SOW_BOOT_CTRL then s.goWrite fn v r
  else if b = Reg.SOW_CFG then (s.plainWrite fn a v r is).sownPin
  else if b = Reg.SOW_SOWN_MASK then s.sownMaskWrite fn a v r is
  else s.plainWrite fn a v r is

/-- Writes of the HVT to MON blocks whose registers act. -/
def State.writeMid (s : State) (fn a v : Nat) (r : RegRow) (is : List Nat) : State :=
  let b := r.base
  if hvtRw b then s.rsvdCheck fn v r.fields
  else if b = Reg.GLN_CFG then s.glnCfgWrite fn v r
  else if b = Reg.GLN_HBM_RATE then s.hbmRateWrite fn a v r is
  else if Reg.GLN_BKT_CFG0 ≤ b ∧ b ≤ Reg.GLN_BKT_CFG5 then s.bktCfgWrite fn a v r is
  else if b = Reg.FIO_CMP_ACK 0 then
    (if v % 2 ^ 32 = 0 then s.clrBit (Reg.FIO_CMP_FIRST (is.headD 0)) 31 else s)
  else if Reg.SIG_CFG 0 ≤ b ∧ b ≤ Reg.SIG_EXP_HI 0 then s.sigCfgWrite fn a v r is
  else if b = Reg.SPM_BANK_OWNER 0 then s.bankWrite fn (is.headD 0) v r
  else if b = Reg.NOC_CFG then s.nocCfgWrite fn v r
  else if b = Reg.XCH_DEV_ID then s.devIdWrite fn a v r is
  else if b = Reg.MON_CTRL then s.monCtrlWrite fn v r
  else s.plainWrite fn a v r is

/-- Writes of the LNK, FUR and QCF ranges whose registers act. -/
def State.writeHigh (s : State) (fn a v : Nat) (r : RegRow) (is : List Nat) : State :=
  let b := r.base
  if b = Reg.LNK_LANE_CTRL 0 0 then s.laneCtrlWrite fn v r is
  else if b = Reg.LNK_LANE_TEST 0 0 then s.laneTestWrite fn v r is
  else if b = Reg.LNK_PORT_CTRL 0 then s.portCtrlWrite fn v r is
  else if b = Reg.LNK_TX_CORR 0 0 ∨ b = Reg.LNK_RX_CORR 0 0 then s.corrWrite fn a v r is
  else if b = Reg.FUR_GATE 0 then s.gateWrite fn a v r is
  else if r.cls = .queue then s.queueWrite fn a v r is
  else s.plainWrite fn a v r is

/-- The first acknowledge, history acknowledge, clear and injection registers of every block (R17, R107, R108, R471);
none for any other register. -/
def State.writeCommon (s : State) (fn a v : Nat) (r : RegRow) (is : List Nat) : Option State :=
  match blkOfAck a, blkOfHistAck a, injectStat a, injectStat (a - 4) with
  | some b, _, _, _ => some ((s.rsvdCheck fn v r.fields).firstAck b (v % 2 ^ 32))
  | _, some b, _, _ => some ((s.rsvdCheck fn v r.fields).histAck b v)
  | _, _, some (stat, furrow), _ => some (s.injectWrite fn a v stat furrow r)
  | _, _, _, some _ => some (if s.boot.lifecycle = 0 then s.plainWrite fn a v r is else s)
  | _, _, _, _ =>
    if (findCnt CntRow.clr a cntRows).isSome ∨ (bitsClrOf a).isSome then
      some ((s.rsvdCheck fn v r.fields).clearWrite a (v % 2 ^ 32))
    else none

/-- A write to a register that the gate has passed. -/
def State.writeReg (s : State) (fn a v nonce : Nat) (r : RegRow) (is : List Nat) : State :=
  match s.writeCommon fn a v r is with
  | some s1 => s1
  | none =>
    if a < 0x60000 then s.writeLow fn a v nonce r is
    else if a < 0x100000 then s.writeMid fn a v r is
    else s.writeHigh fn a v r is

/-- A write brings the three copies of a control triple into step (R469). -/
def State.tripleSet (s : State) (a : Nat) : State :=
  if s.gln.upset = [] then s else { s with gln := { s.gln with upset := cdel s.gln.upset (a - Reg.GLN_CFG) } }

/-- An aligned 32-bit write at a BAR0 offset, with the rights of a function or of the monitor as 64 (R504-R506). -/
def State.bar0Write (s : State) (fn a v nonce : Nat) : State :=
  if a < 0x2000000 ∨ (s.running = true ∧ a < 0x2040000) then
    s.opened fn a fun s r is => (s.writeReg fn a v nonce r is).tripleSet a
  else if a % 4 ≠ 0 then s.devStat fn 1
  else if s.running = false then (if isAdmin fn then s.bootWrite (a - 0x2000000) (leBytes 4 v) else s)
  else if 0x2400000 ≤ a ∧ a < 0x2800000 then s.aliasWrite fn 0x2400000 a 7 v fun d => d ||| v
  else if 0x2800000 ≤ a ∧ a < 0x2c00000 then s.aliasWrite fn 0x2800000 a 8 v fun d => d - (d &&& v)
  else if 0x3000000 ≤ a then s.spmAccess fn (a - 0x3000000) 4 (some (leBytes 4 v))
  else s.devStat fn 2

/-- Size of BAR0 (R503, R504). -/
def bar0Size : Nat := 0x4000000

/-- A write by a function or the monitor; a device reset draws its nonce as a free value. -/
def State.bar0WriteFree (s : State) (fn a v : Nat) : State :=
  if a = Reg.CRP_DEV_RESET then s.takeFree128.2.bar0Write fn a (v % 2 ^ 32) s.takeFree128.1
  else s.bar0Write fn a (v % 2 ^ 32) 0

/-! ## Configuration space and the MSI-X table (R390, R393, R398, R406, R408, R460) -/

/-- NumVFs of a PF while VF Enable is set, else 0: VFs that cease to exist go as by FLR (R398). -/
def State.numVfsWrite (s : State) (fn v : Nat) : State :=
  if 4 ≤ fn then s
  else
    let n := min 15 v
    let gone := (vfsOf fn).filter fun f => s.enabledFn f && decide (n < (f - 4) % 15 + 1)
    let old := s.enabledFn
    let s1 := gone.foldl (fun s f => s.resetFn f) s
    let s2 := ((vfsOf fn).filter fun f => !(old f) && decide ((f - 4) % 15 + 1 ≤ n)).foldl State.drainStart s1
    { s2 with host := { s2.host with numVfs := cset 0 s2.host.numVfs fn n } }

/-- The Function Mask (R460): once it is clear, the pending messages of unmasked vectors are sent. -/
def State.funcMaskWrite (s : State) (fn : Nat) (on : Bool) : State :=
  let s1 := { s with host := { s.host with funcMask := cset false s.host.funcMask fn on } }
  if on then s1
  else (natsFrom 0 (vectors fn)).foldl (fun s vec =>
    if cget false s.host.msixPend (fn * 2048 + vec) && cget false s.host.unmasked (fn * 2048 + vec) then s.unmaskVec fn vec
    else s) s1

/-- A write of configuration space or of the MSI-X table. -/
def State.cfgWrite (s : State) (fn v : Nat) : CfgItem → State
  | .numVfs => s.numVfsWrite fn v
  | .atsEnable => { s with host := { s.host with ats := cset false s.host.ats fn (v.testBit 0) } }
  | .priAllocation => { s with host := { s.host with priAlloc := cset 0 s.host.priAlloc fn (v % 2 ^ 32) } }
  | .functionMask => s.funcMaskWrite fn (v.testBit 0)
  | .vectorMask vec =>
    if v.testBit 0 then { s with host := { s.host with unmasked := cset false s.host.unmasked (fn * 2048 + vec % 2048) false } }
    else s.unmaskVec fn vec

/-- REGISTER_WRITE (R13, R14, R504-R508): by a function over its link; configuration space answers in D3hot too. -/
def execRegisterWrite (fn : Nat) (target : WriteTarget) (v : Nat) (s : State) : Host.Outcome State Fault Refusal :=
  match target with
  | .bar0 a => if bar0Size ≤ a then .fault .outsideBar else .next (if s.hostDown fn then s else s.bar0WriteFree fn a v)
  | .cfg item => .next (if s.linksDown || !(s.enabledFn fn) then s else s.cfgWrite fn v item)

/-- MON_CTRL_LOCK (R495, R502): a function writes MON_CTRL. -/
def execMonCtrlLock (fn v : Nat) (s : State) : Host.Outcome State Fault Refusal :=
  .next (s.gated fn Reg.MON_CTRL fun s r _ => s.monCtrlWrite fn v r)

end Sys2Proof.Machine
end

