-- ==== Sys2Proof/Machine/Read.lean ====
section
/-! DEFINITION. A BAR0 read: rights, computed registers and latches (R40, R292, R456, R504-R507, R512). The model's one
reader is the monitor, as reader 64. -/

namespace Sys2Proof.Machine
open Sys2Proof

/-! ## Computed registers -/

def b2 (b : Bool) (i : Nat) : Nat := if b then 2 ^ i else 0

/-- First dword of configuration space of a function: vendor ID 0x1F5A, and device ID 0x9600 of a PF or 0x9601 of a VF (R3). -/
def configId (fn : Nat) : Nat := (if isPf fn then 0x9600 else 0x9601) * 65536 + 0x1F5A

/-- DEV_REV (R512). -/
def State.devRev (s : State) : Nat :=
  s.boot.dieRev % 16 * 65536 + (if s.boot.grade20 then 1 else 2) * 16384 + 4096 + s.stepMhz

/-- DEV_FUNC of a reader (R390, R512). -/
def State.devFunc (s : State) (fn : Nat) : Nat :=
  let f := fn % 64
  let pbif := if s.host.strap = 3 then 0 else s.host.strap
  if f < 4 then 2 ^ 31 + f * 2 ^ 22 + f * 2 ^ 20 + pbif * 2 ^ 14
  else f * 2 ^ 22 + (f - 4) / 15 * 2 ^ 20 + ((f - 4) % 15 + 1) * 2 ^ 16 + pbif * 2 ^ 14

/-- DEV_VER (R255, R331, R384, R428, R512). -/
def State.devVer (s : State) : Nat := if s.running then 0x11111010 else 0

/-- SOW_KEY_STAT (R352): VBAT_LOST is kept, the rest follows the slots. -/
def State.keyStat (s : State) : Nat :=
  ((natsFrom 0 8).map fun k => b2 (s.keySet k) k).sum + b2 (s.bit Reg.SOW_KEY_STAT 8) 8 + b2 (s.keySet 16) 9 + b2 (s.keySet 17) 10

/-- FUR_ID of a physical furrow (R103, R104, R109). -/
def State.furId (s : State) (p : Nat) : Nat :=
  match s.logicalOf p with
  | some l => l * 2 ^ 10 + p
  | none =>
    if s.fur.failed.contains p then 2 * 2 ^ 30 + p
    else if s.boot.fusedOut.contains p then 3 * 2 ^ 30 + p
    else 2 ^ 30 + p

/-- PLT_PMAP_DATA of a reader (R423). -/
def State.pmapData (s : State) (fn : Nat) : Nat :=
  let idx := (s.copyRd fn Reg.PLT_PMAP_IDX).toNat
  let p := nfld idx 24 4
  if isAdmin fn || (s.plot p).id.live && (s.plot p).id.owner == fn then
    match (s.plot p).res.map[nfld idx 0 15]? with
    | some e => 2 ^ 31 + b2 e.lifted 30 + e.use % 8 * 2 ^ 27 + e.page % 2 ^ 15
    | none => 0
  else 0

/-- The XT entry that a reader's window names (R183): PF0 any entry, an owner those of its plots' regions. -/
def State.xtWindow (s : State) (fn : Nat) : Nat :=
  let e := (s.copyRd fn Reg.XCH_XT_IDX).toNat
  if isAdmin fn || s.scrubMine fn 2 e then (cget 0 s.xch.xt e).toNat else 0

/-- CMD_FLT_SUM (R473): a block some instance of which holds a valid FIRST. -/
def State.fltSum (s : State) : Nat :=
  let valid := fun (b : Blk) => s.bit b.first 31
  b2 ((natsFrom 0 528).any fun f => valid (Blk.furrow f)) 1 + b2 ((natsFrom 0 4).any fun a => valid (Blk.acre a)) 2 +
    (singleBlks.map fun b => b2 (valid b) b.code).sum

/-- Seconds of the monitor's lockout that remain (R497). -/
def State.waitS (s : State) : Nat := (s.svc.delayEnd - s.ftNs + 999999999) / 1000000000

/-- The monitor answers with the lock prompt (R492, R495). -/
def State.monLocked (s : State) : Bool := s.boot.lifecycle == 2 && s.svc.locked

/-- MON_STAT (R502). -/
def State.monStat (s : State) : Nat :=
  b2 s.monLocked 31 + b2 (s.svc.scan != 0) 30 + s.svc.fails % 256 * 65536 + s.waitS % 8192

/-- A dword of the route table entry that NOC_RT_IDX names (R422, R425). -/
def State.routeWord (s : State) (i : Nat) : Nat :=
  let on := s.fld Reg.NOC_CFG 24 4
  let w := (Config.routeEntry on (s.fld Reg.NOC_RT_IDX 0 16) i).toNat
  if i = 3 then w &&& (0x9f000000 + on) else w

/-- A register of the DEV to SOW blocks as a reader sees it, latches aside. -/
def State.valueLow (s : State) (fn a : Nat) (is : List Nat) : Nat :=
  let p := is.headD 0
  if a = Reg.DEV_REV then s.devRev
  else if a = Reg.DEV_FUNC then s.devFunc fn
  else if a = Reg.DEV_STAT ∨ a = Reg.DEV_SCRATCH then (s.copyRd fn a).toNat
  else if Reg.DEV_SERIAL 0 ≤ a ∧ a ≤ Reg.DEV_SERIAL 3 then nfld s.boot.serial (32 * p) 32
  else if a = Reg.DEV_VER then s.devVer
  else if a = Reg.CRP_RST_CAUSE then b2 s.pwr.trip 31 + s.fld a 0 4
  else if a = Reg.FT_NS_LO then s.ftNs % 2 ^ 32
  else if a = Reg.CMD_FLT_SUM then s.fltSum
  else if a = Reg.PLT_HL_CFG p then s.hlCfg p
  else if a = Reg.PLT_PN_LO p then (s.plot p).tm.pn % 2 ^ 32
  else if a = Reg.PLT_CPN_LO p then (s.plot p).tm.cpn % 2 ^ 32
  else if a = Reg.PLT_PMAP_IDX then (s.copyRd fn a).toNat
  else if a = Reg.PLT_PMAP_DATA then s.pmapData fn
  else if a = Reg.SOW_FW_SVN then s.boot.fusedMin % 256 * 256 + s.fld a 0 8
  else if a = Reg.SOW_LIFECYCLE then s.boot.lifecycle
  else if a = Reg.SOW_KEY_STAT then s.keyStat
  else s.rn a

/-- A register of any other block. -/
def State.valueHigh (s : State) (fn a : Nat) (is : List Nat) : Nat :=
  let p := is.headD 0
  if a = Reg.HVT_STAGE then s.staged / 16 % 2 ^ 24
  else if Reg.NOC_RT_DATA 0 ≤ a ∧ a ≤ Reg.NOC_RT_DATA3 then s.routeWord ((a - Reg.NOC_RT_DATA 0) / 4)
  else if a = Reg.XCH_XT_IDX then (s.copyRd fn a).toNat
  else if a = Reg.XCH_XT_DATA_LO then s.xtWindow fn % 2 ^ 32
  else if a = Reg.XCH_XT_DATA_HI then s.xtWindow fn / 2 ^ 32
  else if a = Reg.MON_STAT then s.monStat
  else if a = Reg.FUR_ID p then s.furId p
  else if a = Reg.FUR_UNDO_STAT p then s.fld a 16 9 * 65536 + s.undoUsed p % 512
  else if Reg.FUR_MAP 0 ≤ a ∧ a ≤ Reg.FUR_MAP 511 then s.phys p
  else if s.boot.lifecycle ≠ 0 ∧ ((injectStat a).isSome ∨ (injectStat (a - 4)).isSome) then 0
  else s.rn a

/-! ## Latches -/

/-- LO registers that latch their HI half (R40). -/
def latchBases : List Nat := [Reg.PLT_PN_LO 0, Reg.PLT_CPN_LO 0, Reg.PLT_SW_SWAP_PN_LO 0, Reg.PLT_FAIL_PN_LO 0,
  Reg.PLT_STAKE_PN_LO 0, Reg.FT_PPS_STAMP_LO, Reg.HVT_TRIG_PN_LO 0, Reg.HVT_STOP_PN_LO 0, Reg.GLN_HBM_POS_LO,
  Reg.FIO_CMP_PN_LO 0, Reg.FIO_CMP_FT_LO 0, Reg.SIG_LAST_PN_LO 0, Reg.XCH_RGN_SWAP_PN_LO 0, Reg.LNK_LANE_PRBS_BITS_LO 0 0]

/-- First registers of FIRST and of the history rings (R456). -/
def firstBases : List Nat := ([Blk.furrow 0, Blk.acre 0] ++ singleBlks).map (·.first)
def histBases : List Nat := ([Blk.furrow 0, Blk.acre 0] ++ singleBlks).map (·.hist)

/-- The upper half that a LO read latches. -/
def State.upper (s : State) (base a p : Nat) : Nat :=
  if base = Reg.PLT_PN_LO 0 then (s.plot p).tm.pn / 2 ^ 32
  else if base = Reg.PLT_CPN_LO 0 then (s.plot p).tm.cpn / 2 ^ 32
  else s.rn (a + 4)

def State.latchHi (s : State) (fn a v : Nat) : State := s.copyWr fn a (BitVec.ofNat 32 v)

/-- What reading a register latches for its reader (R40, R292, R456). -/
def State.latchRead (s : State) (fn a : Nat) (r : RegRow) (is : List Nat) : State :=
  if r.base = Reg.FT_NS_LO then
    (s.latchHi fn Reg.FT_NS_HI (s.ftNs / 2 ^ 32)).latchHi fn Reg.FT_FRAC (s.ft.ft % 2 ^ 32)
  else if latchBases.contains r.base then s.latchHi fn (a + 4) (s.upper r.base a (is.headD 0))
  else if firstBases.contains r.base then (natsFrom 1 5).foldl (fun s i => s.latchHi fn (a + 4 * i) (s.rn (a + 4 * i))) s
  else if histBases.contains r.base then (natsFrom 1 3).foldl (fun s i => s.latchHi fn (a + 4 * i) (s.rn (a + 4 * i))) s
  else s

/-- A register that returns what was latched. -/
def latched (base : Nat) : Bool :=
  base == Reg.FT_NS_HI || base == Reg.FT_FRAC || (decide (4 ≤ base) && latchBases.contains (base - 4)) ||
    firstBases.any (fun f => decide (f < base ∧ base ≤ f + 20)) || histBases.any fun h => decide (h < base ∧ base ≤ h + 12)

/-! ## The read -/

/-- A register read that the gate has passed. -/
def State.readReg (s : State) (fn a : Nat) (r : RegRow) (is : List Nat) : Nat × State :=
  if latched r.base then ((s.copyRd fn a).toNat, s)
  else (if a < 0x60000 then s.valueLow fn a is else s.valueHigh fn a is, s.latchRead fn a r is)

/-- An aligned 32-bit read at a BAR0 offset (R504-R506): the value and the state after it. -/
def State.bar0Read (s : State) (fn a : Nat) : Nat × State :=
  if a % 4 ≠ 0 then (0xffffffff, s.devStat fn 1)
  else if a < 0x2000000 ∨ (s.running = true ∧ a < 0x2040000) then
    if !s.running && !servedEarly a then (0, s)
    else match regAt a with
      | none => (0, s)
      | some (r, is) => if s.mayRead fn r.cls (is.headD 0) then s.readReg fn a r is else (0, s.devStat fn 3)
  else if s.running = false then (if isAdmin fn then leNat (cgetList 0 s.boot.window (a - 0x2000000) 4) else 0, s)
  else
    let off := if 0x3000000 ≤ a then some (a - 0x3000000)
      else if 0x2400000 ≤ a ∧ a < 0x2c00000 then some ((a - 0x2400000) % 0x400000 / 65536 * 2 ^ 18 + a % 65536)
      else none
    match off with
    | none => (0, s)
    | some o =>
      let s1 := s.spmAccess fn o 4 none
      (leNat (s1.out.data.getD []), { s1 with out := { s1.out with data := s.out.data } })

end Sys2Proof.Machine
end

