-- ==== Sys2Proof/Machine/Service.lean ====
section
/-! DEFINITION. The Dziene monitor, the FIELD lock, JTAG and SMBus (18_service_access.md R492-R502). The spec gives the
monitor's fixed lines; how it prints a value is the model's choice: hexadecimal, most significant digit first (log 40). -/

namespace Sys2Proof.Machine
open Sys2Proof

/-! ## Text -/

def hexDigit (n : Nat) : Char := if n < 10 then Char.ofNat (48 + n) else Char.ofNat (87 + n)

/-- The low k hexadecimal digits of a number, most significant first. -/
def hexChars : Nat → Nat → List Char
  | 0, _ => []
  | k + 1, n => hexDigit (n / 16 ^ k % 16) :: hexChars k n

def hex (k n : Nat) : String := String.ofList (hexChars k n)

/-- Bytes in order, two digits each. -/
def hexBytes (bs : List Byte) : String := bs.foldl (fun a b => a ++ hex 2 b.toNat) ""

def spaced (l : List String) : String := String.intercalate " " l

/-- Decimal digits of a number below 10,000. -/
def decimal (n : Nat) : String :=
  let ds := [n / 1000 % 10, n / 100 % 10, n / 10 % 10, n % 10].dropWhile (· == 0)
  String.ofList ((if ds.isEmpty then [0] else ds).map hexDigit)

/-! ## The monitor's lines (R493, R494) -/

/-- The monitor sends nothing: tripped (R484), its pins taken by a scan (R499), or MON_CFG.DIS (R493). -/
def State.monSilent (s : State) : Bool := s.linksDown || s.bit Reg.MON_CFG 31

def State.say (s : State) (lines : List String) : State := { s with out := { s.out with mon := s.out.mon ++ lines } }

/-- Lines of an answer, and the prompt. -/
def State.answer (s : State) (lines : List String) : State := s.say (lines ++ ["pw> "])

/-- 16 bytes, byte 0 first. -/
def bytes16 (n : Nat) : List Byte := leBytes 16 n

/-- The lock prompt with the newest nonce (R495). -/
def State.lockPrompt (s : State) : State :=
  let bs := bytes16 s.svc.nonce
  s.say [spaced ("locked" :: (natsFrom 0 4).map fun i => hexBytes ((bs.drop (4 * i)).take 4))]

/-- A command line other than unlock: the lock comes first (R495), then the boot ROM's limit (R493). -/
def State.monLine (s : State) (early : Bool) (k : State → State) : State :=
  if s.monSilent then s
  else if s.monLocked then s.lockPrompt
  else if !s.running && !early then s.answer ["err boot"]
  else k s

/-- Word for the lifecycle state and the grade. -/
def lifecycleName (n : Nat) : String := if n = 0 then "FACTORY" else if n = 1 then "DEVELOPMENT" else "FIELD"

/-- MON_VER (R494). -/
def execMonVer (s : State) : Host.Outcome State Fault Refusal :=
  .next (s.monLine true fun s => s.answer [spaced [hex 8 (s.rn Reg.SOW_FW_VER), hexBytes (bytes16 s.boot.serial),
    lifecycleName s.boot.lifecycle, if s.boot.grade20 then "-20" else "-17"]])

/-- Consecutive dwords as the monitor reads them; before RUNNING only the blocks of R324. -/
def State.monPeek (s : State) : Nat → Nat → List String × State
  | _, 0 => ([], s)
  | a, n + 1 =>
    let r := s.bar0Read 64 a
    let rest := r.2.monPeek (a + 4) n
    (hex 8 r.1 :: rest.1, rest.2)

/-- A peek of the monitor: aligned, in range, and before RUNNING in the served blocks. -/
def State.peekOk (s : State) (a n : Nat) : Bool :=
  decide (1 ≤ n ∧ n ≤ 256 ∧ a % 4 = 0 ∧ a + 4 * n ≤ bar0Size) && (s.running || servedEarly a)

/-- MON_PEEK (R480, R493, R494). -/
def execMonPeek (a n : Nat) (s : State) : Host.Outcome State Fault Refusal :=
  .next (s.monLine true fun s =>
    if s.peekOk a n then
      let r := s.monPeek a n
      r.2.answer [spaced r.1]
    else s.answer ["err param"])

/-- MON_POKE (R494): one dword with PF0's rights. -/
def execMonPoke (a v : Nat) (s : State) : Host.Outcome State Fault Refusal :=
  .next (s.monLine false fun s =>
    if a % 4 ≠ 0 ∨ bar0Size ≤ a ∨ 2 ^ 32 ≤ v then s.answer ["err param"] else (s.bar0WriteFree 64 a v).answer ["ok"])

/-- The error block of a code and an instance (R455). -/
def blkOfCode (b i : Nat) : Option Blk :=
  if b = 1 then (if i < 528 then some (Blk.furrow i) else none)
  else if b = 2 then (if i < 4 then some (Blk.acre i) else none)
  else if i = 0 then singleBlks.find? fun x => x.code == b
  else none

/-- A history entry is unread: one of the UNREAD newest. -/
def State.histUnread (s : State) (b : Blk) (e : Nat) : Bool :=
  decide ((s.fld b.ptr 0 4 + 16 - e) % 16 < s.fld b.ptr 16 5)

/-- MON_HIST (R494): the 16 entries, unread ones marked, and FIRST; nothing is acknowledged. -/
def execMonHist (b i : Nat) (s : State) : Host.Outcome State Fault Refusal :=
  .next (s.monLine false fun s => match blkOfCode b i with
    | none => s.answer ["err param"]
    | some x =>
      let entry := fun e => (if s.histUnread x e then "*" else "") ++
        spaced ((natsFrom 0 4).map fun k => hex 8 (s.rn (x.hist + 16 * e + 4 * k)))
      s.answer ((natsFrom 0 16).map entry ++ [spaced ((natsFrom 0 6).map fun k => hex 8 (s.rn (x.first + 4 * k)))]))

/-- MON_EYE (R494): the scan's result is analog and not stated: a free value. -/
def execMonEye (port lane : Nat) (s : State) : Host.Outcome State Fault Refusal :=
  .next (s.monLine false fun s =>
    if 16 ≤ port ∨ 9 ≤ lane then s.answer ["err param"]
    else if s.laneServes port lane then s.answer ["err busy"]
    else (s.takeFree 64).2.answer [hex 16 (s.takeFree 64).1])

/-- MON_STAKE (R494): PLT_STAKE_STAT, the recovery point and the slices. -/
def execMonStake (p : Nat) (s : State) : Host.Outcome State Fault Refusal :=
  .next (s.monLine false fun s =>
    if 16 ≤ p then s.answer ["err param"]
    else s.answer [spaced [hex 8 (s.rn (Reg.PLT_STAKE_STAT p)), hex 16 (s.rn64 (Reg.PLT_STAKE_PN_LO p)),
      hex 4 (s.fld (Reg.PLT_STAKE_STAT p) 13 16)]])

/-- MON_TEMP (R494). -/
def execMonTemp (s : State) : Host.Outcome State Fault Refusal :=
  .next (s.monLine false fun s => s.answer (spaced [hex 4 (s.fld Reg.CRP_THERM_STAT 16 16), hex 2 (s.fld Reg.CRP_THERM_STAT 10 6)] ::
    (natsFrom 0 64).map fun i => hex 8 (s.rn (Reg.CRP_TEMP i))))

/-- Baud rates (R493). -/
def baudRates : List Nat := [115200, 230400, 460800, 921600, 1500000, 3000000]

/-- MON_BAUD (R493): the rate changes after the answer. -/
def execMonBaud (r : Nat) (s : State) : Host.Outcome State Fault Refusal :=
  .next (s.monLine false fun s =>
    if baudRates.contains r then
      let s1 := s.answer ["ok"]
      { s1 with svc := { s1.svc with baud := r } }
    else s.answer ["err param"])

/-- MON_LOCK (R494): in FIELD only. -/
def execMonLock (s : State) : Host.Outcome State Fault Refusal :=
  .next (s.monLine false fun s => if s.boot.lifecycle = 2 then s.monLock.say ["ok"] else s.answer ["err param"])

/-! ## Unlocking (R495-R497) -/

/-- Seconds of delay after the n-th consecutive failure. -/
def unlockDelay (n : Nat) : Nat := if n < 8 then 0 else min 4096 (2 ^ (n - 8))

/-- A failed attempt: the count, the delay and a new nonce. -/
def State.unlockFail (s : State) (nonce : Nat) : State :=
  let n := min 255 (s.svc.fails + 1)
  let wait := unlockDelay n
  { s with svc := { s.svc with fails := n, nonce := nonce % 2 ^ 128,
                               delayEnd := if wait = 0 then 0 else s.ftNs + wait * 1000000000 } }.lockPrompt

def State.unlocked (s : State) : State :=
  { s with svc := { s.svc with locked := false, fails := 0, delayEnd := 0 } }.answer ["unlocked"]

/-- An unlock line: well formed or not, and whether its answer is right. -/
def State.unlockLine (s : State) (ok right : Bool) (nonce : Nat) : State :=
  if s.monSilent then s
  else if !s.running then s.say ["err boot"]
  else if !s.monLocked then s.answer ["unlocked"]
  else if s.waitS ≠ 0 then s.say ["err wait " ++ decimal s.waitS]
  else if !ok then s.say ["err param"]
  else if right then s.unlocked
  else s.unlockFail nonce

/-- MON_UNLOCK_PASSWORD (R496): 8 to 64 printable characters without spaces. -/
def execMonUnlockPassword (w : List Byte) (nonce : Nat) (s : State) : Host.Outcome State Fault Refusal :=
  .next (s.unlockLine (decide (8 ≤ w.length ∧ w.length ≤ 64) && w.all fun b => decide (0x21 ≤ b.toNat ∧ b.toNat ≤ 0x7e))
    (s.keySet 17 && sha256 (bytes16 s.boot.serial ++ w) == cget [] s.boot.keys 17) nonce)

/-- The 16 bytes that four groups of eight digits spell, first digits first. -/
def groupBytes (g : List Word) : List Byte := g.flatMap fun w => (leBytes 4 w.toNat).reverse

/-- MON_UNLOCK_RESPONSE (R496). -/
def execMonUnlockResponse (g : List Word) (nonce : Nat) (s : State) : Host.Outcome State Fault Refusal :=
  .next (s.unlockLine (g.length == 4)
    (s.keySet 16 &&
      groupBytes g == (hmacSha256 (cget [] s.boot.keys 16) (bytes16 s.svc.nonce ++ bytes16 s.boot.serial)).take 16) nonce)

/-- UNLOCK_DELAY_EXPIRY (R497): the delay runs out. -/
def execUnlockDelayExpiry (s : State) : Host.Outcome State Fault Refusal :=
  .next <|
    if s.svc.delayEnd = 0 then s
    else
      let s1 := s.waitUntil s.svc.delayEnd
      { s1 with svc := { s1.svc with delayEnd := 0 } }

/-! ## JTAG (R498-R500) -/

/-- A lock ends a debug access at the next Update-IR (R500). -/
def State.updateIr (s : State) : State :=
  if s.monLocked then { s with svc := { s.svc with debugAccess := false } } else s

/-- SCAN_INSTRUCTION (R499): k counts EXTEST, EXTEST_PULSE, EXTEST_TRAIN, CLAMP, HIGHZ. The record's cause is not stated: a
free value. -/
def execScanInstruction (k : Nat) (s : State) : Host.Outcome State Fault Refusal :=
  .next <|
    if 5 ≤ k then s.updateIr
    else
      let s1 := (s.updateIr.livePlots.filter fun p => s.sow p == Sow.released).foldl State.recoveryFailed s.updateIr
      let f := s1.lanesOff.takeFree 5
      let s2 := f.2.faultRec Block.crp f.1 0 none 0 false f.2.devId
      { s2 with svc := { s2.svc with scan := k + 1 } }

/-- DEBUG_INSTRUCTION (R500): BYPASS while the FIELD monitor is locked. Open, it acts on a debug unit that the spec does not
describe. -/
def execDebugInstruction (op : Nat) (s : State) : Host.Outcome State Fault Refusal :=
  let _ := op
  if s.monLocked then .next s.updateIr else .refused .privateDebug

/-! ## SMBus (R501) -/

/-- A block read answers with its data; with the pins taken by a scan nothing answers. -/
def State.smbData (s : State) (bs : List Byte) : State :=
  { s with out := { s.out with smb := if s.svc.scan = 0 then some bs else none } }

def execSmbLifecycle (s : State) : Host.Outcome State Fault Refusal := .next (s.smbData (leBytes 1 s.boot.lifecycle))

/-- Tmax and the hottest sensor: CRP_THERM_STAT [31:10]. -/
def execSmbTmax (s : State) : Host.Outcome State Fault Refusal := .next (s.smbData (leBytes 3 (s.fld Reg.CRP_THERM_STAT 10 22)))

def execSmbSensorSelect (v : Nat) (s : State) : Host.Outcome State Fault Refusal :=
  .next (if s.svc.scan = 0 then { s with svc := { s.svc with sensor := v % 65536 }, out := { s.out with smb := none } } else s)

/-- The selected CRP_TEMP: for an index above 63 the spec states no reading, a free value. -/
def execSmbSensorRead (s : State) : Host.Outcome State Fault Refusal :=
  .next <|
    if s.svc.sensor < 64 then s.smbData (leBytes 2 (s.fld (Reg.CRP_TEMP s.svc.sensor) 0 16))
    else (s.takeFree 16).2.smbData (leBytes 2 (s.takeFree 16).1)

/-- Rail powers in units of 0.125 W, as the board's sensors give them: 20 rails and the total. -/
def execSmbRailPower (watts : List Nat) (s : State) : Host.Outcome State Fault Refusal :=
  .next (s.smbData ((natsFrom 0 21).flatMap fun i => leBytes 2 (watts.getD i 0)))

def execSmbPowerResetStatus (s : State) : Host.Outcome State Fault Refusal :=
  .next (s.smbData (leBytes 4 (s.rn Reg.CRP_PWR_STAT) ++ leBytes 4 (b2 s.pwr.trip 31 + s.fld Reg.CRP_RST_CAUSE 0 4)))

def execSmbAlertCause (s : State) : Host.Outcome State Fault Refusal := .next (s.smbData (leBytes 1 s.alertCause))

/-- SMB_ALERT_RESPONSE: a device that holds SMB_ALERT_N low answers with its address, and releases the line unless the trip
of R484 holds it. -/
def execSmbAlertResponse (s : State) : Host.Outcome State Fault Refusal :=
  .next <|
    if s.svc.alert = false ∨ s.svc.scan ≠ 0 then { s with out := { s.out with smb := none } }
    else
      let s1 := s.smbData (leBytes 1 (0b1011000 + s.svc.gpio % 4))
      { s1 with svc := { s1.svc with alert := s.pwr.tripped } }

end Sys2Proof.Machine
end

