-- ==== Sys2Proof/Machine/Clock.lean ====
section
/-! DEFINITION. What time brings when no command waits: one step of the step clock (R21, R273, R274). The table has no row
for a tick, so an empty queue is one (DESIGN CHOICE, log 8). -/

namespace Sys2Proof.Machine
open Sys2Proof

/-- Firmware's diagnosis of a plane fault ends (R420; DESIGN CHOICE, log 35): merged mode again, unless the host asks for sorted
mode. -/
def State.diagnosed (s : State) : State :=
  if s.tile.diagnosing then
    let s1 := s.putBit Reg.NOC_CFG 30 (s.bit Reg.NOC_CFG 31 || !s.running)
    { s1 with tile := { s1.tile with diagnosing := false } }
  else s

/-- What follows the passing of one step: link tests that end (R266), the event FIFO (R426) and the LOSS records of
streams that have stopped (R433), remapped rows of plots that have stopped (R152), a wake whose lanes are back
(R481), and the choice of a grandmaster (R279) once firmware is RUNNING. -/
def State.onTick (s : State) : State :=
  let s1 := ((natsFrom 0 16).foldl State.lossAfter s.testTick.drainFifo).remapStopped.diagnosed.wakeCheck
  if s1.running then s1.selectGm else s1

/-- One idle step: with the PLLs stopped by the 115 C comparator, the always-on domain alone goes on, and FT with it (R474,
R484). -/
def State.idle (s : State) : State := if s.pwr.tripped then s.tickTime else s.tickTime.onTick

end Sys2Proof.Machine
end

