-- ==== Sys2Proof/Machine/Dispatch.lean ====
section
/-! DEFINITION. One arm per command, each a direct call of its meaning. -/

namespace Sys2Proof.Machine
open Sys2Proof

def exec (i : Instr) (s : State) : Host.Outcome State Fault Refusal :=
  match i with
  | .scheduleStep p pins => Sys2Proof.Machine.execScheduleStep p pins s
  | .commitDecision p => Sys2Proof.Machine.execCommitDecision p s
  | .inputLatch p pins => Sys2Proof.Machine.execInputLatch p pins s
  | .outputRelease p => Sys2Proof.Machine.execOutputRelease p s
  | .writeQueueCommitMark p => Sys2Proof.Machine.execWriteQueueCommitMark p s
  | .headlandHostApply p => Sys2Proof.Machine.execHeadlandHostApply p s
  | .probeFlush p => Sys2Proof.Machine.execProbeFlush p s
  | .preEmptionCheck p => Sys2Proof.Machine.execPreEmptionCheck p s
  | .refreshHeadland p => Sys2Proof.Machine.execRefreshHeadland p s
  | .replayTurn p => Sys2Proof.Machine.execReplayTurn p s
  | .stakeSlice p => Sys2Proof.Machine.execStakeSlice p s
  | .stretch p => Sys2Proof.Machine.execStretch p s
  | .furrowRamReturn p => Sys2Proof.Machine.execFurrowRamReturn p s
  | .hbmReadReturn n => Sys2Proof.Machine.execHbmReadReturn n s
  | .hbmReturnDelivery p => Sys2Proof.Machine.execHbmReturnDelivery p s
  | .writeQueueDrain pc => Sys2Proof.Machine.execWriteQueueDrain pc s
  | .autonomousRefresh pc => Sys2Proof.Machine.execAutonomousRefresh pc s
  | .remapActivate pc entry => Sys2Proof.Machine.execRemapActivate pc entry s
  | .hbmFillDone => Sys2Proof.Machine.execHbmFillDone s
  | .bar4Access fn offset len data => Sys2Proof.Machine.execBar4Access fn offset len data s
  | .frameTransmit port lane => Sys2Proof.Machine.execFrameTransmit port lane s
  | .frameReceive port lane pn fidx late frame => Sys2Proof.Machine.execFrameReceive port lane pn fidx late frame s
  | .importPresentation p => Sys2Proof.Machine.execImportPresentation p s
  | .cdrLoss port lane => Sys2Proof.Machine.execCdrLoss port lane s
  | .ctrlPacketReceive port words => Sys2Proof.Machine.execCtrlPacketReceive port words s
  | .timeSync port lane words => Sys2Proof.Machine.execTimeSync port lane words s
  | .votePacket port words => Sys2Proof.Machine.execVotePacket port words s
  | .stretchNotice port words => Sys2Proof.Machine.execStretchNotice port words s
  | .sown port words => Sys2Proof.Machine.execSown port words s
  | .launch port words => Sys2Proof.Machine.execLaunch port words s
  | .haltAt port words => Sys2Proof.Machine.execHaltAt port words s
  | .stakeDone port words => Sys2Proof.Machine.execStakeDone port words s
  | .healReady port words => Sys2Proof.Machine.execHealReady port words s
  | .recoverReady port words => Sys2Proof.Machine.execRecoverReady port words s
  | .resume port words => Sys2Proof.Machine.execResume port words s
  | .diverge port words => Sys2Proof.Machine.execDiverge port words s
  | .rollbackPacket port words => Sys2Proof.Machine.execRollbackPacket port words s
  | .spareReq port words => Sys2Proof.Machine.execSpareReq port words s
  | .spareAck port words => Sys2Proof.Machine.execSpareAck port words s
  | .loopReq port words => Sys2Proof.Machine.execLoopReq port words s
  | .loopAck port words => Sys2Proof.Machine.execLoopAck port words s
  | .laneHealth port words => Sys2Proof.Machine.execLaneHealth port words s
  | .arm port words => Sys2Proof.Machine.execArm port words s
  | .fire port words => Sys2Proof.Machine.execFire port words s
  | .forwardedCommand port words => Sys2Proof.Machine.execForwardedCommand port words s
  | .forwardedCompletion port words => Sys2Proof.Machine.execForwardedCompletion port words s
  | .forwardTimeout id => Sys2Proof.Machine.execForwardTimeout id s
  | .thermalEvaluation temps => Sys2Proof.Machine.execThermalEvaluation temps s
  | .thermalTrip => Sys2Proof.Machine.execThermalTrip s
  | .bucketDrainTick cls => Sys2Proof.Machine.execBucketDrainTick cls s
  | .bucketOverflow addr => Sys2Proof.Machine.execBucketOverflow addr s
  | .timeSyncRecord stream => Sys2Proof.Machine.execTimeSyncRecord stream s
  | .holdoffExpiry p => Sys2Proof.Machine.execHoldoffExpiry p s
  | .fireRepeat p => Sys2Proof.Machine.execFireRepeat p s
  | .sownRepeat p => Sys2Proof.Machine.execSownRepeat p s
  | .timeSyncSend port => Sys2Proof.Machine.execTimeSyncSend port s
  | .parentLost => Sys2Proof.Machine.execParentLost s
  | .ppsInEdge => Sys2Proof.Machine.execPpsInEdge s
  | .ppsMiss => Sys2Proof.Machine.execPpsMiss s
  | .ppsOutEdge => Sys2Proof.Machine.execPpsOutEdge s
  | .ftDelayTick => Sys2Proof.Machine.execFtDelayTick s
  | .launchStart p pins => Sys2Proof.Machine.execLaunchStart p pins s
  | .resumeStart p => Sys2Proof.Machine.execResumeStart p s
  | .healWorkDone p => Sys2Proof.Machine.execHealWorkDone p s
  | .recoveryWorkDone p ok => Sys2Proof.Machine.execRecoveryWorkDone p ok s
  | .holdTimeout p => Sys2Proof.Machine.execHoldTimeout p s
  | .bridgeBusClockEdge port pins => Sys2Proof.Machine.execBridgeBusClockEdge port pins s
  | .clkLost port => Sys2Proof.Machine.execClkLost port s
  | .vccioBad port bad => Sys2Proof.Machine.execVccioBad port bad s
  | .porN strap gpio nonce => Sys2Proof.Machine.execPorN strap gpio nonce s
  | .perstN link nonce => Sys2Proof.Machine.execPerstN link nonce s
  | .dlDown link nonce => Sys2Proof.Machine.execDlDown link nonce s
  | .devReset fn v nonce => Sys2Proof.Machine.execDevReset fn v nonce s
  | .flr fn => Sys2Proof.Machine.execFlr fn s
  | .d3hotEntry fn => Sys2Proof.Machine.execD3hotEntry fn s
  | .d0Return fn => Sys2Proof.Machine.execD0Return fn s
  | .refclkLost => Sys2Proof.Machine.execRefclkLost s
  | .refclkReturn => Sys2Proof.Machine.execRefclkReturn s
  | .vbatLost => Sys2Proof.Machine.execVbatLost s
  | .bootWindowWrite fn offset data => Sys2Proof.Machine.execBootWindowWrite fn offset data s
  | .go fn v => Sys2Proof.Machine.execGo fn v s
  | .firmwareRunning => Sys2Proof.Machine.execFirmwareRunning s
  | .sownNHigh => Sys2Proof.Machine.execSownNHigh s
  | .releaseTimeout p => Sys2Proof.Machine.execReleaseTimeout p s
  | .doorbellSqTail fn q tail mem => Sys2Proof.Machine.execDoorbellSqTail fn q tail mem s
  | .doorbellCqHead fn q head => Sys2Proof.Machine.execDoorbellCqHead fn q head s
  | .queueEnable fn q v => Sys2Proof.Machine.execQueueEnable fn q v s
  | .queueDisable fn q v => Sys2Proof.Machine.execQueueDisable fn q v s
  | .queueRangeWrite fn q v => Sys2Proof.Machine.execQueueRangeWrite fn q v s
  | .entryFetch q => Sys2Proof.Machine.execEntryFetch q s
  | .commandDispatch => Sys2Proof.Machine.execCommandDispatch s
  | .completionWrite id => Sys2Proof.Machine.execCompletionWrite id s
  | .interruptCoalesceTimeout q => Sys2Proof.Machine.execInterruptCoalesceTimeout q s
  | .msixUnmask fn vec => Sys2Proof.Machine.execMsixUnmask fn vec s
  | .pageRequestResponse fn page ok => Sys2Proof.Machine.execPageRequestResponse fn page ok s
  | .atsInvalidation fn page count => Sys2Proof.Machine.execAtsInvalidation fn page count s
  | .nop id => Sys2Proof.Machine.execNop id s
  | .query id => Sys2Proof.Machine.execQuery id s
  | .negotiate id => Sys2Proof.Machine.execNegotiate id s
  | .plotCreate id => Sys2Proof.Machine.execPlotCreate id s
  | .plotDestroy id => Sys2Proof.Machine.execPlotDestroy id s
  | .plotAssign id => Sys2Proof.Machine.execPlotAssign id s
  | .plotRevoke id => Sys2Proof.Machine.execPlotRevoke id s
  | .plotReset id => Sys2Proof.Machine.execPlotReset id s
  | .zeroFillDone kind index => Sys2Proof.Machine.execZeroFillDone kind index s
  | .sowBegin id => Sys2Proof.Machine.execSowBegin id s
  | .sowSegment id => Sys2Proof.Machine.execSowSegment id s
  | .sowCommit id => Sys2Proof.Machine.execSowCommit id s
  | .sowAbort id => Sys2Proof.Machine.execSowAbort id s
  | .release id => Sys2Proof.Machine.execRelease id s
  | .run id => Sys2Proof.Machine.execRun id s
  | .halt id => Sys2Proof.Machine.execHalt id s
  | .stepPass id => Sys2Proof.Machine.execStepPass id s
  | .fallow id => Sys2Proof.Machine.execFallow id s
  | .fallowEvict id => Sys2Proof.Machine.execFallowEvict id s
  | .fallowPreEmpt id => Sys2Proof.Machine.execFallowPreEmpt id s
  | .fallowDeep id => Sys2Proof.Machine.execFallowDeep id s
  | .wake id => Sys2Proof.Machine.execWake id s
  | .wakeDeep id => Sys2Proof.Machine.execWakeDeep id s
  | .launchAt id => Sys2Proof.Machine.execLaunchAt id s
  | .peekState id => Sys2Proof.Machine.execPeekState id s
  | .pokeState id => Sys2Proof.Machine.execPokeState id s
  | .force id => Sys2Proof.Machine.execForce id s
  | .unforce id => Sys2Proof.Machine.execUnforce id s
  | .memRead id => Sys2Proof.Machine.execMemRead id s
  | .memWrite id => Sys2Proof.Machine.execMemWrite id s
  | .stake id => Sys2Proof.Machine.execStake id s
  | .ckptExport id => Sys2Proof.Machine.execCkptExport id s
  | .ckptImport id => Sys2Proof.Machine.execCkptImport id s
  | .rollback id => Sys2Proof.Machine.execRollback id s
  | .lift id => Sys2Proof.Machine.execLift id s
  | .drop id => Sys2Proof.Machine.execDrop id s
  | .traceConfig id => Sys2Proof.Machine.execTraceConfig id s
  | .traceArm id => Sys2Proof.Machine.execTraceArm id s
  | .traceStop id => Sys2Proof.Machine.execTraceStop id s
  | .traceDrain id => Sys2Proof.Machine.execTraceDrain id s
  | .linkTrain id => Sys2Proof.Machine.execLinkTrain id s
  | .trainFrameReceive port lane offset frame => Sys2Proof.Machine.execTrainFrameReceive port lane offset frame s
  | .trainingPhaseTimeout port => Sys2Proof.Machine.execTrainingPhaseTimeout port s
  | .bitslip fn port lane v => Sys2Proof.Machine.execBitslip fn port lane v s
  | .alignDone fn port v => Sys2Proof.Machine.execAlignDone fn port v s
  | .laneReset fn port lane v => Sys2Proof.Machine.execLaneReset fn port lane v s
  | .laneTestMode fn port lane v => Sys2Proof.Machine.execLaneTestMode fn port lane v s
  | .injOne fn port lane v => Sys2Proof.Machine.execInjOne fn port lane v s
  | .linkTest id => Sys2Proof.Machine.execLinkTest id s
  | .xtLoad id => Sys2Proof.Machine.execXtLoad id s
  | .timeConfig id => Sys2Proof.Machine.execTimeConfig id s
  | .timeStep id => Sys2Proof.Machine.execTimeStep id s
  | .scrubRange id => Sys2Proof.Machine.execScrubRange id s
  | .remapAdd id => Sys2Proof.Machine.execRemapAdd id s
  | .faultDrain id => Sys2Proof.Machine.execFaultDrain id s
  | .fwUpdate id => Sys2Proof.Machine.execFwUpdate id s
  | .keyProvision id => Sys2Proof.Machine.execKeyProvision id s
  | .sigConfig id => Sys2Proof.Machine.execSigConfig id s
  | .progress id => Sys2Proof.Machine.execProgress id s
  | .gateDeclare fn g v => Sys2Proof.Machine.execGateDeclare fn g v s
  | .bankHandover fn bank v => Sys2Proof.Machine.execBankHandover fn bank v s
  | .handoverDone bank => Sys2Proof.Machine.execHandoverDone bank s
  | .spmDataAccess fn offset len data => Sys2Proof.Machine.execSpmDataAccess fn offset len data s
  | .bitSet fn addr v => Sys2Proof.Machine.execBitSet fn addr v s
  | .bitClear fn addr v => Sys2Proof.Machine.execBitClear fn addr v s
  | .sortReq fn v => Sys2Proof.Machine.execSortReq fn v s
  | .firstAck fn addr v => Sys2Proof.Machine.execFirstAck fn addr v s
  | .histAck fn addr v => Sys2Proof.Machine.execHistAck fn addr v s
  | .counterClear fn addr v => Sys2Proof.Machine.execCounterClear fn addr v s
  | .registerWrite fn target v => Sys2Proof.Machine.execRegisterWrite fn target v s
  | .faultInjectionArm fn addr v => Sys2Proof.Machine.execFaultInjectionArm fn addr v s
  | .gleanerItemRead seq => Sys2Proof.Machine.execGleanerItemRead seq s
  | .gleanerWrite p => Sys2Proof.Machine.execGleanerWrite p s
  | .hbmPatrolRead pc => Sys2Proof.Machine.execHbmPatrolRead pc s
  | .controlTripleVote => Sys2Proof.Machine.execControlTripleVote s
  | .gleanerWatchdog seq => Sys2Proof.Machine.execGleanerWatchdog seq s
  | .gleanerRestart fn v => Sys2Proof.Machine.execGleanerRestart fn v s
  | .monVer => Sys2Proof.Machine.execMonVer s
  | .monPeek a n => Sys2Proof.Machine.execMonPeek a n s
  | .monPoke a v => Sys2Proof.Machine.execMonPoke a v s
  | .monHist b e => Sys2Proof.Machine.execMonHist b e s
  | .monEye port lane => Sys2Proof.Machine.execMonEye port lane s
  | .monStake p => Sys2Proof.Machine.execMonStake p s
  | .monTemp => Sys2Proof.Machine.execMonTemp s
  | .monBaud r => Sys2Proof.Machine.execMonBaud r s
  | .monLock => Sys2Proof.Machine.execMonLock s
  | .monUnlockPassword w nonce => Sys2Proof.Machine.execMonUnlockPassword w nonce s
  | .monUnlockResponse g nonce => Sys2Proof.Machine.execMonUnlockResponse g nonce s
  | .monCtrlLock fn v => Sys2Proof.Machine.execMonCtrlLock fn v s
  | .scanInstruction k => Sys2Proof.Machine.execScanInstruction k s
  | .debugInstruction op => Sys2Proof.Machine.execDebugInstruction op s
  | .smbLifecycle => Sys2Proof.Machine.execSmbLifecycle s
  | .smbTmax => Sys2Proof.Machine.execSmbTmax s
  | .smbSensorSelect v => Sys2Proof.Machine.execSmbSensorSelect v s
  | .smbSensorRead => Sys2Proof.Machine.execSmbSensorRead s
  | .smbRailPower watts => Sys2Proof.Machine.execSmbRailPower watts s
  | .smbPowerResetStatus => Sys2Proof.Machine.execSmbPowerResetStatus s
  | .smbAlertCause => Sys2Proof.Machine.execSmbAlertCause s
  | .smbAlertResponse => Sys2Proof.Machine.execSmbAlertResponse s
  | .cdrLock port lane sync => Sys2Proof.Machine.execCdrLock port lane sync s
  | .chkLock port lane bits => Sys2Proof.Machine.execChkLock port lane bits s
  | .tResumeStart p => Sys2Proof.Machine.execTResumeStart p s
  | .ftPostExpiry p => Sys2Proof.Machine.execFtPostExpiry p s
  | .deepFallowEntered => Sys2Proof.Machine.execDeepFallowEntered s
  | .configurationReady link => Sys2Proof.Machine.execConfigurationReady link s
  | .unlockDelayExpiry => Sys2Proof.Machine.execUnlockDelayExpiry s

end Sys2Proof.Machine
end

