-- ==== Sys2Proof/Safety.lean ====
section
/-! DEFINITION. What every step keeps: the fuses (R104, R485, R492, R496, R512), the canonical form of the memories, and
the commands that wait. -/

namespace Sys2Proof.Machine
open Sys2Proof

/-- What is fused at the factory and no command changes: lifecycle state, grade, die revision, furrows fused out, serial. -/
structure Fuses where
  lifecycle : Nat
  grade20 : Bool
  dieRev : Nat
  fusedOut : List Nat
  serial : Nat
deriving DecidableEq, Repr

def State.fuses (s : State) : Fuses := ⟨s.boot.lifecycle, s.boot.grade20, s.boot.dieRev, s.boot.fusedOut, s.boot.serial⟩

/-- The tables of records are in canonical form: per-function register copies, Field I/O ports, signature units, lanes, ports
and their sync state. -/
def State.recWf (s : State) : Bool :=
  cellsWf 0 s.copies && cellsWf {} s.io.fio && cellsWf {} s.io.sig && cellsWf {} s.lnk.lanes && cellsWf {} s.lnk.ports &&
    cellsWf {} s.ft.ports

/-- The registers, the byte-addressed memories, the table of plots and the other tables of records are in canonical form:
BAR0, design memory, scratchpad, host memory, the boot window. -/
def State.memWf (s : State) : Bool :=
  cellsWf 0 s.regs && cellsWf 0 s.hbm.mem && cellsWf 0 s.tile.spm && cellsWf 0 s.host.mem && cellsWf 0 s.boot.window &&
    cellsWf {} s.plots && s.recWf

/-- Command id is in the matching store and has ended with a status and a result (R359, R362). -/
def State.ended (t : State) (id status result : Nat) : Prop :=
  (∃ e ∈ t.cmd.store, e.id = id) ∧
    ∀ e ∈ t.cmd.store, e.id = id → e.stage = .finished ∧ e.status = status ∧ e.result = result

/-- Command id is in the matching store and waits for an event, its unit released (R371). -/
def State.waits (t : State) (id : Nat) : Prop :=
  (∃ e ∈ t.cmd.store, e.id = id) ∧ ∀ e ∈ t.cmd.store, e.id = id → e.stage = .blocked

/-! ## Which commands may write what -/

end Sys2Proof.Machine

namespace Sys2Proof

/-- Commands that may write host memory: completions (R359), the doorbell with which the host itself writes (R357), and the
commands whose DMA writes host memory (R148, R376, R413, R437, R488). -/
def Instr.writesHostMemory : Instr → Bool
  | .headlandHostApply _ | .launchStart _ _ | .doorbellSqTail _ _ _ _ | .completionWrite _ | .memRead _
  | .memWrite _ | .ckptExport _ | .lift _ | .traceDrain _ | .faultDrain _ => true
  | _ => false

/-- Commands that may write the HBM: the drains of the write queue (R147) and what settles it, BAR4 and host writes
(R148, R155), the harvest rings (R426), sowing and checkpoints, paging, fills and resets. -/
def Instr.writesDesignMemory : Instr → Bool
  | .headlandHostApply _ | .probeFlush _ | .preEmptionCheck _ | .refreshHeadland _ | .replayTurn _
  | .stakeSlice _ | .stretch _ | .writeQueueDrain _ | .hbmFillDone | .bar4Access _ _ _ _
  | .frameReceive _ _ _ _ _ _ | .thermalEvaluation _ | .timeSyncRecord _ | .launchStart _ _
  | .recoveryWorkDone _ _ | .porN _ _ _ | .perstN _ _ | .dlDown _ _ | .devReset _ _ _ | .flr _ | .plotDestroy _
  | .plotRevoke _ | .plotReset _ | .sowBegin _ | .sowCommit _ | .sowAbort _ | .fallow _ | .fallowEvict _
  | .fallowPreEmpt _ | .fallowDeep _ | .wakeDeep _ | .memRead _ | .memWrite _ | .ckptImport _ | .lift _
  | .drop _ | .traceStop _ | .traceDrain _ | .faultDrain _ | .registerWrite _ _ _ | .monPoke _ _
  | .deepFallowEntered | .resumeStart _ => true
  | _ => false

/-- Commands that may write the scratchpad: its own accesses (R402), the BRIDGE rings (R310, R312), fills and resets. -/
def Instr.writesScratchpad : Instr → Bool
  | .outputRelease _ | .bridgeBusClockEdge _ _ | .porN _ _ _ | .perstN _ _ | .dlDown _ _ | .devReset _ _ _
  | .flr _ | .plotDestroy _ | .plotRevoke _ | .handoverDone _ | .spmDataAccess _ _ _ _ | .bitSet _ _ _
  | .bitClear _ _ _ | .registerWrite _ _ _ | .monPeek _ _ | .monPoke _ _ => true
  | _ => false

/-- Commands that may put a byte into the boot window (R326). -/
def Instr.writesBootWindow : Instr → Bool
  | .bootWindowWrite _ _ _ | .registerWrite _ _ _ | .monPoke _ _ => true
  | _ => false

/-- The command that writes a key slot (R381). -/
def Instr.writesKeys : Instr → Bool
  | .keyProvision _ => true
  | _ => false

/-- The commands that open the lock of the monitor (R496). -/
def Instr.opensMonitor : Instr → Bool
  | .monUnlockPassword _ _ | .monUnlockResponse _ _ => true
  | _ => false

/-- Commands that may change where a plot stands in its timetable: its phase, PLT_PN, PLT_CPN and the passes it stretches
(R5, R23, R37, R40). -/
def Instr.movesPlotTime : Instr → Bool
  | .scheduleStep _ _ | .commitDecision _ | .inputLatch _ _ | .outputRelease _ | .writeQueueCommitMark _
  | .headlandHostApply _ | .probeFlush _ | .preEmptionCheck _ | .refreshHeadland _ | .replayTurn _
  | .stakeSlice _ | .stretch _ | .frameReceive _ _ _ _ _ _ | .ctrlPacketReceive _ _ | .stretchNotice _ _
  | .healReady _ _ | .recoverReady _ _ | .thermalEvaluation _ | .thermalTrip | .launchStart _ _ | .resumeStart _
  | .healWorkDone _ | .recoveryWorkDone _ _ | .holdTimeout _ | .porN _ _ _ | .perstN _ _ | .dlDown _ _
  | .devReset _ _ _ | .flr _ | .refclkLost | .plotCreate _ | .plotDestroy _ | .plotReset _ | .zeroFillDone _ _
  | .sowBegin _ | .sowAbort _ | .run _ | .stepPass _ | .fallow _ | .fallowEvict _ | .fallowPreEmpt _
  | .fallowDeep _ | .wake _ | .ckptImport _ | .registerWrite _ _ _ | .monPoke _ _ | .scanInstruction _
  | .tResumeStart _ => true
  | _ => false

/-- Commands that may change what a plot has been granted, or its memory map (R394, R399). -/
def Instr.movesResources : Instr → Bool
  | .preEmptionCheck _ | .refreshHeadland _ | .replayTurn _ | .stakeSlice _ | .stretch _ | .thermalEvaluation _
  | .porN _ _ _ | .perstN _ _ | .dlDown _ _ | .devReset _ _ _ | .flr _ | .plotCreate _ | .plotDestroy _
  | .plotAssign _ | .plotRevoke _ | .plotReset _ | .zeroFillDone _ _ | .sowBegin _ | .sowCommit _ | .sowAbort _
  | .fallow _ | .fallowEvict _ | .fallowPreEmpt _ | .fallowDeep _ | .wake _ | .lift _ | .drop _ | .traceConfig _
  | .registerWrite _ _ _ | .monPoke _ _ | .resumeStart _ => true
  | _ => false

/-- Commands that may change the image of a plot: seed shadow, header, essential map, initial values (R330-R341); a re-sow or
a wake reads the shadow, and meets the errors of its words (R340). -/
def Instr.movesImage : Instr → Bool
  | .frameReceive _ _ _ _ _ _ | .ctrlPacketReceive _ _ | .sown _ _ | .launchStart _ _ | .porN _ _ _
  | .perstN _ _ | .dlDown _ _ | .devReset _ _ _ | .flr _ | .sownNHigh | .plotCreate _ | .plotDestroy _
  | .plotReset _ | .zeroFillDone _ _ | .sowBegin _ | .sowSegment _ | .sowCommit _ | .sowAbort _ | .release _
  | .ckptImport _ | .registerWrite _ _ _ | .monPoke _ _ | .wake _ | .wakeDeep _ => true
  | _ => false

end Sys2Proof
end

