-- ==== Sys2Proof/Certificates/Slice0/Obligations.lean ====
section
/-! DEFINITION. What is claimed of the block: one definition for each statement. -/

open Sys2Proof Sys2Proof.Machine

/-- One step with a command at the front of the queue is that command's effect on the state with the queue's rest. Where the
spec leaves a point open this states the model's choice: log 8, log 10. -/
def Obligations.StepRunsTheFrontCommand : Prop :=
  ∀ (c : Instr) (rest : List Instr) (s : State), step { s with pending := c :: rest } = exec c { s with pending := rest }

/-- The machine right after reset: every table and memory in canonical form, nothing waiting, no plot, the firmware not
running, FT at 0 and its servo in FREE_RUN (R273), the monitor closed (R495), and the identity registers as the register map
gives them (R512). The lifecycle state FIELD and the grade -20 that they report are the model's choice (log 6). -/
def Obligations.ResetIsQuietAndInForm : Prop :=
  State.reset.memWf = true ∧ State.reset.pending = [] ∧ State.reset.livePlots = [] ∧ State.reset.cmd.store = [] ∧
    State.reset.running = false ∧ State.reset.ftNs = 0 ∧ State.reset.ftState = 0 ∧ State.reset.monLocked = true ∧
    (State.reset.bar0Read 0 Reg.DEV_ID).1 = 0x96001f5a ∧ (State.reset.bar0Read 0 Reg.DEV_REV).1 = 0x157d0 ∧
    State.reset.rn Reg.GLN_CFG = 0x80080064

/-- With no command waiting one step of the step clock passes and the queue stays empty, after a thermal trip for the always-on
domain alone (R474, R484; that an empty queue is a tick is the model's choice, log 8); with commands waiting every step uses up
exactly the one at the front. Where the spec leaves a point open this states the model's choice: log 8. -/
def Obligations.QueueIsUsedUpFromTheFront : Prop :=
  ∀ (s : State), s.memWf = true →
    (s.pending = [] → ∃ t, step s = .next t ∧ t.pending = [] ∧ t.memWf = true ∧ t.ft.wall = s.ft.wall + 1) ∧
    (s.pending = [] → s.pwr.tripped = true → ∃ t, step s = .next t ∧ t.plots = s.plots ∧ t.cmd = s.cmd ∧ t.hbm = s.hbm ∧
      t.lnk = s.lnk ∧ t.hvt = s.hvt ∧ t.xch = s.xch) ∧
    (∀ t, s.pending ≠ [] → step s = .next t → t.pending = s.pending.tail)

/-- Every step keeps what is fused at the factory, and the canonical form of the registers, the memories and the tables. The
fused minimum SVN never falls: no step makes an older firmware image acceptable again. -/
def Obligations.StepKeepsFusesAndCanonicalForm : Prop :=
  (∀ (s t : State), s.memWf = true → step s = .next t → t.memWf = true ∧ t.fuses = s.fuses) ∧
  (∀ (s t : State), s.memWf = true → step s = .next t → s.boot.fusedMin ≤ t.boot.fusedMin)

/-- In FIELD a locked monitor stays locked through every command but the two unlock lines. No command but KEY_PROVISION gives a
key slot another value: the value stays, or is lost. -/
def Obligations.ProtectedStateIsProtected : Prop :=
  (∀ (c : Instr) (s t : State), s.memWf = true → c.opensMonitor = false → s.boot.lifecycle = 2 → s.svc.locked = true →
      exec c s = .next t → t.svc.locked = true) ∧
  (∀ (c : Instr) (s t : State) (k : Nat), s.memWf = true → c.writesKeys = false → exec c s = .next t →
      cget [] t.boot.keys k = cget [] s.boot.keys k ∨ cget [] t.boot.keys k = [])

/-- Every byte of host memory stays, except through the commands whose DMA or completion writes it. Every byte of the HBM
stays, except through the commands that drain write queues, store for a host or a stream, save, move pages or reset. Every byte
of the scratchpad banks 0 to 62 stays, except through accesses, BRIDGE rings, fills and resets (bank 63 takes the event records
of deep fallow, R451); and the boot window keeps its contents or is closed, except through writes. Where a plot stands in its
timetable - its phase, PLT_PN, PLT_CPN and its stretch table - changes only through the commands that run, start, stop, load or
reset plots. The resources and the memory map of a plot change only through the commands that grant, take away, save or reset;
its image only through sowing, release, imports and resets. Where the spec leaves a point open this states the model's choice:
log 3, log 12. -/
def Obligations.OnlyTheNamedCommandsWrite : Prop :=
  (∀ (c : Instr) (s t : State), s.memWf = true → c.writesHostMemory = false → exec c s = .next t →
      ∀ fn addr n, t.hostRead fn addr n = s.hostRead fn addr n) ∧
  (∀ (c : Instr) (s t : State), s.memWf = true → c.writesDesignMemory = false → exec c s = .next t →
      ∀ addr n, t.hbmRead addr n = s.hbmRead addr n) ∧
  (∀ (c : Instr) (s t : State), s.memWf = true → exec c s = .next t →
      (c.writesScratchpad = false → ∀ addr n, addr + n ≤ 63 * 2 ^ 18 → t.spmRead addr n = s.spmRead addr n) ∧
      (c.writesBootWindow = false → t.boot.window = s.boot.window ∨ t.boot.window = [])) ∧
  (∀ (c : Instr) (s t : State) (p : Nat), s.memWf = true → c.movesPlotTime = false → exec c s = .next t →
      (t.plot p).tm = (s.plot p).tm) ∧
  (∀ (c : Instr) (s t : State) (p : Nat), s.memWf = true → exec c s = .next t →
      (c.movesResources = false → (t.plot p).res = (s.plot p).res) ∧ (c.movesImage = false → (t.plot p).img = (s.plot p).img))

/-- A step of the schedule: the plot goes on to the next step of the pass, and after the last of its L steps to the headland of
the pass; the PN and the committed count stay, and so does the time of every other plot. The parts of a headland follow one
another in the order of R23's timetable: each of the six commands at its own part hands the plot to the next part, and at any
other point changes nothing. Where the spec leaves a point open this states the model's choice: log 12, log 38. -/
def Obligations.PassAndHeadlandFollowTheTimetable : Prop :=
  (∀ (s : State) (p st : Nat) (pins : List (Nat × Nat)), s.memWf = true → (s.plot p).tm.phase = .step st →
      ∃ t, exec (.scheduleStep p pins) s = .next t ∧ (t.plot p).tm.pn = (s.plot p).tm.pn ∧
        (t.plot p).tm.cpn = (s.plot p).tm.cpn ∧
        (if st + 1 < s.passLen p then (t.plot p).tm.phase = .step (st + 1) else t.atHead p .commit = true) ∧
        ∀ q, q ≠ p → (t.plot q).tm = (s.plot q).tm) ∧
  (∀ (s : State) (p : Nat) (pins : List (Nat × Nat)),
      (if s.atHead p .commit then ∃ t, exec (.commitDecision p) s = .next t ∧ t.atHead p .latch = true
        else exec (.commitDecision p) s = .next s) ∧
      (if s.atHead p .latch then ∃ t, exec (.inputLatch p pins) s = .next t ∧ t.atHead p .release = true
        else exec (.inputLatch p pins) s = .next s) ∧
      (if s.atHead p .release then ∃ t, exec (.outputRelease p) s = .next t ∧ t.atHead p .mark = true
        else exec (.outputRelease p) s = .next s) ∧
      (if s.atHead p .mark then ∃ t, exec (.writeQueueCommitMark p) s = .next t ∧ t.atHead p .apply = true
        else exec (.writeQueueCommitMark p) s = .next s) ∧
      (if s.atHead p .apply then ∃ t, exec (.headlandHostApply p) s = .next t ∧ t.atHead p .flush = true
        else exec (.headlandHostApply p) s = .next s) ∧
      (if s.atHead p .flush then ∃ t, exec (.probeFlush p) s = .next t ∧ t.atHead p .check = true
        else exec (.probeFlush p) s = .next s))

/-- The decision of a headland: pass k = P - D commits when its fail flag is clear, and fails otherwise (R192); while no pass
is due nothing is decided, and headland steps 0 and 1 go by (R23, R24). The PN, and with a failed decision PLT_CPN, stay. Where
the spec leaves a point open this states the model's choice: log 53, log 74. -/
def Obligations.DecisionCommitsOrFails : Prop :=
  ∀ (s : State) (p : Nat), s.memWf = true → s.atHead p .commit = true →
    ∃ t, exec (.commitDecision p) s = .next t ∧ (t.plot p).tm.pn = (s.plot p).tm.pn ∧
      (if s.dlag p ≤ (s.plot p).tm.pn ∧ (s.plot p).tm.dpn ≤ (s.plot p).tm.pn - s.dlag p then
        if (s.plot p).cmt.flags.contains ((s.plot p).tm.pn - s.dlag p) then
          (t.plot p).tm.hl.fail = true ∧ (t.plot p).tm.cpn = (s.plot p).tm.cpn ∧ (t.plot p).tm.dpn = (s.plot p).tm.dpn
        else (t.plot p).tm.hl.commit = true ∧
          (t.plot p).tm.cpn = max (s.plot p).tm.cpn ((s.plot p).tm.pn - s.dlag p + 1) ∧
          (t.plot p).tm.dpn = (s.plot p).tm.pn - s.dlag p + 1
      else (t.plot p).tm = { (s.plot p).tm with phase := .head .latch, due := (s.plot p).tm.due + 2 })

/-- A headland that takes the latch of a pass: every Field I/O port of the plot then holds the latch of exactly that pass.
Headland steps 6-9: a failed decision discards the uncommitted write-queue entries of pass k = P - D and later, a committed one
marks the entries of passes up to k committed, and otherwise the queue stays; nothing is written to DRAM (R24, R144). A
headland that commits nothing releases no gate value and leaves the pins and the clock of ports that are not DIRECT; one whose
decision failed applies no force and no poke and writes no design memory (R24, R297). -/
def Obligations.HeadlandLatchesMarksAndReleases : Prop :=
  (∀ (s : State) (p q : Nat) (pins : List (Nat × Nat)), s.atHead p .latch = true → q ∈ (s.plot p).res.fios →
      ∃ t, exec (.inputLatch p pins) s = .next t ∧ ((t.fio q).latch.map Prod.fst) = [s.nextPass p]) ∧
  (∀ (s : State) (p : Nat), s.atHead p .mark = true →
      ∃ t, exec (.writeQueueCommitMark p) s = .next t ∧ t.atHead p .apply = true ∧ t.hbm.mem = s.hbm.mem ∧
        t.hbm.wq =
          if (s.plot p).tm.hl.fail then
            s.hbm.wq.filter fun e => !(e.plot == p && decide ((s.plot p).tm.pn - s.dlag p ≤ e.pn) && !e.committed)
          else if (s.plot p).tm.hl.commit then
            s.hbm.wq.map fun e =>
              if e.plot == p && decide (e.pn ≤ (s.plot p).tm.pn - s.dlag p) then { e with committed := true } else e
          else s.hbm.wq) ∧
  (∀ (s : State) (p : Nat), s.memWf = true →
      (s.atHead p .release = true → (s.plot p).tm.hl.commit = false →
        (∀ q ∈ (s.plot p).res.fios, s.fioDirect q = false) →
        ∃ t, exec (.outputRelease p) s = .next t ∧ t.sw = s.sw ∧
          (∀ a, a ≠ Reg.FT_ADJ → a ≠ Reg.FT_STAT → a ≠ Reg.CMD_INT_PEND → t.rn a = s.rn a) ∧
          ∀ q, (t.fio q).out = (s.fio q).out ∧ (t.fio q).oe = (s.fio q).oe ∧ (t.fio q).clk = (s.fio q).clk) ∧
      (s.atHead p .apply = true → (s.plot p).tm.hl.fail = true →
        ∃ t, exec (.headlandHostApply p) s = .next t ∧ t.bp = s.bp ∧ t.fur = s.fur ∧ t.hbm = s.hbm))

/-- Headland step 23 and the extensions after it, in the order refresh, replay turn, stake slice, stretch, each only when the
headland carries it; the refresh headland refreshes every pseudo-channel of the plot once, and a slice counts. Where the last
extension has ended and the headland neither holds nor stops the plot, the next pass begins at its step 0: after a replay turn,
the pass whose decision failed. Where the spec leaves a point open this states the model's choice: log 12. -/
def Obligations.ExtensionsFollowAndThePassGoesOn : Prop :=
  (∀ (s : State) (p : Nat), s.memWf = true →
      (s.atHead p .check = true → ∃ t, exec (.preEmptionCheck p) s = .next t ∧
        (let hl := (s.plot p).tm.hl
         let stake := (s.plot p).cmt.stake.isSome && !hl.replay
         let stretch := s.stretchOf p (s.plot p).tm.pn
         let refresh := (s.refreshPlan p { hl with stake := stake, stretch := stretch }).1
         (refresh = true → t.atHead p .refresh = true) ∧
         (refresh = false → hl.replay = true → t.atHead p .replay = true) ∧
         (refresh = false → hl.replay = false → stake = true → t.atHead p .stake = true) ∧
         (refresh = false → hl.replay = false → stake = false → stretch ≠ 0 → t.atHead p .stretch = true))) ∧
      (s.atHead p .refresh = true → ∃ t, exec (.refreshHeadland p) s = .next t ∧
        (let hl := (s.plot p).tm.hl
         (hl.replay = true → t.atHead p .replay = true) ∧
         (hl.replay = false → hl.stake = true → t.atHead p .stake = true) ∧
         (hl.replay = false → hl.stake = false → hl.stretch ≠ 0 → t.atHead p .stretch = true) ∧
         (hl.replay = true ∨ hl.stake = true ∨ hl.stretch ≠ 0 → (s.plot p).res.pcs.Nodup → ∀ pc ∈ (s.plot p).res.pcs,
           cget 0 t.hbm.refreshes pc = cget 0 s.hbm.refreshes pc + 1))) ∧
      (s.atHead p .replay = true → ∃ t, exec (.replayTurn p) s = .next t ∧
        (let hl := (s.plot p).tm.hl
         (hl.stake = true → t.atHead p .stake = true) ∧ (hl.stake = false → hl.stretch ≠ 0 → t.atHead p .stretch = true))) ∧
      (s.atHead p .stake = true → ∀ r, (s.plot p).cmt.stake = some r → r.slices + 1 < s.fld (Reg.PLT_STAKE_CFG p) 0 16 →
        (s.plot p).tm.hl.stretch ≠ 0 →
        ∃ t, exec (.stakeSlice p) s = .next t ∧ t.atHead p .stretch = true ∧
          ∃ r', (t.plot p).cmt.stake = some r' ∧ r'.slices = r.slices + 1 ∧ r'.copy = r.copy)) ∧
  (∀ (s : State) (p : Nat), s.memWf = true → (s.plot p).tm.hl.hold = false → (s.plot p).tm.hl.stop = false →
      (s.plot p).tm.hl.div = false →
      (s.atHead p .refresh = true → (s.plot p).tm.hl.replay = false → (s.plot p).tm.hl.stake = false →
        (s.plot p).tm.hl.stretch = 0 →
        ∃ t, exec (.refreshHeadland p) s = .next t ∧ (t.plot p).tm.phase = .step 0 ∧ (t.plot p).tm.pn = s.nextPass p) ∧
      (s.atHead p .replay = true → (s.plot p).tm.hl.stake = false → (s.plot p).tm.hl.stretch = 0 →
        ∀ k, (s.plot p).cmt.discarded = some (k, (s.plot p).tm.pn) → k ≤ (s.plot p).tm.pn →
          ∃ t, exec (.replayTurn p) s = .next t ∧ (t.plot p).tm.phase = .step 0 ∧ (t.plot p).tm.pn = k) ∧
      (s.atHead p .stretch = true →
        ∃ t, exec (.stretch p) s = .next t ∧ (t.plot p).tm.phase = .step 0 ∧ (t.plot p).tm.pn = s.nextPass p))

/-- A start whose instant has come begins a pass at its step 0: a launch at pass 0, or at the imported pass of a plot that was
never launched; a wake at the pass that follows; a hold at the pass that its RESUME packet named, and the hold is over. A hold
that has lasted too long without its RESUME fails and leaves the plot stopped, out of the hold (R202); a hold of a plot that
has sent its READY packet does its work no second time, and where the plot is in no hold nothing happens. The work of a hold
ends with the device's READY packet (R199, R201): the hold notes the instant at which it was flooded, the action and, in a
recovery, the recovery point, from whose pass the plot decides again; where FT is not locked, or the work or its remedy failed,
or an express slot of the plot crossed a plane that has been retired (R421), or there is no recovery point, the plot stops
(R200, R202, R203). A resume with a stop that waited leaves the plot stopped (R198). Where the spec leaves a point open this
states the model's choice: log 21, log 28, log 57. -/
def Obligations.StartsAndHoldsGoOn : Prop :=
  (∀ (s : State) (p : Nat) (pins : List (Nat × Nat)), s.memWf = true →
      (∀ ft x, (s.plot p).id.startAt = some (ft, x, 0) → ∃ t, exec (.launchStart p pins) s = .next t ∧
        (t.plot p).tm.phase = .step 0 ∧
        (t.plot p).tm.pn = if (s.plot p).img.imported && !(s.plot p).tm.launched then (s.plot p).tm.pn else 0) ∧
      (∀ ft x, (s.plot p).id.startAt = some (ft, x, 1) → ∃ t, exec (.tResumeStart p) s = .next t ∧
        (t.plot p).tm.phase = .step 0 ∧ (t.plot p).tm.pn = s.nextPass p) ∧
      (∀ h pass ft, (s.plot p).cmt.hold = some h → (s.plot p).cmt.resume = some (pass, ft) →
        ∃ t, exec (.resumeStart p) s = .next t ∧ (t.plot p).cmt.hold = none ∧ (t.plot p).cmt.resume = none ∧
          (if (s.plot p).cmt.stopNow then (t.plot p).tm.phase = .stopped
            else (t.plot p).tm.phase = .step 0 ∧ (t.plot p).tm.pn = pass))) ∧
  (∀ (s : State) (p : Nat) (ok : Bool), s.memWf = true →
      (∀ h, (s.plot p).cmt.hold = some h → (s.plot p).cmt.resume = none →
        ∃ t, exec (.holdTimeout p) s = .next t ∧ (t.plot p).tm.phase = .stopped ∧ (t.plot p).cmt.hold = none) ∧
      (∀ h, (s.plot p).cmt.hold = some h → h.sent ≠ none →
        exec (.healWorkDone p) s = .next s ∧ exec (.recoveryWorkDone p ok) s = .next s) ∧
      ((s.plot p).cmt.hold = none → exec (.healWorkDone p) s = .next s ∧ exec (.recoveryWorkDone p ok) s = .next s ∧
        exec (.holdTimeout p) s = .next s ∧ exec (.resumeStart p) s = .next s)) ∧
  (∀ (s : State) (p : Nat) (ok : Bool) (h : Hold), s.memWf = true → (s.plot p).cmt.hold = some h → h.sent = none →
      (h.recovery = false →
        (s.ftLocked = true → (∀ r ∈ h.ready, r.2.2 = false) →
          ∃ t h', exec (.healWorkDone p) s = .next t ∧ (t.plot p).cmt.hold = some h' ∧ h'.sent = some s.ftNs ∧ h'.k = h.k ∧
            h'.action = min 255 ((s.lateApply p).healWork p h.k).1 ∧ (s.devId, h.k, false) ∈ h'.ready) ∧
        (s.ftLocked = false →
          ∃ t, exec (.healWorkDone p) s = .next t ∧ (t.plot p).tm.phase = .stopped ∧ (t.plot p).cmt.hold = none)) ∧
      (h.recovery = true →
        let cs := (s.plot p).cmt.charges.filter fun c => c.pn == h.k
        let acts := ((s.lateApply p).chargeRecs p cs).takeActions p cs h.lanes
        let good := ok && acts.2.2 && !h.failed && s.ftLocked && s.bit (Reg.PLT_CMT_CFG p) 4 && !s.slotsLost p
        (∀ c, good = true → s.pointCopy p = some c → (∀ r ∈ h.ready, r.2.1 = c.pn ∧ r.2.2 = false) →
          ∃ t h', exec (.recoveryWorkDone p ok) s = .next t ∧ (t.plot p).cmt.hold = some h' ∧ h'.sent = some s.ftNs ∧
            h'.k = h.k ∧ h'.point = c.pn ∧ h'.action = acts.2.1 ∧ (s.devId, c.pn, false) ∈ h'.ready ∧
            (t.plot p).tm.dpn = c.pn) ∧
        (good = false ∨ s.pointCopy p = none →
          ∃ t, exec (.recoveryWorkDone p ok) s = .next t ∧ (t.plot p).tm.phase = .stopped ∧ (t.plot p).cmt.hold = none)))

/-- The return of a scheduled read: its values, as the read's word and the ECC words of DRAM give them (R145, R150), stand in
the return buffer, and for a read that the write queue answered they are those of the entry's word, no more than DCNT; data
that comes after its delivery is discarded, and a second return of one read does nothing (R139, R141), nor does that of a read
whose data the internal network lost (R421). At a step of the schedule every read of the plot that is due there is delivered:
its values stand in the furrow's memory return register, X beyond them, a read whose data has not come gives X and sets LATE
and has no data any more, so that it is late at every replay (R235), and a read that is not due stays as it is (R138, R141).
The furrow RAM reads due at a step are delivered in the same way (R90), but those on which an HBM return of the furrow falls
(R92); away from the steps of a pass nothing is delivered. Where the spec leaves a point open this states the model's choice:
log 30, log 62, log 76. -/
def Obligations.ReadsReturnAndAreDelivered : Prop :=
  (∀ (s : State) (n : Nat) (r : HbmRead), s.hbm.reads[n]? = some r →
      (r.vals.isSome = true → exec (.hbmReadReturn n) s = .next s) ∧
      (r.word = none → exec (.hbmReadReturn n) s = .next s) ∧
      (r.vals = none → r.delivered = false → r.word ≠ none →
        ∃ t, exec (.hbmReadReturn n) s = .next t ∧ t.hbm.reads[n]? = some { r with vals := some (s.readValues r).1 } ∧
          ∀ i, i ≠ n → t.hbm.reads[i]? = s.hbm.reads[i]?) ∧
      (r.vals = none → r.delivered = false → r.word ≠ none → (∀ i, i < (if r.twoVal then 1 else 2) → r.forwarded[i]? = some true) →
        ∃ t, exec (.hbmReadReturn n) s = .next t ∧ t.fur = s.fur ∧ t.plots = s.plots ∧
          t.hbm.reads[n]? = some { r with vals := some (((if r.twoVal then unpackBits 64 (leNat (r.word.getD []))
            else unpackVals 32 (leNat ((r.word.getD []).take 8)) ++
              unpackVals 32 (leNat (((r.word.getD []).drop 8).take 8)))).take r.dcnt) }) ∧
      (r.delivered = true → exec (.hbmReadReturn n) s = .next s)) ∧
  (∀ (s : State) (p i st : Nat) (r : HbmRead), (s.plot p).tm.phase = .step st → s.hbm.reads[i]? = some r →
      cellsWf .vx s.fur.memRet = true →
      let due := fun (q : HbmRead) => q.plot == p && q.pn == (s.plot p).tm.pn && q.step == st && !q.delivered
      ∃ t, exec (.hbmReturnDelivery p) s = .next t ∧
        t.hbm.reads[i]? = some (if due r then { r with delivered := true, word := if r.vals.isSome then r.word else none } else r) ∧
        (due r = true → (∀ j q, j ≠ i → s.hbm.reads[j]? = some q → due q = true → s.phys q.furrow ≠ s.phys r.furrow) →
          ∀ k, k < 64 → cget .vx t.fur.memRet (s.phys r.furrow * 64 + k) = ((r.vals.getD [])[k]?).getD .vx) ∧
        (due r = true → (∀ j q, j ≠ i → s.hbm.reads[j]? = some q → due q = false) → r.vals = none → p < 16 → r.pc < 64 →
          t.bit (Reg.MEM_PC_STAT r.pc) 5 = true ∧ t.bit (Reg.PLT_MEM_STAT p) 0 = true) ∧
        ∀ k, (∀ q ∈ s.hbm.reads, due q = true → k / 64 ≠ s.phys q.furrow) → cget .vx t.fur.memRet k = cget .vx s.fur.memRet k) ∧
  (∀ (s : State) (p : Nat), cellsWf .vx s.fur.memRet = true →
      (∀ (st : Nat), (s.plot p).tm.phase = .step st →
        let due := s.fur.ramReads.filter fun q =>
          q.due == st && q.pn == (s.plot p).tm.pn && (s.plot p).res.furrows.contains q.furrow &&
            !(s.hbm.reads.any fun h => h.furrow == q.furrow && h.pn == q.pn && h.step == st)
        ∃ t, exec (.furrowRamReturn p) s = .next t ∧ t.regs = s.regs ∧ t.plots = s.plots ∧ t.hbm = s.hbm ∧
          (∀ r ∈ due, (∀ q ∈ due, q.phys = r.phys → q = r) →
            ∀ k, k < 64 → cget .vx t.fur.memRet (r.phys * 64 + k) = (r.vals[k]?).getD .vx) ∧
          ∀ k, (∀ q ∈ due, k / 64 ≠ q.phys) → cget .vx t.fur.memRet k = cget .vx s.fur.memRet k) ∧
      ((∀ st, (s.plot p).tm.phase ≠ .step st) → exec (.furrowRamReturn p) s = .next s))

/-- A drain writes the oldest committed entry of a pseudo-channel to DRAM and frees it: on a plot without stakes its bytes
stand at its address and every other byte of the HBM stays; with no committed entry, or before a refresh headland, it does
nothing (R140, R147). The other work of the HBM controllers: an autonomous refresh counts for a channel that no running plot
owns (R33); the fill after a reset leaves every byte 0, FILL_DONE set and the boot LOADING (R323), or a failed training sets
FILL_ERR (R153); a spare row becomes active where no running plot owns the channel, and waits for the refresh headland
elsewhere (R152); and the patrol checks one 8-byte word and goes on in ascending address (R465), not in the last steps of a
pass of the plot that owns its channel (R133). Where the spec leaves a point open this states the model's choice: log 2, log
30, log 60, log 64. -/
def Obligations.ControllersDrainRefreshAndPatrol : Prop :=
  (∀ (s : State) (pc : Nat), s.memWf = true →
      (s.drainHeld pc = true ∨ (∀ e ∈ s.hbm.wq, ¬ (e.pc = pc ∧ e.committed = true)) → exec (.writeQueueDrain pc) s = .next s) ∧
      (∀ (before after : List WqEntry) (e : WqEntry), s.hbm.wq = before ++ e :: after →
        (∀ x ∈ before, ¬ (x.pc = pc ∧ x.committed = true)) → e.pc = pc → e.committed = true →
        s.fld (Reg.PLT_HL_CFG e.plot) 8 6 = 0 → s.drainHeld pc = false →
        ∃ t, exec (.writeQueueDrain pc) s = .next t ∧ t.hbm.wq = before ++ after ∧
          ∀ a, t.hbmRead a 1 = if e.addr ≤ a ∧ a < e.addr + e.data.length then [(e.data[a - e.addr]?).getD 0] else s.hbmRead a 1)) ∧
  (∀ (s : State) (pc k : Nat), s.memWf = true →
      ((∀ p, s.holder Res.pcs pc = some p → s.plotRuns p = false) → s.hbm.selfRefresh = false → ∃ t, exec (.autonomousRefresh pc) s = .next t ∧
        cget 0 t.hbm.refreshes pc = cget 0 s.hbm.refreshes pc + 1 ∧
        ∀ q, q ≠ pc → cget 0 t.hbm.refreshes q = cget 0 s.hbm.refreshes q) ∧
      (s.bit Reg.MEM_STAT 0 = false → s.hbm.failed = false → ∃ t, exec .hbmFillDone s = .next t ∧
        ((t.bit Reg.MEM_STAT 0 = true ∧ (∀ a n, t.hbmRead a n = List.replicate n 0) ∧ (∀ a, t.hbmMark a = 0) ∧
            (s.fld Reg.SOW_BOOT_STAT 28 4 = 0 → t.fld Reg.SOW_BOOT_STAT 28 4 = 1)) ∨
          (t.bit Reg.MEM_STAT 1 = true ∧ t.hbmStatus = Status.internal ∧ t.hbm.mem = s.hbm.mem))) ∧
      (∀ p, s.holder Res.pcs pc = some p → s.plotRuns p = true → ∃ t, exec (.remapActivate pc k) s = .next t ∧
        (pc, k) ∈ t.hbm.ready ∧ t.regs = s.regs) ∧
      ((∀ p, s.holder Res.pcs pc = some p → s.plotRuns p = false) → pc < 64 → k < 32 → s.bit (Reg.MEM_PC_REMAP pc k) 31 = true →
        ∃ t, exec (.remapActivate pc k) s = .next t ∧ t.bit (Reg.MEM_PC_REMAP pc k) 30 = true) ∧
      (s.gln.upset = [] → s.inject = [] → s.accessHeld pc = true → exec (.hbmPatrolRead pc) s = .next s) ∧
      (s.gln.upset = [] → s.inject = [] → s.fld Reg.GLN_HBM_RATE 0 16 ≠ 0 → s.hbm.selfRefresh = false → s.pwrState = 0 →
        s.hbmStatus = 0 → pcOf (s.rn64 Reg.GLN_HBM_POS_LO) = pc → s.accessHeld pc = false →
        let addr := s.rn64 Reg.GLN_HBM_POS_LO
        ∃ t, exec (.hbmPatrolRead pc) s = .next t ∧
          t.rn64 Reg.GLN_HBM_POS_LO = (if hbmBytes ≤ addr + 8 then 0 else addr + 8) ∧
          (cellsWf 0 s.ecc = true → addr < hbmBytes →
            (s.hbmMark addr = 1 → t.hbmMark addr = 0 ∧
              t.rn (Reg.GLN_CNT 2) = min (s.rn (Reg.GLN_CNT 2) + 1) 0xffffffff) ∧
            (s.hbmMark addr = 2 → t.hbmMark addr = 3 ∧ t.bit Reg.GLN_STAT 3 = true) ∧
            (s.hbmMark addr = 3 → t.hbmMark addr = 3 ∧ t.bit (Reg.MEM_PC_STAT pc) 3 = true))))

/-- R64 and R65: for operands 0 and 1 the LUT is f(a, b, c, d) = TT[8d + 4c + 2b + a] in every mode, its result is never Z, and
it depends on an operand exactly where two indices that differ only in that operand's bit hold different TT bits. -/
def Obligations.LutFollowsItsTable : Prop :=
  ∀ (mode tt : Nat),
    (∀ a b c d : Bool, lutEval mode tt (boolVal a) (boolVal b) (boolVal c) (boolVal d) =
      boolVal (tt.testBit (8 * b2n d + 4 * b2n c + 2 * b2n b + b2n a))) ∧
    (∀ a b c d : Val, lutEval mode tt a b c d ≠ .vz) ∧
    (∀ k, k < 4 → (lutDepends tt k = true ↔ ∃ i j, i < 16 ∧ j < 16 ∧ tt.testBit i ≠ tt.testBit j ∧ i.testBit k ≠ j.testBit k ∧
      ∀ m, m ≠ k → i.testBit m = j.testBit m))

/-- R17: a write of 0 to a clear register clears the counter it belongs to and that counter's OVF bit, and an increment that
follows at once leaves the counter at 1; so for every 32-bit counter with a clear register and for the 48-bit PRBS_BITS of a
lane. -/
def Obligations.ClearRegistersClearCounterAndOverflow : Prop :=
  ∀ (s : State) (fn addr : Nat) (g : RegRow × List Nat), s.memWf = true → s.hostDown fn = false → s.gate fn addr = .inr g →
    (∀ r is, findCnt CntRow.clr addr cntRows = some (r, is) →
      ∃ t, exec (.counterClear fn addr 0) s = .next t ∧ t.rn (r.cntAt is) = 0 ∧ t.bit (r.ovfAt is).1 (r.ovfAt is).2 = false ∧
        (t.count (r.cntAt is)).rn (r.cntAt is) = 1) ∧
    (∀ q i, findCnt CntRow.clr addr cntRows = none → bitsClrOf addr = some (q, i) →
      ∃ t, exec (.counterClear fn addr 0) s = .next t ∧ t.rn64 (Reg.LNK_LANE_PRBS_BITS_LO q i) = 0 ∧
        t.bit (Reg.LNK_LANE_OVF q i) 4 = false ∧ (t.countBits q i 1).rn64 (Reg.LNK_LANE_PRBS_BITS_LO q i) = 1)

/-- NOP, QUERY, NEGOTIATE and PROGRESS end with the result that R376 gives them: QUERY with the item asked for, NEGOTIATE with
version 1.0 or 1.1, kept for the function, and PROGRESS with the stage of its target. Where the spec leaves a point open this
states the model's choice: log 14. -/
def Obligations.ProtocolCommandsAnswer : Prop :=
  ∀ (s : State) (id : Nat) (c : Cmd), s.memWf = true →
    (s.taken 0x00 id = some c → ∃ t, exec (.nop id) s = .next t ∧ t.ended id Status.ok 0 ∧ t.regs = s.regs ∧ t.plots = s.plots) ∧
    (s.taken 0x01 id = some c → c.paramsOk = true → ∃ t, exec (.query id) s = .next t ∧ t.regs = s.regs ∧
      (nfld (c.dw 6) 0 16 = 0x0000 → t.ended id Status.ok 0x0101) ∧
      (nfld (c.dw 6) 0 16 = 0x0001 → t.ended id Status.ok (s.rn Reg.SOW_FW_VER)) ∧
      (nfld (c.dw 6) 0 16 = 0x0002 → t.ended id Status.ok
        (s.fld (Reg.CMD_FUNC_Q c.func) 0 12 + s.fld (Reg.CMD_FUNC_Q c.func) 16 13 * 65536 + c.func * 2 ^ 32)) ∧
      (nfld (c.dw 6) 0 16 = 0x0003 → t.ended id Status.ok (s.heldBy c.func + s.fld (Reg.CMD_FUNC_CFG c.func) 0 17 * 2 ^ 32)) ∧
      (nfld (c.dw 6) 0 16 = 0x0004 → t.ended id Status.ok
        (s.sow c.plot * 2 ^ 28 + s.cmtState c.plot * 2 ^ 24 + (s.plot c.plot).tm.pn % 2 ^ 32 * 2 ^ 32)) ∧
      (nfld (c.dw 6) 0 16 = 0x0005 → t.ended id Status.ok s.ftNs) ∧
      (nfld (c.dw 6) 0 16 = 0x0010 → t.ended id Status.ok (s.rn (Reg.PLT_PASS_CFG c.plot) + s.hlCfg c.plot * 2 ^ 32)) ∧
      (nfld (c.dw 6) 0 16 = 0x0011 → t.ended id Status.ok (s.plot c.plot).tm.cpn)) ∧
    (s.taken 0x02 id = some c → (s.bit (Reg.CMD_FUNC_CFG c.func) 23 = false ∨ s.heldBy c.func = 1) → nfld (c.dw 7) 8 8 ≤ 1 →
      1 ≤ nfld (c.dw 6) 8 8 → ∃ t, exec (.negotiate id) s = .next t ∧ t.bit (Reg.CMD_FUNC_CFG c.func) 23 = true ∧
        t.fld (Reg.CMD_FUNC_CFG c.func) 24 8 = 16 + (if nfld (c.dw 6) 8 8 = 1 ∧ nfld (c.dw 6) 0 8 = 0 then 0 else 1) ∧
        t.ended id Status.ok (0x01010100 + (if nfld (c.dw 6) 8 8 = 1 ∧ nfld (c.dw 6) 0 8 = 0 then 0 else 1))) ∧
    (s.taken 0xc0 id = some c → ∀ d, (s.cmd.store.find? fun d => d.space == c.space && d.tag == nfld (c.dw 6) 0 16 && !d.noTag) = some d →
      ∃ t r, exec (.progress id) s = .next t ∧ t.ended id Status.ok r ∧ r % 65536 = stageCode d.stage) ∧
    (s.taken 0xc0 id = some c → (∀ d ∈ s.cmd.store, d.space = c.space → d.tag = nfld (c.dw 6) 0 16 → d.noTag = true) →
      ∃ t, exec (.progress id) s = .next t ∧ t.ended id Status.invalidParam 0)

/-- The Field Time commands and REMAP_ADD: while no plot is released TIME_STEP sets or moves Field Time, clears the refusals
and leaves the servo LOCKED on a grandmaster and in ACQUIRE elsewhere, and TIME_CONFIG writes the registers its mask names;
while one is, both answer BUSY, TIME_CONFIG only if a field other than FT_JUMP_LIMIT changes (R285). REMAP_ADD answers the
first free entry of its pseudo-channel, and NO_RESOURCE when all 32 are in use (R152). Where the spec leaves a point open this
states the model's choice: log 47. -/
def Obligations.TimeAndRemapCommandsTakeEffect : Prop :=
  ∀ (s : State) (id : Nat) (c : Cmd), s.memWf = true →
    (s.taken 0x81 id = some c → s.anyReleased = true →
      ∃ t, exec (.timeStep id) s = .next t ∧ t.ended id Status.busy 0 ∧ t.ft = s.ft ∧ t.regs = s.regs) ∧
    (s.taken 0x81 id = some c → s.anyReleased = false →
      ∃ t, exec (.timeStep id) s = .next t ∧ t.ended id Status.ok t.ftNs ∧ t.ft.refused = 0 ∧
        t.ft.ft = (if (c.dw 6).testBit 0 then (s.ftNow + signedOf (c.dw64 7) 64 * 2 ^ 32 + c.dw 9).toNat
          else c.dw64 7 * 2 ^ 32 + c.dw 9) ∧
        t.ftState = if s.isGm then 2 else 1) ∧
    (s.taken 0x80 id = some c → s.anyReleased = false →
      ∃ t, exec (.timeConfig id) s = .next t ∧ t.ended id Status.ok 0 ∧ t.ft.ft = s.ft.ft ∧
        ∀ f ∈ [(0, 7, Reg.FT_CFG, 10, 22), (1, 8, Reg.FT_JUMP_LIMIT, 0, 20), (2, 9, Reg.FT_PPS_OFS, 0, 32),
            (3, 10, Reg.FT_PPS_OUT, 24, 8), (4, 11, Reg.FT_PPS_OUT_OFS, 0, 30)],
          t.fld f.2.2.1 f.2.2.2.1 f.2.2.2.2 =
            if (c.dw 6).testBit f.1 then nfld (c.dw f.2.1) f.2.2.2.1 f.2.2.2.2 else s.fld f.2.2.1 f.2.2.2.1 f.2.2.2.2) ∧
    (s.taken 0x80 id = some c → s.anyReleased = true →
      (∃ f ∈ [(0, 7, Reg.FT_CFG, 10, 22), (2, 9, Reg.FT_PPS_OFS, 0, 32), (3, 10, Reg.FT_PPS_OUT, 24, 8),
          (4, 11, Reg.FT_PPS_OUT_OFS, 0, 30)], (c.dw 6).testBit f.1 = true ∧
        nfld (c.dw f.2.1) f.2.2.2.1 f.2.2.2.2 ≠ s.fld f.2.2.1 f.2.2.2.1 f.2.2.2.2) →
      ∃ t, exec (.timeConfig id) s = .next t ∧ t.ended id Status.busy 0 ∧ t.regs = s.regs) ∧
    (s.taken 0x91 id = some c → s.hbmStatus = 0 →
      ∃ t, exec (.remapAdd id) s = .next t ∧
        (∀ k, k < 32 → (∀ j, j < k → s.bit (Reg.MEM_PC_REMAP (nfld (c.dw 6) 0 6) j) 31 = true) →
          s.bit (Reg.MEM_PC_REMAP (nfld (c.dw 6) 0 6) k) 31 = false →
          t.ended id Status.ok k ∧ t.bit (Reg.MEM_PC_REMAP (nfld (c.dw 6) 0 6) k) 31 = true ∧
            t.fld (Reg.MEM_PC_REMAP (nfld (c.dw 6) 0 6) k) 16 6 = nfld (c.dw 7) 16 6 ∧
            t.fld (Reg.MEM_PC_REMAP (nfld (c.dw 6) 0 6) k) 0 16 = nfld (c.dw 7) 0 16) ∧
        ((∀ j, j < 32 → s.bit (Reg.MEM_PC_REMAP (nfld (c.dw 6) 0 6) j) 31 = true) → t.ended id Status.noResource 0 ∧ t.regs = s.regs))

/-- PLOT_CREATE and PLOT_ASSIGN: a free index whose tag no plot holds becomes a live plot of its owner with no resources
(R393), an index or tag in use answers NO_RESOURCE; a grant of free resources gives the plot those and answers OK, a grant of a
resource that another plot holds, that is still being filled, or that R132 keeps from the plot, answers NO_RESOURCE and grants
nothing; the XT region is granted to a plot that has none, where it is free; and a grant that the state of the plot excludes
answers BUSY (R394). Where the spec leaves a point open this states the model's choice: log 19, log 44. -/
def Obligations.PlotsAreCreatedAndGranted : Prop :=
  ∀ (s : State) (id : Nat) (c : Cmd), s.memWf = true →
    (s.taken 0x10 id = some c → c.dw 6 / 65536 ≠ 0 → s.enabledFn (nfld (c.dw 6) 0 6) = true →
      ((s.plot c.plot).id.live = true ∨ (s.plotByTag (c.dw 6 / 65536)).isSome = true →
        ∃ t, exec (.plotCreate id) s = .next t ∧ t.ended id Status.noResource 0 ∧ t.plots = s.plots ∧ t.regs = s.regs) ∧
      ((s.plot c.plot).id.live = false → s.plotByTag (c.dw 6 / 65536) = none →
        ∃ t, exec (.plotCreate id) s = .next t ∧ t.ended id Status.ok 0 ∧
          t.plot c.plot = { id := { live := true, owner := nfld (c.dw 6) 0 6, ptag := c.dw 6 / 65536 } } ∧
          (∀ q, q ≠ c.plot → t.plot q = s.plot q) ∧ t.bit (Reg.PLT_ID c.plot) 31 = true ∧
          t.fld (Reg.PLT_ID c.plot) 16 6 = nfld (c.dw 6) 0 6)) ∧
    (s.taken 0x13 id = some c → (c.dw 6).testBit 8 = false → c.grantOk = true → s.grantState c.plot c.grant.1 = true →
      c.grant.1 ∈ [0, 1, 2, 3, 4, 5, 6, 8] →
      ((∀ i ∈ kindItems c.grant.1 c.grant.2.1 c.grant.2.2, s.ownerOf c.grant.1 i = none ∧ s.filling c.grant.1 i = false ∧
          s.pcExcluded c.plot c.grant.1 i = false) →
        (s.plot c.plot).id.live = true → c.plot < 16 →
        ∃ t, exec (.plotAssign id) s = .next t ∧ t.ended id Status.ok 0 ∧
          (∀ i ∈ kindItems c.grant.1 c.grant.2.1 c.grant.2.2, t.ownerOf c.grant.1 i = some c.plot) ∧
          ∀ q, q ≠ c.plot → t.plot q = s.plot q) ∧
      (∀ i ∈ kindItems c.grant.1 c.grant.2.1 c.grant.2.2, (∃ q, s.ownerOf c.grant.1 i = some q ∧ q ≠ c.plot) ∨
          s.filling c.grant.1 i = true ∨ s.pcExcluded c.plot c.grant.1 i = true →
        ∃ t, exec (.plotAssign id) s = .next t ∧ t.ended id Status.noResource 0 ∧ t.plots = s.plots ∧ t.regs = s.regs)) ∧
    (s.taken 0x13 id = some c → (c.dw 6).testBit 8 = false → c.grantOk = true → s.grantState c.plot 7 = true → c.grant.1 = 7 →
      ((s.xtRegion c.plot).2 = 0 → s.xtFree c.grant.2.1 c.grant.2.2 = true →
        ∃ t, exec (.plotAssign id) s = .next t ∧ t.ended id Status.ok 0 ∧ t.xtRegion c.plot = c.grant.2 ∧ t.plots = s.plots) ∧
      ((s.xtRegion c.plot).2 ≠ 0 ∨ s.xtFree c.grant.2.1 c.grant.2.2 = false →
        ∃ t, exec (.plotAssign id) s = .next t ∧ t.ended id Status.noResource 0 ∧ t.plots = s.plots ∧ t.regs = s.regs)) ∧
    (s.taken 0x13 id = some c → (c.dw 6).testBit 8 = false → c.grantOk = true → s.grantState c.plot c.grant.1 = false →
      ∃ t, exec (.plotAssign id) s = .next t ∧ t.ended id Status.busy 0 ∧ t.plots = s.plots ∧ t.regs = s.regs)

/-- PLOT_REVOKE, PLOT_RESET, PLOT_DESTROY and the end of a fill. Resources of the plot that nothing keeps there leave it and
answer OK, furrow instruction memories, pages, banks and XT entries zero-filled and kept from other plots until their fill
ends, and no other plot changes; a resource that R395 holds back answers BUSY, and pages or an XT region BUSY or INTERNAL while
HBM is not ready (R153). A reset plot answers OK and is EMPTY, stopped and without image, recovery point, forces and eviction
save; it keeps its resources and its pages, its trunks aside (R396), and without FORCE it waits behind an export of the plot. A
destroyed plot is reset and every byte of its pages and banks and every XT entry of its is 0 while its command waits; where it
holds pages or an XT region and HBM is not ready its command answers so. The end of its fill deletes it and ends the command
with OK (R397), and the end of any other fill gives the resource back. Where the spec leaves a point open this states the
model's choice: log 16, log 19. -/
def Obligations.PlotsAreRevokedResetAndDestroyed : Prop :=
  (∀ (s : State) (id : Nat) (c : Cmd), s.memWf = true → c.plot < 16 → s.taken 0x13 id = some c → (c.dw 6).testBit 8 = true →
      c.grantOk = true →
      let kind := c.grant.1
      let items := kindItems kind c.grant.2.1 c.grant.2.2
      (kind ≠ 7 → (∀ i ∈ items, s.ownerOf kind i = some c.plot) →
        (s.revokeBusy c.plot kind items = true →
          ∃ t, exec (.plotRevoke id) s = .next t ∧ t.ended id Status.busy 0 ∧ t.plots = s.plots ∧ t.regs = s.regs) ∧
        (s.revokeBusy c.plot kind items = false → kind = 3 → s.hbmStatus ≠ 0 →
          ∃ t, exec (.plotRevoke id) s = .next t ∧ t.ended id s.hbmStatus 0 ∧ t.plots = s.plots ∧ t.regs = s.regs) ∧
        (s.revokeBusy c.plot kind items = false → (kind = 3 → s.hbmStatus = 0) →
          ∃ t, exec (.plotRevoke id) s = .next t ∧ t.ended id Status.ok 0 ∧ (∀ i ∈ items, t.ownerOf kind i ≠ some c.plot) ∧
            (kind = 0 ∨ kind = 3 ∨ kind = 4 → ∀ i ∈ items, t.filling kind i = true) ∧
            (kind = 0 → ∀ i ∈ items, ∀ k, k < 131072 → cget 0 t.bp.imem (s.phys i * 131072 + k) = 0) ∧
            (kind = 3 → ∀ i ∈ items, ∀ k, k < mib2 → cget 0 t.hbm.mem (i * mib2 + k) = 0) ∧
            (kind = 4 → ∀ i ∈ items, ∀ k, k < 2 ^ 18 → cget 0 t.tile.spm (i * 2 ^ 18 + k) = 0) ∧
            ∀ q, q ≠ c.plot → t.plot q = s.plot q)) ∧
      (kind = 7 → s.xtRegion c.plot = c.grant.2 → s.revokeBusy c.plot 7 items = false →
        (s.hbmStatus ≠ 0 →
          ∃ t, exec (.plotRevoke id) s = .next t ∧ t.ended id s.hbmStatus 0 ∧ t.plots = s.plots ∧ t.regs = s.regs) ∧
        (s.hbmStatus = 0 →
          ∃ t, exec (.plotRevoke id) s = .next t ∧ t.ended id Status.ok 0 ∧ t.xtRegion c.plot = (0, 0) ∧ t.plots = s.plots ∧
            ∀ k, k < 2 * c.grant.2.2 * 1024 → cget 0 t.xch.xt (c.grant.2.1 * 1024 + k) = 0))) ∧
  (∀ (s : State) (id : Nat) (c : Cmd), s.memWf = true → c.plot < 16 → s.taken 0x14 id = some c →
      (s.ckptBusy c.plot = true → (c.dw 0).testBit 16 = false → exec (.plotReset id) s = .next s) ∧
      (s.ckptBusy c.plot = false ∨ (c.dw 0).testBit 16 = true →
        ∃ t, exec (.plotReset id) s = .next t ∧ t.ended id Status.ok 0 ∧ t.sow c.plot = Sow.empty ∧
          t.plotRuns c.plot = false ∧ (t.plot c.plot).img = { gsr := true } ∧ (t.plot c.plot).cmt = {} ∧
          (t.plot c.plot).id.forces = [] ∧ (t.plot c.plot).id.save = none ∧
          (t.plot c.plot).id.live = (s.plot c.plot).id.live ∧ (t.plot c.plot).id.owner = (s.plot c.plot).id.owner ∧
          { (t.plot c.plot).res with map := [] } = { (s.plot c.plot).res with map := [], trunks := [] } ∧
          (t.plot c.plot).res.map.map (fun e => (e.page, e.lifted)) = (s.plot c.plot).res.map.map fun e => (e.page, e.lifted))) ∧
  (∀ (s : State) (id : Nat) (c : Cmd), s.memWf = true → c.plot < 16 → s.taken 0x11 id = some c →
      (s.holdsHbm c.plot = true → s.hbmStatus ≠ 0 →
        ∃ t, exec (.plotDestroy id) s = .next t ∧ t.ended id s.hbmStatus 0 ∧ t.plots = s.plots ∧ t.regs = s.regs) ∧
      (s.holdsHbm c.plot = false ∨ s.hbmStatus = 0 →
        ∃ t, exec (.plotDestroy id) s = .next t ∧ t.waits id ∧ t.bit (Reg.PLT_ID c.plot) 30 = true ∧
          (c.plot, id) ∈ t.tile.destroying ∧ t.sow c.plot = Sow.empty ∧ t.plotRuns c.plot = false ∧
          (∀ e ∈ (s.plot c.plot).res.map, e.lifted = false → ∀ k, k < mib2 → cget 0 t.hbm.mem (e.page * mib2 + k) = 0) ∧
          (∀ b ∈ s.banksOf c.plot, ∀ k, k < 2 ^ 18 → cget 0 t.tile.spm (b * 2 ^ 18 + k) = 0) ∧
          ∀ k, k < 2 * (s.xtRegion c.plot).2 * 1024 → cget 0 t.xch.xt ((s.xtRegion c.plot).1 * 1024 + k) = 0)) ∧
  (∀ (s : State) (kind index p id : Nat), s.memWf = true →
      (kind = 9 → p < 16 → s.tile.destroying.find? (fun e => e.1 == index) = some (p, id) →
        ∃ t, exec (.zeroFillDone kind index) s = .next t ∧ t.plot p = {} ∧ t.bit (Reg.PLT_ID p) 31 = false ∧
          (∀ e ∈ t.tile.destroying, e.1 ≠ p) ∧ (id ≠ 0 → (∃ e ∈ s.cmd.store, e.id = id) → t.ended id Status.ok 0)) ∧
      (kind = 9 → s.tile.destroying.find? (fun e => e.1 == index) = none → exec (.zeroFillDone kind index) s = .next s) ∧
      (kind ≠ 9 → ∃ t, exec (.zeroFillDone kind index) s = .next t ∧ t.plots = s.plots ∧ t.regs = s.regs ∧
        ∀ z, z ∈ t.tile.zero ↔ z ∈ s.tile.zero ∧ z ≠ ⟨kind, index⟩))

/-- SOW_BEGIN, SOW_SEGMENT and SOW_ABORT on a host whose pages all translate: a plot that is not being sown, released or run
starts SOWING without an image (R335); a segment that opens under its key and is well formed joins the seed shadow and answers
its SEGIDX, one that is not well formed answers IMAGE_CHECK_FAIL and one for which the shadow storage has no room NO_RESOURCE,
both with the plot FAILED (R338, R340), one that does not open answers IMAGE_AUTH_FAIL and changes no plot (R336), and while
HBM is not ready a segment answers so (R153); and an aborted plot is EMPTY (R339). Where the spec leaves a point open this
states the model's choice: log 18, log 41, log 44. -/
def Obligations.SowingTakesSegments : Prop :=
  ∀ (s : State) (id : Nat) (c : Cmd), s.memWf = true → c.plot < 16 → s.host.refused = [] → s.host.withdrawn = [] →
    (s.taken 0x20 id = some c →
      (s.sow c.plot = Sow.sowing ∨ s.sow c.plot = Sow.releasing ∨ s.ckptBusy c.plot = true →
        ∃ t, exec (.sowBegin id) s = .next t ∧ t.ended id Status.busy 0 ∧ t.plots = s.plots ∧ t.regs = s.regs) ∧
      (s.sow c.plot ≠ Sow.sowing → s.sow c.plot ≠ Sow.releasing → s.ckptBusy c.plot = false → s.plotBusy c.plot = false →
        ∃ t, exec (.sowBegin id) s = .next t ∧ t.ended id Status.ok 0 ∧ t.sow c.plot = Sow.sowing ∧
          (t.plot c.plot).img.shadow = [] ∧ (t.plot c.plot).img.header = [] ∧
          t.bit (Reg.SOW_PLOT_STAT c.plot) 27 = (c.dw 6).testBit 0 ∧ t.bit (Reg.SOW_PLOT_STAT c.plot) 26 = (c.dw 6).testBit 1)) ∧
    (s.taken 0x21 id = some c → s.hbmStatus ≠ 0 →
      ∃ t, exec (.sowSegment id) s = .next t ∧ t.ended id s.hbmStatus 0 ∧ t.plots = s.plots ∧ t.regs = s.regs) ∧
    (s.taken 0x21 id = some c → s.hbmStatus = 0 → s.sow c.plot = Sow.sowing →
      ∀ bytes h, bytes = s.hostRead c.func (c.dw64 6) (c.dw 8) → h = segHdr bytes → c.dw 8 = 80 + h.length →
        ((s.plot c.plot).img.shadow.any fun g => g.idx == h.segidx) = false → ((s.plot c.plot).img.header = [] → h.segidx = 0) →
        (s.openSegment c.plot h bytes = none →
          ∃ t, exec (.sowSegment id) s = .next t ∧ t.ended id Status.imageAuthFail 0 ∧ t.plots = s.plots) ∧
        (∀ body, s.openSegment c.plot h bytes = some body → s.segmentOk c.plot h body = false →
          ∃ t, exec (.sowSegment id) s = .next t ∧ t.ended id Status.imageCheckFail 0 ∧ t.sow c.plot = Sow.failed ∧
            (t.plot c.plot).img.shadow = (s.plot c.plot).img.shadow) ∧
        (∀ body, s.openSegment c.plot h bytes = some body → s.segmentOk c.plot h body = true →
          ∃ t, exec (.sowSegment id) s = .next t ∧
            (s.shadowFits body.length = true → t.ended id Status.ok h.segidx ∧ t.sow c.plot = Sow.sowing ∧
              (t.plot c.plot).img.shadow = (s.plot c.plot).img.shadow ++ [⟨h.segidx, h.kind, h.iv, body⟩]) ∧
            (s.shadowFits body.length = false → t.ended id Status.noResource 0 ∧ t.sow c.plot = Sow.failed ∧
              (t.plot c.plot).img.shadow = (s.plot c.plot).img.shadow))) ∧
    (s.taken 0x23 id = some c → [Sow.sowing, Sow.failed, Sow.sown].contains (s.sow c.plot) = true →
      ∃ t, exec (.sowAbort id) s = .next t ∧ t.ended id Status.ok 0 ∧ t.sow c.plot = Sow.empty ∧
        (t.plot c.plot).img.shadow = [])

/-- SOW_COMMIT of a complete image, as the words of its seed shadow read (R340), writes the plot and leaves it SOWN, its result
the number of furrows; a declared gate that joins the plot with itself answers INVALID_PARAM and the plot is still SOWING
(R128, R334), and where another check fails the plot is FAILED with that status (R337, R338). RELEASE of a SOWN plot of this
device alone that no SOWN_N mask holds back answers OK with the plot RELEASED and its write enables granted (R342); RELEASE of
any other plot is refused. Where the spec leaves a point open this states the model's choice: log 18. -/
def Obligations.CommitAndReleaseEndTheSowing : Prop :=
  ∀ (s : State) (id : Nat) (c : Cmd), s.memWf = true → c.plot < 16 → id ≠ 0 →
    (s.taken 0x22 id = some c → s.hbmStatus = 0 → s.sow c.plot = Sow.sowing → (s.plot c.plot).img.header ≠ [] →
      s.fld (Reg.SOW_PLOT_SEG c.plot) 16 16 ≤ (s.plot c.plot).img.shadow.length →
      let u := s.shadowRead c.plot
      ∃ t, exec (.sowCommit id) s = .next t ∧
        (if u.commitStatus (u.partOf c.plot) = Status.ok then
          t.ended id Status.ok (s.plot c.plot).res.furrows.length ∧ t.sow c.plot = Sow.sown ∧
            t.rn (Reg.SOW_PLOT_PROG c.plot) = (s.plot c.plot).res.furrows.length % 2 ^ 32
        else if u.gateLoop c.plot = true then t.ended id Status.invalidParam 0 ∧ t.sow c.plot = Sow.sowing
        else t.ended id (u.commitStatus (u.partOf c.plot)) 0 ∧ t.sow c.plot = Sow.failed ∧
          (t.plot c.plot).img.failStatus = u.commitStatus (u.partOf c.plot))) ∧
    (s.taken 0x24 id = some c → s.sow c.plot ≠ Sow.sown →
      ∃ t, exec (.release id) s = .next t ∧ t.ended id Status.invalidParam 0 ∧ t.plots = s.plots ∧ t.regs = s.regs) ∧
    (s.taken 0x24 id = some c → s.sow c.plot = Sow.sown → s.bit Reg.CRP_STAT 1 = true → (s.plot c.plot).res.ports = [] →
      s.ndev c.plot = 1 → s.bit Reg.SOW_SOWN_MASK c.plot = false →
      ∃ t, exec (.release id) s = .next t ∧ t.ended id Status.ok 0 ∧ t.sow c.plot = Sow.released ∧
        (t.plot c.plot).id.locked = true ∧ (t.plot c.plot).img.writeEn = true)

/-- The boot window and what follows a release: PF0's bytes stand in the window while firmware loads, a write before the fill
of HBM is done is discarded with EARLY, and an access past its end faults; GO starts firmware whose checks pass and otherwise
records the check that failed (R326-R328); running firmware leaves its version in the registers; a SOWN packet is kept; SOWN_N
high releases the masked plot, and changes no plot where none is releasing; a release that waits too long ends with
DEADLINE_MISSED and the plot SOWN again; and SOWN is sent again each 100 us (R342-R344). Where the spec leaves a point open
this states the model's choice: log 18, log 44. -/
def Obligations.BootAndReleaseEvents : Prop :=
  ∀ (s : State), s.memWf = true →
    (∀ offset data, (bootSize < offset + data.length → exec (.bootWindowWrite 0 offset data) s = .fault .outsideBar) ∧
      (offset + data.length ≤ bootSize → s.hostDown 0 = false → s.bit Reg.MEM_STAT 0 = false →
        ∃ t, exec (.bootWindowWrite 0 offset data) s = .next t ∧ t.fld Reg.SOW_BOOT_STAT 24 4 = 5 ∧ t.boot = s.boot) ∧
      (offset + data.length ≤ bootSize → s.hostDown 0 = false → s.bit Reg.MEM_STAT 0 = true → s.bootState = 1 →
        ∃ t, exec (.bootWindowWrite 0 offset data) s = .next t ∧ t.regs = s.regs ∧
          ∀ a, cget 0 t.boot.window a =
            if offset ≤ a ∧ a < offset + data.length then data.getD (a - offset) 0 else cget 0 s.boot.window a)) ∧
    (s.hostDown 0 = false → s.bootState = 1 →
      ∃ t, exec (.go 0 0x80000000) s = .next t ∧
        (let len := s.fld Reg.SOW_BOOT_LEN 0 26
         let image := cgetList 0 s.boot.window 0 (fwBytes len)
         if fwCheck len s.boot.fusedMin image = 0 then t.bootState = 2 ∧ t.boot.started = some (leAt image 0x10 4, leAt image 8 4)
         else t.bootState = 1 ∧ t.fld Reg.SOW_BOOT_STAT 24 4 = fwCheck len s.boot.fusedMin image % 16)) ∧
    (∀ version svn, s.boot.started = some (version, svn) → s.bootState = 2 →
      ∃ t, exec .firmwareRunning s = .next t ∧ t.running = true ∧ t.rn Reg.SOW_FW_VER = version % 2 ^ 32 ∧
        t.fld Reg.SOW_FW_SVN 0 8 = svn % 256 ∧ t.boot.window = []) ∧
    (∀ port words p, s.plotByTag (pktTag words) = some p → s.sow p = Sow.sown →
      ∃ t, exec (.sown port words) s = .next t ∧ t.regs = s.regs ∧
        ∃ k ∈ (t.plot p).rel.packets, k.device = pktSrc words ∧ k.status = ctlStatus words) ∧
    (∀ p, s.sownLow = false → s.sownMask = [p] → s.sow p = Sow.releasing → (s.plot p).rel.stage = 3 → s.ndev p = 1 →
      (s.plot p).rel.localStatus = Status.ok →
      ∃ t, exec .sownNHigh s = .next t ∧ t.sow p = Sow.released) ∧
    (s.sownLow = false → (∀ p ∈ s.sownMask, s.sow p ≠ Sow.releasing) →
      ∃ t, exec .sownNHigh s = .next t ∧ t.bit Reg.SOW_SOWN_PIN 0 = true ∧ t.plots = s.plots) ∧
    (∀ p, p < 16 → s.sow p = Sow.releasing → (s.plot p).rel.stage = 3 →
      ∃ t, exec (.releaseTimeout p) s = .next t ∧ t.sow p = Sow.sown ∧ (t.plot p).rel = {} ∧
        (s.plot p).rel.since + 1000000 * s.relTmo ≤ t.ftNs ∧
        ((s.plot p).rel.cmd ≠ 0 → (∃ e ∈ s.cmd.store, e.id = (s.plot p).rel.cmd) →
          t.ended (s.plot p).rel.cmd Status.deadlineMissed 0)) ∧
    (∀ p, s.sow p = Sow.releasing → (s.plot p).rel.stage = 3 → 1 < s.ndev p →
      ∃ t, exec (.sownRepeat p) s = .next t ∧ (s.plot p).rel.sent + 100000 ≤ t.ftNs ∧ (t.plot p).rel.sent = t.ftNs ∧
        ∀ q ∈ (s.plot p).res.ports, q < 16 → s.portUp q = true → (s.xch.ctrlQ.filter fun w => w.port == q).length < 64 →
          ∃ w ∈ t.xch.ctrlQ, w.port = q ∧ w.high = true ∧ (parsePkt w.words).ptype = 5 ∧ ctlSub w.words = 1 ∧
            ctlStatus w.words = (s.plot p).rel.localStatus % 256 ∧ pktTag w.words = (s.plot p).id.ptag % 65536)

/-- RUN, STEP_PASS and HALT on a plot of one device: a stopped, launched plot that is not in fallow goes on with the pass after
the one at which it stopped while its command waits, and where it has lost data that its POISON_HALT stops for the command
answers DATA_LOSS (R150); HALT of a plot that does not run answers the PN at which it stands, with PLOT_FAULT where an exposure
is still to be reported (R198), HALT of a running one waits with its stop queued (R378), and HALT of a plot that is being
released, or that a SOW_SEGMENT or SOW_COMMIT works on, answers BUSY (R351). Where the spec leaves a point open this states the
model's choice: log 16. -/
def Obligations.RunStepAndHaltMoveThePlot : Prop :=
  ∀ (s : State) (id : Nat) (c : Cmd), s.memWf = true → s.ndev c.plot = 1 →
    (s.fallowState c.plot = 0 → s.ckptBusy c.plot = false → s.sow c.plot = Sow.released →
      (s.plot c.plot).tm.launched = true → s.started c.plot = false → s.deadStatus c.plot = none → c.dw64 8 = 0 →
      (s.plot c.plot).cmt.suppress = none → s.dataLost c.plot = false →
      (s.taken 0x30 id = some c → (c.dw64 6 = 0 ∨ (s.plot c.plot).tm.pn < c.dw64 6) →
        ∃ t, exec (.run id) s = .next t ∧ t.waits id ∧ (t.plot c.plot).tm.phase = .step 0 ∧
          (t.plot c.plot).tm.pn = s.nextPass c.plot) ∧
      (s.taken 0x32 id = some c → c.dw 6 ≠ 0 →
        ∃ t, exec (.stepPass id) s = .next t ∧ t.waits id ∧ (t.plot c.plot).tm.phase = .step 0 ∧
          (t.plot c.plot).tm.pn = s.nextPass c.plot)) ∧
    (s.fallowState c.plot = 0 → s.ckptBusy c.plot = false → s.dataLost c.plot = true →
      (s.taken 0x30 id = some c → ∃ t, exec (.run id) s = .next t ∧ t.ended id Status.dataLoss 0 ∧ t.plots = s.plots) ∧
      (s.taken 0x32 id = some c → c.dw 6 ≠ 0 →
        ∃ t, exec (.stepPass id) s = .next t ∧ t.ended id Status.dataLoss 0 ∧ t.plots = s.plots)) ∧
    (s.taken 0x31 id = some c → (c.dw 6).testBit 0 = false →
      (s.sow c.plot = Sow.releasing ∨ s.sowRuns c.plot = true →
        ∃ t, exec (.halt id) s = .next t ∧ t.ended id Status.busy 0 ∧ t.plots = s.plots ∧ t.regs = s.regs) ∧
      (s.sow c.plot ≠ Sow.releasing → s.sowRuns c.plot = false → s.plotBusy c.plot = false →
        ∃ t, exec (.halt id) s = .next t ∧ t.ended id (s.stopStatus c.plot) (s.plot c.plot).tm.pn ∧ t.regs = s.regs ∧
          (t.plot c.plot).tm = (s.plot c.plot).tm ∧ (t.plot c.plot).cmt.exposed = false) ∧
      (s.sow c.plot ≠ Sow.releasing → s.sowRuns c.plot = false → s.plotBusy c.plot = true → s.missed c.plot c = false →
        ∃ t, exec (.halt id) s = .next t ∧ t.waits id ∧
          (t.plot c.plot).id.stops = (s.plot c.plot).id.stops ++ [(0, c.atPn, id)] ∧
          (t.plot c.plot).tm = (s.plot c.plot).tm))

/-- LAUNCH_AT and its packets: a launch that passes the checks of R290 waits for its instant, one that does not answers the
check that failed; a LAUNCH packet does the same without a command (R346); a HALT_AT packet queues its stop, or, where its
headland has begun, leaves the plot's queue of stops alone. Where the spec leaves a point open this states the model's choice:
log 16, log 28. -/
def Obligations.LaunchesAndHaltPacketsAreTaken : Prop :=
  ∀ (s : State) (id : Nat) (c : Cmd), s.memWf = true →
    (s.taken 0x35 id = some c → (c.dw 8).testBit 0 = false →
      (∀ st, s.launchStatus c.plot (c.dw64 6) = some st →
        ∃ t, exec (.launchAt id) s = .next t ∧ t.ended id st 0 ∧ t.plots = s.plots ∧ t.regs = s.regs) ∧
      (s.launchStatus c.plot (c.dw64 6) = none →
        ∃ t, exec (.launchAt id) s = .next t ∧ t.waits id ∧ (t.plot c.plot).id.startAt = some (c.dw64 6, 0, 0) ∧
          (t.plot c.plot).tm = (s.plot c.plot).tm)) ∧
    (∀ port words p, s.plotByTag (pktTag words) = some p →
      (s.sow p = Sow.released → s.launchStatus p (ctlFt words) = none →
        ∃ t, exec (.launch port words) s = .next t ∧ (t.plot p).id.startAt = some (ctlFt words, 0, 0)) ∧
      (ctlAction words < 4 → (s.plot p).tm.launched = false →
        ∃ t, exec (.haltAt port words) s = .next t ∧
          (t.plot p).id.stops = (s.plot p).id.stops ++ [(ctlAction words, some (ctlPn words), 0)]) ∧
      (ctlAction words < 4 → (s.plot p).tm.launched = true → ctlPn words < (s.plot p).tm.pn →
        ∃ t, exec (.haltAt port words) s = .next t ∧ (t.plot p).id = (s.plot p).id ∧ (t.plot p).tm = (s.plot p).tm))

/-- FALLOW at its three levels and WAKE, on a launched plot of one device: a running plot waits for its headland, a stopped one
enters the level at once, which needs save pages from evict on; WAKE of a plot in light fallow leaves fallow, and without HOLD
begins the next pass, once no port of it is in training (R259, R410-R412); while a LIFT or DROP of the plot is in progress both
answer BUSY (R415). Where the spec leaves a point open this states the model's choice: log 16, log 21, log 83. -/
def Obligations.FallowAndWakeFollowTheirLevel : Prop :=
  ∀ (s : State) (id : Nat) (c : Cmd), s.memWf = true → c.plot < 16 → s.ndev c.plot = 1 → s.ckptBusy c.plot = false →
    (∀ i level, (i, level) ∈ [(Instr.fallow id, 0), (Instr.fallowEvict id, 1), (Instr.fallowPreEmpt id, 2)] →
      s.taken 0x33 id = some c → (c.dw 6).testBit 8 = false → nfld (c.dw 6) 0 2 = level → s.liftRuns c.plot = true →
      ∃ t, exec i s = .next t ∧ t.ended id Status.busy 0 ∧ t.plots = s.plots ∧ t.regs = s.regs) ∧
    (∀ i level, (i, level) ∈ [(Instr.fallow id, 0), (Instr.fallowEvict id, 1), (Instr.fallowPreEmpt id, 2)] →
      s.taken 0x33 id = some c → (c.dw 6).testBit 8 = false → nfld (c.dw 6) 0 2 = level → (c.dw 6).testBit 4 = false →
      s.liftRuns c.plot = false → s.sow c.plot = Sow.released → (s.plot c.plot).tm.launched = true → s.deadStatus c.plot = none → s.fallowState c.plot = 0 →
      (s.plotBusy c.plot = true → s.missed c.plot c = false →
        ∃ t, exec i s = .next t ∧ t.waits id ∧
          (t.plot c.plot).id.stops = (s.plot c.plot).id.stops ++ [(level + 1, c.atPn, id)]) ∧
      (s.plotBusy c.plot = false → c.atPn = none → (s.plot c.plot).id.startAt = none → (s.plot c.plot).res.furrows.length ≤ 512 →
        (∀ l ∈ (s.plot c.plot).res.furrows, s.phys l < 528) → (∀ k ∈ (s.plot c.plot).res.trunks, k < 256) →
        (level = 0 ∨ s.savePages c.plot ≤ s.freePages c.plot) →
        ∃ t, exec i s = .next t ∧ t.ended id Status.ok 0 ∧ t.fallowState c.plot = (if level = 0 then 1 else level + 2) ∧
          (level = 2 → (t.plot c.plot).res.furrows = []))) ∧
    (s.taken 0x34 id = some c → (∃ q ∈ (s.plot c.plot).res.ports, (s.port q).phase ≠ 0) → exec (.wake id) s = .next s) ∧
    (s.taken 0x34 id = some c → s.liftRuns c.plot = true → (∀ q ∈ (s.plot c.plot).res.ports, (s.port q).phase = 0) →
      ∃ t, exec (.wake id) s = .next t ∧ t.ended id Status.busy 0 ∧ t.plots = s.plots ∧ t.regs = s.regs) ∧
    (s.taken 0x34 id = some c → s.pwrState = 0 → s.liftRuns c.plot = false → s.fallowState c.plot = 1 →
      (s.plot c.plot).id.save = none → (∀ q ∈ (s.plot c.plot).res.ports, (s.port q).phase = 0) →
      ((c.dw 6).testBit 0 = true →
        ∃ t, exec (.wake id) s = .next t ∧ t.ended id Status.ok 0 ∧ t.fallowState c.plot = 0 ∧
          (t.plot c.plot).tm = (s.plot c.plot).tm) ∧
      ((c.dw 6).testBit 0 = false → c.dw64 8 = 0 →
        ∃ t, exec (.wake id) s = .next t ∧ t.ended id Status.ok 0 ∧ (t.plot c.plot).tm.phase = .step 0 ∧
          (t.plot c.plot).tm.pn = s.nextPass c.plot))

/-- Deep fallow: FALLOW with DEEP waits while the device enters, or answers BUSY where R479 says so; the device has entered
when no plot is left to evict, and its stacks are then in self-refresh; WAKE with PLOT = 0xFF leaves self-refresh, and the
device is awake when no lane is left in low-power idle (R479-R481). Where the spec leaves a point open this states the model's
choice: log 21, log 22. -/
def Obligations.DeepFallowIsEnteredAndLeft : Prop :=
  ∀ (s : State) (id : Nat) (c : Cmd), s.memWf = true →
    (s.taken 0x33 id = some c → (c.dw 6).testBit 8 = true →
      (s.deepBusy = true → ∃ t, exec (.fallowDeep id) s = .next t ∧ t.ended id Status.busy 0 ∧ t.regs = s.regs) ∧
      (s.deepBusy = false → s.deepPlots = [] →
        ∃ t, exec (.fallowDeep id) s = .next t ∧ t.waits id ∧ t.pwrState = 1 ∧ t.pwr.deepCmd = id)) ∧
    (s.pwrState = 1 → s.deepPlots = [] →
      ∃ t, exec .deepFallowEntered s = .next t ∧ t.pwrState = 2 ∧ t.hbm.selfRefresh = true ∧ t.bit Reg.CRP_STAT 3 = false ∧
        (s.pwr.deepCmd ≠ 0 → (∃ e ∈ s.cmd.store, e.id = s.pwr.deepCmd) → t.ended s.pwr.deepCmd Status.ok 0)) ∧
    (s.taken 0x34 id = some c → c.plot = 255 →
      (s.pwrState = 1 → ∃ t, exec (.wakeDeep id) s = .next t ∧ t.ended id Status.busy 0 ∧ t.regs = s.regs) ∧
      (s.pwrState = 2 → s.bit Reg.CRP_PWR_STAT 27 = false →
        ∃ t, exec (.wakeDeep id) s = .next t ∧ t.hbm.selfRefresh = false ∧
          t.pwrState = if s.lanesIn 8 = [] then 0 else 3))

/-- PEEK_STATE of one slot, where no injection is armed, answers the slot's value in the version of the newest committed pass,
X before release and from an uncorrectable row (R59, R76), and after a restored stake what the plot held when it was restored
(R202, R543); POKE_STATE, FORCE and UNFORCE wait in the plot's queue for its next headland (R25, R379), and are refused on a
plot that is not released. Where the spec leaves a point open this states the model's choice: log 16, log 17, log 58. -/
def Obligations.StateSlotsArePeekedAndPoked : Prop :=
  ∀ (s : State) (id : Nat) (c : Cmd), s.memWf = true → s.slotsOk c.plot c = true →
    (s.taken 0x40 id = some c → nfld (c.dw 7) 16 5 = 0 → s.inject = [] →
      (s.sow c.plot ≠ Sow.released →
        ∃ t, exec (.peekState id) s = .next t ∧ t.ended id Status.ok (valBits .vx) ∧ t.bp = s.bp ∧ t.plots = s.plots) ∧
      (∀ state, s.sow c.plot = Sow.released → (s.plot c.plot).tm.launched = true → (s.plot c.plot).cmt.kept = some state →
        ∃ t, exec (.peekState id) s = .next t ∧ t.bp = s.bp ∧ t.plots = s.plots ∧ t.regs = s.regs ∧
          t.ended id Status.ok (valBits (copySlot state (nfld (c.dw 6) 0 9) (nfld (c.dw 6) 16 7) (nfld (c.dw 7) 0 8)))) ∧
      (s.sow c.plot = Sow.released → (s.plot c.plot).tm.launched = true → (s.plot c.plot).id.save = none →
        (s.plot c.plot).cmt.kept = none → ∃ t, exec (.peekState id) s = .next t ∧ t.bp = s.bp ∧ (s.ecc = [] → t.plots = s.plots ∧ t.regs = s.regs) ∧
          t.ended id Status.ok (valBits (s.slotRead (s.phys (nfld (c.dw 6) 0 9))
            (s.verBefore c.plot (s.plot c.plot).tm.dpn) (nfld (c.dw 6) 16 7) (nfld (c.dw 7) 0 8))))) ∧
    (∀ i opc, (i, opc) ∈ [(Instr.pokeState id, 0x41), (Instr.force id, 0x42), (Instr.unforce id, 0x43)] →
      s.taken opc id = some c →
      (s.sow c.plot ≠ Sow.released →
        ∃ t, exec i s = .next t ∧ t.ended id Status.invalidParam 0 ∧ t.plots = s.plots ∧ t.bp = s.bp) ∧
      (s.sow c.plot = Sow.released → s.deadStatus c.plot = none → s.missed c.plot c = false →
        ∃ t, exec i s = .next t ∧ t.waits id ∧ (t.plot c.plot).id.hostQ = (s.plot c.plot).id.hostQ ++ [id] ∧ t.bp = s.bp ∧
          (t.plot c.plot).tm = (s.plot c.plot).tm))

/-- MEM_READ and MEM_WRITE with every page translated: on a plot that runs, a command on furrow RAM or design memory waits in
the plot's queue; on a stopped plot the read of a furrow's RAM writes host memory only inside its buffer, with the RAM's bytes
where no write is uncommitted, no word bad and no injection armed, and answers its length, the write of one answers its length
and leaves DRAM alone, and the write of a 16-byte word of a plot page puts the host's bytes there (R95, R148). SIG_CONFIG on a
stopped plot writes the unit's configuration (R319). Where the spec leaves a point open this states the model's choice: log 3,
log 17, log 46. -/
def Obligations.HostMemoryCommandsMoveTheirBytes : Prop :=
  ∀ (s : State) (id : Nat) (c : Cmd), s.memWf = true → s.host.refused = [] → s.host.withdrawn = [] → c.dw 13 = 0 →
    (∀ i opc, (i, opc) ∈ [(Instr.memRead id, 0x44), (Instr.memWrite id, 0x45)] → s.taken opc id = some c →
      Sow.sown ≤ s.sow c.plot → s.memRangeOk c.plot c = true → s.fallowState c.plot < 2 → s.missed c.plot c = false →
      c.opc = opc → (s.plotRuns c.plot = true → c.memSpace = 1 → ∃ t, exec i s = .next t ∧ t.waits id ∧
        (t.plot c.plot).id.hostQ = (s.plot c.plot).id.hostQ ++ [id] ∧ t.fur = s.fur ∧ t.host.mem = s.host.mem) ∧
      (s.plotBusy c.plot = false → c.memSpace = 1 → ∃ t, exec i s = .next t ∧ t.ended id Status.ok c.memLength ∧
        t.hbm.mem = s.hbm.mem ∧ (opc = 0x45 → t.host.mem = s.host.mem) ∧
        (opc = 0x44 → s.ecc = [] → s.inject = [] → cget [] s.fur.undo (s.phys (nfld (c.dw 7) 0 9)) = [] →
          ∀ k, k < c.memLength → t.hostRead c.func (c.memHost + k) 1 =
            s.ramBytesView c.plot (s.phys (nfld (c.dw 7) 0 9)) (c.memOffset + k) 1) ∧
        ∀ k, k < c.func * 2 ^ 64 + c.memHost ∨ c.func * 2 ^ 64 + c.memHost + c.memLength ≤ k →
          cget 0 t.host.mem k = cget 0 s.host.mem k)) ∧
    (s.taken 0x45 id = some c → s.hbmStatus = 0 → Sow.sown ≤ s.sow c.plot → s.plotBusy c.plot = false → s.missed c.plot c = false →
      c.opc = 0x45 → c.memSpace = 2 → c.memLength = 16 → c.memOffset % 16 = 0 →
      ∀ a, s.plotPageAddr c.plot c.memOffset = some a →
        ∃ t, exec (.memWrite id) s = .next t ∧ t.ended id Status.ok 16 ∧ t.hbmRead a 16 = s.hostRead c.func c.memHost 16) ∧
    (s.taken 0xb0 id = some c → nfld (c.dw 6) 0 5 ∈ (s.plot c.plot).res.sigs → sigConfigOk (wordAt (s.sigBlock c) 0) = true →
      s.deadStatus c.plot = none → s.missed c.plot c = false → s.plotBusy c.plot = false →
      ∃ t, exec (.sigConfig id) s = .next t ∧ t.ended id Status.ok 0 ∧
        t.rn (Reg.SIG_CFG (nfld (c.dw 6) 0 5)) = wordAt (s.sigBlock c) 0)

/-- STAKE and ROLLBACK for a PN that still lies ahead wait, noted for their plot; a second ROLLBACK is refused with BUSY, and
one without a PN as a bad parameter (R205, R215). Where the spec leaves a point open this states the model's choice: log 16,
log 28. -/
def Obligations.StakeAndRollbackAreNoted : Prop :=
  ∀ (s : State) (id : Nat) (c : Cmd), s.memWf = true → s.sow c.plot = Sow.released → s.deadStatus c.plot = none →
    (∀ n, c.atPn = some n → s.missed c.plot c = false →
      (s.taken 0x50 id = some c → s.takesStakes c.plot = true → (s.plot c.plot).tm.cpn < n →
        ∃ t, exec (.stake id) s = .next t ∧ t.waits id ∧
          (t.plot c.plot).cmt.extra = (s.plot c.plot).cmt.extra ++ [(n, id)] ∧ (t.plot c.plot).tm = (s.plot c.plot).tm) ∧
      (s.taken 0x53 id = some c → (∀ e ∈ (s.plot c.plot).cmt.rollback, e.2 = none) →
        ∃ t, exec (.rollback id) s = .next t ∧ t.waits id ∧
          (t.plot c.plot).cmt.rollback = (s.plot c.plot).cmt.rollback ++ [(n, some id)] ∧
          (t.plot c.plot).tm = (s.plot c.plot).tm) ∧
      (s.taken 0x53 id = some c → (∃ e ∈ (s.plot c.plot).cmt.rollback, e.2 ≠ none) →
        ∃ t, exec (.rollback id) s = .next t ∧ t.ended id Status.busy 0 ∧ t.plots = s.plots)) ∧
    (c.atPn = none →
      (s.taken 0x50 id = some c → ∃ t, exec (.stake id) s = .next t ∧ t.ended id Status.invalidParam 0 ∧ t.plots = s.plots) ∧
      (s.taken 0x53 id = some c → ∃ t, exec (.rollback id) s = .next t ∧ t.ended id Status.invalidParam 0 ∧ t.plots = s.plots))

/-- CKPT_EXPORT of a stopped plot checks the rows and words that it reads, writes the header of what they then read as and
answers the bytes written, and changes no plot where none of them is bad; a buffer too small is told the size; CKPT_IMPORT of
an export whose header and CRC agree puts the plot at the exported pass, its data memory that of the body, one that does not
agree answers IMAGE_CHECK_FAIL with no plot changed, and one whose header agrees in a buffer too small answers INVALID_PARAM
(R488, R489). Where the spec leaves a point open this states the model's choice: log 16, log 24, log 44. -/
def Obligations.CheckpointsAreExportedAndImported : Prop :=
  ∀ (s : State) (id : Nat) (c : Cmd), s.memWf = true → s.host.refused = [] → s.host.withdrawn = [] → c.dw 13 = 0 →
    s.plotBusy c.plot = false → (s.sow c.plot = Sow.sown ∨ s.sow c.plot = Sow.released) → s.ckptLifted c.plot = false → s.hbmStatus = 0 →
    (s.taken 0x51 id = some c →
      ∃ t, exec (.ckptExport id) s = .next t ∧
        (if c.dw64 8 < kib4 + s.ckptBody c.plot then t.ended id Status.invalidParam (kib4 + s.ckptBody c.plot) ∧ t.host = s.host
        else t.ended id Status.ok (kib4 + s.ckptBody c.plot) ∧ (s.ecc = [] → s.inject = [] → t.plots = s.plots) ∧
          let u := s.ckptChecks c.plot
          t.hostRead c.func (c.dw64 6) 4096 = u.ckptHeader c.plot (u.ckptBytes c.plot))) ∧
    (s.taken 0x52 id = some c → s.fallowState c.plot = 0 → (s.plot c.plot).id.startAt = none → s.deadStatus c.plot = none →
      let h := s.hostRead c.func (c.dw64 6) kib4
      ∃ t, exec (.ckptImport id) s = .next t ∧
        (if c.dw64 8 < kib4 ∨ (s.ckptHeaderOk c.plot h = true ∧ c.dw64 8 < kib4 + s.ckptBody c.plot) then
          t.ended id Status.invalidParam 0 ∧ t.plots = s.plots
        else if s.ckptHeaderOk c.plot h = false ∨ crc32c (s.hostRead c.func (c.dw64 6 + kib4) (s.ckptBody c.plot)) ≠ leAt h 40 4 then
          t.ended id Status.imageCheckFail 0 ∧ t.plots = s.plots
        else (∃ r, t.ended id Status.ok r) ∧ (t.plot c.plot).tm.pn = leAt h 16 8 ∧ (t.plot c.plot).tm.cpn = leAt h 16 8 ∧
          (t.plot c.plot).id.forces = [] ∧
          ∀ f, s.plotPhys c.plot = [f] → cellsWf .vx s.bp.dmem = true → ∀ i, i < 131072 →
            cget .vx t.bp.dmem (dmemKey f 0 0 + i) =
              ((unpackBytes (((s.hostRead c.func (c.dw64 6 + kib4) (s.ckptBody c.plot)).drop ckptState).take ckptData))[i]?).getD .vx))

/-- LIFT of pages that nothing uses marks each of them lifted, the bytes of a page standing in host memory; DROP of a lifted
page gives it a free page of DRAM with the host's bytes, and without one answers NO_RESOURCE (R413, R414). Both answer so while
HBM is not ready (R153). Where the spec leaves a point open this states the model's choice: log 16, log 46. -/
def Obligations.PagesAreLiftedAndDropped : Prop :=
  ∀ (s : State) (id : Nat) (c : Cmd), s.memWf = true → s.host.refused = [] → s.host.withdrawn = [] → c.dw 13 = 0 →
    s.mapRangeOk c = true →
    (s.hbmStatus ≠ 0 → ∀ i opc, (i, opc) ∈ [(Instr.lift id, 0x54), (Instr.drop id, 0x55)] → s.taken opc id = some c →
      ∃ t, exec i s = .next t ∧ t.ended id s.hbmStatus 0 ∧ t.plots = s.plots ∧ t.hbm = s.hbm) ∧
    (s.hbmStatus = 0 → s.taken 0x54 id = some c → (∀ e ∈ s.mapEntries c, e.lifted = false ∧ s.liftBusy c.plot e = false) →
      ∃ t, exec (.lift id) s = .next t ∧ t.ended id Status.ok (c.dw 7) ∧
        (∀ i, i < c.dw 7 → ∃ e, (t.plot c.plot).res.map[c.dw 6 + i]? = some e ∧ e.lifted = true) ∧
        (c.dw 7 = 1 → ∀ e, (s.plot c.plot).res.map[c.dw 6]? = some e →
          t.hostRead c.func (c.dw64 8) mib2 = s.hbmRead (e.page * mib2) mib2) ∧
        ∀ q, q ≠ c.plot → t.plot q = s.plot q) ∧
    (s.hbmStatus = 0 → s.taken 0x55 id = some c → (∃ e ∈ s.mapEntries c, e.lifted = false) →
      ∃ t, exec (.drop id) s = .next t ∧ t.ended id Status.invalidParam 0 ∧ t.plots = s.plots) ∧
    (s.hbmStatus = 0 → s.taken 0x55 id = some c → c.dw 7 = 1 → ∀ e, (s.plot c.plot).res.map[c.dw 6]? = some e → e.lifted = true →
      ∃ t, exec (.drop id) s = .next t ∧
        (s.dropPage e = none → t.ended id Status.noResource 0 ∧ (t.plot c.plot).res.map = (s.plot c.plot).res.map) ∧
        ∀ g, s.dropPage e = some g →
          t.ended id Status.ok 1 ∧ (t.plot c.plot).res.map[c.dw 6]? = some { e with page := g, lifted := false } ∧
          t.hbmRead (g * mib2) mib2 = s.hostRead c.func (c.dw64 8) mib2)

/-- The trace commands of a plot, with nothing waiting in the event FIFO: TRACE_CONFIG leaves the trace idle with an empty ring
or answers why not; TRACE_ARM of an idle trace and TRACE_STOP of one that records wait for their headland; TRACE_DRAIN and
FAULT_DRAIN answer the number of bytes that they have written to the host (R434-R437, R445, R448); while HBM is not ready both
answer so (R153). Where the spec leaves a point open this states the model's choice: log 16, log 29, log 64. -/
def Obligations.TraceCommandsTakeEffect : Prop :=
  ∀ (s : State) (id : Nat) (c : Cmd), s.memWf = true → s.host.refused = [] → s.host.withdrawn = [] → s.hvt.fifo = [] →
    s.hvt.dropped = 0 → c.plot < 16 →
    (s.taken 0x60 id = some c → c.dw 8 % 8 = 0 → c.dw 8 ≤ 4096 →
      let es := cfgItems (c.dw 8 / 8) (s.hostRead c.func (c.dw64 6) (c.dw 8))
      let s2 := es.foldl (fun (s : State) e => if cfgItemOk c.plot e then s.rnSet e.1 e.2 else s) s
      (s2.cfgStatus c.plot es = none → ∃ t, exec (.traceConfig id) s = .next t ∧ t.ended id Status.ok 0 ∧
        t.hvtState c.plot = 0 ∧ (t.plot c.plot).hvt.ring = {}) ∧
      (∀ st, s2.cfgStatus c.plot es = some st →
        ∃ t, exec (.traceConfig id) s = .next t ∧ t.ended id st 0 ∧ t.regs = s.regs ∧ t.plots = s.plots)) ∧
    (s.taken 0x61 id = some c → (c.dw 6).testBit 0 = false → s.hvtState c.plot = 0 → (s.plot c.plot).hvt.armAt = none →
      s.deadStatus c.plot = none → s.missed c.plot c = false →
      ∃ t, exec (.traceArm id) s = .next t ∧ t.waits id ∧ (t.plot c.plot).hvt.armAt = some (c.atPn, some id, 0) ∧ t.regs = s.regs) ∧
    (s.taken 0x62 id = some c →
      (s.hvtState c.plot ≠ 1 → s.hvtState c.plot ≠ 2 → (s.plot c.plot).hvt.fireFt = 0 →
        ∃ t, exec (.traceStop id) s = .next t ∧ t.ended id Status.ok 0 ∧ t.regs = s.regs ∧ t.plots = s.plots) ∧
      (s.hvtState c.plot = 1 → s.deadStatus c.plot = none → s.missed c.plot c = false → (s.plot c.plot).hvt.stopAt = none →
        ∃ t, exec (.traceStop id) s = .next t ∧ t.waits id ∧ (t.plot c.plot).hvt.stopAt = some (c.atPn, id) ∧ t.regs = s.regs)) ∧
    (∀ i opc, (i, opc) ∈ [(Instr.traceDrain id, 0x63), (Instr.faultDrain id, 0x92)] → s.taken opc id = some c → s.hbmStatus ≠ 0 →
      ∃ t, exec i s = .next t ∧ t.ended id s.hbmStatus 0 ∧ t.plots = s.plots ∧ t.host = s.host) ∧
    (s.taken 0x63 id = some c → s.hbmStatus = 0 → c.dw 13 = 0 → ∃ t, exec (.traceDrain id) s = .next t ∧
      t.ended id Status.ok (s.drainOut c.plot (c.dw64 8)).2.length ∧
      t.hostRead c.func (c.dw64 6) (s.drainOut c.plot (c.dw64 8)).2.length = (s.drainOut c.plot (c.dw64 8)).2) ∧
    (s.taken 0x92 id = some c → s.hbmStatus = 0 → ∃ t, exec (.faultDrain id) s = .next t ∧
      t.ended id Status.ok (s.faultOut c.func (c.dw 8)).2.length ∧
      t.hostRead c.func (c.dw64 6) (s.faultOut c.func (c.dw 8)).2.length = (s.faultOut c.func (c.dw 8)).2 ∧
      t.plots = s.plots ∧ t.regs = s.regs)

/-- What the recorder does by itself and on packets: outside deep fallow a time sync record for which staging has room notes
the instant at which it is written, and without room nothing is recorded (R427, R430, R451); a trigger hold-off that expires
starts counting anew (R444); a trace that records for a time after its trigger stops at that time on a plot that has stopped
(R444); ARM arms an idle trace and FIRE fires an armed one that takes cross triggers and does not count its fires, is noted as
ignored by one that has stopped, and leaves an idle one, or an armed one that takes none, alone; its packet is sent again while
repeats are left (R445, R446). Where the spec leaves a point open this states the model's choice: log 12, log 29, log 77. -/
def Obligations.RecorderEventsAndCrossTriggers : Prop :=
  ∀ (s : State) (p : Nat), s.memWf = true → p < 16 →
    (s.running = true → s.pwrState < 2 →
      ((s.syncWait s.hvt.ring).stageRoom 64 = true → ∃ t, exec (.timeSyncRecord 16) s = .next t ∧ t.hvt.ring.syncFt = t.ftNs ∧
        t.hvt.ring.syncRecs = 0 ∧ s.ftNs ≤ t.ftNs) ∧
      ((s.syncWait s.hvt.ring).stageRoom 64 = false → ∃ t, exec (.timeSyncRecord 16) s = .next t ∧ t.hvt = s.hvt ∧
        s.ftNs ≤ t.ftNs)) ∧
    (s.hvtState p = 1 → s.pwrState < 2 → (s.syncWait (s.plot p).hvt.ring).stageRoom 64 = true →
      ∃ t, exec (.timeSyncRecord p) s = .next t ∧ (t.plot p).hvt.ring.syncFt = t.ftNs ∧ s.ftNs ≤ t.ftNs) ∧
    (s.bit (Reg.HVT_STAT p) 23 = true → s.fld (Reg.HVT_CFG p) 23 2 = 2 →
      ∃ t, exec (.holdoffExpiry p) s = .next t ∧ t.bit (Reg.HVT_STAT p) 23 = false ∧ t.fld (Reg.HVT_STAT p) 25 3 = 0 ∧
        (t.plot p).hvt.cnt = 0 ∧ (s.plot p).hvt.hold ≤ t.ftNs) ∧
    (s.hvtState p = 2 → s.postKind p = 2 → s.plotRuns p = false →
      ∃ t, exec (.ftPostExpiry p) s = .next t ∧ t.hvtState p = 3 ∧ s.postFt p ≤ t.ftNs) ∧
    ((s.plot p).hvt.fireRep ≠ 0 → ∃ t, exec (.fireRepeat p) s = .next t ∧ (t.plot p).hvt.fireRep = (s.plot p).hvt.fireRep - 1 ∧
      (t.plot p).hvt.fireNext = (s.plot p).hvt.fireNext + 100000 ∧ (s.plot p).hvt.fireNext ≤ t.ftNs) ∧
    (∀ port words, s.plotByTag (pktTag words) = some p →
      (s.hvtState p = 0 → (s.plot p).hvt.armAt = none →
        ∃ t a, exec (.arm port words) s = .next t ∧ (t.plot p).hvt.armAt = some (some (word64 words 9), none, a)) ∧
      (s.hvtState p = 0 → exec (.fire port words) s = .next s) ∧
      (s.hvtState p = 3 → ∃ t, exec (.fire port words) s = .next t ∧ t.bit (Reg.HVT_STAT p) 20 = true ∧ t.hvtState p = 3 ∧
        t.plots = s.plots) ∧
      (s.bit (Reg.HVT_CFG p) 17 = false → s.hvtState p = 1 → exec (.fire port words) s = .next s) ∧
      (s.bit (Reg.HVT_CFG p) 17 = true → s.hvtState p = 1 → s.postKind p ≠ 1 → s.bit (Reg.HVT_CFG p) 25 = false →
        ∃ t, exec (.fire port words) s = .next t ∧ t.hvtState p = 2 ∧ (t.plot p).hvt.fireFt = word64 words 11 ∧
          t.rn64 (Reg.HVT_TRIG_PN_LO p) = word64 words 9))

/-- LINK_TRAIN and LINK_TEST: training of a port with eight lanes that are not in test starts in the first phase while the
command waits, with fewer it answers LINK_DOWN; a test of a lane on which test mode is refused, or on a port that runs a test
already, answers BUSY, and otherwise runs while its command waits; a loopback on another lane than the spare is ignored and
noted as refused (R247, R266-R268). Where the spec leaves a point open this states the model's choice: log 45, log 73. -/
def Obligations.LinkCommandsStartTheirWork : Prop :=
  ∀ (s : State) (id : Nat) (c : Cmd), s.memWf = true →
    (s.taken 0x70 id = some c → s.portReleased (nfld (c.dw 6) 0 4) = false → (s.port (nfld (c.dw 6) 0 4)).phase = 0 →
      (8 ≤ (laneIds.filter fun i => s.laneState (nfld (c.dw 6) 0 4) i ≠ 7).length →
        ∃ t, exec (.linkTrain id) s = .next t ∧ t.waits id ∧ (t.port (nfld (c.dw 6) 0 4)).phase = 1 ∧
          (t.port (nfld (c.dw 6) 0 4)).cmd = id ∧ t.rn (Reg.LNK_LAT (nfld (c.dw 6) 0 4)) = 0 ∧
          t.portUp (nfld (c.dw 6) 0 4) = false) ∧
      ((laneIds.filter fun i => s.laneState (nfld (c.dw 6) 0 4) i ≠ 7).length < 8 →
        ∃ t, exec (.linkTrain id) s = .next t ∧ t.ended id Status.linkDown 0 ∧
          t.fld (Reg.LNK_PORT_STAT (nfld (c.dw 6) 0 4)) 8 8 = 7)) ∧
    (s.taken 0x70 id = some c → (s.portReleased (nfld (c.dw 6) 0 4) = true ∨ (s.port (nfld (c.dw 6) 0 4)).phase ≠ 0) →
      ∃ t, exec (.linkTrain id) s = .next t ∧ t.ended id Status.busy 0 ∧ t.regs = s.regs ∧ t.lnk = s.lnk) ∧
    (s.taken 0x71 id = some c → (8 < nfld (c.dw 6) 4 4 ∨ c.dw 7 = 0) →
      ∃ t, exec (.linkTest id) s = .next t ∧ t.ended id Status.invalidParam 0 ∧ t.regs = s.regs ∧ t.lnk = s.lnk) ∧
    (s.taken 0x71 id = some c → nfld (c.dw 6) 4 4 ≤ 8 → c.dw 7 ≠ 0 →
      (s.testRefused (nfld (c.dw 6) 0 4) (nfld (c.dw 6) 4 4) = true ∨ (s.port (nfld (c.dw 6) 0 4)).testCmd ≠ 0 →
        ∃ t, exec (.linkTest id) s = .next t ∧ t.ended id Status.busy 0 ∧ t.regs = s.regs ∧ t.lnk = s.lnk) ∧
      (s.testRefused (nfld (c.dw 6) 0 4) (nfld (c.dw 6) 4 4) = false → (s.port (nfld (c.dw 6) 0 4)).testCmd = 0 →
        ∃ t, exec (.linkTest id) s = .next t ∧ t.waits id ∧ (t.port (nfld (c.dw 6) 0 4)).testCmd = id ∧
          (t.port (nfld (c.dw 6) 0 4)).testBits = c.dw 7 ∧
          t.fld (Reg.LNK_LANE_TEST (nfld (c.dw 6) 0 4) (nfld (c.dw 6) 4 4)) 30 2 = nfld (c.dw 6) 8 2 ∧
          (nfld (c.dw 6) 10 2 ≠ 0 → nfld (c.dw 6) 4 4 < 8 →
            t.bit (Reg.LNK_LANE_STAT (nfld (c.dw 6) 0 4) (nfld (c.dw 6) 4 4)) 23 = true)))

/-- XT_LOAD, with every page translated and the HBM filled: entries that pass the load check fill the half that is not active,
or either half of a plot that does not run, and the result is their number, entries that do not change nothing and answer
IMAGE_CHECK_FAIL; a swap is scheduled at its pass unless that pass's headland has begun, and on a plot that stopped for good
the command ends with that stop's status (R173, R174, R543). Where the spec leaves a point open this states the model's choice:
log 25. -/
def Obligations.XtLoadWritesTheStandbyHalf : Prop :=
  ∀ (s : State) (id : Nat) (c : Cmd), s.memWf = true → s.host.refused = [] → s.host.withdrawn = [] → s.hbmStatus = 0 →
    s.taken 0x72 id = some c →
    s.sow c.plot ≠ Sow.sowing → s.sow c.plot ≠ Sow.releasing →
    (nfld (c.dw 6) 0 1 = s.xtActive c.plot → s.plotBusy c.plot = false ∧ (c.dw 6).testBit 1 = false) →
    (nfld (c.dw 6) 0 1 ≠ s.xtActive c.plot → s.bit (Reg.XCH_RGN_STAT c.plot) 1 = false ∧ s.bit (Reg.XCH_RGN_STAT c.plot) 2 = false) →
    c.dw 13 = 0 → nfld (c.dw 7) 0 21 + c.dw 8 ≤ (s.xtHalf c.plot (nfld (c.dw 6) 0 1)).2 →
    let words := (natsFrom 0 (c.dw 8)).map fun i => leNat (s.hostRead c.func (c.dw64 9 + 8 * i) 8)
    let good := words.all xtItemOk && s.xtLoadOk c.plot (nfld (c.dw 6) 0 1) (nfld (c.dw 7) 0 21) words
    (∀ st, (c.dw 6).testBit 1 = true → s.deadStatus c.plot = some st →
      ∃ t, exec (.xtLoad id) s = .next t ∧ t.ended id st 0 ∧ t.xch = s.xch ∧ t.regs = s.regs) ∧
    ((c.dw 6).testBit 1 = false ∨ s.deadStatus c.plot = none →
      (good = false → ∃ t, exec (.xtLoad id) s = .next t ∧ t.ended id Status.imageCheckFail 0 ∧ t.xch = s.xch ∧ t.regs = s.regs) ∧
      (good = true → ∃ t, exec (.xtLoad id) s = .next t ∧
        (∀ i v, words[i]? = some v → xtEncode v ≠ 0 →
          cget 0 t.xch.xt ((s.xtHalf c.plot (nfld (c.dw 6) 0 1)).1 + nfld (c.dw 7) 0 21 + i) = xtEncode v) ∧
        ((c.dw 6).testBit 1 = false → t.ended id Status.ok (c.dw 8) ∧ t.regs = s.regs) ∧
        ((c.dw 6).testBit 1 = true →
          if s.headBegun c.plot (c.dw64 11) then t.ended id Status.deadlineMissed 0 ∧ t.regs = s.regs
          else t.ended id Status.ok (c.dw 8) ∧ t.bit (Reg.XCH_RGN_STAT c.plot) 1 = true ∧
            t.rn64 (Reg.XCH_RGN_SWAP_PN_LO c.plot) = c.dw64 11)))

/-- FW_UPDATE without ACTIVATE answers the version and SVN of an image that passes the checks of R328, and raises the fused
minimum only with RAISE_SVN; an image that fails changes nothing (R380). KEY_PROVISION in plaintext stores the 32 bytes in an
empty slot (R381), and with a KEK slot the value that unwraps, and a blob that does not unwrap stores nothing. SCRUB_RANGE
answers OK with the number of words corrected and uncorrectable in its span of design memory, and refuses a span out of range
or of another owner (R467). Where the spec leaves a point open this states the model's choice: log 7, log 30, log 44. -/
def Obligations.ServiceCommandsTakeEffect : Prop :=
  ∀ (s : State) (id : Nat) (c : Cmd), s.memWf = true → s.host.refused = [] → s.host.withdrawn = [] →
    (s.taken 0xa0 id = some c → (c.dw 9).testBit 1 = false →
      let image := s.hostRead c.func (c.dw64 6) (fwBytes (c.dw 8))
      ∃ t, exec (.fwUpdate id) s = .next t ∧
        (if fwCheck (c.dw 8) s.boot.fusedMin image = 0 then
          t.ended id Status.ok (leAt image 0x10 4 + leAt image 8 4 * 2 ^ 32) ∧
          t.boot.fusedMin = if (c.dw 9).testBit 0 then max s.boot.fusedMin (leAt image 8 4) else s.boot.fusedMin
        else t.boot = s.boot ∧
          t.ended id (if fwCheck (c.dw 8) s.boot.fusedMin image ≤ 2 then Status.imageCheckFail else Status.imageAuthFail) 0)) ∧
    (s.taken 0xa1 id = some c → nfld (c.dw 6) 0 8 < 8 ∨ nfld (c.dw 6) 0 8 = 16 ∨ nfld (c.dw 6) 0 8 = 17 →
      s.keySet (nfld (c.dw 6) 0 8) = false →
      (nfld (c.dw 6) 8 8 = 255 → s.boot.lifecycle ≠ 2 → c.dw 9 = 32 →
        ∃ t, exec (.keyProvision id) s = .next t ∧ t.ended id Status.ok 0 ∧
          cget [] t.boot.keys (nfld (c.dw 6) 0 8) = s.hostRead c.func (c.dw64 7) 32 ∧
          ∀ k, k ≠ nfld (c.dw 6) 0 8 → cget [] t.boot.keys k = cget [] s.boot.keys k) ∧
      (nfld (c.dw 6) 8 8 < 8 → c.dw 9 = 40 → s.keySet (nfld (c.dw 6) 8 8) = true →
        ∃ t, exec (.keyProvision id) s = .next t ∧
          match keyUnwrap (cget [] s.boot.keys (nfld (c.dw 6) 8 8)) (s.hostRead c.func (c.dw64 7) 40) with
          | none => t.ended id Status.imageAuthFail 0 ∧ t.boot = s.boot
          | some v => t.ended id Status.ok 0 ∧ (v.length = 32 → cget [] t.boot.keys (nfld (c.dw 6) 0 8) = v) ∧
            ∀ k, k ≠ nfld (c.dw 6) 0 8 → cget [] t.boot.keys k = cget [] s.boot.keys k)) ∧
    (s.taken 0x90 id = some c →
      (c.scrubOk = false → ∃ t, exec (.scrubRange id) s = .next t ∧ t.ended id Status.invalidParam 0 ∧ t.regs = s.regs) ∧
      (c.scrubOk = true → s.scrubAllowed c = false →
        ∃ t, exec (.scrubRange id) s = .next t ∧ t.ended id Status.notOwner 0 ∧ t.regs = s.regs) ∧
      (c.scrubOk = true → s.scrubAllowed c = true → nfld (c.dw 6) 0 2 = 0 → s.hbmStatus ≠ 0 →
        ∃ t, exec (.scrubRange id) s = .next t ∧ t.ended id s.hbmStatus 0 ∧ t.regs = s.regs) ∧
      (c.scrubOk = true → s.scrubAllowed c = true → s.hbmStatus = 0 ∨ nfld (c.dw 6) 0 2 ≠ 0 →
        ∃ t r, exec (.scrubRange id) s = .next t ∧ t.ended id Status.ok r ∧
          (s.ecc = [] → s.xch.xt = [] → s.inject = [] → r = 0 ∧ t.regs = s.regs ∧ t.hbm.mem = s.hbm.mem) ∧
          (nfld (c.dw 6) 0 2 = 0 → c.dw 13 = 0 → s.inject = [] → cellsWf 0 s.ecc = true →
            let met := fun (e : Nat × Nat) => e.1 % 16 == Item.hbmWord &&
              decide (c.dw64 7 ≤ 8 * (e.1 / 16) ∧ 8 * (e.1 / 16) < c.dw64 7 + c.dw64 9)
            r = (s.ecc.filter fun e => met e && e.2 == 1).length % 2 ^ 32 +
              (s.ecc.filter fun e => met e && e.2 != 1).length * 2 ^ 32)))

/-- Training of a port: a lane of the sequence that recovers its clock passes phase 1, which ends with the last of them; in
ALIGN a lane passes with the fourth match in a row; one that receives a TRAIN frame in the identification phase keeps the
neighbour's identity and passes, in DESKEW it notes when the frame's ALIVE arrived, and in LATENCY an echo on logical lane 0
counts as one measurement. A phase whose time runs out with fewer than eight lanes ends the training with that phase's code and
its command with LINK_DOWN, where no DEGRADED lane is to be spared then, CDR and ALIGN go on with eight or more, and a manual
alignment waits. A port that is not training ignores all three, but for a marker at another offset than that of a lane in
service, which is lost (R247-R254). Where the spec leaves a point open this states the model's choice: log 12, log 45. -/
def Obligations.TrainingFollowsItsPhases : Prop :=
  ∀ (s : State) (q i : Nat), s.memWf = true → q < 16 → i < 9 →
    ((s.port q).phase = 0 → (∀ sync, exec (.cdrLock q i sync) s = .next s) ∧
      (∀ off f, s.markEn q = false ∨ off = (s.lane q i).bound → exec (.trainFrameReceive q i off f) s = .next s) ∧
      (∀ off f, s.markEn q = true → s.laneState q i = 6 → isMarker (s.unInvert q i f) = true → off ≠ (s.lane q i).bound →
        ∃ t, exec (.trainFrameReceive q i off f) s = .next t ∧ t.bit Reg.LNK_EVT 2 = true ∧ t.laneState q i ≠ 6) ∧
      exec (.trainingPhaseTimeout q) s = .next s) ∧
    ((s.port q).phase = 2 → (s.port q).mode = 2 → exec (.trainingPhaseTimeout q) s = .next s) ∧
    ((s.lane q i).inSeq = true → (∃ j ∈ s.seqLanes q, j ≠ i ∧ (s.lane q j).passed = false) →
      (∀ sync, (s.port q).phase = 1 → ∃ t, exec (.cdrLock q i sync) s = .next t ∧ (t.lane q i).cdr = true ∧
        (t.lane q i).passed = true ∧ (t.port q).locked = sync ∧ (t.port q).phase = 1) ∧
      (∀ off f d, (s.port q).phase = 3 → (s.lane q i).passed = false → openFrame (s.unInvert q i f) = some d →
        nfld d.hdr 28 4 = 4 → trainReservedOk (payloadWords d.payload) = true → wordAt (payloadWords d.payload) 0 = trainSync →
        ∃ t, exec (.trainFrameReceive q i off f) s = .next t ∧ (t.port q).phase = 3 ∧ t.regs = s.regs ∧
          t.lane q i = { s.lane q i with ident := some (trainIdent (payloadWords d.payload)), passed := true }) ∧
      (∀ off f, (s.port q).phase = 2 → (s.port q).mode ≠ 1 → (s.lane q i).marks = false → (s.lane q i).passed = false →
        (s.lane q i).settle = 0 → (s.lane q i).matchCnt = 3 → (s.lane q i).inverse = false → frameSync f = syncBits →
        ∃ t, exec (.trainFrameReceive q i off f) s = .next t ∧ (t.port q).phase = 2 ∧ (t.lane q i).passed = true ∧
          t.bit (Reg.LNK_LANE_STAT q i) 27 = true ∧ t.bit (Reg.LNK_LANE_STAT q i) 26 = false)) ∧
    ((s.lane q i).inSeq = true → (s.port q).phase = 1 → (∀ j ∈ s.seqLanes q, j ≠ i → (s.lane q j).passed = true) →
      ∀ sync, ∃ t, exec (.cdrLock q i sync) s = .next t ∧ (t.port q).phase = 2 ∧ (t.port q).locked = sync) ∧
    ((s.lane q i).inSeq = true → ∀ off f d, openFrame (s.unInvert q i f) = some d → nfld d.hdr 28 4 = 4 →
      trainReservedOk (payloadWords d.payload) = true → wordAt (payloadWords d.payload) 0 = trainSync →
      ((s.port q).phase = 4 → (∃ j ∈ s.seqLanes q, j ≠ i ∧ (s.lane q j).arrival = []) →
        ∃ t, exec (.trainFrameReceive q i off f) s = .next t ∧ (t.port q).phase = 4 ∧ t.regs = s.regs ∧
          t.lane q i = { s.lane q i with arrival := ((nfld d.hdr 20 8, off) :: (s.lane q i).arrival).take 4, passed := true }) ∧
      (∀ t0, (s.port q).phase = 5 → i = s.rxLane q 0 → (s.port q).pingAt = some t0 → (s.port q).measured < 15 →
        (wordAt (payloadWords d.payload) 3).testBit 30 = true →
        ∃ t, exec (.trainFrameReceive q i off f) s = .next t ∧ (t.port q).phase = 5 ∧
          (t.port q).measured = (s.port q).measured + 1 ∧ (t.port q).pingAt = none ∧
          (t.port q).arr = max (s.port q).arr (arrOf (off + s.fld (Reg.LNK_LANE_STAT q i) 16 6 - t0)
            (nfld (wordAt (payloadWords d.payload) 3) 23 7) (s.fld (Reg.LNK_LANE_STAT q i) 16 6)
            (nfld (wordAt (payloadWords d.payload) 3) 17 6)))) ∧
    (((s.port q).phase = 1 ∨ (s.port q).phase = 2 ∧ (s.port q).mode ≠ 2) → (s.port q).only = 0 → (s.port q).sparing = 0 →
      8 ≤ ((s.seqLanes q).filter fun j => (s.lane q j).passed).length →
      ∃ t, exec (.trainingPhaseTimeout q) s = .next t ∧ (t.port q).phase = (s.port q).phase + 1) ∧
    ((s.port q).phase ≠ 0 → ¬ ((s.port q).phase = 2 ∧ (s.port q).mode = 2) → (s.port q).only = 0 → (s.port q).sparing = 0 →
      ((s.seqLanes q).filter fun j => (s.lane q j).passed).length < 8 →
      (s.autoPort q = false ∨ ∀ j, j < 9 → s.bit (Reg.LNK_LANE_STAT q j) 25 = false) → (s.port q).cmd ≠ 0 → (∃ e ∈ s.cmd.store, e.id = (s.port q).cmd) →
      ∃ t, exec (.trainingPhaseTimeout q) s = .next t ∧ (t.port q).phase = 0 ∧ (s.port q).since + s.phaseLimit q ≤ t.ft.wall ∧
        t.fld (Reg.LNK_PORT_STAT q) 8 8 = phaseCode (s.port q).phase ∧ t.ended (s.port q).cmd Status.linkDown 0)

/-- Writes of the lane and port registers by PF0 once firmware runs: BITSLIP moves the frame boundary of a lane by one bit,
RESET of a lane that serves no released port forgets it and ends the training that it takes part in, TEST_EN puts a lane in
test where that is not refused and, for a lane in training, no DEGRADED lane is to be spared, each INJ_ONE arms one more error
on a lane in test, and ALIGN_DONE ends a manual alignment (R250, R256, R266, R267, R269). Where the spec leaves a point open
this states the model's choice: log 45. -/
def Obligations.LaneRegistersAct : Prop :=
  ∀ (s : State) (q i : Nat), s.memWf = true → q < 16 → i < 9 → s.running = true → s.hostDown 0 = false →
    (∃ t, exec (.bitslip 0 q i (2 ^ 30 + 2 ^ 27 * b2n (s.bit (Reg.LNK_LANE_CTRL q i) 27))) s = .next t ∧ (t.lane q i).bound = ((s.lane q i).bound + 1) % 896 ∧
        (t.lane q i).passed = false ∧ t.bit (Reg.LNK_LANE_STAT q i) 27 = false) ∧
    (s.laneServes q i = false →
      ∃ t, exec (.laneReset 0 q i (2 ^ 31)) s = .next t ∧ t.lane q i = {} ∧ t.laneState q i = 0 ∧
        ((s.port q).phase ≠ 0 → (s.lane q i).inSeq = true → (t.port q).phase = 0 ∧ ∀ j, j < 9 → (t.lane q j).inSeq = false)) ∧
    (s.laneServes q i = true →
      ∃ t, exec (.laneReset 0 q i (2 ^ 31)) s = .next t ∧ t.lnk = s.lnk ∧ t.bit (Reg.LNK_LANE_STAT q i) 23 = true) ∧
    (s.testRefused q i = true → s.bit (Reg.LNK_LANE_CTRL q i) 27 = false →
      ∃ t, exec (.laneTestMode 0 q i (2 ^ 27)) s = .next t ∧ t.lnk = s.lnk ∧ t.bit (Reg.LNK_LANE_STAT q i) 23 = true ∧
        t.rn (Reg.LNK_LANE_CTRL q i) = s.rn (Reg.LNK_LANE_CTRL q i)) ∧
    (s.testRefused q i = false → s.laneState q i ≠ 7 → s.bit (Reg.LNK_LANE_CTRL q i) 27 = false →
      (s.lane q i).inSeq = false ∨
        (s.port q).only = 0 ∧ (s.autoPort q = false ∨ ∀ j, j < 9 → s.bit (Reg.LNK_LANE_STAT q j) 25 = false) →
      ∃ t, exec (.laneTestMode 0 q i (2 ^ 27)) s = .next t ∧ t.laneState q i = 7 ∧ t.bit (Reg.LNK_LANE_CTRL q i) 27 = true) ∧
    (s.bit (Reg.LNK_LANE_CTRL q i) 27 = true →
      ∃ t, exec (.injOne 0 q i (2 ^ 27)) s = .next t ∧ t.lane q i = { s.lane q i with injOne := (s.lane q i).injOne + 1 }) ∧
    ((s.port q).phase = 2 → (s.port q).mode = 2 → (s.port q).only = 0 → (s.port q).sparing = 0 →
      8 ≤ ((s.seqLanes q).filter fun j => (s.lane q j).passed).length →
      ∃ t, exec (.alignDone 0 q (2 ^ 28)) s = .next t ∧ (t.port q).phase = 3)

/-- What a lane and its neighbour report: a lane that loses its clock leaves service, and its port with it where a logical lane
maps to it, and firmware retrains it on a port that it may retrain, the whole port where the lane was in low-power idle (R258,
R259); a lane that is down or retired stays so, and one in test stays in test (R267); the checker of a lane in test counts the
bits it compares and the errored ones (R266); SPARE_REQ moves a logical lane to the spare where it is allowed, its receive lane
retiring (R261, R262), and changes nothing elsewhere, and a refused SPARE_ACK fails the hold's recovery (R265); LOOP_REQ puts
the spare lane in loopback test, a refused LOOP_ACK ends the test that asked for it (R268); and LANE_HEALTH sets MGMT_BAD on a
port at version 1.0 and changes nothing at one that has it (R265). Where the spec leaves a point open this states the model's
choice: log 28, log 45, log 48, log 73. -/
def Obligations.LanesFollowTheirNeighbour : Prop :=
  ∀ (s : State) (q i : Nat) (words : List Word), s.memWf = true → q < 16 → i < 9 →
    (s.laneState q i = 0 ∨ s.laneState q i = 9 → exec (.cdrLoss q i) s = .next s) ∧
    (s.laneState q i = 7 → ∃ t, exec (.cdrLoss q i) s = .next t ∧ t.regs = s.regs ∧ t.lane q i = { s.lane q i with cdr := false }) ∧
    (s.laneState q i = 6 → (s.port q).phase = 0 →
      (s.autoPort q = false → ∃ t, exec (.cdrLoss q i) s = .next t ∧ t.laneState q i = 0 ∧ (t.lane q i).cdr = false ∧
        (s.rxLogical q i ≠ 8 → t.portUp q = false)) ∧
      (s.autoPort q = true → (s.port q).cmd = 0 → (s.port q).sparing = 0 → ∃ t, exec (.cdrLoss q i) s = .next t ∧
        t.laneState q i = 1 ∧ (t.port q).phase = 1 ∧ (t.port q).only = i + 1 ∧ (s.rxLogical q i ≠ 8 → t.portUp q = false))) ∧
    (s.laneState q i = 8 → (s.port q).cmd = 0 → (s.port q).sparing = 0 →
      ∃ t, exec (.cdrLoss q i) s = .next t ∧ t.laneState q i = 1 ∧ (t.port q).phase = 1 ∧ (t.port q).only = 0) ∧
    (s.bit (Reg.LNK_LANE_CTRL q i) 27 = true → s.bit (Reg.LNK_LANE_TEST q i) 28 = true → s.bit (Reg.LNK_LANE_TEST q i) 21 = true →
      s.fld (Reg.LNK_LANE_TEST q i) 30 2 ≠ 0 → ∀ bits : List Bool,
        ∃ t, exec (.chkLock q i bits) s = .next t ∧ t.rn64 (Reg.LNK_LANE_PRBS_BITS_LO q i) =
          min (s.rn64 (Reg.LNK_LANE_PRBS_BITS_LO q i) + bits.length) (2 ^ 48 - 1) ∧
          t.rn (Reg.LNK_LANE_PRBS_ERR q i) = min (s.rn (Reg.LNK_LANE_PRBS_ERR q i) +
            (prbsCheck (s.fld (Reg.LNK_LANE_TEST q i) 30 2) bits (s.lane q i).prbs 0 0 0).2.2.2) 0xffffffff) ∧
    (s.spareAllowed q words = false → exec (.spareReq q words) s = .next s) ∧
    (s.spareAllowed q words = true → s.spareUsed q = false → (s.port q).cmd = 0 →
      ∃ t, exec (.spareReq q words) s = .next t ∧ t.txLane q (mgmtLane words) = 8 ∧ t.spareUsed q = true ∧
        (t.port q).sparing = mgmtLane words + 1 ∧ (s.rxLane q (mgmtLane words) < 9 →
          s.rxLane q (mgmtLane words) ∉ s.spareLanes q → t.laneState q (s.rxLane q (mgmtLane words)) = 9)) ∧
    (mgmtStatus words = 0 → exec (.spareAck q words) s = .next s) ∧
    (∀ p h, mgmtStatus words ≠ 0 → s.portPlot q = some p → (s.plot p).cmt.hold = some h → h.recovery = true →
      ∃ t, exec (.spareAck q words) s = .next t ∧ (t.plot p).cmt.hold = some { h with failed := true }) ∧
    (mgmtStatus words = 1 → s.testRefused q 8 = true → ∃ t, exec (.loopReq q words) s = .next t ∧ t.lnk = s.lnk ∧
      t.plots = s.plots) ∧
    (mgmtStatus words = 1 → s.testRefused q 8 = false → s.laneState q 8 ≠ 7 →
      (s.lane q 8).inSeq = false ∨
        (s.port q).only = 0 ∧ (s.autoPort q = false ∨ ∀ j, j < 9 → s.bit (Reg.LNK_LANE_STAT q j) 25 = false) →
      ∃ t, exec (.loopReq q words) s = .next t ∧ t.laneState q 8 = 7 ∧ t.fld (Reg.LNK_LANE_CTRL q 8) 28 2 = 3) ∧
    (mgmtStatus words ≠ 0 → (s.port q).testCmd ≠ 0 → (∃ e ∈ s.cmd.store, e.id = (s.port q).testCmd) →
      ∃ t, exec (.loopAck q words) s = .next t ∧ t.ended (s.port q).testCmd Status.busy 0 ∧ (t.port q).testCmd = 0) ∧
    (s.fld (Reg.LNK_PORT_VER q) 16 16 = 0x100 →
      ∃ t, exec (.laneHealth q words) s = .next t ∧ t.bit Reg.LNK_EVT 6 = true ∧ t.lnk = s.lnk) ∧
    (s.fld (Reg.LNK_PORT_VER q) 16 16 ≠ 0x100 → exec (.laneHealth q words) s = .next s)

/-- A DATA frame that a plot expects and that decodes with its header in order gives one group to each receive and relay entry
of that frame, a receive its 16 bits of the payload for the pass and step of its presentation; one that does not decode gives
each of them X, and counts on its lane; an IDLE frame on a port of no running plot sets the expectation of ALIVE and gives
nothing; and a lane that is down takes nothing where no frame is expected (R163, R164, R169). Where the spec leaves a point
open this states the model's choice: log 27, log 69. -/
def Obligations.FramesGiveTheirGroups : Prop :=
  ∀ (s : State) (q i pn fidx p : Nat) (late : Int) (f : BitVec 896), s.memWf = true → q < 16 → i < 9 → s.inject = [] →
    s.pwrState = 0 →
    let x := s.rxSlot q i pn fidx
    let mine := (s.xtEntries p).filter fun e =>
      decide ((e.2.kind = 1 ∨ e.2.kind = 2) ∧ e.2.port = q ∧ e.2.lane = s.rxLogical q i ∧ e.2.fidx = fidx)
    (s.laneState q i = 0 → x.wanted = false → exec (.frameReceive q i pn fidx late f) s = .next s) ∧
    (s.laneState q i = 6 → x.plot = some p → x.wanted = true →
      (∀ d, s.rxOpen q i (s.unInvert q i f) = some d → nfld d.hdr 28 4 = 0 → x.mismatch d.hdr = false → -16 ≤ late → late ≤ 16 →
        ∃ t l, exec (.frameReceive q i pn fidx late f) s = .next t ∧ t.xch.held = s.xch.held ++ l ∧ l.length = mine.length ∧
          (∀ h ∈ l, h.plot = p ∧ h.port = q ∧ h.sentPn = pn ∧ h.done = false) ∧
          ∀ e ∈ mine, e.2.kind = 1 → e.2.grp < 48 → ∃ h ∈ l, h.relay = false ∧ h.dst = e.2.acre ∧ h.grp = e.2.xgrp ∧
            h.pn = pn + (s.recvAt p e.2).1 ∧ h.step = (s.recvAt p e.2).2 ∧
            h.data = if xtDecode (cget 0 s.xch.xt e.1) = XtRead.lost then 0x5555
              else BitVec.ofNat 16 (payloadGroup d.payload e.2.grp)) ∧
      (s.rxOpen q i (s.unInvert q i f) = none → (s.lane q i).undecoded < 7 →
        ∃ t l, exec (.frameReceive q i pn fidx late f) s = .next t ∧ t.xch.held = s.xch.held ++ l ∧ l.length = mine.length ∧
          (∀ h ∈ l, h.plot = p ∧ h.port = q ∧ h.sentPn = pn ∧ h.data = 0x5555) ∧
          t.rn (Reg.LNK_LANE_FECUE q i) = min (s.rn (Reg.LNK_LANE_FECUE q i) + 1) 0xffffffff)) ∧
    (s.laneState q i = 6 → x.plot = none → s.markEn q = false → ∀ d, s.rxOpen q i (s.unInvert q i f) = some d →
      nfld d.hdr 28 4 = 1 → x.mismatch d.hdr = false → -16 ≤ late → late ≤ 16 →
      ∃ t, exec (.frameReceive q i pn fidx late f) s = .next t ∧ t.xch.held = s.xch.held ∧ t.plots = s.plots ∧
        (t.lane q i).undecoded = 0 ∧ cget 0 t.xch.rxAlive (q * 9 + i) = 1 + (nfld d.hdr 20 8 + 1) % 256)

/-- The slot of a lane that is UP: a DATA frame that is due goes first, then a marker that goes out in this slot, then an IDLE
frame that is due, then the control packet whose turn it is among the lanes with a free slot, and otherwise an IDLE frame; a
transmitter that carries no logical lane and is not the spare sends nothing. Groups that are due at a step are presented there,
once (R158, R162, R169, R181, R251). Where the spec leaves a point open this states the model's choice: log 43, log 67. -/
def Obligations.SlotsSendAndGroupsArePresented : Prop :=
  ∀ (s : State) (q i : Nat), s.memWf = true → q < 16 → i < 9 →
    (s.txLogical q i = 8 → i ≠ 8 → s.laneState q i ≠ 7 → s.laneState q i ≠ 8 → (s.lane q i).inSeq = false →
      exec (.frameTransmit q i) s = .next { s with out := { s.out with fill := cdel s.out.fill (q * 9 + i) } }) ∧
    (s.laneState q i = 6 → (s.lane q i).inSeq = false → s.txLogical q i < 8 ∨ i = 8 →
      let u := s.slotMark q (s.txLogical q i)
      let lower := ((natsFrom 0 (s.txLogical q i)).filter fun j => u.slotFree q j).length
      (∀ p f, s.dataDue q (s.txLogical q i) = some (p, f) → s.frameClaims p q (s.txLogical q i) f ≠ [] →
        ∃ t, exec (.frameTransmit q i) s = .next t ∧ cget 0 t.xch.txFrame (q * 9 + s.txLogical q i) = f + 1 ∧
          t.xch.ctrlQ = s.xch.ctrlQ ∧ t.out.ctrl = s.out.ctrl ∧ (t.lane q i).sinceIdle = (s.lane q i).sinceIdle + 1) ∧
      (s.dataDue q (s.txLogical q i) = none → (u.port q).markNow = true →
        ∃ t, exec (.frameTransmit q i) s = .next t ∧ (t.lane q i).sinceIdle = (s.lane q i).sinceIdle + 1 ∧
          t.out.ctrl = s.out.ctrl ∧ t.xch.ctrlQ = s.xch.ctrlQ ∧ t.xch.held = s.xch.held) ∧
      (s.dataDue q (s.txLogical q i) = none → (u.port q).markNow = false →
        (s.txLogical q i = 8 ∨ s.idleDue q i = true ∨ s.ctrlNext q lower = none →
          ∃ t, exec (.frameTransmit q i) s = .next t ∧ (t.lane q i).sinceIdle = 0 ∧
            t.out.ctrl = s.out.ctrl ∧ t.xch.ctrlQ = s.xch.ctrlQ ∧ t.xch.held = s.xch.held) ∧
        (∀ w, s.txLogical q i < 8 → s.idleDue q i = false → s.ctrlNext q lower = some w →
          ∃ t, exec (.frameTransmit q i) s = .next t ∧ t.out.ctrl = s.out.ctrl ++ [(q, w.words)] ∧
            t.xch.ctrlQ = s.xch.ctrlQ.erase w))) ∧
    (∀ p st, (s.plot p).tm.phase = .step st → cellsWf 0x5555 s.sw.pres = true →
      let due := s.xch.held.filter fun h => h.plot == p && !h.relay && h.pn == (s.plot p).tm.pn && h.step == st && !h.done
      ∃ t, exec (.importPresentation p) s = .next t ∧ t.regs = s.regs ∧
        (∀ h ∈ due, (∀ h' ∈ due, presKey p h'.dst h'.grp st = presKey p h.dst h.grp st → h' = h) →
          cget 0x5555 t.sw.pres (presKey p h.dst h.grp st) = h.data) ∧
        (∀ k, (∀ h ∈ due, k ≠ presKey p h.dst h.grp st) → cget 0x5555 t.sw.pres k = cget 0x5555 s.sw.pres k) ∧
        ∀ h' ∈ t.xch.held, h'.plot = p → h'.relay = false → h'.pn = (s.plot p).tm.pn → h'.step = st → h'.done = true)

/-- BAR4, reached past the end of the BAR, faults. An access of a function whose link is down is not answered; one before
firmware runs, of a page that the function may not reach, or across the end of its page is refused with WIN_REFUSED, a read
giving all ones (R155, R324); during the fill a read gives all ones and a write does nothing (R153). Every other access, where
no injection is armed, is served: a write stores its bytes, but in a design page of a running plot, where it is discarded and
noted, and a read answers the bytes of DRAM under the write-queue entries that the host sees (R148, R155). Where the spec
leaves a point open this states the model's choice: log 63, log 65. -/
def Obligations.Bar4ReachesOwnedPages : Prop :=
  ∀ (s : State) (fn offset len : Nat) (data : Option (List Byte)), s.memWf = true →
    (2 ^ 32 ≤ offset ∨ 2 ^ 32 < offset + len → exec (.bar4Access fn offset len data) s = .fault .outsideBar) ∧
    (offset < 2 ^ 32 → offset + len ≤ 2 ^ 32 →
      (s.hostDown fn = true → exec (.bar4Access fn offset len data) s = .next (s.outData none)) ∧
      (s.hostDown fn = false → s.running = false →
        ∃ t, exec (.bar4Access fn offset len data) s = .next t ∧ t.bit Reg.MEM_STAT 2 = true ∧ t.hbm = s.hbm ∧
          t.plots = s.plots ∧ t.out.data = refusedData len data) ∧
      (s.hostDown fn = false → s.running = true → s.bit Reg.MEM_STAT 0 = false →
        ∃ t, exec (.bar4Access fn offset len data) s = .next t ∧ t.hbm = s.hbm ∧ t.regs = s.regs ∧
          t.out.data = refusedData len data) ∧
      (s.hostDown fn = false → s.running = true → s.bit Reg.MEM_STAT 0 = true →
        let page := s.fld (Reg.MEM_WIN_BASE fn) 0 15 + offset / mib2
        let addr := page * mib2 + offset % mib2
        (24576 ≤ page ∨ s.bar4Mine fn page = false ∨ mib2 < offset % mib2 + len →
          ∃ t, exec (.bar4Access fn offset len data) s = .next t ∧ t.bit Reg.MEM_STAT 2 = true ∧ t.hbm = s.hbm ∧
            t.out.data = refusedData len data) ∧
        (page < 24576 → s.bar4Mine fn page = true → offset % mib2 + len ≤ mib2 → s.inject = [] →
          (∀ bs, data = some bs → bs.length = len →
            (∀ p use, s.pageHolder page = some (p, use) → s.plotRuns p = false ∨ use ≠ 1) →
            ∃ t, exec (.bar4Access fn offset len data) s = .next t ∧ t.hbmRead addr len = bs ∧ t.out.data = none) ∧
          (∀ p, data ≠ none → s.pageHolder page = some (p, 1) → s.plotRuns p = true →
            ∃ t, exec (.bar4Access fn offset len data) s = .next t ∧ t.hbm.mem = s.hbm.mem ∧
              t.bit (Reg.MEM_PC_STAT (pcOf addr)) 8 = true ∧ t.out.data = none) ∧
          (data = none → s.ecc = [] →
            ∃ t, exec (.bar4Access fn offset len data) s = .next t ∧ t.out.data = some (s.hbmView addr len s.hostSees) ∧
              t.hbm = s.hbm))))

/-- Control packets at the port: one with a bad CRC sets PKT_BAD and counts in XCH_CNT 7, one of a reserved type sets PTYPE_BAD
and counts too, and neither is delivered; a flooded packet that has been seen, or whose tag names no plot here, is dropped, and
a new one goes on after its delivery, a stretch notice of a plot by its own rule; one on its last hop to this device takes the
effect of its type, one with hops left goes out on its next port, and any other is misrouted (R178-R180). TIME_SYNC on a port
that is UP keeps what the neighbour announces and the stamp of its arrival, and counts as an outlier when it names a packet
that is no longer held; on any other port it is dropped (R278); a vote packet of a known plot is recorded as a fault of the
device that sent it (R191). Where the spec leaves a point open this states the model's choice: log 27, log 47. -/
def Obligations.ControlPacketsAreCheckedFirst : Prop :=
  ∀ (s : State) (q i : Nat) (words : List Word), s.memWf = true →
    (pktCrcOk words = false → ∃ t, exec (.ctrlPacketReceive q words) s = .next t ∧ t.bit Reg.XCH_STAT 9 = true ∧
      t.rn (Reg.XCH_CNT 7) = min (s.rn (Reg.XCH_CNT 7) + 1) 0xffffffff ∧ t.xch.seen = s.xch.seen ∧ t.cmd = s.cmd) ∧
    (pktCrcOk words = true →
      ((parsePkt words).ptype = 0 ∨ (8 ≤ (parsePkt words).ptype ∧ (parsePkt words).ptype ≤ 14) →
        ∃ t, exec (.ctrlPacketReceive q words) s = .next t ∧ t.bit Reg.XCH_STAT 10 = true ∧
          t.rn (Reg.XCH_CNT 7) = min (s.rn (Reg.XCH_CNT 7) + 1) 0xffffffff ∧ t.xch.seen = s.xch.seen ∧ t.cmd = s.cmd) ∧
      (1 ≤ (parsePkt words).ptype → (parsePkt words).ptype ≤ 7 → (parsePkt words).flood = true →
        s.xch.seen.contains ((parsePkt words).src, (parsePkt words).seq) = true →
        exec (.ctrlPacketReceive q words) s = .next s)) ∧
    (let k := parsePkt words
     pktCrcOk words = true → 1 ≤ k.ptype → k.ptype ≤ 7 →
      (∀ e ∈ [(1, 0, Instr.timeSync q (s.rxLane q 0) words), (2, 1, .arm q words), (2, 2, .fire q words),
          (3, 0, .votePacket q words), (4, 0, .stretchNotice q words), (5, 0x01, .sown q words), (5, 0x02, .launch q words),
          (5, 0x03, .haltAt q words), (5, 0x10, .stakeDone q words), (5, 0x11, .healReady q words),
          (5, 0x12, .recoverReady q words), (5, 0x13, .resume q words), (5, 0x14, .diverge q words),
          (5, 0x15, .rollbackPacket q words), (6, 1, .forwardedCommand q words)],
        k.flood = false → k.hidx = k.nhop → k.dst = s.devId → k.ptype = e.1 → (e.2.1 = 0 ∨ ctlSub words = e.2.1) →
        ∃ t, exec (.ctrlPacketReceive q words) s = .next t ∧ exec e.2.2 s = .next t) ∧
      (k.flood = false → k.hidx < k.nhop → s.portUp (k.hop k.hidx) = true →
        (s.xch.ctrlQ.filter fun w => w.port == k.hop k.hidx).length < 64 →
        ∃ t, exec (.ctrlPacketReceive q words) s = .next t ∧ t.regs = s.regs ∧
          t.xch.ctrlQ = s.xch.ctrlQ ++ [⟨k.hop k.hidx, highClass k.ptype, ({ k with hidx := k.hidx + 1 } : Pkt).words⟩]) ∧
      (k.flood = false → (k.nhop < k.hidx ∨ (k.hidx = k.nhop ∧ k.dst ≠ s.devId)) →
        ∃ t, exec (.ctrlPacketReceive q words) s = .next t ∧ t.bit Reg.XCH_STAT 8 = true ∧ t.cmd = s.cmd ∧ t.plots = s.plots) ∧
      (k.flood = true → s.xch.seen.contains (k.src, k.seq) = false →
        (s.strangeTag k = true → exec (.ctrlPacketReceive q words) s = .next (s.markSeen k.src k.seq)) ∧
        (k.ptype = 3 → s.strangeTag k = false →
          ∃ t u, exec (.ctrlPacketReceive q words) s = .next t ∧ exec (.votePacket q words) (s.markSeen k.src k.seq) = .next u ∧
            t = u.forwardFlood q words) ∧
        (k.ptype = 4 → s.strangeTag k = false →
          ∃ t u, exec (.ctrlPacketReceive q words) s = .next t ∧ exec (.stretchNotice q words) (s.markSeen k.src k.seq) = .next u ∧
            t = if k.ptag = 0 then u.forwardFlood q words else u))) ∧
    (s.portUp q = false → exec (.timeSync q i words) s = .next s) ∧
    (s.portUp q = true → ∃ t at_, exec (.timeSync q i words) s = .next t ∧
      (t.sync q).ann = some (wordAt words 8 % 256, wordAt words 9 / 2 ^ 14, nfld (wordAt words 8) 8 8, at_) ∧
      (s.ft.first = true → at_ = s.ftNs) ∧
      (t.sync q).rx = holdStamp (s.sync q).rx (wordAt words 8 / 65536) (s.rxStamp q i) ∧
      (stampOf (s.sync q).rx (wordAt words 13 / 65536) = none →
        t.rn Reg.FT_OUTLIER_CNT = min (s.rn Reg.FT_OUTLIER_CNT + 1) 0xffffffff)) ∧
    (s.plotByTag (pktTag words) = none → exec (.votePacket q words) s = .next s) ∧
    (∀ p, s.plotByTag (pktTag words) = some p → ∃ t, exec (.votePacket q words) s = .next t ∧
      t = s.faultRec (if 1 ≤ nfld (wordAt words 10) 24 8 ∧ nfld (wordAt words 10) 24 8 ≤ 4 then nfld (wordAt words 10) 24 8 else 0) (nfld (wordAt words 10) 16 5) (wordAt words 11) (some p) (word64 words 8) true (pktSrc words))

/-- Packets about the passes of a plot: STRETCH_NOTICE raises the level of a pass whose headland has not begun, once for each
sender and pass, and for one that has begun the plot diverges (R37, R38); STAKE_DONE is kept, one that reports a failure ends
the stake's commands, and the last of the plot's devices makes the stake the recovery point (R209); HEAL_READY and
RECOVER_READY are kept by a hold of their kind, whose coordinator sets the instant of resumption once every device is ready,
and one that reports a failure ends the hold with the plot stopped (R202, R203); RESUME gives the hold its pass and instant
(R203); DIVERGE makes a plot diverge, one that stands stopped at once (R213); and ROLLBACK asks it for a pass (R217). Where the
spec leaves a point open this states the model's choice: log 28, log 51. -/
def Obligations.PlotPacketsReachTheirPlot : Prop :=
  ∀ (s : State) (q p : Nat) (words : List Word), s.memWf = true → s.plotByTag (pktTag words) = some p →
    ((s.plot p).tm.notices.contains (pktSrc words, word64 words 8) = true → exec (.stretchNotice q words) s = .next s) ∧
    ((s.plot p).tm.notices.contains (pktSrc words, word64 words 8) = false → (s.plot p).tm.cpn ≤ word64 words 8 →
      (s.plot p).tm.headTop ≤ word64 words 8 → s.stretchOf p (word64 words 8) < wordAt words 10 % 16 →
      ∃ t, exec (.stretchNotice q words) s = .next t ∧ t.stretchOf p (word64 words 8) = wordAt words 10 % 16 ∧
        (pktSrc words, word64 words 8) ∈ (t.plot p).tm.notices ∧ (t.plot p).tm.pn = (s.plot p).tm.pn) ∧
    ((s.plot p).tm.notices.contains (pktSrc words, word64 words 8) = false → (s.plot p).tm.cpn ≤ word64 words 8 →
      word64 words 8 < (s.plot p).tm.headTop → s.stretchOf p (word64 words 8) < wordAt words 10 % 16 → s.plotBusy p = true →
      s.cmtState p ≠ 6 → s.cmtState p ≠ 7 →
      ∃ t, exec (.stretchNotice q words) s = .next t ∧ (t.plot p).cmt.diverge = true ∧ (t.plot p).tm.phase = (s.plot p).tm.phase) ∧
    (ctlStatus words ≠ 0 → ∃ t, exec (.stakeDone q words) s = .next t ∧
      (ctlPn words, pktSrc words, ctlStatus words) ∈ (t.plot p).cmt.done ∧ ∀ e ∈ (t.plot p).cmt.extra, e.1 ≠ ctlPn words) ∧
    (ctlStatus words = 0 →
      ((∃ d ∈ s.devicesOf p, d ≠ pktSrc words ∧ (ctlPn words, d, 0) ∉ (s.plot p).cmt.done) →
        ∃ t, exec (.stakeDone q words) s = .next t ∧ (ctlPn words, pktSrc words, 0) ∈ (t.plot p).cmt.done ∧ t.regs = s.regs ∧
          (t.plot p).cmt.extra = (s.plot p).cmt.extra) ∧
      ((∀ d ∈ s.devicesOf p, d = pktSrc words ∨ (ctlPn words, d, 0) ∈ (s.plot p).cmt.done) →
        ((s.plot p).cmt.area0.map (·.pn) = some (ctlPn words) ∨ (s.plot p).cmt.area1.map (·.pn) = some (ctlPn words)) →
        ∃ t, exec (.stakeDone q words) s = .next t ∧ t.bit (Reg.PLT_STAKE_STAT p) 31 = true ∧
          t.rn64 (Reg.PLT_STAKE_PN_LO p) = ctlPn words ∧ ∀ e ∈ (t.plot p).cmt.extra, ctlPn words < e.1)) ∧
    (∀ h i, (s.plot p).cmt.hold = some h → i = (if h.recovery then Instr.recoverReady q words else .healReady q words) →
      let ready := h.ready.filter (fun r => r.1 != pktSrc words) ++ [(pktSrc words, ctlPn words, false)]
      (ctlStatus words = 0 → (∀ r ∈ h.ready, r.2.2 = false) →
        (h.recovery = true → h.sent.isSome = true → ∀ r ∈ ready, r.2.1 = h.point) →
        ∃ t, exec i s = .next t ∧ (t.plot p).cmt.hold = some { h with ready := ready } ∧
          (t.plot p).cmt.resume =
            if (s.plot p).cmt.resume.isNone && s.coordinator p && (s.devicesOf p).all (fun d => ready.any fun r => r.1 == d) then
              some (if h.recovery then h.point else h.k, s.ftNs + 50000)
            else (s.plot p).cmt.resume) ∧
      (ctlStatus words ≠ 0 → ∃ t, exec i s = .next t ∧ (t.plot p).cmt.hold = none ∧ (t.plot p).tm.phase = .stopped)) ∧
    ((s.plot p).cmt.hold.isSome = true → ∃ t, exec (.resume q words) s = .next t ∧
      (t.plot p).cmt.resume = some (ctlPn words, ctlFt words) ∧ (t.plot p).cmt.hold = (s.plot p).cmt.hold) ∧
    (s.plotBusy p = true → s.cmtState p ≠ 6 → s.cmtState p ≠ 7 → ∃ t, exec (.diverge q words) s = .next t ∧
      (t.plot p).cmt.diverge = true ∧ (t.plot p).tm = (s.plot p).tm) ∧
    (s.plotBusy p = false → (s.plot p).tm.launched = true → (s.plot p).cmt.diverge = false → s.cmtState p ≠ 6 →
      s.cmtState p ≠ 7 → ∃ t, exec (.diverge q words) s = .next t ∧ t.cmtState p = 6 ∧ (t.plot p).tm = (s.plot p).tm) ∧
    (∃ t, exec (.rollbackPacket q words) s = .next t ∧
      (t.plot p).cmt.rollback = (s.plot p).cmt.rollback ++ [(ctlPn words, none)] ∧ (t.plot p).tm = (s.plot p).tm)

/-- Queue pairs, driven by PF0 once firmware runs: a doorbell within its ring is kept and one beyond it sets DB_BAD (R357);
enabling an empty, well-formed queue pair starts its rings at slot 0 with phase 1; disabling waits for the commands in flight
(R355); a range that overlaps another or passes 4,096 is refused with QRANGE_BAD and any other is taken (R354); and the next
entry of a ring is fetched into the store, its head moving on (R364). Where the spec leaves a point open this states the
model's choice: log 13, log 14. -/
def Obligations.QueuePairsAreDriven : Prop :=
  ∀ (s : State) (q f v : Nat), s.memWf = true → q < 4096 → s.running = true → s.hostDown 0 = false →
    ((s.sqLast q < v → ∃ t, exec (.doorbellSqTail 0 q v []) s = .next t ∧ t.bit (Reg.QCF_STAT q) 5 = true ∧
        t.cmd = s.cmd) ∧
      (v ≤ s.sqLast q → cellsWf 0 s.cmd.sqTail = true →
        ∃ t, exec (.doorbellSqTail 0 q v []) s = .next t ∧ cget 0 t.cmd.sqTail q = v ∧ t.regs = s.regs) ∧
      (v ≤ s.cqLast q → cellsWf 0 s.cmd.cqHead = true → ∃ t, exec (.doorbellCqHead 0 q v) s = .next t ∧ cget 0 t.cmd.cqHead q = v ∧
        ((s.cqTail q + 1) % (s.cqLast q + 1) ≠ v → t.bit (Reg.QCF_STAT q) 3 = false))) ∧
    (v.testBit 31 = true → s.queueEn q = false → s.queueOwner q = some f → s.sqLast q ≠ 0 → s.cqLast q ≠ 0 →
      s.sqBase q % 4096 = 0 → s.cqBase q % 4096 = 0 → nfld v 0 11 < vectors f →
      ∃ t, exec (.queueEnable 0 q v) s = .next t ∧ t.queueEn q = true ∧ t.sqHead q = 0 ∧ t.cqTail q = 0 ∧
        t.bit (Reg.QCF_STAT q) 7 = true) ∧
    (v.testBit 31 = false → s.queueEn q = true →
      (s.inflight q = 0 → ∃ t, exec (.queueDisable 0 q v) s = .next t ∧ t.queueEn q = false) ∧
      (s.inflight q ≠ 0 → ∃ t, exec (.queueDisable 0 q v) s = .next t ∧ t.queueEn q = true ∧ t.bit (Reg.QCF_STAT q) 4 = true)) ∧
    (f < 64 →
      (s.rangeBad f (nfld v 0 12) (nfld v 16 13) = true → ∃ t, exec (.queueRangeWrite 0 f v) s = .next t ∧
        t.bit Reg.CMD_STAT 0 = true ∧ t.rn (Reg.CMD_FUNC_Q f) = s.rn (Reg.CMD_FUNC_Q f)) ∧
      (s.rangeBad f (nfld v 0 12) (nfld v 16 13) = false → ∃ t, exec (.queueRangeWrite 0 f v) s = .next t ∧
        t.fld (Reg.CMD_FUNC_Q f) 0 12 = nfld v 0 12 ∧ t.fld (Reg.CMD_FUNC_Q f) 16 13 = nfld v 16 13)) ∧
    (s.inject = [] → s.fetchable q = true → s.hasCredit q = true → s.cmd.fetchStop = false → s.cmd.store.length < 65536 →
      s.host.refused = [] → s.host.withdrawn = [] → ∃ t, exec (.entryFetch q) s = .next t ∧ t.cmd.nextId = s.cmd.nextId + 1 ∧
        t.sqHead q = (s.sqHead q + 1) % (s.sqLast q + 1) ∧
        t.rn (Reg.CMD_CNT 0) = min (s.rn (Reg.CMD_CNT 0) + 1) 0xffffffff ∧
        (s.queueOwner q = some f → ∃ e ∈ t.cmd.store, e.id = s.cmd.nextId ∧ e.func = f ∧
          e.words = leWords 16 (s.hostRead f (s.sqBase q + 64 * s.sqHead q) 64)))

/-- From the ready lists to the host: the most urgent ready command is taken up, the fast path first, and one with an opcode
private to the manufacturer ends at once with a status of R383 (R371, R376); of the commands of a completion queue that have
finished, the first to finish is served, another waits: where its completion fits the ring it leaves the store with its
completion in host memory, on a full ring it stays with CQ_FULL, and one that another device forwarded leaves the store with
its packet (R359, R386); a coalescing time that runs out, or an unmasked vector with a message pending, sends the message
(R360, R460); a tick of the delay list makes ready what is due (R370). Where the spec leaves a point open this states the
model's choice: log 13, log 14, log 15. -/
def Obligations.CommandsFlowToTheirCompletion : Prop :=
  ∀ (s : State) (id q fn : Nat) (c : Cmd), s.memWf = true → q < 4096 →
    (c ∈ s.cmd.store → (16 ≤ c.plot ∨ (s.plot c.plot).id.zeroing = false) →
      (s.executing true = 0 → s.nextReady (fun c => fastOp c.opc) = some c →
        ∃ t, exec .commandDispatch s = .next t ∧ (∀ e ∈ t.cmd.store, e.id = c.id → e.stage = .executing) ∧ t.regs = s.regs) ∧
      ((s.executing true ≠ 0 ∨ s.nextReady (fun c => fastOp c.opc) = none) → s.executing false < 4 →
        s.nextReady (fun c => !(fastOp c.opc)) = some c →
        ∃ t, exec .commandDispatch s = .next t ∧ t.regs = s.regs ∧
          if 0xf0 ≤ c.opc then ∃ st v, st ∈ endCodes ∧ t.ended c.id st v
          else ∀ e ∈ t.cmd.store, e.id = c.id → e.stage = .executing)) ∧
    (s.cmdOf id = some c → c.stage = .finished → s.endsFirst c = false → exec (.completionWrite id) s = .next s) ∧
    (s.cmdOf id = some c → c.stage = .finished → s.endsFirst c = true → (∃ slot, c.origin = .queue q slot) →
      s.bit (Reg.QCF_STAT q) 6 = false → s.hostDown c.func = false →
      (s.cqFull q = true → ∃ t, exec (.completionWrite id) s = .next t ∧ t.bit (Reg.QCF_STAT q) 3 = true ∧
        t.cmd = s.cmd ∧ t.host = s.host) ∧
      (s.cqFull q = false → s.host.refused = [] → s.host.withdrawn = [] → s.cmd.waiting = [] → ∃ t slot, c.origin = .queue q slot ∧
        exec (.completionWrite id) s = .next t ∧ (∀ e ∈ t.cmd.store, e.id ≠ id) ∧
        t.cqTail q = (s.cqTail q + 1) % (s.cqLast q + 1) ∧
        t.hostRead c.func (s.cqBase q + 32 * s.cqTail q) 28 = wordsBytes (s.completion c (s.bit (Reg.QCF_STAT q) 7) slot))) ∧
    (s.cmdOf id = some c → c.stage = .finished → s.endsFirst c = true → s.cmd.waiting = [] → (∃ src k, c.origin = .forwarded src k) →
      ∃ t, exec (.completionWrite id) s = .next t ∧ (∀ e ∈ t.cmd.store, e.id ≠ id) ∧ t.host.mem = s.host.mem) ∧
    (s.queueOwner q = some fn → s.bit (Reg.QCF_CTRL q) 30 = true → s.fld (Reg.QCF_INT q) 0 16 ≠ 0 → cget 0 s.cmd.coalesce q ≠ 0 →
      s.pwr.d3 = [] → cget false s.host.funcMask fn = false → cget false s.host.unmasked (fn * 2048 + s.queueVec q) = true →
      (s.ft.phaseEnd = none ∨ clampAdj s.ft.f = s.ft.f) →
      ∃ t, exec (.interruptCoalesceTimeout q) s = .next t ∧ t.out.msix = s.out.msix ++ [(fn, s.queueVec q)] ∧
        cget 0 s.cmd.coalFt q + 1000 * s.fld (Reg.QCF_INT q) 0 16 ≤ t.ftNs ∧ ∀ a, a ≠ Reg.FT_ADJ → t.rg a = s.rg a) ∧
    (fn < 64 → q < vectors fn → s.pwr.d3 = [] → cget false s.host.funcMask fn = false →
      ∃ t, exec (.msixUnmask fn q) s = .next t ∧ cget false t.host.unmasked (fn * 2048 + q) = true ∧
        t.out.msix = s.out.msix ++ if cget false s.host.msixPend (fn * 2048 + q) then [(fn, q)] else []) ∧
    (∃ t, exec .ftDelayTick s = .next t ∧ t.cmd.tick = t.ftNs ∧
      ∀ e ∈ t.cmd.store, e.stage = .ftDelay → ∀ x, e.atFt = some x → t.ftNs < x)

/-- The host's answers and forwarded commands: a response takes its page request away, a Success maps the page and a refusal
leaves it unmapped (R408); an invalidation takes the pages out of the cache, withdraws them and is answered with its
Invalidation Completion (R409); a forwarded command enters the store, or waits with MS_FULL while the store is full (R369), its
completion ends the command at its origin, and one that never answers ends with LINK_DOWN and FWD_TIMEOUT (R386). Where the
spec leaves a point open this states the model's choice: log 9, log 14, log 46. -/
def Obligations.HostAnswersAndForwarding : Prop :=
  ∀ (s : State) (fn page count id : Nat) (port : Nat) (words : List Word), s.memWf = true →
    ((fn, page) ∉ s.host.pageReqs → ∀ ok, exec (.pageRequestResponse fn page ok) s = .next s) ∧
    ((fn, page) ∈ s.host.pageReqs → s.host.pageWait = [] →
      ∃ t, exec (.pageRequestResponse fn page true) s = .next t ∧ t.host.pageReqs = s.host.pageReqs.erase (fn, page) ∧
        (fn, page) ∉ t.host.refused ∧ t.host.mem = s.host.mem) ∧
    ((fn, page) ∈ s.host.pageReqs → s.host.pageWait = [] →
      ∃ t, exec (.pageRequestResponse fn page false) s = .next t ∧ t.host.pageReqs = s.host.pageReqs.erase (fn, page) ∧
        t.host.refused = s.host.refused ∧ t.host.mem = s.host.mem ∧ t.regs = s.regs) ∧
    (∃ t, exec (.atsInvalidation fn page count) s = .next t ∧ t.out.ats = s.out.ats ++ [(.invalidated, fn, page)] ∧
      t.regs = s.regs ∧ t.host.mem = s.host.mem ∧
      ∀ g, page ≤ g → g < page + count → (∀ r, (fn, r, g) ∉ t.host.atc) ∧ (fn, g) ∈ t.host.withdrawn) ∧
    (∀ p, s.plotByTag (pktTag words) = some p → nfld (wordAt words 8) 0 8 = 1 → s.cmd.store.length < 65536 →
      ∃ t, exec (.forwardedCommand port words) s = .next t ∧ t.cmd.nextId = s.cmd.nextId + 1 ∧
        ∃ e ∈ t.cmd.store, e.id = s.cmd.nextId ∧ e.plot = p ∧ e.func = 0 ∧ e.words = (words.drop 9).take 14 ++ [0, 0]) ∧
    (∀ p, s.plotByTag (pktTag words) = some p → nfld (wordAt words 8) 0 8 = 1 → 65536 ≤ s.cmd.store.length →
      ∃ t, exec (.forwardedCommand port words) s = .next t ∧ t.cmd.waiting = s.cmd.waiting ++ [words] ∧
        t.cmd.store = s.cmd.store ∧ t.bit Reg.CMD_STAT 2 = true) ∧
    (∀ c, nfld (wordAt words 8) 0 8 = 2 → nfld (wordAt words 16) 0 18 = s.devId → nfld (wordAt words 9) 8 8 ≠ 0 →
      (s.cmd.store.find? fun c => c.stage == .away && c.tag == wordAt words 9 / 65536 && match c.origin with
        | .queue k _ => k == nfld (wordAt words 8) 16 12
        | .forwarded _ _ => false) = some c →
      ∃ t, exec (.forwardedCompletion port words) s = .next t ∧ t.ended c.id (nfld (wordAt words 9) 8 8) (word64 words 13)) ∧
    (∀ c q slot, s.cmdOf id = some c → c.stage = .away → c.origin = .queue q slot → s.fld (Reg.QCF_FWD_CFG q) 0 16 ≠ 0 →
      ∃ t, exec (.forwardTimeout id) s = .next t ∧ t.ended id Status.linkDown 1 ∧ t.bit Reg.CMD_STAT 3 = true ∧
        c.mark + 1000000 * s.fld (Reg.QCF_FWD_CFG q) 0 16 ≤ t.ftNs)

/-- Field Time: TIME_SYNC is sent at its interval with its sequence number (R277); a parent that falls silent sets PARENT_LOST,
forgets its announcement and leaves ADJ at the clamped frequency term where no other grandmaster is chosen (R284); a PPS edge
is stamped and the first one steps FT to the second; a missed one on a grandmaster that follows PPS sets PPS_LOST and holds
over (R288); and the PPS output rises at the next instant of its offset in the second that it has not yet driven, falls after
its width, and is low while it is not enabled (R289). Where the spec leaves a point open this states the model's choice: log
12, log 47. -/
def Obligations.FieldTimeEvents : Prop :=
  ∀ (s : State) (q : Nat), s.memWf = true → cellsWf {} s.ft.ports = true →
    ((s.portUp q = false ∨ s.running = false) → exec (.timeSyncSend q) s = .next s) ∧
    (s.portUp q = true → s.running = true → ∃ t, exec (.timeSyncSend q) s = .next t ∧
      (t.sync q).sseq = ((s.sync q).sseq + 1) % 65536 ∧ (t.sync q).sent = (t.ftNs : Int) ∧
      (s.sync q).sent + (s.syncInt : Int) ≤ (t.ftNs : Int) ∧
      ((s.xch.ctrlQ.filter (fun w => w.port == q)).length < 64 → ∃ w ∈ t.xch.ctrlQ, w.port = q ∧
        (parsePkt w.words).ptype = 1 ∧ (parsePkt w.words).nhop = 1 ∧ wordAt w.words 8 / 65536 = (s.sync q).sseq % 65536)) ∧
    (s.bit Reg.FT_STAT 23 = false → exec .parentLost s = .next s) ∧
    (s.bit Reg.FT_STAT 23 = true → ∃ t, exec .parentLost s = .next t ∧ t.bit Reg.FT_STAT 20 = true ∧
      (t.sync (s.fld Reg.FT_STAT 24 4)).ann = none ∧ (t.ftState = 3 → t.rg Reg.FT_ADJ = BitVec.ofInt 32 (clampAdj s.ft.f)) ∧
      ∀ a, (s.sync (s.fld Reg.FT_STAT 24 4)).ann = some a → a.2.2.2 + 4 * (s.syncInt : Int) ≤ (t.ftNs : Int)) ∧
    (∃ t, exec .ppsInEdge s = .next t ∧ t.ft.lastPps = (t.ftNs : Int) ∧ t.rn64 Reg.FT_PPS_STAMP_LO = s.ftNs % 2 ^ 64 ∧
      (s.bit Reg.FT_CFG 11 = true → s.isGm = true → t.ft.first = true ∧
        (s.ft.first = false → s.rg Reg.FT_PPS_OFS = 0 → s.ftNs % 10 ^ 9 ≤ 5 * 10 ^ 8 →
          t.ftNs = s.ftNs - s.ftNs % 10 ^ 9))) ∧
    (s.bit Reg.FT_CFG 11 = true → s.isGm = true → ∃ t, exec .ppsMiss s = .next t ∧ t.bit Reg.FT_STAT 18 = true ∧ t.ftState = 3 ∧
      t.rg Reg.FT_ADJ = BitVec.ofInt 32 (clampAdj s.ft.f) ∧ s.ft.lastPps + 1500000000 ≤ (t.ftNs : Int)) ∧
    ((s.bit Reg.FT_CFG 11 = false ∨ s.isGm = false) → exec .ppsMiss s = .next s) ∧
    (s.bit Reg.FT_CFG 10 = true → s.fld Reg.FT_PPS_OUT_OFS 0 30 < 10 ^ 9 →
      (s.ft.ppsOut = false → ∃ t, exec .ppsOutEdge s = .next t ∧ t.ft.ppsOut = true ∧
        ∃ at_ : Nat, t.ft.ppsRose = (at_ : Int) ∧ at_ ≤ t.ftNs ∧ at_ % 10 ^ 9 = s.fld Reg.FT_PPS_OUT_OFS 0 30 ∧
          max s.ftNs s.ft.ppsDone ≤ at_ ∧ t.ft.ppsDone = at_ + 1 ∧
          ∀ b, max s.ftNs s.ft.ppsDone ≤ b → b < at_ → b % 10 ^ 9 ≠ s.fld Reg.FT_PPS_OUT_OFS 0 30) ∧
      (s.ft.ppsOut = true → ∃ t, exec .ppsOutEdge s = .next t ∧ t.ft.ppsOut = false ∧
        s.ft.ppsRose + (1000 * max 1 (s.fld Reg.FT_PPS_OUT 24 8) : Nat) ≤ (t.ftNs : Int))) ∧
    (s.bit Reg.FT_CFG 10 = false → ∃ t, exec .ppsOutEdge s = .next t ∧ t.ft.ppsOut = false ∧ t.regs = s.regs)

/-- Field I/O events: an edge of the bus clock of a running BRIDGE port is noted and moves the reflex on, on any other port it
is ignored (R308); a bus clock that stops sets CLK_LOST and puts the reflex back (R308); and a bad VCCIO is held in the port's
status until it is good again (R294). Where the spec leaves a point open this states the model's choice: log 12, log 39. -/
def Obligations.FieldIoEvents : Prop :=
  ∀ (s : State) (q pins : Nat), s.memWf = true → q < 12 →
    ((s.fio q).running = false → exec (.bridgeBusClockEdge q pins) s = .next s ∧ exec (.clkLost q) s = .next s) ∧
    ((s.fio q).running = true → ∃ t, exec (.bridgeBusClockEdge q pins) s = .next t ∧ (t.fio q).lastEdge = s.ftNs + 1 ∧
      (s.rn (Reg.FIO_RFX0 q (s.fio q).reflex) = 0 → s.rn (Reg.FIO_RFX1 q (s.fio q).reflex) = 0 →
        nfld (s.rn (Reg.FIO_RFX2 q (s.fio q).reflex)) 0 4 = 0 →
        (t.fio q).reflex = nfld (s.rn (Reg.FIO_RFX2 q (s.fio q).reflex)) 4 5)) ∧
    ((s.fio q).running = true → (s.fio q).lastEdge ≠ 0 → ∃ t, exec (.clkLost q) s = .next t ∧
      t.bit (Reg.FIO_PORT_STAT q) 5 = true ∧ (t.fio q).reflex = 0 ∧ (t.fio q).lastEdge = 0 ∧
      (s.fio q).lastEdge - 1 + 1000 ≤ t.ftNs) ∧
    (∃ t, exec (.vccioBad q true) s = .next t ∧ t.bit (Reg.FIO_PORT_STAT q) 6 = true ∧ (t.fio q).out = (s.fio q).out) ∧
    (∃ t, exec (.vccioBad q false) s = .next t ∧ t.bit (Reg.FIO_PORT_STAT q) 6 = false ∧ t.io = s.io)

/-- The whole resets leave no plot and no command, the firmware not running and the cause in CRP_RST_CAUSE; DEV_RESET keeps the
configuration space and needs its key; FLR takes the function's own commands; host memory and the keys in eFuses survive them
all (R323, R325, R398, R485-R487). Where the spec leaves a point open this states the model's choice: log 4, log 6, log 23. -/
def Obligations.ResetsReach : Prop :=
  ∀ (s : State) (link fn strap gpio nonce : Nat), s.memWf = true →
    (∃ t, exec (.porN strap gpio nonce) s = .next t ∧ t.plots = [] ∧ t.cmd.store = [] ∧ t.running = false ∧
      t.fld Reg.CRP_RST_CAUSE 0 4 = 0 ∧ t.host.mem = s.host.mem ∧ t.svc.locked = (s.boot.lifecycle == 2) ∧
      t.host.strap = strap % 4 ∧ ∀ k, k < 4 ∨ 8 ≤ k → cget [] t.boot.keys k = cget [] s.boot.keys k) ∧
    (s.pwr.tripped = false → s.links = 1 → ∀ i cause, (i, cause) ∈ [(Instr.perstN 0 nonce, 1), (Instr.dlDown 0 nonce, 2)] →
      ∃ t, exec i s = .next t ∧ t.plots = [] ∧ t.cmd.store = [] ∧ t.running = false ∧ t.fld Reg.CRP_RST_CAUSE 0 4 = cause ∧
        t.host.mem = s.host.mem) ∧
    (s.pwr.tripped = true ∨ s.links ≤ link → exec (.perstN link nonce) s = .next s ∧ exec (.dlDown link nonce) s = .next s) ∧
    (s.hostDown 0 = false → ∃ t, exec (.devReset 0 0xa5000000 nonce) s = .next t ∧ t.plots = [] ∧ t.cmd.store = [] ∧
      t.running = false ∧ t.fld Reg.CRP_RST_CAUSE 0 4 = 3 ∧ t.host.numVfs = s.host.numVfs ∧ t.host.ats = s.host.ats) ∧
    (s.linksDown = false → s.enabledFn fn = true → ∃ t, exec (.flr fn) s = .next t ∧
      (∀ e ∈ t.cmd.store, ownCmd fn e = false) ∧ t.host.mem = s.host.mem ∧ t.boot.keys = s.boot.keys) ∧
    (s.linksDown = true ∨ s.enabledFn fn = false → exec (.flr fn) s = .next s)

/-- Power and clock events: a function enters D3hot and returns; a lost reference stops every plot, clears the lock bits and
puts Field Time in holdover, and its return brings the clock back; the loss of VBAT is noted; a link becomes ready, with the
PLLs locked; an evaluation puts the temperatures it is given into CRP_TEMP; and a thermal trip stops every plot and ends every
command (R329, R476, R478, R482, R484). Where the spec leaves a point open this states the model's choice: log 22, log 39. -/
def Obligations.PowerAndClockEvents : Prop :=
  ∀ (s : State) (fn link : Nat), s.memWf = true →
    (s.linksDown = false → s.enabledFn fn = true → s.pwr.d3.contains fn = false →
      ∃ t, exec (.d3hotEntry fn) s = .next t ∧ t.pwr.d3.contains fn = true ∧ t.hostDown fn = true ∧ t.regs = s.regs) ∧
    (s.linksDown = false → s.pwr.d3.contains fn = true → fn < 4 →
      ∃ t, exec (.d0Return fn) s = .next t ∧ t.pwr.d3.contains fn = false ∧ t.hostDown fn = false) ∧
    (s.pwr.refLost = false → s.pwr.tripped = false → ∃ t, exec .refclkLost s = .next t ∧ t.pwr.refLost = true ∧
      t.fld Reg.CRP_STAT 1 3 = 0 ∧ t.bit Reg.CRP_STAT 4 = true ∧ t.ftState = 3 ∧ ∀ p ∈ s.livePlots, t.plotRuns p = false) ∧
    (s.pwr.refLost = true → ∃ t, exec .refclkReturn s = .next t ∧ t.pwr.refLost = false ∧ t.ft.internal = false ∧
      (s.pwr.tripped = false → t.fld Reg.CRP_STAT 1 3 = 7)) ∧
    (exec .vbatLost s = .next { s with boot := { s.boot with vbatLost := true } }) ∧
    (s.linksDown = false → link < s.links → ∃ t, exec (.configurationReady link) s = .next t ∧
      t.boot.cfgReady.contains link = true ∧
      (s.boot.cfgReady.contains link = false → s.pwr.refLost = false → s.pwr.tripped = false → t.fld Reg.CRP_STAT 1 3 = 7)) ∧
    (∀ temps : List Int, s.pwr.tripped = false → temps ≠ [] → s.pwr.hot < 2 → ∃ t, exec (.thermalEvaluation temps) s = .next t ∧
      s.pwr.evalFt + 10000 ≤ t.ftNs ∧
      ∀ i x, i < 64 → temps[i]? = some x → t.rn (Reg.CRP_TEMP i) = 2 ^ 31 + (BitVec.ofInt 16 x).toNat) ∧
    (∃ t, exec .thermalTrip s = .next t ∧ t.pwr.tripped = true ∧ t.cmd.store = [] ∧ t.fld Reg.CRP_STAT 1 3 = 0 ∧
      ∀ p ∈ s.livePlots, t.plotRuns p = false)

/-- Scratchpad banks: a handover of bank 63, of a bank whose last handover is not done or of a bank a released BRIDGE port uses
sets OWN_BUSY and changes no owner; any other sets PEND and the new owner, and is queued with a clear where the write asks for
it or the bank passes to another function; the handover that is done clears PEND, and the bank where it was to be cleared
(R405). Where the spec leaves a point open this states the model's choice: log 20. -/
def Obligations.BanksAreHandedOver : Prop :=
  ∀ (s : State), s.memWf = true →
    (∀ b v, b < 64 → s.hostDown 0 = false → s.running = true →
      ((b = 63 ∨ s.bit (Reg.SPM_BANK_OWNER b) 29 = true ∨ s.bridgeBank b = true) →
        ∃ t, exec (.bankHandover 0 b v) s = .next t ∧ t.bit Reg.SPM_STAT 3 = true ∧
          t.rg (Reg.SPM_BANK_OWNER b) = s.rg (Reg.SPM_BANK_OWNER b) ∧ t.tile.handover = s.tile.handover) ∧
      (b ≠ 63 → s.bit (Reg.SPM_BANK_OWNER b) 29 = false → s.bridgeBank b = false →
        ∃ t, exec (.bankHandover 0 b v) s = .next t ∧ t.bit (Reg.SPM_BANK_OWNER b) 29 = true ∧
          t.bit (Reg.SPM_BANK_OWNER b) 31 = v.testBit 31 ∧ t.fld (Reg.SPM_BANK_OWNER b) 24 4 = nfld v 24 4 ∧
          t.tile.spm = s.tile.spm ∧ ∃ zero, (b, zero) ∈ t.tile.handover ∧
            (zero = true ↔ (v.testBit 30 = true ∨ (s.bankPlot b).map (fun p => (s.plot p).id.owner) ≠
              (if v.testBit 31 then some (s.plot (nfld v 24 4)).id.owner else none))))) ∧
    (∀ b, (∀ e ∈ s.tile.handover, e.1 ≠ b) → exec (.handoverDone b) s = .next s) ∧
    (∀ b zero, s.tile.handover.find? (fun e => e.1 == b) = some (b, zero) →
      ∃ t, exec (.handoverDone b) s = .next t ∧ t.bit (Reg.SPM_BANK_OWNER b) 29 = false ∧ (∀ e ∈ t.tile.handover, e.1 ≠ b) ∧
        ∀ a, cget 0 t.tile.spm a = if zero = true ∧ a / 2 ^ 18 = b then 0 else cget 0 s.tile.spm a)

/-- The scratchpad window of BAR0, for PF0 with no injection armed and no stored error: an access past its end names nothing;
an aligned dword is written and read back as it stands; and the two alias windows set and clear the bits of a dword (R402,
R403). Where the spec leaves a point open this states the model's choice: log 32, log 36. -/
def Obligations.ScratchpadIsReadAndWritten : Prop :=
  ∀ (s : State), s.memWf = true →
    (∀ fn offset len data, 2 ^ 24 < offset + len → exec (.spmDataAccess fn offset len data) s = .fault .outsideBar) ∧
    (s.hostDown 0 = false → s.running = true → s.inject = [] → s.ecc = [] →
      (∀ offset, offset % 4 = 0 → offset + 4 ≤ 2 ^ 24 →
        (∃ t, exec (.spmDataAccess 0 offset 4 none) s = .next t ∧ t.out.data = some (s.spmRead offset 4) ∧ t.tile = s.tile ∧
          t.regs = s.regs) ∧
        (∀ bs : List Byte, bs.length = 4 → ∃ t, exec (.spmDataAccess 0 offset 4 (some bs)) s = .next t ∧
          t.spmRead offset 4 = bs ∧ t.regs = s.regs ∧
          ∀ a, a < offset ∨ offset + 4 ≤ a → cget 0 t.tile.spm a = cget 0 s.tile.spm a)) ∧
      (∀ b i v, b < 64 → i % 4 = 0 → i < 2 ^ 16 → v < 2 ^ 32 →
        (∃ t, exec (.bitSet 0 (0x2400000 + b * 2 ^ 16 + i) v) s = .next t ∧ t.regs = s.regs ∧
          leNat (t.spmRead (b * 2 ^ 18 + i) 4) = leNat (s.spmRead (b * 2 ^ 18 + i) 4) ||| v ∧
          ∀ a, a < b * 2 ^ 18 + i ∨ b * 2 ^ 18 + i + 4 ≤ a → cget 0 t.tile.spm a = cget 0 s.tile.spm a) ∧
        (∃ t, exec (.bitClear 0 (0x2800000 + b * 2 ^ 16 + i) v) s = .next t ∧ t.regs = s.regs ∧
          (∀ k, (leNat (t.spmRead (b * 2 ^ 18 + i) 4)).testBit k =
            ((leNat (s.spmRead (b * 2 ^ 18 + i) 4)).testBit k && !v.testBit k)) ∧
          ∀ a, a < b * 2 ^ 18 + i ∨ b * 2 ^ 18 + i + 4 ≤ a → cget 0 t.tile.spm a = cget 0 s.tile.spm a)))

/-- Acknowledgements, injection and the Gleaner's restart: FIRST_ACK with 0 frees the first-error registers and the merge
counter; HIST_ACK reads the oldest entries, all of them for 0; an injection is taken in the FACTORY lifecycle only, and a write
with ARM 0 withdraws it; and a restart clears the stalls but the patrol's (R107, R109, R470, R472). Where the spec leaves a
point open this states the model's choice: log 31, log 33, log 34. -/
def Obligations.FaultRegistersAct : Prop :=
  ∀ (s : State) (addr v : Nat) (g : RegRow × List Nat), s.memWf = true → s.hostDown 0 = false → s.gate 0 addr = .inr g →
    (∀ b, blkOfAck addr = some b →
      (∃ t, exec (.firstAck 0 addr 0) s = .next t ∧ t.bit b.first 31 = false ∧ t.rn b.merged = 0) ∧
      (v % 2 ^ 32 ≠ 0 → ∃ t, exec (.firstAck 0 addr v) s = .next t ∧ t.regs = s.regs)) ∧
    (∀ b, blkOfHistAck addr = some b → ∃ t, exec (.histAck 0 addr v) s = .next t ∧
      t.fld b.ptr 16 5 = if nfld v 0 5 = 0 then 0 else s.fld b.ptr 16 5 - nfld v 0 5) ∧
    (∀ stat furrow, injectStat addr = some (stat, furrow) →
      (s.boot.lifecycle ≠ 0 → exec (.faultInjectionArm 0 addr v) s = .next s) ∧
      (s.boot.lifecycle = 0 → v.testBit 31 = true → armOk v (s.rn (addr + 4)) stat furrow = true →
        ∃ t, exec (.faultInjectionArm 0 addr v) s = .next t ∧ t.bit addr 31 = true ∧ ⟨addr, v, s.rn (addr + 4)⟩ ∈ t.inject) ∧
      (s.boot.lifecycle = 0 → v.testBit 31 = false →
        ∃ t, exec (.faultInjectionArm 0 addr v) s = .next t ∧ t.bit addr 31 = false ∧ ∀ i ∈ t.inject, i.reg ≠ addr)) ∧
    (v.testBit 31 = true → s.running = true → ∃ t, exec (.gleanerRestart 0 v) s = .next t ∧ t.fld Reg.GLN_STAT 12 4 = 0 ∧
      ∀ e ∈ t.gln.stalls, e.1 = 4)

/-- Settings by register: a sort request is turned away with MODE_REFUSED while a plot is released and otherwise taken at once,
with sorted mode kept while firmware diagnoses a plane fault; a gate takes a new declaration unless it is locked, and one that
is withdrawn holds X; and a register write reaches the scratch register of its function, the items of configuration space, and
nothing outside BAR0 (R14, R121, R420, R406, R408). Where the spec leaves a point open this states the model's choice: log 4,
log 26, log 33, log 35, log 36. -/
def Obligations.SettingsAreTaken : Prop :=
  ∀ (s : State) (v : Nat), s.memWf = true → s.hostDown 0 = false → s.running = true →
    (v.testBit 31 = true → s.anyReleased = true → ∃ t, exec (.sortReq 0 v) s = .next t ∧ t.bit Reg.NOC_STAT 5 = true ∧
      t.rg Reg.NOC_CFG = s.rg Reg.NOC_CFG) ∧
    ((v.testBit 31 = false ∨ s.anyReleased = false) → ∃ t, exec (.sortReq 0 v) s = .next t ∧
      t.bit Reg.NOC_CFG 31 = v.testBit 31 ∧ t.bit Reg.NOC_CFG 30 = (v.testBit 31 || s.tile.diagnosing)) ∧
    (∀ g, g < 256 →
      (s.gateLocked g = true → ∃ t, exec (.gateDeclare 0 g v) s = .next t ∧
        t.fld (Reg.FUR_GATE g) 18 14 = s.fld (Reg.FUR_GATE g) 18 14) ∧
      (s.gateLocked g = false → ∃ t, exec (.gateDeclare 0 g v) s = .next t ∧ t.bit (Reg.FUR_GATE g) 31 = v.testBit 31 ∧
        t.fld (Reg.FUR_GATE g) 24 4 = nfld v 24 4 ∧ t.fld (Reg.FUR_GATE g) 20 4 = nfld v 20 4 ∧
        (s.bit (Reg.FUR_GATE g) 31 = true → v.testBit 31 = false → t.fld (Reg.FUR_GATE g) 0 2 = valBits .vx))) ∧
    (∀ fn a, bar0Size ≤ a → exec (.registerWrite fn (.bar0 a) v) s = .fault .outsideBar) ∧
    (∃ t, exec (.registerWrite 0 (.bar0 Reg.DEV_SCRATCH) v) s = .next t ∧ t.copyRd 0 Reg.DEV_SCRATCH = BitVec.ofNat 32 v ∧
      t.regs = s.regs) ∧
    (∀ fn, s.linksDown = false → s.enabledFn fn = true → cellsWf false s.host.ats = true →
      ∃ t, exec (.registerWrite fn (.cfg .atsEnable) v) s = .next t ∧ cget false t.host.ats fn = v.testBit 0 ∧ t.regs = s.regs)

/-- The Gleaner's sequencers, with no injection armed: one that runs reads the next item of its sweep (R463), and corrects it
at once where no running plot holds it, an entry of the exchange table among them; one that does not run does nothing; an item
that a running plot holds is written at a write point, at most 8 in a furrow and headland: a corrected one, a configuration
item rebuilt from the seed shadow, an entry from the copy of its half, and the all-zero word at and above L (R464); the control
triples are voted (R469); and a watchdog that expires sets STALL, restarts the sweep or the patrol, and stops a sequencer at
its third stall in a second (R470). Where the spec leaves a point open this states the model's choice: log 12, log 30, log 37,
log 61. -/
def Obligations.GleanerSequencersRun : Prop :=
  ∀ (s : State), s.memWf = true → s.inject = [] → cellsWf 0 s.gln.pos = true → cellsWf 0 s.ecc = true →
    cellsWf 0 s.gln.upset = true →
    (∀ seq, s.gln.upset = [] → s.seqRuns seq = false → exec (.gleanerItemRead seq) s = .next s ∧
      (seq ≠ 4 ∨ s.patrolRuns = false → exec (.gleanerWatchdog seq) s = .next s)) ∧
    (∀ seq, s.gln.upset = [] → s.seqRuns seq = true → (∀ e ∈ s.gln.prio, prioSeq e ≠ seq) →
      s.sw.plans = [] → s.nextPlace seq (cget 0 s.gln.pos seq) + 1 < sweepPlaces seq →
      let item := placeItem seq (s.nextPlace seq (cget 0 s.gln.pos seq))
      ∃ t, exec (.gleanerItemRead seq) s = .next t ∧ cget 0 t.gln.pos seq = s.nextPlace seq (cget 0 s.gln.pos seq) + 1 ∧
        ((∀ p, s.itemPlot item.1 item.2 = some p → s.plotRuns p = false) → s.rn (Reg.GLN_CNT 0) < 0xffffffff →
          (item.1 ≠ Item.xt → s.beyondL item.1 item.2 = false → s.eccAt item.1 item.2 = 1 →
            t.eccAt item.1 item.2 = 0 ∧ t.rn (Reg.GLN_CNT 0) = s.rn (Reg.GLN_CNT 0) + 1 ∧ t.bit Reg.GLN_STAT 0 = true) ∧
          (∀ d, item.1 = Item.xt → xtDecode (cget 0 s.xch.xt item.2) = .corrected d → xtEncode d ≠ 0 →
            cget 0 t.xch.xt item.2 = xtEncode d ∧ t.rn (Reg.GLN_CNT 0) = s.rn (Reg.GLN_CNT 0) + 1 ∧
            t.bit Reg.GLN_STAT 0 = true))) ∧
    (∀ p, s.plotRuns p = true → s.writePoint p = false → exec (.gleanerWrite p) s = .next s) ∧
    (∀ p w, s.plotRuns p = true → s.gln.writes = [w] → w.1 < 528 → 8 ≤ cget 0 s.gln.wrCount w.1 →
      exec (.gleanerWrite p) s = .next s) ∧
    (∀ p w, s.plotRuns p = true → s.writePoint p = true → s.gln.writes = [w] →
      (w.1 = 528 + p ∨ (w.1 < 528 ∧ (s.plotPhys p).contains w.1 = true ∧ cget 0 s.gln.wrCount w.1 < 8)) →
      ∃ t, exec (.gleanerWrite p) s = .next t ∧ t.gln.writes = [] ∧
        (w.1 < 528 → cget 0 t.gln.wrCount w.1 = cget 0 s.gln.wrCount w.1 + 1) ∧
        (s.beyondL w.2.1 w.2.2 = true → t.eccAt w.2.1 w.2.2 = 0 ∧ t.regs = s.regs ∧
          (w.2.1 = Item.imem → cellsWf 0 s.bp.imem = true → cget 0 t.bp.imem w.2.2 = 0)) ∧
        (s.beyondL w.2.1 w.2.2 = false → w.2.1 ≠ Item.xt → s.eccAt w.2.1 w.2.2 = 1 → s.rn (Reg.GLN_CNT 0) < 0xffffffff →
          t.eccAt w.2.1 w.2.2 = 0 ∧ t.rn (Reg.GLN_CNT 0) = s.rn (Reg.GLN_CNT 0) + 1 ∧ t.bit Reg.GLN_STAT 0 = true) ∧
        (s.beyondL w.2.1 w.2.2 = false → s.eccAt w.2.1 w.2.2 = 2 → w.2.1 ≠ Item.stateRow → w.2.1 ≠ Item.ramWord → w.2.1 ≠ Item.xt →
          s.hasShadow (s.itemPlot w.2.1 w.2.2) = true → s.rn (Reg.GLN_CNT 1) < 0xffffffff →
          t.eccAt w.2.1 w.2.2 = 0 ∧ t.rn (Reg.GLN_CNT 1) = s.rn (Reg.GLN_CNT 1) + 1 ∧ t.bit Reg.GLN_STAT 1 = true) ∧
        (w.2.1 = Item.xt → xtDecode (cget 0 s.xch.xt w.2.2) = .lost → cget 0 s.xch.xtCopy w.2.2 ≠ 0 →
          s.rn (Reg.GLN_CNT 1) < 0xffffffff → cget 0 t.xch.xt w.2.2 = cget 0 s.xch.xtCopy w.2.2 ∧
          t.rn (Reg.GLN_CNT 1) = s.rn (Reg.GLN_CNT 1) + 1 ∧ t.bit Reg.GLN_STAT 1 = true)) ∧
    (∃ t, exec .controlTripleVote s = .next t ∧ (∀ k ∈ triples, cget 0 t.gln.upset k = 0) ∧ s.ftNs ≤ t.ftNs ∧
      ∀ k ∈ triples, (s.gln.upset = [(k, 1)] → t.bit Reg.GLN_STAT 5 = true ∧
          (s.rn (Reg.GLN_CNT 5) < 0xffffffff → t.rn (Reg.GLN_CNT 5) = s.rn (Reg.GLN_CNT 5) + 1)) ∧
        (s.gln.upset = [(k, 2)] → t.bit Reg.GLN_STAT 6 = true)) ∧
    (s.patrolRuns = true → ∃ t, exec (.gleanerWatchdog 4) s = .next t ∧ t.bit Reg.GLN_STAT 7 = true ∧
      t.rn64 Reg.GLN_HBM_POS_LO = 0 ∧ cget 0 s.gln.last 4 + 10000000 ≤ t.ftNs) ∧
    (∀ seq, s.seqRuns seq = true → ∃ t, exec (.gleanerWatchdog seq) s = .next t ∧ t.bit Reg.GLN_STAT 7 = true ∧
      cget 0 t.gln.pos seq = 0 ∧ cget 0 s.gln.last seq + 10000000 ≤ t.ftNs ∧
      (2 ≤ (s.gln.stalls.filter fun e => e.1 == seq && decide (t.ftNs < e.2 + 1000000000)).length →
        t.bit Reg.GLN_STAT (12 + seq) = true))

/-- Leaky buckets: a drain tick of a class, one drain period after the tick before it, takes 1 from every level above 0; a
bucket that has reached its size, or whose overflow is due, raises its interrupt and asks for its class action, its level at 0
or what it has counted since; one that has not or whose class is switched off stays; an offset that is no bucket names nothing
(R461, R462). Where the spec leaves a point open this states the model's choice: log 12, log 30. -/
def Obligations.BucketsDrainAndOverflow : Prop :=
  ∀ (s : State), s.memWf = true →
    (∀ cls, cls < 6 → s.inject = [] → s.gln.upset = [] → (∀ e ∈ bucketsOf cls, s.gln.spilt.contains (cls, e.1) = false ∧
        (s.bktSize cls = 0 ∨ s.fld e.1 0 16 < s.bktSize cls)) →
      ∃ t, exec (.bucketDrainTick cls) s = .next t ∧ cget 0 t.gln.tick cls = cget 0 s.gln.tick cls + s.drainNs cls ∧
        cget 0 t.gln.tick cls ≤ t.ftNs ∧
        ∀ e ∈ bucketsOf cls, t.fld e.1 0 16 = s.fld e.1 0 16 - 1) ∧
    (∀ cls, 6 ≤ cls → exec (.bucketDrainTick cls) s = .next s) ∧
    (∀ cls e, e ∈ bucketsOf cls → s.gln.spilt.contains (cls, e.1) = true →
      ∃ t, exec (.bucketOverflow e.1) s = .next t ∧ t.bit Reg.CMD_INT_PEND (bucketBlock cls) = true ∧
        (cls ≠ 3 → t.gln.spilt = s.gln.spilt.erase (cls, e.1) ∧ t.fld e.1 0 16 = s.fld e.1 0 16) ∧
        ((cls = 0 ∨ cls = 1 ∨ cls = 4) → (cls, e.2) ∈ t.gln.prio)) ∧
    (∀ cls e, e ∈ bucketsOf cls → s.gln.spilt.contains (cls, e.1) = false → s.bktSize cls ≠ 0 → s.bktSize cls ≤ s.fld e.1 0 16 →
      ∃ t, exec (.bucketOverflow e.1) s = .next t ∧ t.fld e.1 0 16 = 0 ∧ t.bit Reg.CMD_INT_PEND (bucketBlock cls) = true ∧
        ((cls = 0 ∨ cls = 1 ∨ cls = 4) → (cls, e.2) ∈ t.gln.prio)) ∧
    (∀ addr, (∀ cls, ∀ e ∈ bucketsOf cls, e.1 = addr → s.gln.spilt.contains (cls, addr) = false ∧
        (s.bktSize cls = 0 ∨ s.fld addr 0 16 < s.bktSize cls)) →
      exec (.bucketOverflow addr) s = .next s)

/-- The monitor, open and with the firmware running: what each line answers and does - version, PEEK and POKE, histories, eye
scan, stake, temperatures, baud rate and lock; a rate or a block that does not exist is refused with `err param` and changes
nothing, and in FIELD a locked monitor answers every line with its lock prompt (R493-R495). Where the spec leaves a point open
this states the model's choice: log 40, log 43. -/
def Obligations.MonitorAnswersItsLines : Prop :=
  ∀ (s : State), s.memWf = true → s.monSilent = false → s.running = true →
    (s.monLocked = true → ∀ i ∈ [Instr.monVer, .monPeek 0 1, .monPoke 0x10 1, .monHist 0 0, .monEye 0 0, .monStake 0, .monTemp,
      .monBaud 115200, .monLock], ∃ t, exec i s = .next t ∧ t = s.lockPrompt ∧ t.regs = s.regs ∧
        t.out.mon.length = s.out.mon.length + 1) ∧
    (s.monLocked = false →
      (∃ t, exec .monVer s = .next t ∧ t.regs = s.regs ∧ t.out.mon = s.out.mon ++ [spaced [hex 8 (s.rn Reg.SOW_FW_VER),
        hexBytes (bytes16 s.boot.serial), lifecycleName s.boot.lifecycle, if s.boot.grade20 then "-20" else "-17"], "pw> "]) ∧
      (∀ a n, s.peekOk a n = false → ∃ t, exec (.monPeek a n) s = .next t ∧ t.regs = s.regs ∧
        t.out.mon = s.out.mon ++ ["err param", "pw> "]) ∧
      (∀ a, s.peekOk a 1 = true → ∃ t, exec (.monPeek a 1) s = .next t ∧
        t.out.mon = s.out.mon ++ [hex 8 (s.bar0Read 64 a).1, "pw> "]) ∧
      (∀ v, v < 2 ^ 32 → ∃ t, exec (.monPoke Reg.DEV_SCRATCH v) s = .next t ∧ t.copyRd 64 Reg.DEV_SCRATCH = BitVec.ofNat 32 v ∧
        t.regs = s.regs ∧ t.out.mon = s.out.mon ++ ["ok", "pw> "]) ∧
      (∀ a v, (a % 4 ≠ 0 ∨ bar0Size ≤ a ∨ 2 ^ 32 ≤ v) → ∃ t, exec (.monPoke a v) s = .next t ∧ t.regs = s.regs ∧
        t.tile = s.tile ∧ t.out.mon = s.out.mon ++ ["err param", "pw> "]) ∧
      (∀ b i, ∃ t, exec (.monHist b i) s = .next t ∧ t.regs = s.regs ∧
        (blkOfCode b i = none → t.out.mon = s.out.mon ++ ["err param", "pw> "]) ∧
        ∀ x, blkOfCode b i = some x → t.out.mon = s.out.mon ++
          ((natsFrom 0 16).map fun e => (if s.histUnread x e then "*" else "") ++
            spaced ((natsFrom 0 4).map fun k => hex 8 (s.rn (x.hist + 16 * e + 4 * k)))) ++
          [spaced ((natsFrom 0 6).map fun k => hex 8 (s.rn (x.first + 4 * k))), "pw> "]) ∧
      (∀ q i, ∃ t, exec (.monEye q i) s = .next t ∧ t.regs = s.regs ∧
        (q < 16 → i < 9 → s.laneServes q i = true → t.out.mon = s.out.mon ++ ["err busy", "pw> "]) ∧
        (q < 16 → i < 9 → s.laneServes q i = false → t.free = s.free + 1 ∧
          ∃ v, v < 2 ^ 64 ∧ t.out.mon = s.out.mon ++ [hex 16 v, "pw> "])) ∧
      (∀ p, p < 16 → ∃ t, exec (.monStake p) s = .next t ∧ t.regs = s.regs ∧ t.out.mon = s.out.mon ++
        [spaced [hex 8 (s.rn (Reg.PLT_STAKE_STAT p)), hex 16 (s.rn64 (Reg.PLT_STAKE_PN_LO p)),
          hex 4 (s.fld (Reg.PLT_STAKE_STAT p) 13 16)], "pw> "]) ∧
      (∃ t, exec .monTemp s = .next t ∧ t.regs = s.regs ∧ t.out.mon = s.out.mon ++
        spaced [hex 4 (s.fld Reg.CRP_THERM_STAT 16 16), hex 2 (s.fld Reg.CRP_THERM_STAT 10 6)] ::
          ((natsFrom 0 64).map fun i => hex 8 (s.rn (Reg.CRP_TEMP i))) ++ ["pw> "]) ∧
      (∀ r, ∃ t, exec (.monBaud r) s = .next t ∧ t.regs = s.regs ∧
        t.svc.baud = if r ∈ [115200, 230400, 460800, 921600, 1500000, 3000000] then r else s.svc.baud) ∧
      (∃ t, exec .monLock s = .next t ∧ t.regs = s.regs ∧ t.svc.locked = (s.svc.locked || s.boot.lifecycle == 2)))

/-- Opening the monitor: a locked one opens for the password whose hash is fused, or for the right answer to its nonce; a wrong
one counts as a failed attempt and draws a new nonce; a delay that ends lets attempts in again; MON_CTRL.LOCK locks it again
(R495-R498). Where the spec leaves a point open this states the model's choice: log 7, log 40. -/
def Obligations.MonitorIsOpenedAndLocked : Prop :=
  ∀ (s : State) (nonce : Nat), s.memWf = true →
    (s.monSilent = false → s.running = true → s.monLocked = true → s.waitS = 0 →
      (∀ w : List Byte, 8 ≤ w.length → w.length ≤ 64 → (∀ b ∈ w, 0x21 ≤ b.toNat ∧ b.toNat ≤ 0x7e) →
        (cget [] s.boot.keys 17 ≠ [] → sha256 (bytes16 s.boot.serial ++ w) = cget [] s.boot.keys 17 →
          ∃ t, exec (.monUnlockPassword w nonce) s = .next t ∧ t.monLocked = false ∧ t.svc.fails = 0 ∧ t.regs = s.regs) ∧
        (sha256 (bytes16 s.boot.serial ++ w) ≠ cget [] s.boot.keys 17 →
          ∃ t, exec (.monUnlockPassword w nonce) s = .next t ∧ t.monLocked = true ∧ t.svc.fails = min 255 (s.svc.fails + 1) ∧
            t.svc.nonce = nonce % 2 ^ 128 ∧ t.regs = s.regs)) ∧
      (∀ g : List Word, g.length = 4 → cget [] s.boot.keys 16 ≠ [] →
        groupBytes g = (hmacSha256 (cget [] s.boot.keys 16) (bytes16 s.svc.nonce ++ bytes16 s.boot.serial)).take 16 →
          ∃ t, exec (.monUnlockResponse g nonce) s = .next t ∧ t.monLocked = false ∧ t.svc.fails = 0 ∧ t.regs = s.regs)) ∧
    (s.svc.delayEnd ≠ 0 → ∃ t, exec .unlockDelayExpiry s = .next t ∧ t.svc.delayEnd = 0 ∧ s.svc.delayEnd ≤ t.ftNs ∧
      t.svc.fails = s.svc.fails ∧
      ∀ a, a ≠ Reg.FT_ADJ → a ≠ Reg.FT_STAT → a ≠ Reg.CMD_INT_PEND → t.rg a = s.rg a) ∧
    (s.svc.delayEnd = 0 → exec .unlockDelayExpiry s = .next s) ∧
    (∀ v, s.hostDown 0 = false → s.running = true → ∃ t, exec (.monCtrlLock 0 v) s = .next t ∧ t.regs = s.regs ∧
      t.svc.locked = (s.svc.locked || (v.testBit 31 && s.boot.lifecycle == 2)))

/-- Scan and SMBus: a scan instruction that takes the pins drops the links and lanes and stops every released plot, another one
ends a debug access while the monitor is locked; a debug instruction acts as BYPASS then, and otherwise its effect is private
to the manufacturer; and the SMBus codes answer their fields, low byte first, and nothing while the scan chain holds the pins
(R499-R501). Where the spec leaves a point open this states the model's choice: log 36, log 42, log 43. -/
def Obligations.ServicePortsAnswer : Prop :=
  ∀ (s : State), s.memWf = true →
    (∀ k, k < 5 → ∃ t, exec (.scanInstruction k) s = .next t ∧ t.linksDown = true ∧ t.lnk = {} ∧
      ∀ p ∈ s.livePlots, s.sow p = Sow.released → t.plotRuns p = false) ∧
    (∀ k, 5 ≤ k → ∃ t, exec (.scanInstruction k) s = .next t ∧ t.regs = s.regs ∧
      t.svc.debugAccess = (s.svc.debugAccess && !s.monLocked)) ∧
    (∀ op, (s.monLocked = true → ∃ t, exec (.debugInstruction op) s = .next t ∧ t.svc.debugAccess = false ∧ t.regs = s.regs) ∧
      (s.monLocked = false → exec (.debugInstruction op) s = .refused .privateDebug)) ∧
    (∀ v, s.svc.scan = 0 → ∃ t, exec (.smbSensorSelect v) s = .next t ∧ t.svc.sensor = v % 65536 ∧ t.regs = s.regs) ∧
    (∀ i bs, (i, bs) ∈ [(Instr.smbLifecycle, leBytes 1 s.boot.lifecycle), (.smbTmax, leBytes 3 (s.fld Reg.CRP_THERM_STAT 10 22)),
        (.smbPowerResetStatus, leBytes 4 (s.rn Reg.CRP_PWR_STAT) ++
          leBytes 4 ((if s.pwr.trip then 2 ^ 31 else 0) + s.fld Reg.CRP_RST_CAUSE 0 4)), (.smbAlertCause, leBytes 1 s.alertCause)] →
      ∃ t, exec i s = .next t ∧ t.regs = s.regs ∧ t.out.smb = if s.svc.scan = 0 then some bs else none) ∧
    (s.svc.scan = 0 → ∃ t, exec .smbSensorRead s = .next t ∧ t.regs = s.regs ∧ (∃ bs, t.out.smb = some bs ∧ bs.length = 2) ∧
      (s.svc.sensor < 64 → t.out.smb = some (leBytes 2 (s.fld (Reg.CRP_TEMP s.svc.sensor) 0 16)) ∧ t.free = s.free)) ∧
    (∀ watts : List Nat, s.svc.scan = 0 → ∃ t, exec (.smbRailPower watts) s = .next t ∧ t.regs = s.regs ∧
      t.out.smb = some ((natsFrom 0 21).flatMap fun i => leBytes 2 (watts.getD i 0))) ∧
    (∃ t, exec .smbAlertResponse s = .next t ∧ t.regs = s.regs ∧
      (s.svc.alert = true → s.svc.scan = 0 → t.out.smb = some (leBytes 1 (0x58 + s.svc.gpio % 4)) ∧ t.svc.alert = s.pwr.tripped))
end

