-- ==== Sys2Proof/Laws/Cells.lean ====
section
/-! SUPPORT. What the operations on sparse storage do, and that each keeps the canonical form. -/

namespace Sys2Proof.Laws
open Sys2Proof.Machine

-- One proof at a time: proofs checked side by side take a stack each.
set_option Elab.async false

variable {α : Type}

theorem cellsSorted_mono {c : Cells α} {lo lo' : Nat} (h : cellsSorted lo c = true) (hl : lo' ≤ lo) :
    cellsSorted lo' c = true := by
  cases c with
  | nil => rfl
  | cons e c => simp only [cellsSorted, Bool.and_eq_true, decide_eq_true_eq] at h ⊢; exact ⟨by omega, h.2⟩

theorem cget_lt {d : α} {c : Cells α} {lo k : Nat} (h : cellsSorted lo c = true) (hk : k < lo) :
    cget d c k = d := by
  induction c generalizing lo with
  | nil => rfl
  | cons e c ih =>
    simp only [cellsSorted, Bool.and_eq_true, decide_eq_true_eq] at h
    have : e.1 ≠ k := by omega
    simp only [cget, this, if_false]
    exact ih h.2 (by omega)

theorem cput_sorted {c : Cells α} {lo k : Nat} {v : α} (h : cellsSorted lo c = true) (hk : lo ≤ k) :
    cellsSorted lo (cput c k v) = true := by
  induction c generalizing lo with
  | nil => simp [cput, cellsSorted, hk]
  | cons e c ih =>
    simp only [cellsSorted, Bool.and_eq_true, decide_eq_true_eq] at h
    simp only [cput]
    split
    · simp [cellsSorted, hk, h.2]; omega
    · split
      · rename_i h2; subst h2; simp [cellsSorted, hk, h.2]
      · simp [cellsSorted, h.1]; exact ih h.2 (by omega)

theorem cdel_sorted {c : Cells α} {lo k : Nat} (h : cellsSorted lo c = true) :
    cellsSorted lo (cdel c k) = true := by
  induction c generalizing lo with
  | nil => rfl
  | cons e c ih =>
    simp only [cellsSorted, Bool.and_eq_true, decide_eq_true_eq] at h
    simp only [cdel]
    split
    · exact cellsSorted_mono h.2 (by omega)
    · simp [cellsSorted, h.1]; exact ih h.2

theorem cfilter_sorted {c : Cells α} {lo : Nat} (p : Nat × α → Bool) (h : cellsSorted lo c = true) :
    cellsSorted lo (c.filter p) = true := by
  induction c generalizing lo with
  | nil => rfl
  | cons e c ih =>
    simp only [cellsSorted, Bool.and_eq_true, decide_eq_true_eq] at h
    simp only [List.filter]
    split
    · simp [cellsSorted, h.1]; exact ih h.2
    · exact cellsSorted_mono (ih h.2) (by omega)

theorem cput_all {c : Cells α} {k : Nat} {v : α} (p : Nat × α → Bool) (h : c.all p = true) (hp : p (k, v) = true) :
    (cput c k v).all p = true := by
  induction c with
  | nil => simp [cput, hp]
  | cons e c ih =>
    simp only [List.all_cons, Bool.and_eq_true] at h
    simp only [cput]
    split
    · simp [hp, h.1]; simpa using h.2
    · split
      · simp [hp]; simpa using h.2
      · simp only [List.all_cons, Bool.and_eq_true]; exact ⟨h.1, ih h.2⟩

theorem cdel_all {c : Cells α} {k : Nat} (p : Nat × α → Bool) (h : c.all p = true) : (cdel c k).all p = true := by
  induction c with
  | nil => rfl
  | cons e c ih =>
    simp only [List.all_cons, Bool.and_eq_true] at h
    simp only [cdel]
    split
    · exact h.2
    · simp only [List.all_cons, Bool.and_eq_true]; exact ⟨h.1, ih h.2⟩

/-- A write keeps the canonical form. -/
theorem cset_wf [DecidableEq α] {d : α} {c : Cells α} {k : Nat} {v : α} (h : cellsWf d c = true) :
    cellsWf d (cset d c k v) = true := by
  simp only [cellsWf, Bool.and_eq_true] at h ⊢
  unfold cset
  split
  · exact ⟨cdel_sorted h.1, cdel_all _ h.2⟩
  · rename_i hv; exact ⟨cput_sorted h.1 (Nat.zero_le _), cput_all _ h.2 (by simpa using hv)⟩

theorem cdel_wf [DecidableEq α] {d : α} {c : Cells α} {k : Nat} (h : cellsWf d c = true) : cellsWf d (cdel c k) = true := by
  simp only [cellsWf, Bool.and_eq_true] at h ⊢
  exact ⟨cdel_sorted h.1, cdel_all _ h.2⟩

theorem cclear_wf [DecidableEq α] {d : α} {c : Cells α} {lo n : Nat} (h : cellsWf d c = true) :
    cellsWf d (cclear c lo n) = true := by
  simp only [cellsWf, Bool.and_eq_true] at h ⊢
  refine ⟨cfilter_sorted _ h.1, ?_⟩
  simp only [cclear, List.all_eq_true, List.mem_filter] at h ⊢
  exact fun e he => h.2 e he.1

theorem csetList_wf [DecidableEq α] {d : α} {c : Cells α} {k : Nat} {vs : List α} (h : cellsWf d c = true) :
    cellsWf d (csetList d c k vs) = true := by
  induction vs generalizing c k with
  | nil => exact h
  | cons v vs ih => exact ih (cset_wf h)

theorem cget_cput_same {d : α} {c : Cells α} {k : Nat} {v : α} : cget d (cput c k v) k = v := by
  induction c with
  | nil => simp [cput, cget]
  | cons e c ih =>
    simp only [cput]
    split
    · simp [cget]
    · split
      · simp [cget]
      · rename_i h1 h2; have : e.1 ≠ k := fun h => h2 h.symm
        simp [cget, this, ih]

theorem cget_cput_ne {d : α} {c : Cells α} {k j : Nat} {v : α} (hj : j ≠ k) : cget d (cput c k v) j = cget d c j := by
  induction c with
  | nil => simp [cput, cget, Ne.symm hj]
  | cons e c ih =>
    simp only [cput]
    split
    · simp [cget, Ne.symm hj]
    · split
      · rename_i h2; subst h2; simp [cget, Ne.symm hj]
      · simp [cget, ih]

theorem cget_cdel_ne {d : α} {c : Cells α} {k j : Nat} (hj : j ≠ k) : cget d (cdel c k) j = cget d c j := by
  induction c with
  | nil => rfl
  | cons e c ih =>
    simp only [cdel]
    split
    · rename_i h; simp only [cget]; rw [if_neg]; rw [h]; exact Ne.symm hj
    · simp [cget, ih]

theorem cget_cdel_same {d : α} {c : Cells α} {lo k : Nat} (h : cellsSorted lo c = true) : cget d (cdel c k) k = d := by
  induction c generalizing lo with
  | nil => rfl
  | cons e c ih =>
    simp only [cellsSorted, Bool.and_eq_true, decide_eq_true_eq] at h
    simp only [cdel]
    split
    · rename_i hk; subst hk; exact cget_lt h.2 (by omega)
    · rename_i hk; simp [cget, hk]; exact ih h.2

/-- A read after a write to the same key gives the content written. -/
theorem cget_cset_same [DecidableEq α] {d : α} {c : Cells α} {k : Nat} {v : α} (h : cellsWf d c = true) :
    cget d (cset d c k v) k = v := by
  simp only [cellsWf, Bool.and_eq_true] at h
  unfold cset
  split
  · rename_i hv; rw [hv]; exact cget_cdel_same h.1
  · exact cget_cput_same

/-- A write leaves every other key alone. -/
@[simp] theorem cget_cset_ne [DecidableEq α] {d : α} {c : Cells α} {k j : Nat} {v : α} (hj : j ≠ k) :
    cget d (cset d c k v) j = cget d c j := by
  unfold cset; split
  · exact cget_cdel_ne hj
  · exact cget_cput_ne hj

theorem cget_csetList_out [DecidableEq α] {d : α} {c : Cells α} {k j : Nat} {vs : List α}
    (h : j < k ∨ k + vs.length ≤ j) : cget d (csetList d c k vs) j = cget d c j := by
  induction vs generalizing c k with
  | nil => rfl
  | cons v vs ih =>
    simp only [List.length_cons] at h
    rw [csetList, ih (by omega), cget_cset_ne (by omega)]

/-- A write from key k on leaves the part below a bound b that is not above k. -/
theorem cfilter_csetList [DecidableEq α] {d : α} {c : Cells α} {k b : Nat} {vs : List α} (h : b ≤ k) :
    (csetList d c k vs).filter (fun e => decide (e.1 < b)) = c.filter fun e => decide (e.1 < b) := by
  have hput : ∀ (c : Cells α) (j : Nat) (v : α), b ≤ j →
      (cput c j v).filter (fun e => decide (e.1 < b)) = c.filter fun e => decide (e.1 < b) := by
    intro c j v hj
    have hb : decide (j < b) = false := by simp only [decide_eq_false_iff_not]; omega
    induction c with
    | nil => simp only [cput, List.filter, hb]
    | cons e c ih =>
      simp only [cput]
      split
      · simp only [List.filter, hb]
      · split
        · rename_i hk; subst hk; simp only [List.filter, hb]
        · simp only [List.filter, ih]
  have hdel : ∀ (c : Cells α) (j : Nat), b ≤ j →
      (cdel c j).filter (fun e => decide (e.1 < b)) = c.filter fun e => decide (e.1 < b) := by
    intro c j hj
    induction c with
    | nil => rfl
    | cons e c ih =>
      simp only [cdel]
      split
      · rename_i hk; subst hk
        have hb : decide (e.1 < b) = false := by simp only [decide_eq_false_iff_not]; omega
        simp only [List.filter, hb]
      · simp only [List.filter, ih]
  induction vs generalizing c k with
  | nil => rfl
  | cons v vs ih =>
    rw [csetList, ih (by omega), cset]
    split
    · exact hdel _ _ h
    · exact hput _ _ _ h

theorem cget_cclear_in {d : α} {c : Cells α} {lo n k : Nat} (h1 : lo ≤ k) (h2 : k < lo + n) :
    cget d (cclear c lo n) k = d := by
  induction c with
  | nil => rfl
  | cons e c ih =>
    simp only [cclear, List.filter] at ih ⊢
    split
    · rename_i he
      have : e.1 ≠ k := by rintro rfl; simp at he; omega
      simp [cget, this]; exact ih
    · exact ih

theorem cget_cclear_out {d : α} {c : Cells α} {lo n k : Nat} (h : k < lo ∨ lo + n ≤ k) :
    cget d (cclear c lo n) k = cget d c k := by
  induction c with
  | nil => rfl
  | cons e c ih =>
    simp only [cclear, List.filter] at ih ⊢
    split
    · simp [cget]; rw [ih]
    · rename_i he
      have : e.1 ≠ k := by rintro rfl; simp at he; omega
      simp [cget, this]; exact ih

end Sys2Proof.Laws
end

