-- ==== Sys2Proof/Laws/GoodBase.lean ====
section
/-! SUPPORT. What every operation on the state keeps (Safety.lean): the commands that wait, the fuses, the canonical form
of the memories; the fused minimum SVN does not fall; and, for an operation that does not write it, a memory, a key slot or
the monitor's lock stays. One lemma per operation, cited by the next; this file holds the shared steps. -/

namespace Sys2Proof.Machine
open Sys2Proof

-- One proof at a time: proofs checked side by side take a stack each.
set_option Elab.async false

/-- What is kept: the queue and the fuses, a bound of the SVN, and what is frozen (none: it may change). -/
structure Kept where
  pending : List Instr
  fuses : Fuses
  svn : Nat
  shut : Bool
  keys : Option (Cells (List Byte))
  host : Option (Cells Byte)
  hbm : Option (Cells Byte)
  spm : Option (Cells Byte)
  window : Option (Cells Byte)
  plots : Option (Cells Plot)
  cmd : Option CmdSt
  id : Option Nat
  tm : Option (Nat → TimeSt)
  res : Option (Nat → Res)
  img : Option (Nat → ImgSt)

/-- The state holds what κ keeps: of the scratchpad all but bank 63, which takes the event records of deep fallow (R451). -/
structure Good (κ : Kept) (s : State) : Prop where
  pending : s.pending = κ.pending
  fuses : s.fuses = κ.fuses
  mem : s.memWf = true
  svn : κ.svn ≤ s.boot.fusedMin
  shut : κ.shut = true → s.boot.lifecycle = 2 ∧ s.svc.locked = true
  keys : ∀ c, κ.keys = some c → ∀ k, cget [] s.boot.keys k = cget [] c k ∨ cget [] s.boot.keys k = []
  host : ∀ m, κ.host = some m → s.host.mem = m
  hbm : ∀ m, κ.hbm = some m → s.hbm.mem = m
  spm : ∀ m, κ.spm = some m → ∀ a, a < 63 * 2 ^ 18 → cget 0 s.tile.spm a = cget 0 m a
  window : ∀ m, κ.window = some m → s.boot.window = m ∨ s.boot.window = []
  plots : ∀ m, κ.plots = some m → s.plots = m
  cmd : ∀ m, κ.cmd = some m → s.cmd = m
  id : ∀ i, κ.id = some i → ∃ e ∈ s.cmd.store, e.id = i
  tm : ∀ g, κ.tm = some g → ∀ p, (s.plot p).tm = g p
  res : ∀ g, κ.res = some g → ∀ p, (s.plot p).res = g p
  img : ∀ g, κ.img = some g → ∀ p, (s.plot p).img = g p

/-- An update of anything else. -/
theorem good_upd {κ : Kept} {t : State} {histOpen : Cells Nat} {ecc : Cells Nat} {inject : List Inject} {fmap : Cells Nat} {bp : BpMem} {fur : FurMem} {sw
    : SwMem} {xch : XchMem} {hvt : HvtDev} {gln : GlnSt} {pwr : PwrSt} {out : OutSt} {free : Nat}
    (h : Good κ t) :
    Good κ ⟨t.pending, t.regs, t.copies, histOpen, ecc, inject, fmap, t.plots, bp, fur, sw, t.hbm, xch, t.lnk, t.ft, t.io,
      t.tile, t.boot, t.cmd, t.host, hvt, gln, pwr, t.svc, out, free⟩ :=
  ⟨h.1, h.2, h.3, h.4, h.5, h.6, h.7, h.8, h.9, h.10, h.11, h.12, h.13, h.14, h.15, h.16⟩

/-- An update of the HBM controllers beside the memory. -/
theorem good_updHbm {κ : Kept} {t : State} {histOpen : Cells Nat} {ecc : Cells Nat} {inject : List Inject} {fmap : Cells Nat} {bp : BpMem} {fur : FurMem} {sw
    : SwMem} {hbm_wq : List WqEntry} {hbm_reads : List HbmRead} {hbm_suspects : List (Nat × Nat)} {hbm_rows : List
    (Nat × Nat × Nat)} {hbm_selfRefresh : Bool} {hbm_refreshes : Cells Nat} {hbm_journal : List (Nat × Nat × List Byte
    × Nat)} {hbm_ready : List (Nat × Nat)} {hbm_failed : Bool} {xch : XchMem} {hvt : HvtDev} {gln : GlnSt} {pwr : PwrSt} {out : OutSt} {free : Nat}
    (h : Good κ t) :
    Good κ ⟨t.pending, t.regs, t.copies, histOpen, ecc, inject, fmap, t.plots, bp, fur, sw, ⟨t.hbm.mem, hbm_wq, hbm_reads,
      hbm_suspects, hbm_rows, hbm_selfRefresh, hbm_refreshes, hbm_journal, hbm_ready, hbm_failed⟩, xch, t.lnk, t.ft, t.io, t.tile, t.boot,
      t.cmd, t.host, hvt, gln, pwr, t.svc, out, free⟩ :=
  ⟨h.1, h.2, h.3, h.4, h.5, h.6, h.7, h.8, h.9, h.10, h.11, h.12, h.13, h.14, h.15, h.16⟩

/-- An update of the tiles beside the scratchpad. -/
theorem good_updTile {κ : Kept} {t : State} {histOpen : Cells Nat} {ecc : Cells Nat} {inject : List Inject} {fmap : Cells Nat} {bp : BpMem} {fur : FurMem} {sw
    : SwMem} {xch : XchMem} {tile_handover : List (Nat × Bool)} {tile_zero : List ZeroFill} {tile_destroying : List
    (Nat × Nat)} {tile_planeUe : List (Nat × Nat)} {tile_planesAt : Cells Nat} {tile_diagnosing : Bool} {hvt : HvtDev} {gln : GlnSt} {pwr : PwrSt} {out : OutSt} {free :
    Nat}
    (h : Good κ t) :
    Good κ ⟨t.pending, t.regs, t.copies, histOpen, ecc, inject, fmap, t.plots, bp, fur, sw, t.hbm, xch, t.lnk, t.ft, t.io,
      ⟨t.tile.spm, tile_handover, tile_zero, tile_destroying, tile_planeUe, tile_planesAt, tile_diagnosing⟩, t.boot, t.cmd, t.host, hvt, gln, pwr,
      t.svc, out, free⟩ :=
  ⟨h.1, h.2, h.3, h.4, h.5, h.6, h.7, h.8, h.9, h.10, h.11, h.12, h.13, h.14, h.15, h.16⟩

/-- An update of the boot state beside the window, the keys and the fuses. -/
theorem good_updBoot {κ : Kept} {t : State} {histOpen : Cells Nat} {ecc : Cells Nat} {inject : List Inject} {fmap : Cells Nat} {bp : BpMem} {fur : FurMem} {sw
    : SwMem} {xch : XchMem} {boot_started : Option (Nat × Nat)} {boot_vbatLost : Bool} {boot_staged : Option (Nat ×
    Nat)} {boot_cfgReady : List Nat} {hvt : HvtDev} {gln : GlnSt} {pwr : PwrSt} {out : OutSt} {free : Nat}
    (h : Good κ t) :
    Good κ ⟨t.pending, t.regs, t.copies, histOpen, ecc, inject, fmap, t.plots, bp, fur, sw, t.hbm, xch, t.lnk, t.ft, t.io,
      t.tile, ⟨t.boot.window, boot_started, t.boot.keys, boot_vbatLost, t.boot.lifecycle, t.boot.grade20,
      t.boot.dieRev, t.boot.fusedOut, t.boot.fusedMin, t.boot.serial, boot_staged, boot_cfgReady⟩, t.cmd, t.host, hvt,
      gln, pwr, t.svc, out, free⟩ :=
  ⟨h.1, h.2, h.3, h.4, h.5, h.6, h.7, h.8, h.9, h.10, h.11, h.12, h.13, h.14, h.15, h.16⟩

/-- An update of the hosts beside their memory. -/
theorem good_updHost {κ : Kept} {t : State} {histOpen : Cells Nat} {ecc : Cells Nat} {inject : List Inject} {fmap : Cells Nat} {bp : BpMem} {fur : FurMem} {sw
    : SwMem} {xch : XchMem} {host_atc : List (Nat × Nat × Nat)} {host_withdrawn : List (Nat × Nat)} {host_refused : List (Nat × Nat)} {host_pageReqs : List (Nat
    × Nat)} {host_pageWait : List (Nat × Nat)} {host_priAlloc : Cells Nat} {host_ats : Cells Bool} {host_numVfs :
    Cells Nat} {host_unmasked : Cells Bool} {host_funcMask : Cells Bool} {host_msixPend : Cells Bool} {host_intSent : Cells Bool} {host_strap :
    Nat} {hvt : HvtDev} {gln : GlnSt} {pwr : PwrSt} {out : OutSt} {free : Nat}
    (h : Good κ t) :
    Good κ ⟨t.pending, t.regs, t.copies, histOpen, ecc, inject, fmap, t.plots, bp, fur, sw, t.hbm, xch, t.lnk, t.ft, t.io,
      t.tile, t.boot, t.cmd, ⟨t.host.mem, host_atc, host_withdrawn, host_refused, host_pageReqs, host_pageWait, host_priAlloc,
      host_ats, host_numVfs, host_unmasked, host_funcMask, host_msixPend, host_intSent, host_strap⟩, hvt, gln, pwr, t.svc, out, free⟩ :=
  ⟨h.1, h.2, h.3, h.4, h.5, h.6, h.7, h.8, h.9, h.10, h.11, h.12, h.13, h.14, h.15, h.16⟩

/-- An update of the service state beside the lock. -/
theorem good_updSvc {κ : Kept} {t : State} {histOpen : Cells Nat} {ecc : Cells Nat} {inject : List Inject} {fmap : Cells Nat} {bp : BpMem} {fur : FurMem} {sw
    : SwMem} {xch : XchMem} {hvt : HvtDev} {gln : GlnSt} {pwr : PwrSt} {svc_nonce : Nat} {svc_fails : Nat}
    {svc_delayEnd : Nat} {svc_baud : Nat} {svc_debugAccess : Bool} {svc_scan : Nat} {svc_sensor : Nat} {svc_alert :
    Bool} {svc_gpio : Nat} {out : OutSt} {free : Nat}
    (h : Good κ t) :
    Good κ ⟨t.pending, t.regs, t.copies, histOpen, ecc, inject, fmap, t.plots, bp, fur, sw, t.hbm, xch, t.lnk, t.ft, t.io,
      t.tile, t.boot, t.cmd, t.host, hvt, gln, pwr, ⟨t.svc.locked, svc_nonce, svc_fails, svc_delayEnd, svc_baud,
      svc_debugAccess, svc_scan, svc_sensor, svc_alert, svc_gpio⟩, out, free⟩ :=
  ⟨h.1, h.2, h.3, h.4, h.5, h.6, h.7, h.8, h.9, h.10, h.11, h.12, h.13, h.14, h.15, h.16⟩

/-- An update of the command unit beside the matching store. -/
theorem good_updCmd {κ : Kept} {t : State} {histOpen : Cells Nat} {ecc : Cells Nat} {inject : List Inject} {fmap : Cells Nat} {bp : BpMem} {fur : FurMem} {sw
    : SwMem} {xch : XchMem} {cmd_nextId : Nat} {cmd_tags : Cells Nat} {cmd_sqTail : Cells Nat} {cmd_cqHead : Cells
    Nat} {cmd_coalesce : Cells Nat} {cmd_coalFt : Cells Nat} {cmd_credit : Cells Nat} {cmd_fetchStop : Bool} {cmd_tick : Nat} {cmd_waiting : List (List Word)} {cmd_doneSeq : Nat} {hvt : HvtDev} {gln : GlnSt} {pwr : PwrSt} {out : OutSt} {free : Nat}
    (h : Good κ t) (f : κ.cmd = none) :
    Good κ ⟨t.pending, t.regs, t.copies, histOpen, ecc, inject, fmap, t.plots, bp, fur, sw, t.hbm, xch, t.lnk, t.ft, t.io,
      t.tile, t.boot, ⟨t.cmd.store, cmd_nextId, cmd_tags, cmd_sqTail, cmd_cqHead, cmd_coalesce, cmd_coalFt,
      cmd_credit, cmd_fetchStop, cmd_tick, cmd_waiting, cmd_doneSeq⟩, t.host, hvt, gln, pwr, t.svc, out, free⟩ :=
  ⟨h.1, h.2, h.3, h.4, h.5, h.6, h.7, h.8, h.9, h.10, h.11, fun _ e => by rw [f] at e; contradiction, h.13, h.14, h.15, h.16⟩

/-- An update of Field Time beside the sync state of the ports. -/
theorem good_updFt {κ : Kept} {t : State} {histOpen : Cells Nat} {ecc : Cells Nat} {inject : List Inject} {fmap : Cells Nat} {bp : BpMem} {fur : FurMem} {sw
    : SwMem} {xch : XchMem} {ft_ft : Nat} {ft_wall : Nat} {ft_rem : Nat} {ft_f : Int} {ft_first : Bool} {ft_delays :
    List Int} {ft_sinceParent : Nat} {ft_lockCnt : Nat} {ft_unlockCnt : Nat} {ft_refused : Nat} {ft_lastPps : Int}
    {ft_ppsOut : Bool} {ft_ppsDone : Nat} {ft_ppsRose : Int} {ft_phaseEnd : Option Int} {ft_chosen : Option (Nat × Nat)}
    {ft_disciplined : Bool} {ft_internal : Bool} {hvt : HvtDev} {gln : GlnSt} {pwr : PwrSt} {out : OutSt}
    {free : Nat}
    (h : Good κ t) :
    Good κ ⟨t.pending, t.regs, t.copies, histOpen, ecc, inject, fmap, t.plots, bp, fur, sw, t.hbm, xch, t.lnk, ⟨ft_ft,
      ft_wall, ft_rem, ft_f, ft_first, ft_delays, ft_sinceParent, ft_lockCnt, ft_unlockCnt, ft_refused, t.ft.ports,
      ft_lastPps, ft_ppsOut, ft_ppsDone, ft_ppsRose, ft_phaseEnd, ft_chosen, ft_disciplined, ft_internal⟩, t.io, t.tile, t.boot, t.cmd, t.host, hvt, gln, pwr, t.svc, out,
      free⟩ :=
  ⟨h.1, h.2, h.3, h.4, h.5, h.6, h.7, h.8, h.9, h.10, h.11, h.12, h.13, h.14, h.15, h.16⟩

/-- An update of Field Time and of the service state. -/
theorem good_updFtSvc {κ : Kept} {t : State} {histOpen : Cells Nat} {ecc : Cells Nat} {inject : List Inject} {fmap : Cells Nat} {bp : BpMem} {fur : FurMem} {sw
    : SwMem} {xch : XchMem} {ft_ft : Nat} {ft_wall : Nat} {ft_rem : Nat} {ft_f : Int} {ft_first : Bool} {ft_delays :
    List Int} {ft_sinceParent : Nat} {ft_lockCnt : Nat} {ft_unlockCnt : Nat} {ft_refused : Nat} {ft_lastPps : Int}
    {ft_ppsOut : Bool} {ft_ppsDone : Nat} {ft_ppsRose : Int} {ft_phaseEnd : Option Int} {ft_chosen : Option (Nat × Nat)}
    {ft_disciplined : Bool} {ft_internal : Bool} {hvt : HvtDev} {gln : GlnSt} {pwr : PwrSt} {svc_nonce :
    Nat} {svc_fails : Nat} {svc_delayEnd : Nat} {svc_baud : Nat} {svc_debugAccess : Bool} {svc_scan : Nat} {svc_sensor
    : Nat} {svc_alert : Bool} {svc_gpio : Nat} {out : OutSt} {free : Nat}
    (h : Good κ t) :
    Good κ ⟨t.pending, t.regs, t.copies, histOpen, ecc, inject, fmap, t.plots, bp, fur, sw, t.hbm, xch, t.lnk, ⟨ft_ft,
      ft_wall, ft_rem, ft_f, ft_first, ft_delays, ft_sinceParent, ft_lockCnt, ft_unlockCnt, ft_refused, t.ft.ports,
      ft_lastPps, ft_ppsOut, ft_ppsDone, ft_ppsRose, ft_phaseEnd, ft_chosen, ft_disciplined, ft_internal⟩, t.io, t.tile, t.boot, t.cmd, t.host, hvt, gln, pwr,
      ⟨t.svc.locked, svc_nonce, svc_fails, svc_delayEnd, svc_baud, svc_debugAccess, svc_scan, svc_sensor, svc_alert,
      svc_gpio⟩, out, free⟩ :=
  ⟨h.1, h.2, h.3, h.4, h.5, h.6, h.7, h.8, h.9, h.10, h.11, h.12, h.13, h.14, h.15, h.16⟩

/-- An update of the boot state and of the command unit. -/
theorem good_updBootCmd {κ : Kept} {t : State} {histOpen : Cells Nat} {ecc : Cells Nat} {inject : List Inject} {fmap : Cells Nat} {bp : BpMem} {fur : FurMem} {sw
    : SwMem} {xch : XchMem} {boot_started : Option (Nat × Nat)} {boot_vbatLost : Bool} {boot_staged : Option (Nat ×
    Nat)} {boot_cfgReady : List Nat} {cmd_nextId : Nat} {cmd_tags : Cells Nat} {cmd_sqTail : Cells Nat} {cmd_cqHead :
    Cells Nat} {cmd_coalesce : Cells Nat} {cmd_coalFt : Cells Nat} {cmd_credit : Cells Nat} {cmd_fetchStop : Bool}
    {cmd_tick : Nat} {cmd_waiting : List (List Word)} {cmd_doneSeq : Nat} {hvt : HvtDev} {gln : GlnSt} {pwr : PwrSt} {out : OutSt} {free : Nat}
    (h : Good κ t) (f : κ.cmd = none) :
    Good κ ⟨t.pending, t.regs, t.copies, histOpen, ecc, inject, fmap, t.plots, bp, fur, sw, t.hbm, xch, t.lnk, t.ft, t.io,
      t.tile, ⟨t.boot.window, boot_started, t.boot.keys, boot_vbatLost, t.boot.lifecycle, t.boot.grade20,
      t.boot.dieRev, t.boot.fusedOut, t.boot.fusedMin, t.boot.serial, boot_staged, boot_cfgReady⟩, ⟨t.cmd.store,
      cmd_nextId, cmd_tags, cmd_sqTail, cmd_cqHead, cmd_coalesce, cmd_coalFt, cmd_credit, cmd_fetchStop, cmd_tick, cmd_waiting, cmd_doneSeq⟩,
      t.host, hvt, gln, pwr, t.svc, out, free⟩ :=
  ⟨h.1, h.2, h.3, h.4, h.5, h.6, h.7, h.8, h.9, h.10, h.11, fun _ e => by rw [f] at e; contradiction, h.13, h.14, h.15, h.16⟩

theorem good_ite {κ : Kept} {c : Prop} [Decidable c] {s t : State} (h1 : Good κ s) (h2 : Good κ t) :
    Good κ (if c then s else t) := by
  split <;> assumption

theorem good_foldl {κ : Kept} {α : Type} {g : State → α → State} {l : List α} {s : State}
    (h : ∀ s a, Good κ s → Good κ (g s a)) (h0 : Good κ s) : Good κ (l.foldl g s) := by
  induction l generalizing s with
  | nil => exact h0
  | cons a l ih => exact ih (h s a h0)

theorem good_foldl1 {κ : Kept} {α β : Type} {g : State × β → α → State × β} {l : List α} {s : State × β}
    (h : ∀ s a, Good κ s.1 → Good κ (g s a).1) (h0 : Good κ s.1) : Good κ (l.foldl g s).1 := by
  induction l generalizing s with
  | nil => exact h0
  | cons a l ih => exact ih (h s a h0)

theorem good_foldl2 {κ : Kept} {α β : Type} {g : β × State → α → β × State} {l : List α} {s : β × State}
    (h : ∀ s a, Good κ s.2 → Good κ (g s a).2) (h0 : Good κ s.2) : Good κ (l.foldl g s).2 := by
  induction l generalizing s with
  | nil => exact h0
  | cons a l ih => exact ih (h s a h0)

theorem good_ite2 {κ : Kept} {α : Type} {c : Prop} [Decidable c] {s t : α × State} (h1 : Good κ s.2)
    (h2 : Good κ t.2) : Good κ (if c then s else t).2 := by
  split <;> assumption

theorem good_ite1 {κ : Kept} {α : Type} {c : Prop} [Decidable c] {s t : State × α} (h1 : Good κ s.1)
    (h2 : Good κ t.1) : Good κ (if c then s else t).1 := by
  split <;> assumption

theorem good_pair2 {κ : Kept} {α : Type} {p : α × State} {a : α} {t : State} (h : p = (a, t))
    (h2 : Good κ p.2) : Good κ t := by
  subst h; exact h2

theorem good_pair1 {κ : Kept} {α : Type} {p : State × α} {a : α} {t : State} (h : p = (t, a))
    (h2 : Good κ p.1) : Good κ t := by
  subst h; exact h2

theorem good_pair22 {κ : Kept} {α β : Type} {p : α × β × State} {a : α} {b : β} {t : State}
    (h : p = (a, b, t)) (h2 : Good κ p.2.2) : Good κ t := by
  subst h; exact h2

theorem good_pair2222 {κ : Kept} {α β γ δ : Type} {p : α × β × γ × δ × State} {a : α} {b : β} {c : γ} {d : δ}
    {t : State} (h : p = (a, b, c, d, t)) (h2 : Good κ p.2.2.2.2) : Good κ t := by
  subst h; exact h2

theorem good_pair222 {κ : Kept} {α β γ : Type} {p : α × β × γ × State} {a : α} {b : β} {c : γ}
    {t : State} (h : p = (a, b, c, t)) (h2 : Good κ p.2.2.2) : Good κ t := by
  subst h; exact h2

/-- The canonical forms of a good state. -/
theorem Good.wf {κ : Kept} {s : State} (h : Good κ s) :
    cellsWf 0 s.regs = true ∧ cellsWf 0 s.hbm.mem = true ∧ cellsWf 0 s.tile.spm = true ∧ cellsWf 0 s.host.mem = true ∧
      cellsWf 0 s.boot.window = true ∧ cellsWf {} s.plots = true := by
  have := h.mem; simp only [State.memWf, Bool.and_eq_true] at this
  exact ⟨this.1.1.1.1.1.1, this.1.1.1.1.1.2, this.1.1.1.1.2, this.1.1.1.2, this.1.1.2, this.1.2⟩

theorem Good.recs {κ : Kept} {s : State} (h : Good κ s) : s.recWf = true := by
  have := h.mem; simp only [State.memWf, Bool.and_eq_true] at this
  exact this.2

theorem memWf_of {s : State} (h1 : cellsWf 0 s.regs = true) (h2 : cellsWf 0 s.hbm.mem = true)
    (h3 : cellsWf 0 s.tile.spm = true) (h4 : cellsWf 0 s.host.mem = true) (h5 : cellsWf 0 s.boot.window = true)
    (h6 : cellsWf {} s.plots = true) (h7 : s.recWf = true) : s.memWf = true := by
  simp only [State.memWf, h1, h2, h3, h4, h5, h6, h7, Bool.and_self]

theorem Good.setRegs {κ : Kept} {s : State} {m : Cells (BitVec 32)} (h : Good κ s) (hm : cellsWf 0 m = true) :
    Good κ { s with regs := m } :=
  ⟨h.1, h.2, memWf_of hm h.wf.2.1 h.wf.2.2.1 h.wf.2.2.2.1 h.wf.2.2.2.2.1 h.wf.2.2.2.2.2 h.recs, h.4, h.5, h.6, h.7, h.8, h.9, h.10, h.11, h.12, h.13, h.14, h.15, h.16⟩

theorem Good.setHost {κ : Kept} {s : State} {m : Cells Byte} (h : Good κ s) (hm : cellsWf 0 m = true)
    (f : κ.host = none) : Good κ { s with host := { s.host with mem := m } } :=
  ⟨h.1, h.2, memWf_of h.wf.1 h.wf.2.1 h.wf.2.2.1 hm h.wf.2.2.2.2.1 h.wf.2.2.2.2.2 h.recs, h.4, h.5, h.6,
    fun _ e => by rw [f] at e; contradiction, h.8, h.9, h.10, h.11, h.12, h.13, h.14, h.15, h.16⟩

theorem Good.setHbm {κ : Kept} {s : State} {x : HbmMem} (h : Good κ s) (hm : cellsWf 0 x.mem = true)
    (f : κ.hbm = none) : Good κ { s with hbm := x } :=
  ⟨h.1, h.2, memWf_of h.wf.1 hm h.wf.2.2.1 h.wf.2.2.2.1 h.wf.2.2.2.2.1 h.wf.2.2.2.2.2 h.recs, h.4, h.5, h.6, h.7,
    fun _ e => by rw [f] at e; contradiction, h.9, h.10, h.11, h.12, h.13, h.14, h.15, h.16⟩

theorem Good.setSpm {κ : Kept} {s : State} {m : Cells Byte} (h : Good κ s) (hm : cellsWf 0 m = true)
    (f : κ.spm = none) : Good κ { s with tile := { s.tile with spm := m } } :=
  ⟨h.1, h.2, memWf_of h.wf.1 h.wf.2.1 hm h.wf.2.2.2.1 h.wf.2.2.2.2.1 h.wf.2.2.2.2.2 h.recs, h.4, h.5, h.6, h.7, h.8,
    fun _ e => by rw [f] at e; contradiction, h.10, h.11, h.12, h.13, h.14, h.15, h.16⟩

/-- Bytes written from bank 63 of the scratchpad on. -/
theorem Good.setFallow {κ : Kept} {s : State} {i : Nat} {bs : List Byte} (h : Good κ s) (hi : 63 * 2 ^ 18 ≤ i) :
    Good κ { s with tile := { s.tile with spm := csetList 0 s.tile.spm i bs } } :=
  ⟨h.1, h.2, memWf_of h.wf.1 h.wf.2.1 (Laws.csetList_wf h.wf.2.2.1) h.wf.2.2.2.1 h.wf.2.2.2.2.1 h.wf.2.2.2.2.2 h.recs, h.4, h.5,
    h.6, h.7, h.8, fun m e a ha => (Laws.cget_csetList_out (Or.inl (by omega))).trans (h.9 m e a ha), h.10, h.11, h.12, h.13,
    h.14, h.15, h.16⟩

theorem Good.setWindow {κ : Kept} {s : State} {m : Cells Byte} (h : Good κ s) (hm : cellsWf 0 m = true)
    (f : κ.window = none) : Good κ { s with boot := { s.boot with window := m } } :=
  ⟨h.1, h.2, memWf_of h.wf.1 h.wf.2.1 h.wf.2.2.1 h.wf.2.2.2.1 hm h.wf.2.2.2.2.2 h.recs, h.4, h.5, h.6, h.7, h.8, h.9,
    fun _ e => by rw [f] at e; contradiction, h.11, h.12, h.13, h.14, h.15, h.16⟩

theorem recWf_of {s : State} (h1 : cellsWf 0 s.copies = true) (h2 : cellsWf {} s.io.fio = true)
    (h3 : cellsWf {} s.io.sig = true) (h4 : cellsWf {} s.lnk.lanes = true) (h5 : cellsWf {} s.lnk.ports = true)
    (h6 : cellsWf {} s.ft.ports = true) : s.recWf = true := by
  simp only [State.recWf, h1, h2, h3, h4, h5, h6, Bool.and_self]

/-- The canonical forms of the tables of records. -/
theorem recWf_iff {s : State} (h : s.recWf = true) :
    cellsWf 0 s.copies = true ∧ cellsWf {} s.io.fio = true ∧ cellsWf {} s.io.sig = true ∧ cellsWf {} s.lnk.lanes = true ∧
      cellsWf {} s.lnk.ports = true ∧ cellsWf {} s.ft.ports = true := by
  simp only [State.recWf, Bool.and_eq_true] at h
  exact ⟨h.1.1.1.1.1, h.1.1.1.1.2, h.1.1.1.2, h.1.1.2, h.1.2, h.2⟩

/-- Other tables of records. -/
theorem Good.setRecs {κ : Kept} {s : State} {c : Cells (BitVec 32)} {i : IoSt} {l : LnkSt} {f : FtSt} (h : Good κ s)
    (hr : State.recWf { s with copies := c, io := i, lnk := l, ft := f } = true) :
    Good κ { s with copies := c, io := i, lnk := l, ft := f } :=
  ⟨h.1, h.2, memWf_of h.wf.1 h.wf.2.1 h.wf.2.2.1 h.wf.2.2.2.1 h.wf.2.2.2.2.1 h.wf.2.2.2.2.2 hr, h.4, h.5, h.6, h.7, h.8, h.9, h.10, h.11, h.12, h.13, h.14, h.15, h.16⟩

/-- Another record of a plot: what it changes may change. -/
theorem Good.setPlot {κ : Kept} {s : State} {p : Nat} {x : Plot} (h : Good κ s) (f : κ.plots = none)
    (ft : κ.tm = none ∨ x.tm = (s.plot p).tm) (fr : κ.res = none ∨ x.res = (s.plot p).res)
    (fi : κ.img = none ∨ x.img = (s.plot p).img) : Good κ { s with plots := cset {} s.plots p x } := by
  have hp : ∀ (q : Nat), cget {} (cset {} s.plots p x) q = if q = p then x else s.plot q := by
    intro q
    split
    · rename_i e; subst e; exact Laws.cget_cset_same h.wf.2.2.2.2.2
    · rename_i e; exact Laws.cget_cset_ne e
  refine ⟨h.1, h.2, memWf_of h.wf.1 h.wf.2.1 h.wf.2.2.1 h.wf.2.2.2.1 h.wf.2.2.2.2.1 (Laws.cset_wf h.wf.2.2.2.2.2) h.recs, h.4, h.5,
    h.6, h.7, h.8, h.9, h.10, fun _ e => by rw [f] at e; contradiction, h.12, h.13, ?_, ?_, ?_⟩
  · intro g e q
    rw [← h.14 g e q]; show (cget {} (cset {} s.plots p x) q).tm = _; rw [hp]
    rcases ft with ft | ft
    · rw [ft] at e; contradiction
    · split
      · rename_i hq; rw [hq]; exact ft
      · rfl
  · intro g e q
    rw [← h.15 g e q]; show (cget {} (cset {} s.plots p x) q).res = _; rw [hp]
    rcases fr with ft | ft
    · rw [ft] at e; contradiction
    · split
      · rename_i hq; rw [hq]; exact ft
      · rfl
  · intro g e q
    rw [← h.16 g e q]; show (cget {} (cset {} s.plots p x) q).img = _; rw [hp]
    rcases fi with ft | ft
    · rw [ft] at e; contradiction
    · split
      · rename_i hq; rw [hq]; exact ft
      · rfl

/-- A change of the matching store that keeps every key. -/
theorem Good.keepIds {κ : Kept} {s : State} {m : List Cmd} (h : Good κ s) (f : κ.cmd = none)
    (hm : ∀ e ∈ s.cmd.store, ∃ e' ∈ m, e'.id = e.id) : Good κ { s with cmd := { s.cmd with store := m } } :=
  ⟨h.1, h.2, h.3, h.4, h.5, h.6, h.7, h.8, h.9, h.10, h.11, fun _ e => by rw [f] at e; contradiction, fun i e => by
    obtain ⟨c, hc, hi⟩ := h.13 i e
    obtain ⟨c', hc', hi'⟩ := hm c hc
    exact ⟨c', hc', hi'.trans hi⟩, h.14, h.15, h.16⟩

/-- A change of stored commands that leaves their keys. -/
theorem Good.mapCmds {κ : Kept} {s : State} {g : Cmd → Cmd} (h : Good κ s) (f : κ.cmd = none)
    (hg : ∀ c, (g c).id = c.id) : Good κ { s with cmd := { s.cmd with store := s.cmd.store.map g } } :=
  h.keepIds f fun e he => ⟨g e, List.mem_map_of_mem he, hg e⟩

/-- Any change of the matching store. -/
theorem Good.setStore {κ : Kept} {s : State} {x : CmdSt} (h : Good κ s) (f : κ.cmd = none) (fi : κ.id = none) :
    Good κ { s with cmd := x } :=
  ⟨h.1, h.2, h.3, h.4, h.5, h.6, h.7, h.8, h.9, h.10, h.11, fun _ e => by rw [f] at e; contradiction,
    fun _ e => by rw [fi] at e; contradiction, h.14, h.15, h.16⟩

/-- Everything a state holds is kept. -/
def Kept.all (s : State) : Kept :=
  { pending := s.pending, fuses := s.fuses, svn := s.boot.fusedMin, shut := s.boot.lifecycle == 2 && s.svc.locked,
    keys := some s.boot.keys, host := some s.host.mem, hbm := some s.hbm.mem, spm := some s.tile.spm,
    window := some s.boot.window, plots := some s.plots, cmd := some s.cmd, id := none, tm := some fun p => (s.plot p).tm,
    res := some fun p => (s.plot p).res, img := some fun p => (s.plot p).img }

theorem Good.all (s : State) (h : s.memWf = true) : Good (Kept.all s) s := by
  refine ⟨rfl, rfl, h, le_rfl, ?_, ?_, ?_, ?_, ?_, ?_, ?_, ?_, ?_, ?_, ?_, ?_⟩
  · intro e; simp only [Kept.all, Bool.and_eq_true, beq_iff_eq] at e; exact e
  · intro c e k; injection e with e; subst e; exact Or.inl rfl
  · intro m e; injection e
  · intro m e; injection e
  · intro m e a _; injection e with e; subst e; rfl
  · intro m e; injection e with e; exact Or.inl e
  · intro m e; injection e
  · intro m e; injection e
  · intro i e; contradiction
  · intro g e p; injection e with e; subst e; rfl
  · intro g e p; injection e with e; subst e; rfl
  · intro g e p; injection e with e; subst e; rfl

/-- Part of what a good state keeps. -/
structure Kept.Sub (κ' κ : Kept) : Prop where
  pending : κ'.pending = κ.pending
  fuses : κ'.fuses = κ.fuses
  svn : κ'.svn ≤ κ.svn
  shut : κ'.shut = true → κ.shut = true
  keys : κ'.keys = none ∨ κ'.keys = κ.keys
  host : κ'.host = none ∨ κ'.host = κ.host
  hbm : κ'.hbm = none ∨ κ'.hbm = κ.hbm
  spm : κ'.spm = none ∨ κ'.spm = κ.spm
  window : κ'.window = none ∨ κ'.window = κ.window
  plots : κ'.plots = none ∨ κ'.plots = κ.plots
  cmd : κ'.cmd = none ∨ κ'.cmd = κ.cmd
  id : κ'.id = none ∨ κ'.id = κ.id
  tm : κ'.tm = none ∨ κ'.tm = κ.tm
  res : κ'.res = none ∨ κ'.res = κ.res
  img : κ'.img = none ∨ κ'.img = κ.img

theorem Good.sub {κ κ' : Kept} {s : State} (h : Good κ s) (hs : Kept.Sub κ' κ) : Good κ' s := by
  have key : ∀ {α : Type} {P : α → Prop} {a b : Option α}, (a = none ∨ a = b) → (∀ m, b = some m → P m) →
      ∀ m, a = some m → P m := by
    intro α P a b hab hb m hm
    rcases hab with h | h
    · rw [h] at hm; contradiction
    · exact hb m (h ▸ hm)
  exact ⟨h.1.trans hs.pending.symm, h.2.trans hs.fuses.symm, h.3, hs.svn.trans h.4, fun e => h.5 (hs.shut e), key hs.keys h.6,
    key hs.host h.7, key hs.hbm h.8, key hs.spm h.9, key hs.window h.10, key hs.plots h.11, key hs.cmd h.12, key hs.id h.13,
    key hs.tm h.14, key hs.res h.15, key hs.img h.16⟩

/-- A command of the matching store stays in it. -/
theorem Good.withId {κ : Kept} {s : State} (h : Good κ s) (i : Nat) (hi : ∃ e ∈ s.cmd.store, e.id = i) :
    Good { κ with id := some i } s :=
  ⟨h.1, h.2, h.3, h.4, h.5, h.6, h.7, h.8, h.9, h.10, h.11, h.12, fun j e => by injection e with e; subst e; exact hi, h.14,
    h.15, h.16⟩

end Sys2Proof.Machine
end

