-- ==== Sys2Proof/Laws/GoodOps.lean ====
section
/-! SUPPORT. What the operations of Machine/Ops.lean keep: one lemma each (Laws/GoodBase.lean). -/

namespace Sys2Proof.Machine
open Sys2Proof

-- One proof at a time: proofs checked side by side take a stack each.
set_option Elab.async false

theorem State.rgSet_good {κ : Kept} (s : State) (a : Nat) (v : Word) (hg : Good κ s) : Good κ (State.rgSet s a v) :=
  hg.setRegs (Laws.cset_wf hg.wf.1)

theorem State.rnSet_good {κ : Kept} (s : State) (a v : Nat) (hg : Good κ s) :
    Good κ (State.rnSet s a v) := by
  unfold State.rnSet
  repeat' (first | with_reducible assumption | with_reducible refine State.rgSet_good _ _ _ ?_)

theorem State.put_good {κ : Kept} (s : State) (a lo len v : Nat) (hg : Good κ s) :
    Good κ (State.put s a lo len v) := by
  unfold State.put
  repeat' (first | with_reducible assumption | with_reducible refine State.rnSet_good _ _ _ ?_)

theorem State.setBit_good {κ : Kept} (s : State) (a i : Nat) (hg : Good κ s) :
    Good κ (State.setBit s a i) := by
  unfold State.setBit
  repeat' (first | with_reducible assumption | with_reducible refine State.put_good _ _ _ _ _ ?_)

theorem State.clrBit_good {κ : Kept} (s : State) (a i : Nat) (hg : Good κ s) :
    Good κ (State.clrBit s a i) := by
  unfold State.clrBit
  repeat' (first | with_reducible assumption | with_reducible refine State.put_good _ _ _ _ _ ?_)

theorem State.putBit_good {κ : Kept} (s : State) (a i : Nat) (b : Bool) (hg : Good κ s) :
    Good κ (State.putBit s a i b) := by
  unfold State.putBit
  repeat' (first | with_reducible assumption | with_reducible refine State.put_good _ _ _ _ _ ?_)

theorem State.rnSet64_good {κ : Kept} (s : State) (lo v : Nat) (hg : Good κ s) :
    Good κ (State.rnSet64 s lo v) := by
  unfold State.rnSet64
  repeat' (first | with_reducible assumption | with_reducible refine State.rnSet_good _ _ _ ?_)

theorem State.rgReset_good {κ : Kept} (s : State) (a : Nat) (hg : Good κ s) : Good κ (State.rgReset s a) :=
  hg.setRegs (Laws.cdel_wf hg.wf.1)

theorem State.rgResetRange_good {κ : Kept} (s : State) (lo n : Nat) (hg : Good κ s) :
    Good κ (State.rgResetRange s lo n) :=
  hg.setRegs (Laws.cclear_wf hg.wf.1)

theorem State.countBy_good {κ : Kept} (s : State) (a n : Nat) (hg : Good κ s) :
    Good κ (State.countBy s a n) := by
  unfold State.countBy
  repeat' (first
    | with_reducible assumption | with_reducible refine good_ite ?_ ?_
    | with_reducible refine State.rnSet_good _ _ _ ?_ | with_reducible refine State.setBit_good _ _ _ ?_ | intro _
    | (split))

theorem State.count_good {κ : Kept} (s : State) (a : Nat) (hg : Good κ s) :
    Good κ (State.count s a) := by
  unfold State.count
  repeat' (first | with_reducible assumption | with_reducible refine State.countBy_good _ _ _ ?_)

theorem State.countClear_good {κ : Kept} (s : State) (a : Nat) (hg : Good κ s) :
    Good κ (State.countClear s a) := by
  unfold State.countClear
  repeat' (first
    | with_reducible assumption | with_reducible refine State.rnSet_good _ _ _ ?_
    | with_reducible refine State.clrBit_good _ _ _ ?_ | intro _ | (split))

theorem State.plotSet_good {κ : Kept} (s : State) (p : Nat) (x : Plot) (hg : Good κ s)
    (ht : κ.tm = none ∨ x.tm = (s.plot p).tm) (hr : κ.res = none ∨ x.res = (s.plot p).res)
    (hi : κ.img = none ∨ x.img = (s.plot p).img) (f_plots : κ.plots = none) : Good κ (State.plotSet s p x) :=
  hg.setPlot f_plots ht hr hi

theorem State.onPlot_good {κ : Kept} (s : State) (p : Nat) (f : Plot → Plot) (hg : Good κ s)
    (ht : κ.tm = none ∨ ∀ x, (f x).tm = x.tm) (hr : κ.res = none ∨ ∀ x, (f x).res = x.res)
    (hi : κ.img = none ∨ ∀ x, (f x).img = x.img) (f_plots : κ.plots = none) : Good κ (State.onPlot s p f) :=
  hg.setPlot f_plots (ht.imp_right fun h => h _) (hr.imp_right fun h => h _) (hi.imp_right fun h => h _)

theorem State.hostWrite_good {κ : Kept} (s : State) (fn addr : Nat) (bs : List Byte) (hg : Good κ s)
    (f_host : κ.host = none) : Good κ (State.hostWrite s fn addr bs) :=
  hg.setHost (Laws.csetList_wf hg.wf.2.2.2.1) f_host

theorem State.hbmWrite_good {κ : Kept} (s : State) (addr : Nat) (bs : List Byte) (hg : Good κ s)
    (f_hbm : κ.hbm = none) : Good κ (State.hbmWrite s addr bs) :=
  hg.setHbm (Laws.csetList_wf hg.wf.2.1) f_hbm

theorem State.spmWrite_good {κ : Kept} (s : State) (addr : Nat) (bs : List Byte) (hg : Good κ s)
    (f_spm : κ.spm = none) : Good κ (State.spmWrite s addr bs) :=
  hg.setSpm (Laws.csetList_wf hg.wf.2.2.1) f_spm

theorem State.takeFree_good {κ : Kept} (s : State) (w : Nat) (hg : Good κ s) :
    Good κ (State.takeFree s w).2 := by
  unfold State.takeFree
  repeat' (first
    | with_reducible assumption | with_reducible refine good_ite2 ?_ ?_
    | fail_if_no_progress with_reducible refine good_upd ?_)

theorem State.takeFree128_good {κ : Kept} (s : State) (hg : Good κ s) :
    Good κ (State.takeFree128 s).2 := by
  unfold State.takeFree128
  repeat' (first
    | with_reducible assumption | with_reducible refine good_ite2 ?_ ?_
    | with_reducible refine State.takeFree_good _ _ ?_)

theorem State.pllLock_good {κ : Kept} (s : State) (hg : Good κ s) :
    Good κ (State.pllLock s) := by
  unfold State.pllLock
  repeat' (first
    | with_reducible assumption | with_reducible refine good_ite ?_ ?_
    | with_reducible refine State.put_good _ _ _ _ _ ?_)

end Sys2Proof.Machine
end

