-- ==== Sys2Proof/Laws/GoodFlags.lean ====
section
/-! SUPPORT. What the operations of Machine/Flags.lean keep: one lemma each (Laws/GoodBase.lean). -/

namespace Sys2Proof.Machine
open Sys2Proof

-- One proof at a time: proofs checked side by side take a stack each.
set_option Elab.async false

theorem State.msix_good {κ : Kept} (s : State) (fn vec : Nat) (hg : Good κ s) :
    Good κ (State.msix s fn vec) := by
  unfold State.msix
  repeat' (first
    | with_reducible assumption | with_reducible refine good_ite ?_ ?_
    | fail_if_no_progress with_reducible refine good_upd ?_
    | fail_if_no_progress with_reducible refine good_updHost ?_)

theorem State.devInt_good {κ : Kept} (s : State) (b : Nat) (hg : Good κ s) :
    Good κ (State.devInt s b) := by
  unfold State.devInt
  repeat' (first
    | with_reducible assumption | with_reducible refine good_ite ?_ ?_
    | with_reducible refine State.setBit_good _ _ _ ?_ | with_reducible refine State.msix_good _ _ _ ?_)

theorem State.intEmptied_good {κ : Kept} (s : State) (p : Nat) (hg : Good κ s) :
    Good κ (State.intEmptied s p) := by
  unfold State.intEmptied
  repeat' (first
    | with_reducible assumption | with_reducible refine good_ite ?_ ?_
    | fail_if_no_progress with_reducible refine good_upd ?_
    | fail_if_no_progress with_reducible refine good_updHost ?_)

theorem State.plotInt_good {κ : Kept} (s : State) (p i : Nat) (hg : Good κ s) :
    Good κ (State.plotInt s p i) := by
  unfold State.plotInt
  repeat' (first
    | with_reducible assumption | with_reducible refine good_ite ?_ ?_
    | with_reducible refine State.intEmptied_good _ _ ?_ | with_reducible refine State.setBit_good _ _ _ ?_
    | with_reducible refine State.msix_good _ _ _ ?_ | fail_if_no_progress with_reducible refine good_upd ?_
    | fail_if_no_progress with_reducible refine good_updHost ?_)

theorem State.firstEvent_good {κ : Kept} (s : State) (b : Blk) (cause loc pn : Nat) (hg : Good κ s) :
    Good κ (State.firstEvent s b cause loc pn) := by
  unfold State.firstEvent
  repeat' (first
    | with_reducible assumption | with_reducible refine good_ite ?_ ?_ | with_reducible refine State.count_good _ _ ?_
    | with_reducible refine State.rnSet_good _ _ _ ?_ | with_reducible refine State.rnSet64_good _ _ _ ?_
    | with_reducible refine State.devInt_good _ _ ?_)

theorem State.histEvent_good {κ : Kept} (s : State) (b : Blk) (cause low pn : Nat) (hg : Good κ s) :
    Good κ (State.histEvent s b cause low pn) := by
  unfold State.histEvent
  repeat' (first
    | with_reducible assumption | with_reducible refine good_ite ?_ ?_
    | with_reducible refine State.put_good _ _ _ _ _ ?_ | with_reducible refine State.setBit_good _ _ _ ?_
    | with_reducible refine State.rnSet_good _ _ _ ?_ | with_reducible refine State.rnSet64_good _ _ _ ?_
    | with_reducible refine State.count_good _ _ ?_ | fail_if_no_progress with_reducible refine good_upd ?_)

theorem State.eventLost_good {κ : Kept} (s : State) (cause plot pn : Nat) (hg : Good κ s) :
    Good κ (State.eventLost s cause plot pn).2 := by
  unfold State.eventLost
  repeat' (first
    | with_reducible assumption | with_reducible refine good_ite2 ?_ ?_
    | with_reducible refine State.setBit_good _ _ _ ?_ | with_reducible refine State.firstEvent_good _ _ _ _ _ ?_
    | with_reducible refine State.histEvent_good _ _ _ _ _ ?_)

/-- A record of the fallow buffer is written in scratchpad bank 63. -/
theorem State.fallowPut_good {κ : Kept} (s : State) (r : EvRec) (hg : Good κ s) : Good κ (State.fallowPut s r) := by
  unfold State.fallowPut State.spmWrite
  exact Good.setFallow (good_upd hg) (by omega)

theorem State.event_good {κ : Kept} (s : State) (r0 : EvRec) (hg : Good κ s) :
    Good κ (State.event s r0) := by
  unfold State.event
  repeat' (first
    | with_reducible assumption | with_reducible refine good_ite ?_ ?_
    | with_reducible refine State.fallowPut_good _ _ ?_ | with_reducible refine State.eventLost_good _ _ _ _ ?_
    | with_reducible refine State.count_good _ _ ?_ | fail_if_no_progress with_reducible refine good_upd ?_
    | with_reducible refine good_foldl ?_ ?_ | with_reducible refine good_foldl1 ?_ ?_
    | with_reducible refine good_foldl2 ?_ ?_ | intro _)

theorem State.record_good {κ : Kept} (s : State) (rtype len : Nat) (plot : Option Nat) (pn : Nat) (body : List Nat)
    (hg : Good κ s) :
    Good κ (State.record s rtype len plot pn body) := by
  unfold State.record
  repeat' (first
    | with_reducible assumption | with_reducible refine good_ite ?_ ?_
    | with_reducible refine State.event_good _ _ ?_)

theorem State.faultRec_good {κ : Kept} (s : State) (block cause loc : Nat) (plot : Option Nat) (pn : Nat) (fromVote
    : Bool) (dev : Nat) (hg : Good κ s) :
    Good κ (State.faultRec s block cause loc plot pn fromVote dev) := by
  unfold State.faultRec
  repeat' (first
    | with_reducible assumption | with_reducible refine good_ite ?_ ?_
    | with_reducible refine State.record_good _ _ _ _ _ _ ?_)

theorem State.plotState_good {κ : Kept} (s : State) (p ev status : Nat) (more : List Nat) (hg : Good κ s) :
    Good κ (State.plotState s p ev status more) := by
  unfold State.plotState
  repeat' (first
    | with_reducible assumption | with_reducible refine good_ite ?_ ?_
    | with_reducible refine State.record_good _ _ _ _ _ _ ?_)

theorem State.raise_good {κ : Kept} (s : State) (b : Blk) (stat cause loc low : Nat) (plot : Option Nat) (pn : Nat)
    (hg : Good κ s) :
    Good κ (State.raise s b stat cause loc low plot pn) := by
  unfold State.raise
  repeat' (first
    | with_reducible assumption | with_reducible refine good_ite ?_ ?_
    | with_reducible refine State.setBit_good _ _ _ ?_ | with_reducible refine State.firstEvent_good _ _ _ _ _ ?_
    | with_reducible refine State.histEvent_good _ _ _ _ _ ?_
    | with_reducible refine State.faultRec_good _ _ _ _ _ _ _ _ ?_)

theorem State.condition_good {κ : Kept} (s : State) (block stat i : Nat) (hg : Good κ s) :
    Good κ (State.condition s block stat i) := by
  unfold State.condition
  repeat' (first
    | with_reducible assumption | with_reducible refine State.setBit_good _ _ _ ?_
    | with_reducible refine State.devInt_good _ _ ?_)

theorem State.setAdj_good {κ : Kept} (s : State) (want : Int) (hg : Good κ s) :
    Good κ (State.setAdj s want) := by
  unfold State.setAdj
  repeat' (first
    | with_reducible assumption | with_reducible refine good_ite ?_ ?_
    | with_reducible refine State.rgSet_good _ _ _ ?_ | with_reducible refine State.condition_good _ _ _ _ ?_)

theorem State.phaseEnds_good {κ : Kept} (s : State) (hg : Good κ s) :
    Good κ (State.phaseEnds s) := by
  unfold State.phaseEnds
  repeat' (first
    | with_reducible assumption | with_reducible refine State.setAdj_good _ _ ?_
    | fail_if_no_progress with_reducible refine good_upd ?_ | fail_if_no_progress with_reducible refine good_updFt ?_)

theorem State.rateSteps_good {κ : Kept} (s : State) (n : Nat) (hg : Good κ s) :
    Good κ (State.rateSteps s n) := by
  unfold State.rateSteps
  repeat' (first
    | with_reducible assumption | fail_if_no_progress with_reducible refine good_upd ?_
    | fail_if_no_progress with_reducible refine good_updFt ?_)

theorem State.tickSteps_good {κ : Kept} (s : State) (n : Nat) (hg : Good κ s) :
    Good κ (State.tickSteps s n) := by
  unfold State.tickSteps
  repeat' (first
    | with_reducible assumption | with_reducible refine good_ite ?_ ?_
    | with_reducible refine State.rateSteps_good _ _ ?_ | with_reducible refine State.phaseEnds_good _ ?_ | intro _
    | (split))

theorem State.tickTime_good {κ : Kept} (s : State) (hg : Good κ s) :
    Good κ (State.tickTime s) := by
  unfold State.tickTime
  repeat' (first | with_reducible assumption | with_reducible refine State.tickSteps_good _ _ ?_)

theorem State.waitUntil_good {κ : Kept} (s : State) (ns : Nat) (hg : Good κ s) :
    Good κ (State.waitUntil s ns) := by
  unfold State.waitUntil
  repeat' (first
    | with_reducible assumption | with_reducible refine good_ite ?_ ?_
    | with_reducible refine State.tickSteps_good _ _ ?_)

theorem State.waitSteps_good {κ : Kept} (s : State) (w : Nat) (hg : Good κ s) :
    Good κ (State.waitSteps s w) := by
  unfold State.waitSteps
  repeat' (first
    | with_reducible assumption | with_reducible refine good_ite ?_ ?_
    | with_reducible refine State.tickSteps_good _ _ ?_)

theorem State.raiseFur_good {κ : Kept} (s : State) (phys cause loc : Nat) (plot : Option Nat) (pn : Nat) (hg : Good
    κ s) :
    Good κ (State.raiseFur s phys cause loc plot pn) := by
  unfold State.raiseFur
  repeat' (first | with_reducible assumption | with_reducible refine State.raise_good _ _ _ _ _ _ _ _ ?_)

theorem State.raiseSw_good {κ : Kept} (s : State) (acre cause plot dst step pn : Nat) (hg : Good κ s) :
    Good κ (State.raiseSw s acre cause plot dst step pn) := by
  unfold State.raiseSw
  repeat' (first | with_reducible assumption | with_reducible refine State.raise_good _ _ _ _ _ _ _ _ ?_)

theorem State.raiseMem_good {κ : Kept} (s : State) (pc cause offset : Nat) (plot : Option Nat) (pn : Nat) (hg : Good
    κ s) :
    Good κ (State.raiseMem s pc cause offset plot pn) := by
  unfold State.raiseMem
  repeat' (first | with_reducible assumption | with_reducible refine State.raise_good _ _ _ _ _ _ _ _ ?_)

theorem State.raiseLnk_good {κ : Kept} (s : State) (port lane cause : Nat) (hg : Good κ s) :
    Good κ (State.raiseLnk s port lane cause) := by
  unfold State.raiseLnk
  repeat' (first | with_reducible assumption | with_reducible refine State.raise_good _ _ _ _ _ _ _ _ ?_)

theorem State.raiseXch_good {κ : Kept} (s : State) (cause port lane fidx : Nat) (plot : Option Nat) (pn : Nat) (hg :
    Good κ s) :
    Good κ (State.raiseXch s cause port lane fidx plot pn) := by
  unfold State.raiseXch
  repeat' (first | with_reducible assumption | with_reducible refine State.raise_good _ _ _ _ _ _ _ _ ?_)

theorem State.raiseXt_good {κ : Kept} (s : State) (cause entry : Nat) (plot : Option Nat) (pn : Nat) (hg : Good κ s)
    :
    Good κ (State.raiseXt s cause entry plot pn) := by
  unfold State.raiseXt
  repeat' (first | with_reducible assumption | with_reducible refine State.raise_good _ _ _ _ _ _ _ _ ?_)

theorem State.raiseAt_good {κ : Kept} (s : State) (b : Blk) (stat cause loc : Nat) (plot : Option Nat) (pn : Nat)
    (hg : Good κ s) :
    Good κ (State.raiseAt s b stat cause loc plot pn) := by
  unfold State.raiseAt
  repeat' (first | with_reducible assumption | with_reducible refine State.raise_good _ _ _ _ _ _ _ _ ?_)

theorem State.raiseGln_good {κ : Kept} (s : State) (cause space index : Nat) (plot : Option Nat) (hg : Good κ s) :
    Good κ (State.raiseGln s cause space index plot) := by
  unfold State.raiseGln
  repeat' (first | with_reducible assumption | with_reducible refine State.raise_good _ _ _ _ _ _ _ _ ?_)

theorem State.takeInjects_good {κ : Kept} (s : State) (reg : Nat) (pick : Nat → Bool) (hg : Good κ s) :
    Good κ (State.takeInjects s reg pick).2 := by
  unfold State.takeInjects
  repeat' (first
    | with_reducible assumption | with_reducible refine good_ite2 ?_ ?_
    | with_reducible refine State.clrBit_good _ _ _ ?_ | with_reducible refine State.setBit_good _ _ _ ?_
    | fail_if_no_progress with_reducible refine good_upd ?_)

theorem State.injectAt_good {κ : Kept} (s : State) (reg : Nat) (pick : Nat → Bool) (corrupt : Nat → State → State)
    (cond : Nat → Nat → State → State) (hg : Good κ s) (h_corrupt : ∀ (a0 : Nat) (a1 : State), Good κ a1 → Good κ
    (corrupt a0 a1)) (h_cond : ∀ (a0 : Nat) (a1 : Nat) (a2 : State), Good κ a2 → Good κ (cond a0 a1 a2)) :
    Good κ (State.injectAt s reg pick corrupt cond) := by
  unfold State.injectAt
  repeat' (first
    | with_reducible assumption | with_reducible refine good_ite ?_ ?_
    | with_reducible refine State.takeInjects_good _ _ _ ?_ | with_reducible refine h_corrupt _ _ ?_
    | with_reducible refine h_cond _ _ _ ?_ | with_reducible refine good_foldl ?_ ?_
    | with_reducible refine good_foldl1 ?_ ?_ | with_reducible refine good_foldl2 ?_ ?_ | intro _ | (split))

theorem State.raiseNoc_good {κ : Kept} (s : State) (cause loc : Nat) (plot : Option Nat) (pn : Nat) (hg : Good κ s)
    :
    Good κ (State.raiseNoc s cause loc plot pn) := by
  unfold State.raiseNoc
  repeat' (first | with_reducible assumption | with_reducible refine State.raiseAt_good _ _ _ _ _ _ _ ?_)

theorem State.flitPlane_good {κ : Kept} (s : State) (cause : Nat) (hg : Good κ s) :
    Good κ (State.flitPlane s cause).2 := by
  unfold State.flitPlane
  repeat' (first
    | with_reducible assumption | with_reducible refine good_ite2 ?_ ?_
    | with_reducible refine State.takeFree_good _ _ ?_)

theorem State.retirePlane_good {κ : Kept} (s : State) (plane router : Nat) (hg : Good κ s) :
    Good κ (State.retirePlane s plane router) := by
  unfold State.retirePlane
  repeat' (first
    | with_reducible assumption | with_reducible refine good_ite ?_ ?_
    | with_reducible refine State.clrBit_good _ _ _ ?_ | with_reducible refine State.raiseNoc_good _ _ _ _ _ ?_
    | with_reducible refine State.setBit_good _ _ _ ?_ | fail_if_no_progress with_reducible refine good_upd ?_
    | fail_if_no_progress with_reducible refine good_updTile ?_)

theorem State.flitLost_good {κ : Kept} (s : State) (cause router : Nat) (hg : Good κ s) :
    Good κ (State.flitLost s cause router) := by
  unfold State.flitLost
  repeat' (first
    | with_reducible assumption | with_reducible refine good_ite ?_ ?_
    | with_reducible refine State.raiseNoc_good _ _ _ _ _ ?_ | with_reducible refine State.count_good _ _ ?_
    | with_reducible refine State.flitPlane_good _ _ ?_ | with_reducible refine State.retirePlane_good _ _ _ ?_
    | fail_if_no_progress with_reducible refine good_upd ?_
    | fail_if_no_progress with_reducible refine good_updTile ?_)

theorem State.nocCond_good {κ : Kept} (s : State) (cause router : Nat) (hg : Good κ s) :
    Good κ (State.nocCond s cause router) := by
  unfold State.nocCond
  dsimp only
  split <;> repeat' (first
    | with_reducible assumption | with_reducible refine State.raiseNoc_good _ _ _ _ _ ?_
    | with_reducible refine State.count_good _ _ ?_)

theorem State.nocInject_good {κ : Kept} (s : State) (cls : Nat) (hg : Good κ s) :
    Good κ (State.nocInject s cls) := by
  unfold State.nocInject
  refine good_foldl (fun s a h => ?_) (State.takeInjects_good _ _ _ hg)
  split
  · exact State.nocCond_good _ _ _ h
  · exact State.flitLost_good _ _ _ h
  · exact State.nocCond_good _ _ _ h

theorem State.packet_good {κ : Kept} (s : State) (w : BitVec 256) (data : List Byte) (owner : Option Nat) (hg : Good
    κ s) :
    Good κ (State.packet s w data owner).2 := by
  unfold State.packet
  repeat' (first
    | with_reducible assumption | with_reducible refine good_ite2 ?_ ?_
    | with_reducible refine State.nocInject_good _ _ ?_ | with_reducible refine State.raiseNoc_good _ _ _ _ _ ?_
    | with_reducible refine State.count_good _ _ ?_ | fail_if_no_progress with_reducible refine good_upd ?_)

theorem State.respond_good {κ : Kept} (s : State) (scratchpad : Bool) (unit : Nat) (data : Option (List Byte)) (hg :
    Good κ s) :
    Good κ (State.respond s scratchpad unit data) := by
  unfold State.respond
  repeat' (first
    | with_reducible assumption | with_reducible refine good_ite ?_ ?_
    | fail_if_no_progress with_reducible refine good_upd ?_)

theorem State.express_good {κ : Kept} (s : State) (hg : Good κ s) :
    Good κ (State.express s).2 := by
  unfold State.express
  split
  · exact hg
  · exact State.nocInject_good _ _ hg

theorem State.eccSet_good {κ : Kept} (s : State) (kind idx v : Nat) (hg : Good κ s) :
    Good κ (State.eccSet s kind idx v) := by
  unfold State.eccSet
  repeat' (first | with_reducible assumption | fail_if_no_progress with_reducible refine good_upd ?_)

theorem State.upsetItem_good {κ : Kept} (s : State) (kind idx bits : Nat) (hg : Good κ s) :
    Good κ (State.upsetItem s kind idx bits) := by
  unfold State.upsetItem
  repeat' (first
    | with_reducible assumption | with_reducible refine good_ite ?_ ?_
    | with_reducible refine State.eccSet_good _ _ _ _ ?_)

theorem State.xtFlip_good {κ : Kept} (s : State) (e bits : Nat) (hg : Good κ s) :
    Good κ (State.xtFlip s e bits) := by
  unfold State.xtFlip
  repeat' (first | with_reducible assumption | fail_if_no_progress with_reducible refine good_upd ?_)

theorem State.glnUpset_good {κ : Kept} (s : State) (kind idx bits : Nat) (hg : Good κ s) :
    Good κ (State.glnUpset s kind idx bits) := by
  unfold State.glnUpset
  repeat' (first
    | with_reducible assumption | with_reducible refine good_ite ?_ ?_
    | with_reducible refine State.xtFlip_good _ _ _ ?_ | with_reducible refine State.upsetItem_good _ _ _ _ ?_)

theorem State.glnCond_good {κ : Kept} (s : State) (cause space index : Nat) (plot : Option Nat) (hg : Good κ s) :
    Good κ (State.glnCond s cause space index plot) := by
  unfold State.glnCond
  repeat' (first
    | with_reducible assumption | with_reducible refine State.raiseGln_good _ _ _ _ _ ?_
    | with_reducible refine State.count_good _ _ ?_ | intro _ | (split))

theorem State.glnMeet_good {κ : Kept} (s : State) (plot : Option Nat) (pick : Nat → Bool) (corrupt : Nat → Nat →
    State → State) (hg : Good κ s) (h_corrupt : ∀ (a0 : Nat) (a1 : Nat) (a2 : State), Good κ a2 → Good κ (corrupt a0
    a1 a2)) :
    Good κ (State.glnMeet s plot pick corrupt) := by
  unfold State.glnMeet
  repeat' (first
    | with_reducible assumption | with_reducible refine good_ite ?_ ?_
    | with_reducible refine State.takeInjects_good _ _ _ ?_ | with_reducible refine State.glnCond_good _ _ _ _ _ ?_
    | with_reducible refine h_corrupt _ _ _ ?_ | with_reducible refine good_foldl ?_ ?_
    | with_reducible refine good_foldl1 ?_ ?_ | with_reducible refine good_foldl2 ?_ ?_ | intro _ | (split))

theorem State.glnTouch_good {κ : Kept} (s : State) (plot : Option Nat) (read : Nat → Nat → Bool) (hg : Good κ s) :
    Good κ (State.glnTouch s plot read) := by
  unfold State.glnTouch
  repeat' (first
    | with_reducible assumption | with_reducible refine State.glnMeet_good _ _ _ _ ?_ ?_
    | with_reducible refine State.glnUpset_good _ _ _ _ ?_ | exact fun _ => rfl | exact Or.inr fun _ => rfl
    | exact Or.inr rfl | exact Or.inl (by with_reducible assumption) | intro _ | (split))

theorem State.glnTouchHbm_good {κ : Kept} (s : State) (word : Nat) (plot : Option Nat) (hg : Good κ s) :
    Good κ (State.glnTouchHbm s word plot) := by
  unfold State.glnTouchHbm
  repeat' (first
    | with_reducible assumption | with_reducible refine State.glnMeet_good _ _ _ _ ?_ ?_
    | with_reducible refine State.upsetItem_good _ _ _ _ ?_ | exact fun _ => rfl | exact Or.inr fun _ => rfl
    | exact Or.inr rfl | exact Or.inl (by with_reducible assumption) | intro _)

theorem State.sweepRestart_good {κ : Kept} (s : State) (a : Nat) (hg : Good κ s) :
    Good κ (State.sweepRestart s a) := by
  unfold State.sweepRestart
  repeat' (first | with_reducible assumption | fail_if_no_progress with_reducible refine good_upd ?_)

theorem State.vote_good {κ : Kept} (s : State) (e : Nat × Nat) (hg : Good κ s) :
    Good κ (State.vote s e) := by
  unfold State.vote
  repeat' (first
    | with_reducible assumption | with_reducible refine good_ite ?_ ?_
    | with_reducible refine State.raiseGln_good _ _ _ _ _ ?_ | with_reducible refine State.count_good _ _ ?_
    | with_reducible refine State.rgReset_good _ _ ?_ | with_reducible refine State.sweepRestart_good _ _ ?_
    | with_reducible refine good_foldl ?_ ?_ | with_reducible refine good_foldl1 ?_ ?_
    | with_reducible refine good_foldl2 ?_ ?_ | intro _)

theorem State.useTriple_good {κ : Kept} (s : State) (reg : Nat) (hg : Good κ s) :
    Good κ (State.useTriple s reg) := by
  unfold State.useTriple
  repeat' (first
    | with_reducible assumption | with_reducible refine good_ite ?_ ?_
    | with_reducible refine State.glnMeet_good _ _ _ _ ?_ ?_ | with_reducible refine State.vote_good _ _ ?_
    | fail_if_no_progress with_reducible refine good_upd ?_ | exact fun _ => rfl | exact Or.inr fun _ => rfl
    | exact Or.inr rfl | exact Or.inl (by with_reducible assumption) | intro _)

theorem State.bucket_good {κ : Kept} (s0 : State) (cls reg : Nat) (hg : Good κ s0) :
    Good κ (State.bucket s0 cls reg) := by
  unfold State.bucket
  repeat' (first
    | with_reducible assumption | with_reducible refine good_ite ?_ ?_
    | with_reducible refine State.useTriple_good _ _ ?_ | with_reducible refine State.put_good _ _ _ _ _ ?_
    | fail_if_no_progress with_reducible refine good_upd ?_)

theorem State.furCe_good {κ : Kept} (s : State) (phys cause loc : Nat) (plot : Option Nat) (pn : Nat) (hg : Good κ
    s) :
    Good κ (State.furCe s phys cause loc plot pn) := by
  unfold State.furCe
  repeat' (first
    | with_reducible assumption | with_reducible refine State.raiseFur_good _ _ _ _ _ _ ?_
    | with_reducible refine State.count_good _ _ ?_ | with_reducible refine State.bucket_good _ _ _ ?_)

end Sys2Proof.Machine
end

