-- ==== Sys2Proof/Laws/GoodPacket.lean ====
section
/-! SUPPORT. What the operations of Machine/Packet.lean keep: one lemma each (Laws/GoodBase.lean). -/

namespace Sys2Proof.Machine
open Sys2Proof

-- One proof at a time: proofs checked side by side take a stack each.
set_option Elab.async false

theorem State.ctrlQueue_good {κ : Kept} (s : State) (port ptype : Nat) (ws : List Word) (hg : Good κ s) :
    Good κ (State.ctrlQueue s port ptype ws) := by
  unfold State.ctrlQueue
  repeat' (first
    | with_reducible assumption | with_reducible refine good_ite ?_ ?_
    | with_reducible refine State.raiseXch_good _ _ _ _ _ _ _ ?_ | with_reducible refine State.count_good _ _ ?_
    | fail_if_no_progress with_reducible refine good_upd ?_)

theorem State.ctrlQueueAll_good {κ : Kept} (s : State) (ports : List Nat) (ptype : Nat) (ws : List Word) (hg : Good
    κ s) :
    Good κ (State.ctrlQueueAll s ports ptype ws) := by
  unfold State.ctrlQueueAll
  repeat' (first
    | with_reducible assumption | with_reducible refine State.ctrlQueue_good _ _ _ _ ?_
    | with_reducible refine good_foldl ?_ ?_ | with_reducible refine good_foldl1 ?_ ?_
    | with_reducible refine good_foldl2 ?_ ?_ | intro _)

theorem State.nextSeq_good {κ : Kept} (s : State) (hg : Good κ s) :
    Good κ (State.nextSeq s).2 := by
  unfold State.nextSeq
  repeat' (first
    | with_reducible assumption | with_reducible refine good_ite2 ?_ ?_
    | fail_if_no_progress with_reducible refine good_upd ?_)

theorem State.markSeen_good {κ : Kept} (s : State) (src seq : Nat) (hg : Good κ s) :
    Good κ (State.markSeen s src seq) := by
  unfold State.markSeen
  repeat' (first | with_reducible assumption | fail_if_no_progress with_reducible refine good_upd ?_)

theorem State.flood_good {κ : Kept} (s : State) (p ptype : Nat) (body : List Nat) (hg : Good κ s) :
    Good κ (State.flood s p ptype body) := by
  unfold State.flood
  repeat' (first
    | with_reducible assumption | with_reducible refine State.nextSeq_good _ ?_
    | with_reducible refine State.markSeen_good _ _ _ ?_ | with_reducible refine State.ctrlQueueAll_good _ _ _ _ ?_)

theorem State.sendNbr_good {κ : Kept} (s : State) (port ptype ptag : Nat) (body : List Nat) (hg : Good κ s) :
    Good κ (State.sendNbr s port ptype ptag body) := by
  unfold State.sendNbr
  repeat' (first
    | with_reducible assumption | with_reducible refine State.nextSeq_good _ ?_
    | with_reducible refine State.flood_good _ _ _ _ ?_ | with_reducible refine State.ctrlQueue_good _ _ _ _ ?_)

theorem State.floodCtl_good {κ : Kept} (s : State) (p subtype action status pn ftns : Nat) (hg : Good κ s) :
    Good κ (State.floodCtl s p subtype action status pn ftns) := by
  unfold State.floodCtl
  repeat' (first | with_reducible assumption | with_reducible refine State.flood_good _ _ _ _ ?_)

theorem State.sendMgmt_good {κ : Kept} (s : State) (port subtype lane status : Nat) (pn : Nat) (level : Nat) (hg :
    Good κ s) :
    Good κ (State.sendMgmt s port subtype lane status pn level) := by
  unfold State.sendMgmt
  repeat' (first | with_reducible assumption | with_reducible refine State.sendNbr_good _ _ _ _ _ ?_)

end Sys2Proof.Machine
end

