-- ==== Sys2Proof/Laws/GoodOperands.lean ====
section
/-! SUPPORT. What the operations of Machine/Operands.lean keep: one lemma each (Laws/GoodBase.lean). -/

namespace Sys2Proof.Machine
open Sys2Proof

-- One proof at a time: proofs checked side by side take a stack each.
set_option Elab.async false

theorem State.onCmd_good {κ : Kept} (s : State) (id : Nat) (f : Cmd → Cmd) (hg : Good κ s) (hf : ∀ c, (f c).id = c.id)
    (f_cmd : κ.cmd = none) : Good κ (State.onCmd s id f) :=
  hg.mapCmds f_cmd fun c => by split <;> simp [hf]

theorem State.onTaken_good {κ : Kept} (s : State) (opc id : Nat) (f : Cmd → State) (hg : Good κ s)
    (hf : ∀ c, Good κ (f c)) : Good κ (State.onTaken s opc id f) := by
  unfold State.onTaken
  split
  · exact hf _
  · exact hg

theorem State.nextDone_good {κ : Kept} (s : State) (hg : Good κ s) (f_cmd : κ.cmd = none) :
    Good κ (State.nextDone s) := by
  unfold State.nextDone
  repeat' (first
    | with_reducible assumption | fail_if_no_progress with_reducible refine good_upd ?_
    | fail_if_no_progress with_reducible refine good_updCmd ?_ f_cmd)

theorem State.finish_good {κ : Kept} (s : State) (id status result : Nat) (hg : Good κ s) (f_cmd : κ.cmd = none) :
    Good κ (State.finish s id status result) := by
  unfold State.finish
  repeat' (first
    | with_reducible assumption | with_reducible refine State.onCmd_good _ _ _ ?_ ?_ f_cmd
    | with_reducible refine State.nextDone_good _ ?_ f_cmd | exact fun _ => rfl)

theorem State.finishAt_good {κ : Kept} (s : State) (id status result pos total : Nat) (hg : Good κ s) (f_cmd : κ.cmd
    = none) :
    Good κ (State.finishAt s id status result pos total) := by
  unfold State.finishAt
  repeat' (first
    | with_reducible assumption | with_reducible refine State.onCmd_good _ _ _ ?_ ?_ f_cmd
    | with_reducible refine State.nextDone_good _ ?_ f_cmd | fail_if_no_progress with_reducible refine good_upd ?_
    | exact fun _ => rfl)

theorem State.blockCmd_good {κ : Kept} (s : State) (id : Nat) (hg : Good κ s) (f_cmd : κ.cmd = none) :
    Good κ (State.blockCmd s id) := by
  unfold State.blockCmd
  repeat' (first
    | with_reducible assumption | with_reducible refine State.onCmd_good _ _ _ ?_ ?_ f_cmd
    | fail_if_no_progress with_reducible refine good_upd ?_ | exact fun _ => rfl)

theorem State.finishOpt_good {κ : Kept} (s : State) (id status result : Nat) (hg : Good κ s) (f_cmd : κ.cmd = none)
    :
    Good κ (State.finishOpt s id status result) := by
  unfold State.finishOpt
  repeat' (first
    | with_reducible assumption | with_reducible refine good_ite ?_ ?_
    | with_reducible refine State.finish_good _ _ _ _ ?_ f_cmd)

end Sys2Proof.Machine
end

