-- ==== Sys2Proof/Laws/GoodPlotFault.lean ====
section
/-! SUPPORT. What the operations of Machine/PlotFault.lean keep: one lemma each (Laws/GoodBase.lean). -/

namespace Sys2Proof.Machine
open Sys2Proof

-- One proof at a time: proofs checked side by side take a stack each.
set_option Elab.async false

theorem State.cmtStateSet_good {κ : Kept} (s : State) (p v : Nat) (hg : Good κ s) :
    Good κ (State.cmtStateSet s p v) := by
  unfold State.cmtStateSet
  repeat' (first | with_reducible assumption | with_reducible refine State.put_good _ _ _ _ _ ?_)

theorem State.onTm_good {κ : Kept} (s : State) (p : Nat) (f : TimeSt → TimeSt) (hg : Good κ s) (f_plots : κ.plots =
    none) (f_tm : κ.tm = none) :
    Good κ (State.onTm s p f) := by
  unfold State.onTm
  repeat' (first
    | with_reducible assumption | with_reducible refine State.onPlot_good _ _ _ ?_ ?_ ?_ ?_ f_plots
    | fail_if_no_progress with_reducible refine good_upd ?_ | exact Or.inr fun _ => rfl
    | exact Or.inl (by with_reducible assumption))

theorem State.onCmt_good {κ : Kept} (s : State) (p : Nat) (f : CommitSt → CommitSt) (hg : Good κ s) (f_plots :
    κ.plots = none) :
    Good κ (State.onCmt s p f) := by
  unfold State.onCmt
  repeat' (first
    | with_reducible assumption | with_reducible refine State.onPlot_good _ _ _ ?_ ?_ ?_ ?_ f_plots
    | fail_if_no_progress with_reducible refine good_upd ?_ | exact Or.inr fun _ => rfl)

theorem State.onHvt_good {κ : Kept} (s : State) (p : Nat) (f : HvtSt → HvtSt) (hg : Good κ s) (f_plots : κ.plots =
    none) :
    Good κ (State.onHvt s p f) := by
  unfold State.onHvt
  repeat' (first
    | with_reducible assumption | with_reducible refine State.onPlot_good _ _ _ ?_ ?_ ?_ ?_ f_plots
    | fail_if_no_progress with_reducible refine good_upd ?_ | exact Or.inr fun _ => rfl)

theorem State.onImg_good {κ : Kept} (s : State) (p : Nat) (f : ImgSt → ImgSt) (hg : Good κ s) (f_plots : κ.plots =
    none) (f_img : κ.img = none) :
    Good κ (State.onImg s p f) := by
  unfold State.onImg
  repeat' (first
    | with_reducible assumption | with_reducible refine State.onPlot_good _ _ _ ?_ ?_ ?_ ?_ f_plots
    | fail_if_no_progress with_reducible refine good_upd ?_ | exact Or.inr fun _ => rfl
    | exact Or.inl (by with_reducible assumption))

theorem State.onRel_good {κ : Kept} (s : State) (p : Nat) (f : RelSt → RelSt) (hg : Good κ s) (f_plots : κ.plots =
    none) :
    Good κ (State.onRel s p f) := by
  unfold State.onRel
  repeat' (first
    | with_reducible assumption | with_reducible refine State.onPlot_good _ _ _ ?_ ?_ ?_ ?_ f_plots
    | fail_if_no_progress with_reducible refine good_upd ?_ | exact Or.inr fun _ => rfl)

theorem State.onId_good {κ : Kept} (s : State) (p : Nat) (f : PlotId → PlotId) (hg : Good κ s) (f_plots : κ.plots =
    none) :
    Good κ (State.onId s p f) := by
  unfold State.onId
  repeat' (first
    | with_reducible assumption | with_reducible refine State.onPlot_good _ _ _ ?_ ?_ ?_ ?_ f_plots
    | fail_if_no_progress with_reducible refine good_upd ?_ | exact Or.inr fun _ => rfl)

theorem State.onRes_good {κ : Kept} (s : State) (p : Nat) (f : Res → Res) (hg : Good κ s) (f_plots : κ.plots = none)
    (f_res : κ.res = none) :
    Good κ (State.onRes s p f) := by
  unfold State.onRes
  repeat' (first
    | with_reducible assumption | with_reducible refine State.onPlot_good _ _ _ ?_ ?_ ?_ ?_ f_plots
    | fail_if_no_progress with_reducible refine good_upd ?_ | exact Or.inr fun _ => rfl
    | exact Or.inl (by with_reducible assumption))

theorem State.spend_good {κ : Kept} (s : State) (p n : Nat) (hg : Good κ s) (f_plots : κ.plots = none) (f_tm : κ.tm
    = none) :
    Good κ (State.spend s p n) := by
  unfold State.spend
  repeat' (first
    | with_reducible assumption | with_reducible refine State.onTm_good _ _ _ ?_ f_plots f_tm
    | with_reducible refine State.waitSteps_good _ _ ?_)

theorem State.clockFrom_good {κ : Kept} (s : State) (p : Nat) (hg : Good κ s) (f_plots : κ.plots = none) (f_tm :
    κ.tm = none) :
    Good κ (State.clockFrom s p) := by
  unfold State.clockFrom
  repeat' (first | with_reducible assumption | with_reducible refine State.onTm_good _ _ _ ?_ f_plots f_tm)

theorem State.sowSet_good {κ : Kept} (s : State) (p v : Nat) (hg : Good κ s) :
    Good κ (State.sowSet s p v) := by
  unfold State.sowSet
  repeat' (first | with_reducible assumption | with_reducible refine State.put_good _ _ _ _ _ ?_)

theorem Cmd.ended_id (c : Cmd) (n status result : Nat) : (c.ended n status result).id = c.id := by
  unfold Cmd.ended; split <;> rfl

theorem State.finishAll_good {κ : Kept} (s : State) (p : Nat) (pick : Cmd → Bool) (status result : Nat) (hg : Good κ s)
    (f_cmd : κ.cmd = none) : Good κ (State.finishAll s p pick status result) :=
  State.nextDone_good _ (hg.mapCmds f_cmd fun c => by split <;> simp [Cmd.ended_id]) f_cmd

theorem State.finishRuns_good {κ : Kept} (s : State) (p status pn : Nat) (hg : Good κ s) (f_plots : κ.plots = none)
    (f_cmd : κ.cmd = none) : Good κ (State.finishRuns s p status pn) := by
  unfold State.finishRuns
  refine State.onPlot_good _ _ _ (State.nextDone_good _ (hg.mapCmds f_cmd fun c => ?_) f_cmd) (Or.inr fun _ => rfl)
    (Or.inr fun _ => rfl) (Or.inr fun _ => rfl) f_plots
  dsimp only
  split
  · exact Cmd.ended_id _ _ _ _
  · rfl

theorem State.noteFault_good {κ : Kept} (s : State) (p status : Nat) (hg : Good κ s) (f_plots : κ.plots = none) :
    Good κ (State.noteFault s p status) := by
  unfold State.noteFault
  repeat' (first | with_reducible assumption | with_reducible refine State.onCmt_good _ _ _ ?_ f_plots)

theorem State.hvtStop_good {κ : Kept} (s : State) (p cause pn ft : Nat) (hg : Good κ s) :
    Good κ (State.hvtStop s p cause pn ft) := by
  unfold State.hvtStop
  repeat' (first
    | with_reducible assumption | with_reducible refine good_ite ?_ ?_ | with_reducible refine State.event_good _ _ ?_
    | with_reducible refine State.put_good _ _ _ _ _ ?_ | with_reducible refine State.rnSet64_good _ _ _ ?_)

theorem State.makeReady_good {κ : Kept} (s : State) (pick : Cmd → Bool) (hg : Good κ s) (f_cmd : κ.cmd = none) :
    Good κ (State.makeReady s pick) := by
  unfold State.makeReady
  dsimp only
  refine good_ite hg (hg.keepIds f_cmd ?_)
  intro e he
  by_cases h : pick e = true
  · exact ⟨{ e with stage := .ready }, by
      simp only [List.mem_append, List.mem_map, List.mem_filter]; exact Or.inr ⟨e, ⟨he, h⟩, rfl⟩, rfl⟩
  · exact ⟨e, by simp [he, h], rfl⟩

theorem State.finishWaiting_good {κ : Kept} (s : State) (p status : Nat) (hg : Good κ s) (f_plots : κ.plots = none)
    (f_cmd : κ.cmd = none) :
    Good κ (State.finishWaiting s p status) := by
  unfold State.finishWaiting
  repeat' (first
    | with_reducible assumption | with_reducible refine good_ite ?_ ?_
    | with_reducible refine State.finishAll_good _ _ _ _ _ ?_ f_cmd
    | with_reducible refine State.hvtStop_good _ _ _ _ _ ?_ | with_reducible refine State.makeReady_good _ _ ?_ f_cmd
    | with_reducible refine State.onPlot_good _ _ _ ?_ ?_ ?_ ?_ f_plots
    | fail_if_no_progress with_reducible refine good_upd ?_ | exact fun _ => rfl | exact Or.inr fun _ => rfl)

theorem State.faultStop_good {κ : Kept} (s : State) (p state status : Nat) (hg : Good κ s) (f_plots : κ.plots =
    none) (f_cmd : κ.cmd = none) :
    Good κ (State.faultStop s p state status) := by
  unfold State.faultStop
  repeat' (first
    | with_reducible assumption | with_reducible refine State.onPlot_good _ _ _ ?_ ?_ ?_ ?_ f_plots
    | with_reducible refine State.cmtStateSet_good _ _ _ ?_ | with_reducible refine State.clrBit_good _ _ _ ?_
    | with_reducible refine State.finishRuns_good _ _ _ _ ?_ f_plots f_cmd
    | with_reducible refine State.finishWaiting_good _ _ _ ?_ f_plots f_cmd
    | with_reducible refine State.plotState_good _ _ _ _ _ ?_ | fail_if_no_progress with_reducible refine good_upd ?_
    | exact fun _ => rfl | exact Or.inr fun _ => rfl)

theorem State.stopFault_good {κ : Kept} (s : State) (p state status : Nat) (hg : Good κ s) (f_plots : κ.plots =
    none) (f_cmd : κ.cmd = none) (f_tm : κ.tm = none) :
    Good κ (State.stopFault s p state status) := by
  unfold State.stopFault
  repeat' (first
    | with_reducible assumption | with_reducible refine State.onTm_good _ _ _ ?_ f_plots f_tm
    | with_reducible refine State.faultStop_good _ _ _ _ ?_ f_plots f_cmd)

theorem State.holdRec_good {κ : Kept} (s : State) (p kind action stake pn : Nat) (hg : Good κ s) :
    Good κ (State.holdRec s p kind action stake pn) := by
  unfold State.holdRec
  repeat' (first | with_reducible assumption | with_reducible refine State.record_good _ _ _ _ _ _ ?_)

theorem State.recoveryFailed_good {κ : Kept} (s : State) (p : Nat) (hg : Good κ s) (f_plots : κ.plots = none) (f_cmd
    : κ.cmd = none) (f_tm : κ.tm = none) :
    Good κ (State.recoveryFailed s p) := by
  unfold State.recoveryFailed
  repeat' (first
    | with_reducible assumption | with_reducible refine State.setBit_good _ _ _ ?_
    | with_reducible refine State.plotInt_good _ _ _ ?_ | with_reducible refine State.holdRec_good _ _ _ _ _ _ ?_
    | with_reducible refine State.stopFault_good _ _ _ _ ?_ f_plots f_cmd f_tm)

theorem State.divergePass_good {κ : Kept} (s : State) (p k : Nat) (sendPacket : Bool) (hg : Good κ s) (f_plots :
    κ.plots = none) (f_cmd : κ.cmd = none) :
    Good κ (State.divergePass s p k sendPacket) := by
  unfold State.divergePass
  repeat' (first
    | with_reducible assumption | with_reducible refine good_ite ?_ ?_
    | with_reducible refine State.setBit_good _ _ _ ?_ | with_reducible refine State.plotInt_good _ _ _ ?_
    | with_reducible refine State.onCmt_good _ _ _ ?_ f_plots
    | with_reducible refine State.holdRec_good _ _ _ _ _ _ ?_
    | with_reducible refine State.floodCtl_good _ _ _ _ _ _ _ ?_
    | with_reducible refine State.faultStop_good _ _ _ _ ?_ f_plots f_cmd)

theorem State.readyPlot_good {κ : Kept} (s : State) (p : Nat) (hg : Good κ s) (f_cmd : κ.cmd = none) :
    Good κ (State.readyPlot s p) := by
  unfold State.readyPlot
  repeat' (first | with_reducible assumption | with_reducible refine State.makeReady_good _ _ ?_ f_cmd)

theorem State.passError_good {κ : Kept} (s : State) (p k block cause : Nat) (loc unit : Nat) (hg : Good κ s)
    (f_plots : κ.plots = none) (f_cmd : κ.cmd = none) :
    Good κ (State.passError s p k block cause loc unit) := by
  unfold State.passError
  repeat' (first
    | with_reducible assumption | with_reducible refine good_ite ?_ ?_
    | with_reducible refine State.divergePass_good _ _ _ _ ?_ f_plots f_cmd
    | with_reducible refine State.onCmt_good _ _ _ ?_ f_plots | with_reducible refine State.flood_good _ _ _ _ ?_)

theorem State.furError_good {κ : Kept} (s : State) (p phys cause loc k : Nat) (hg : Good κ s) (f_plots : κ.plots =
    none) (f_cmd : κ.cmd = none) :
    Good κ (State.furError s p phys cause loc k) := by
  unfold State.furError
  repeat' (first
    | with_reducible assumption | with_reducible refine State.raiseFur_good _ _ _ _ _ _ ?_
    | with_reducible refine State.passError_good _ _ _ _ _ _ _ ?_ f_plots f_cmd)

theorem State.swError_good {κ : Kept} (s : State) (p acre cause dst step k : Nat) (hg : Good κ s) (f_plots : κ.plots
    = none) (f_cmd : κ.cmd = none) :
    Good κ (State.swError s p acre cause dst step k) := by
  unfold State.swError
  repeat' (first
    | with_reducible assumption | with_reducible refine State.raiseSw_good _ _ _ _ _ _ _ ?_
    | with_reducible refine State.passError_good _ _ _ _ _ _ _ ?_ f_plots f_cmd)

theorem State.xchError_good {κ : Kept} (s : State) (cause cnt port lane fidx k : Nat) (hg : Good κ s) (f_plots :
    κ.plots = none) (f_cmd : κ.cmd = none) :
    Good κ (State.xchError s cause cnt port lane fidx k) := by
  unfold State.xchError
  repeat' (first
    | with_reducible assumption | with_reducible refine good_ite ?_ ?_
    | with_reducible refine State.raiseXch_good _ _ _ _ _ _ _ ?_ | with_reducible refine State.countBy_good _ _ _ ?_
    | with_reducible refine State.passError_good _ _ _ _ _ _ _ ?_ f_plots f_cmd | intro _ | (split))

end Sys2Proof.Machine
end

