-- ==== Sys2Proof/Laws/GoodAccess.lean ====
section
/-! SUPPORT. What the operations of Machine/Access.lean keep: one lemma each (Laws/GoodBase.lean). -/

namespace Sys2Proof.Machine
open Sys2Proof

-- One proof at a time: proofs checked side by side take a stack each.
set_option Elab.async false

theorem State.copyWr_good {κ : Kept} (s : State) (reader a : Nat) (v : Word) (hg : Good κ s) : Good κ (State.copyWr s reader a v) :=
  have r := recWf_iff hg.recs
  hg.setRecs (recWf_of (Laws.cset_wf r.1) r.2.1 r.2.2.1 r.2.2.2.1 r.2.2.2.2.1 r.2.2.2.2.2)

theorem State.devStat_good {κ : Kept} (s : State) (fn i : Nat) (hg : Good κ s) :
    Good κ (State.devStat s fn i) := by
  unfold State.devStat
  repeat' (first | with_reducible assumption | with_reducible refine State.copyWr_good _ _ _ _ ?_)

theorem State.rsvdCheck_good {κ : Kept} (s : State) (fn v : Nat) (fs : List RegField) (hg : Good κ s) :
    Good κ (State.rsvdCheck s fn v fs) := by
  unfold State.rsvdCheck
  repeat' (first
    | with_reducible assumption | with_reducible refine good_ite ?_ ?_
    | with_reducible refine State.devStat_good _ _ _ ?_)

theorem State.plainWrite_good {κ : Kept} (s : State) (fn a v : Nat) (r : RegRow) (is : List Nat) (hg : Good κ s) :
    Good κ (State.plainWrite s fn a v r is) := by
  unfold State.plainWrite
  repeat' (first
    | with_reducible assumption | with_reducible refine good_ite ?_ ?_
    | with_reducible refine State.rsvdCheck_good _ _ _ _ ?_ | with_reducible refine State.copyWr_good _ _ _ _ ?_
    | with_reducible refine State.rnSet_good _ _ _ ?_)

theorem State.gate_good {κ : Kept} (s : State) (fn a : Nat) (hg : Good κ s) (s1 : State)
    (he : State.gate s fn a = .inl s1) : Good κ s1 := by
  unfold State.gate at he
  repeat' (first | split at he | (injection he with he; subst he))
  all_goals (first | exact hg | exact State.devStat_good _ _ _ hg | contradiction)

theorem State.opened_good {κ : Kept} (s : State) (fn a : Nat) (k : State → RegRow → List Nat → State)
    (hg : Good κ s) (h_k : ∀ (a0 : State) (a1 : RegRow) (a2 : List Nat), Good κ a0 → Good κ (k a0 a1 a2)) :
    Good κ (State.opened s fn a k) := by
  unfold State.opened
  split
  · rename_i he; exact State.gate_good s fn a hg _ he
  · exact h_k _ _ _ hg

theorem State.gated_good {κ : Kept} (s : State) (fn a : Nat) (k : State → RegRow → List Nat → State) (hg : Good κ s)
    (h_k : ∀ (a0 : State) (a1 : RegRow) (a2 : List Nat), Good κ a0 → Good κ (k a0 a1 a2)) :
    Good κ (State.gated s fn a k) := by
  unfold State.gated
  repeat' (first
    | with_reducible assumption | with_reducible refine good_ite ?_ ?_
    | with_reducible refine State.opened_good _ _ _ _ ?_ ?_)

theorem State.pf0Field_good {κ : Kept} (s : State) (fn a lo len v : Nat) (hg : Good κ s) :
    Good κ (State.pf0Field s fn a lo len v) := by
  unfold State.pf0Field
  repeat' (first
    | with_reducible assumption | with_reducible refine good_ite ?_ ?_
    | with_reducible refine State.put_good _ _ _ _ _ ?_ | with_reducible refine State.devStat_good _ _ _ ?_)

end Sys2Proof.Machine
end

