-- ==== Sys2Proof/Laws/GoodFieldTime.lean ====
section
/-! SUPPORT. What the operations of Machine/FieldTime.lean keep: one lemma each (Laws/GoodBase.lean). -/

namespace Sys2Proof.Machine
open Sys2Proof

-- One proof at a time: proofs checked side by side take a stack each.
set_option Elab.async false

theorem State.onSync_good {κ : Kept} (s : State) (q : Nat) (f : SyncPort → SyncPort) (hg : Good κ s) : Good κ (State.onSync s q f) :=
  have r := recWf_iff hg.recs
  hg.setRecs (recWf_of r.1 r.2.1 r.2.2.1 r.2.2.2.1 r.2.2.2.2.1 (Laws.cset_wf r.2.2.2.2.2))

theorem State.ftStateSet_good {κ : Kept} (s : State) (v : Nat) (hg : Good κ s) :
    Good κ (State.ftStateSet s v) := by
  unfold State.ftStateSet
  repeat' (first | with_reducible assumption | with_reducible refine State.put_good _ _ _ _ _ ?_)

theorem State.choose_good {κ : Kept} (s : State) (gmid q : Nat) (hg : Good κ s) :
    Good κ (State.choose s gmid q) := by
  unfold State.choose
  repeat' (first
    | with_reducible assumption | with_reducible refine good_ite ?_ ?_
    | with_reducible refine State.condition_good _ _ _ _ ?_ | with_reducible refine State.record_good _ _ _ _ _ _ ?_
    | fail_if_no_progress with_reducible refine good_upd ?_ | fail_if_no_progress with_reducible refine good_updFt ?_)

theorem State.recount_good {κ : Kept} (s : State) (hg : Good κ s) :
    Good κ (State.recount s) := by
  unfold State.recount
  repeat' (first
    | with_reducible assumption | fail_if_no_progress with_reducible refine good_upd ?_
    | fail_if_no_progress with_reducible refine good_updFt ?_)

theorem State.discipline_good {κ : Kept} (s : State) (hg : Good κ s) :
    Good κ (State.discipline s) := by
  unfold State.discipline
  repeat' (first
    | with_reducible assumption | with_reducible refine good_ite ?_ ?_
    | with_reducible refine State.ftStateSet_good _ _ ?_ | with_reducible refine State.recount_good _ ?_
    | fail_if_no_progress with_reducible refine good_upd ?_ | fail_if_no_progress with_reducible refine good_updFt ?_)

theorem State.noGm_good {κ : Kept} (s : State) (hg : Good κ s) :
    Good κ (State.noGm s) := by
  unfold State.noGm
  repeat' (first
    | with_reducible assumption | with_reducible refine good_ite ?_ ?_
    | with_reducible refine State.put_good _ _ _ _ _ ?_ | with_reducible refine State.clrBit_good _ _ _ ?_
    | with_reducible refine State.ftStateSet_good _ _ ?_ | with_reducible refine State.rnSet_good _ _ _ ?_
    | fail_if_no_progress with_reducible refine good_upd ?_ | fail_if_no_progress with_reducible refine good_updFt ?_)

theorem State.selfGm_good {κ : Kept} (s : State) (gm : Nat) (hg : Good κ s) :
    Good κ (State.selfGm s gm) := by
  unfold State.selfGm
  repeat' (first
    | with_reducible assumption | with_reducible refine good_ite ?_ ?_
    | with_reducible refine State.choose_good _ _ _ ?_ | with_reducible refine State.put_good _ _ _ _ _ ?_
    | with_reducible refine State.clrBit_good _ _ _ ?_ | with_reducible refine State.rnSet_good _ _ _ ?_
    | with_reducible refine State.discipline_good _ ?_ | fail_if_no_progress with_reducible refine good_upd ?_
    | fail_if_no_progress with_reducible refine good_updFt ?_)

theorem State.takeParent_good {κ : Kept} (s : State) (gm hops q : Nat) (hg : Good κ s) :
    Good κ (State.takeParent s gm hops q) := by
  unfold State.takeParent
  repeat' (first
    | with_reducible assumption | with_reducible refine good_ite ?_ ?_
    | with_reducible refine State.choose_good _ _ _ ?_ | with_reducible refine State.put_good _ _ _ _ _ ?_
    | with_reducible refine State.setBit_good _ _ _ ?_ | with_reducible refine State.ftStateSet_good _ _ ?_
    | with_reducible refine State.recount_good _ ?_ | with_reducible refine State.rnSet_good _ _ _ ?_
    | fail_if_no_progress with_reducible refine good_upd ?_ | fail_if_no_progress with_reducible refine good_updFt ?_)

theorem State.chooseGm_good {κ : Kept} (s : State) (hg : Good κ s) :
    Good κ (State.chooseGm s) := by
  unfold State.chooseGm
  repeat' (first
    | with_reducible assumption | with_reducible refine good_ite ?_ ?_ | with_reducible refine State.noGm_good _ ?_
    | with_reducible refine State.selfGm_good _ _ ?_ | with_reducible refine State.takeParent_good _ _ _ _ ?_
    | with_reducible refine good_foldl ?_ ?_ | with_reducible refine good_foldl1 ?_ ?_
    | with_reducible refine good_foldl2 ?_ ?_ | intro _ | (split))

theorem State.parentLost_good {κ : Kept} (s : State) (hg : Good κ s) :
    Good κ (State.parentLost s) := by
  unfold State.parentLost
  repeat' (first
    | with_reducible assumption | with_reducible refine State.condition_good _ _ _ _ ?_
    | with_reducible refine State.clrBit_good _ _ _ ?_ | with_reducible refine State.onSync_good _ _ _ ?_
    | with_reducible refine State.ftStateSet_good _ _ ?_ | with_reducible refine State.phaseEnds_good _ ?_
    | with_reducible refine State.put_good _ _ _ _ _ ?_ | with_reducible refine State.chooseGm_good _ ?_)

theorem State.selectGm_good {κ : Kept} (s : State) (hg : Good κ s) :
    Good κ (State.selectGm s) := by
  unfold State.selectGm
  repeat' (first
    | with_reducible assumption | with_reducible refine good_ite ?_ ?_
    | with_reducible refine State.parentLost_good _ ?_ | with_reducible refine State.chooseGm_good _ ?_)

theorem State.shiftFt_good {κ : Kept} (s : State) (d : Int) (hg : Good κ s) : Good κ (State.shiftFt s d) := by
  have r := recWf_iff hg.recs
  have hw : ∀ (l : List Nat) (m : Cells SyncPort), cellsWf {} m = true → cellsWf {} (shiftPorts m d l) = true := by
    intro l
    induction l with
    | nil => exact fun m hm => hm
    | cons a l ih => exact fun m hm => ih _ (Laws.cset_wf hm)
  have e : (s.ft.shift d).ports = shiftPorts s.ft.ports d (natsFrom 0 16) := by simp only [FtSt.shift]
  have h : cellsWf {} (s.ft.shift d).ports = true := e ▸ hw (natsFrom 0 16) s.ft.ports r.2.2.2.2.2
  exact Good.setRecs (c := s.copies) (i := s.io) (l := s.lnk) (f := s.ft.shift d) hg
    (recWf_of r.1 r.2.1 r.2.2.1 r.2.2.2.1 r.2.2.2.2.1 h)

theorem State.ftStep_good {κ : Kept} (s : State) (v : Int) (kind : Nat) (hg : Good κ s) :
    Good κ (State.ftStep s v kind) := by
  unfold State.ftStep
  repeat' (first
    | with_reducible assumption | with_reducible refine State.shiftFt_good _ _ ?_
    | with_reducible refine State.record_good _ _ _ _ _ _ ?_ | fail_if_no_progress with_reducible refine good_upd ?_
    | fail_if_no_progress with_reducible refine good_updFt ?_)

theorem State.lockCount_good {κ : Kept} (s : State) (o : Int) (hg : Good κ s) :
    Good κ (State.lockCount s o) := by
  unfold State.lockCount
  repeat' (first
    | with_reducible assumption | with_reducible refine good_ite ?_ ?_
    | with_reducible refine State.ftStateSet_good _ _ ?_ | fail_if_no_progress with_reducible refine good_upd ?_
    | fail_if_no_progress with_reducible refine good_updFt ?_)

theorem State.keepSample_good {κ : Kept} (s : State) (o : Int) (d : Option Int) (hg : Good κ s) :
    Good κ (State.keepSample s o d) := by
  unfold State.keepSample
  repeat' (first
    | with_reducible assumption | with_reducible refine State.rgSet_good _ _ _ ?_
    | fail_if_no_progress with_reducible refine good_upd ?_
    | fail_if_no_progress with_reducible refine good_updFt ?_ | intro _ | (split))

theorem State.servoFirst_good {κ : Kept} (s : State) (o : Int) (d : Option Int) (hg : Good κ s) :
    Good κ (State.servoFirst s o d) := by
  unfold State.servoFirst
  repeat' (first
    | with_reducible assumption | with_reducible refine State.keepSample_good _ _ _ ?_
    | with_reducible refine State.ftStep_good _ _ _ ?_ | with_reducible refine State.lockCount_good _ _ ?_
    | fail_if_no_progress with_reducible refine good_upd ?_ | fail_if_no_progress with_reducible refine good_updFt ?_)

theorem State.servoRefuse_good {κ : Kept} (s : State) (o : Int) (hg : Good κ s) :
    Good κ (State.servoRefuse s o) := by
  unfold State.servoRefuse
  repeat' (first
    | with_reducible assumption | with_reducible refine good_ite ?_ ?_
    | with_reducible refine State.condition_good _ _ _ _ ?_ | with_reducible refine State.count_good _ _ ?_
    | with_reducible refine State.record_good _ _ _ _ _ _ ?_ | with_reducible refine State.ftStateSet_good _ _ ?_
    | fail_if_no_progress with_reducible refine good_upd ?_ | fail_if_no_progress with_reducible refine good_updFt ?_)

theorem State.servoApply_good {κ : Kept} (s : State) (o : Int) (t : Nat) (d : Option Int) (hg : Good κ s) :
    Good κ (State.servoApply s o t d) := by
  unfold State.servoApply
  repeat' (first
    | with_reducible assumption | with_reducible refine State.keepSample_good _ _ _ ?_
    | with_reducible refine State.setAdj_good _ _ ?_ | with_reducible refine State.lockCount_good _ _ ?_
    | fail_if_no_progress with_reducible refine good_upd ?_ | fail_if_no_progress with_reducible refine good_updFt ?_)

theorem State.servo_good {κ : Kept} (s : State) (o : Int) (t : Nat) (d : Option Int) (hg : Good κ s) :
    Good κ (State.servo s o t d) := by
  unfold State.servo
  repeat' (first
    | with_reducible assumption | with_reducible refine good_ite ?_ ?_
    | with_reducible refine State.servoFirst_good _ _ _ ?_ | with_reducible refine State.servoRefuse_good _ _ ?_
    | with_reducible refine State.servoApply_good _ _ _ _ ?_)

theorem State.syncSample_good {κ : Kept} (s : State) (o d : Int) (hg : Good κ s) :
    Good κ (State.syncSample s o d) := by
  unfold State.syncSample
  repeat' (first
    | with_reducible assumption | with_reducible refine good_ite ?_ ?_ | with_reducible refine State.count_good _ _ ?_
    | with_reducible refine State.servo_good _ _ _ _ ?_ | fail_if_no_progress with_reducible refine good_upd ?_
    | fail_if_no_progress with_reducible refine good_updFt ?_)

theorem State.timeSync_good {κ : Kept} (s : State) (q i : Nat) (ws : List Word) (hg : Good κ s) :
    Good κ (State.timeSync s q i ws) := by
  unfold State.timeSync
  repeat' (first
    | with_reducible assumption | with_reducible refine good_ite ?_ ?_
    | with_reducible refine State.onSync_good _ _ _ ?_ | with_reducible refine State.selectGm_good _ ?_
    | with_reducible refine State.count_good _ _ ?_ | with_reducible refine State.syncSample_good _ _ _ ?_
    | fail_if_no_progress with_reducible refine good_upd ?_ | intro _ | (split))

theorem State.ppsGate_good {κ : Kept} (s : State) (hg : Good κ s) :
    Good κ (State.ppsGate s) := by
  unfold State.ppsGate
  repeat' (first
    | with_reducible assumption | with_reducible refine good_ite ?_ ?_
    | fail_if_no_progress with_reducible refine good_upd ?_ | fail_if_no_progress with_reducible refine good_updFt ?_)

theorem State.noRefusals_good {κ : Kept} (s : State) (hg : Good κ s) :
    Good κ (State.noRefusals s) := by
  unfold State.noRefusals
  repeat' (first
    | with_reducible assumption | fail_if_no_progress with_reducible refine good_upd ?_
    | fail_if_no_progress with_reducible refine good_updFt ?_)

end Sys2Proof.Machine
end

