-- ==== Sys2Proof/Laws/GoodLanes.lean ====
section
/-! SUPPORT. What the operations of Machine/Lanes.lean keep: one lemma each (Laws/GoodBase.lean). -/

namespace Sys2Proof.Machine
open Sys2Proof

-- One proof at a time: proofs checked side by side take a stack each.
set_option Elab.async false

theorem State.onLane_good {κ : Kept} (s : State) (q i : Nat) (f : Lane → Lane) (hg : Good κ s) : Good κ (State.onLane s q i f) :=
  have r := recWf_iff hg.recs
  hg.setRecs (recWf_of r.1 r.2.1 r.2.2.1 (Laws.cset_wf r.2.2.2.1) r.2.2.2.2.1 r.2.2.2.2.2)

theorem State.onPort_good {κ : Kept} (s : State) (q : Nat) (f : Port → Port) (hg : Good κ s) : Good κ (State.onPort s q f) :=
  have r := recWf_iff hg.recs
  hg.setRecs (recWf_of r.1 r.2.1 r.2.2.1 r.2.2.2.1 (Laws.cset_wf r.2.2.2.2.1) r.2.2.2.2.2)

theorem State.laneStateSet_good {κ : Kept} (s : State) (q i v : Nat) (hg : Good κ s) :
    Good κ (State.laneStateSet s q i v) := by
  unfold State.laneStateSet
  repeat' (first | with_reducible assumption | with_reducible refine State.put_good _ _ _ _ _ ?_)

theorem State.portLeavesUp_good {κ : Kept} (s : State) (q : Nat) (hg : Good κ s) :
    Good κ (State.portLeavesUp s q) := by
  unfold State.portLeavesUp
  repeat' (first
    | with_reducible assumption | with_reducible refine good_ite ?_ ?_
    | with_reducible refine State.clrBit_good _ _ _ ?_ | with_reducible refine State.parentLost_good _ ?_)

theorem State.dropCtrl_good {κ : Kept} (s : State) (q : Nat) (hg : Good κ s) :
    Good κ (State.dropCtrl s q) := by
  unfold State.dropCtrl
  repeat' (first | with_reducible assumption | fail_if_no_progress with_reducible refine good_upd ?_)

theorem State.beginPhase_good {κ : Kept} (s : State) (q phase : Nat) (hg : Good κ s) :
    Good κ (State.beginPhase s q phase) := by
  unfold State.beginPhase
  repeat' (first
    | with_reducible assumption | with_reducible refine good_ite ?_ ?_
    | with_reducible refine State.onLane_good _ _ _ _ ?_ | with_reducible refine State.laneStateSet_good _ _ _ _ ?_
    | with_reducible refine State.onPort_good _ _ _ ?_ | fail_if_no_progress with_reducible refine good_upd ?_
    | with_reducible refine good_foldl ?_ ?_ | with_reducible refine good_foldl1 ?_ ?_
    | with_reducible refine good_foldl2 ?_ ?_ | intro _)

theorem State.endSeq_good {κ : Kept} (s : State) (q : Nat) (hg : Good κ s) :
    Good κ (State.endSeq s q) := by
  unfold State.endSeq
  repeat' (first
    | with_reducible assumption | with_reducible refine good_ite ?_ ?_
    | with_reducible refine State.onLane_good _ _ _ _ ?_ | with_reducible refine State.laneStateSet_good _ _ _ _ ?_
    | fail_if_no_progress with_reducible refine good_upd ?_ | with_reducible refine good_foldl ?_ ?_
    | with_reducible refine good_foldl1 ?_ ?_ | with_reducible refine good_foldl2 ?_ ?_ | intro _)

theorem State.startTrain_good {κ : Kept} (s : State) (q : Nat) (lanes : List Nat) (phase : Nat) (f : Port → Port)
    (hg : Good κ s) :
    Good κ (State.startTrain s q lanes phase f) := by
  unfold State.startTrain
  repeat' (first
    | with_reducible assumption | with_reducible refine State.onLane_good _ _ _ _ ?_
    | with_reducible refine State.endSeq_good _ _ ?_ | with_reducible refine State.put_good _ _ _ _ _ ?_
    | with_reducible refine State.onPort_good _ _ _ ?_ | with_reducible refine State.beginPhase_good _ _ _ ?_
    | fail_if_no_progress with_reducible refine good_upd ?_ | with_reducible refine good_foldl ?_ ?_
    | with_reducible refine good_foldl1 ?_ ?_ | with_reducible refine good_foldl2 ?_ ?_ | intro _)

theorem State.endTest_good {κ : Kept} (s : State) (q i : Nat) (hg : Good κ s) :
    Good κ (State.endTest s q i) := by
  unfold State.endTest
  repeat' (first
    | with_reducible assumption | with_reducible refine good_ite ?_ ?_
    | with_reducible refine State.laneStateSet_good _ _ _ _ ?_ | with_reducible refine State.clrBit_good _ _ _ ?_
    | with_reducible refine State.setBit_good _ _ _ ?_)

theorem State.startSparing_good {κ : Kept} (s : State) (q k : Nat) (ack : Bool) (hg : Good κ s) :
    Good κ (State.startSparing s q k ack).1 := by
  unfold State.startSparing
  repeat' (first
    | with_reducible assumption | with_reducible refine good_ite1 ?_ ?_
    | with_reducible refine State.endSeq_good _ _ ?_ | with_reducible refine State.endTest_good _ _ _ ?_
    | with_reducible refine State.put_good _ _ _ _ _ ?_ | with_reducible refine State.laneStateSet_good _ _ _ _ ?_
    | with_reducible refine State.clrBit_good _ _ _ ?_ | with_reducible refine State.setBit_good _ _ _ ?_
    | with_reducible refine State.portLeavesUp_good _ _ ?_ | with_reducible refine State.startTrain_good _ _ _ _ _ ?_)

theorem State.spareUnused_good {κ : Kept} (s : State) (q i : Nat) (hg : Good κ s) :
    Good κ (State.spareUnused s q i) := by
  unfold State.spareUnused
  repeat' (first
    | with_reducible assumption | with_reducible refine good_ite ?_ ?_
    | with_reducible refine State.startSparing_good _ _ _ _ ?_
    | with_reducible refine State.sendMgmt_good _ _ _ _ _ _ _ ?_ | intro _ | (split)
    | with_reducible refine good_pair2 (by with_reducible assumption) ?_
    | with_reducible refine good_pair1 (by with_reducible assumption) ?_)

theorem State.spareDegraded_good {κ : Kept} (s : State) (q : Nat) (hg : Good κ s) :
    Good κ (State.spareDegraded s q) := by
  unfold State.spareDegraded
  repeat' (first
    | with_reducible assumption | with_reducible refine State.spareUnused_good _ _ _ ?_ | intro _ | (split))

theorem State.endTraining_good {κ : Kept} (s : State) (q : Nat) (hg : Good κ s) :
    Good κ (State.endTraining s q) := by
  unfold State.endTraining
  repeat' (first
    | with_reducible assumption | with_reducible refine good_ite ?_ ?_
    | with_reducible refine State.endSeq_good _ _ ?_ | with_reducible refine State.setBit_good _ _ _ ?_
    | with_reducible refine State.portLeavesUp_good _ _ ?_ | with_reducible refine State.onPort_good _ _ _ ?_
    | with_reducible refine State.sendMgmt_good _ _ _ _ _ _ _ ?_)

theorem State.trainFail_good {κ : Kept} (s : State) (q code : Nat) (hg : Good κ s) (f_cmd : κ.cmd = none) :
    Good κ (State.trainFail s q code) := by
  unfold State.trainFail
  repeat' (first
    | with_reducible assumption | with_reducible refine good_ite ?_ ?_
    | with_reducible refine State.endTraining_good _ _ ?_ | with_reducible refine State.put_good _ _ _ _ _ ?_
    | with_reducible refine State.raiseLnk_good _ _ _ _ ?_ | with_reducible refine State.finish_good _ _ _ _ ?_ f_cmd
    | with_reducible refine State.spareUnused_good _ _ _ ?_ | with_reducible refine State.spareDegraded_good _ _ ?_)

theorem State.trainDone_good {κ : Kept} (s : State) (q : Nat) (hg : Good κ s) (f_cmd : κ.cmd = none) :
    Good κ (State.trainDone s q) := by
  unfold State.trainDone
  repeat' (first
    | with_reducible assumption | with_reducible refine good_ite ?_ ?_
    | with_reducible refine State.onLane_good _ _ _ _ ?_ | with_reducible refine State.laneStateSet_good _ _ _ _ ?_
    | with_reducible refine State.rnSet_good _ _ _ ?_ | with_reducible refine State.putBit_good _ _ _ _ ?_
    | with_reducible refine State.put_good _ _ _ _ _ ?_ | with_reducible refine State.raiseLnk_good _ _ _ _ ?_
    | with_reducible refine State.onPort_good _ _ _ ?_ | with_reducible refine State.sendMgmt_good _ _ _ _ _ _ _ ?_
    | with_reducible refine State.finishOpt_good _ _ _ _ ?_ f_cmd
    | with_reducible refine State.spareDegraded_good _ _ ?_ | fail_if_no_progress with_reducible refine good_upd ?_
    | fail_if_no_progress with_reducible refine good_updCmd ?_ f_cmd | with_reducible refine good_foldl ?_ ?_
    | with_reducible refine good_foldl1 ?_ ?_ | with_reducible refine good_foldl2 ?_ ?_ | intro _)

theorem State.joinLanes_good {κ : Kept} (s : State) (q : Nat) (hg : Good κ s) :
    Good κ (State.joinLanes s q) := by
  unfold State.joinLanes
  repeat' (first
    | with_reducible assumption | with_reducible refine good_ite ?_ ?_
    | with_reducible refine State.onLane_good _ _ _ _ ?_ | with_reducible refine State.portLeavesUp_good _ _ ?_
    | fail_if_no_progress with_reducible refine good_upd ?_ | with_reducible refine good_foldl ?_ ?_
    | with_reducible refine good_foldl1 ?_ ?_ | with_reducible refine good_foldl2 ?_ ?_ | intro _)

theorem State.replaceFailed_good {κ : Kept} (s : State) (q : Nat) (hg : Good κ s) :
    Good κ (State.replaceFailed s q) := by
  unfold State.replaceFailed
  repeat' (first
    | with_reducible assumption | with_reducible refine good_ite ?_ ?_
    | with_reducible refine State.put_good _ _ _ _ _ ?_ | with_reducible refine State.setBit_good _ _ _ ?_ | intro _
    | (split))

theorem State.identCheck_good {κ : Kept} (s : State) (q : Nat) (y0 : List (Nat × LaneId)) (hg : Good κ s) (f_cmd :
    κ.cmd = none) :
    Good κ (State.identCheck s q y0) := by
  unfold State.identCheck
  repeat' (first
    | with_reducible assumption | with_reducible refine good_ite ?_ ?_
    | with_reducible refine State.trainFail_good _ _ _ ?_ f_cmd | with_reducible refine State.rnSet_good _ _ _ ?_
    | with_reducible refine State.putBit_good _ _ _ _ ?_ | with_reducible refine State.joinLanes_good _ _ ?_
    | with_reducible refine State.beginPhase_good _ _ _ ?_ | with_reducible refine good_foldl ?_ ?_
    | with_reducible refine good_foldl1 ?_ ?_ | with_reducible refine good_foldl2 ?_ ?_ | intro _ | (split))

theorem State.identDone_good {κ : Kept} (s : State) (q : Nat) (hg : Good κ s) (f_cmd : κ.cmd = none) :
    Good κ (State.identDone s q) := by
  unfold State.identDone
  repeat' (first | with_reducible assumption | with_reducible refine State.identCheck_good _ _ _ ?_ f_cmd)

theorem State.leaveSeq_good {κ : Kept} (s : State) (q i : Nat) (hg : Good κ s) :
    Good κ (State.leaveSeq s q i) := by
  unfold State.leaveSeq
  repeat' (first
    | with_reducible assumption | with_reducible refine State.onLane_good _ _ _ _ ?_
    | with_reducible refine State.laneStateSet_good _ _ _ _ ?_)

theorem State.deskewDone_good {κ : Kept} (s : State) (q : Nat) (hg : Good κ s) (f_cmd : κ.cmd = none) :
    Good κ (State.deskewDone s q) := by
  unfold State.deskewDone
  repeat' (first
    | with_reducible assumption | with_reducible refine good_ite ?_ ?_
    | with_reducible refine State.trainFail_good _ _ _ ?_ f_cmd | with_reducible refine State.put_good _ _ _ _ _ ?_
    | with_reducible refine State.leaveSeq_good _ _ _ ?_ | with_reducible refine State.replaceFailed_good _ _ ?_
    | with_reducible refine State.beginPhase_good _ _ _ ?_ | with_reducible refine good_foldl ?_ ?_
    | with_reducible refine good_foldl1 ?_ ?_ | with_reducible refine good_foldl2 ?_ ?_ | intro _ | (split))

theorem State.nextPhase_good {κ : Kept} (s0 : State) (q : Nat) (hg : Good κ s0) (f_cmd : κ.cmd = none) :
    Good κ (State.nextPhase s0 q) := by
  unfold State.nextPhase
  repeat' (first
    | with_reducible assumption | with_reducible refine State.replaceFailed_good _ _ ?_
    | with_reducible refine State.beginPhase_good _ _ _ ?_ | with_reducible refine State.identDone_good _ _ ?_ f_cmd
    | with_reducible refine State.deskewDone_good _ _ ?_ f_cmd
    | with_reducible refine State.trainDone_good _ _ ?_ f_cmd | intro _ | (split)
    | with_reducible refine good_pair2 (by with_reducible assumption) ?_
    | with_reducible refine good_pair1 (by with_reducible assumption) ?_
    | with_reducible refine good_pair22 (by with_reducible assumption) ?_
    | with_reducible refine good_pair222 (by with_reducible assumption) ?_
    | with_reducible refine good_pair2222 (by with_reducible assumption) ?_ | (dsimp only))

theorem State.checkPhase_good {κ : Kept} (s : State) (q : Nat) (hg : Good κ s) (f_cmd : κ.cmd = none) :
    Good κ (State.checkPhase s q) := by
  unfold State.checkPhase
  repeat' (first
    | with_reducible assumption | with_reducible refine good_ite ?_ ?_
    | with_reducible refine State.nextPhase_good _ _ ?_ f_cmd)

theorem State.seqLeft_good {κ : Kept} (s : State) (q : Nat) (hg : Good κ s) (f_cmd : κ.cmd = none) :
    Good κ (State.seqLeft s q) := by
  unfold State.seqLeft
  repeat' (first
    | with_reducible assumption | with_reducible refine good_ite ?_ ?_
    | with_reducible refine State.replaceFailed_good _ _ ?_ | with_reducible refine State.checkPhase_good _ _ ?_ f_cmd
    | with_reducible refine State.trainFail_good _ _ _ ?_ f_cmd)

theorem State.closePhase_good {κ : Kept} (s : State) (q : Nat) (hg : Good κ s) (f_cmd : κ.cmd = none) :
    Good κ (State.closePhase s q) := by
  unfold State.closePhase
  repeat' (first
    | with_reducible assumption | with_reducible refine good_ite ?_ ?_
    | with_reducible refine State.leaveSeq_good _ _ _ ?_ | with_reducible refine State.trainFail_good _ _ _ ?_ f_cmd
    | with_reducible refine State.nextPhase_good _ _ ?_ f_cmd | with_reducible refine good_foldl ?_ ?_
    | with_reducible refine good_foldl1 ?_ ?_ | with_reducible refine good_foldl2 ?_ ?_ | intro _)

theorem State.matchFrame_good {κ : Kept} (s : State) (q i : Nat) (f : BitVec 896) (hg : Good κ s) (f_cmd : κ.cmd =
    none) :
    Good κ (State.matchFrame s q i f) := by
  unfold State.matchFrame
  repeat' (first
    | with_reducible assumption | with_reducible refine good_ite ?_ ?_
    | with_reducible refine State.onLane_good _ _ _ _ ?_ | with_reducible refine State.setBit_good _ _ _ ?_
    | with_reducible refine State.putBit_good _ _ _ _ ?_ | with_reducible refine State.checkPhase_good _ _ ?_ f_cmd
    | with_reducible refine State.leaveSeq_good _ _ _ ?_ | with_reducible refine State.seqLeft_good _ _ ?_ f_cmd)

theorem State.markerFrame_good {κ : Kept} (s : State) (q i offset : Nat) (f : BitVec 896) (hg : Good κ s) (f_cmd :
    κ.cmd = none) :
    Good κ (State.markerFrame s q i offset f) := by
  unfold State.markerFrame
  repeat' (first
    | with_reducible assumption | with_reducible refine good_ite ?_ ?_
    | with_reducible refine State.onLane_good _ _ _ _ ?_ | with_reducible refine State.setBit_good _ _ _ ?_
    | with_reducible refine State.putBit_good _ _ _ _ ?_ | with_reducible refine State.checkPhase_good _ _ ?_ f_cmd)

theorem State.trainFrame_good {κ : Kept} (s : State) (q i off : Nat) (f : BitVec 896) (hg : Good κ s) (f_cmd : κ.cmd
    = none) :
    Good κ (State.trainFrame s q i off f) := by
  unfold State.trainFrame
  repeat' (first
    | with_reducible assumption | with_reducible refine good_ite ?_ ?_
    | with_reducible refine State.markerFrame_good _ _ _ _ _ ?_ f_cmd
    | with_reducible refine State.matchFrame_good _ _ _ _ ?_ f_cmd
    | with_reducible refine State.onLane_good _ _ _ _ ?_ | with_reducible refine State.checkPhase_good _ _ ?_ f_cmd
    | with_reducible refine State.deskewDone_good _ _ ?_ f_cmd | with_reducible refine State.onPort_good _ _ _ ?_
    | with_reducible refine State.trainDone_good _ _ ?_ f_cmd | fail_if_no_progress with_reducible refine good_upd ?_
    | intro _ | (split))

theorem State.retrain_good {κ : Kept} (s : State) (q only : Nat) (lanes : List Nat) (hg : Good κ s) :
    Good κ (State.retrain s q only lanes) := by
  unfold State.retrain
  repeat' (first | with_reducible assumption | with_reducible refine State.startTrain_good _ _ _ _ _ ?_)

theorem State.downCure_good {κ : Kept} (s : State) (q i st : Nat) (inSeq : Bool) (hg : Good κ s) (f_cmd : κ.cmd =
    none) :
    Good κ (State.downCure s q i st inSeq) := by
  unfold State.downCure
  repeat' (first
    | with_reducible assumption | with_reducible refine good_ite ?_ ?_
    | with_reducible refine State.startTrain_good _ _ _ _ _ ?_ | with_reducible refine State.seqLeft_good _ _ ?_ f_cmd
    | with_reducible refine State.retrain_good _ _ _ _ ?_)

theorem State.laneDown_good {κ : Kept} (s : State) (q i : Nat) (hg : Good κ s) (f_cmd : κ.cmd = none) :
    Good κ (State.laneDown s q i) := by
  unfold State.laneDown
  repeat' (first
    | with_reducible assumption | with_reducible refine good_ite ?_ ?_
    | with_reducible refine State.onLane_good _ _ _ _ ?_ | with_reducible refine State.laneStateSet_good _ _ _ _ ?_
    | with_reducible refine State.raiseLnk_good _ _ _ _ ?_ | with_reducible refine State.portLeavesUp_good _ _ ?_
    | with_reducible refine State.downCure_good _ _ _ _ _ ?_ f_cmd
    | fail_if_no_progress with_reducible refine good_upd ?_)

theorem State.markerLost_good {κ : Kept} (s : State) (q i : Nat) (hg : Good κ s) (f_cmd : κ.cmd = none) :
    Good κ (State.markerLost s q i) := by
  unfold State.markerLost
  repeat' (first
    | with_reducible assumption | with_reducible refine State.setBit_good _ _ _ ?_
    | with_reducible refine State.raiseLnk_good _ _ _ _ ?_ | with_reducible refine State.onLane_good _ _ _ _ ?_
    | with_reducible refine State.laneDown_good _ _ _ ?_ f_cmd)

theorem State.trainArrives_good {κ : Kept} (s : State) (q i off : Nat) (f : BitVec 896) (hg : Good κ s) (f_cmd :
    κ.cmd = none) :
    Good κ (State.trainArrives s q i off f) := by
  unfold State.trainArrives
  repeat' (first
    | with_reducible assumption | with_reducible refine good_ite ?_ ?_
    | with_reducible refine State.markerLost_good _ _ _ ?_ f_cmd
    | with_reducible refine State.trainFrame_good _ _ _ _ _ ?_ f_cmd)

theorem State.testCure_good {κ : Kept} (s : State) (q i : Nat) (hg : Good κ s) :
    Good κ (State.testCure s q i) := by
  unfold State.testCure
  repeat' (first
    | with_reducible assumption | with_reducible refine good_ite ?_ ?_
    | with_reducible refine State.retrain_good _ _ _ _ ?_)

theorem State.setTest_good {κ : Kept} (s : State) (q i : Nat) (on : Bool) (hg : Good κ s) (f_cmd : κ.cmd = none) :
    Good κ (State.setTest s q i on) := by
  unfold State.setTest
  repeat' (first
    | with_reducible assumption | with_reducible refine good_ite ?_ ?_
    | with_reducible refine State.setBit_good _ _ _ ?_ | with_reducible refine State.laneStateSet_good _ _ _ _ ?_
    | with_reducible refine State.onLane_good _ _ _ _ ?_ | with_reducible refine State.clrBit_good _ _ _ ?_
    | with_reducible refine State.portLeavesUp_good _ _ ?_ | with_reducible refine State.seqLeft_good _ _ ?_ f_cmd
    | with_reducible refine State.testCure_good _ _ _ ?_)

theorem State.laneReset_good {κ : Kept} (s : State) (q i : Nat) (hg : Good κ s) (f_cmd : κ.cmd = none) :
    Good κ (State.laneReset s q i) := by
  unfold State.laneReset
  repeat' (first
    | with_reducible assumption | with_reducible refine good_ite ?_ ?_
    | with_reducible refine State.setBit_good _ _ _ ?_ | with_reducible refine State.endTraining_good _ _ ?_
    | with_reducible refine State.finishOpt_good _ _ _ _ ?_ f_cmd
    | with_reducible refine State.rgResetRange_good _ _ _ ?_ | with_reducible refine State.onLane_good _ _ _ _ ?_
    | with_reducible refine State.portLeavesUp_good _ _ ?_ | fail_if_no_progress with_reducible refine good_upd ?_)

theorem State.laneCtrlWrite_good {κ : Kept} (s : State) (fn v : Nat) (r : RegRow) (is : List Nat) (hg : Good κ s)
    (f_cmd : κ.cmd = none) :
    Good κ (State.laneCtrlWrite s fn v r is) := by
  unfold State.laneCtrlWrite
  repeat' (first
    | with_reducible assumption | with_reducible refine good_ite ?_ ?_
    | with_reducible refine State.rsvdCheck_good _ _ _ _ ?_
    | with_reducible refine State.laneReset_good _ _ _ ?_ f_cmd | with_reducible refine State.setBit_good _ _ _ ?_
    | with_reducible refine State.putBit_good _ _ _ _ ?_ | with_reducible refine State.setTest_good _ _ _ _ ?_ f_cmd
    | with_reducible refine State.put_good _ _ _ _ _ ?_ | with_reducible refine State.onLane_good _ _ _ _ ?_
    | with_reducible refine State.clrBit_good _ _ _ ?_)

theorem State.laneTestWrite_good {κ : Kept} (s : State) (fn v : Nat) (r : RegRow) (is : List Nat) (hg : Good κ s) :
    Good κ (State.laneTestWrite s fn v r is) := by
  unfold State.laneTestWrite
  repeat' (first
    | with_reducible assumption | with_reducible refine good_ite ?_ ?_
    | with_reducible refine State.rsvdCheck_good _ _ _ _ ?_ | with_reducible refine State.rnSet_good _ _ _ ?_
    | with_reducible refine State.onLane_good _ _ _ _ ?_ | with_reducible refine State.clrBit_good _ _ _ ?_)

theorem State.portCtrlWrite_good {κ : Kept} (s : State) (fn v : Nat) (r : RegRow) (is : List Nat) (hg : Good κ s)
    (f_cmd : κ.cmd = none) :
    Good κ (State.portCtrlWrite s fn v r is) := by
  unfold State.portCtrlWrite
  repeat' (first
    | with_reducible assumption | with_reducible refine good_ite ?_ ?_
    | with_reducible refine State.plainWrite_good _ _ _ _ _ _ ?_ | with_reducible refine State.clrBit_good _ _ _ ?_
    | with_reducible refine State.closePhase_good _ _ ?_ f_cmd
    | with_reducible refine State.spareDegraded_good _ _ ?_)

theorem State.corrWrite_good {κ : Kept} (s : State) (fn a v : Nat) (r : RegRow) (is : List Nat) (hg : Good κ s) :
    Good κ (State.corrWrite s fn a v r is) := by
  unfold State.corrWrite
  repeat' (first
    | with_reducible assumption | with_reducible refine good_ite ?_ ?_
    | with_reducible refine State.rsvdCheck_good _ _ _ _ ?_ | with_reducible refine State.setBit_good _ _ _ ?_
    | with_reducible refine State.plainWrite_good _ _ _ _ _ _ ?_)

theorem State.countBits_good {κ : Kept} (s : State) (q i n : Nat) (hg : Good κ s) :
    Good κ (State.countBits s q i n) := by
  unfold State.countBits
  repeat' (first
    | with_reducible assumption | with_reducible refine good_ite ?_ ?_
    | with_reducible refine State.rnSet64_good _ _ _ ?_ | with_reducible refine State.setBit_good _ _ _ ?_)

theorem State.chkBits_good {κ : Kept} (s : State) (port lane : Nat) (bits : List Bool) (hg : Good κ s) :
    Good κ (State.chkBits s port lane bits) := by
  unfold State.chkBits
  repeat' (first
    | with_reducible assumption | with_reducible refine good_ite ?_ ?_
    | with_reducible refine State.onLane_good _ _ _ _ ?_ | with_reducible refine State.setBit_good _ _ _ ?_
    | with_reducible refine State.countBits_good _ _ _ _ ?_ | with_reducible refine State.countBy_good _ _ _ ?_)

theorem State.testTick_good {κ : Kept} (s : State) (hg : Good κ s) (f_cmd : κ.cmd = none) :
    Good κ (State.testTick s) := by
  unfold State.testTick
  repeat' (first
    | with_reducible assumption | with_reducible refine good_ite ?_ ?_
    | with_reducible refine State.clrBit_good _ _ _ ?_ | with_reducible refine State.finish_good _ _ _ _ ?_ f_cmd
    | with_reducible refine State.onPort_good _ _ _ ?_ | fail_if_no_progress with_reducible refine good_upd ?_
    | with_reducible refine good_foldl ?_ ?_ | with_reducible refine good_foldl1 ?_ ?_
    | with_reducible refine good_foldl2 ?_ ?_ | intro _)

theorem State.mgmtBad_good {κ : Kept} (s : State) (q : Nat) (hg : Good κ s) :
    Good κ (State.mgmtBad s q) := by
  unfold State.mgmtBad
  repeat' (first | with_reducible assumption | with_reducible refine State.raiseLnk_good _ _ _ _ ?_)

theorem State.holdLane_good {κ : Kept} (s : State) (q k : Nat) (hg : Good κ s) (f_plots : κ.plots = none) :
    Good κ (State.holdLane s q k) := by
  unfold State.holdLane
  repeat' (first
    | with_reducible assumption | with_reducible refine State.onCmt_good _ _ _ ?_ f_plots
    | fail_if_no_progress with_reducible refine good_upd ?_ | intro _ | (split))

theorem State.spareReq_good {κ : Kept} (s : State) (q : Nat) (ws : List Word) (hg : Good κ s) (f_plots : κ.plots =
    none) :
    Good κ (State.spareReq s q ws) := by
  unfold State.spareReq
  repeat' (first
    | with_reducible assumption | with_reducible refine good_ite ?_ ?_
    | with_reducible refine State.onPort_good _ _ _ ?_ | with_reducible refine State.sendMgmt_good _ _ _ _ _ _ _ ?_
    | with_reducible refine State.startSparing_good _ _ _ _ ?_
    | with_reducible refine State.holdLane_good _ _ _ ?_ f_plots
    | fail_if_no_progress with_reducible refine good_upd ?_ | intro _ | (split)
    | with_reducible refine good_pair2 (by with_reducible assumption) ?_
    | with_reducible refine good_pair1 (by with_reducible assumption) ?_)

theorem State.spareAck_good {κ : Kept} (s : State) (q : Nat) (ws : List Word) (hg : Good κ s) (f_plots : κ.plots =
    none) :
    Good κ (State.spareAck s q ws) := by
  unfold State.spareAck
  repeat' (first
    | with_reducible assumption | with_reducible refine good_ite ?_ ?_
    | with_reducible refine State.onCmt_good _ _ _ ?_ f_plots
    | fail_if_no_progress with_reducible refine good_upd ?_ | intro _ | (split))

theorem State.loopReq_good {κ : Kept} (s : State) (q : Nat) (ws : List Word) (hg : Good κ s) (f_cmd : κ.cmd = none)
    :
    Good κ (State.loopReq s q ws) := by
  unfold State.loopReq
  repeat' (first
    | with_reducible assumption | with_reducible refine good_ite ?_ ?_
    | with_reducible refine State.sendMgmt_good _ _ _ _ _ _ _ ?_
    | with_reducible refine State.setTest_good _ _ _ _ ?_ f_cmd | with_reducible refine State.put_good _ _ _ _ _ ?_)

theorem State.loopAck_good {κ : Kept} (s : State) (q : Nat) (ws : List Word) (hg : Good κ s) (f_cmd : κ.cmd = none)
    :
    Good κ (State.loopAck s q ws) := by
  unfold State.loopAck
  repeat' (first
    | with_reducible assumption | with_reducible refine good_ite ?_ ?_
    | with_reducible refine State.finish_good _ _ _ _ ?_ f_cmd | with_reducible refine State.onPort_good _ _ _ ?_)

theorem State.laneHealth_good {κ : Kept} (s : State) (q : Nat) (_ws : List Word) (hg : Good κ s) :
    Good κ (State.laneHealth s q _ws) := by
  unfold State.laneHealth
  repeat' (first
    | with_reducible assumption | with_reducible refine good_ite ?_ ?_
    | with_reducible refine State.mgmtBad_good _ _ ?_)

theorem State.mgmtPacket_good {κ : Kept} (s : State) (q : Nat) (ws : List Word) (hg : Good κ s) (f_plots : κ.plots =
    none) (f_cmd : κ.cmd = none) :
    Good κ (State.mgmtPacket s q ws) := by
  unfold State.mgmtPacket
  repeat' (first
    | with_reducible assumption | with_reducible refine State.spareReq_good _ _ _ ?_ f_plots
    | with_reducible refine State.spareAck_good _ _ _ ?_ f_plots
    | with_reducible refine State.loopReq_good _ _ _ ?_ f_cmd
    | with_reducible refine State.loopAck_good _ _ _ ?_ f_cmd | with_reducible refine State.laneHealth_good _ _ _ ?_
    | with_reducible refine State.mgmtBad_good _ _ ?_ | intro _ | (split))

end Sys2Proof.Machine
end

