-- ==== Sys2Proof/Laws/GoodFieldIo.lean ====
section
/-! SUPPORT. What the operations of Machine/FieldIo.lean keep: one lemma each (Laws/GoodBase.lean). -/

namespace Sys2Proof.Machine
open Sys2Proof

-- One proof at a time: proofs checked side by side take a stack each.
set_option Elab.async false

theorem State.fioSet_good {κ : Kept} (s : State) (q : Nat) (x : Fio) (hg : Good κ s) : Good κ (State.fioSet s q x) :=
  have r := recWf_iff hg.recs
  hg.setRecs (recWf_of r.1 (Laws.cset_wf r.2.1) r.2.2.1 r.2.2.2.1 r.2.2.2.2.1 r.2.2.2.2.2)

theorem State.onFio_good {κ : Kept} (s : State) (q : Nat) (f : Fio → Fio) (hg : Good κ s) :
    Good κ (State.onFio s q f) := by
  unfold State.onFio
  repeat' (first | with_reducible assumption | with_reducible refine State.fioSet_good _ _ _ ?_)

theorem State.raiseFio_good {κ : Kept} (s : State) (q cause : Nat) (plot : Option Nat) (pn : Nat) (hg : Good κ s) :
    Good κ (State.raiseFio s q cause plot pn) := by
  unfold State.raiseFio
  repeat' (first | with_reducible assumption | with_reducible refine State.raiseAt_good _ _ _ _ _ _ _ ?_)

theorem State.fioInject_good {κ : Kept} (s : State) (p pn q : Nat) (hg : Good κ s) :
    Good κ (State.fioInject s p pn q) := by
  unfold State.fioInject
  repeat' (first
    | with_reducible assumption | with_reducible refine State.injectAt_good _ _ _ _ _ ?_ ?_ ?_
    | with_reducible refine State.raiseFio_good _ _ _ _ _ ?_ | with_reducible refine State.count_good _ _ ?_
    | exact fun _ => rfl | exact Or.inr fun _ => rfl | exact Or.inr rfl | exact Or.inl (by with_reducible assumption)
    | intro _ | (split))

theorem State.logAdd_good {κ : Kept} (s : State) (p : Nat) (r : LogRec) (hg : Good κ s) (f_plots : κ.plots = none) :
    Good κ (State.logAdd s p r) := by
  unfold State.logAdd
  repeat' (first
    | with_reducible assumption | with_reducible refine State.onPlot_good _ _ _ ?_ ?_ ?_ ?_ f_plots
    | fail_if_no_progress with_reducible refine good_upd ?_ | exact Or.inr fun _ => rfl)

theorem State.logTrim_good {κ : Kept} (s : State) (p n : Nat) (hg : Good κ s) (f_plots : κ.plots = none) :
    Good κ (State.logTrim s p n) := by
  unfold State.logTrim
  repeat' (first
    | with_reducible assumption | with_reducible refine State.onPlot_good _ _ _ ?_ ?_ ?_ ?_ f_plots
    | fail_if_no_progress with_reducible refine good_upd ?_ | with_reducible refine good_foldl ?_ ?_
    | with_reducible refine good_foldl1 ?_ ?_ | with_reducible refine good_foldl2 ?_ ?_ | exact Or.inr fun _ => rfl)

theorem State.spmCond_good {κ : Kept} (s : State) (i : Nat) (hg : Good κ s) :
    Good κ (State.spmCond s i) := by
  unfold State.spmCond
  repeat' (first | with_reducible assumption | with_reducible refine State.condition_good _ _ _ _ ?_)

theorem State.spmInject_good {κ : Kept} (s : State) (addr : Nat) (hg : Good κ s) :
    Good κ (State.spmInject s addr) := by
  unfold State.spmInject
  repeat' (first
    | with_reducible assumption | with_reducible refine good_ite ?_ ?_
    | with_reducible refine State.injectAt_good _ _ _ _ _ ?_ ?_ ?_
    | with_reducible refine State.upsetItem_good _ _ _ _ ?_ | with_reducible refine State.spmCond_good _ _ ?_
    | with_reducible refine State.bucket_good _ _ _ ?_ | exact fun _ => rfl | exact Or.inr fun _ => rfl
    | exact Or.inr rfl | exact Or.inl (by with_reducible assumption) | intro _)

theorem State.spmCheck_good {κ : Kept} (s0 : State) (addr : Nat) (hg : Good κ s0) :
    Good κ (State.spmCheck s0 addr).2 := by
  unfold State.spmCheck
  repeat' (first
    | with_reducible assumption | with_reducible refine State.spmInject_good _ _ ?_
    | with_reducible refine State.eccSet_good _ _ _ _ ?_ | with_reducible refine State.spmCond_good _ _ ?_
    | with_reducible refine State.bucket_good _ _ _ ?_ | intro _ | (split)
    | with_reducible refine good_pair2 (by with_reducible assumption) ?_
    | with_reducible refine good_pair1 (by with_reducible assumption) ?_
    | with_reducible refine good_pair22 (by with_reducible assumption) ?_
    | with_reducible refine good_pair222 (by with_reducible assumption) ?_
    | with_reducible refine good_pair2222 (by with_reducible assumption) ?_ | (dsimp only))

theorem State.brgPtr_good {κ : Kept} (s : State) (q : Nat) (hg : Good κ s) :
    Good κ (State.brgPtr s q) := by
  unfold State.brgPtr
  repeat' (first | with_reducible assumption | with_reducible refine State.rnSet_good _ _ _ ?_)

theorem State.brgDrop_good {κ : Kept} (s : State) (q cause : Nat) (pn : Nat) (hg : Good κ s) :
    Good κ (State.brgDrop s q cause pn) := by
  unfold State.brgDrop
  repeat' (first
    | with_reducible assumption | with_reducible refine State.raiseFio_good _ _ _ _ _ ?_
    | with_reducible refine State.count_good _ _ ?_)

theorem State.ringWrite_good {κ : Kept} (s : State) (addr : Nat) (ws : List Nat) (hg : Good κ s) (f_spm : κ.spm =
    none) :
    Good κ (State.ringWrite s addr ws) := by
  unfold State.ringWrite
  exact State.spmWrite_good _ _ _ (State.eccSet_good _ _ _ _ (State.eccSet_good _ _ _ _ (State.spmInject_good _ _ hg))) f_spm

theorem State.bridgeDeliver_good {κ : Kept} (s : State) (p q pn : Nat) (hg : Good κ s) :
    Good κ (State.bridgeDeliver s p q pn).2 := by
  unfold State.bridgeDeliver
  repeat' (first
    | with_reducible assumption | with_reducible refine good_ite ?_ ?_
    | with_reducible refine good_ite2 ?_ ?_ | with_reducible refine State.fioSet_good _ _ _ ?_
    | with_reducible refine State.spmCheck_good _ _ ?_ | with_reducible refine State.raiseFio_good _ _ _ _ _ ?_)

theorem State.latchPort_good {κ : Kept} (s0 : State) (p pn : Nat) (pins : List (Nat × Nat)) (q : Nat) (hg : Good κ
    s0) (f_plots : κ.plots = none) :
    Good κ (State.latchPort s0 p pn pins q) := by
  unfold State.latchPort
  repeat' (first
    | with_reducible assumption | with_reducible refine good_ite ?_ ?_
    | with_reducible refine State.fioInject_good _ _ _ _ ?_ | with_reducible refine State.onFio_good _ _ _ ?_
    | with_reducible refine State.bridgeDeliver_good _ _ _ _ ?_
    | with_reducible refine State.logAdd_good _ _ _ ?_ f_plots | fail_if_no_progress with_reducible refine good_upd ?_
    | intro _ | (split))

theorem State.loadInputs_good {κ : Kept} (s : State) (p : Nat) (hg : Good κ s) :
    Good κ (State.loadInputs s p) := by
  unfold State.loadInputs
  repeat' (first
    | with_reducible assumption | fail_if_no_progress with_reducible refine good_upd ?_
    | with_reducible refine good_foldl ?_ ?_ | with_reducible refine good_foldl1 ?_ ?_
    | with_reducible refine good_foldl2 ?_ ?_ | intro _)

theorem State.latchAll_good {κ : Kept} (s : State) (p pn : Nat) (pins : List (Nat × Nat)) (hg : Good κ s) (f_plots :
    κ.plots = none) :
    Good κ (State.latchAll s p pn pins) := by
  unfold State.latchAll
  repeat' (first
    | with_reducible assumption | with_reducible refine State.latchPort_good _ _ _ _ _ ?_ f_plots
    | with_reducible refine State.loadInputs_good _ _ ?_ | with_reducible refine good_foldl ?_ ?_
    | with_reducible refine good_foldl1 ?_ ?_ | with_reducible refine good_foldl2 ?_ ?_ | intro _)

theorem State.reloadInputs_good {κ : Kept} (s : State) (p phys st : Nat) (bits : List Nat) (hg : Good κ s) :
    Good κ (State.reloadInputs s p phys st bits) := by
  unfold State.reloadInputs
  repeat' (first
    | with_reducible assumption | with_reducible refine good_ite ?_ ?_
    | fail_if_no_progress with_reducible refine good_upd ?_ | with_reducible refine good_foldl ?_ ?_
    | with_reducible refine good_foldl1 ?_ ?_ | with_reducible refine good_foldl2 ?_ ?_ | intro _)

theorem State.corunCompare_good {κ : Kept} (s : State) (q pn qn ft : Nat) (sample expect : List Val) (hg : Good κ s)
    :
    Good κ (State.corunCompare s q pn qn ft sample expect) := by
  unfold State.corunCompare
  repeat' (first
    | with_reducible assumption | with_reducible refine good_ite ?_ ?_
    | with_reducible refine State.onFio_good _ _ _ ?_)

theorem State.midSample_good {κ : Kept} (s : State) (p : Nat) (pins : List (Nat × Nat)) (q : Nat) (hg : Good κ s)
    (f_plots : κ.plots = none) :
    Good κ (State.midSample s p pins q).2 := by
  unfold State.midSample
  repeat' (first
    | with_reducible assumption | with_reducible refine good_ite2 ?_ ?_
    | with_reducible refine State.onFio_good _ _ _ ?_ | with_reducible refine State.corunCompare_good _ _ _ _ _ _ _ ?_
    | with_reducible refine State.logAdd_good _ _ _ ?_ f_plots | fail_if_no_progress with_reducible refine good_upd ?_
    | intro _ | (split) | with_reducible refine good_pair2 (by with_reducible assumption) ?_
    | with_reducible refine good_pair1 (by with_reducible assumption) ?_
    | with_reducible refine good_pair22 (by with_reducible assumption) ?_
    | with_reducible refine good_pair222 (by with_reducible assumption) ?_
    | with_reducible refine good_pair2222 (by with_reducible assumption) ?_ | (dsimp only))

theorem State.corunFinal_good {κ : Kept} (s : State) (p q : Nat) (c : Compare) (hg : Good κ s) :
    Good κ (State.corunFinal s p q c) := by
  unfold State.corunFinal
  repeat' (first
    | with_reducible assumption | with_reducible refine good_ite ?_ ?_
    | with_reducible refine State.raiseFio_good _ _ _ _ _ ?_ | with_reducible refine State.count_good _ _ ?_
    | with_reducible refine State.plotInt_good _ _ _ ?_ | with_reducible refine State.rnSet_good _ _ _ ?_
    | with_reducible refine State.rnSet64_good _ _ _ ?_ | with_reducible refine State.rgSet_good _ _ _ ?_
    | with_reducible refine State.event_good _ _ ?_)

theorem State.bridgeCommit_good {κ : Kept} (s : State) (p pn : Nat) (hg : Good κ s) :
    Good κ (State.bridgeCommit s p pn) := by
  unfold State.bridgeCommit
  repeat' (first
    | with_reducible assumption | with_reducible refine State.onFio_good _ _ _ ?_
    | with_reducible refine State.brgPtr_good _ _ ?_
    | fail_if_no_progress with_reducible refine good_upd ?_ | with_reducible refine good_foldl ?_ ?_
    | with_reducible refine good_foldl1 ?_ ?_ | with_reducible refine good_foldl2 ?_ ?_ | intro _ | (split))

theorem State.corunCommit_good {κ : Kept} (s : State) (p pn : Nat) (hg : Good κ s) (f_plots : κ.plots = none) :
    Good κ (State.corunCommit s p pn) := by
  unfold State.corunCommit
  repeat' (first
    | with_reducible assumption | with_reducible refine good_ite ?_ ?_
    | with_reducible refine State.corunFinal_good _ _ _ _ ?_ | with_reducible refine State.onFio_good _ _ _ ?_
    | with_reducible refine State.onPlot_good _ _ _ ?_ ?_ ?_ ?_ f_plots
    | fail_if_no_progress with_reducible refine good_upd ?_ | with_reducible refine good_foldl ?_ ?_
    | with_reducible refine good_foldl1 ?_ ?_ | with_reducible refine good_foldl2 ?_ ?_ | exact fun _ => rfl
    | exact Or.inr fun _ => rfl | exact Or.inr rfl | exact Or.inl (by with_reducible assumption) | intro _)

theorem State.fioDiscard_good {κ : Kept} (s : State) (p k : Nat) (keep : Nat := 0) (hg : Good κ s) :
    Good κ (State.fioDiscard s p k keep) := by
  unfold State.fioDiscard
  repeat' (first
    | with_reducible assumption | with_reducible refine State.onFio_good _ _ _ ?_
    | fail_if_no_progress with_reducible refine good_upd ?_ | with_reducible refine good_foldl ?_ ?_
    | with_reducible refine good_foldl1 ?_ ?_ | with_reducible refine good_foldl2 ?_ ?_ | intro _)

theorem State.stagePass_good {κ : Kept} (s : State) (p : Nat) (hg : Good κ s) :
    Good κ (State.stagePass s p) := by
  unfold State.stagePass
  repeat' (first
    | with_reducible assumption | with_reducible refine State.onFio_good _ _ _ ?_
    | fail_if_no_progress with_reducible refine good_upd ?_ | with_reducible refine good_foldl ?_ ?_
    | with_reducible refine good_foldl1 ?_ ?_ | with_reducible refine good_foldl2 ?_ ?_ | intro _)

theorem State.restage_good {κ : Kept} (s : State) (p k : Nat) (hg : Good κ s) :
    Good κ (State.restage s p k) := by
  unfold State.restage
  repeat' (first
    | with_reducible assumption | fail_if_no_progress with_reducible refine good_upd ?_
    | with_reducible refine good_foldl ?_ ?_ | with_reducible refine good_foldl1 ?_ ?_
    | with_reducible refine good_foldl2 ?_ ?_ | intro _ | (split))

theorem State.driveVals_good {κ : Kept} (s : State) (p q : Nat) (pins : List Nat) (vals : List Val) (hg : Good κ s)
    :
    Good κ (State.driveVals s p q pins vals) := by
  unfold State.driveVals
  repeat' (first
    | with_reducible assumption | with_reducible refine good_ite ?_ ?_
    | with_reducible refine State.onFio_good _ _ _ ?_ | with_reducible refine State.raiseFio_good _ _ _ _ _ ?_)

theorem State.bridgePush_good {κ : Kept} (s : State) (p q : Nat) (vals : List Val) (hg : Good κ s) (f_spm : κ.spm =
    none) :
    Good κ (State.bridgePush s p q vals) := by
  unfold State.bridgePush
  repeat' (first
    | with_reducible assumption | with_reducible refine good_ite ?_ ?_
    | with_reducible refine State.raiseFio_good _ _ _ _ _ ?_ | with_reducible refine State.brgDrop_good _ _ _ _ ?_
    | with_reducible refine State.ringWrite_good _ _ _ ?_ f_spm | with_reducible refine State.onFio_good _ _ _ ?_
    | with_reducible refine State.brgPtr_good _ _ ?_)

theorem State.releasePort_good {κ : Kept} (s : State) (p q qn : Nat) (hg : Good κ s) (f_spm : κ.spm = none) :
    Good κ (State.releasePort s p q qn) := by
  unfold State.releasePort
  repeat' (first
    | with_reducible assumption | with_reducible refine good_ite ?_ ?_
    | with_reducible refine State.bridgePush_good _ _ _ _ ?_ f_spm
    | with_reducible refine State.driveVals_good _ _ _ _ _ ?_ | with_reducible refine State.onFio_good _ _ _ ?_
    | fail_if_no_progress with_reducible refine good_upd ?_ | intro _ | (split))

theorem State.clockFall_good {κ : Kept} (s : State) (p q : Nat) (hg : Good κ s) :
    Good κ (State.clockFall s p q) := by
  unfold State.clockFall
  repeat' (first
    | with_reducible assumption | with_reducible refine good_ite ?_ ?_
    | with_reducible refine State.onFio_good _ _ _ ?_ | with_reducible refine State.raiseFio_good _ _ _ _ _ ?_)

theorem State.releaseAll_good {κ : Kept} (s : State) (p : Nat) (direct : Bool) (commit : Option Nat) (hg : Good κ s)
    (f_spm : κ.spm = none) :
    Good κ (State.releaseAll s p direct commit) := by
  unfold State.releaseAll
  repeat' (first
    | with_reducible assumption | with_reducible refine good_ite ?_ ?_
    | with_reducible refine State.releasePort_good _ _ _ _ ?_ f_spm | with_reducible refine State.onFio_good _ _ _ ?_
    | fail_if_no_progress with_reducible refine good_upd ?_ | with_reducible refine good_foldl ?_ ?_
    | with_reducible refine good_foldl1 ?_ ?_ | with_reducible refine good_foldl2 ?_ ?_ | intro _ | (split))

theorem State.park_good {κ : Kept} (s : State) (q : Nat) (hg : Good κ s) :
    Good κ (State.park s q) := by
  unfold State.park
  repeat' (first
    | with_reducible assumption | with_reducible refine State.onFio_good _ _ _ ?_
    | with_reducible refine State.setBit_good _ _ _ ?_)

theorem State.parkReset_good {κ : Kept} (s : State) (q : Nat) (hg : Good κ s) :
    Good κ (State.parkReset s q) := by
  unfold State.parkReset
  repeat' (first
    | with_reducible assumption | with_reducible refine State.park_good _ _ ?_
    | with_reducible refine State.fioSet_good _ _ _ ?_ | with_reducible refine State.rnSet_good _ _ _ ?_)

theorem State.unpark_good {κ : Kept} (s : State) (p q : Nat) (init : List Val) (hg : Good κ s) :
    Good κ (State.unpark s p q init) := by
  unfold State.unpark
  repeat' (first
    | with_reducible assumption | with_reducible refine State.clrBit_good _ _ _ ?_
    | with_reducible refine State.onFio_good _ _ _ ?_ | with_reducible refine State.driveVals_good _ _ _ _ _ ?_)

theorem State.gateTake_good {κ : Kept} (s : State) (g : Nat) (v : Val) (hg : Good κ s) :
    Good κ (State.gateTake s g v) := by
  unfold State.gateTake
  repeat' (first
    | with_reducible assumption | with_reducible refine State.put_good _ _ _ _ _ ?_
    | with_reducible refine State.clrBit_good _ _ _ ?_ | fail_if_no_progress with_reducible refine good_upd ?_)

theorem State.gateUpdate_good {κ : Kept} (s : State) (p qn : Nat) (hg : Good κ s) :
    Good κ (State.gateUpdate s p qn) := by
  unfold State.gateUpdate
  repeat' (first
    | with_reducible assumption | with_reducible refine State.gateTake_good _ _ _ ?_
    | fail_if_no_progress with_reducible refine good_upd ?_ | with_reducible refine good_foldl ?_ ?_
    | with_reducible refine good_foldl1 ?_ ?_ | with_reducible refine good_foldl2 ?_ ?_ | intro _)

theorem State.gateDiscard_good {κ : Kept} (s : State) (p k : Nat) (hg : Good κ s) :
    Good κ (State.gateDiscard s p k) := by
  unfold State.gateDiscard
  repeat' (first | with_reducible assumption | fail_if_no_progress with_reducible refine good_upd ?_)

theorem State.sampleGates_good {κ : Kept} (s : State) (p pn : Nat) (hg : Good κ s) (f_plots : κ.plots = none) :
    Good κ (State.sampleGates s p pn) := by
  unfold State.sampleGates
  repeat' (first
    | with_reducible assumption | with_reducible refine good_ite ?_ ?_
    | with_reducible refine State.setBit_good _ _ _ ?_ | with_reducible refine State.logAdd_good _ _ _ ?_ f_plots
    | with_reducible refine State.gate_good _ _ _ ?_ ?_ ?_ | fail_if_no_progress with_reducible refine good_upd ?_
    | with_reducible refine good_foldl ?_ ?_ | with_reducible refine good_foldl1 ?_ ?_
    | with_reducible refine good_foldl2 ?_ ?_ | exact fun _ => rfl | exact Or.inr fun _ => rfl | exact Or.inr rfl
    | exact Or.inl (by with_reducible assumption) | intro _ | (split))

theorem State.gateParkOne_good {κ : Kept} (s : State) (g : Nat) (hg : Good κ s) :
    Good κ (State.gateParkOne s g) := by
  unfold State.gateParkOne
  repeat' (first
    | with_reducible assumption | with_reducible refine good_ite ?_ ?_
    | with_reducible refine State.put_good _ _ _ _ _ ?_ | with_reducible refine State.setBit_good _ _ _ ?_
    | fail_if_no_progress with_reducible refine good_upd ?_)

theorem State.gatePark_good {κ : Kept} (s : State) (p : Nat) (hg : Good κ s) :
    Good κ (State.gatePark s p) := by
  unfold State.gatePark
  repeat' (first
    | with_reducible assumption | with_reducible refine State.gateParkOne_good _ _ ?_
    | with_reducible refine good_foldl ?_ ?_ | with_reducible refine good_foldl1 ?_ ?_
    | with_reducible refine good_foldl2 ?_ ?_ | intro _)

theorem State.gateUnpark_good {κ : Kept} (s : State) (p : Nat) (hg : Good κ s) :
    Good κ (State.gateUnpark s p) := by
  unfold State.gateUnpark
  repeat' (first
    | with_reducible assumption | with_reducible refine good_ite ?_ ?_
    | with_reducible refine State.clrBit_good _ _ _ ?_ | with_reducible refine good_foldl ?_ ?_
    | with_reducible refine good_foldl1 ?_ ?_ | with_reducible refine good_foldl2 ?_ ?_ | intro _)

theorem State.reflexCap_good {κ : Kept} (s : State) (q levels : Nat) (st : Nat) (hg : Good κ s) (f_spm : κ.spm =
    none) :
    Good κ (State.reflexCap s q levels st) := by
  unfold State.reflexCap
  repeat' (first
    | with_reducible assumption | with_reducible refine good_ite ?_ ?_
    | with_reducible refine State.brgDrop_good _ _ _ _ ?_ | with_reducible refine State.ringWrite_good _ _ _ ?_ f_spm
    | with_reducible refine State.onFio_good _ _ _ ?_ | with_reducible refine State.brgPtr_good _ _ ?_)

theorem State.outEntry_good {κ : Kept} (s : State) (addr : Nat) (hg : Good κ s) : Good κ (State.outEntry s addr).2 := by
  unfold State.outEntry
  dsimp only
  split
  · exact State.takeFree_good _ _ (State.spmCheck_good _ _ hg)
  · exact State.spmCheck_good _ _ hg

theorem State.reflexPop_good {κ : Kept} (s : State) (q : Nat) (hg : Good κ s) :
    Good κ (State.reflexPop s q) := by
  unfold State.reflexPop
  repeat' (first
    | with_reducible assumption | with_reducible refine good_ite ?_ ?_
    | with_reducible refine State.outEntry_good _ _ ?_ | with_reducible refine State.onFio_good _ _ _ ?_
    | with_reducible refine State.brgPtr_good _ _ ?_)

theorem State.reflexPins_good {κ : Kept} (s : State) (q levels : Nat) (hg : Good κ s) :
    Good κ (State.reflexPins s q levels).2 := by
  unfold State.reflexPins
  split
  · exact State.takeFree_good _ _ hg
  · exact hg

theorem State.reflexStep_good {κ : Kept} (s : State) (q levels : Nat) (hg : Good κ s) (f_spm : κ.spm = none) :
    Good κ (State.reflexStep s q levels) := by
  unfold State.reflexStep
  repeat' (first
    | with_reducible assumption | with_reducible refine good_ite ?_ ?_
    | with_reducible refine State.onFio_good _ _ _ ?_ | with_reducible refine State.reflexCap_good _ _ _ _ ?_ f_spm
    | with_reducible refine State.reflexPop_good _ _ ?_)

theorem State.reflexEdge_good {κ : Kept} (s : State) (q levels : Nat) (hg : Good κ s) (f_spm : κ.spm = none) :
    Good κ (State.reflexEdge s q levels) :=
  State.reflexStep_good _ _ _ (State.reflexPins_good s q levels hg) f_spm

end Sys2Proof.Machine
end

