-- ==== Sys2Proof/Laws/GoodSignature.lean ====
section
/-! SUPPORT. What the operations of Machine/Signature.lean keep: one lemma each (Laws/GoodBase.lean). -/

namespace Sys2Proof.Machine
open Sys2Proof

-- One proof at a time: proofs checked side by side take a stack each.
set_option Elab.async false

theorem State.onSig_good {κ : Kept} (s : State) (u : Nat) (f : Sig → Sig) (hg : Good κ s) : Good κ (State.onSig s u f) :=
  have r := recWf_iff hg.recs
  hg.setRecs (recWf_of r.1 r.2.1 (Laws.cset_wf r.2.2.1) r.2.2.2.1 r.2.2.2.2.1 r.2.2.2.2.2)

theorem State.sigBoundary_good {κ : Kept} (s : State) (u pn : Nat) (hg : Good κ s) :
    Good κ (State.sigBoundary s u pn) := by
  unfold State.sigBoundary
  repeat' (first | with_reducible assumption | with_reducible refine State.onSig_good _ _ _ ?_)

theorem State.noteSig_good {κ : Kept} (s : State) (u cause pn : Nat) (hg : Good κ s) :
    Good κ (State.noteSig s u cause pn) := by
  unfold State.noteSig
  repeat' (first | with_reducible assumption | with_reducible refine State.raiseAt_good _ _ _ _ _ _ _ ?_)

theorem State.raiseSig_good {κ : Kept} (s : State) (u cause pn : Nat) (hg : Good κ s) :
    Good κ (State.raiseSig s u cause pn) := by
  unfold State.raiseSig
  repeat' (first
    | with_reducible assumption | with_reducible refine State.noteSig_good _ _ _ _ ?_
    | with_reducible refine State.plotInt_good _ _ _ ?_ | intro _ | (split))

theorem State.sigInject_good {κ : Kept} (s : State) (u pn : Nat) (hg : Good κ s) :
    Good κ (State.sigInject s u pn) := by
  unfold State.sigInject
  repeat' (first
    | with_reducible assumption | with_reducible refine State.injectAt_good _ _ _ _ _ ?_ ?_ ?_
    | with_reducible refine State.raiseSig_good _ _ _ _ ?_ | with_reducible refine State.count_good _ _ ?_
    | with_reducible refine State.noteSig_good _ _ _ _ ?_ | exact fun _ => rfl | exact Or.inr fun _ => rfl
    | exact Or.inr rfl | exact Or.inl (by with_reducible assumption) | intro _ | (split))

theorem State.sigFeed_good {κ : Kept} (s : State) (u pn : Nat) (vals : List Val) (blkend : Bool) (hg : Good κ s) :
    Good κ (State.sigFeed s u pn vals blkend) := by
  unfold State.sigFeed
  repeat' (first
    | with_reducible assumption | with_reducible refine good_ite ?_ ?_
    | with_reducible refine State.sigInject_good _ _ _ ?_ | with_reducible refine State.onSig_good _ _ _ ?_
    | with_reducible refine State.sigBoundary_good _ _ _ ?_)

theorem State.sigPassStart_good {κ : Kept} (s : State) (p pn : Nat) (hg : Good κ s) :
    Good κ (State.sigPassStart s p pn) := by
  unfold State.sigPassStart
  repeat' (first
    | with_reducible assumption | with_reducible refine State.onSig_good _ _ _ ?_
    | fail_if_no_progress with_reducible refine good_upd ?_ | with_reducible refine good_foldl ?_ ?_
    | with_reducible refine good_foldl1 ?_ ?_ | with_reducible refine good_foldl2 ?_ ?_ | intro _)

theorem State.sigPassEnd_good {κ : Kept} (s : State) (p pn : Nat) (hg : Good κ s) :
    Good κ (State.sigPassEnd s p pn) := by
  unfold State.sigPassEnd
  repeat' (first
    | with_reducible assumption | with_reducible refine good_ite ?_ ?_
    | with_reducible refine State.sigBoundary_good _ _ _ ?_ | with_reducible refine good_foldl ?_ ?_
    | with_reducible refine good_foldl1 ?_ ?_ | with_reducible refine good_foldl2 ?_ ?_ | intro _)

theorem State.sigRec_good {κ : Kept} (s : State) (p u code : Nat) (r : SigRes) (hg : Good κ s) :
    Good κ (State.sigRec s p u code r) := by
  unfold State.sigRec
  repeat' (first | with_reducible assumption | with_reducible refine State.event_good _ _ ?_)

theorem State.sigFinal_good {κ : Kept} (s : State) (p u : Nat) (r : SigRes) (hg : Good κ s) :
    Good κ (State.sigFinal s p u r) := by
  unfold State.sigFinal
  repeat' (first
    | with_reducible assumption | with_reducible refine good_ite ?_ ?_
    | with_reducible refine State.rnSet64_good _ _ _ ?_ | with_reducible refine State.putBit_good _ _ _ _ ?_
    | with_reducible refine State.noteSig_good _ _ _ _ ?_ | with_reducible refine State.raiseSig_good _ _ _ _ ?_
    | with_reducible refine State.count_good _ _ ?_ | with_reducible refine State.sigRec_good _ _ _ _ _ ?_)

theorem State.sigCommit_good {κ : Kept} (s : State) (p pn : Nat) (hg : Good κ s) :
    Good κ (State.sigCommit s p pn) := by
  unfold State.sigCommit
  repeat' (first
    | with_reducible assumption | with_reducible refine good_ite ?_ ?_
    | with_reducible refine State.sigFinal_good _ _ _ _ ?_ | with_reducible refine State.noteSig_good _ _ _ _ ?_
    | with_reducible refine State.onSig_good _ _ _ ?_ | fail_if_no_progress with_reducible refine good_upd ?_
    | with_reducible refine good_foldl ?_ ?_ | with_reducible refine good_foldl1 ?_ ?_
    | with_reducible refine good_foldl2 ?_ ?_ | intro _)

theorem State.sigDiscard_good {κ : Kept} (s : State) (p k : Nat) (hg : Good κ s) :
    Good κ (State.sigDiscard s p k) := by
  unfold State.sigDiscard
  repeat' (first
    | with_reducible assumption | with_reducible refine State.onSig_good _ _ _ ?_
    | fail_if_no_progress with_reducible refine good_upd ?_ | with_reducible refine good_foldl ?_ ?_
    | with_reducible refine good_foldl1 ?_ ?_ | with_reducible refine good_foldl2 ?_ ?_ | intro _)

theorem State.sigRestart_good {κ : Kept} (s : State) (u : Nat) (hg : Good κ s) :
    Good κ (State.sigRestart s u) := by
  unfold State.sigRestart
  repeat' (first
    | with_reducible assumption | with_reducible refine State.onSig_good _ _ _ ?_
    | with_reducible refine State.noteSig_good _ _ _ _ ?_)

theorem State.sigRestartAll_good {κ : Kept} (s : State) (p : Nat) (hg : Good κ s) :
    Good κ (State.sigRestartAll s p) := by
  unfold State.sigRestartAll
  repeat' (first
    | with_reducible assumption | with_reducible refine State.sigRestart_good _ _ ?_
    | with_reducible refine State.onSig_good _ _ _ ?_
    | with_reducible refine good_foldl ?_ ?_ | with_reducible refine good_foldl1 ?_ ?_
    | with_reducible refine good_foldl2 ?_ ?_ | intro _)

theorem State.sigWrite_good {κ : Kept} (s : State) (u : Nat) (ws : List Word) (hg : Good κ s) :
    Good κ (State.sigWrite s u ws) := by
  unfold State.sigWrite
  repeat' (first
    | with_reducible assumption | with_reducible refine good_ite ?_ ?_
    | with_reducible refine State.rnSet_good _ _ _ ?_ | with_reducible refine good_foldl ?_ ?_
    | with_reducible refine good_foldl1 ?_ ?_ | with_reducible refine good_foldl2 ?_ ?_ | intro _)

end Sys2Proof.Machine
end

