-- ==== Sys2Proof/Laws/GoodSwitch.lean ====
section
/-! SUPPORT. What the operations of Machine/Switch.lean keep: one lemma each (Laws/GoodBase.lean). -/

namespace Sys2Proof.Machine
open Sys2Proof

-- One proof at a time: proofs checked side by side take a stack each.
set_option Elab.async false

theorem State.selectsOwn_good {κ : Kept} (s : State) (p : Nat) (pick : Nat → Bool) (hg : Good κ s) :
    Good κ (State.selectsOwn s p pick) := by
  unfold State.selectsOwn
  repeat' (first | with_reducible assumption | fail_if_no_progress with_reducible refine good_upd ?_)

theorem State.standbyWrite_good {κ : Kept} (s : State) (p : Nat) (hg : Good κ s) :
    Good κ (State.standbyWrite s p) := by
  unfold State.standbyWrite
  repeat' (first
    | with_reducible assumption | with_reducible refine State.selectsOwn_good _ _ _ ?_
    | fail_if_no_progress with_reducible refine good_upd ?_)

theorem State.swapBanks_good {κ : Kept} (s : State) (p n : Nat) (hg : Good κ s) :
    Good κ (State.swapBanks s p n) := by
  unfold State.swapBanks
  repeat' (first
    | with_reducible assumption | with_reducible refine good_ite ?_ ?_
    | with_reducible refine State.standbyWrite_good _ _ ?_ | with_reducible refine State.rnSet64_good _ _ _ ?_
    | with_reducible refine State.setBit_good _ _ _ ?_)

theorem State.swapPlan_good {κ : Kept} (s : State) (p : Nat) (hg : Good κ s) :
    Good κ (State.swapPlan s p) := by
  unfold State.swapPlan
  repeat' (first | with_reducible assumption | fail_if_no_progress with_reducible refine good_upd ?_)

theorem State.swapPlanned_good {κ : Kept} (s : State) (e : Nat × Nat) (hg : Good κ s) :
    Good κ (State.swapPlanned s e) := by
  unfold State.swapPlanned
  repeat' (first
    | with_reducible assumption | with_reducible refine good_ite ?_ ?_
    | with_reducible refine State.swapBanks_good _ _ _ ?_ | with_reducible refine State.standbyWrite_good _ _ ?_
    | with_reducible refine State.setBit_good _ _ _ ?_ | with_reducible refine State.faultRec_good _ _ _ _ _ _ _ _ ?_
    | fail_if_no_progress with_reducible refine good_upd ?_)

theorem State.plansDone_good {κ : Kept} (s : State) (hg : Good κ s) :
    Good κ (State.plansDone s) := by
  unfold State.plansDone
  repeat' (first
    | with_reducible assumption | with_reducible refine State.swapPlanned_good _ _ ?_
    | fail_if_no_progress with_reducible refine good_upd ?_ | with_reducible refine good_foldl ?_ ?_
    | with_reducible refine good_foldl1 ?_ ?_ | with_reducible refine good_foldl2 ?_ ?_ | intro _)

theorem State.lateApply_good {κ : Kept} (s : State) (p : Nat) (hg : Good κ s) :
    Good κ (State.lateApply s p) := by
  unfold State.lateApply
  repeat' (first
    | with_reducible assumption | with_reducible refine good_ite ?_ ?_
    | with_reducible refine State.putBit_good _ _ _ _ ?_ | fail_if_no_progress with_reducible refine good_upd ?_)

theorem State.swapsForget_good {κ : Kept} (s : State) (p : Nat) (hg : Good κ s) :
    Good κ (State.swapsForget s p) := by
  unfold State.swapsForget
  repeat' (first | with_reducible assumption | fail_if_no_progress with_reducible refine good_upd ?_)

theorem State.rxDeliver_good {κ : Kept} (s : State) (p l t : Nat) (v : Val) (hg : Good κ s) :
    Good κ (State.rxDeliver s p l t v) := by
  unfold State.rxDeliver
  repeat' (first
    | with_reducible assumption | with_reducible refine good_ite ?_ ?_
    | fail_if_no_progress with_reducible refine good_upd ?_)

theorem State.routeArrivals_good {κ : Kept} (s : State) (p a st : Nat) (hg : Good κ s) :
    Good κ (State.routeArrivals s p a st) := by
  unfold State.routeArrivals
  repeat' (first
    | with_reducible assumption | with_reducible refine good_ite ?_ ?_
    | with_reducible refine State.rxDeliver_good _ _ _ _ _ ?_ | with_reducible refine good_foldl ?_ ?_
    | with_reducible refine good_foldl1 ?_ ?_ | with_reducible refine good_foldl2 ?_ ?_ | intro _ | (split))

theorem State.badArrivals_good {κ : Kept} (s : State) (p a st : Nat) (hg : Good κ s) :
    Good κ (State.badArrivals s p a st) := by
  unfold State.badArrivals
  repeat' (first
    | with_reducible assumption | with_reducible refine good_ite ?_ ?_
    | with_reducible refine State.rxDeliver_good _ _ _ _ _ ?_ | with_reducible refine good_foldl ?_ ?_
    | with_reducible refine good_foldl1 ?_ ?_ | with_reducible refine good_foldl2 ?_ ?_ | intro _ | (split))

theorem State.arrivals_good {κ : Kept} (s : State) (p st : Nat) (hg : Good κ s) :
    Good κ (State.arrivals s p st) := by
  unfold State.arrivals
  repeat' (first
    | with_reducible assumption | with_reducible refine State.routeArrivals_good _ _ _ _ ?_
    | with_reducible refine State.badArrivals_good _ _ _ _ ?_ | with_reducible refine good_foldl ?_ ?_
    | with_reducible refine good_foldl1 ?_ ?_ | with_reducible refine good_foldl2 ?_ ?_ | intro _)

theorem State.swCe_good {κ : Kept} (s : State) (acre cause p dst st pn : Nat) (hg : Good κ s) :
    Good κ (State.swCe s acre cause p dst st pn) := by
  unfold State.swCe
  repeat' (first
    | with_reducible assumption | with_reducible refine State.raiseSw_good _ _ _ _ _ _ _ ?_
    | with_reducible refine State.count_good _ _ ?_ | with_reducible refine State.bucket_good _ _ _ ?_)

theorem State.gateStageSet_good {κ : Kept} (s : State) (p g : Nat) (v : Val) (hg : Good κ s) :
    Good κ (State.gateStageSet s p g v) := by
  unfold State.gateStageSet
  repeat' (first
    | with_reducible assumption | with_reducible refine good_ite ?_ ?_
    | fail_if_no_progress with_reducible refine good_upd ?_)

theorem State.selectsEcc_good {κ : Kept} (s : State) (p a st : Nat) (hg : Good κ s) (f_plots : κ.plots = none)
    (f_cmd : κ.cmd = none) :
    Good κ (State.selectsEcc s p a st) := by
  unfold State.selectsEcc
  repeat' (first
    | with_reducible assumption | with_reducible refine good_ite ?_ ?_
    | with_reducible refine State.swCe_good _ _ _ _ _ _ _ ?_
    | with_reducible refine State.swError_good _ _ _ _ _ _ _ ?_ f_plots f_cmd
    | with_reducible refine State.gate_good _ _ _ ?_ ?_ ?_ | with_reducible refine State.gateStageSet_good _ _ _ _ ?_
    | with_reducible refine good_foldl ?_ ?_ | with_reducible refine good_foldl1 ?_ ?_
    | with_reducible refine good_foldl2 ?_ ?_ | exact fun _ => rfl | exact Or.inr fun _ => rfl | exact Or.inr rfl
    | exact Or.inl (by with_reducible assumption) | intro _ | (split))

theorem State.selects_good {κ : Kept} (s : State) (p a st : Nat) (hg : Good κ s) (f_plots : κ.plots = none) (f_cmd :
    κ.cmd = none) :
    Good κ (State.selects s p a st) := by
  unfold State.selects
  repeat' (first
    | with_reducible assumption | with_reducible refine good_ite ?_ ?_
    | with_reducible refine State.swError_good _ _ _ _ _ _ _ ?_ f_plots f_cmd
    | with_reducible refine State.gate_good _ _ _ ?_ ?_ ?_ | with_reducible refine State.gateStageSet_good _ _ _ _ ?_
    | with_reducible refine good_foldl ?_ ?_ | with_reducible refine good_foldl1 ?_ ?_
    | with_reducible refine good_foldl2 ?_ ?_ | exact fun _ => rfl | exact Or.inr fun _ => rfl | exact Or.inr rfl
    | exact Or.inl (by with_reducible assumption) | intro _ | (split))

theorem State.d2dCheck_good {κ : Kept} (s : State) (p a st : Nat) (hg : Good κ s) (f_plots : κ.plots = none) (f_cmd
    : κ.cmd = none) :
    Good κ (State.d2dCheck s p a st) := by
  unfold State.d2dCheck
  repeat' (first
    | with_reducible assumption | with_reducible refine good_ite ?_ ?_
    | with_reducible refine State.swCe_good _ _ _ _ _ _ _ ?_
    | with_reducible refine State.swError_good _ _ _ _ _ _ _ ?_ f_plots f_cmd | with_reducible refine good_foldl ?_ ?_
    | with_reducible refine good_foldl1 ?_ ?_ | with_reducible refine good_foldl2 ?_ ?_ | intro _ | (split)
    | with_reducible refine good_pair2 (by with_reducible assumption) ?_
    | with_reducible refine good_pair1 (by with_reducible assumption) ?_
    | with_reducible refine good_pair22 (by with_reducible assumption) ?_
    | with_reducible refine good_pair222 (by with_reducible assumption) ?_
    | with_reducible refine good_pair2222 (by with_reducible assumption) ?_ | (dsimp only))

theorem State.trunkCheck_good {κ : Kept} (s : State) (p a st : Nat) (hg : Good κ s) (f_plots : κ.plots = none)
    (f_cmd : κ.cmd = none) :
    Good κ (State.trunkCheck s p a st) := by
  unfold State.trunkCheck
  repeat' (first
    | with_reducible assumption | with_reducible refine good_ite ?_ ?_
    | with_reducible refine State.furError_good _ _ _ _ _ _ ?_ f_plots f_cmd
    | with_reducible refine State.raiseSw_good _ _ _ _ _ _ _ ?_ | with_reducible refine good_foldl ?_ ?_
    | with_reducible refine good_foldl1 ?_ ?_ | with_reducible refine good_foldl2 ?_ ?_ | intro _)

theorem State.swInjects_good {κ : Kept} (s0 : State) (p a st : Nat) (hg : Good κ s0) (f_plots : κ.plots = none)
    (f_cmd : κ.cmd = none) :
    Good κ (State.swInjects s0 p a st) := by
  unfold State.swInjects
  repeat' (first
    | with_reducible assumption | with_reducible refine good_ite ?_ ?_
    | with_reducible refine State.glnTouch_good _ _ _ ?_ | with_reducible refine State.takeInjects_good _ _ _ ?_
    | with_reducible refine State.upsetItem_good _ _ _ _ ?_
    | with_reducible refine State.swError_good _ _ _ _ _ _ _ ?_ f_plots f_cmd
    | with_reducible refine State.swCe_good _ _ _ _ _ _ _ ?_ | with_reducible refine good_foldl ?_ ?_
    | with_reducible refine good_foldl1 ?_ ?_ | with_reducible refine good_foldl2 ?_ ?_ | intro _ | (split))

theorem State.switchStep_good {κ : Kept} (s : State) (p st : Nat) (hg : Good κ s) (f_plots : κ.plots = none) (f_cmd
    : κ.cmd = none) :
    Good κ (State.switchStep s p st) := by
  unfold State.switchStep
  repeat' (first
    | with_reducible assumption | with_reducible refine State.selectsEcc_good _ _ _ _ ?_ f_plots f_cmd
    | with_reducible refine State.selects_good _ _ _ _ ?_ f_plots f_cmd
    | with_reducible refine State.d2dCheck_good _ _ _ _ ?_ f_plots f_cmd
    | with_reducible refine State.trunkCheck_good _ _ _ _ ?_ f_plots f_cmd | with_reducible refine good_foldl ?_ ?_
    | with_reducible refine good_foldl1 ?_ ?_ | with_reducible refine good_foldl2 ?_ ?_ | intro _)

end Sys2Proof.Machine
end

