-- ==== Sys2Proof/Laws/GoodFurrow.lean ====
section
/-! SUPPORT. What the operations of Machine/Furrow.lean keep: one lemma each (Laws/GoodBase.lean). -/

namespace Sys2Proof.Machine
open Sys2Proof

-- One proof at a time: proofs checked side by side take a stack each.
set_option Elab.async false

theorem State.healDmem_good {κ : Kept} (s : State) (phys b n : Nat) (hg : Good κ s) :
    Good κ (State.healDmem s phys b n) := by
  unfold State.healDmem
  repeat' (first
    | with_reducible assumption | with_reducible refine good_ite ?_ ?_
    | with_reducible refine State.eccSet_good _ _ _ _ ?_ | fail_if_no_progress with_reducible refine good_upd ?_)

theorem State.healState_good {κ : Kept} (s : State) (phys ver b t : Nat) (hg : Good κ s) :
    Good κ (State.healState s phys ver b t) := by
  unfold State.healState
  repeat' (first
    | with_reducible assumption | with_reducible refine good_ite ?_ ?_
    | with_reducible refine State.eccSet_good _ _ _ _ ?_ | fail_if_no_progress with_reducible refine good_upd ?_)

theorem State.rowRead_good {κ : Kept} (s : State) (p phys ver n : Nat) (e : Nat × Nat) (hg : Good κ s) (f_plots :
    κ.plots = none) (f_cmd : κ.cmd = none) :
    Good κ (State.rowRead s p phys ver n e) := by
  unfold State.rowRead
  repeat' (first
    | with_reducible assumption | with_reducible refine good_ite ?_ ?_
    | with_reducible refine State.furCe_good _ _ _ _ _ _ ?_ | with_reducible refine State.eccSet_good _ _ _ _ ?_
    | with_reducible refine State.furError_good _ _ _ _ _ _ ?_ f_plots f_cmd)

theorem State.rowsTouch_good {κ : Kept} (s : State) (p phys ver : Nat) (hg : Good κ s) :
    Good κ (State.rowsTouch s p phys ver) := by
  unfold State.rowsTouch
  repeat' (first | with_reducible assumption | with_reducible refine State.glnTouch_good _ _ _ ?_)

theorem State.rowsCheck_good {κ : Kept} (s : State) (p phys ver n : Nat) (hg : Good κ s) (f_plots : κ.plots = none)
    (f_cmd : κ.cmd = none) :
    Good κ (State.rowsCheck s p phys ver n) := by
  unfold State.rowsCheck
  repeat' (first
    | with_reducible assumption | with_reducible refine State.rowRead_good _ _ _ _ _ _ ?_ f_plots f_cmd
    | with_reducible refine good_foldl ?_ ?_ | with_reducible refine good_foldl1 ?_ ?_
    | with_reducible refine good_foldl2 ?_ ?_ | intro _)

theorem State.dmemSet_good {κ : Kept} (s : State) (phys b n : Nat) (v : Val) (hg : Good κ s) :
    Good κ (State.dmemSet s phys b n v) := by
  unfold State.dmemSet
  repeat' (first
    | with_reducible assumption | with_reducible refine State.healDmem_good _ _ _ _ ?_
    | fail_if_no_progress with_reducible refine good_upd ?_)

theorem State.stateSet_good {κ : Kept} (s : State) (phys ver b t : Nat) (v : Val) (hg : Good κ s) :
    Good κ (State.stateSet s phys ver b t v) := by
  unfold State.stateSet
  repeat' (first
    | with_reducible assumption | with_reducible refine State.healState_good _ _ _ _ _ ?_
    | fail_if_no_progress with_reducible refine good_upd ?_)

theorem State.hazard_good {κ : Kept} (s : State) (p phys kind opnd st b : Nat) (hg : Good κ s) (f_plots : κ.plots =
    none) :
    Good κ (State.hazard s p phys kind opnd st b) := by
  unfold State.hazard
  repeat' (first
    | with_reducible assumption | with_reducible refine good_ite ?_ ?_
    | with_reducible refine State.raiseFur_good _ _ _ _ _ _ ?_
    | with_reducible refine State.onCmt_good _ _ _ ?_ f_plots | with_reducible refine State.rnSet_good _ _ _ ?_
    | with_reducible refine State.count_good _ _ ?_)

theorem State.furCause_good {κ : Kept} (s : State) (p phys cause st b : Nat) (hg : Good κ s) (f_plots : κ.plots =
    none) (f_cmd : κ.cmd = none) :
    Good κ (State.furCause s p phys cause st b) := by
  unfold State.furCause
  repeat' (first
    | with_reducible assumption | with_reducible refine good_ite ?_ ?_
    | with_reducible refine State.furError_good _ _ _ _ _ _ ?_ f_plots f_cmd
    | with_reducible refine State.furCe_good _ _ _ _ _ _ ?_
    | with_reducible refine State.raiseFur_good _ _ _ _ _ _ ?_)

theorem State.bpWrite_good {κ : Kept} (s : State) (p phys b st : Nat) (o : BpOut) (hg : Good κ s) (f_plots : κ.plots
    = none) (f_cmd : κ.cmd = none) :
    Good κ (State.bpWrite s p phys b st o) := by
  unfold State.bpWrite
  repeat' (first
    | with_reducible assumption | with_reducible refine good_ite ?_ ?_
    | with_reducible refine State.furCause_good _ _ _ _ _ _ ?_ f_plots f_cmd
    | with_reducible refine State.eccSet_good _ _ _ _ ?_
    | with_reducible refine State.hazard_good _ _ _ _ _ _ _ ?_ f_plots
    | with_reducible refine State.dmemSet_good _ _ _ _ _ ?_ | with_reducible refine State.stateSet_good _ _ _ _ _ _ ?_
    | fail_if_no_progress with_reducible refine good_upd ?_ | with_reducible refine good_foldl ?_ ?_
    | with_reducible refine good_foldl1 ?_ ?_ | with_reducible refine good_foldl2 ?_ ?_ | intro _ | (split))

theorem State.bpFinish_good {κ : Kept} (s : State) (p phys st : Nat) (outs : List BpOut) (hg : Good κ s) (f_plots :
    κ.plots = none) (f_cmd : κ.cmd = none) :
    Good κ (State.bpFinish s p phys st outs) := by
  unfold State.bpFinish
  repeat' (first
    | with_reducible assumption | with_reducible refine State.bpWrite_good _ _ _ _ _ _ ?_ f_plots f_cmd
    | fail_if_no_progress with_reducible refine good_upd ?_ | with_reducible refine good_foldl ?_ ?_
    | with_reducible refine good_foldl1 ?_ ?_ | with_reducible refine good_foldl2 ?_ ?_ | intro _)

theorem State.furInjects_good {κ : Kept} (s : State) (p phys st : Nat) (hg : Good κ s) (f_plots : κ.plots = none)
    (f_cmd : κ.cmd = none) :
    Good κ (State.furInjects s p phys st) := by
  unfold State.furInjects
  repeat' (first
    | with_reducible assumption | with_reducible refine State.takeInjects_good _ _ _ ?_
    | with_reducible refine State.upsetItem_good _ _ _ _ ?_
    | with_reducible refine State.furCause_good _ _ _ _ _ _ ?_ f_plots f_cmd | with_reducible refine good_foldl ?_ ?_
    | with_reducible refine good_foldl1 ?_ ?_ | with_reducible refine good_foldl2 ?_ ?_ | intro _ | (split))

theorem State.fetchTouch_good {κ : Kept} (s : State) (p phys st : Nat) (hg : Good κ s) :
    Good κ (State.fetchTouch s p phys st) := by
  unfold State.fetchTouch
  repeat' (first | with_reducible assumption | with_reducible refine State.glnTouch_good _ _ _ ?_)

theorem State.ramPut_good {κ : Kept} (s : State) (phys base : Nat) (vs : List Val) (hg : Good κ s) :
    Good κ (State.ramPut s phys base vs) := by
  unfold State.ramPut
  repeat' (first | with_reducible assumption | fail_if_no_progress with_reducible refine good_upd ?_)

theorem State.idleCause_good {κ : Kept} (s : State) (p phys cause st b : Nat) (hg : Good κ s) (f_plots : κ.plots =
    none) (f_cmd : κ.cmd = none) :
    Good κ (State.idleCause s p phys cause st b) := by
  unfold State.idleCause
  repeat' (first
    | with_reducible assumption | with_reducible refine good_ite ?_ ?_
    | with_reducible refine State.furCause_good _ _ _ _ _ _ ?_ f_plots f_cmd
    | with_reducible refine State.furCe_good _ _ _ _ _ _ ?_
    | with_reducible refine State.raiseFur_good _ _ _ _ _ _ ?_)

theorem State.ramCheck_good {κ : Kept} (s0 : State) (p phys base st : Nat) (hg : Good κ s0) (f_plots : κ.plots =
    none) (f_cmd : κ.cmd = none) :
    Good κ (State.ramCheck s0 p phys base st).2 := by
  unfold State.ramCheck
  repeat' (first
    | with_reducible assumption | with_reducible refine State.glnTouch_good _ _ _ ?_
    | with_reducible refine State.idleCause_good _ _ _ _ _ _ ?_ f_plots f_cmd
    | with_reducible refine State.eccSet_good _ _ _ _ ?_ | intro _ | (split)
    | with_reducible refine good_pair2 (by with_reducible assumption) ?_
    | with_reducible refine good_pair1 (by with_reducible assumption) ?_
    | with_reducible refine good_pair22 (by with_reducible assumption) ?_
    | with_reducible refine good_pair222 (by with_reducible assumption) ?_
    | with_reducible refine good_pair2222 (by with_reducible assumption) ?_ | (dsimp only))

theorem State.ramRead_good {κ : Kept} (s : State) (p l phys st : Nat) (g : Gather) (hg : Good κ s) (f_plots :
    κ.plots = none) (f_cmd : κ.cmd = none) :
    Good κ (State.ramRead s p l phys st g) := by
  unfold State.ramRead
  repeat' (first
    | with_reducible assumption | with_reducible refine good_ite ?_ ?_
    | with_reducible refine State.ramCheck_good _ _ _ _ _ ?_ f_plots f_cmd
    | fail_if_no_progress with_reducible refine good_upd ?_ | intro _ | (split))

theorem State.undoAdd_good {κ : Kept} (s : State) (phys : Nat) (e : UndoEntry) (hg : Good κ s) :
    Good κ (State.undoAdd s phys e) := by
  unfold State.undoAdd
  repeat' (first
    | with_reducible assumption | with_reducible refine State.put_good _ _ _ _ _ ?_
    | fail_if_no_progress with_reducible refine good_upd ?_)

theorem State.ramMerge_good {κ : Kept} (s : State) (p phys base st : Nat) (hg : Good κ s) (f_plots : κ.plots = none)
    (f_cmd : κ.cmd = none) :
    Good κ (State.ramMerge s p phys base st) := by
  unfold State.ramMerge
  repeat' (first
    | with_reducible assumption | with_reducible refine good_ite ?_ ?_
    | with_reducible refine State.ramCheck_good _ _ _ _ _ ?_ f_plots f_cmd
    | with_reducible refine State.eccSet_good _ _ _ _ ?_ | fail_if_no_progress with_reducible refine good_upd ?_)

theorem State.ramStore_good {κ : Kept} (s : State) (p phys base pn st : Nat) (vs : List Val) (host : Bool) (hg :
    Good κ s) (f_plots : κ.plots = none) (f_cmd : κ.cmd = none) :
    Good κ (State.ramStore s p phys base pn st vs host) := by
  unfold State.ramStore
  repeat' (first
    | with_reducible assumption | with_reducible refine State.ramMerge_good _ _ _ _ _ ?_ f_plots f_cmd
    | with_reducible refine State.undoAdd_good _ _ _ ?_ | with_reducible refine State.ramPut_good _ _ _ _ ?_)

theorem State.ramWrite_good {κ : Kept} (s : State) (p phys st : Nat) (g : Gather) (hg : Good κ s) (f_plots : κ.plots
    = none) (f_cmd : κ.cmd = none) :
    Good κ (State.ramWrite s p phys st g) := by
  unfold State.ramWrite
  repeat' (first
    | with_reducible assumption | with_reducible refine good_ite ?_ ?_
    | with_reducible refine State.furCause_good _ _ _ _ _ _ ?_ f_plots f_cmd
    | with_reducible refine State.undoAdd_good _ _ _ ?_
    | with_reducible refine State.hazard_good _ _ _ _ _ _ _ ?_ f_plots
    | with_reducible refine State.ramCheck_good _ _ _ _ _ ?_ f_plots f_cmd
    | with_reducible refine State.ramStore_good _ _ _ _ _ _ _ _ ?_ f_plots f_cmd | intro _ | (split)
    | with_reducible refine good_pair2 (by with_reducible assumption) ?_
    | with_reducible refine good_pair1 (by with_reducible assumption) ?_
    | with_reducible refine good_pair22 (by with_reducible assumption) ?_
    | with_reducible refine good_pair222 (by with_reducible assumption) ?_
    | with_reducible refine good_pair2222 (by with_reducible assumption) ?_ | (dsimp only))

theorem State.memRetLoad_good {κ : Kept} (s : State) (p phys : Nat) (vs : List Val) (hg : Good κ s) :
    Good κ (State.memRetLoad s p phys vs) := by
  unfold State.memRetLoad
  repeat' (first
    | with_reducible assumption | with_reducible refine good_ite ?_ ?_
    | fail_if_no_progress with_reducible refine good_upd ?_)

theorem State.ramReturns_good {κ : Kept} (s : State) (p : Nat) (hg : Good κ s) :
    Good κ (State.ramReturns s p) := by
  unfold State.ramReturns
  repeat' (first
    | with_reducible assumption | with_reducible refine State.memRetLoad_good _ _ _ _ ?_
    | with_reducible refine good_foldl ?_ ?_ | with_reducible refine good_foldl1 ?_ ?_
    | with_reducible refine good_foldl2 ?_ ?_ | intro _ | (split))

theorem State.undoPut_good {κ : Kept} (s : State) (p phys : Nat) (e : UndoEntry) (hg : Good κ s) (f_plots : κ.plots
    = none) (f_cmd : κ.cmd = none) :
    Good κ (State.undoPut s p phys e) := by
  unfold State.undoPut
  repeat' (first
    | with_reducible assumption | with_reducible refine good_ite ?_ ?_
    | with_reducible refine State.ramMerge_good _ _ _ _ _ ?_ f_plots f_cmd
    | with_reducible refine State.ramPut_good _ _ _ _ ?_)

theorem State.undoRestore_good {κ : Kept} (s : State) (p phys k : Nat) (hg : Good κ s) (f_plots : κ.plots = none)
    (f_cmd : κ.cmd = none) :
    Good κ (State.undoRestore s p phys k) := by
  unfold State.undoRestore
  repeat' (first
    | with_reducible assumption | with_reducible refine State.undoPut_good _ _ _ _ ?_ f_plots f_cmd
    | fail_if_no_progress with_reducible refine good_upd ?_ | with_reducible refine good_foldl ?_ ?_
    | with_reducible refine good_foldl1 ?_ ?_ | with_reducible refine good_foldl2 ?_ ?_ | intro _)

theorem State.undoFree_good {κ : Kept} (s : State) (phys pn : Nat) (hg : Good κ s) :
    Good κ (State.undoFree s phys pn) := by
  unfold State.undoFree
  repeat' (first | with_reducible assumption | fail_if_no_progress with_reducible refine good_upd ?_)

end Sys2Proof.Machine
end

