-- ==== Sys2Proof/Laws/GoodHbm.lean ====
section
/-! SUPPORT. What the operations of Machine/Hbm.lean keep: one lemma each (Laws/GoodBase.lean). -/

namespace Sys2Proof.Machine
open Sys2Proof

-- One proof at a time: proofs checked side by side take a stack each.
set_option Elab.async false

theorem State.hbmMarkSet_good {κ : Kept} (s : State) (addr v : Nat) (hg : Good κ s) :
    Good κ (State.hbmMarkSet s addr v) := by
  unfold State.hbmMarkSet
  repeat' (first | with_reducible assumption | with_reducible refine State.eccSet_good _ _ _ _ ?_)

theorem State.unsuspect_good {κ : Kept} (s : State) (addr : Nat) (hg : Good κ s) :
    Good κ (State.unsuspect s addr) := by
  unfold State.unsuspect
  repeat' (first
    | with_reducible assumption | fail_if_no_progress with_reducible refine good_upd ?_
    | fail_if_no_progress with_reducible refine good_updHbm ?_)

theorem State.remapRequest_good {κ : Kept} (s : State) (pc row : Nat) (hg : Good κ s) :
    Good κ (State.remapRequest s pc row) := by
  unfold State.remapRequest
  repeat' (first
    | with_reducible assumption | with_reducible refine good_ite ?_ ?_
    | with_reducible refine State.rnSet_good _ _ _ ?_ | with_reducible refine State.raiseGln_good _ _ _ _ _ ?_
    | intro _ | (split))

theorem State.rowCount_good {κ : Kept} (s0 : State) (addr : Nat) (hg : Good κ s0) :
    Good κ (State.rowCount s0 addr) := by
  unfold State.rowCount
  repeat' (first
    | with_reducible assumption | with_reducible refine good_ite ?_ ?_
    | with_reducible refine State.useTriple_good _ _ ?_ | with_reducible refine State.remapRequest_good _ _ _ ?_
    | fail_if_no_progress with_reducible refine good_upd ?_
    | fail_if_no_progress with_reducible refine good_updHbm ?_)

theorem State.memEvent_good {κ : Kept} (s : State) (cause addr : Nat) (plot : Option Nat) (pn : Nat) (hg : Good κ s)
    :
    Good κ (State.memEvent s cause addr plot pn) := by
  unfold State.memEvent
  repeat' (first
    | with_reducible assumption | with_reducible refine State.raiseMem_good _ _ _ _ _ _ ?_
    | with_reducible refine State.count_good _ _ ?_ | with_reducible refine State.bucket_good _ _ _ ?_)

theorem State.memCe_good {κ : Kept} (s : State) (addr : Nat) (plot : Option Nat) (pn : Nat) (hg : Good κ s) :
    Good κ (State.memCe s addr plot pn) := by
  unfold State.memCe
  repeat' (first
    | with_reducible assumption | with_reducible refine State.memEvent_good _ _ _ _ _ ?_
    | with_reducible refine State.rowCount_good _ _ ?_)

theorem State.memUe_good {κ : Kept} (s : State) (addr : Nat) (plot : Option Nat) (pn : Nat) (hg : Good κ s) :
    Good κ (State.memUe s addr plot pn) := by
  unfold State.memUe
  repeat' (first
    | with_reducible assumption | with_reducible refine State.raiseMem_good _ _ _ _ _ _ ?_
    | with_reducible refine State.count_good _ _ ?_)

theorem State.memRaise_good {κ : Kept} (s : State) (cause addr : Nat) (plot : Option Nat) (pn : Nat) (sched : Bool)
    (hg : Good κ s) (f_plots : κ.plots = none) (f_cmd : κ.cmd = none) :
    Good κ (State.memRaise s cause addr plot pn sched) := by
  unfold State.memRaise
  repeat' (first
    | with_reducible assumption | with_reducible refine good_ite ?_ ?_
    | with_reducible refine State.memEvent_good _ _ _ _ _ ?_ | with_reducible refine State.memUe_good _ _ _ _ ?_
    | with_reducible refine State.raiseMem_good _ _ _ _ _ _ ?_
    | with_reducible refine State.passError_good _ _ _ _ _ _ _ ?_ f_plots f_cmd | intro _ | (split))

theorem State.memInject_good {κ : Kept} (s : State) (addr : Nat) (plot : Option Nat) (pn : Nat) (sched : Bool) (hg :
    Good κ s) (f_plots : κ.plots = none) (f_cmd : κ.cmd = none) :
    Good κ (State.memInject s addr plot pn sched) := by
  unfold State.memInject
  repeat' (first
    | with_reducible assumption | with_reducible refine State.glnTouchHbm_good _ _ _ ?_
    | with_reducible refine State.injectAt_good _ _ _ _ _ ?_ ?_ ?_
    | with_reducible refine State.upsetItem_good _ _ _ _ ?_
    | with_reducible refine State.memRaise_good _ _ _ _ _ _ ?_ f_plots f_cmd | exact fun _ => rfl
    | exact Or.inr fun _ => rfl | exact Or.inr rfl | exact Or.inl (by with_reducible assumption) | intro _)

theorem State.dataLoss_good {κ : Kept} (s : State) (addr p pn : Nat) (hg : Good κ s) (f_plots : κ.plots = none) :
    Good κ (State.dataLoss s addr p pn) := by
  unfold State.dataLoss
  repeat' (first
    | with_reducible assumption | with_reducible refine good_ite ?_ ?_
    | with_reducible refine State.setBit_good _ _ _ ?_ | with_reducible refine State.plotInt_good _ _ _ ?_
    | with_reducible refine State.record_good _ _ _ _ _ _ ?_
    | with_reducible refine State.onCmt_good _ _ _ ?_ f_plots)

theorem State.poison_good {κ : Kept} (s : State) (addr : Nat) (plot : Option Nat) (pn : Nat) (hg : Good κ s)
    (f_plots : κ.plots = none) :
    Good κ (State.poison s addr plot pn) := by
  unfold State.poison
  repeat' (first
    | with_reducible assumption | with_reducible refine State.hbmMarkSet_good _ _ _ ?_
    | with_reducible refine State.unsuspect_good _ _ ?_ | with_reducible refine State.raiseMem_good _ _ _ _ _ _ ?_
    | with_reducible refine State.record_good _ _ _ _ _ _ ?_
    | with_reducible refine State.dataLoss_good _ _ _ _ ?_ f_plots | intro _ | (split))

theorem State.poisonRead_good {κ : Kept} (s : State) (addr : Nat) (plot : Option Nat) (pn : Nat) (hg : Good κ s) :
    Good κ (State.poisonRead s addr plot pn) := by
  unfold State.poisonRead
  repeat' (first
    | with_reducible assumption | with_reducible refine State.raiseMem_good _ _ _ _ _ _ ?_
    | with_reducible refine State.count_good _ _ ?_ | intro _ | (split))

theorem State.hbmCheck_good {κ : Kept} (s0 : State) (addr : Nat) (plot : Option Nat) (pn : Nat) (hg : Good κ s0)
    (f_plots : κ.plots = none) (f_cmd : κ.cmd = none) :
    Good κ (State.hbmCheck s0 addr plot pn).2 := by
  unfold State.hbmCheck
  repeat' (first
    | with_reducible assumption | with_reducible refine State.memInject_good _ _ _ _ _ ?_ f_plots f_cmd
    | with_reducible refine State.memEvent_good _ _ _ _ _ ?_ | with_reducible refine State.hbmMarkSet_good _ _ _ ?_
    | with_reducible refine State.memUe_good _ _ _ _ ?_ | with_reducible refine State.poison_good _ _ _ _ ?_ f_plots
    | with_reducible refine State.poisonRead_good _ _ _ _ ?_ | intro _ | (split)
    | with_reducible refine good_pair2 (by with_reducible assumption) ?_
    | with_reducible refine good_pair1 (by with_reducible assumption) ?_
    | with_reducible refine good_pair22 (by with_reducible assumption) ?_
    | with_reducible refine good_pair222 (by with_reducible assumption) ?_
    | with_reducible refine good_pair2222 (by with_reducible assumption) ?_ | (dsimp only))

theorem State.hbmCheckRange_good {κ : Kept} (s : State) (addr n : Nat) (plot : Option Nat) (pn : Nat) (hg : Good κ
    s) (f_plots : κ.plots = none) (f_cmd : κ.cmd = none) :
    Good κ (State.hbmCheckRange s addr n plot pn).2 := by
  unfold State.hbmCheckRange
  repeat' (first
    | with_reducible assumption | with_reducible refine State.hbmCheck_good _ _ _ _ ?_ f_plots f_cmd
    | with_reducible refine good_foldl ?_ ?_ | with_reducible refine good_foldl1 ?_ ?_
    | with_reducible refine good_foldl2 ?_ ?_ | intro _)

theorem State.hbmStore_good {κ : Kept} (s : State) (addr : Nat) (bs : List Byte) (hg : Good κ s) (f_hbm : κ.hbm =
    none) :
    Good κ (State.hbmStore s addr bs) := by
  unfold State.hbmStore
  repeat' (first
    | with_reducible assumption | with_reducible refine State.hbmWrite_good _ _ _ ?_ f_hbm
    | with_reducible refine State.hbmMarkSet_good _ _ _ ?_ | with_reducible refine State.unsuspect_good _ _ ?_
    | with_reducible refine good_foldl ?_ ?_ | with_reducible refine good_foldl1 ?_ ?_
    | with_reducible refine good_foldl2 ?_ ?_ | intro _)

theorem State.wqStat_good {κ : Kept} (s : State) (pc : Nat) (hg : Good κ s) :
    Good κ (State.wqStat s pc) := by
  unfold State.wqStat
  repeat' (first | with_reducible assumption | with_reducible refine State.rnSet_good _ _ _ ?_)

theorem State.wqEnter_good {κ : Kept} (s : State) (e : WqEntry) (hg : Good κ s) :
    Good κ (State.wqEnter s e).2 := by
  unfold State.wqEnter
  repeat' (first
    | with_reducible assumption | with_reducible refine good_ite ?_ ?_
    | with_reducible refine good_ite2 ?_ ?_ | with_reducible refine State.wqStat_good _ _ ?_
    | fail_if_no_progress with_reducible refine good_upd ?_
    | fail_if_no_progress with_reducible refine good_updHbm ?_)

theorem State.wqOverflow_good {κ : Kept} (s : State) (p pc addr pn : Nat) (hg : Good κ s) (f_plots : κ.plots = none)
    (f_cmd : κ.cmd = none) :
    Good κ (State.wqOverflow s p pc addr pn) := by
  unfold State.wqOverflow
  repeat' (first
    | with_reducible assumption | with_reducible refine State.raiseMem_good _ _ _ _ _ _ ?_
    | with_reducible refine State.setBit_good _ _ _ ?_
    | with_reducible refine State.passError_good _ _ _ _ _ _ _ ?_ f_plots f_cmd)

theorem State.writeFlit_good {κ : Kept} (s : State) (p l a pn : Nat) (w : Window) (data : List Byte) (hg : Good κ s)
    (f_plots : κ.plots = none) :
    Good κ (State.writeFlit s p l a pn w data).2 := by
  unfold State.writeFlit
  dsimp only
  split
  · exact State.dataLoss_good _ _ _ _ (State.express_good _ hg) f_plots
  · exact State.express_good _ hg

theorem State.hbmIssueWrite_good {κ : Kept} (s : State) (p l phys st : Nat) (g : Gather) (w : Window) (hg : Good κ
    s) (f_plots : κ.plots = none) (f_cmd : κ.cmd = none) :
    Good κ (State.hbmIssueWrite s p l phys st g w) := by
  unfold State.hbmIssueWrite
  repeat' (first
    | with_reducible assumption | with_reducible refine good_ite ?_ ?_
    | with_reducible refine State.furCause_good _ _ _ _ _ _ ?_ f_plots f_cmd
    | with_reducible refine State.writeFlit_good _ _ _ _ _ _ _ ?_ f_plots
    | with_reducible refine State.wqEnter_good _ _ ?_
    | with_reducible refine State.wqOverflow_good _ _ _ _ _ ?_ f_plots f_cmd | intro _ | (split)
    | with_reducible refine good_pair2 (by with_reducible assumption) ?_
    | with_reducible refine good_pair1 (by with_reducible assumption) ?_
    | with_reducible refine good_pair22 (by with_reducible assumption) ?_
    | with_reducible refine good_pair222 (by with_reducible assumption) ?_
    | with_reducible refine good_pair2222 (by with_reducible assumption) ?_ | (dsimp only))

theorem State.hbmIssueRead_good {κ : Kept} (s : State) (p l phys st : Nat) (g : Gather) (w : Window) (hg : Good κ s)
    :
    Good κ (State.hbmIssueRead s p l phys st g w) := by
  unfold State.hbmIssueRead
  repeat' (first
    | with_reducible assumption | with_reducible refine good_ite ?_ ?_ | with_reducible refine State.express_good _ ?_
    | fail_if_no_progress with_reducible refine good_upd ?_ | fail_if_no_progress with_reducible refine good_updHbm ?_
    | intro _ | (split))

theorem State.scheduledCheck_good {κ : Kept} (s0 : State) (p pn addr : Nat) (hg : Good κ s0) (f_plots : κ.plots =
    none) (f_cmd : κ.cmd = none) :
    Good κ (State.scheduledCheck s0 p pn addr).2 := by
  unfold State.scheduledCheck
  repeat' (first
    | with_reducible assumption | with_reducible refine good_ite2 ?_ ?_
    | with_reducible refine State.memInject_good _ _ _ _ _ ?_ f_plots f_cmd
    | with_reducible refine State.unsuspect_good _ _ ?_ | with_reducible refine State.memCe_good _ _ _ _ ?_
    | with_reducible refine State.hbmMarkSet_good _ _ _ ?_ | with_reducible refine State.memUe_good _ _ _ _ ?_
    | with_reducible refine State.poison_good _ _ _ _ ?_ f_plots
    | with_reducible refine State.passError_good _ _ _ _ _ _ _ ?_ f_plots f_cmd
    | with_reducible refine State.poisonRead_good _ _ _ _ ?_ | fail_if_no_progress with_reducible refine good_upd ?_
    | fail_if_no_progress with_reducible refine good_updHbm ?_ | intro _ | (split)
    | with_reducible refine good_pair2 (by with_reducible assumption) ?_
    | with_reducible refine good_pair1 (by with_reducible assumption) ?_
    | with_reducible refine good_pair22 (by with_reducible assumption) ?_
    | with_reducible refine good_pair222 (by with_reducible assumption) ?_
    | with_reducible refine good_pair2222 (by with_reducible assumption) ?_ | (dsimp only))

theorem State.readValues_good {κ : Kept} (s : State) (r : HbmRead) (hg : Good κ s) (f_plots : κ.plots = none) (f_cmd
    : κ.cmd = none) :
    Good κ (State.readValues s r).2 := by
  unfold State.readValues
  repeat' (first
    | with_reducible assumption | with_reducible refine good_ite2 ?_ ?_
    | with_reducible refine State.scheduledCheck_good _ _ _ _ ?_ f_plots f_cmd
    | with_reducible refine good_foldl ?_ ?_ | with_reducible refine good_foldl1 ?_ ?_
    | with_reducible refine good_foldl2 ?_ ?_ | intro _)

theorem State.deliverRead_good {κ : Kept} (s : State) (p : Nat) (n : Nat) (r : HbmRead) (hg : Good κ s) (f_plots :
    κ.plots = none) (f_cmd : κ.cmd = none) :
    Good κ (State.deliverRead s p n r) := by
  unfold State.deliverRead
  repeat' (first
    | with_reducible assumption | with_reducible refine good_ite ?_ ?_
    | with_reducible refine State.furCause_good _ _ _ _ _ _ ?_ f_plots f_cmd
    | with_reducible refine State.memRetLoad_good _ _ _ _ ?_
    | with_reducible refine State.raiseMem_good _ _ _ _ _ _ ?_ | with_reducible refine State.setBit_good _ _ _ ?_
    | with_reducible refine State.passError_good _ _ _ _ _ _ _ ?_ f_plots f_cmd
    | fail_if_no_progress with_reducible refine good_upd ?_ | fail_if_no_progress with_reducible refine good_updHbm ?_
    | intro _ | (split))

theorem State.hbmReturns_good {κ : Kept} (s : State) (p : Nat) (hg : Good κ s) (f_plots : κ.plots = none) (f_cmd :
    κ.cmd = none) :
    Good κ (State.hbmReturns s p) := by
  unfold State.hbmReturns
  repeat' (first
    | with_reducible assumption | with_reducible refine good_ite ?_ ?_
    | with_reducible refine State.deliverRead_good _ _ _ _ ?_ f_plots f_cmd | with_reducible refine good_foldl ?_ ?_
    | with_reducible refine good_foldl1 ?_ ?_ | with_reducible refine good_foldl2 ?_ ?_ | intro _ | (split))

theorem State.readsCommit_good {κ : Kept} (s : State) (p pn : Nat) (hg : Good κ s) :
    Good κ (State.readsCommit s p pn) := by
  unfold State.readsCommit
  repeat' (first
    | with_reducible assumption | fail_if_no_progress with_reducible refine good_upd ?_
    | fail_if_no_progress with_reducible refine good_updHbm ?_)

theorem State.readsDiscard_good {κ : Kept} (s : State) (p k : Nat) (hg : Good κ s) :
    Good κ (State.readsDiscard s p k) := by
  unfold State.readsDiscard
  repeat' (first
    | with_reducible assumption | with_reducible refine good_ite ?_ ?_
    | fail_if_no_progress with_reducible refine good_upd ?_
    | fail_if_no_progress with_reducible refine good_updHbm ?_)

theorem State.wqCommit_good {κ : Kept} (s : State) (p pn : Nat) (hg : Good κ s) :
    Good κ (State.wqCommit s p pn) := by
  unfold State.wqCommit
  repeat' (first
    | with_reducible assumption | with_reducible refine good_ite ?_ ?_
    | fail_if_no_progress with_reducible refine good_upd ?_
    | fail_if_no_progress with_reducible refine good_updHbm ?_)

theorem State.wqDiscard_good {κ : Kept} (s : State) (p k : Nat) (hg : Good κ s) :
    Good κ (State.wqDiscard s p k) := by
  unfold State.wqDiscard
  repeat' (first
    | with_reducible assumption | with_reducible refine State.wqStat_good _ _ ?_
    | fail_if_no_progress with_reducible refine good_upd ?_
    | fail_if_no_progress with_reducible refine good_updHbm ?_ | with_reducible refine good_foldl ?_ ?_
    | with_reducible refine good_foldl1 ?_ ?_ | with_reducible refine good_foldl2 ?_ ?_ | intro _)

theorem State.stakeOverflow_good {κ : Kept} (s : State) (p b : Nat) (hg : Good κ s) (f_plots : κ.plots = none) :
    Good κ (State.stakeOverflow s p b) := by
  unfold State.stakeOverflow
  repeat' (first
    | with_reducible assumption | with_reducible refine State.setBit_good _ _ _ ?_
    | with_reducible refine State.clrBit_good _ _ _ ?_ | with_reducible refine State.record_good _ _ _ _ _ _ ?_
    | with_reducible refine State.plotInt_good _ _ _ ?_ | with_reducible refine State.logTrim_good _ _ _ ?_ f_plots
    | with_reducible refine State.onCmt_good _ _ _ ?_ f_plots | fail_if_no_progress with_reducible refine good_upd ?_
    | fail_if_no_progress with_reducible refine good_updHbm ?_)

theorem State.journalAdd_good {κ : Kept} (s : State) (p addr : Nat) (old : List Byte) (pn : Nat) (hg : Good κ s)
    (f_plots : κ.plots = none) :
    Good κ (State.journalAdd s p addr old pn) := by
  unfold State.journalAdd
  repeat' (first
    | with_reducible assumption | with_reducible refine good_ite ?_ ?_
    | with_reducible refine State.stakeOverflow_good _ _ _ ?_ f_plots
    | fail_if_no_progress with_reducible refine good_upd ?_ | fail_if_no_progress with_reducible refine good_updHbm ?_
    | intro _ | (split) | with_reducible refine good_pair2 (by with_reducible assumption) ?_
    | with_reducible refine good_pair1 (by with_reducible assumption) ?_
    | with_reducible refine good_pair22 (by with_reducible assumption) ?_
    | with_reducible refine good_pair222 (by with_reducible assumption) ?_
    | with_reducible refine good_pair2222 (by with_reducible assumption) ?_ | (dsimp only))

theorem State.logCheck_good {κ : Kept} (s : State) (p : Nat) (hg : Good κ s) (f_plots : κ.plots = none) :
    Good κ (State.logCheck s p) := by
  unfold State.logCheck
  repeat' (first
    | with_reducible assumption | with_reducible refine good_ite ?_ ?_
    | with_reducible refine State.stakeOverflow_good _ _ _ ?_ f_plots)

theorem State.drainEntry_good {κ : Kept} (s : State) (e : WqEntry) (hg : Good κ s) (f_hbm : κ.hbm = none) (f_plots :
    κ.plots = none) (f_cmd : κ.cmd = none) :
    Good κ (State.drainEntry s e) := by
  unfold State.drainEntry
  repeat' (first
    | with_reducible assumption | with_reducible refine good_ite ?_ ?_
    | with_reducible refine State.hbmCheckRange_good _ _ _ _ _ ?_ f_plots f_cmd
    | with_reducible refine State.journalAdd_good _ _ _ _ _ ?_ f_plots
    | with_reducible refine State.hbmStore_good _ _ _ ?_ f_hbm)

theorem State.drainOne_good {κ : Kept} (s : State) (pc : Nat) (hg : Good κ s) (f_hbm : κ.hbm = none) (f_plots :
    κ.plots = none) (f_cmd : κ.cmd = none) :
    Good κ (State.drainOne s pc) := by
  unfold State.drainOne
  repeat' (first
    | with_reducible assumption | with_reducible refine State.drainEntry_good _ _ ?_ f_hbm f_plots f_cmd
    | with_reducible refine State.wqStat_good _ _ ?_ | fail_if_no_progress with_reducible refine good_upd ?_
    | fail_if_no_progress with_reducible refine good_updHbm ?_ | intro _ | (split))

theorem State.hbmPatch_good {κ : Kept} (s : State) (addr : Nat) (bs : List Byte) (hg : Good κ s) (f_hbm : κ.hbm =
    none) :
    Good κ (State.hbmPatch s addr bs) := by
  unfold State.hbmPatch
  repeat' (first
    | with_reducible assumption | with_reducible refine good_ite ?_ ?_
    | with_reducible refine State.put_good _ _ _ _ _ ?_ | with_reducible refine State.hbmStore_good _ _ _ ?_ f_hbm
    | fail_if_no_progress with_reducible refine good_upd ?_
    | fail_if_no_progress with_reducible refine good_updHbm ?_)

theorem State.hbmNow_good {κ : Kept} (s : State) (p n addr : Nat) (bs : List Byte) (hg : Good κ s) (f_hbm : κ.hbm =
    none) (f_plots : κ.plots = none) (f_cmd : κ.cmd = none) :
    Good κ (State.hbmNow s p n addr bs) := by
  unfold State.hbmNow
  repeat' (first
    | with_reducible assumption | with_reducible refine good_ite ?_ ?_
    | with_reducible refine State.drainOne_good _ _ ?_ f_hbm f_plots f_cmd
    | with_reducible refine State.wqEnter_good _ _ ?_ | with_reducible refine State.hbmPatch_good _ _ _ ?_ f_hbm
    | intro _ | (split) | with_reducible refine good_pair2 (by with_reducible assumption) ?_
    | with_reducible refine good_pair1 (by with_reducible assumption) ?_
    | with_reducible refine good_pair22 (by with_reducible assumption) ?_
    | with_reducible refine good_pair222 (by with_reducible assumption) ?_
    | with_reducible refine good_pair2222 (by with_reducible assumption) ?_ | (dsimp only))

theorem State.hbmZero_good {κ : Kept} (s : State) (hg : Good κ s) (f_hbm : κ.hbm = none) : Good κ (State.hbmZero s) :=
  ⟨hg.1, hg.2, memWf_of hg.wf.1 rfl hg.wf.2.2.1 hg.wf.2.2.2.1 hg.wf.2.2.2.2.1 hg.wf.2.2.2.2.2 hg.recs, hg.4, hg.5, hg.6, hg.7,
    fun _ e => by rw [f_hbm] at e; contradiction, hg.9, hg.10, hg.11, hg.12, hg.13, hg.14, hg.15, hg.16⟩

theorem State.onTakenHbm_good {κ : Kept} (s : State) (opc id : Nat) (f : Cmd → State) (hg : Good κ s) (h_f : ∀ (a0 :
    Cmd), Good κ (f a0)) (f_cmd : κ.cmd = none) :
    Good κ (State.onTakenHbm s opc id f) := by
  unfold State.onTakenHbm
  repeat' (first
    | with_reducible assumption | with_reducible refine good_ite ?_ ?_
    | with_reducible refine State.onTaken_good _ _ _ _ ?_ ?_
    | with_reducible refine State.finish_good _ _ _ _ ?_ f_cmd | with_reducible exact h_f _ | exact fun _ => rfl
    | exact Or.inr fun _ => rfl | exact Or.inr rfl | exact Or.inl (by with_reducible assumption) | intro _)

theorem State.remapCopy_good {κ : Kept} (s : State) (pc row : Nat) (hg : Good κ s) (f_plots : κ.plots = none) (f_cmd
    : κ.cmd = none) :
    Good κ (State.remapCopy s pc row) := by
  unfold State.remapCopy
  repeat' (first
    | with_reducible assumption | with_reducible refine good_ite ?_ ?_
    | with_reducible refine State.hbmCheckRange_good _ _ _ _ _ ?_ f_plots f_cmd)

theorem State.remapActive_good {κ : Kept} (s : State) (pc k : Nat) (hg : Good κ s) (f_plots : κ.plots = none) (f_cmd
    : κ.cmd = none) :
    Good κ (State.remapActive s pc k) := by
  unfold State.remapActive
  repeat' (first
    | with_reducible assumption | with_reducible refine good_ite ?_ ?_
    | with_reducible refine State.remapCopy_good _ _ _ ?_ f_plots f_cmd
    | with_reducible refine State.setBit_good _ _ _ ?_ | with_reducible refine State.raiseMem_good _ _ _ _ _ _ ?_)

theorem State.remapReady_good {κ : Kept} (s : State) (pc : Nat) (hg : Good κ s) (f_plots : κ.plots = none) (f_cmd :
    κ.cmd = none) :
    Good κ (State.remapReady s pc) := by
  unfold State.remapReady
  repeat' (first
    | with_reducible assumption | with_reducible refine State.remapActive_good _ _ _ ?_ f_plots f_cmd
    | fail_if_no_progress with_reducible refine good_upd ?_ | fail_if_no_progress with_reducible refine good_updHbm ?_
    | with_reducible refine good_foldl ?_ ?_ | with_reducible refine good_foldl1 ?_ ?_
    | with_reducible refine good_foldl2 ?_ ?_ | intro _)

theorem State.remapStopped_good {κ : Kept} (s : State) (hg : Good κ s) (f_plots : κ.plots = none) (f_cmd : κ.cmd =
    none) :
    Good κ (State.remapStopped s) := by
  unfold State.remapStopped
  repeat' (first
    | with_reducible assumption | with_reducible refine State.remapReady_good _ _ ?_ f_plots f_cmd
    | with_reducible refine good_foldl ?_ ?_ | with_reducible refine good_foldl1 ?_ ?_
    | with_reducible refine good_foldl2 ?_ ?_ | intro _)

theorem State.outData_good {κ : Kept} (s : State) (d : Option (List Byte)) (hg : Good κ s) :
    Good κ (State.outData s d) := by
  unfold State.outData
  repeat' (first | with_reducible assumption | fail_if_no_progress with_reducible refine good_upd ?_)

theorem State.bar4Do_good {κ : Kept} (s : State) (addr len : Nat) (data : Option (List Byte)) (holder : Option (Nat
    × Nat)) (hg : Good κ s) (f_hbm : κ.hbm = none) (f_plots : κ.plots = none) (f_cmd : κ.cmd = none) :
    Good κ (State.bar4Do s addr len data holder) := by
  unfold State.bar4Do
  repeat' (first
    | with_reducible assumption | with_reducible refine good_ite ?_ ?_
    | with_reducible refine State.outData_good _ _ ?_ | with_reducible refine State.raiseMem_good _ _ _ _ _ _ ?_
    | with_reducible refine State.hbmPatch_good _ _ _ ?_ f_hbm
    | with_reducible refine State.hbmCheckRange_good _ _ _ _ _ ?_ f_plots f_cmd | intro _ | (split))

theorem State.bar4_good {κ : Kept} (s : State) (fn offset len : Nat) (data : Option (List Byte)) (hg : Good κ s)
    (f_hbm : κ.hbm = none) (f_plots : κ.plots = none) (f_cmd : κ.cmd = none) :
    Good κ (State.bar4 s fn offset len data) := by
  unfold State.bar4
  repeat' (first
    | with_reducible assumption | with_reducible refine good_ite ?_ ?_
    | with_reducible refine State.outData_good _ _ ?_ | with_reducible refine State.setBit_good _ _ _ ?_
    | with_reducible refine State.packet_good _ _ _ _ ?_
    | with_reducible refine State.bar4Do_good _ _ _ _ _ ?_ f_hbm f_plots f_cmd
    | with_reducible refine State.respond_good _ _ _ _ ?_)

end Sys2Proof.Machine
end

