-- ==== Sys2Proof/Laws/GoodExchange.lean ====
section
/-! SUPPORT. What the operations of Machine/Exchange.lean keep: one lemma each (Laws/GoodBase.lean). -/

namespace Sys2Proof.Machine
open Sys2Proof

-- One proof at a time: proofs checked side by side take a stack each.
set_option Elab.async false

theorem State.xtWrite_good {κ : Kept} (s : State) (e data : Nat) (hg : Good κ s) :
    Good κ (State.xtWrite s e data) := by
  unfold State.xtWrite
  repeat' (first | with_reducible assumption | fail_if_no_progress with_reducible refine good_upd ?_)

theorem State.xtInject_good {κ : Kept} (s : State) (p e : Nat) (hg : Good κ s) (f_plots : κ.plots = none) (f_cmd :
    κ.cmd = none) :
    Good κ (State.xtInject s p e) := by
  unfold State.xtInject
  repeat' (first
    | with_reducible assumption | with_reducible refine State.glnTouch_good _ _ _ ?_
    | with_reducible refine State.injectAt_good _ _ _ _ _ ?_ ?_ ?_ | with_reducible refine State.xtFlip_good _ _ _ ?_
    | with_reducible refine State.raiseXt_good _ _ _ _ _ ?_ | with_reducible refine State.count_good _ _ ?_
    | with_reducible refine State.bucket_good _ _ _ ?_
    | with_reducible refine State.passError_good _ _ _ _ _ _ _ ?_ f_plots f_cmd | exact fun _ => rfl
    | exact Or.inr fun _ => rfl | exact Or.inr rfl | exact Or.inl (by with_reducible assumption) | intro _ | (split))

theorem State.xtUse_good {κ : Kept} (s0 : State) (p e : Nat) (hg : Good κ s0) (f_plots : κ.plots = none) (f_cmd :
    κ.cmd = none) :
    Good κ (State.xtUse s0 p e).2 := by
  unfold State.xtUse
  repeat' (first
    | with_reducible assumption | with_reducible refine State.xtInject_good _ _ _ ?_ f_plots f_cmd
    | with_reducible refine State.raiseXt_good _ _ _ _ _ ?_ | with_reducible refine State.count_good _ _ ?_
    | with_reducible refine State.bucket_good _ _ _ ?_
    | with_reducible refine State.passError_good _ _ _ _ _ _ _ ?_ f_plots f_cmd | intro _ | (split)
    | with_reducible refine good_pair2 (by with_reducible assumption) ?_
    | with_reducible refine good_pair1 (by with_reducible assumption) ?_
    | with_reducible refine good_pair22 (by with_reducible assumption) ?_
    | with_reducible refine good_pair222 (by with_reducible assumption) ?_
    | with_reducible refine good_pair2222 (by with_reducible assumption) ?_ | (dsimp only))

theorem State.txGroupSet_good {κ : Kept} (s : State) (port lane fidx grp : Nat) (v : BitVec 16) (hg : Good κ s) :
    Good κ (State.txGroupSet s port lane fidx grp v) := by
  unfold State.txGroupSet
  repeat' (first | with_reducible assumption | fail_if_no_progress with_reducible refine good_upd ?_)

theorem State.exportSample_good {κ : Kept} (s : State) (p st : Nat) (hg : Good κ s) (f_plots : κ.plots = none)
    (f_cmd : κ.cmd = none) :
    Good κ (State.exportSample s p st) := by
  unfold State.exportSample
  repeat' (first
    | with_reducible assumption | with_reducible refine good_ite ?_ ?_
    | with_reducible refine State.xtUse_good _ _ _ ?_ f_plots f_cmd
    | with_reducible refine State.txGroupSet_good _ _ _ _ _ _ ?_ | with_reducible refine good_foldl ?_ ?_
    | with_reducible refine good_foldl1 ?_ ?_ | with_reducible refine good_foldl2 ?_ ?_ | intro _)

theorem State.relaySend_good {κ : Kept} (s : State) (p st : Nat) (hg : Good κ s) :
    Good κ (State.relaySend s p st) := by
  unfold State.relaySend
  repeat' (first
    | with_reducible assumption | with_reducible refine good_ite ?_ ?_
    | with_reducible refine State.txGroupSet_good _ _ _ _ _ _ ?_
    | fail_if_no_progress with_reducible refine good_upd ?_ | with_reducible refine good_foldl ?_ ?_
    | with_reducible refine good_foldl1 ?_ ?_ | with_reducible refine good_foldl2 ?_ ?_ | intro _)

theorem State.importPresent_good {κ : Kept} (s : State) (p : Nat) (hg : Good κ s) :
    Good κ (State.importPresent s p) := by
  unfold State.importPresent
  repeat' (first
    | with_reducible assumption | with_reducible refine good_ite ?_ ?_
    | fail_if_no_progress with_reducible refine good_upd ?_ | with_reducible refine good_foldl ?_ ?_
    | with_reducible refine good_foldl1 ?_ ?_ | with_reducible refine good_foldl2 ?_ ?_ | intro _ | (split))

theorem State.takeGroups_good {κ : Kept} (s : State) (p port lane fidx sentPn : Nat) (groups : Option (List (BitVec
    16))) (hg : Good κ s) (f_plots : κ.plots = none) (f_cmd : κ.cmd = none) :
    Good κ (State.takeGroups s p port lane fidx sentPn groups) := by
  unfold State.takeGroups
  repeat' (first
    | with_reducible assumption | with_reducible refine good_ite ?_ ?_
    | with_reducible refine State.xtUse_good _ _ _ ?_ f_plots f_cmd
    | fail_if_no_progress with_reducible refine good_upd ?_ | with_reducible refine good_foldl ?_ ?_
    | with_reducible refine good_foldl1 ?_ ?_ | with_reducible refine good_foldl2 ?_ ?_ | intro _)

theorem State.heldCommit_good {κ : Kept} (s : State) (p pn : Nat) (hg : Good κ s) :
    Good κ (State.heldCommit s p pn) := by
  unfold State.heldCommit
  repeat' (first | with_reducible assumption | fail_if_no_progress with_reducible refine good_upd ?_)

theorem State.heldDiscard_good {κ : Kept} (s : State) (p k : Nat) (hg : Good κ s) :
    Good κ (State.heldDiscard s p k) := by
  unfold State.heldDiscard
  repeat' (first
    | with_reducible assumption | with_reducible refine good_ite ?_ ?_
    | fail_if_no_progress with_reducible refine good_upd ?_)

end Sys2Proof.Machine
end

