-- ==== Sys2Proof/Laws/GoodFrames.lean ====
section
/-! SUPPORT. What the operations of Machine/Frames.lean keep: one lemma each (Laws/GoodBase.lean). -/

namespace Sys2Proof.Machine
open Sys2Proof

-- One proof at a time: proofs checked side by side take a stack each.
set_option Elab.async false

theorem State.wantStretch_good {κ : Kept} (s : State) (p t n : Nat) (hg : Good κ s) (f_plots : κ.plots = none)
    (f_cmd : κ.cmd = none) (f_tm : κ.tm = none) :
    Good κ (State.wantStretch s p t n) := by
  unfold State.wantStretch
  repeat' (first
    | with_reducible assumption | with_reducible refine good_ite ?_ ?_
    | with_reducible refine State.divergePass_good _ _ _ _ ?_ f_plots f_cmd
    | with_reducible refine State.onTm_good _ _ _ ?_ f_plots f_tm)

theorem State.askStretch_good {κ : Kept} (s : State) (p : Nat) (hg : Good κ s) (f_plots : κ.plots = none) (f_cmd :
    κ.cmd = none) (f_tm : κ.tm = none) :
    Good κ (State.askStretch s p) := by
  unfold State.askStretch
  repeat' (first
    | with_reducible assumption | with_reducible refine good_ite ?_ ?_
    | with_reducible refine State.wantStretch_good _ _ _ _ ?_ f_plots f_cmd f_tm
    | with_reducible refine State.onTm_good _ _ _ ?_ f_plots f_tm | with_reducible refine State.flood_good _ _ _ _ ?_)

theorem State.forwardFlood_good {κ : Kept} (s : State) (port : Nat) (ws : List Word) (hg : Good κ s) :
    Good κ (State.forwardFlood s port ws) := by
  unfold State.forwardFlood
  repeat' (first
    | with_reducible assumption | with_reducible refine good_ite ?_ ?_
    | with_reducible refine State.ctrlQueueAll_good _ _ _ _ ?_)

theorem State.stretchNotice_good {κ : Kept} (s : State) (port : Nat) (ws : List Word) (hg : Good κ s) (f_plots :
    κ.plots = none) (f_cmd : κ.cmd = none) (f_tm : κ.tm = none) :
    Good κ (State.stretchNotice s port ws) := by
  unfold State.stretchNotice
  repeat' (first
    | with_reducible assumption | with_reducible refine good_ite ?_ ?_
    | with_reducible refine State.onTm_good _ _ _ ?_ f_plots f_tm
    | with_reducible refine State.forwardFlood_good _ _ _ ?_
    | with_reducible refine State.wantStretch_good _ _ _ _ ?_ f_plots f_cmd f_tm
    | fail_if_no_progress with_reducible refine good_upd ?_ | intro _ | (split))

theorem State.takeVotes_good {κ : Kept} (s : State) (p q vote : Nat) (hg : Good κ s) (f_plots : κ.plots = none)
    (f_cmd : κ.cmd = none) :
    Good κ (State.takeVotes s p q vote) := by
  unfold State.takeVotes
  repeat' (first
    | with_reducible assumption | with_reducible refine good_ite ?_ ?_ | with_reducible refine State.vote_good _ _ ?_
    | with_reducible refine State.divergePass_good _ _ _ _ ?_ f_plots f_cmd
    | with_reducible refine State.onCmt_good _ _ _ ?_ f_plots | fail_if_no_progress with_reducible refine good_upd ?_
    | with_reducible refine good_foldl ?_ ?_ | with_reducible refine good_foldl1 ?_ ?_
    | with_reducible refine good_foldl2 ?_ ?_ | intro _)

theorem State.sendBits_good {κ : Kept} (s : State) (q i : Nat) (f : BitVec 896) (hg : Good κ s) :
    Good κ (State.sendBits s q i f) := by
  unfold State.sendBits
  repeat' (first
    | with_reducible assumption | with_reducible refine good_ite ?_ ?_
    | fail_if_no_progress with_reducible refine good_upd ?_)

theorem State.sendTest_good {κ : Kept} (s : State) (q i : Nat) (hg : Good κ s) :
    Good κ (State.sendTest s q i) := by
  unfold State.sendTest
  repeat' (first
    | with_reducible assumption | with_reducible refine good_ite ?_ ?_
    | with_reducible refine State.takeFree_good _ _ ?_ | with_reducible refine State.onLane_good _ _ _ _ ?_
    | with_reducible refine State.chkBits_good _ _ _ _ ?_ | with_reducible refine State.sendBits_good _ _ _ _ ?_
    | fail_if_no_progress with_reducible refine good_upd ?_ | intro _ | (split))

theorem State.frameCount_good {κ : Kept} (s : State) (q i : Nat) (hg : Good κ s) :
    Good κ (State.frameCount s q i) := by
  unfold State.frameCount
  repeat' (first
    | with_reducible assumption | with_reducible refine good_ite ?_ ?_
    | with_reducible refine State.onLane_good _ _ _ _ ?_)

theorem State.nextAlive_good {κ : Kept} (s : State) (q i : Nat) (hg : Good κ s) :
    Good κ (State.nextAlive s q i).2 := by
  unfold State.nextAlive
  repeat' (first | with_reducible assumption | fail_if_no_progress with_reducible refine good_upd ?_)

theorem State.frameHeader_good {κ : Kept} (s : State) (q i ftype fidx : Nat) (hg : Good κ s) :
    Good κ (State.frameHeader s q i ftype fidx).2 := by
  unfold State.frameHeader
  repeat' (first
    | with_reducible assumption | with_reducible refine State.nextAlive_good _ _ _ ?_
    | with_reducible refine State.takeFree_good _ _ ?_ | intro _ | (split)
    | with_reducible refine good_pair2 (by with_reducible assumption) ?_
    | with_reducible refine good_pair1 (by with_reducible assumption) ?_
    | with_reducible refine good_pair22 (by with_reducible assumption) ?_
    | with_reducible refine good_pair222 (by with_reducible assumption) ?_
    | with_reducible refine good_pair2222 (by with_reducible assumption) ?_ | (dsimp only))

theorem State.sendFrame_good {κ : Kept} (s : State) (q i k ftype fidx payload : Nat) (hg : Good κ s) :
    Good κ (State.sendFrame s q i k ftype fidx payload) := by
  unfold State.sendFrame
  repeat' (first
    | with_reducible assumption | with_reducible refine good_ite ?_ ?_
    | with_reducible refine State.frameHeader_good _ _ _ _ _ ?_ | with_reducible refine State.sendBits_good _ _ _ _ ?_
    | with_reducible refine State.frameCount_good _ _ _ ?_)

theorem State.sendTrain_good {κ : Kept} (s : State) (q i : Nat) (hg : Good κ s) :
    Good κ (State.sendTrain s q i) := by
  unfold State.sendTrain
  repeat' (first
    | with_reducible assumption | with_reducible refine good_ite ?_ ?_
    | with_reducible refine State.onPort_good _ _ _ ?_ | with_reducible refine State.nextAlive_good _ _ _ ?_
    | with_reducible refine State.onLane_good _ _ _ _ ?_ | with_reducible refine State.sendBits_good _ _ _ _ ?_
    | with_reducible refine State.frameCount_good _ _ _ ?_)

theorem State.sendFill_good {κ : Kept} (s : State) (q i p : Nat) (hg : Good κ s) :
    Good κ (State.sendFill s q i p) := by
  unfold State.sendFill
  repeat' (first
    | with_reducible assumption | with_reducible refine good_ite ?_ ?_
    | with_reducible refine State.takeFree_good _ _ ?_ | fail_if_no_progress with_reducible refine good_upd ?_
    | intro _ | (split))

theorem State.slotMark_good {κ : Kept} (s : State) (q k : Nat) (hg : Good κ s) :
    Good κ (State.slotMark s q k) := by
  unfold State.slotMark
  repeat' (first
    | with_reducible assumption | with_reducible refine good_ite ?_ ?_
    | with_reducible refine State.onLane_good _ _ _ _ ?_ | with_reducible refine State.onPort_good _ _ _ ?_
    | fail_if_no_progress with_reducible refine good_upd ?_ | with_reducible refine good_foldl ?_ ?_
    | with_reducible refine good_foldl1 ?_ ?_ | with_reducible refine good_foldl2 ?_ ?_ | intro _)

theorem State.sendData_good {κ : Kept} (s : State) (q i k f : Nat) (claims : List Nat) (hg : Good κ s) :
    Good κ (State.sendData s q i k f claims) := by
  unfold State.sendData
  repeat' (first
    | with_reducible assumption | with_reducible refine good_ite ?_ ?_
    | with_reducible refine State.sendFrame_good _ _ _ _ _ _ _ ?_
    | with_reducible refine State.onLane_good _ _ _ _ ?_)

theorem State.sendCtrl_good {κ : Kept} (s : State) (q i k : Nat) (w : CtrlWait) (hg : Good κ s) :
    Good κ (State.sendCtrl s q i k w) := by
  unfold State.sendCtrl
  repeat' (first
    | with_reducible assumption | with_reducible refine good_ite ?_ ?_
    | with_reducible refine State.onSync_good _ _ _ ?_ | with_reducible refine State.sendFrame_good _ _ _ _ _ _ _ ?_
    | with_reducible refine State.onLane_good _ _ _ _ ?_ | fail_if_no_progress with_reducible refine good_upd ?_)

theorem State.sendOther_good {κ : Kept} (s : State) (q i k : Nat) (hg : Good κ s) :
    Good κ (State.sendOther s q i k) := by
  unfold State.sendOther
  repeat' (first
    | with_reducible assumption | with_reducible refine good_ite ?_ ?_
    | with_reducible refine State.onLane_good _ _ _ _ ?_ | with_reducible refine State.sendFrame_good _ _ _ _ _ _ _ ?_
    | with_reducible refine State.sendCtrl_good _ _ _ _ _ ?_ | fail_if_no_progress with_reducible refine good_upd ?_
    | intro _ | (split))

theorem State.frameSlot_good {κ : Kept} (s0 : State) (q i k : Nat) (hg : Good κ s0) :
    Good κ (State.frameSlot s0 q i k) := by
  unfold State.frameSlot
  repeat' (first
    | with_reducible assumption | with_reducible refine good_ite ?_ ?_
    | with_reducible refine State.slotMark_good _ _ _ ?_ | with_reducible refine State.sendFill_good _ _ _ _ ?_
    | with_reducible refine State.sendOther_good _ _ _ _ ?_ | with_reducible refine State.sendData_good _ _ _ _ _ _ ?_
    | fail_if_no_progress with_reducible refine good_upd ?_ | intro _ | (split)
    | with_reducible refine good_pair2 (by with_reducible assumption) ?_
    | with_reducible refine good_pair1 (by with_reducible assumption) ?_
    | with_reducible refine good_pair22 (by with_reducible assumption) ?_
    | with_reducible refine good_pair222 (by with_reducible assumption) ?_
    | with_reducible refine good_pair2222 (by with_reducible assumption) ?_ | (dsimp only))

theorem State.slot_good {κ : Kept} (s0 : State) (q i : Nat) (hg : Good κ s0) :
    Good κ (State.slot s0 q i) := by
  unfold State.slot
  repeat' (first
    | with_reducible assumption | with_reducible refine good_ite ?_ ?_
    | with_reducible refine State.sendTest_good _ _ _ ?_ | with_reducible refine State.slotMark_good _ _ _ ?_
    | with_reducible refine State.sendOther_good _ _ _ _ ?_ | with_reducible refine State.sendTrain_good _ _ _ ?_
    | with_reducible refine State.frameSlot_good _ _ _ _ ?_ | fail_if_no_progress with_reducible refine good_upd ?_)

end Sys2Proof.Machine
end

