-- ==== Sys2Proof/Laws/GoodHarvest.lean ====
section
/-! SUPPORT. What the operations of Machine/Harvest.lean keep: one lemma each (Laws/GoodBase.lean). -/

namespace Sys2Proof.Machine
open Sys2Proof

-- One proof at a time: proofs checked side by side take a stack each.
set_option Elab.async false

theorem State.toHead_good {κ : Kept} (s : State) (p : Nat) (g : Stage) (hg : Good κ s) (f_plots : κ.plots = none)
    (f_tm : κ.tm = none) :
    Good κ (State.toHead s p g) := by
  unfold State.toHead
  repeat' (first | with_reducible assumption | with_reducible refine State.onTm_good _ _ _ ?_ f_plots f_tm)

theorem State.hvtStateSet_good {κ : Kept} (s : State) (p v : Nat) (hg : Good κ s) :
    Good κ (State.hvtStateSet s p v) := by
  unfold State.hvtStateSet
  repeat' (first | with_reducible assumption | with_reducible refine State.put_good _ _ _ _ _ ?_)

theorem State.stageAdd_good {κ : Kept} (s : State) (n : Nat) (hg : Good κ s) :
    Good κ (State.stageAdd s n) := by
  unfold State.stageAdd
  repeat' (first | with_reducible assumption | fail_if_no_progress with_reducible refine good_upd ?_)

theorem State.ringStore_good {κ : Kept} (s : State) (p off : Nat) (bs : List Byte) (hg : Good κ s) (f_hbm : κ.hbm =
    none) :
    Good κ (State.ringStore s p off bs) := by
  unfold State.ringStore
  repeat' (first
    | with_reducible assumption | with_reducible refine State.hbmStore_good _ _ _ ?_ f_hbm
    | with_reducible refine good_foldl ?_ ?_ | with_reducible refine good_foldl1 ?_ ?_
    | with_reducible refine good_foldl2 ?_ ?_ | intro _ | (split))

theorem State.hvtMirror_good {κ : Kept} (s : State) (p : Nat) (hg : Good κ s) :
    Good κ (State.hvtMirror s p) := by
  unfold State.hvtMirror
  repeat' (first
    | with_reducible assumption | with_reducible refine State.rnSet64_good _ _ _ ?_
    | with_reducible refine State.rnSet_good _ _ _ ?_ | with_reducible refine State.putBit_good _ _ _ _ ?_)

theorem State.plotStore_good {κ : Kept} (s : State) (p : Nat) (x : Rec) (put : Ring × List (Nat × List Word)) (hg :
    Good κ s) (f_hbm : κ.hbm = none) (f_plots : κ.plots = none) :
    Good κ (State.plotStore s p x put) := by
  unfold State.plotStore
  repeat' (first
    | with_reducible assumption | with_reducible refine good_ite ?_ ?_
    | with_reducible refine State.put_good _ _ _ _ _ ?_ | with_reducible refine State.ringStore_good _ _ _ _ ?_ f_hbm
    | with_reducible refine State.stageAdd_good _ _ ?_ | with_reducible refine State.onHvt_good _ _ _ ?_ f_plots
    | with_reducible refine State.hvtMirror_good _ _ ?_ | with_reducible refine State.setBit_good _ _ _ ?_
    | fail_if_no_progress with_reducible refine good_upd ?_ | with_reducible refine good_foldl ?_ ?_
    | with_reducible refine good_foldl1 ?_ ?_ | with_reducible refine good_foldl2 ?_ ?_ | intro _)

theorem State.plotPut_good {κ : Kept} (s : State) (p : Nat) (x : Rec) (hg : Good κ s) (f_hbm : κ.hbm = none)
    (f_plots : κ.plots = none) :
    Good κ (State.plotPut s p x) := by
  unfold State.plotPut
  repeat' (first
    | with_reducible assumption | with_reducible refine good_ite ?_ ?_
    | with_reducible refine State.hvtStop_good _ _ _ _ _ ?_
    | with_reducible refine State.plotStore_good _ _ _ _ ?_ f_hbm f_plots)

theorem State.devPut_good {κ : Kept} (s : State) (x : Rec) (hg : Good κ s) :
    Good κ (State.devPut s x) := by
  unfold State.devPut
  repeat' (first
    | with_reducible assumption | with_reducible refine State.stageAdd_good _ _ ?_
    | with_reducible refine State.put_good _ _ _ _ _ ?_ | with_reducible refine State.rnSet_good _ _ _ ?_
    | fail_if_no_progress with_reducible refine good_upd ?_)

theorem State.eventOut_good {κ : Kept} (s : State) (e : EvRec) (trunc : Bool) (hg : Good κ s) (f_hbm : κ.hbm = none)
    (f_plots : κ.plots = none) :
    Good κ (State.eventOut s e trunc) := by
  unfold State.eventOut
  repeat' (first
    | with_reducible assumption | with_reducible refine good_ite ?_ ?_
    | with_reducible refine State.devPut_good _ _ ?_ | with_reducible refine State.plotPut_good _ _ _ ?_ f_hbm f_plots
    | intro _ | (split))

theorem State.devLoss_good {κ : Kept} (s : State) (count cause : Nat) (hg : Good κ s) :
    Good κ (State.devLoss s count cause) := by
  unfold State.devLoss
  repeat' (first | with_reducible assumption | with_reducible refine State.devPut_good _ _ ?_)

theorem State.fifoRun_good {κ : Kept} (s : State) (l : List EvRec) (hg : Good κ s) (f_hbm : κ.hbm = none) (f_plots
    : κ.plots = none) : Good κ (State.fifoRun s l) := by
  induction l generalizing s with
  | nil => exact hg
  | cons e es ih =>
    unfold State.fifoRun
    exact good_ite (ih _ (State.eventOut_good _ _ _ hg f_hbm f_plots)) (good_upd hg)

theorem State.drainFifo_good {κ : Kept} (s : State) (hg : Good κ s) (f_hbm : κ.hbm = none) (f_plots : κ.plots =
    none) :
    Good κ (State.drainFifo s) := by
  unfold State.drainFifo
  repeat' (first
    | with_reducible assumption | with_reducible refine good_ite ?_ ?_
    | with_reducible refine State.fifoRun_good _ _ ?_ f_hbm f_plots
    | with_reducible refine State.devLoss_good _ _ _ ?_ | fail_if_no_progress with_reducible refine good_upd ?_)

theorem State.syncWait_good {κ : Kept} (s : State) (r : Ring) (hg : Good κ s) :
    Good κ (State.syncWait s r) := by
  unfold State.syncWait
  repeat' (first
    | with_reducible assumption | with_reducible refine good_ite ?_ ?_
    | with_reducible refine State.waitUntil_good _ _ ?_)

theorem State.plotSync_good {κ : Kept} (s : State) (p : Nat) (hg : Good κ s) (f_hbm : κ.hbm = none) (f_plots :
    κ.plots = none) :
    Good κ (State.plotSync s p) := by
  unfold State.plotSync
  repeat' (first
    | with_reducible assumption | with_reducible refine State.plotPut_good _ _ _ ?_ f_hbm f_plots
    | with_reducible refine State.onHvt_good _ _ _ ?_ f_plots)

theorem State.devSync_good {κ : Kept} (s : State) (hg : Good κ s) :
    Good κ (State.devSync s) := by
  unfold State.devSync
  repeat' (first
    | with_reducible assumption | with_reducible refine State.devPut_good _ _ ?_
    | fail_if_no_progress with_reducible refine good_upd ?_)

theorem State.unitsEval_good {κ : Kept} (s : State) (p : Nat) (hg : Good κ s) (f_plots : κ.plots = none) :
    Good κ (State.unitsEval s p) := by
  unfold State.unitsEval
  repeat' (first
    | with_reducible assumption | with_reducible refine good_ite ?_ ?_
    | with_reducible refine State.onHvt_good _ _ _ ?_ f_plots)

theorem State.reduceStep_good {κ : Kept} (s : State) (p k u : Nat) (hg : Good κ s) (f_hbm : κ.hbm = none) (f_plots :
    κ.plots = none) :
    Good κ (State.reduceStep s p k u) := by
  unfold State.reduceStep
  repeat' (first
    | with_reducible assumption | with_reducible refine good_ite ?_ ?_
    | with_reducible refine State.onHvt_good _ _ _ ?_ f_plots
    | with_reducible refine State.eventOut_good _ _ _ ?_ f_hbm f_plots
    | fail_if_no_progress with_reducible refine good_upd ?_)

theorem State.reduceAll_good {κ : Kept} (s : State) (p k : Nat) (hg : Good κ s) (f_hbm : κ.hbm = none) (f_plots :
    κ.plots = none) :
    Good κ (State.reduceAll s p k) := by
  unfold State.reduceAll
  repeat' (first
    | with_reducible assumption | with_reducible refine State.reduceStep_good _ _ _ _ ?_ f_hbm f_plots
    | with_reducible refine good_foldl ?_ ?_ | with_reducible refine good_foldl1 ?_ ?_
    | with_reducible refine good_foldl2 ?_ ?_ | intro _)

theorem State.triggerRec_good {κ : Kept} (s : State) (p t mask dev : Nat) (hg : Good κ s) :
    Good κ (State.triggerRec s p t mask dev) := by
  unfold State.triggerRec
  repeat' (first
    | with_reducible assumption | with_reducible refine State.plotInt_good _ _ _ ?_
    | with_reducible refine State.event_good _ _ ?_)

theorem State.fired_good {κ : Kept} (s : State) (p t ft : Nat) (hg : Good κ s) (f_plots : κ.plots = none) :
    Good κ (State.fired s p t ft) := by
  unfold State.fired
  repeat' (first
    | with_reducible assumption | with_reducible refine State.rnSet64_good _ _ _ ?_
    | with_reducible refine State.hvtStateSet_good _ _ _ ?_ | with_reducible refine State.onHvt_good _ _ _ ?_ f_plots)

theorem State.fireFlood_good {κ : Kept} (s : State) (p : Nat) (hg : Good κ s) :
    Good κ (State.fireFlood s p) := by
  unfold State.fireFlood
  repeat' (first | with_reducible assumption | with_reducible refine State.flood_good _ _ _ _ ?_)

theorem State.holdOff_good {κ : Kept} (s : State) (p : Nat) (hg : Good κ s) (f_plots : κ.plots = none) :
    Good κ (State.holdOff s p) := by
  unfold State.holdOff
  repeat' (first
    | with_reducible assumption | with_reducible refine good_ite ?_ ?_
    | with_reducible refine State.put_good _ _ _ _ _ ?_ | with_reducible refine State.setBit_good _ _ _ ?_
    | with_reducible refine State.onHvt_good _ _ _ ?_ f_plots)

theorem State.holdEnd_good {κ : Kept} (s : State) (p : Nat) (hg : Good κ s) (f_plots : κ.plots = none) :
    Good κ (State.holdEnd s p) := by
  unfold State.holdEnd
  repeat' (first
    | with_reducible assumption | with_reducible refine State.clrBit_good _ _ _ ?_
    | with_reducible refine State.put_good _ _ _ _ _ ?_ | with_reducible refine State.onHvt_good _ _ _ ?_ f_plots)

theorem State.holdCount_good {κ : Kept} (s : State) (p hits : Nat) (hg : Good κ s) (f_plots : κ.plots = none) :
    Good κ (State.holdCount s p hits) := by
  unfold State.holdCount
  repeat' (first
    | with_reducible assumption | with_reducible refine good_ite ?_ ?_
    | with_reducible refine State.holdEnd_good _ _ ?_ f_plots
    | with_reducible refine State.onHvt_good _ _ _ ?_ f_plots)

theorem State.fire_good {κ : Kept} (s : State) (p q hits : Nat) (hg : Good κ s) (f_plots : κ.plots = none) :
    Good κ (State.fire s p q hits) := by
  unfold State.fire
  repeat' (first
    | with_reducible assumption | with_reducible refine good_ite ?_ ?_
    | with_reducible refine State.triggerRec_good _ _ _ _ _ ?_ | with_reducible refine State.count_good _ _ ?_
    | with_reducible refine State.holdOff_good _ _ ?_ f_plots
    | with_reducible refine State.fired_good _ _ _ _ ?_ f_plots
    | with_reducible refine State.onHvt_good _ _ _ ?_ f_plots | with_reducible refine State.fireFlood_good _ _ ?_
    | with_reducible refine State.hvtStop_good _ _ _ _ _ ?_)

theorem State.holdOver_good {κ : Kept} (s : State) (p : Nat) (hg : Good κ s) (f_plots : κ.plots = none) :
    Good κ (State.holdOver s p) := by
  unfold State.holdOver
  repeat' (first
    | with_reducible assumption | with_reducible refine good_ite ?_ ?_
    | with_reducible refine State.holdEnd_good _ _ ?_ f_plots)

theorem State.seqStep_good {κ : Kept} (s0 : State) (p q hits : Nat) (hg : Good κ s0) (f_plots : κ.plots = none) :
    Good κ (State.seqStep s0 p q hits) := by
  unfold State.seqStep
  repeat' (first
    | with_reducible assumption | with_reducible refine good_ite ?_ ?_
    | with_reducible refine State.holdOver_good _ _ ?_ f_plots
    | with_reducible refine State.holdCount_good _ _ _ ?_ f_plots
    | with_reducible refine State.onHvt_good _ _ _ ?_ f_plots
    | with_reducible refine State.fire_good _ _ _ _ ?_ f_plots | with_reducible refine State.put_good _ _ _ _ _ ?_)

theorem State.hitCounts_good {κ : Kept} (s : State) (p mask : Nat) (hg : Good κ s) :
    Good κ (State.hitCounts s p mask) := by
  unfold State.hitCounts
  repeat' (first
    | with_reducible assumption | with_reducible refine good_ite ?_ ?_
    | with_reducible refine State.putBit_good _ _ _ _ ?_ | with_reducible refine State.count_good _ _ ?_
    | with_reducible refine good_foldl ?_ ?_ | with_reducible refine good_foldl1 ?_ ?_
    | with_reducible refine good_foldl2 ?_ ?_ | intro _)

theorem State.hvtCommit_good {κ : Kept} (s : State) (p q : Nat) (hg : Good κ s) (f_hbm : κ.hbm = none) (f_plots :
    κ.plots = none) :
    Good κ (State.hvtCommit s p q) := by
  unfold State.hvtCommit
  repeat' (first
    | with_reducible assumption | with_reducible refine State.hitCounts_good _ _ _ ?_
    | with_reducible refine State.reduceAll_good _ _ _ ?_ f_hbm f_plots
    | with_reducible refine State.seqStep_good _ _ _ _ ?_ f_plots
    | with_reducible refine State.onHvt_good _ _ _ ?_ f_plots)

theorem State.hvtDiscard_good {κ : Kept} (s : State) (p k : Nat) (hg : Good κ s) (f_plots : κ.plots = none) :
    Good κ (State.hvtDiscard s p k) := by
  unfold State.hvtDiscard
  repeat' (first | with_reducible assumption | with_reducible refine State.onHvt_good _ _ _ ?_ f_plots)

theorem State.hvtStep0_good {κ : Kept} (s : State) (p : Nat) (k : Option Nat) (hg : Good κ s) :
    Good κ (State.hvtStep0 s p k) := by
  unfold State.hvtStep0
  repeat' (first
    | with_reducible assumption | with_reducible refine good_ite ?_ ?_
    | with_reducible refine State.hvtStop_good _ _ _ _ _ ?_)

theorem State.plotLoss_good {κ : Kept} (s : State) (p pn count cause : Nat) (hg : Good κ s) (f_hbm : κ.hbm = none)
    (f_plots : κ.plots = none) :
    Good κ (State.plotLoss s p pn count cause) := by
  unfold State.plotLoss
  repeat' (first
    | with_reducible assumption | with_reducible refine State.setBit_good _ _ _ ?_
    | with_reducible refine State.plotPut_good _ _ _ ?_ f_hbm f_plots)

theorem State.lossDue_good {κ : Kept} (s : State) (p : Nat) (hg : Good κ s) (f_hbm : κ.hbm = none) (f_plots :
    κ.plots = none) :
    Good κ (State.lossDue s p) := by
  unfold State.lossDue
  repeat' (first
    | with_reducible assumption | with_reducible refine good_ite ?_ ?_
    | with_reducible refine State.onHvt_good _ _ _ ?_ f_plots
    | with_reducible refine State.plotLoss_good _ _ _ _ _ ?_ f_hbm f_plots)

theorem State.lossAfter_good {κ : Kept} (s : State) (p : Nat) (hg : Good κ s) (f_hbm : κ.hbm = none) (f_plots :
    κ.plots = none) :
    Good κ (State.lossAfter s p) := by
  unfold State.lossAfter
  repeat' (first
    | with_reducible assumption | with_reducible refine good_ite ?_ ?_
    | with_reducible refine State.lossDue_good _ _ ?_ f_hbm f_plots)

theorem State.probesLost_good {κ : Kept} (s : State) (p cause : Nat) (hg : Good κ s) (f_plots : κ.plots = none) :
    Good κ (State.probesLost s p cause) := by
  unfold State.probesLost
  repeat' (first
    | with_reducible assumption | with_reducible refine good_ite ?_ ?_
    | with_reducible refine State.raiseAt_good _ _ _ _ _ _ _ ?_ | with_reducible refine State.setBit_good _ _ _ ?_
    | with_reducible refine State.onHvt_good _ _ _ ?_ f_plots)

theorem State.probeWrite_good {κ : Kept} (s : State) (p : Nat) (recs : List Rec) (hg : Good κ s) (f_hbm : κ.hbm =
    none) (f_plots : κ.plots = none) :
    Good κ (State.probeWrite s p recs) := by
  unfold State.probeWrite
  repeat' (first
    | with_reducible assumption | with_reducible refine good_ite ?_ ?_ | with_reducible refine State.express_good _ ?_
    | with_reducible refine State.plotLoss_good _ _ _ _ _ ?_ f_hbm f_plots
    | with_reducible refine State.plotPut_good _ _ _ ?_ f_hbm f_plots | with_reducible refine good_foldl ?_ ?_
    | with_reducible refine good_foldl1 ?_ ?_ | with_reducible refine good_foldl2 ?_ ?_ | intro _)

theorem State.probeFlush_good {κ : Kept} (s : State) (p : Nat) (bad : Bool) (hg : Good κ s) (f_hbm : κ.hbm = none)
    (f_plots : κ.plots = none) :
    Good κ (State.probeFlush s p bad) := by
  unfold State.probeFlush
  repeat' (first
    | with_reducible assumption | with_reducible refine good_ite ?_ ?_
    | with_reducible refine State.onHvt_good _ _ _ ?_ f_plots | with_reducible refine State.count_good _ _ ?_
    | with_reducible refine State.probesLost_good _ _ _ ?_ f_plots
    | with_reducible refine State.lossDue_good _ _ ?_ f_hbm f_plots
    | with_reducible refine State.probeWrite_good _ _ _ ?_ f_hbm f_plots)

theorem State.arm_good {κ : Kept} (s : State) (p dev : Nat) (late packet : Bool) (hg : Good κ s) (f_plots : κ.plots
    = none) :
    Good κ (State.arm s p dev late packet) := by
  unfold State.arm
  repeat' (first
    | with_reducible assumption | with_reducible refine good_ite ?_ ?_
    | with_reducible refine State.hvtStateSet_good _ _ _ ?_ | with_reducible refine State.put_good _ _ _ _ _ ?_
    | with_reducible refine State.clrBit_good _ _ _ ?_ | with_reducible refine State.onHvt_good _ _ _ ?_ f_plots
    | with_reducible refine State.setBit_good _ _ _ ?_ | with_reducible refine State.record_good _ _ _ _ _ _ ?_)

theorem State.armDue_good {κ : Kept} (s : State) (p : Nat) (hg : Good κ s) (f_plots : κ.plots = none) (f_cmd : κ.cmd
    = none) :
    Good κ (State.armDue s p) := by
  unfold State.armDue
  repeat' (first
    | with_reducible assumption | with_reducible refine good_ite ?_ ?_
    | with_reducible refine State.arm_good _ _ _ _ _ ?_ f_plots
    | with_reducible refine State.finish_good _ _ _ _ ?_ f_cmd
    | with_reducible refine State.onHvt_good _ _ _ ?_ f_plots
    | fail_if_no_progress with_reducible refine good_upd ?_ | intro _ | (split))

theorem State.stopDue_good {κ : Kept} (s : State) (p : Nat) (hg : Good κ s) (f_plots : κ.plots = none) (f_cmd :
    κ.cmd = none) :
    Good κ (State.stopDue s p) := by
  unfold State.stopDue
  repeat' (first
    | with_reducible assumption | with_reducible refine good_ite ?_ ?_
    | with_reducible refine State.onHvt_good _ _ _ ?_ f_plots | with_reducible refine State.hvtStop_good _ _ _ _ _ ?_
    | with_reducible refine State.finish_good _ _ _ _ ?_ f_cmd | fail_if_no_progress with_reducible refine good_upd ?_
    | intro _ | (split))

theorem State.hvtInject_good {κ : Kept} (s : State) (p : Nat) (hg : Good κ s) :
    Good κ (State.hvtInject s p) := by
  unfold State.hvtInject
  repeat' (first
    | with_reducible assumption | with_reducible refine good_ite ?_ ?_
    | with_reducible refine State.injectAt_good _ _ _ _ _ ?_ ?_ ?_
    | with_reducible refine State.raiseAt_good _ _ _ _ _ _ _ ?_ | with_reducible refine State.count_good _ _ ?_
    | exact fun _ => rfl | exact Or.inr fun _ => rfl | exact Or.inr rfl | exact Or.inl (by with_reducible assumption)
    | intro _)

theorem State.armPacket_good {κ : Kept} (s : State) (ws : List Word) (hg : Good κ s) (f_plots : κ.plots = none) :
    Good κ (State.armPacket s ws) := by
  unfold State.armPacket
  repeat' (first
    | with_reducible assumption | with_reducible refine good_ite ?_ ?_
    | with_reducible refine State.onHvt_good _ _ _ ?_ f_plots
    | fail_if_no_progress with_reducible refine good_upd ?_ | intro _ | (split))

theorem State.firePacket_good {κ : Kept} (s : State) (ws : List Word) (hg : Good κ s) (f_plots : κ.plots = none) :
    Good κ (State.firePacket s ws) := by
  unfold State.firePacket
  repeat' (first
    | with_reducible assumption | with_reducible refine good_ite ?_ ?_
    | with_reducible refine State.setBit_good _ _ _ ?_ | with_reducible refine State.triggerRec_good _ _ _ _ _ ?_
    | with_reducible refine State.count_good _ _ ?_ | with_reducible refine State.fired_good _ _ _ _ ?_ f_plots
    | with_reducible refine State.holdOff_good _ _ ?_ f_plots | with_reducible refine State.hvtStop_good _ _ _ _ _ ?_
    | intro _ | (split))

theorem State.fallowRec_good {κ : Kept} (s : State) (p : Option Nat) (enter : Bool) (level ns : Nat) (hg : Good κ s)
    (f_cmd : κ.cmd = none) :
    Good κ (State.fallowRec s p enter level ns) := by
  unfold State.fallowRec
  repeat' (first
    | with_reducible assumption | with_reducible refine good_ite ?_ ?_
    | with_reducible refine State.enter_good _ _ _ ?_ f_cmd | with_reducible refine State.event_good _ _ ?_)

theorem State.hvtRestart_good {κ : Kept} (s : State) (p : Nat) (hg : Good κ s) (f_plots : κ.plots = none) :
    Good κ (State.hvtRestart s p) := by
  unfold State.hvtRestart
  repeat' (first | with_reducible assumption | with_reducible refine State.onHvt_good _ _ _ ?_ f_plots)

end Sys2Proof.Machine
end

