-- ==== Sys2Proof/Laws/GoodCommit.lean ====
section
/-! SUPPORT. What the operations of Machine/Commit.lean keep: one lemma each (Laws/GoodBase.lean). -/

namespace Sys2Proof.Machine
open Sys2Proof

-- One proof at a time: proofs checked side by side take a stack each.
set_option Elab.async false

theorem State.copyRows_good {κ : Kept} (s : State) (f src dst : Nat) (hg : Good κ s) :
    Good κ (State.copyRows s f src dst) := by
  unfold State.copyRows
  repeat' (first | with_reducible assumption | fail_if_no_progress with_reducible refine good_upd ?_)

theorem State.versionCopy_good {κ : Kept} (s : State) (p src dst n : Nat) (hg : Good κ s) (f_plots : κ.plots = none)
    (f_cmd : κ.cmd = none) :
    Good κ (State.versionCopy s p src dst n) := by
  unfold State.versionCopy
  repeat' (first
    | with_reducible assumption | with_reducible refine State.rowsTouch_good _ _ _ _ ?_
    | with_reducible refine State.copyRows_good _ _ _ _ ?_
    | with_reducible refine State.rowsCheck_good _ _ _ _ _ ?_ f_plots f_cmd | with_reducible refine good_foldl ?_ ?_
    | with_reducible refine good_foldl1 ?_ ?_ | with_reducible refine good_foldl2 ?_ ?_ | intro _)

theorem State.versionAdvance_good {κ : Kept} (s : State) (p : Nat) (hg : Good κ s) (f_plots : κ.plots = none) (f_cmd
    : κ.cmd = none) :
    Good κ (State.versionAdvance s p) := by
  unfold State.versionAdvance
  repeat' (first
    | with_reducible assumption | with_reducible refine State.versionCopy_good _ _ _ _ _ ?_ f_plots f_cmd)

theorem State.versionRestore_good {κ : Kept} (s : State) (p k : Nat) (hg : Good κ s) (f_plots : κ.plots = none)
    (f_cmd : κ.cmd = none) :
    Good κ (State.versionRestore s p k) := by
  unfold State.versionRestore
  repeat' (first
    | with_reducible assumption | with_reducible refine State.versionCopy_good _ _ _ _ _ ?_ f_plots f_cmd)

theorem State.reloadData_good {κ : Kept} (s : State) (p n : Nat) (hg : Good κ s) (f_plots : κ.plots = none) (f_cmd :
    κ.cmd = none) :
    Good κ (State.reloadData s p n) := by
  unfold State.reloadData
  repeat' (first
    | with_reducible assumption | with_reducible refine State.rowsTouch_good _ _ _ _ ?_
    | with_reducible refine State.rowRead_good _ _ _ _ _ _ ?_ f_plots f_cmd
    | fail_if_no_progress with_reducible refine good_upd ?_ | with_reducible refine good_foldl ?_ ?_
    | with_reducible refine good_foldl1 ?_ ?_ | with_reducible refine good_foldl2 ?_ ?_ | intro _)

theorem State.pokeSlot_good {κ : Kept} (s : State) (p n l b t : Nat) (v : Val) (hg : Good κ s) :
    Good κ (State.pokeSlot s p n l b t v) := by
  unfold State.pokeSlot
  repeat' (first
    | with_reducible assumption | with_reducible refine State.stateSet_good _ _ _ _ _ _ ?_
    | with_reducible refine State.dmemSet_good _ _ _ _ _ ?_ | intro _ | (split)
    | with_reducible refine good_pair2 (by with_reducible assumption) ?_
    | with_reducible refine good_pair1 (by with_reducible assumption) ?_
    | with_reducible refine good_pair22 (by with_reducible assumption) ?_
    | with_reducible refine good_pair222 (by with_reducible assumption) ?_
    | with_reducible refine good_pair2222 (by with_reducible assumption) ?_ | (dsimp only))

theorem State.clearPass_good {κ : Kept} (s : State) (p : Nat) (hg : Good κ s) :
    Good κ (State.clearPass s p) := by
  unfold State.clearPass
  repeat' (first
    | with_reducible assumption | fail_if_no_progress with_reducible refine good_upd ?_
    | with_reducible refine good_foldl ?_ ?_ | with_reducible refine good_foldl1 ?_ ?_
    | with_reducible refine good_foldl2 ?_ ?_ | intro _)

theorem State.spanEnd_good {κ : Kept} (s : State) (p n : Nat) (hg : Good κ s) (f_plots : κ.plots = none) :
    Good κ (State.spanEnd s p n) := by
  unfold State.spanEnd
  repeat' (first
    | with_reducible assumption | with_reducible refine good_ite ?_ ?_
    | with_reducible refine State.clrBit_good _ _ _ ?_ | with_reducible refine State.cmtStateSet_good _ _ _ ?_
    | with_reducible refine State.onCmt_good _ _ _ ?_ f_plots | with_reducible refine State.sigRestartAll_good _ _ ?_)

theorem State.recoveryDone_good {κ : Kept} (s : State) (p n : Nat) (hg : Good κ s) (f_plots : κ.plots = none) (f_cmd
    : κ.cmd = none) :
    Good κ (State.recoveryDone s p n) := by
  unfold State.recoveryDone
  repeat' (first
    | with_reducible assumption | with_reducible refine good_ite ?_ ?_ | with_reducible refine State.count_good _ _ ?_
    | with_reducible refine State.setBit_good _ _ _ ?_ | with_reducible refine State.rnSet_good _ _ _ ?_
    | with_reducible refine State.onCmt_good _ _ _ ?_ f_plots
    | with_reducible refine State.finishOpt_good _ _ _ _ ?_ f_cmd
    | with_reducible refine State.spanEnd_good _ _ _ ?_ f_plots
    | fail_if_no_progress with_reducible refine good_upd ?_ | with_reducible refine good_foldl ?_ ?_
    | with_reducible refine good_foldl1 ?_ ?_ | with_reducible refine good_foldl2 ?_ ?_ | intro _)

theorem State.beginPass_good {κ : Kept} (s : State) (p n : Nat) (hg : Good κ s) (f_plots : κ.plots = none) (f_cmd :
    κ.cmd = none) (f_tm : κ.tm = none) :
    Good κ (State.beginPass s p n) := by
  unfold State.beginPass
  repeat' (first
    | with_reducible assumption | with_reducible refine good_ite ?_ ?_
    | with_reducible refine State.onPlot_good _ _ _ ?_ ?_ ?_ ?_ f_plots
    | with_reducible refine State.recoveryDone_good _ _ _ ?_ f_plots f_cmd
    | with_reducible refine State.clearPass_good _ _ ?_ | with_reducible refine State.sigPassStart_good _ _ _ ?_
    | with_reducible refine State.askStretch_good _ _ ?_ f_plots f_cmd f_tm
    | fail_if_no_progress with_reducible refine good_upd ?_ | exact fun _ => rfl | exact Or.inr fun _ => rfl
    | exact Or.inr rfl | exact Or.inl (by with_reducible assumption))

theorem State.beginHeadland_good {κ : Kept} (s : State) (p : Nat) (hg : Good κ s) (f_plots : κ.plots = none) (f_cmd
    : κ.cmd = none) (f_tm : κ.tm = none) :
    Good κ (State.beginHeadland s p) := by
  unfold State.beginHeadland
  repeat' (first
    | with_reducible assumption | with_reducible refine State.stagePass_good _ _ ?_
    | with_reducible refine State.sigPassEnd_good _ _ _ ?_
    | with_reducible refine State.onPlot_good _ _ _ ?_ ?_ ?_ ?_ f_plots
    | with_reducible refine State.readyPlot_good _ _ ?_ f_cmd | fail_if_no_progress with_reducible refine good_upd ?_
    | with_reducible refine good_foldl ?_ ?_ | with_reducible refine good_foldl1 ?_ ?_
    | with_reducible refine good_foldl2 ?_ ?_ | exact fun _ => rfl | exact Or.inr fun _ => rfl | exact Or.inr rfl
    | exact Or.inl (by with_reducible assumption))

theorem State.swapsEnd_good {κ : Kept} (s : State) (p n : Nat) (hg : Good κ s) :
    Good κ (State.swapsEnd s p n) := by
  unfold State.swapsEnd
  repeat' (first
    | with_reducible assumption | with_reducible refine good_ite ?_ ?_
    | with_reducible refine State.putBit_good _ _ _ _ ?_ | with_reducible refine State.clrBit_good _ _ _ ?_
    | with_reducible refine State.setBit_good _ _ _ ?_ | with_reducible refine good_foldl ?_ ?_
    | with_reducible refine good_foldl1 ?_ ?_ | with_reducible refine good_foldl2 ?_ ?_ | intro _)

theorem State.swapsCommit_good {κ : Kept} (s : State) (p k : Nat) (hg : Good κ s) :
    Good κ (State.swapsCommit s p k) := by
  unfold State.swapsCommit
  repeat' (first
    | with_reducible assumption | with_reducible refine good_ite ?_ ?_
    | with_reducible refine State.clrBit_good _ _ _ ?_ | with_reducible refine good_foldl ?_ ?_
    | with_reducible refine good_foldl1 ?_ ?_ | with_reducible refine good_foldl2 ?_ ?_ | intro _)

theorem State.swapsBack_good {κ : Kept} (s : State) (p k : Nat) (hg : Good κ s) :
    Good κ (State.swapsBack s p k) := by
  unfold State.swapsBack
  repeat' (first
    | with_reducible assumption | with_reducible refine good_ite ?_ ?_
    | with_reducible refine State.putBit_good _ _ _ _ ?_ | with_reducible refine State.setBit_good _ _ _ ?_
    | with_reducible refine State.clrBit_good _ _ _ ?_ | with_reducible refine good_foldl ?_ ?_
    | with_reducible refine good_foldl1 ?_ ?_ | with_reducible refine good_foldl2 ?_ ?_ | intro _)

theorem State.stakeRec_good {κ : Kept} (s : State) (p kind n : Nat) (hg : Good κ s) :
    Good κ (State.stakeRec s p kind n) := by
  unfold State.stakeRec
  repeat' (first | with_reducible assumption | with_reducible refine State.record_good _ _ _ _ _ _ ?_)

theorem State.rowIdle_good {κ : Kept} (s : State) (p f kind row b mark : Nat) (hg : Good κ s) (f_plots : κ.plots =
    none) (f_cmd : κ.cmd = none) :
    Good κ (State.rowIdle s p f kind row b mark) := by
  unfold State.rowIdle
  repeat' (first
    | with_reducible assumption | with_reducible refine good_ite ?_ ?_
    | with_reducible refine State.idleCause_good _ _ _ _ _ _ ?_ f_plots f_cmd
    | with_reducible refine State.eccSet_good _ _ _ _ ?_)

theorem State.dataChecks_good {κ : Kept} (s : State) (p : Nat) (hg : Good κ s) (f_plots : κ.plots = none) (f_cmd :
    κ.cmd = none) :
    Good κ (State.dataChecks s p) := by
  unfold State.dataChecks
  repeat' (first
    | with_reducible assumption | with_reducible refine State.rowIdle_good _ _ _ _ _ _ _ ?_ f_plots f_cmd
    | with_reducible refine good_foldl ?_ ?_ | with_reducible refine good_foldl1 ?_ ?_
    | with_reducible refine good_foldl2 ?_ ?_ | intro _)

theorem State.copyChecks_good {κ : Kept} (s : State) (p n : Nat) (hg : Good κ s) (f_plots : κ.plots = none) (f_cmd :
    κ.cmd = none) :
    Good κ (State.copyChecks s p n) := by
  unfold State.copyChecks
  repeat' (first
    | with_reducible assumption | with_reducible refine good_ite ?_ ?_
    | with_reducible refine State.rowsTouch_good _ _ _ _ ?_
    | with_reducible refine State.rowsCheck_good _ _ _ _ _ ?_ f_plots f_cmd
    | with_reducible refine State.rowIdle_good _ _ _ _ _ _ _ ?_ f_plots f_cmd
    | with_reducible refine State.ramCheck_good _ _ _ _ _ ?_ f_plots f_cmd | with_reducible refine good_foldl ?_ ?_
    | with_reducible refine good_foldl1 ?_ ?_ | with_reducible refine good_foldl2 ?_ ?_ | intro _)

theorem State.capture_good {κ : Kept} (s : State) (p n : Nat) (hg : Good κ s) (f_plots : κ.plots = none) (f_cmd :
    κ.cmd = none) :
    Good κ (State.capture s p n) := by
  unfold State.capture
  repeat' (first
    | with_reducible assumption | with_reducible refine State.setBit_good _ _ _ ?_
    | with_reducible refine State.plotInt_good _ _ _ ?_ | with_reducible refine State.stakeRec_good _ _ _ _ ?_
    | with_reducible refine State.onCmt_good _ _ _ ?_ f_plots
    | with_reducible refine State.finishOpt_good _ _ _ _ ?_ f_cmd
    | with_reducible refine State.copyChecks_good _ _ _ ?_ f_plots f_cmd
    | with_reducible refine State.put_good _ _ _ _ _ ?_ | fail_if_no_progress with_reducible refine good_upd ?_
    | with_reducible refine good_foldl ?_ ?_ | with_reducible refine good_foldl1 ?_ ?_
    | with_reducible refine good_foldl2 ?_ ?_ | intro _ | (split))

theorem State.reapplyRec_good {κ : Kept} (s : State) (p : Nat) (y0 : LogRec) (hg : Good κ s) (f_plots : κ.plots =
    none) (f_cmd : κ.cmd = none) :
    Good κ (State.reapplyRec s p y0) := by
  unfold State.reapplyRec
  repeat' (first
    | with_reducible assumption | with_reducible refine State.pokeSlot_good _ _ _ _ _ _ _ ?_
    | with_reducible refine State.ramWrite_good _ _ _ _ _ ?_ f_plots f_cmd
    | with_reducible refine State.ramStore_good _ _ _ _ _ _ _ _ ?_ f_plots f_cmd
    | with_reducible refine State.wqEnter_good _ _ ?_
    | with_reducible refine State.wqOverflow_good _ _ _ _ _ ?_ f_plots f_cmd
    | with_reducible refine State.sigRestart_good _ _ ?_ | intro _ | (split)
    | with_reducible refine good_pair2 (by with_reducible assumption) ?_)

theorem State.reapplyMem_good {κ : Kept} (s : State) (p n : Nat) (hg : Good κ s) (f_plots : κ.plots = none) (f_cmd :
    κ.cmd = none) :
    Good κ (State.reapplyMem s p n) := by
  unfold State.reapplyMem
  repeat' (first
    | with_reducible assumption | with_reducible refine State.ramWrite_good _ _ _ _ _ ?_ f_plots f_cmd
    | with_reducible refine State.reapplyRec_good _ _ _ ?_ f_plots f_cmd | with_reducible refine good_foldl ?_ ?_
    | with_reducible refine good_foldl1 ?_ ?_ | with_reducible refine good_foldl2 ?_ ?_ | intro _ | (split))

theorem State.logCommit_good {κ : Kept} (s : State) (p k : Nat) (hg : Good κ s) (f_plots : κ.plots = none) :
    Good κ (State.logCommit s p k) := by
  unfold State.logCommit
  repeat' (first
    | with_reducible assumption | with_reducible refine good_ite ?_ ?_
    | with_reducible refine State.logTrim_good _ _ _ ?_ f_plots)

theorem State.stopFor_good {κ : Kept} (s : State) (p status : Nat) (hg : Good κ s) (f_plots : κ.plots = none) :
    Good κ (State.stopFor s p status) := by
  unfold State.stopFor
  repeat' (first
    | with_reducible assumption | with_reducible refine State.onCmt_good _ _ _ ?_ f_plots
    | with_reducible refine State.noteFault_good _ _ _ ?_ f_plots)

theorem State.runProgress_good {κ : Kept} (s : State) (p : Nat) (hg : Good κ s) (f_cmd : κ.cmd = none) :
    Good κ (State.runProgress s p) :=
  hg.mapCmds f_cmd fun c => by split <;> rfl

theorem State.commitPass_good {κ : Kept} (s : State) (p k : Nat) (hg : Good κ s) (f_plots : κ.plots = none) (f_cmd :
    κ.cmd = none) (f_tm : κ.tm = none) :
    Good κ (State.commitPass s p k) := by
  unfold State.commitPass
  repeat' (first
    | with_reducible assumption | with_reducible refine good_ite ?_ ?_
    | with_reducible refine State.onPlot_good _ _ _ ?_ ?_ ?_ ?_ f_plots
    | with_reducible refine State.runProgress_good _ _ ?_ f_cmd | with_reducible refine State.put_good _ _ _ _ _ ?_
    | with_reducible refine State.undoFree_good _ _ _ ?_ | with_reducible refine State.readsCommit_good _ _ _ ?_
    | with_reducible refine State.heldCommit_good _ _ _ ?_ | with_reducible refine State.swapsCommit_good _ _ _ ?_
    | with_reducible refine State.sigCommit_good _ _ _ ?_
    | with_reducible refine State.corunCommit_good _ _ _ ?_ f_plots
    | with_reducible refine State.bridgeCommit_good _ _ _ ?_
    | with_reducible refine State.stopFor_good _ _ _ ?_ f_plots
    | with_reducible refine State.dataLoss_good _ _ _ _ ?_ f_plots | with_reducible refine State.plotInt_good _ _ _ ?_
    | with_reducible refine State.cmtStateSet_good _ _ _ ?_
    | with_reducible refine State.capture_good _ _ _ ?_ f_plots f_cmd
    | with_reducible refine State.logCommit_good _ _ _ ?_ f_plots
    | fail_if_no_progress with_reducible refine good_upd ?_ | with_reducible refine good_foldl ?_ ?_
    | with_reducible refine good_foldl1 ?_ ?_ | with_reducible refine good_foldl2 ?_ ?_ | exact fun _ => rfl
    | exact Or.inr fun _ => rfl | exact Or.inr rfl | exact Or.inl (by with_reducible assumption) | intro _)

theorem State.exposure_good {κ : Kept} (s : State) (p k : Nat) (hg : Good κ s) (f_plots : κ.plots = none) :
    Good κ (State.exposure s p k) := by
  unfold State.exposure
  repeat' (first
    | with_reducible assumption | with_reducible refine good_ite ?_ ?_
    | with_reducible refine State.setBit_good _ _ _ ?_ | with_reducible refine State.plotState_good _ _ _ _ _ ?_
    | with_reducible refine State.plotInt_good _ _ _ ?_ | with_reducible refine State.onCmt_good _ _ _ ?_ f_plots)

theorem State.failPass_good {κ : Kept} (s : State) (p k : Nat) (hg : Good κ s) (f_plots : κ.plots = none) (f_cmd :
    κ.cmd = none) (f_tm : κ.tm = none) :
    Good κ (State.failPass s p k) := by
  unfold State.failPass
  repeat' (first
    | with_reducible assumption | with_reducible refine good_ite ?_ ?_
    | with_reducible refine State.put_good _ _ _ _ _ ?_ | with_reducible refine State.rnSet64_good _ _ _ ?_
    | with_reducible refine State.count_good _ _ ?_
    | with_reducible refine State.onPlot_good _ _ _ ?_ ?_ ?_ ?_ f_plots
    | with_reducible refine State.record_good _ _ _ _ _ _ ?_
    | with_reducible refine State.versionRestore_good _ _ _ ?_ f_plots f_cmd
    | with_reducible refine State.fioDiscard_good _ _ _ _ ?_ | with_reducible refine State.gateDiscard_good _ _ _ ?_
    | with_reducible refine State.sigDiscard_good _ _ _ ?_
    | with_reducible refine State.hvtDiscard_good _ _ _ ?_ f_plots
    | with_reducible refine State.cmtStateSet_good _ _ _ ?_ | with_reducible refine State.swapsBack_good _ _ _ ?_
    | with_reducible refine State.exposure_good _ _ _ ?_ f_plots
    | fail_if_no_progress with_reducible refine good_upd ?_ | exact fun _ => rfl | exact Or.inr fun _ => rfl
    | exact Or.inr rfl | exact Or.inl (by with_reducible assumption))

end Sys2Proof.Machine
end

