-- ==== Sys2Proof/Laws/GoodHolds.lean ====
section
/-! SUPPORT. What the operations of Machine/Holds.lean keep: one lemma each (Laws/GoodBase.lean). -/

namespace Sys2Proof.Machine
open Sys2Proof

-- One proof at a time: proofs checked side by side take a stack each.
set_option Elab.async false

theorem State.onHold_good {κ : Kept} (s : State) (p : Nat) (f : Hold → Hold) (hg : Good κ s) (f_plots : κ.plots =
    none) :
    Good κ (State.onHold s p f) := by
  unfold State.onHold
  repeat' (first | with_reducible assumption | with_reducible refine State.onCmt_good _ _ _ ?_ f_plots)

theorem State.resumeAt_good {κ : Kept} (s : State) (p pass ft : Nat) (hg : Good κ s) (f_plots : κ.plots = none) :
    Good κ (State.resumeAt s p pass ft) := by
  unfold State.resumeAt
  repeat' (first
    | with_reducible assumption | with_reducible refine good_ite ?_ ?_
    | with_reducible refine State.onCmt_good _ _ _ ?_ f_plots)

theorem State.readyCheck_good {κ : Kept} (s : State) (p : Nat) (hg : Good κ s) (f_plots : κ.plots = none) (f_cmd :
    κ.cmd = none) (f_tm : κ.tm = none) :
    Good κ (State.readyCheck s p) := by
  unfold State.readyCheck
  repeat' (first
    | with_reducible assumption | with_reducible refine good_ite ?_ ?_
    | with_reducible refine State.recoveryFailed_good _ _ ?_ f_plots f_cmd f_tm
    | with_reducible refine State.floodCtl_good _ _ _ _ _ _ _ ?_
    | with_reducible refine State.resumeAt_good _ _ _ _ ?_ f_plots | intro _ | (split))

theorem State.holdReady_good {κ : Kept} (s : State) (p dev point : Nat) (failed : Bool) (hg : Good κ s) (f_plots :
    κ.plots = none) (f_cmd : κ.cmd = none) (f_tm : κ.tm = none) :
    Good κ (State.holdReady s p dev point failed) := by
  unfold State.holdReady
  repeat' (first
    | with_reducible assumption | with_reducible refine State.onHold_good _ _ _ ?_ f_plots
    | with_reducible refine State.readyCheck_good _ _ ?_ f_plots f_cmd f_tm)

theorem State.xtRewrite_good {κ : Kept} (s : State) (es : List Nat) (hg : Good κ s) :
    Good κ (State.xtRewrite s es) := by
  unfold State.xtRewrite
  repeat' (first
    | with_reducible assumption | fail_if_no_progress with_reducible refine good_upd ?_
    | with_reducible refine good_foldl ?_ ?_ | with_reducible refine good_foldl1 ?_ ?_
    | with_reducible refine good_foldl2 ?_ ?_ | intro _)

theorem State.selectsRewrite_good {κ : Kept} (s : State) (acres : List Nat) (hg : Good κ s) :
    Good κ (State.selectsRewrite s acres) := by
  unfold State.selectsRewrite
  repeat' (first | with_reducible assumption | fail_if_no_progress with_reducible refine good_upd ?_)

theorem State.healWork_good {κ : Kept} (s : State) (p k : Nat) (hg : Good κ s) :
    Good κ (State.healWork s p k).2 := by
  unfold State.healWork
  repeat' (first
    | with_reducible assumption | with_reducible refine State.xtRewrite_good _ _ ?_
    | fail_if_no_progress with_reducible refine good_upd ?_)

theorem State.moveConfig_good {κ : Kept} (s : State) (l old new : Nat) (settings : List (Nat × Nat × Nat)) (hg :
    Good κ s) :
    Good κ (State.moveConfig s l old new settings) := by
  unfold State.moveConfig
  repeat' (first
    | with_reducible assumption | with_reducible refine State.rnSet_good _ _ _ ?_
    | fail_if_no_progress with_reducible refine good_upd ?_ | with_reducible refine good_foldl ?_ ?_
    | with_reducible refine good_foldl1 ?_ ?_ | with_reducible refine good_foldl2 ?_ ?_ | intro _)

theorem State.gateFurrow_good {κ : Kept} (s : State) (f : Nat) (hg : Good κ s) :
    Good κ (State.gateFurrow s f) := by
  unfold State.gateFurrow
  repeat' (first | with_reducible assumption | fail_if_no_progress with_reducible refine good_upd ?_)

theorem State.moveOwner_good {κ : Kept} (s : State) (p old new : Nat) (hg : Good κ s) :
    Good κ (State.moveOwner s p old new) := by
  unfold State.moveOwner
  repeat' (first
    | with_reducible assumption | with_reducible refine State.clrBit_good _ _ _ ?_
    | with_reducible refine State.put_good _ _ _ _ _ ?_ | with_reducible refine State.setBit_good _ _ _ ?_)

theorem State.sweepMoved_good {κ : Kept} (s : State) (old new : Nat) (hg : Good κ s) :
    Good κ (State.sweepMoved s old new) := by
  unfold State.sweepMoved
  repeat' (first
    | with_reducible assumption | with_reducible refine good_ite ?_ ?_ | fail_if_no_progress with_reducible refine good_upd ?_)

theorem State.substitute_good {κ : Kept} (s : State) (p old : Nat) (hg : Good κ s) :
    Good κ (State.substitute s p old).1 := by
  unfold State.substitute
  repeat' (first
    | with_reducible assumption | with_reducible refine good_ite1 ?_ ?_
    | with_reducible refine State.moveConfig_good _ _ _ _ _ ?_ | with_reducible refine State.moveOwner_good _ _ _ _ ?_
    | with_reducible refine State.gateFurrow_good _ _ ?_ | with_reducible refine State.sweepMoved_good _ _ _ ?_
    | with_reducible refine State.rnSet_good _ _ _ ?_ | fail_if_no_progress with_reducible refine good_upd ?_
    | intro _ | (split))

theorem State.latFail_good {κ : Kept} (s : State) (p q : Nat) (hg : Good κ s) :
    Good κ (State.latFail s p q) := by
  unfold State.latFail
  repeat' (first
    | with_reducible assumption | with_reducible refine State.setBit_good _ _ _ ?_
    | with_reducible refine State.put_good _ _ _ _ _ ?_)

theorem State.spareCharged_good {κ : Kept} (s : State) (p k : Nat) (lanes : List Nat) (hg : Good κ s) (f_plots :
    κ.plots = none) :
    Good κ (State.spareCharged s p k lanes) := by
  unfold State.spareCharged
  repeat' (first
    | with_reducible assumption | with_reducible refine State.startSparing_good _ _ _ _ ?_
    | with_reducible refine State.sendMgmt_good _ _ _ _ _ _ _ ?_
    | with_reducible refine State.onHold_good _ _ _ ?_ f_plots | fail_if_no_progress with_reducible refine good_upd ?_
    | with_reducible refine good_foldl ?_ ?_ | with_reducible refine good_foldl1 ?_ ?_
    | with_reducible refine good_foldl2 ?_ ?_ | intro _ | (split)
    | with_reducible refine good_pair2 (by with_reducible assumption) ?_
    | with_reducible refine good_pair1 (by with_reducible assumption) ?_)

theorem State.enterHold_good {κ : Kept} (s : State) (p : Nat) (hg : Good κ s) (f_plots : κ.plots = none) (f_tm :
    κ.tm = none) :
    Good κ (State.enterHold s p) := by
  unfold State.enterHold
  repeat' (first
    | with_reducible assumption | with_reducible refine good_ite ?_ ?_
    | with_reducible refine State.onPlot_good _ _ _ ?_ ?_ ?_ ?_ f_plots
    | with_reducible refine State.cmtStateSet_good _ _ _ ?_ | with_reducible refine State.plotInt_good _ _ _ ?_
    | with_reducible refine State.setBit_good _ _ _ ?_ | with_reducible refine State.holdRec_good _ _ _ _ _ _ ?_
    | with_reducible refine State.spareCharged_good _ _ _ _ ?_ f_plots
    | fail_if_no_progress with_reducible refine good_upd ?_
    | fail_if_no_progress with_reducible refine good_updCmd ?_ f_cmd | exact fun _ => rfl | exact Or.inr fun _ => rfl
    | exact Or.inr rfl | exact Or.inl (by with_reducible assumption))

theorem State.chargeRecs_good {κ : Kept} (s : State) (p : Nat) (cs : List Charge) (hg : Good κ s) :
    Good κ (State.chargeRecs s p cs) := by
  unfold State.chargeRecs
  repeat' (first
    | with_reducible assumption | with_reducible refine State.faultRec_good _ _ _ _ _ _ _ _ ?_
    | with_reducible refine good_foldl ?_ ?_ | with_reducible refine good_foldl1 ?_ ?_
    | with_reducible refine good_foldl2 ?_ ?_ | intro _)

theorem State.takeActions_good {κ : Kept} (s : State) (p : Nat) (cs : List Charge) (lanes : List Nat) (hg : Good κ
    s) :
    Good κ (State.takeActions s p cs lanes).1 := by
  unfold State.takeActions
  repeat' (first
    | with_reducible assumption | with_reducible refine good_ite1 ?_ ?_
    | with_reducible refine State.substitute_good _ _ _ ?_ | with_reducible refine State.selectsRewrite_good _ _ ?_
    | with_reducible refine State.xtRewrite_good _ _ ?_ | with_reducible refine State.latFail_good _ _ _ ?_
    | with_reducible refine good_foldl ?_ ?_ | with_reducible refine good_foldl1 ?_ ?_
    | with_reducible refine good_foldl2 ?_ ?_ | intro _ | (split)
    | with_reducible refine good_pair2 (by with_reducible assumption) ?_
    | with_reducible refine good_pair1 (by with_reducible assumption) ?_
    | with_reducible refine good_pair22 (by with_reducible assumption) ?_
    | with_reducible refine good_pair222 (by with_reducible assumption) ?_
    | with_reducible refine good_pair2222 (by with_reducible assumption) ?_ | (dsimp only))

theorem State.loadState_good {κ : Kept} (s : State) (p : Nat) (c : StakeCopy) (n : Nat) (hg : Good κ s) (f_plots :
    κ.plots = none) (f_cmd : κ.cmd = none) :
    Good κ (State.loadState s p c n) := by
  unfold State.loadState
  repeat' (first
    | with_reducible assumption | with_reducible refine State.stateSet_good _ _ _ _ _ _ ?_
    | with_reducible refine State.versionRestore_good _ _ _ ?_ f_plots f_cmd
    | fail_if_no_progress with_reducible refine good_upd ?_ | with_reducible refine good_foldl ?_ ?_
    | with_reducible refine good_foldl1 ?_ ?_ | with_reducible refine good_foldl2 ?_ ?_ | intro _)

theorem State.loadRam_good {κ : Kept} (s : State) (p : Nat) (c : StakeCopy) (hg : Good κ s) :
    Good κ (State.loadRam s p c) := by
  unfold State.loadRam
  repeat' (first | with_reducible assumption | fail_if_no_progress with_reducible refine good_upd ?_)

theorem State.loadCarried_good {κ : Kept} (s : State) (p : Nat) (c : StakeCopy) (hg : Good κ s) :
    Good κ (State.loadCarried s p c) := by
  unfold State.loadCarried
  repeat' (first
    | with_reducible assumption | fail_if_no_progress with_reducible refine good_upd ?_
    | fail_if_no_progress with_reducible refine good_updHbm ?_)

theorem State.settleQueue_good {κ : Kept} (s : State) (p n : Nat) (hg : Good κ s) (f_hbm : κ.hbm = none) (f_plots :
    κ.plots = none) (f_cmd : κ.cmd = none) :
    Good κ (State.settleQueue s p n) := by
  unfold State.settleQueue
  repeat' (first
    | with_reducible assumption | with_reducible refine State.drainEntry_good _ _ ?_ f_hbm f_plots f_cmd
    | with_reducible refine State.wqStat_good _ _ ?_ | fail_if_no_progress with_reducible refine good_upd ?_
    | fail_if_no_progress with_reducible refine good_updHbm ?_ | with_reducible refine good_foldl ?_ ?_
    | with_reducible refine good_foldl1 ?_ ?_ | with_reducible refine good_foldl2 ?_ ?_ | intro _)

theorem State.undoJournal_good {κ : Kept} (s : State) (p n : Nat) (hg : Good κ s) (f_hbm : κ.hbm = none) :
    Good κ (State.undoJournal s p n) := by
  unfold State.undoJournal
  repeat' (first
    | with_reducible assumption | with_reducible refine State.hbmStore_good _ _ _ ?_ f_hbm
    | fail_if_no_progress with_reducible refine good_upd ?_
    | fail_if_no_progress with_reducible refine good_updHbm ?_ | with_reducible refine good_foldl ?_ ?_
    | with_reducible refine good_foldl1 ?_ ?_ | with_reducible refine good_foldl2 ?_ ?_ | intro _)

theorem State.restoreStake_good {κ : Kept} (s : State) (p k : Nat) (c : StakeCopy) (hg : Good κ s) (f_hbm : κ.hbm =
    none) (f_plots : κ.plots = none) (f_cmd : κ.cmd = none) (f_tm : κ.tm = none) :
    Good κ (State.restoreStake s p k c) := by
  unfold State.restoreStake
  repeat' (first
    | with_reducible assumption | with_reducible refine good_ite ?_ ?_
    | with_reducible refine State.settleQueue_good _ _ _ ?_ f_hbm f_plots f_cmd
    | with_reducible refine State.loadState_good _ _ _ _ ?_ f_plots f_cmd
    | with_reducible refine State.loadRam_good _ _ _ ?_ | with_reducible refine State.loadCarried_good _ _ _ ?_
    | with_reducible refine State.reloadData_good _ _ _ ?_ f_plots f_cmd
    | with_reducible refine State.undoJournal_good _ _ _ ?_ f_hbm
    | with_reducible refine State.reapplyMem_good _ _ _ ?_ f_plots f_cmd
    | with_reducible refine State.fioDiscard_good _ _ _ _ ?_ | with_reducible refine State.gateDiscard_good _ _ _ ?_
    | with_reducible refine State.sigDiscard_good _ _ _ ?_
    | with_reducible refine State.hvtDiscard_good _ _ _ ?_ f_plots
    | with_reducible refine State.swapsBack_good _ _ _ ?_
    | with_reducible refine State.onPlot_good _ _ _ ?_ ?_ ?_ ?_ f_plots
    | fail_if_no_progress with_reducible refine good_upd ?_ | exact fun _ => rfl | exact Or.inr fun _ => rfl
    | exact Or.inr rfl | exact Or.inl (by with_reducible assumption))

theorem State.putBack_good {κ : Kept} (s : State) (p : Nat) (b : TakenBack) (hg : Good κ s) (f_hbm : κ.hbm = none)
    (f_plots : κ.plots = none) (f_cmd : κ.cmd = none) (f_tm : κ.tm = none) :
    Good κ (State.putBack s p b) := by
  unfold State.putBack
  repeat' (first
    | with_reducible assumption | with_reducible refine good_ite ?_ ?_
    | with_reducible refine State.hbmStore_good _ _ _ ?_ f_hbm
    | with_reducible refine State.loadState_good _ _ _ _ ?_ f_plots f_cmd
    | with_reducible refine State.loadRam_good _ _ _ ?_ | with_reducible refine State.loadCarried_good _ _ _ ?_
    | with_reducible refine State.reloadData_good _ _ _ ?_ f_plots f_cmd
    | with_reducible refine State.wqStat_good _ _ ?_
    | with_reducible refine State.onPlot_good _ _ _ ?_ ?_ ?_ ?_ f_plots
    | fail_if_no_progress with_reducible refine good_upd ?_ | fail_if_no_progress with_reducible refine good_updHbm ?_
    | with_reducible refine good_foldl ?_ ?_ | with_reducible refine good_foldl1 ?_ ?_
    | with_reducible refine good_foldl2 ?_ ?_ | exact fun _ => rfl | exact Or.inr fun _ => rfl | exact Or.inr rfl
    | exact Or.inl (by with_reducible assumption) | intro _)

theorem State.promote_good {κ : Kept} (s : State) (p n : Nat) (hg : Good κ s) (f_plots : κ.plots = none) (f_cmd :
    κ.cmd = none) :
    Good κ (State.promote s p n) := by
  unfold State.promote
  repeat' (first
    | with_reducible assumption | with_reducible refine good_ite ?_ ?_
    | with_reducible refine State.setBit_good _ _ _ ?_ | with_reducible refine State.putBit_good _ _ _ _ ?_
    | with_reducible refine State.rnSet64_good _ _ _ ?_ | with_reducible refine State.logTrim_good _ _ _ ?_ f_plots
    | with_reducible refine State.stakeRec_good _ _ _ _ ?_ | with_reducible refine State.onCmt_good _ _ _ ?_ f_plots
    | with_reducible refine State.finishOpt_good _ _ _ _ ?_ f_cmd
    | fail_if_no_progress with_reducible refine good_upd ?_ | fail_if_no_progress with_reducible refine good_updHbm ?_
    | with_reducible refine good_foldl ?_ ?_ | with_reducible refine good_foldl1 ?_ ?_
    | with_reducible refine good_foldl2 ?_ ?_ | intro _)

theorem State.stakeDone_good {κ : Kept} (s : State) (p dev n status : Nat) (hg : Good κ s) (f_plots : κ.plots =
    none) (f_cmd : κ.cmd = none) :
    Good κ (State.stakeDone s p dev n status) := by
  unfold State.stakeDone
  repeat' (first
    | with_reducible assumption | with_reducible refine good_ite ?_ ?_
    | with_reducible refine State.onCmt_good _ _ _ ?_ f_plots
    | with_reducible refine State.finishOpt_good _ _ _ _ ?_ f_cmd
    | with_reducible refine State.promote_good _ _ _ ?_ f_plots f_cmd
    | fail_if_no_progress with_reducible refine good_upd ?_ | with_reducible refine good_foldl ?_ ?_
    | with_reducible refine good_foldl1 ?_ ?_ | with_reducible refine good_foldl2 ?_ ?_ | intro _)

theorem State.areaWrite_good {κ : Kept} (s : State) (p area off : Nat) (bs : List Byte) (hg : Good κ s) (f_hbm :
    κ.hbm = none) :
    Good κ (State.areaWrite s p area off bs) := by
  unfold State.areaWrite
  repeat' (first
    | with_reducible assumption | with_reducible refine good_ite ?_ ?_
    | with_reducible refine State.hbmStore_good _ _ _ ?_ f_hbm | with_reducible refine good_foldl ?_ ?_
    | with_reducible refine good_foldl1 ?_ ?_ | with_reducible refine good_foldl2 ?_ ?_ | intro _)

theorem State.stakeWrite_good {κ : Kept} (s : State) (p : Nat) (r r1 : StakeRun) (hg : Good κ s) (f_hbm : κ.hbm =
    none) :
    Good κ (State.stakeWrite s p r r1) := by
  unfold State.stakeWrite
  repeat' (first | with_reducible assumption | with_reducible refine State.areaWrite_good _ _ _ _ _ ?_ f_hbm)

theorem State.stakeHead_good {κ : Kept} (s : State) (p : Nat) (c : StakeCopy) (hg : Good κ s) (f_hbm : κ.hbm = none)
    :
    Good κ (State.stakeHead s p c) := by
  unfold State.stakeHead
  repeat' (first | with_reducible assumption | with_reducible refine State.areaWrite_good _ _ _ _ _ ?_ f_hbm)

theorem State.stakeEnd_good {κ : Kept} (s : State) (p : Nat) (r : StakeRun) (hg : Good κ s) (f_hbm : κ.hbm = none)
    (f_plots : κ.plots = none) (f_cmd : κ.cmd = none) :
    Good κ (State.stakeEnd s p r) := by
  unfold State.stakeEnd
  repeat' (first
    | with_reducible assumption | with_reducible refine good_ite ?_ ?_
    | with_reducible refine State.stakeHead_good _ _ _ ?_ f_hbm
    | with_reducible refine State.onCmt_good _ _ _ ?_ f_plots | with_reducible refine State.clrBit_good _ _ _ ?_
    | with_reducible refine State.setBit_good _ _ _ ?_ | with_reducible refine State.plotInt_good _ _ _ ?_
    | with_reducible refine State.stakeRec_good _ _ _ _ ?_
    | with_reducible refine State.floodCtl_good _ _ _ _ _ _ _ ?_
    | with_reducible refine State.stakeDone_good _ _ _ _ _ ?_ f_plots f_cmd)

theorem State.stakeDonePacket_good {κ : Kept} (s : State) (ws : List Word) (hg : Good κ s) (f_plots : κ.plots =
    none) (f_cmd : κ.cmd = none) :
    Good κ (State.stakeDonePacket s ws) := by
  unfold State.stakeDonePacket
  repeat' (first
    | with_reducible assumption | with_reducible refine State.stakeDone_good _ _ _ _ _ ?_ f_plots f_cmd | intro _
    | (split))

theorem State.readyPacket_good {κ : Kept} (s : State) (ws : List Word) (recovery : Bool) (hg : Good κ s) (f_plots :
    κ.plots = none) (f_cmd : κ.cmd = none) (f_tm : κ.tm = none) :
    Good κ (State.readyPacket s ws recovery) := by
  unfold State.readyPacket
  repeat' (first
    | with_reducible assumption | with_reducible refine good_ite ?_ ?_
    | with_reducible refine State.holdReady_good _ _ _ _ _ ?_ f_plots f_cmd f_tm | intro _ | (split))

theorem State.resumePacket_good {κ : Kept} (s : State) (ws : List Word) (hg : Good κ s) (f_plots : κ.plots = none) :
    Good κ (State.resumePacket s ws) := by
  unfold State.resumePacket
  repeat' (first
    | with_reducible assumption | with_reducible refine State.resumeAt_good _ _ _ _ ?_ f_plots | intro _ | (split))

theorem State.divergePacket_good {κ : Kept} (s : State) (ws : List Word) (hg : Good κ s) (f_plots : κ.plots = none)
    (f_cmd : κ.cmd = none) :
    Good κ (State.divergePacket s ws) := by
  unfold State.divergePacket
  repeat' (first
    | with_reducible assumption | with_reducible refine good_ite ?_ ?_
    | with_reducible refine State.divergePass_good _ _ _ _ ?_ f_plots f_cmd | intro _ | (split))

theorem State.rollbackPacket_good {κ : Kept} (s : State) (ws : List Word) (hg : Good κ s) (f_plots : κ.plots = none)
    :
    Good κ (State.rollbackPacket s ws) := by
  unfold State.rollbackPacket
  repeat' (first
    | with_reducible assumption | with_reducible refine State.onCmt_good _ _ _ ?_ f_plots
    | fail_if_no_progress with_reducible refine good_upd ?_ | intro _ | (split))

theorem State.votePacket_good {κ : Kept} (s : State) (ws : List Word) (hg : Good κ s) :
    Good κ (State.votePacket s ws) := by
  unfold State.votePacket
  repeat' (first
    | with_reducible assumption | with_reducible refine good_ite ?_ ?_
    | with_reducible refine State.faultRec_good _ _ _ _ _ _ _ _ ?_ | intro _ | (split))

end Sys2Proof.Machine
end

