-- ==== Sys2Proof/Laws/GoodHeadland.lean ====
section
/-! SUPPORT. What the operations of Machine/Headland.lean keep: one lemma each (Laws/GoodBase.lean). -/

namespace Sys2Proof.Machine
open Sys2Proof

-- One proof at a time: proofs checked side by side take a stack each.
set_option Elab.async false

theorem State.abandonStake_good {κ : Kept} (s : State) (p : Nat) (hg : Good κ s) (f_plots : κ.plots = none) (f_cmd :
    κ.cmd = none) :
    Good κ (State.abandonStake s p) := by
  unfold State.abandonStake
  repeat' (first
    | with_reducible assumption | with_reducible refine State.setBit_good _ _ _ ?_
    | with_reducible refine State.clrBit_good _ _ _ ?_ | with_reducible refine State.onCmt_good _ _ _ ?_ f_plots
    | with_reducible refine State.finishOpt_good _ _ _ _ ?_ f_cmd
    | fail_if_no_progress with_reducible refine good_upd ?_ | with_reducible refine good_foldl ?_ ?_
    | with_reducible refine good_foldl1 ?_ ?_ | with_reducible refine good_foldl2 ?_ ?_ | intro _ | (split))

theorem State.rewindTo_good {κ : Kept} (s : State) (p k : Nat) (hg : Good κ s) (f_plots : κ.plots = none) (f_cmd :
    κ.cmd = none) :
    Good κ (State.rewindTo s p k) := by
  unfold State.rewindTo
  repeat' (first
    | with_reducible assumption | with_reducible refine good_ite ?_ ?_
    | with_reducible refine State.undoRestore_good _ _ _ _ ?_ f_plots f_cmd
    | with_reducible refine State.readsDiscard_good _ _ _ ?_ | with_reducible refine State.heldDiscard_good _ _ _ ?_
    | with_reducible refine State.fioDiscard_good _ _ _ _ ?_ | with_reducible refine State.gateDiscard_good _ _ _ ?_
    | with_reducible refine State.sigDiscard_good _ _ _ ?_
    | with_reducible refine State.hvtDiscard_good _ _ _ ?_ f_plots
    | with_reducible refine State.swapsBack_good _ _ _ ?_ | with_reducible refine State.onCmt_good _ _ _ ?_ f_plots
    | fail_if_no_progress with_reducible refine good_upd ?_ | with_reducible refine good_foldl ?_ ?_
    | with_reducible refine good_foldl1 ?_ ?_ | with_reducible refine good_foldl2 ?_ ?_ | intro _)

theorem State.gateFurrows_good {κ : Kept} (s : State) (p : Nat) (hg : Good κ s) :
    Good κ (State.gateFurrows s p) := by
  unfold State.gateFurrows
  repeat' (first
    | with_reducible assumption | with_reducible refine State.gateFurrow_good _ _ ?_
    | with_reducible refine good_foldl ?_ ?_ | with_reducible refine good_foldl1 ?_ ?_
    | with_reducible refine good_foldl2 ?_ ?_ | intro _)

theorem State.evict_good {κ : Kept} (s : State) (p level : Nat) (hg : Good κ s) (f_hbm : κ.hbm = none) (f_plots :
    κ.plots = none) (f_cmd : κ.cmd = none) (f_tm : κ.tm = none) (f_res : κ.res = none) :
    Good κ (State.evict s p level) := by
  unfold State.evict
  repeat' (first
    | with_reducible assumption | with_reducible refine good_ite ?_ ?_
    | with_reducible refine State.abandonStake_good _ _ ?_ f_plots f_cmd
    | with_reducible refine State.settleQueue_good _ _ _ ?_ f_hbm f_plots f_cmd
    | with_reducible refine State.rewindTo_good _ _ _ ?_ f_plots f_cmd
    | with_reducible refine State.copyChecks_good _ _ _ ?_ f_plots f_cmd
    | with_reducible refine State.gateFurrows_good _ _ ?_
    | with_reducible refine State.onPlot_good _ _ _ ?_ ?_ ?_ ?_ f_plots
    | with_reducible refine State.areaWrite_good _ _ _ _ _ ?_ f_hbm | with_reducible refine State.rnSet_good _ _ _ ?_
    | with_reducible refine State.clrBit_good _ _ _ ?_ | with_reducible refine State.put_good _ _ _ _ _ ?_
    | with_reducible refine State.onRes_good _ _ _ ?_ f_plots f_res
    | fail_if_no_progress with_reducible refine good_upd ?_ | with_reducible refine good_foldl ?_ ?_
    | with_reducible refine good_foldl1 ?_ ?_ | with_reducible refine good_foldl2 ?_ ?_ | exact fun _ => rfl
    | exact Or.inr fun _ => rfl | exact Or.inr rfl | exact Or.inl (by with_reducible assumption) | intro _)

theorem State.notRunning_good {κ : Kept} (s : State) (p : Nat) (hg : Good κ s) :
    Good κ (State.notRunning s p) := by
  unfold State.notRunning
  repeat' (first
    | with_reducible assumption | with_reducible refine good_ite ?_ ?_
    | with_reducible refine State.cmtStateSet_good _ _ _ ?_)

theorem State.fallowEnter_good {κ : Kept} (s : State) (p level : Nat) (hg : Good κ s) (f_hbm : κ.hbm = none)
    (f_plots : κ.plots = none) (f_cmd : κ.cmd = none) (f_tm : κ.tm = none) (f_res : κ.res = none) :
    Good κ (State.fallowEnter s p level) := by
  unfold State.fallowEnter
  repeat' (first
    | with_reducible assumption | with_reducible refine good_ite ?_ ?_
    | with_reducible refine State.notRunning_good _ _ ?_
    | with_reducible refine State.fallowRec_good _ _ _ _ _ ?_ f_cmd
    | with_reducible refine State.onId_good _ _ _ ?_ f_plots | with_reducible refine State.put_good _ _ _ _ _ ?_
    | with_reducible refine State.evict_good _ _ _ ?_ f_hbm f_plots f_cmd f_tm f_res
    | with_reducible refine State.hvtRestart_good _ _ ?_ f_plots)

theorem State.serveStops_good {κ : Kept} (s : State) (p status pn : Nat) (serving : List (Nat × Option Nat × Nat))
    (hg : Good κ s) (f_hbm : κ.hbm = none) (f_plots : κ.plots = none) (f_cmd : κ.cmd = none) (f_tm : κ.tm = none)
    (f_res : κ.res = none) :
    Good κ (State.serveStops s p status pn serving) := by
  unfold State.serveStops
  repeat' (first
    | with_reducible assumption | with_reducible refine good_ite ?_ ?_
    | with_reducible refine State.fallowEnter_good _ _ _ ?_ f_hbm f_plots f_cmd f_tm f_res
    | with_reducible refine State.finishAt_good _ _ _ _ _ _ ?_ f_cmd | with_reducible refine good_foldl ?_ ?_
    | with_reducible refine good_foldl1 ?_ ?_ | with_reducible refine good_foldl2 ?_ ?_ | intro _)

theorem State.stopPlot_good {κ : Kept} (s : State) (p : Nat) (hg : Good κ s) (f_hbm : κ.hbm = none) (f_plots :
    κ.plots = none) (f_cmd : κ.cmd = none) (f_tm : κ.tm = none) (f_res : κ.res = none) :
    Good κ (State.stopPlot s p) := by
  unfold State.stopPlot
  repeat' (first
    | with_reducible assumption | with_reducible refine State.onPlot_good _ _ _ ?_ ?_ ?_ ?_ f_plots
    | with_reducible refine State.cmtStateSet_good _ _ _ ?_
    | with_reducible refine State.finishRuns_good _ _ _ _ ?_ f_plots f_cmd
    | with_reducible refine State.plotState_good _ _ _ _ _ ?_
    | with_reducible refine State.serveStops_good _ _ _ _ _ ?_ f_hbm f_plots f_cmd f_tm f_res
    | fail_if_no_progress with_reducible refine good_upd ?_ | exact fun _ => rfl | exact Or.inr fun _ => rfl
    | exact Or.inr rfl | exact Or.inl (by with_reducible assumption))

theorem State.stopDiverged_good {κ : Kept} (s : State) (p : Nat) (hg : Good κ s) (f_hbm : κ.hbm = none) (f_plots :
    κ.plots = none) (f_cmd : κ.cmd = none) (f_tm : κ.tm = none) (f_res : κ.res = none) :
    Good κ (State.stopDiverged s p) := by
  unfold State.stopDiverged
  repeat' (first
    | with_reducible assumption | with_reducible refine State.stopFault_good _ _ _ _ ?_ f_plots f_cmd f_tm
    | with_reducible refine State.serveStops_good _ _ _ _ _ ?_ f_hbm f_plots f_cmd f_tm f_res)

theorem State.resumePass_good {κ : Kept} (s : State) (p pass : Nat) (hg : Good κ s) (f_hbm : κ.hbm = none) (f_plots
    : κ.plots = none) (f_cmd : κ.cmd = none) (f_tm : κ.tm = none) (f_res : κ.res = none) :
    Good κ (State.resumePass s p pass) := by
  unfold State.resumePass
  repeat' (first
    | with_reducible assumption | with_reducible refine good_ite ?_ ?_
    | with_reducible refine State.onCmt_good _ _ _ ?_ f_plots
    | with_reducible refine State.stopPlot_good _ _ ?_ f_hbm f_plots f_cmd f_tm f_res
    | with_reducible refine State.clockFrom_good _ _ ?_ f_plots f_tm
    | with_reducible refine State.beginPass_good _ _ _ ?_ f_plots f_cmd f_tm)

theorem State.preCheck_good {κ : Kept} (s : State) (p : Nat) (hg : Good κ s) (f_plots : κ.plots = none) (f_cmd :
    κ.cmd = none) (f_tm : κ.tm = none) :
    Good κ (State.preCheck s p) := by
  unfold State.preCheck
  repeat' (first
    | with_reducible assumption | with_reducible refine good_ite ?_ ?_
    | with_reducible refine State.rnSet_good _ _ _ ?_
    | with_reducible refine State.onPlot_good _ _ _ ?_ ?_ ?_ ?_ f_plots
    | with_reducible refine State.finishOpt_good _ _ _ _ ?_ f_cmd
    | fail_if_no_progress with_reducible refine good_upd ?_ | with_reducible refine good_foldl ?_ ?_
    | with_reducible refine good_foldl1 ?_ ?_ | with_reducible refine good_foldl2 ?_ ?_ | exact fun _ => rfl
    | exact Or.inr fun _ => rfl | exact Or.inr rfl | exact Or.inl (by with_reducible assumption) | intro _)

theorem State.endHeadland_good {κ : Kept} (s : State) (p : Nat) (hg : Good κ s) (f_hbm : κ.hbm = none) (f_plots :
    κ.plots = none) (f_cmd : κ.cmd = none) (f_tm : κ.tm = none) (f_res : κ.res = none) :
    Good κ (State.endHeadland s p) := by
  unfold State.endHeadland
  repeat' (first
    | with_reducible assumption | with_reducible refine good_ite ?_ ?_
    | with_reducible refine State.put_good _ _ _ _ _ ?_ | with_reducible refine State.putBit_good _ _ _ _ ?_
    | with_reducible refine State.swapsEnd_good _ _ _ ?_
    | with_reducible refine State.stopDiverged_good _ _ ?_ f_hbm f_plots f_cmd f_tm f_res
    | with_reducible refine State.enterHold_good _ _ ?_ f_plots f_tm
    | with_reducible refine State.stopPlot_good _ _ ?_ f_hbm f_plots f_cmd f_tm f_res
    | with_reducible refine State.beginPass_good _ _ _ ?_ f_plots f_cmd f_tm)

theorem State.extend_good {κ : Kept} (s : State) (p : Nat) (after : Stage) (hg : Good κ s) (f_hbm : κ.hbm = none)
    (f_plots : κ.plots = none) (f_cmd : κ.cmd = none) (f_tm : κ.tm = none) (f_res : κ.res = none) :
    Good κ (State.extend s p after) := by
  unfold State.extend
  repeat' (first
    | with_reducible assumption | with_reducible refine State.toHead_good _ _ _ ?_ f_plots f_tm
    | with_reducible refine State.endHeadland_good _ _ ?_ f_hbm f_plots f_cmd f_tm f_res | intro _ | (split))

theorem State.resyncAlive_good {κ : Kept} (s : State) (p : Nat) (hg : Good κ s) :
    Good κ (State.resyncAlive s p) := by
  unfold State.resyncAlive
  repeat' (first
    | with_reducible assumption | fail_if_no_progress with_reducible refine good_upd ?_
    | with_reducible refine good_foldl ?_ ?_ | with_reducible refine good_foldl1 ?_ ?_
    | with_reducible refine good_foldl2 ?_ ?_ | intro _)

theorem State.startState_good {κ : Kept} (s : State) (p : Nat) (hg : Good κ s) :
    Good κ (State.startState s p) := by
  unfold State.startState
  repeat' (first
    | with_reducible assumption | with_reducible refine good_ite ?_ ?_
    | with_reducible refine State.cmtStateSet_good _ _ _ ?_)

theorem State.resumePlot_good {κ : Kept} (s : State) (p : Nat) (hg : Good κ s) (f_plots : κ.plots = none) (f_cmd :
    κ.cmd = none) (f_tm : κ.tm = none) :
    Good κ (State.resumePlot s p) := by
  unfold State.resumePlot
  repeat' (first
    | with_reducible assumption | with_reducible refine State.clockFrom_good _ _ ?_ f_plots f_tm
    | with_reducible refine State.startState_good _ _ ?_ | with_reducible refine State.onId_good _ _ _ ?_ f_plots
    | with_reducible refine State.plotState_good _ _ _ _ _ ?_
    | with_reducible refine State.beginPass_good _ _ _ ?_ f_plots f_cmd f_tm)

end Sys2Proof.Machine
end

