-- ==== Sys2Proof/Laws/GoodPass.lean ====
section
/-! SUPPORT. What the operations of Machine/Pass.lean keep: one lemma each (Laws/GoodBase.lean). -/

namespace Sys2Proof.Machine
open Sys2Proof

-- One proof at a time: proofs checked side by side take a stack each.
set_option Elab.async false

theorem State.descCheck_good {κ : Kept} (s0 : State) (p phys kind idx ce ue st : Nat) (hg : Good κ s0) (f_plots :
    κ.plots = none) (f_cmd : κ.cmd = none) :
    Good κ (State.descCheck s0 p phys kind idx ce ue st).2 := by
  unfold State.descCheck
  repeat' (first
    | with_reducible assumption | with_reducible refine State.glnTouch_good _ _ _ ?_
    | with_reducible refine State.furCause_good _ _ _ _ _ _ ?_ f_plots f_cmd | intro _ | (split)
    | with_reducible refine good_pair2 (by with_reducible assumption) ?_
    | with_reducible refine good_pair1 (by with_reducible assumption) ?_
    | with_reducible refine good_pair22 (by with_reducible assumption) ?_
    | with_reducible refine good_pair222 (by with_reducible assumption) ?_
    | with_reducible refine good_pair2222 (by with_reducible assumption) ?_ | (dsimp only))

theorem State.sendTracks_good {κ : Kept} (s : State) (l phys st : Nat) (w : Psw) (lost : Bool) (hg : Good κ s) :
    Good κ (State.sendTracks s l phys st w lost) := by
  unfold State.sendTracks
  repeat' (first
    | with_reducible assumption | with_reducible refine good_ite ?_ ?_
    | fail_if_no_progress with_reducible refine good_upd ?_ | with_reducible refine good_foldl ?_ ?_
    | with_reducible refine good_foldl1 ?_ ?_ | with_reducible refine good_foldl2 ?_ ?_ | intro _)

theorem State.mopDo_good {κ : Kept} (s : State) (p l phys st : Nat) (w : Psw) (hg : Good κ s) (f_plots : κ.plots =
    none) (f_cmd : κ.cmd = none) :
    Good κ (State.mopDo s p l phys st w) := by
  unfold State.mopDo
  repeat' (first
    | with_reducible assumption | with_reducible refine good_ite ?_ ?_
    | with_reducible refine State.furCause_good _ _ _ _ _ _ ?_ f_plots f_cmd
    | with_reducible refine State.descCheck_good _ _ _ _ _ _ _ _ ?_ f_plots f_cmd
    | with_reducible refine State.ramRead_good _ _ _ _ _ _ ?_ f_plots f_cmd
    | with_reducible refine State.ramWrite_good _ _ _ _ _ ?_ f_plots f_cmd
    | with_reducible refine State.reloadInputs_good _ _ _ _ _ ?_
    | with_reducible refine State.hbmIssueRead_good _ _ _ _ _ _ _ ?_
    | with_reducible refine State.hbmIssueWrite_good _ _ _ _ _ _ _ ?_ f_plots f_cmd
    | fail_if_no_progress with_reducible refine good_upd ?_ | with_reducible refine good_foldl ?_ ?_
    | with_reducible refine good_foldl1 ?_ ?_ | with_reducible refine good_foldl2 ?_ ?_ | intro _ | (split))

theorem State.trigWords_good {κ : Kept} (s : State) (p l st : Nat) (vals : List Val) (hg : Good κ s) (f_plots :
    κ.plots = none) :
    Good κ (State.trigWords s p l st vals) := by
  unfold State.trigWords
  repeat' (first | with_reducible assumption | with_reducible refine State.onHvt_good _ _ _ ?_ f_plots)

theorem State.probePath_good {κ : Kept} (s : State) (p l phys st : Nat) (w : Psw) (hg : Good κ s) (f_plots : κ.plots
    = none) (f_cmd : κ.cmd = none) :
    Good κ (State.probePath s p l phys st w) := by
  unfold State.probePath
  repeat' (first
    | with_reducible assumption | with_reducible refine good_ite ?_ ?_
    | with_reducible refine State.descCheck_good _ _ _ _ _ _ _ _ ?_ f_plots f_cmd
    | with_reducible refine State.trigWords_good _ _ _ _ _ ?_ f_plots
    | with_reducible refine State.onHvt_good _ _ _ ?_ f_plots | fail_if_no_progress with_reducible refine good_upd ?_
    | intro _ | (split))

theorem State.sigPath_good {κ : Kept} (s : State) (p phys st : Nat) (w : Psw) (hg : Good κ s) (f_plots : κ.plots =
    none) (f_cmd : κ.cmd = none) :
    Good κ (State.sigPath s p phys st w) := by
  unfold State.sigPath
  repeat' (first
    | with_reducible assumption | with_reducible refine good_ite ?_ ?_
    | with_reducible refine State.descCheck_good _ _ _ _ _ _ _ _ ?_ f_plots f_cmd
    | with_reducible refine State.sigFeed_good _ _ _ _ _ ?_)

theorem State.portStep_good {κ : Kept} (s : State) (p l st : Nat) (hg : Good κ s) (f_plots : κ.plots = none) (f_cmd
    : κ.cmd = none) :
    Good κ (State.portStep s p l st) := by
  unfold State.portStep
  repeat' (first
    | with_reducible assumption | with_reducible refine good_ite ?_ ?_
    | with_reducible refine State.descCheck_good _ _ _ _ _ _ _ _ ?_ f_plots f_cmd
    | with_reducible refine State.sendTracks_good _ _ _ _ _ _ ?_
    | with_reducible refine State.mopDo_good _ _ _ _ _ _ ?_ f_plots f_cmd
    | with_reducible refine State.probePath_good _ _ _ _ _ _ ?_ f_plots f_cmd
    | with_reducible refine State.sigPath_good _ _ _ _ _ ?_ f_plots f_cmd)

theorem State.ramReadsDone_good {κ : Kept} (s : State) (p st : Nat) (hg : Good κ s) :
    Good κ (State.ramReadsDone s p st) := by
  unfold State.ramReadsDone
  repeat' (first | with_reducible assumption | fail_if_no_progress with_reducible refine good_upd ?_)

theorem State.stepArrivals_good {κ : Kept} (s : State) (p st : Nat) (hg : Good κ s) (f_plots : κ.plots = none)
    (f_cmd : κ.cmd = none) :
    Good κ (State.stepArrivals s p st) := by
  unfold State.stepArrivals
  repeat' (first
    | with_reducible assumption | with_reducible refine State.importPresent_good _ _ ?_
    | with_reducible refine State.ramReturns_good _ _ ?_
    | with_reducible refine State.hbmReturns_good _ _ ?_ f_plots f_cmd
    | with_reducible refine State.ramReadsDone_good _ _ _ ?_ | with_reducible refine State.arrivals_good _ _ _ ?_)

theorem State.stepPorts_good {κ : Kept} (s : State) (p st : Nat) (pins : List (Nat × Nat)) (hg : Good κ s) (f_plots
    : κ.plots = none) :
    Good κ (State.stepPorts s p st pins) := by
  unfold State.stepPorts
  repeat' (first
    | with_reducible assumption | with_reducible refine good_ite ?_ ?_
    | with_reducible refine State.midSample_good _ _ _ _ ?_ f_plots | with_reducible refine State.onFio_good _ _ _ ?_
    | with_reducible refine State.sigFeed_good _ _ _ _ _ ?_ | with_reducible refine State.clockFall_good _ _ _ ?_
    | fail_if_no_progress with_reducible refine good_upd ?_ | with_reducible refine good_foldl ?_ ?_
    | with_reducible refine good_foldl1 ?_ ?_ | with_reducible refine good_foldl2 ?_ ?_ | intro _ | (split))

theorem State.stepDo_good {κ : Kept} (s : State) (p st : Nat) (pins : List (Nat × Nat)) (hg : Good κ s) (f_plots :
    κ.plots = none) (f_cmd : κ.cmd = none) :
    Good κ (State.stepDo s p st pins) := by
  unfold State.stepDo
  repeat' (first
    | with_reducible assumption | with_reducible refine State.stepArrivals_good _ _ _ ?_ f_plots f_cmd
    | with_reducible refine State.furInjects_good _ _ _ _ ?_ f_plots f_cmd
    | with_reducible refine State.fetchTouch_good _ _ _ _ ?_
    | with_reducible refine State.swInjects_good _ _ _ _ ?_ f_plots f_cmd
    | with_reducible refine State.portStep_good _ _ _ _ ?_ f_plots f_cmd
    | with_reducible refine State.bpFinish_good _ _ _ _ _ ?_ f_plots f_cmd
    | with_reducible refine State.switchStep_good _ _ _ ?_ f_plots f_cmd
    | with_reducible refine State.exportSample_good _ _ _ ?_ f_plots f_cmd
    | with_reducible refine State.relaySend_good _ _ _ ?_
    | with_reducible refine State.stepPorts_good _ _ _ _ ?_ f_plots | with_reducible refine good_foldl ?_ ?_
    | with_reducible refine good_foldl1 ?_ ?_ | with_reducible refine good_foldl2 ?_ ?_ | intro _)

end Sys2Proof.Machine
end

