-- ==== Sys2Proof/Laws/GoodDma.lean ====
section
/-! SUPPORT. What the operations of Machine/Dma.lean keep: one lemma each (Laws/GoodBase.lean). -/

namespace Sys2Proof.Machine
open Sys2Proof

-- One proof at a time: proofs checked side by side take a stack each.
set_option Elab.async false

theorem State.pageRequest_good {κ : Kept} (s : State) (fn page : Nat) (hg : Good κ s) :
    Good κ (State.pageRequest s fn page) := by
  unfold State.pageRequest
  repeat' (first
    | with_reducible assumption | with_reducible refine good_ite ?_ ?_
    | fail_if_no_progress with_reducible refine good_upd ?_
    | fail_if_no_progress with_reducible refine good_updHost ?_)

theorem State.pageRetry_good {κ : Kept} (s : State) (hg : Good κ s) :
    Good κ (State.pageRetry s) := by
  unfold State.pageRetry
  repeat' (first
    | with_reducible assumption | with_reducible refine State.pageRequest_good _ _ _ ?_
    | fail_if_no_progress with_reducible refine good_upd ?_
    | fail_if_no_progress with_reducible refine good_updHost ?_ | with_reducible refine good_foldl ?_ ?_
    | with_reducible refine good_foldl1 ?_ ?_ | with_reducible refine good_foldl2 ?_ ?_ | intro _)

theorem State.hostReq_good {κ : Kept} (s : State) (k : HostReq) (fn page : Nat) (hg : Good κ s) :
    Good κ (State.hostReq s k fn page) := by
  unfold State.hostReq
  repeat' (first | with_reducible assumption | fail_if_no_progress with_reducible refine good_upd ?_)

theorem State.atcPut_good {κ : Kept} (s : State) (fn req page : Nat) (hg : Good κ s) :
    Good κ (State.atcPut s fn req page) := by
  unfold State.atcPut
  repeat' (first
    | with_reducible assumption | fail_if_no_progress with_reducible refine good_upd ?_
    | fail_if_no_progress with_reducible refine good_updHost ?_)

theorem State.hostGives_good {κ : Kept} (s : State) (fn page : Nat) (hg : Good κ s) :
    Good κ (State.hostGives s fn page).2 := by
  unfold State.hostGives
  repeat' (first
    | with_reducible assumption | with_reducible refine good_ite2 ?_ ?_
    | with_reducible refine State.takeFree_good _ _ ?_ | fail_if_no_progress with_reducible refine good_upd ?_
    | fail_if_no_progress with_reducible refine good_updHost ?_)

theorem State.translate_good {κ : Kept} (s : State) (fn req page : Nat) (hg : Good κ s) :
    Good κ (State.translate s fn req page).2 := by
  unfold State.translate
  repeat' (first
    | with_reducible assumption | with_reducible refine good_ite2 ?_ ?_
    | with_reducible refine State.hostReq_good _ _ _ _ ?_ | with_reducible refine State.atcPut_good _ _ _ _ ?_
    | with_reducible refine State.hostGives_good _ _ _ ?_)

theorem State.pageFault_good {κ : Kept} (s : State) (fn page : Nat) (hg : Good κ s) :
    Good κ (State.pageFault s fn page) := by
  unfold State.pageFault
  repeat' (first
    | with_reducible assumption | with_reducible refine good_ite ?_ ?_
    | with_reducible refine State.pageRequest_good _ _ _ ?_)

theorem State.translateRange_good {κ : Kept} (s : State) (fn addr n : Nat) (hg : Good κ s) :
    Good κ (State.translateRange s fn addr n).2 := by
  unfold State.translateRange
  repeat' (first
    | with_reducible assumption | with_reducible refine good_ite2 ?_ ?_
    | with_reducible refine State.translate_good _ _ _ _ ?_ | with_reducible refine good_foldl ?_ ?_
    | with_reducible refine good_foldl1 ?_ ?_ | with_reducible refine good_foldl2 ?_ ?_ | intro _ | (split))

theorem State.queueFault_good {κ : Kept} (s : State) (fn q page : Nat) (hg : Good κ s) :
    Good κ (State.queueFault s fn q page) := by
  unfold State.queueFault
  repeat' (first
    | with_reducible assumption | with_reducible refine State.setBit_good _ _ _ ?_
    | with_reducible refine State.pageFault_good _ _ _ ?_)

theorem State.dmaUnits_good {κ : Kept} (s : State) (fn addr n size i j : Nat) (hg : Good κ s) :
    Good κ (State.dmaUnits s fn addr n size i j).2.2 := by
  induction j generalizing s i with
  | zero => exact hg
  | succ k ih =>
    unfold State.dmaUnits; dsimp only
    split
    · exact hg
    · split
      · rename_i he; exact State.pageFault_good _ _ _ (good_pair2 he (State.translateRange_good _ _ _ _ hg))
      · rename_i he; exact ih _ _ (good_pair2 he (State.translateRange_good _ _ _ _ hg))

theorem State.dma_good {κ : Kept} (s : State) (fn addr n size start : Nat) (hg : Good κ s) :
    Good κ (State.dma s fn addr n size start).2.2 := by
  unfold State.dma
  repeat' (first
    | with_reducible assumption | with_reducible refine good_ite2 ?_ ?_
    | with_reducible refine State.dmaUnits_good _ _ _ _ _ _ _ ?_)

theorem State.dmaEnd_good {κ : Kept} (s : State) (id reached total : Nat) (page : Option Nat) (result : Nat) (hg :
    Good κ s) (f_cmd : κ.cmd = none) :
    Good κ (State.dmaEnd s id reached total page result) := by
  unfold State.dmaEnd
  repeat' (first
    | with_reducible assumption | with_reducible refine State.finishAt_good _ _ _ _ _ _ ?_ f_cmd | intro _ | (split))

end Sys2Proof.Machine
end

