-- ==== Sys2Proof/Laws/GoodHostOps.lean ====
section
/-! SUPPORT. What the operations of Machine/HostOps.lean keep: one lemma each (Laws/GoodBase.lean). -/

namespace Sys2Proof.Machine
open Sys2Proof

-- One proof at a time: proofs checked side by side take a stack each.
set_option Elab.async false

theorem State.queueHost_good {κ : Kept} (s : State) (p id : Nat) (hg : Good κ s) (f_plots : κ.plots = none) (f_cmd :
    κ.cmd = none) :
    Good κ (State.queueHost s p id) := by
  unfold State.queueHost
  repeat' (first
    | with_reducible assumption | with_reducible refine State.blockCmd_good _ _ ?_ f_cmd
    | with_reducible refine State.onId_good _ _ _ ?_ f_plots)

theorem State.peekTouch_good {κ : Kept} (s : State) (p l b t n : Nat) (hg : Good κ s) :
    Good κ (State.peekTouch s p l b t n) := by
  unfold State.peekTouch
  repeat' (first | with_reducible assumption | with_reducible refine State.glnTouch_good _ _ _ ?_)

theorem State.peekCheck_good {κ : Kept} (s : State) (p l b t n : Nat) (hg : Good κ s) (f_plots : κ.plots = none)
    (f_cmd : κ.cmd = none) :
    Good κ (State.peekCheck s p l b t n) := by
  unfold State.peekCheck
  repeat' (first
    | with_reducible assumption | with_reducible refine State.idleCause_good _ _ _ _ _ _ ?_ f_plots f_cmd
    | with_reducible refine State.eccSet_good _ _ _ _ ?_ | with_reducible refine good_foldl ?_ ?_
    | with_reducible refine good_foldl1 ?_ ?_ | with_reducible refine good_foldl2 ?_ ?_ | intro _ | (split))

theorem State.peek_good {κ : Kept} (s : State) (c : Cmd) (hg : Good κ s) (f_plots : κ.plots = none) (f_cmd : κ.cmd =
    none) :
    Good κ (State.peek s c) := by
  unfold State.peek
  repeat' (first
    | with_reducible assumption | with_reducible refine good_ite ?_ ?_
    | with_reducible refine State.finish_good _ _ _ _ ?_ f_cmd
    | with_reducible refine State.peekTouch_good _ _ _ _ _ _ ?_
    | with_reducible refine State.peekCheck_good _ _ _ _ _ _ ?_ f_plots f_cmd)

theorem State.slotCmd_good {κ : Kept} (s : State) (c : Cmd) (hg : Good κ s) (f_plots : κ.plots = none) (f_cmd :
    κ.cmd = none) :
    Good κ (State.slotCmd s c) := by
  unfold State.slotCmd
  repeat' (first
    | with_reducible assumption | with_reducible refine good_ite ?_ ?_
    | with_reducible refine State.finish_good _ _ _ _ ?_ f_cmd
    | with_reducible refine State.queueHost_good _ _ _ ?_ f_plots f_cmd | intro _ | (split))

theorem State.pokeDo_good {κ : Kept} (s : State) (p n : Nat) (e : Nat × Nat × Nat × Val) (hg : Good κ s) (f_plots :
    κ.plots = none) :
    Good κ (State.pokeDo s p n e) := by
  unfold State.pokeDo
  repeat' (first
    | with_reducible assumption | with_reducible refine State.pokeSlot_good _ _ _ _ _ _ _ ?_
    | with_reducible refine State.logAdd_good _ _ _ ?_ f_plots)

theorem State.forceDo_good {κ : Kept} (s : State) (p n : Nat) (e : Nat × Nat × Nat × Val) (hg : Good κ s) (f_plots :
    κ.plots = none) :
    Good κ (State.forceDo s p n e) := by
  unfold State.forceDo
  repeat' (first
    | with_reducible assumption | with_reducible refine State.pokeSlot_good _ _ _ _ _ _ _ ?_
    | with_reducible refine State.logAdd_good _ _ _ ?_ f_plots)

theorem State.unforceDo_good {κ : Kept} (s : State) (p n : Nat) (e : Nat × Nat × Nat × Val) (hg : Good κ s) (f_plots
    : κ.plots = none) :
    Good κ (State.unforceDo s p n e) := by
  unfold State.unforceDo
  repeat' (first | with_reducible assumption | with_reducible refine State.logAdd_good _ _ _ ?_ f_plots)

theorem State.slotApply_good {κ : Kept} (s : State) (p n : Nat) (c : Cmd) (hg : Good κ s) (f_plots : κ.plots = none)
    (f_cmd : κ.cmd = none) :
    Good κ (State.slotApply s p n c) := by
  unfold State.slotApply
  repeat' (first
    | with_reducible assumption | with_reducible refine good_ite ?_ ?_
    | with_reducible refine State.pokeDo_good _ _ _ _ ?_ f_plots
    | with_reducible refine State.finish_good _ _ _ _ ?_ f_cmd
    | with_reducible refine State.unforceDo_good _ _ _ _ ?_ f_plots
    | with_reducible refine State.forceDo_good _ _ _ _ ?_ f_plots | with_reducible refine good_foldl ?_ ?_
    | with_reducible refine good_foldl1 ?_ ?_ | with_reducible refine good_foldl2 ?_ ?_ | intro _)

theorem State.ramBytesCheck_good {κ : Kept} (s : State) (p phys off n : Nat) (hg : Good κ s) (f_plots : κ.plots =
    none) (f_cmd : κ.cmd = none) :
    Good κ (State.ramBytesCheck s p phys off n) := by
  unfold State.ramBytesCheck
  repeat' (first
    | with_reducible assumption | with_reducible refine State.ramCheck_good _ _ _ _ _ ?_ f_plots f_cmd
    | with_reducible refine good_foldl ?_ ?_ | with_reducible refine good_foldl1 ?_ ?_
    | with_reducible refine good_foldl2 ?_ ?_ | intro _)

theorem State.ramHostWord_good {κ : Kept} (s : State) (p n phys l base : Nat) (vs : List Val) (hg : Good κ s)
    (f_plots : κ.plots = none) (f_cmd : κ.cmd = none) :
    Good κ (State.ramHostWord s p n phys l base vs) := by
  unfold State.ramHostWord
  repeat' (first
    | with_reducible assumption | with_reducible refine good_ite ?_ ?_
    | with_reducible refine State.ramStore_good _ _ _ _ _ _ _ _ ?_ f_plots f_cmd
    | with_reducible refine State.logAdd_good _ _ _ ?_ f_plots
    | with_reducible refine State.ramWrite_good _ _ _ _ _ ?_ f_plots f_cmd
    | with_reducible refine State.ramMerge_good _ _ _ _ _ ?_ f_plots f_cmd
    | with_reducible refine State.ramPut_good _ _ _ _ ?_)

theorem State.ramHostWrite_good {κ : Kept} (s : State) (p n l off : Nat) (bs : List Byte) (hg : Good κ s) (f_plots :
    κ.plots = none) (f_cmd : κ.cmd = none) :
    Good κ (State.ramHostWrite s p n l off bs) := by
  unfold State.ramHostWrite
  repeat' (first
    | with_reducible assumption | with_reducible refine good_ite ?_ ?_
    | with_reducible refine State.ramHostWord_good _ _ _ _ _ _ _ ?_ f_plots f_cmd
    | with_reducible refine good_foldl ?_ ?_ | with_reducible refine good_foldl1 ?_ ?_
    | with_reducible refine good_foldl2 ?_ ?_ | intro _)

theorem State.memServe_good {κ : Kept} (s : State) (n : Nat) (c : Cmd) (pos len : Nat) (hg : Good κ s)
    (f_host : κ.host = none) (f_hbm : κ.hbm = none) (f_plots : κ.plots = none) (f_cmd : κ.cmd = none) (b : Bool)
    (s1 : State) (he : State.memServe s n c pos len = some (b, s1)) : Good κ s1 := by
  unfold State.memServe at he
  dsimp only at he
  repeat' (first | contradiction | split at he)
  all_goals (try (injection he with he; injection he with he1 he2; subst he2))
  all_goals (try exact hg)
  · exact State.ramHostWrite_good _ _ _ _ _ _ hg f_plots f_cmd
  · exact State.hostWrite_good _ _ _ _ (State.ramBytesCheck_good _ _ _ _ _ hg f_plots f_cmd) f_host
  · exact State.hbmStore_good _ _ _ hg f_hbm
  · exact State.logAdd_good _ _ _ (State.hbmNow_good _ _ _ _ _ hg f_hbm f_plots f_cmd) f_plots
  · rename_i h1; exact State.logAdd_good _ _ _ (good_pair2 h1 (State.wqEnter_good _ _ hg)) f_plots
  · exact State.hostWrite_good _ _ _ _ (State.hbmCheckRange_good _ _ _ _ _ hg f_plots f_cmd) f_host

theorem State.memRun_good {κ : Kept} (s : State) (n : Nat) (c : Cmd) (last i pos budget : Nat) (hg : Good κ s)
    (f_host : κ.host = none) (f_hbm : κ.hbm = none) (f_plots : κ.plots = none) (f_cmd : κ.cmd = none) :
    Good κ (State.memRun s n c last i pos budget).2.2.2.2 := by
  induction i generalizing s pos budget with
  | zero => exact hg
  | succ k ih =>
    unfold State.memRun; dsimp only
    split
    · exact hg
    · split
      · exact hg
      · split
        · exact hg
        · rename_i he; exact State.memServe_good _ _ _ _ _ hg f_host f_hbm f_plots f_cmd _ _ he
        · rename_i he; exact ih _ _ _ (State.memServe_good _ _ _ _ _ hg f_host f_hbm f_plots f_cmd _ _ he)

theorem State.memEnd_good {κ : Kept} (s : State) (c : Cmd) (pos : Nat) (poisoned : Bool) (hg : Good κ s) (f_cmd :
    κ.cmd = none) :
    Good κ (State.memEnd s c pos poisoned) := by
  unfold State.memEnd
  repeat' (first
    | with_reducible assumption | with_reducible refine good_ite ?_ ?_
    | with_reducible refine State.finishAt_good _ _ _ _ _ _ ?_ f_cmd)

theorem State.memStep_good {κ : Kept} (s : State) (n : Nat) (c : Cmd) (budget : Nat) (hg : Good κ s) (f_host :
    κ.host = none) (f_hbm : κ.hbm = none) (f_plots : κ.plots = none) (f_cmd : κ.cmd = none) :
    Good κ (State.memStep s n c budget).2.2 := by
  unfold State.memStep
  repeat' (first
    | with_reducible assumption | with_reducible refine good_ite2 ?_ ?_
    | with_reducible refine State.memRun_good _ _ _ _ _ _ _ ?_ f_host f_hbm f_plots f_cmd
    | with_reducible refine State.onCmd_good _ _ _ ?_ ?_ f_cmd
    | with_reducible refine State.memEnd_good _ _ _ _ ?_ f_cmd | fail_if_no_progress with_reducible refine good_upd ?_
    | exact fun _ => rfl | exact Or.inr fun _ => rfl | exact Or.inr rfl | exact Or.inl (by with_reducible assumption)
    | intro _ | (split) | with_reducible refine good_pair2 (by with_reducible assumption) ?_
    | with_reducible refine good_pair1 (by with_reducible assumption) ?_
    | with_reducible refine good_pair22 (by with_reducible assumption) ?_
    | with_reducible refine good_pair222 (by with_reducible assumption) ?_
    | with_reducible refine good_pair2222 (by with_reducible assumption) ?_)

theorem State.memCmd_good {κ : Kept} (s : State) (c : Cmd) (hg : Good κ s) (f_host : κ.host = none) (f_hbm : κ.hbm =
    none) (f_plots : κ.plots = none) (f_cmd : κ.cmd = none) :
    Good κ (State.memCmd s c) := by
  unfold State.memCmd
  repeat' (first
    | with_reducible assumption | with_reducible refine good_ite ?_ ?_
    | with_reducible refine State.finish_good _ _ _ _ ?_ f_cmd | with_reducible refine State.dma_good _ _ _ _ _ _ ?_
    | with_reducible refine State.onCmd_good _ _ _ ?_ ?_ f_cmd
    | with_reducible refine State.queueHost_good _ _ _ ?_ f_plots f_cmd
    | with_reducible refine State.memStep_good _ _ _ _ ?_ f_host f_hbm f_plots f_cmd
    | fail_if_no_progress with_reducible refine good_upd ?_ | exact fun _ => rfl)

theorem State.sigApply_good {κ : Kept} (s : State) (n : Nat) (c : Cmd) (hg : Good κ s) (f_plots : κ.plots = none)
    (f_cmd : κ.cmd = none) :
    Good κ (State.sigApply s n c) := by
  unfold State.sigApply
  repeat' (first
    | with_reducible assumption | with_reducible refine good_ite ?_ ?_
    | with_reducible refine State.sigWrite_good _ _ _ ?_ | with_reducible refine State.sigRestart_good _ _ ?_
    | with_reducible refine State.logAdd_good _ _ _ ?_ f_plots
    | with_reducible refine State.finish_good _ _ _ _ ?_ f_cmd)

theorem State.sigConfigCmd_good {κ : Kept} (s : State) (c : Cmd) (hg : Good κ s) (f_plots : κ.plots = none) (f_cmd :
    κ.cmd = none) :
    Good κ (State.sigConfigCmd s c) := by
  unfold State.sigConfigCmd
  repeat' (first
    | with_reducible assumption | with_reducible refine good_ite ?_ ?_
    | with_reducible refine State.dma_good _ _ _ _ _ _ ?_ | with_reducible refine State.finish_good _ _ _ _ ?_ f_cmd
    | with_reducible refine State.dmaEnd_good _ _ _ _ _ _ ?_ f_cmd
    | with_reducible refine State.queueHost_good _ _ _ ?_ f_plots f_cmd
    | with_reducible refine State.sigApply_good _ _ _ ?_ f_plots f_cmd | intro _ | (split))

theorem State.applyOne_good {κ : Kept} (s : State) (p n id budget : Nat) (hg : Good κ s) (f_host : κ.host = none)
    (f_hbm : κ.hbm = none) (f_plots : κ.plots = none) (f_cmd : κ.cmd = none) :
    Good κ (State.applyOne s p n id budget).2.2 := by
  unfold State.applyOne
  repeat' (first
    | with_reducible assumption | with_reducible refine good_ite2 ?_ ?_
    | with_reducible refine State.sigApply_good _ _ _ ?_ f_plots f_cmd
    | with_reducible refine State.memStep_good _ _ _ _ ?_ f_host f_hbm f_plots f_cmd
    | with_reducible refine State.slotApply_good _ _ _ _ ?_ f_plots f_cmd | intro _ | (split)
    | with_reducible refine good_pair2 (by with_reducible assumption) ?_
    | with_reducible refine good_pair1 (by with_reducible assumption) ?_
    | with_reducible refine good_pair22 (by with_reducible assumption) ?_
    | with_reducible refine good_pair222 (by with_reducible assumption) ?_
    | with_reducible refine good_pair2222 (by with_reducible assumption) ?_ | (dsimp only))

theorem State.applyList_good {κ : Kept} (s : State) (p n budget : Nat) (stuck : Bool) (ids : List Nat)
    (hg : Good κ s) (f_host : κ.host = none) (f_hbm : κ.hbm = none) (f_plots : κ.plots = none) (f_cmd : κ.cmd = none) :
    Good κ (State.applyList s p n budget stuck ids).2 := by
  induction ids generalizing s budget stuck with
  | nil => exact hg
  | cons i ids ih =>
    unfold State.applyList
    dsimp only
    refine good_ite2 ?_ ?_
    · exact ih _ _ _ hg
    · exact ih _ _ _ (State.applyOne_good _ _ _ _ _ hg f_host f_hbm f_plots f_cmd)

theorem State.applyQueue_good {κ : Kept} (s : State) (p n : Nat) (hg : Good κ s) (f_host : κ.host = none) (f_hbm :
    κ.hbm = none) (f_plots : κ.plots = none) (f_cmd : κ.cmd = none) :
    Good κ (State.applyQueue s p n) := by
  unfold State.applyQueue
  repeat' (first
    | with_reducible assumption | with_reducible refine State.applyList_good _ _ _ _ _ _ ?_ f_host f_hbm f_plots f_cmd
    | with_reducible refine State.onId_good _ _ _ ?_ f_plots)

theorem State.reapply_good {κ : Kept} (s : State) (p n : Nat) (hg : Good κ s) (f_plots : κ.plots = none) (f_cmd :
    κ.cmd = none) :
    Good κ (State.reapply s p n) := by
  unfold State.reapply
  repeat' (first
    | with_reducible assumption | with_reducible refine State.reapplyRec_good _ _ _ ?_ f_plots f_cmd
    | with_reducible refine good_foldl ?_ ?_ | with_reducible refine good_foldl1 ?_ ?_
    | with_reducible refine good_foldl2 ?_ ?_ | intro _)

theorem State.rollbackCheck_good {κ : Kept} (s : State) (p : Nat) (hg : Good κ s) (f_plots : κ.plots = none) (f_cmd
    : κ.cmd = none) (f_tm : κ.tm = none) :
    Good κ (State.rollbackCheck s p) := by
  unfold State.rollbackCheck
  repeat' (first
    | with_reducible assumption | with_reducible refine good_ite ?_ ?_
    | with_reducible refine State.finishOpt_good _ _ _ _ ?_ f_cmd
    | with_reducible refine State.onCmt_good _ _ _ ?_ f_plots
    | with_reducible refine State.onTm_good _ _ _ ?_ f_plots f_tm
    | fail_if_no_progress with_reducible refine good_upd ?_ | with_reducible refine good_foldl ?_ ?_
    | with_reducible refine good_foldl1 ?_ ?_ | with_reducible refine good_foldl2 ?_ ?_ | intro _)

theorem State.hostApply_good {κ : Kept} (s : State) (p : Nat) (hg : Good κ s) (f_host : κ.host = none) (f_hbm :
    κ.hbm = none) (f_plots : κ.plots = none) (f_cmd : κ.cmd = none) (f_tm : κ.tm = none) :
    Good κ (State.hostApply s p) := by
  unfold State.hostApply
  repeat' (first
    | with_reducible assumption | with_reducible refine good_ite ?_ ?_
    | with_reducible refine State.rollbackCheck_good _ _ ?_ f_plots f_cmd f_tm
    | with_reducible refine State.pokeSlot_good _ _ _ _ _ _ _ ?_
    | with_reducible refine State.reapply_good _ _ _ ?_ f_plots f_cmd
    | with_reducible refine State.applyQueue_good _ _ _ ?_ f_host f_hbm f_plots f_cmd
    | with_reducible refine State.logCheck_good _ _ ?_ f_plots | with_reducible refine good_foldl ?_ ?_
    | with_reducible refine good_foldl1 ?_ ?_ | with_reducible refine good_foldl2 ?_ ?_ | intro _)

theorem State.startPlot_good {κ : Kept} (s : State) (p t : Nat) (hg : Good κ s) (f_plots : κ.plots = none) (f_cmd :
    κ.cmd = none) (f_tm : κ.tm = none) :
    Good κ (State.startPlot s p t) := by
  unfold State.startPlot
  repeat' (first
    | with_reducible assumption | with_reducible refine good_ite ?_ ?_
    | with_reducible refine State.resumePlot_good _ _ ?_ f_plots f_cmd f_tm
    | with_reducible refine State.onId_good _ _ _ ?_ f_plots)

theorem State.runCmd_good {κ : Kept} (s : State) (c : Cmd) (stop t : Nat) (hg : Good κ s) (f_plots : κ.plots = none)
    (f_cmd : κ.cmd = none) (f_tm : κ.tm = none) :
    Good κ (State.runCmd s c stop t) := by
  unfold State.runCmd
  repeat' (first
    | with_reducible assumption | with_reducible refine good_ite ?_ ?_
    | with_reducible refine State.finish_good _ _ _ _ ?_ f_cmd
    | with_reducible refine State.dataLoss_good _ _ _ _ ?_ f_plots
    | with_reducible refine State.onCmd_good _ _ _ ?_ ?_ f_cmd
    | with_reducible refine State.startPlot_good _ _ _ ?_ f_plots f_cmd f_tm
    | fail_if_no_progress with_reducible refine good_upd ?_ | exact fun _ => rfl | exact Or.inr fun _ => rfl
    | exact Or.inr rfl | exact Or.inl (by with_reducible assumption) | intro _ | (split))

theorem State.runOp_good {κ : Kept} (s : State) (c : Cmd) (hg : Good κ s) (f_plots : κ.plots = none) (f_cmd : κ.cmd
    = none) (f_tm : κ.tm = none) :
    Good κ (State.runOp s c) := by
  unfold State.runOp
  repeat' (first | with_reducible assumption | with_reducible refine State.runCmd_good _ _ _ _ ?_ f_plots f_cmd f_tm)

theorem State.stepOp_good {κ : Kept} (s : State) (c : Cmd) (hg : Good κ s) (f_plots : κ.plots = none) (f_cmd : κ.cmd
    = none) (f_tm : κ.tm = none) :
    Good κ (State.stepOp s c) := by
  unfold State.stepOp
  repeat' (first
    | with_reducible assumption | with_reducible refine good_ite ?_ ?_
    | with_reducible refine State.finish_good _ _ _ _ ?_ f_cmd
    | with_reducible refine State.runCmd_good _ _ _ _ ?_ f_plots f_cmd f_tm)

theorem State.askStop_good {κ : Kept} (s : State) (p kind : Nat) (pn : Option Nat) (id : Nat) (hg : Good κ s)
    (f_plots : κ.plots = none) :
    Good κ (State.askStop s p kind pn id) := by
  unfold State.askStop
  repeat' (first | with_reducible assumption | with_reducible refine State.onId_good _ _ _ ?_ f_plots)

theorem State.floodHalt_good {κ : Kept} (s : State) (p action pn : Nat) (hg : Good κ s) :
    Good κ (State.floodHalt s p action pn) := by
  unfold State.floodHalt
  repeat' (first | with_reducible assumption | with_reducible refine State.floodCtl_good _ _ _ _ _ _ _ ?_)

theorem State.haltOp_good {κ : Kept} (s : State) (c : Cmd) (hg : Good κ s) (f_plots : κ.plots = none) (f_cmd : κ.cmd
    = none) :
    Good κ (State.haltOp s c) := by
  unfold State.haltOp
  repeat' (first
    | with_reducible assumption | with_reducible refine good_ite ?_ ?_
    | with_reducible refine State.flood_good _ _ _ _ ?_ | with_reducible refine State.finish_good _ _ _ _ ?_ f_cmd
    | with_reducible refine State.floodHalt_good _ _ _ _ ?_ | with_reducible refine State.onCmt_good _ _ _ ?_ f_plots
    | with_reducible refine State.blockCmd_good _ _ ?_ f_cmd
    | with_reducible refine State.askStop_good _ _ _ _ _ ?_ f_plots)

theorem State.haltPacket_good {κ : Kept} (s : State) (ws : List Word) (hg : Good κ s) (f_plots : κ.plots = none) :
    Good κ (State.haltPacket s ws) := by
  unfold State.haltPacket
  repeat' (first
    | with_reducible assumption | with_reducible refine good_ite ?_ ?_
    | with_reducible refine State.plotState_good _ _ _ _ _ ?_
    | with_reducible refine State.askStop_good _ _ _ _ _ ?_ f_plots | intro _ | (split))

theorem State.launchAccept_good {κ : Kept} (s : State) (p t0 : Nat) (hg : Good κ s) (f_plots : κ.plots = none) :
    Good κ (State.launchAccept s p t0) := by
  unfold State.launchAccept
  repeat' (first
    | with_reducible assumption | with_reducible refine good_ite ?_ ?_
    | with_reducible refine State.put_good _ _ _ _ _ ?_ | with_reducible refine State.onId_good _ _ _ ?_ f_plots)

theorem State.launchOp_good {κ : Kept} (s : State) (c : Cmd) (hg : Good κ s) (f_plots : κ.plots = none) (f_cmd :
    κ.cmd = none) :
    Good κ (State.launchOp s c) := by
  unfold State.launchOp
  repeat' (first
    | with_reducible assumption | with_reducible refine good_ite ?_ ?_
    | with_reducible refine State.finish_good _ _ _ _ ?_ f_cmd
    | with_reducible refine State.floodCtl_good _ _ _ _ _ _ _ ?_
    | with_reducible refine State.blockCmd_good _ _ ?_ f_cmd
    | with_reducible refine State.launchAccept_good _ _ _ ?_ f_plots | intro _ | (split)
    | with_reducible refine good_pair2 (by with_reducible assumption) ?_
    | with_reducible refine good_pair1 (by with_reducible assumption) ?_
    | with_reducible refine good_pair22 (by with_reducible assumption) ?_
    | with_reducible refine good_pair222 (by with_reducible assumption) ?_
    | with_reducible refine good_pair2222 (by with_reducible assumption) ?_ | (dsimp only))

theorem State.launchPacket_good {κ : Kept} (s : State) (ws : List Word) (hg : Good κ s) (f_plots : κ.plots = none) :
    Good κ (State.launchPacket s ws) := by
  unfold State.launchPacket
  repeat' (first
    | with_reducible assumption | with_reducible refine good_ite ?_ ?_
    | with_reducible refine State.plotState_good _ _ _ _ _ ?_
    | with_reducible refine State.launchAccept_good _ _ _ ?_ f_plots | intro _ | (split))

theorem State.loadInitial_good {κ : Kept} (s : State) (p : Nat) (hg : Good κ s) (f_plots : κ.plots = none) (f_cmd :
    κ.cmd = none) :
    Good κ (State.loadInitial s p) := by
  unfold State.loadInitial
  repeat' (first
    | with_reducible assumption | with_reducible refine good_ite ?_ ?_
    | with_reducible refine State.stateSet_good _ _ _ _ _ _ ?_
    | with_reducible refine State.versionCopy_good _ _ _ _ _ ?_ f_plots f_cmd
    | fail_if_no_progress with_reducible refine good_upd ?_ | with_reducible refine good_foldl ?_ ?_
    | with_reducible refine good_foldl1 ?_ ?_ | with_reducible refine good_foldl2 ?_ ?_ | intro _)

theorem State.applyPreLaunch_good {κ : Kept} (s : State) (p n : Nat) (hg : Good κ s) (f_host : κ.host = none) (f_hbm
    : κ.hbm = none) (f_plots : κ.plots = none) (f_cmd : κ.cmd = none) :
    Good κ (State.applyPreLaunch s p n) := by
  unfold State.applyPreLaunch
  repeat' (first
    | with_reducible assumption | with_reducible refine State.applyList_good _ _ _ _ _ _ ?_ f_host f_hbm f_plots f_cmd
    | with_reducible refine State.onId_good _ _ _ ?_ f_plots)

theorem State.finalRefresh_good {κ : Kept} (s : State) (p : Nat) (hg : Good κ s) :
    Good κ (State.finalRefresh s p) := by
  unfold State.finalRefresh
  repeat' (first
    | with_reducible assumption | fail_if_no_progress with_reducible refine good_upd ?_
    | fail_if_no_progress with_reducible refine good_updHbm ?_)

theorem State.initStaging_good {κ : Kept} (s : State) (p : Nat) (hg : Good κ s) :
    Good κ (State.initStaging s p) := by
  unfold State.initStaging
  repeat' (first
    | with_reducible assumption | fail_if_no_progress with_reducible refine good_upd ?_
    | with_reducible refine good_foldl ?_ ?_ | with_reducible refine good_foldl1 ?_ ?_
    | with_reducible refine good_foldl2 ?_ ?_ | intro _)

theorem State.keepHostWrites_good {κ : Kept} (s : State) (p : Nat) (hg : Good κ s) :
    Good κ (State.keepHostWrites s p) := by
  unfold State.keepHostWrites
  repeat' (first
    | with_reducible assumption | with_reducible refine good_ite ?_ ?_
    | fail_if_no_progress with_reducible refine good_upd ?_
    | fail_if_no_progress with_reducible refine good_updHbm ?_)

theorem State.forgetRun_good {κ : Kept} (s : State) (p : Nat) (hg : Good κ s) (f_plots : κ.plots = none) (f_tm :
    κ.tm = none) :
    Good κ (State.forgetRun s p) := by
  unfold State.forgetRun
  repeat' (first
    | with_reducible assumption | with_reducible refine State.keepHostWrites_good _ _ ?_
    | with_reducible refine State.wqDiscard_good _ _ _ ?_ | with_reducible refine State.gateDiscard_good _ _ _ ?_
    | with_reducible refine State.onFio_good _ _ _ ?_ | with_reducible refine State.initStaging_good _ _ ?_
    | with_reducible refine State.onPlot_good _ _ _ ?_ ?_ ?_ ?_ f_plots
    | fail_if_no_progress with_reducible refine good_upd ?_ | fail_if_no_progress with_reducible refine good_updHbm ?_
    | with_reducible refine good_foldl ?_ ?_ | with_reducible refine good_foldl1 ?_ ?_
    | with_reducible refine good_foldl2 ?_ ?_ | exact fun _ => rfl | exact Or.inr fun _ => rfl | exact Or.inr rfl
    | exact Or.inl (by with_reducible assumption) | intro _)

theorem State.startImported_good {κ : Kept} (s : State) (p : Nat) (hg : Good κ s) (f_plots : κ.plots = none) (f_tm :
    κ.tm = none) :
    Good κ (State.startImported s p) := by
  unfold State.startImported
  repeat' (first
    | with_reducible assumption | with_reducible refine State.onPlot_good _ _ _ ?_ ?_ ?_ ?_ f_plots
    | fail_if_no_progress with_reducible refine good_upd ?_ | exact fun _ => rfl | exact Or.inr fun _ => rfl
    | exact Or.inr rfl | exact Or.inl (by with_reducible assumption))

theorem State.hwmReset_good {κ : Kept} (s : State) (p : Nat) (hg : Good κ s) :
    Good κ (State.hwmReset s p) := by
  unfold State.hwmReset
  repeat' (first
    | with_reducible assumption | with_reducible refine State.put_good _ _ _ _ _ ?_
    | with_reducible refine good_foldl ?_ ?_ | with_reducible refine good_foldl1 ?_ ?_
    | with_reducible refine good_foldl2 ?_ ?_ | intro _)

theorem State.launchPass_good {κ : Kept} (s : State) (p k : Nat) (hg : Good κ s) (f_plots : κ.plots = none) (f_cmd :
    κ.cmd = none) (f_tm : κ.tm = none) :
    Good κ (State.launchPass s p k) := by
  unfold State.launchPass
  repeat' (first
    | with_reducible assumption | with_reducible refine State.onTm_good _ _ _ ?_ f_plots f_tm
    | with_reducible refine State.clockFrom_good _ _ ?_ f_plots f_tm
    | with_reducible refine State.beginPass_good _ _ _ ?_ f_plots f_cmd f_tm)

theorem State.launch_good {κ : Kept} (s : State) (p : Nat) (pins : List (Nat × Nat)) (hg : Good κ s) (f_host :
    κ.host = none) (f_hbm : κ.hbm = none) (f_plots : κ.plots = none) (f_cmd : κ.cmd = none) (f_tm : κ.tm = none)
    (f_img : κ.img = none) :
    Good κ (State.launch s p pins) := by
  unfold State.launch
  repeat' (first
    | with_reducible assumption | with_reducible refine good_ite ?_ ?_
    | with_reducible refine State.startImported_good _ _ ?_ f_plots f_tm
    | with_reducible refine State.forgetRun_good _ _ ?_ f_plots f_tm
    | with_reducible refine State.loadInitial_good _ _ ?_ f_plots f_cmd
    | with_reducible refine State.hwmReset_good _ _ ?_
    | with_reducible refine State.applyPreLaunch_good _ _ _ ?_ f_host f_hbm f_plots f_cmd
    | with_reducible refine State.reloadData_good _ _ _ ?_ f_plots f_cmd
    | with_reducible refine State.onImg_good _ _ _ ?_ f_plots f_img
    | with_reducible refine State.sigRestartAll_good _ _ ?_ | with_reducible refine State.finalRefresh_good _ _ ?_
    | with_reducible refine State.put_good _ _ _ _ _ ?_ | with_reducible refine State.rnSet_good _ _ _ ?_
    | with_reducible refine State.cmtStateSet_good _ _ _ ?_
    | with_reducible refine State.latchAll_good _ _ _ _ ?_ f_plots
    | with_reducible refine State.sampleGates_good _ _ _ ?_ f_plots
    | with_reducible refine State.plotState_good _ _ _ _ _ ?_
    | with_reducible refine State.launchPass_good _ _ _ ?_ f_plots f_cmd f_tm
    | with_reducible refine State.finishAll_good _ _ _ _ _ ?_ f_cmd)

theorem State.stakeOp_good {κ : Kept} (s : State) (c : Cmd) (hg : Good κ s) (f_plots : κ.plots = none) (f_cmd :
    κ.cmd = none) :
    Good κ (State.stakeOp s c) := by
  unfold State.stakeOp
  repeat' (first
    | with_reducible assumption | with_reducible refine good_ite ?_ ?_
    | with_reducible refine State.finish_good _ _ _ _ ?_ f_cmd
    | with_reducible refine State.blockCmd_good _ _ ?_ f_cmd | with_reducible refine State.onCmt_good _ _ _ ?_ f_plots
    | fail_if_no_progress with_reducible refine good_upd ?_ | intro _ | (split))

theorem State.rollbackOp_good {κ : Kept} (s : State) (c : Cmd) (hg : Good κ s) (f_plots : κ.plots = none) (f_cmd :
    κ.cmd = none) :
    Good κ (State.rollbackOp s c) := by
  unfold State.rollbackOp
  repeat' (first
    | with_reducible assumption | with_reducible refine good_ite ?_ ?_
    | with_reducible refine State.finish_good _ _ _ _ ?_ f_cmd
    | with_reducible refine State.blockCmd_good _ _ ?_ f_cmd | with_reducible refine State.onCmt_good _ _ _ ?_ f_plots
    | fail_if_no_progress with_reducible refine good_upd ?_ | intro _ | (split))

end Sys2Proof.Machine
end

