-- ==== Sys2Proof/Laws/GoodSowing.lean ====
section
/-! SUPPORT. What the operations of Machine/Sowing.lean keep: one lemma each (Laws/GoodBase.lean). -/

namespace Sys2Proof.Machine
open Sys2Proof

-- One proof at a time: proofs checked side by side take a stack each.
set_option Elab.async false

theorem State.bootSet_good {κ : Kept} (s : State) (state cause : Nat) (hg : Good κ s) :
    Good κ (State.bootSet s state cause) := by
  unfold State.bootSet
  repeat' (first | with_reducible assumption | with_reducible refine State.put_good _ _ _ _ _ ?_)

theorem State.bootWrite_good {κ : Kept} (s : State) (offset : Nat) (data : List Byte) (hg : Good κ s)
    (f_window : κ.window = none) : Good κ (State.bootWrite s offset data) := by
  unfold State.bootWrite
  split
  · exact State.put_good _ _ _ _ _ hg
  · split
    · exact hg.setWindow (Laws.csetList_wf hg.wf.2.2.2.2.1) f_window
    · exact hg

theorem State.setStarted_good {κ : Kept} (s : State) (x : Option (Nat × Nat)) (hg : Good κ s) :
    Good κ (State.setStarted s x) := by
  unfold State.setStarted
  repeat' (first
    | with_reducible assumption | fail_if_no_progress with_reducible refine good_upd ?_
    | fail_if_no_progress with_reducible refine good_updBoot ?_)

theorem State.bootGo_good {κ : Kept} (s : State) (hg : Good κ s) :
    Good κ (State.bootGo s) := by
  unfold State.bootGo
  repeat' (first
    | with_reducible assumption | with_reducible refine State.bootSet_good _ _ _ ?_
    | with_reducible refine State.setStarted_good _ _ ?_ | intro _ | (split)
    | with_reducible refine good_pair2 (by with_reducible assumption) ?_
    | with_reducible refine good_pair1 (by with_reducible assumption) ?_
    | with_reducible refine good_pair22 (by with_reducible assumption) ?_
    | with_reducible refine good_pair222 (by with_reducible assumption) ?_
    | with_reducible refine good_pair2222 (by with_reducible assumption) ?_ | (dsimp only))

theorem State.goWrite_good {κ : Kept} (s : State) (fn v : Nat) (r : RegRow) (hg : Good κ s) :
    Good κ (State.goWrite s fn v r) := by
  unfold State.goWrite
  repeat' (first
    | with_reducible assumption | with_reducible refine good_ite ?_ ?_
    | with_reducible refine State.rsvdCheck_good _ _ _ _ ?_ | with_reducible refine State.bootGo_good _ ?_)

theorem State.fwRestart_good {κ : Kept} (s : State) (hg : Good κ s) (f_cmd : κ.cmd = none) :
    Good κ (State.fwRestart s) := by
  unfold State.fwRestart
  repeat' (first
    | with_reducible assumption | with_reducible refine good_ite ?_ ?_
    | with_reducible refine State.rnSet_good _ _ _ ?_ | with_reducible refine State.put_good _ _ _ _ _ ?_
    | with_reducible refine State.finishAt_good _ _ _ _ _ _ ?_ f_cmd
    | fail_if_no_progress with_reducible refine good_upd ?_
    | fail_if_no_progress with_reducible refine good_updBoot ?_ | intro _ | (split))

theorem State.sownPin_good {κ : Kept} (s : State) (hg : Good κ s) :
    Good κ (State.sownPin s) := by
  unfold State.sownPin
  repeat' (first
    | with_reducible assumption | with_reducible refine good_ite ?_ ?_
    | with_reducible refine State.putBit_good _ _ _ _ ?_ | with_reducible refine State.clrBit_good _ _ _ ?_)

theorem State.sowFail_good {κ : Kept} (s : State) (p id status : Nat) (hg : Good κ s) (f_plots : κ.plots = none)
    (f_cmd : κ.cmd = none) (f_img : κ.img = none) :
    Good κ (State.sowFail s p id status) := by
  unfold State.sowFail
  repeat' (first
    | with_reducible assumption | with_reducible refine State.sowSet_good _ _ _ ?_
    | with_reducible refine State.put_good _ _ _ _ _ ?_
    | with_reducible refine State.onImg_good _ _ _ ?_ f_plots f_img
    | with_reducible refine State.finish_good _ _ _ _ ?_ f_cmd)

theorem State.clearFurrow_good {κ : Kept} (s : State) (f : Nat) (hg : Good κ s) :
    Good κ (State.clearFurrow s f) := by
  unfold State.clearFurrow
  repeat' (first | with_reducible assumption | fail_if_no_progress with_reducible refine good_upd ?_)

theorem State.clearFurrows_good {κ : Kept} (s : State) (p : Nat) (hg : Good κ s) :
    Good κ (State.clearFurrows s p) := by
  unfold State.clearFurrows
  repeat' (first
    | with_reducible assumption | with_reducible refine State.clearFurrow_good _ _ ?_
    | with_reducible refine good_foldl ?_ ?_ | with_reducible refine good_foldl1 ?_ ?_
    | with_reducible refine good_foldl2 ?_ ?_ | intro _)

theorem State.abortWaiting_good {κ : Kept} (s : State) (p id : Nat) (hg : Good κ s) (f_plots : κ.plots = none)
    (f_cmd : κ.cmd = none) :
    Good κ (State.abortWaiting s p id) := by
  unfold State.abortWaiting
  repeat' (first
    | with_reducible assumption | with_reducible refine State.finishAll_good _ _ _ _ _ ?_ f_cmd
    | with_reducible refine State.onId_good _ _ _ ?_ f_plots)

theorem State.imageGone_good {κ : Kept} (s : State) (p : Nat) (hg : Good κ s) :
    Good κ (State.imageGone s p) := by
  unfold State.imageGone
  repeat' (first
    | with_reducible assumption | with_reducible refine State.rnSet_good _ _ _ ?_
    | with_reducible refine good_foldl ?_ ?_ | with_reducible refine good_foldl1 ?_ ?_
    | with_reducible refine good_foldl2 ?_ ?_ | intro _)

theorem State.glnForget_good {κ : Kept} (s : State) (p : Nat) (hg : Good κ s) :
    Good κ (State.glnForget s p) := by
  unfold State.glnForget
  repeat' (first | with_reducible assumption | fail_if_no_progress with_reducible refine good_upd ?_)

theorem State.dropImage_good {κ : Kept} (s : State) (p : Nat) (hg : Good κ s) (f_hbm : κ.hbm = none) (f_plots :
    κ.plots = none) (f_cmd : κ.cmd = none) (f_tm : κ.tm = none) (f_res : κ.res = none) (f_img : κ.img = none) :
    Good κ (State.dropImage s p) := by
  unfold State.dropImage
  repeat' (first
    | with_reducible assumption | with_reducible refine State.settleQueue_good _ _ _ ?_ f_hbm f_plots f_cmd
    | with_reducible refine State.onPlot_good _ _ _ ?_ ?_ ?_ ?_ f_plots
    | with_reducible refine State.put_good _ _ _ _ _ ?_ | with_reducible refine State.cmtStateSet_good _ _ _ ?_
    | with_reducible refine State.clrBit_good _ _ _ ?_ | with_reducible refine State.rnSet_good _ _ _ ?_
    | with_reducible refine State.swapsForget_good _ _ ?_ | with_reducible refine State.imageGone_good _ _ ?_
    | with_reducible refine State.glnForget_good _ _ ?_ | fail_if_no_progress with_reducible refine good_upd ?_
    | fail_if_no_progress with_reducible refine good_updHbm ?_ | exact fun _ => rfl | exact Or.inr fun _ => rfl
    | exact Or.inr rfl | exact Or.inl (by with_reducible assumption))

theorem State.sowBeginOp_good {κ : Kept} (s : State) (c : Cmd) (hg : Good κ s) (f_hbm : κ.hbm = none) (f_plots :
    κ.plots = none) (f_cmd : κ.cmd = none) (f_tm : κ.tm = none) (f_res : κ.res = none) (f_img : κ.img = none) :
    Good κ (State.sowBeginOp s c) := by
  unfold State.sowBeginOp
  repeat' (first
    | with_reducible assumption | with_reducible refine good_ite ?_ ?_
    | with_reducible refine State.finish_good _ _ _ _ ?_ f_cmd
    | with_reducible refine State.abortWaiting_good _ _ _ ?_ f_plots f_cmd
    | with_reducible refine State.dropImage_good _ _ ?_ f_hbm f_plots f_cmd f_tm f_res f_img
    | with_reducible refine State.gatePark_good _ _ ?_ | with_reducible refine State.onFio_good _ _ _ ?_
    | with_reducible refine State.park_good _ _ ?_ | with_reducible refine State.sowSet_good _ _ _ ?_
    | with_reducible refine State.putBit_good _ _ _ _ ?_ | with_reducible refine State.sownPin_good _ ?_
    | fail_if_no_progress with_reducible refine good_upd ?_ | with_reducible refine good_foldl ?_ ?_
    | with_reducible refine good_foldl1 ?_ ?_ | with_reducible refine good_foldl2 ?_ ?_ | intro _)

theorem State.shadowStore_good {κ : Kept} (s : State) (p idx : Nat) (body : List Byte) (hg : Good κ s) :
    Good κ (State.shadowStore s p idx body) := by
  unfold State.shadowStore
  repeat' (first
    | with_reducible assumption | with_reducible refine State.hbmMarkSet_good _ _ _ ?_
    | with_reducible refine good_foldl ?_ ?_ | with_reducible refine good_foldl1 ?_ ?_
    | with_reducible refine good_foldl2 ?_ ?_ | intro _)

theorem State.acceptSegment_good {κ : Kept} (s : State) (p : Nat) (h : SegHdr) (body : List Byte) (hg : Good κ s)
    (f_plots : κ.plots = none) (f_img : κ.img = none) :
    Good κ (State.acceptSegment s p h body) := by
  unfold State.acceptSegment
  repeat' (first
    | with_reducible assumption | with_reducible refine good_ite ?_ ?_
    | with_reducible refine State.shadowStore_good _ _ _ _ ?_
    | with_reducible refine State.onImg_good _ _ _ ?_ f_plots f_img
    | with_reducible refine State.put_good _ _ _ _ _ ?_ | with_reducible refine State.setBit_good _ _ _ ?_)

theorem State.takeSegment_good {κ : Kept} (s : State) (c : Cmd) (bytes : List Byte) (hg : Good κ s) (f_plots :
    κ.plots = none) (f_cmd : κ.cmd = none) (f_img : κ.img = none) :
    Good κ (State.takeSegment s c bytes) := by
  unfold State.takeSegment
  repeat' (first
    | with_reducible assumption | with_reducible refine good_ite ?_ ?_
    | with_reducible refine State.finish_good _ _ _ _ ?_ f_cmd
    | with_reducible refine State.sowFail_good _ _ _ _ ?_ f_plots f_cmd f_img
    | with_reducible refine State.acceptSegment_good _ _ _ _ ?_ f_plots f_img
    | with_reducible refine State.finishAt_good _ _ _ _ _ _ ?_ f_cmd | intro _ | (split))

theorem State.sowSegmentOp_good {κ : Kept} (s : State) (c : Cmd) (hg : Good κ s) (f_plots : κ.plots = none) (f_cmd :
    κ.cmd = none) (f_img : κ.img = none) :
    Good κ (State.sowSegmentOp s c) := by
  unfold State.sowSegmentOp
  repeat' (first
    | with_reducible assumption | with_reducible refine good_ite ?_ ?_
    | with_reducible refine State.finish_good _ _ _ _ ?_ f_cmd | with_reducible refine State.dma_good _ _ _ _ _ _ ?_
    | with_reducible refine State.dmaEnd_good _ _ _ _ _ _ ?_ f_cmd
    | with_reducible refine State.takeSegment_good _ _ _ ?_ f_plots f_cmd f_img)

theorem State.applySetting_good {κ : Kept} (s : State) (val : Nat) (hg : Good κ s) :
    Good κ (State.applySetting s val) := by
  unfold State.applySetting
  repeat' (first
    | with_reducible assumption | with_reducible refine State.rnSet_good _ _ _ ?_ | intro _ | (split)
    | with_reducible refine good_pair2 (by with_reducible assumption) ?_
    | with_reducible refine good_pair1 (by with_reducible assumption) ?_
    | with_reducible refine good_pair22 (by with_reducible assumption) ?_
    | with_reducible refine good_pair222 (by with_reducible assumption) ?_
    | with_reducible refine good_pair2222 (by with_reducible assumption) ?_ | (dsimp only))

theorem State.applySettings_good {κ : Kept} (s : State) (x : Part) (hg : Good κ s) :
    Good κ (State.applySettings s x) := by
  unfold State.applySettings
  repeat' (first
    | with_reducible assumption | with_reducible refine State.rgReset_good _ _ ?_
    | with_reducible refine State.put_good _ _ _ _ _ ?_ | with_reducible refine State.applySetting_good _ _ ?_
    | with_reducible refine good_foldl ?_ ?_ | with_reducible refine good_foldl1 ?_ ?_
    | with_reducible refine good_foldl2 ?_ ?_ | intro _)

theorem State.headerRegs_good {κ : Kept} (s : State) (x : Part) (hg : Good κ s) :
    Good κ (State.headerRegs s x) := by
  unfold State.headerRegs
  repeat' (first
    | with_reducible assumption | with_reducible refine State.put_good _ _ _ _ _ ?_
    | with_reducible refine State.rnSet_good _ _ _ ?_ | with_reducible refine good_foldl ?_ ?_
    | with_reducible refine good_foldl1 ?_ ?_ | with_reducible refine good_foldl2 ?_ ?_ | intro _)

theorem State.writeTarget_good {κ : Kept} (s : State) (t : Target) (hg : Good κ s) :
    Good κ (State.writeTarget s t) := by
  unfold State.writeTarget
  repeat' (first
    | with_reducible assumption | with_reducible refine State.ramPut_good _ _ _ _ ?_
    | fail_if_no_progress with_reducible refine good_upd ?_ | intro _ | (split))

theorem State.carryMap_good {κ : Kept} (s : State) (x : Part) (hg : Good κ s) :
    Good κ (State.carryMap s x) := by
  unfold State.carryMap
  repeat' (first
    | with_reducible assumption | with_reducible refine good_ite ?_ ?_
    | fail_if_no_progress with_reducible refine good_upd ?_ | with_reducible refine good_foldl ?_ ?_
    | with_reducible refine good_foldl1 ?_ ?_ | with_reducible refine good_foldl2 ?_ ?_ | intro _)

theorem State.writeRoutes_good {κ : Kept} (s : State) (x : Part) (hg : Good κ s) :
    Good κ (State.writeRoutes s x) := by
  unfold State.writeRoutes
  repeat' (first
    | with_reducible assumption | with_reducible refine State.put_good _ _ _ _ _ ?_
    | with_reducible refine State.swapsForget_good _ _ ?_ | with_reducible refine State.selectsOwn_good _ _ _ ?_
    | fail_if_no_progress with_reducible refine good_upd ?_)

theorem State.writeXt_good {κ : Kept} (s : State) (x : Part) (hg : Good κ s) :
    Good κ (State.writeXt s x) := by
  unfold State.writeXt
  repeat' (first
    | with_reducible assumption | with_reducible refine State.xtWrite_good _ _ _ ?_
    | with_reducible refine State.put_good _ _ _ _ _ ?_
    | fail_if_no_progress with_reducible refine good_upd ?_ | with_reducible refine good_foldl ?_ ?_
    | with_reducible refine good_foldl1 ?_ ?_ | with_reducible refine good_foldl2 ?_ ?_ | intro _)

theorem State.writeDesign_good {κ : Kept} (s : State) (p off : Nat) (bs : List Byte) (hg : Good κ s) (f_hbm : κ.hbm
    = none) :
    Good κ (State.writeDesign s p off bs) := by
  unfold State.writeDesign
  repeat' (first
    | with_reducible assumption | with_reducible refine State.hbmStore_good _ _ _ ?_ f_hbm | intro _ | (split))

theorem State.writeMemory_good {κ : Kept} (s : State) (x : Part) (hg : Good κ s) (f_hbm : κ.hbm = none) :
    Good κ (State.writeMemory s x) := by
  unfold State.writeMemory
  repeat' (first
    | with_reducible assumption | with_reducible refine good_ite ?_ ?_
    | with_reducible refine State.writeDesign_good _ _ _ _ ?_ f_hbm | with_reducible refine good_foldl ?_ ?_
    | with_reducible refine good_foldl1 ?_ ?_ | with_reducible refine good_foldl2 ?_ ?_ | intro _)

theorem State.setTrunks_good {κ : Kept} (s : State) (p : Nat) (us : List Nat) (hg : Good κ s) (f_plots : κ.plots =
    none) (f_res : κ.res = none) :
    Good κ (State.setTrunks s p us) := by
  unfold State.setTrunks
  repeat' (first
    | with_reducible assumption | with_reducible refine State.rnSet_good _ _ _ ?_
    | with_reducible refine State.onRes_good _ _ _ ?_ f_plots f_res
    | fail_if_no_progress with_reducible refine good_upd ?_ | with_reducible refine good_foldl ?_ ?_
    | with_reducible refine good_foldl1 ?_ ?_ | with_reducible refine good_foldl2 ?_ ?_ | intro _)

theorem State.setChannels_good {κ : Kept} (s : State) (x : Part) (hg : Good κ s) :
    Good κ (State.setChannels s x) := by
  unfold State.setChannels
  repeat' (first
    | with_reducible assumption | with_reducible refine good_ite ?_ ?_
    | with_reducible refine State.putBit_good _ _ _ _ ?_ | with_reducible refine State.put_good _ _ _ _ _ ?_
    | with_reducible refine good_foldl ?_ ?_ | with_reducible refine good_foldl1 ?_ ?_
    | with_reducible refine good_foldl2 ?_ ?_ | intro _)

theorem State.keepImage_good {κ : Kept} (s : State) (x : Part) (hg : Good κ s) (f_plots : κ.plots = none) (f_img :
    κ.img = none) :
    Good κ (State.keepImage s x) := by
  unfold State.keepImage
  repeat' (first | with_reducible assumption | with_reducible refine State.onImg_good _ _ _ ?_ f_plots f_img)

theorem State.shadowWord_good {κ : Kept} (s : State) (p idx w : Nat) (hg : Good κ s) (f_plots : κ.plots = none)
    (f_cmd : κ.cmd = none) (f_img : κ.img = none) :
    Good κ (State.shadowWord s p idx w) := by
  unfold State.shadowWord
  repeat' (first
    | with_reducible assumption | with_reducible refine good_ite ?_ ?_
    | with_reducible refine State.hbmCheck_good _ _ _ _ ?_ f_plots f_cmd
    | with_reducible refine State.takeFree_good _ _ ?_
    | with_reducible refine State.onImg_good _ _ _ ?_ f_plots f_img)

theorem State.shadowRead_good {κ : Kept} (s : State) (p : Nat) (hg : Good κ s) (f_plots : κ.plots = none) (f_cmd :
    κ.cmd = none) (f_img : κ.img = none) :
    Good κ (State.shadowRead s p) := by
  unfold State.shadowRead
  repeat' (first
    | with_reducible assumption | with_reducible refine State.shadowWord_good _ _ _ _ ?_ f_plots f_cmd f_img
    | with_reducible refine good_foldl ?_ ?_ | with_reducible refine good_foldl1 ?_ ?_
    | with_reducible refine good_foldl2 ?_ ?_ | intro _)

theorem State.writePart_good {κ : Kept} (s0 : State) (x : Part) (hg : Good κ s0) (f_hbm : κ.hbm = none) (f_plots :
    κ.plots = none) (f_res : κ.res = none) (f_img : κ.img = none) :
    Good κ (State.writePart s0 x) := by
  unfold State.writePart
  repeat' (first
    | with_reducible assumption | with_reducible refine State.clearFurrows_good _ _ ?_
    | with_reducible refine State.applySettings_good _ _ ?_ | with_reducible refine State.headerRegs_good _ _ ?_
    | with_reducible refine State.keepImage_good _ _ ?_ f_plots f_img
    | with_reducible refine State.writeTarget_good _ _ ?_ | with_reducible refine State.carryMap_good _ _ ?_
    | with_reducible refine State.writeRoutes_good _ _ ?_
    | with_reducible refine State.setTrunks_good _ _ _ ?_ f_plots f_res
    | with_reducible refine State.writeXt_good _ _ ?_ | with_reducible refine State.setChannels_good _ _ ?_
    | with_reducible refine State.onRes_good _ _ _ ?_ f_plots f_res
    | with_reducible refine State.writeMemory_good _ _ ?_ f_hbm
    | fail_if_no_progress with_reducible refine good_upd ?_
    | fail_if_no_progress with_reducible refine good_updTile ?_ | with_reducible refine good_foldl ?_ ?_
    | with_reducible refine good_foldl1 ?_ ?_ | with_reducible refine good_foldl2 ?_ ?_ | intro _)

theorem State.sowCommitOp_good {κ : Kept} (s : State) (c : Cmd) (hg : Good κ s) (f_hbm : κ.hbm = none) (f_plots :
    κ.plots = none) (f_cmd : κ.cmd = none) (f_res : κ.res = none) (f_img : κ.img = none) :
    Good κ (State.sowCommitOp s c) := by
  unfold State.sowCommitOp
  repeat' (first
    | with_reducible assumption | with_reducible refine good_ite ?_ ?_
    | with_reducible refine State.finish_good _ _ _ _ ?_ f_cmd
    | with_reducible refine State.shadowRead_good _ _ ?_ f_plots f_cmd f_img
    | with_reducible refine State.sowFail_good _ _ _ _ ?_ f_plots f_cmd f_img
    | with_reducible refine State.writePart_good _ _ ?_ f_hbm f_plots f_res f_img
    | with_reducible refine State.rnSet_good _ _ _ ?_ | with_reducible refine State.sowSet_good _ _ _ ?_
    | with_reducible refine State.finishAt_good _ _ _ _ _ _ ?_ f_cmd)

theorem State.sowAbortOp_good {κ : Kept} (s : State) (c : Cmd) (hg : Good κ s) (f_hbm : κ.hbm = none) (f_plots :
    κ.plots = none) (f_cmd : κ.cmd = none) (f_tm : κ.tm = none) (f_res : κ.res = none) (f_img : κ.img = none) :
    Good κ (State.sowAbortOp s c) := by
  unfold State.sowAbortOp
  repeat' (first
    | with_reducible assumption | with_reducible refine good_ite ?_ ?_
    | with_reducible refine State.finish_good _ _ _ _ ?_ f_cmd
    | with_reducible refine State.abortWaiting_good _ _ _ ?_ f_plots f_cmd
    | with_reducible refine State.dropImage_good _ _ ?_ f_hbm f_plots f_cmd f_tm f_res f_img
    | with_reducible refine State.clearFurrows_good _ _ ?_ | with_reducible refine State.sowSet_good _ _ _ ?_)

theorem State.holdSown_good {κ : Kept} (s : State) (p : Nat) (k : SownPkt) (hg : Good κ s) (f_plots : κ.plots =
    none) :
    Good κ (State.holdSown s p k) := by
  unfold State.holdSown
  repeat' (first | with_reducible assumption | with_reducible refine State.onRel_good _ _ _ ?_ f_plots)

theorem State.sendSown_good {κ : Kept} (s : State) (p : Nat) (hg : Good κ s) (f_plots : κ.plots = none) :
    Good κ (State.sendSown s p) := by
  unfold State.sendSown
  repeat' (first
    | with_reducible assumption | with_reducible refine State.flood_good _ _ _ _ ?_
    | with_reducible refine State.onRel_good _ _ _ ?_ f_plots)

theorem State.releaseFail_good {κ : Kept} (s : State) (p status : Nat) (hg : Good κ s) (f_plots : κ.plots = none)
    (f_cmd : κ.cmd = none) :
    Good κ (State.releaseFail s p status) := by
  unfold State.releaseFail
  repeat' (first
    | with_reducible assumption | with_reducible refine State.sowSet_good _ _ _ ?_
    | with_reducible refine State.put_good _ _ _ _ _ ?_ | with_reducible refine State.onRel_good _ _ _ ?_ f_plots
    | with_reducible refine State.finishOpt_good _ _ _ _ ?_ f_cmd | with_reducible refine State.sownPin_good _ ?_)

theorem State.releaseDone_good {κ : Kept} (s : State) (p version : Nat) (hg : Good κ s) (f_plots : κ.plots = none)
    (f_cmd : κ.cmd = none) (f_img : κ.img = none) :
    Good κ (State.releaseDone s p version) := by
  unfold State.releaseDone
  repeat' (first
    | with_reducible assumption | with_reducible refine State.unpark_good _ _ _ _ ?_
    | with_reducible refine State.initStaging_good _ _ ?_ | with_reducible refine State.gateUnpark_good _ _ ?_
    | with_reducible refine State.sowSet_good _ _ _ ?_
    | with_reducible refine State.onPlot_good _ _ _ ?_ ?_ ?_ ?_ f_plots
    | with_reducible refine State.plotState_good _ _ _ _ _ ?_
    | with_reducible refine State.finishOpt_good _ _ _ _ ?_ f_cmd | with_reducible refine State.sownPin_good _ ?_
    | fail_if_no_progress with_reducible refine good_upd ?_ | with_reducible refine good_foldl ?_ ?_
    | with_reducible refine good_foldl1 ?_ ?_ | with_reducible refine good_foldl2 ?_ ?_ | exact fun _ => rfl
    | exact Or.inr fun _ => rfl | exact Or.inr rfl | exact Or.inl (by with_reducible assumption) | intro _)

theorem State.releaseCheck_good {κ : Kept} (s : State) (p : Nat) (hg : Good κ s) (f_plots : κ.plots = none) (f_cmd :
    κ.cmd = none) (f_img : κ.img = none) :
    Good κ (State.releaseCheck s p) := by
  unfold State.releaseCheck
  repeat' (first
    | with_reducible assumption | with_reducible refine good_ite ?_ ?_
    | with_reducible refine State.releaseFail_good _ _ _ ?_ f_plots f_cmd
    | with_reducible refine State.releaseDone_good _ _ _ ?_ f_plots f_cmd f_img)

theorem State.releaseOp_good {κ : Kept} (s : State) (c : Cmd) (hg : Good κ s) (f_plots : κ.plots = none) (f_cmd :
    κ.cmd = none) (f_img : κ.img = none) :
    Good κ (State.releaseOp s c) := by
  unfold State.releaseOp
  repeat' (first
    | with_reducible assumption | with_reducible refine good_ite ?_ ?_
    | with_reducible refine State.finish_good _ _ _ _ ?_ f_cmd | with_reducible refine State.put_good _ _ _ _ _ ?_
    | with_reducible refine State.latFail_good _ _ _ ?_ | with_reducible refine State.sowSet_good _ _ _ ?_
    | with_reducible refine State.blockCmd_good _ _ ?_ f_cmd | with_reducible refine State.onRel_good _ _ _ ?_ f_plots
    | with_reducible refine State.sownPin_good _ ?_ | with_reducible refine State.holdSown_good _ _ _ ?_ f_plots
    | with_reducible refine State.sendSown_good _ _ ?_ f_plots
    | with_reducible refine State.releaseCheck_good _ _ ?_ f_plots f_cmd f_img
    | fail_if_no_progress with_reducible refine good_upd ?_
    | fail_if_no_progress with_reducible refine good_updCmd ?_ f_cmd | intro _ | (split))

theorem State.sownPacket_good {κ : Kept} (s : State) (ws : List Word) (hg : Good κ s) (f_plots : κ.plots = none)
    (f_cmd : κ.cmd = none) (f_img : κ.img = none) :
    Good κ (State.sownPacket s ws) := by
  unfold State.sownPacket
  repeat' (first
    | with_reducible assumption | with_reducible refine good_ite ?_ ?_
    | with_reducible refine State.holdSown_good _ _ _ ?_ f_plots
    | with_reducible refine State.releaseCheck_good _ _ ?_ f_plots f_cmd f_img | intro _ | (split))

end Sys2Proof.Machine
end

