-- ==== Sys2Proof/Laws/GoodPlots.lean ====
section
/-! SUPPORT. What the operations of Machine/Plots.lean keep: one lemma each (Laws/GoodBase.lean). -/

namespace Sys2Proof.Machine
open Sys2Proof

-- One proof at a time: proofs checked side by side take a stack each.
set_option Elab.async false

theorem State.mapRegs_good {κ : Kept} (s : State) (p : Nat) (hg : Good κ s) :
    Good κ (State.mapRegs s p) := by
  unfold State.mapRegs
  repeat' (first | with_reducible assumption | with_reducible refine State.rnSet_good _ _ _ ?_)

theorem State.zeroStart_good {κ : Kept} (s : State) (kind : Nat) (is : List Nat) (hg : Good κ s) :
    Good κ (State.zeroStart s kind is) := by
  unfold State.zeroStart
  repeat' (first
    | with_reducible assumption | fail_if_no_progress with_reducible refine good_upd ?_
    | fail_if_no_progress with_reducible refine good_updTile ?_)

theorem State.ownerReg_good {κ : Kept} (s : State) (p kind i : Nat) (on : Bool) (hg : Good κ s) :
    Good κ (State.ownerReg s p kind i on) := by
  unfold State.ownerReg
  repeat' (first
    | with_reducible assumption | with_reducible refine good_ite ?_ ?_
    | with_reducible refine State.putBit_good _ _ _ _ ?_ | with_reducible refine State.put_good _ _ _ _ _ ?_
    | with_reducible refine State.setBit_good _ _ _ ?_ | with_reducible refine State.rnSet_good _ _ _ ?_ | intro _
    | (split))

theorem State.zeroPages_good {κ : Kept} (s : State) (pages : List Nat) (hg : Good κ s) (f_hbm : κ.hbm = none) :
    Good κ (State.zeroPages s pages) := by
  have hm : ∀ m : Cells Byte, cellsWf 0 m = true →
      cellsWf 0 (pages.foldl (fun m g => cclear m (g * mib2) mib2) m) = true := by
    induction pages with
    | nil => exact fun m h => h
    | cons g gs ih => exact fun m h => ih _ (Laws.cclear_wf h)
  exact ⟨hg.1, hg.2, memWf_of hg.wf.1 (hm _ hg.wf.2.1) hg.wf.2.2.1 hg.wf.2.2.2.1 hg.wf.2.2.2.2.1 hg.wf.2.2.2.2.2 hg.recs, hg.4, hg.5, hg.6, hg.7,
    fun _ e => by rw [f_hbm] at e; contradiction, hg.9, hg.10, hg.11, hg.12, hg.13, hg.14, hg.15, hg.16⟩

theorem State.zeroBank_good {κ : Kept} (s : State) (b : Nat) (hg : Good κ s) (f_spm : κ.spm = none) :
    Good κ (State.zeroBank s b) :=
  ⟨hg.1, hg.2, memWf_of hg.wf.1 hg.wf.2.1 (Laws.cclear_wf hg.wf.2.2.1) hg.wf.2.2.2.1 hg.wf.2.2.2.2.1 hg.wf.2.2.2.2.2 hg.recs, hg.4, hg.5, hg.6, hg.7,
    hg.8, fun _ e => by rw [f_spm] at e; contradiction, hg.10, hg.11, hg.12, hg.13, hg.14, hg.15, hg.16⟩

theorem State.zeroXt_good {κ : Kept} (s : State) (first n : Nat) (hg : Good κ s) :
    Good κ (State.zeroXt s first n) := by
  unfold State.zeroXt
  repeat' (first | with_reducible assumption | fail_if_no_progress with_reducible refine good_upd ?_)

theorem State.plotCreateOp_good {κ : Kept} (s : State) (c : Cmd) (hg : Good κ s) (f_plots : κ.plots = none) (f_cmd :
    κ.cmd = none) (f_tm : κ.tm = none) (f_res : κ.res = none) (f_img : κ.img = none) :
    Good κ (State.plotCreateOp s c) := by
  unfold State.plotCreateOp
  repeat' (first
    | with_reducible assumption | with_reducible refine good_ite ?_ ?_
    | with_reducible refine State.finish_good _ _ _ _ ?_ f_cmd
    | with_reducible refine State.plotSet_good _ _ _ ?_ ?_ ?_ ?_ f_plots
    | with_reducible refine State.rnSet_good _ _ _ ?_ | exact fun _ => rfl | exact Or.inr fun _ => rfl
    | exact Or.inr rfl | exact Or.inl (by with_reducible assumption))

theorem State.plotAssignOp_good {κ : Kept} (s : State) (c : Cmd) (hg : Good κ s) (f_plots : κ.plots = none) (f_cmd :
    κ.cmd = none) (f_res : κ.res = none) :
    Good κ (State.plotAssignOp s c) := by
  unfold State.plotAssignOp
  repeat' (first
    | with_reducible assumption | with_reducible refine good_ite ?_ ?_ | with_reducible refine State.count_good _ _ ?_
    | with_reducible refine State.finish_good _ _ _ _ ?_ f_cmd | with_reducible refine State.put_good _ _ _ _ _ ?_
    | with_reducible refine State.ownerReg_good _ _ _ _ _ ?_
    | with_reducible refine State.onRes_good _ _ _ ?_ f_plots f_res | with_reducible refine State.mapRegs_good _ _ ?_
    | with_reducible refine good_foldl ?_ ?_ | with_reducible refine good_foldl1 ?_ ?_
    | with_reducible refine good_foldl2 ?_ ?_ | intro _)

theorem State.revoke_good {κ : Kept} (s : State) (p kind : Nat) (is : List Nat) (hg : Good κ s) (f_hbm : κ.hbm =
    none) (f_spm : κ.spm = none) (f_plots : κ.plots = none) (f_res : κ.res = none) :
    Good κ (State.revoke s p kind is) := by
  unfold State.revoke
  repeat' (first
    | with_reducible assumption | with_reducible refine State.ownerReg_good _ _ _ _ _ ?_
    | with_reducible refine State.onRes_good _ _ _ ?_ f_plots f_res
    | with_reducible refine State.clearFurrow_good _ _ ?_ | with_reducible refine State.zeroStart_good _ _ _ ?_
    | with_reducible refine State.zeroPages_good _ _ ?_ f_hbm | with_reducible refine State.zeroBank_good _ _ ?_ f_spm
    | with_reducible refine State.onSig_good _ _ _ ?_ | with_reducible refine State.parkReset_good _ _ ?_
    | with_reducible refine State.mapRegs_good _ _ ?_ | with_reducible refine good_foldl ?_ ?_
    | with_reducible refine good_foldl1 ?_ ?_ | with_reducible refine good_foldl2 ?_ ?_ | intro _ | (split))

theorem State.plotRevokeOp_good {κ : Kept} (s : State) (c : Cmd) (hg : Good κ s) (f_hbm : κ.hbm = none) (f_spm :
    κ.spm = none) (f_plots : κ.plots = none) (f_cmd : κ.cmd = none) (f_res : κ.res = none) :
    Good κ (State.plotRevokeOp s c) := by
  unfold State.plotRevokeOp
  repeat' (first
    | with_reducible assumption | with_reducible refine good_ite ?_ ?_ | with_reducible refine State.count_good _ _ ?_
    | with_reducible refine State.finish_good _ _ _ _ ?_ f_cmd | with_reducible refine State.rnSet_good _ _ _ ?_
    | with_reducible refine State.zeroXt_good _ _ _ ?_ | with_reducible refine State.zeroStart_good _ _ _ ?_
    | with_reducible refine State.revoke_good _ _ _ _ ?_ f_hbm f_spm f_plots f_res)

theorem State.abortAll_good {κ : Kept} (s : State) (p id : Nat) (hg : Good κ s) (f_cmd : κ.cmd = none) :
    Good κ (State.abortAll s p id) := by
  unfold State.abortAll
  repeat' (first | with_reducible assumption | with_reducible refine State.finishAll_good _ _ _ _ _ ?_ f_cmd)

theorem State.resetPlot_good {κ : Kept} (s : State) (p : Nat) (hg : Good κ s) (f_hbm : κ.hbm = none) (f_plots :
    κ.plots = none) (f_cmd : κ.cmd = none) (f_tm : κ.tm = none) (f_res : κ.res = none) (f_img : κ.img = none) :
    Good κ (State.resetPlot s p) := by
  unfold State.resetPlot
  repeat' (first
    | with_reducible assumption | with_reducible refine State.hvtStop_good _ _ _ _ _ ?_
    | with_reducible refine State.dropImage_good _ _ ?_ f_hbm f_plots f_cmd f_tm f_res f_img
    | with_reducible refine State.gatePark_good _ _ ?_ | with_reducible refine State.parkReset_good _ _ ?_
    | with_reducible refine State.onSig_good _ _ _ ?_ | with_reducible refine State.clearFurrows_good _ _ ?_
    | with_reducible refine State.setTrunks_good _ _ _ ?_ f_plots f_res
    | with_reducible refine State.onPlot_good _ _ _ ?_ ?_ ?_ ?_ f_plots
    | with_reducible refine State.sowSet_good _ _ _ ?_ | with_reducible refine State.plotState_good _ _ _ _ _ ?_
    | with_reducible refine State.sownPin_good _ ?_ | fail_if_no_progress with_reducible refine good_upd ?_
    | with_reducible refine good_foldl ?_ ?_ | with_reducible refine good_foldl1 ?_ ?_
    | with_reducible refine good_foldl2 ?_ ?_ | exact fun _ => rfl | exact Or.inr fun _ => rfl | exact Or.inr rfl
    | exact Or.inl (by with_reducible assumption) | intro _)

theorem State.plotResetOp_good {κ : Kept} (s : State) (c : Cmd) (hg : Good κ s) (f_hbm : κ.hbm = none) (f_plots :
    κ.plots = none) (f_cmd : κ.cmd = none) (f_tm : κ.tm = none) (f_res : κ.res = none) (f_img : κ.img = none) :
    Good κ (State.plotResetOp s c) := by
  unfold State.plotResetOp
  repeat' (first
    | with_reducible assumption | with_reducible refine good_ite ?_ ?_
    | with_reducible refine State.abortAll_good _ _ _ ?_ f_cmd
    | with_reducible refine State.resetPlot_good _ _ ?_ f_hbm f_plots f_cmd f_tm f_res f_img
    | with_reducible refine State.finish_good _ _ _ _ ?_ f_cmd)

theorem State.streamEnds_good {κ : Kept} (s : State) (p : Nat) (hg : Good κ s) :
    Good κ (State.streamEnds s p) := by
  unfold State.streamEnds
  repeat' (first
    | with_reducible assumption | with_reducible refine good_ite ?_ ?_
    | fail_if_no_progress with_reducible refine good_upd ?_)

theorem State.destroyPlot_good {κ : Kept} (s : State) (p id : Nat) (hg : Good κ s) (f_hbm : κ.hbm = none) (f_spm :
    κ.spm = none) (f_plots : κ.plots = none) (f_cmd : κ.cmd = none) (f_tm : κ.tm = none) (f_res : κ.res = none)
    (f_img : κ.img = none) :
    Good κ (State.destroyPlot s p id) := by
  unfold State.destroyPlot
  repeat' (first
    | with_reducible assumption
    | with_reducible refine State.resetPlot_good _ _ ?_ f_hbm f_plots f_cmd f_tm f_res f_img
    | with_reducible refine State.plotState_good _ _ _ _ _ ?_ | with_reducible refine State.streamEnds_good _ _ ?_
    | with_reducible refine State.zeroBank_good _ _ ?_ f_spm | with_reducible refine State.zeroPages_good _ _ ?_ f_hbm
    | with_reducible refine State.zeroXt_good _ _ _ ?_ | with_reducible refine State.setBit_good _ _ _ ?_
    | with_reducible refine State.onPlot_good _ _ _ ?_ ?_ ?_ ?_ f_plots
    | fail_if_no_progress with_reducible refine good_upd ?_
    | fail_if_no_progress with_reducible refine good_updTile ?_ | with_reducible refine good_foldl ?_ ?_
    | with_reducible refine good_foldl1 ?_ ?_ | with_reducible refine good_foldl2 ?_ ?_ | exact fun _ => rfl
    | exact Or.inr fun _ => rfl | exact Or.inr rfl | exact Or.inl (by with_reducible assumption) | intro _)

theorem State.plotDestroyOp_good {κ : Kept} (s : State) (c : Cmd) (hg : Good κ s) (f_hbm : κ.hbm = none) (f_spm :
    κ.spm = none) (f_plots : κ.plots = none) (f_cmd : κ.cmd = none) (f_tm : κ.tm = none) (f_res : κ.res = none)
    (f_img : κ.img = none) :
    Good κ (State.plotDestroyOp s c) := by
  unfold State.plotDestroyOp
  repeat' (first
    | with_reducible assumption | with_reducible refine good_ite ?_ ?_
    | with_reducible refine State.finish_good _ _ _ _ ?_ f_cmd
    | with_reducible refine State.abortAll_good _ _ _ ?_ f_cmd
    | with_reducible refine State.blockCmd_good _ _ ?_ f_cmd
    | with_reducible refine State.destroyPlot_good _ _ _ ?_ f_hbm f_spm f_plots f_cmd f_tm f_res f_img)

theorem State.plotRegsReset_good {κ : Kept} (s : State) (p : Nat) (hg : Good κ s) :
    Good κ (State.plotRegsReset s p) := by
  unfold State.plotRegsReset
  repeat' (first
    | with_reducible assumption | with_reducible refine State.rgResetRange_good _ _ _ ?_
    | with_reducible refine State.rnSet_good _ _ _ ?_ | with_reducible refine State.put_good _ _ _ _ _ ?_
    | with_reducible refine State.intEmptied_good _ _ ?_)

theorem State.destroyDone_good {κ : Kept} (s : State) (p id : Nat) (hg : Good κ s) (f_plots : κ.plots = none) (f_cmd
    : κ.cmd = none) (f_tm : κ.tm = none) (f_res : κ.res = none) (f_img : κ.img = none) :
    Good κ (State.destroyDone s p id) := by
  unfold State.destroyDone
  repeat' (first
    | with_reducible assumption | with_reducible refine State.ownerReg_good _ _ _ _ _ ?_
    | with_reducible refine State.plotSet_good _ _ _ ?_ ?_ ?_ ?_ f_plots
    | with_reducible refine State.plotRegsReset_good _ _ ?_
    | with_reducible refine State.finishOpt_good _ _ _ _ ?_ f_cmd
    | fail_if_no_progress with_reducible refine good_upd ?_
    | fail_if_no_progress with_reducible refine good_updTile ?_ | with_reducible refine good_foldl ?_ ?_
    | with_reducible refine good_foldl1 ?_ ?_ | with_reducible refine good_foldl2 ?_ ?_ | exact Or.inr fun _ => rfl
    | exact Or.inl (by with_reducible assumption) | intro _)

theorem State.setEntry_good {κ : Kept} (s : State) (p i : Nat) (e : MapEntry) (hg : Good κ s) (f_plots : κ.plots =
    none) (f_res : κ.res = none) :
    Good κ (State.setEntry s p i e) := by
  unfold State.setEntry
  repeat' (first | with_reducible assumption | with_reducible refine State.onRes_good _ _ _ ?_ f_plots f_res)

theorem State.liftOne_good {κ : Kept} (s : State) (c : Cmd) (i : Nat) (hg : Good κ s) (f_host : κ.host = none)
    (f_hbm : κ.hbm = none) (f_plots : κ.plots = none) (f_res : κ.res = none) :
    Good κ (State.liftOne s c i) := by
  unfold State.liftOne
  repeat' (first
    | with_reducible assumption | with_reducible refine State.hostWrite_good _ _ _ _ ?_ f_host
    | with_reducible refine State.zeroPages_good _ _ ?_ f_hbm
    | with_reducible refine State.setEntry_good _ _ _ _ ?_ f_plots f_res
    | fail_if_no_progress with_reducible refine good_upd ?_ | intro _ | (split))

theorem State.liftEnd_good {κ : Kept} (s : State) (c : Cmd) (reach : Nat) (page : Option Nat) (hg : Good κ s)
    (f_host : κ.host = none) (f_hbm : κ.hbm = none) (f_plots : κ.plots = none) (f_cmd : κ.cmd = none) (f_res : κ.res
    = none) :
    Good κ (State.liftEnd s c reach page) := by
  unfold State.liftEnd
  repeat' (first
    | with_reducible assumption | with_reducible refine State.liftOne_good _ _ _ ?_ f_host f_hbm f_plots f_res
    | with_reducible refine State.mapRegs_good _ _ ?_ | with_reducible refine State.dmaEnd_good _ _ _ _ _ _ ?_ f_cmd
    | with_reducible refine good_foldl ?_ ?_ | with_reducible refine good_foldl1 ?_ ?_
    | with_reducible refine good_foldl2 ?_ ?_ | intro _)

theorem State.liftOp_good {κ : Kept} (s : State) (c : Cmd) (hg : Good κ s) (f_host : κ.host = none) (f_hbm : κ.hbm =
    none) (f_plots : κ.plots = none) (f_cmd : κ.cmd = none) (f_res : κ.res = none) :
    Good κ (State.liftOp s c) := by
  unfold State.liftOp
  repeat' (first
    | with_reducible assumption | with_reducible refine good_ite ?_ ?_
    | with_reducible refine State.finish_good _ _ _ _ ?_ f_cmd | with_reducible refine State.dma_good _ _ _ _ _ _ ?_
    | with_reducible refine State.liftEnd_good _ _ _ _ ?_ f_host f_hbm f_plots f_cmd f_res)

theorem State.dropIn_good {κ : Kept} (s : State) (c : Cmd) (i : Nat) (e : MapEntry) (g size : Nat) (hg : Good κ s)
    (f_hbm : κ.hbm = none) (f_plots : κ.plots = none) (f_res : κ.res = none) :
    Good κ (State.dropIn s c i e g size).2 := by
  unfold State.dropIn
  repeat' (first
    | with_reducible assumption | with_reducible refine State.translateRange_good _ _ _ _ ?_
    | with_reducible refine State.pageFault_good _ _ _ ?_ | with_reducible refine State.hbmStore_good _ _ _ ?_ f_hbm
    | with_reducible refine State.setEntry_good _ _ _ _ ?_ f_plots f_res
    | fail_if_no_progress with_reducible refine good_upd ?_ | intro _ | (split)
    | with_reducible refine good_pair2 (by with_reducible assumption) ?_)

theorem State.dropOne_good {κ : Kept} (s : State) (c : Cmd) (i : Nat) (hg : Good κ s) (f_hbm : κ.hbm = none)
    (f_plots : κ.plots = none) (f_res : κ.res = none) :
    Good κ (State.dropOne s c i).2 := by
  unfold State.dropOne
  repeat' (first
    | with_reducible assumption | with_reducible refine State.dropIn_good _ _ _ _ _ _ ?_ f_hbm f_plots f_res | intro _
    | (split))

theorem State.dropRun_good {κ : Kept} (s : State) (c : Cmd) (i j : Nat) (hg : Good κ s) (f_hbm : κ.hbm = none)
    (f_plots : κ.plots = none) (f_res : κ.res = none) : Good κ (State.dropRun s c i j).2.2.2 := by
  induction j generalizing s i with
  | zero => exact hg
  | succ k ih =>
    unfold State.dropRun
    split
    · rename_i he; exact good_pair2 he (State.dropOne_good _ _ _ hg f_hbm f_plots f_res)
    · rename_i he; exact ih _ _ (good_pair2 he (State.dropOne_good _ _ _ hg f_hbm f_plots f_res))

theorem State.dropOp_good {κ : Kept} (s : State) (c : Cmd) (hg : Good κ s) (f_hbm : κ.hbm = none) (f_plots : κ.plots
    = none) (f_cmd : κ.cmd = none) (f_res : κ.res = none) :
    Good κ (State.dropOp s c) := by
  unfold State.dropOp
  repeat' (first
    | with_reducible assumption | with_reducible refine good_ite ?_ ?_
    | with_reducible refine State.finish_good _ _ _ _ ?_ f_cmd
    | with_reducible refine State.dropRun_good _ _ _ _ ?_ f_hbm f_plots f_res
    | with_reducible refine State.mapRegs_good _ _ ?_
    | with_reducible refine State.finishAt_good _ _ _ _ _ _ ?_ f_cmd)

theorem State.bankWrite_good {κ : Kept} (s : State) (fn b v : Nat) (r : RegRow) (hg : Good κ s) :
    Good κ (State.bankWrite s fn b v r) := by
  unfold State.bankWrite
  repeat' (first
    | with_reducible assumption | with_reducible refine good_ite ?_ ?_
    | with_reducible refine State.rsvdCheck_good _ _ _ _ ?_ | with_reducible refine State.devStat_good _ _ _ ?_
    | with_reducible refine State.spmCond_good _ _ ?_ | with_reducible refine State.putBit_good _ _ _ _ ?_
    | with_reducible refine State.put_good _ _ _ _ _ ?_ | with_reducible refine State.setBit_good _ _ _ ?_
    | fail_if_no_progress with_reducible refine good_upd ?_
    | fail_if_no_progress with_reducible refine good_updTile ?_)

theorem State.spmRefuse_good {κ : Kept} (s : State) (len : Nat) (read : Bool) (hg : Good κ s) :
    Good κ (State.spmRefuse s len read) := by
  unfold State.spmRefuse
  repeat' (first
    | with_reducible assumption | with_reducible refine good_ite ?_ ?_
    | with_reducible refine State.spmCond_good _ _ ?_ | fail_if_no_progress with_reducible refine good_upd ?_)

theorem State.spmGet_good {κ : Kept} (s : State) (addr len : Nat) (hg : Good κ s) :
    Good κ (State.spmGet s addr len) := by
  unfold State.spmGet
  repeat' (first
    | with_reducible assumption | with_reducible refine good_ite ?_ ?_
    | with_reducible refine State.spmCheck_good _ _ ?_ | fail_if_no_progress with_reducible refine good_upd ?_)

theorem State.spmPut_good {κ : Kept} (s : State) (addr : Nat) (bs : List Byte) (hg : Good κ s) (f_spm : κ.spm =
    none) :
    Good κ (State.spmPut s addr bs) := by
  unfold State.spmPut
  repeat' (first
    | with_reducible assumption | with_reducible refine good_ite ?_ ?_
    | with_reducible refine State.spmInject_good _ _ ?_ | with_reducible refine State.eccSet_good _ _ _ _ ?_
    | with_reducible refine State.spmCheck_good _ _ ?_ | with_reducible refine State.spmWrite_good _ _ _ ?_ f_spm
    | fail_if_no_progress with_reducible refine good_upd ?_)

theorem State.spmPacket_good {κ : Kept} (s : State) (addr cmd : Nat) (data : List Byte) (hg : Good κ s) :
    Good κ (State.spmPacket s addr cmd data).2 := by
  unfold State.spmPacket
  repeat' (first | with_reducible assumption | with_reducible refine State.packet_good _ _ _ _ ?_)

theorem State.spmReply_good {κ : Kept} (s : State) (addr : Nat) (hg : Good κ s) :
    Good κ (State.spmReply s addr) := by
  unfold State.spmReply
  repeat' (first | with_reducible assumption | with_reducible refine State.respond_good _ _ _ _ ?_)

theorem State.spmAccess_good {κ : Kept} (s : State) (fn offset len : Nat) (data : Option (List Byte)) (hg : Good κ
    s) (f_spm : κ.spm = none) :
    Good κ (State.spmAccess s fn offset len data) := by
  unfold State.spmAccess
  repeat' (first
    | with_reducible assumption | with_reducible refine good_ite ?_ ?_
    | with_reducible refine State.devStat_good _ _ _ ?_ | with_reducible refine State.spmRefuse_good _ _ _ ?_
    | with_reducible refine State.spmPacket_good _ _ _ _ ?_ | with_reducible refine State.outData_good _ _ ?_
    | with_reducible refine State.spmPut_good _ _ _ ?_ f_spm | with_reducible refine State.spmGet_good _ _ _ ?_
    | with_reducible refine State.spmReply_good _ _ ?_ | intro _ | (split))

theorem State.aliasWrite_good {κ : Kept} (s : State) (fn base addr cmd v : Nat) (f : Nat → Nat) (hg : Good κ s)
    (f_spm : κ.spm = none) :
    Good κ (State.aliasWrite s fn base addr cmd v f) := by
  unfold State.aliasWrite
  repeat' (first
    | with_reducible assumption | with_reducible refine good_ite ?_ ?_
    | with_reducible refine State.devStat_good _ _ _ ?_ | with_reducible refine State.spmRefuse_good _ _ _ ?_
    | with_reducible refine State.spmPacket_good _ _ _ _ ?_ | with_reducible refine State.outData_good _ _ ?_
    | with_reducible refine State.spmPut_good _ _ _ ?_ f_spm | with_reducible refine State.spmReply_good _ _ ?_)

theorem State.fallowNow_good {κ : Kept} (s : State) (p level : Nat) (hg : Good κ s) (f_hbm : κ.hbm = none) (f_plots
    : κ.plots = none) (f_cmd : κ.cmd = none) (f_tm : κ.tm = none) (f_res : κ.res = none) :
    Good κ (State.fallowNow s p level) := by
  unfold State.fallowNow
  repeat' (first
    | with_reducible assumption | with_reducible refine good_ite ?_ ?_
    | with_reducible refine State.rnSet_good _ _ _ ?_ | with_reducible refine State.ownerReg_good _ _ _ _ _ ?_
    | with_reducible refine State.fallowRec_good _ _ _ _ _ ?_ f_cmd
    | with_reducible refine State.put_good _ _ _ _ _ ?_
    | with_reducible refine State.onRes_good _ _ _ ?_ f_plots f_res
    | with_reducible refine State.fallowEnter_good _ _ _ ?_ f_hbm f_plots f_cmd f_tm f_res
    | with_reducible refine State.onId_good _ _ _ ?_ f_plots | fail_if_no_progress with_reducible refine good_upd ?_
    | with_reducible refine good_foldl ?_ ?_ | with_reducible refine good_foldl1 ?_ ?_
    | with_reducible refine good_foldl2 ?_ ?_ | intro _)

theorem State.fallowOp_good {κ : Kept} (s : State) (level : Nat) (c : Cmd) (hg : Good κ s) (f_hbm : κ.hbm = none)
    (f_plots : κ.plots = none) (f_cmd : κ.cmd = none) (f_tm : κ.tm = none) (f_res : κ.res = none) :
    Good κ (State.fallowOp s level c) := by
  unfold State.fallowOp
  repeat' (first
    | with_reducible assumption | with_reducible refine good_ite ?_ ?_
    | with_reducible refine State.flood_good _ _ _ _ ?_ | with_reducible refine State.finish_good _ _ _ _ ?_ f_cmd
    | with_reducible refine State.floodHalt_good _ _ _ _ ?_ | with_reducible refine State.blockCmd_good _ _ ?_ f_cmd
    | with_reducible refine State.askStop_good _ _ _ _ _ ?_ f_plots
    | with_reducible refine State.fallowNow_good _ _ _ ?_ f_hbm f_plots f_cmd f_tm f_res
    | with_reducible refine State.finishAt_good _ _ _ _ _ _ ?_ f_cmd | intro _ | (split))

theorem State.fallowRow_good {κ : Kept} (s : State) (level : Nat) (c : Cmd) (hg : Good κ s) (f_hbm : κ.hbm = none)
    (f_plots : κ.plots = none) (f_cmd : κ.cmd = none) (f_tm : κ.tm = none) (f_res : κ.res = none) :
    Good κ (State.fallowRow s level c) := by
  unfold State.fallowRow
  repeat' (first
    | with_reducible assumption | with_reducible refine good_ite ?_ ?_
    | with_reducible refine State.fallowOp_good _ _ _ ?_ f_hbm f_plots f_cmd f_tm f_res)

theorem State.resow_good {κ : Kept} (s0 : State) (p : Nat) (hg : Good κ s0) (f_plots : κ.plots = none) (f_cmd :
    κ.cmd = none) (f_img : κ.img = none) :
    Good κ (State.resow s0 p) := by
  unfold State.resow
  repeat' (first
    | with_reducible assumption | with_reducible refine State.shadowRead_good _ _ ?_ f_plots f_cmd f_img
    | with_reducible refine State.clearFurrows_good _ _ ?_ | with_reducible refine State.applySettings_good _ _ ?_
    | with_reducible refine State.writeTarget_good _ _ ?_ | with_reducible refine State.carryMap_good _ _ ?_
    | with_reducible refine State.selectsOwn_good _ _ _ ?_ | with_reducible refine good_foldl ?_ ?_
    | with_reducible refine good_foldl1 ?_ ?_ | with_reducible refine good_foldl2 ?_ ?_ | intro _)

theorem State.restoreSave_good {κ : Kept} (s : State) (p : Nat) (v : SaveCopy) (hg : Good κ s) (f_plots : κ.plots =
    none) (f_cmd : κ.cmd = none) (f_res : κ.res = none) (f_img : κ.img = none) :
    Good κ (State.restoreSave s p v) := by
  unfold State.restoreSave
  repeat' (first
    | with_reducible assumption | with_reducible refine good_ite ?_ ?_
    | with_reducible refine State.resow_good _ _ ?_ f_plots f_cmd f_img
    | with_reducible refine State.setTrunks_good _ _ _ ?_ f_plots f_res
    | with_reducible refine State.loadState_good _ _ _ _ ?_ f_plots f_cmd
    | with_reducible refine State.loadRam_good _ _ _ ?_ | with_reducible refine State.loadCarried_good _ _ _ ?_
    | with_reducible refine State.reloadData_good _ _ _ ?_ f_plots f_cmd
    | with_reducible refine State.reapplyMem_good _ _ _ ?_ f_plots f_cmd
    | with_reducible refine State.restage_good _ _ _ ?_ | with_reducible refine State.resyncAlive_good _ _ ?_
    | with_reducible refine State.sigRestartAll_good _ _ ?_
    | with_reducible refine State.onPlot_good _ _ _ ?_ ?_ ?_ ?_ f_plots
    | with_reducible refine State.latchAll_good _ _ _ _ ?_ f_plots
    | with_reducible refine State.sampleGates_good _ _ _ ?_ f_plots
    | with_reducible refine State.exposure_good _ _ _ ?_ f_plots
    | fail_if_no_progress with_reducible refine good_upd ?_ | exact fun _ => rfl | exact Or.inr fun _ => rfl
    | exact Or.inr rfl | exact Or.inl (by with_reducible assumption))

theorem State.leaveFallow_good {κ : Kept} (s : State) (p : Nat) (c : Cmd) (hg : Good κ s) (f_cmd : κ.cmd = none) :
    Good κ (State.leaveFallow s p c) := by
  unfold State.leaveFallow
  repeat' (first
    | with_reducible assumption | with_reducible refine State.rnSet_good _ _ _ ?_
    | with_reducible refine State.fallowRec_good _ _ _ _ _ ?_ f_cmd
    | with_reducible refine State.finalRefresh_good _ _ ?_)

theorem State.wakeStart_good {κ : Kept} (s : State) (c : Cmd) (hg : Good κ s) (f_plots : κ.plots = none) (f_cmd :
    κ.cmd = none) (f_tm : κ.tm = none) :
    Good κ (State.wakeStart s c) := by
  unfold State.wakeStart
  repeat' (first
    | with_reducible assumption | with_reducible refine good_ite ?_ ?_
    | with_reducible refine State.finish_good _ _ _ _ ?_ f_cmd
    | with_reducible refine State.startPlot_good _ _ _ ?_ f_plots f_cmd f_tm
    | with_reducible refine State.blockCmd_good _ _ ?_ f_cmd)

theorem State.wakeOp_good {κ : Kept} (s : State) (c : Cmd) (hg : Good κ s) (f_plots : κ.plots = none) (f_cmd : κ.cmd
    = none) (f_tm : κ.tm = none) (f_res : κ.res = none) (f_img : κ.img = none) :
    Good κ (State.wakeOp s c) := by
  unfold State.wakeOp
  repeat' (first
    | with_reducible assumption | with_reducible refine good_ite ?_ ?_
    | with_reducible refine State.finish_good _ _ _ _ ?_ f_cmd
    | with_reducible refine State.leaveFallow_good _ _ _ ?_ f_cmd
    | with_reducible refine State.wakeStart_good _ _ ?_ f_plots f_cmd f_tm
    | with_reducible refine State.restoreSave_good _ _ _ ?_ f_plots f_cmd f_res f_img | intro _ | (split))

theorem State.nocCfgWrite_good {κ : Kept} (s : State) (fn v : Nat) (r : RegRow) (hg : Good κ s) :
    Good κ (State.nocCfgWrite s fn v r) := by
  unfold State.nocCfgWrite
  repeat' (first
    | with_reducible assumption | with_reducible refine good_ite ?_ ?_
    | with_reducible refine State.rsvdCheck_good _ _ _ _ ?_ | with_reducible refine State.raiseNoc_good _ _ _ _ _ ?_
    | with_reducible refine State.putBit_good _ _ _ _ ?_)

end Sys2Proof.Machine
end

