-- ==== Sys2Proof/Laws/GoodQueues.lean ====
section
/-! SUPPORT. What the operations of Machine/Queues.lean keep: one lemma each (Laws/GoodBase.lean). -/

namespace Sys2Proof.Machine
open Sys2Proof

-- One proof at a time: proofs checked side by side take a stack each.
set_option Elab.async false

theorem State.queueStart_good {κ : Kept} (s : State) (q : Nat) (hg : Good κ s) (f_cmd : κ.cmd = none) :
    Good κ (State.queueStart s q) := by
  unfold State.queueStart
  repeat' (first
    | with_reducible assumption | with_reducible refine State.setBit_good _ _ _ ?_
    | with_reducible refine State.put_good _ _ _ _ _ ?_ | with_reducible refine State.clrBit_good _ _ _ ?_
    | fail_if_no_progress with_reducible refine good_upd ?_
    | fail_if_no_progress with_reducible refine good_updCmd ?_ f_cmd)

theorem State.signal_good {κ : Kept} (s : State) (fn q : Nat) (hg : Good κ s) (f_cmd : κ.cmd = none) :
    Good κ (State.signal s fn q) := by
  unfold State.signal
  repeat' (first
    | with_reducible assumption | with_reducible refine State.msix_good _ _ _ ?_
    | fail_if_no_progress with_reducible refine good_upd ?_
    | fail_if_no_progress with_reducible refine good_updCmd ?_ f_cmd)

theorem State.signalDue_good {κ : Kept} (s : State) (q : Nat) (hg : Good κ s) (f_cmd : κ.cmd = none) :
    Good κ (State.signalDue s q) := by
  unfold State.signalDue
  repeat' (first
    | with_reducible assumption | with_reducible refine good_ite ?_ ?_
    | with_reducible refine State.signal_good _ _ _ ?_ f_cmd | intro _ | (split))

theorem State.queueCtrlWrite_good {κ : Kept} (s : State) (fn q v : Nat) (r : RegRow) (hg : Good κ s) (f_cmd : κ.cmd
    = none) :
    Good κ (State.queueCtrlWrite s fn q v r) := by
  unfold State.queueCtrlWrite
  repeat' (first
    | with_reducible assumption | with_reducible refine good_ite ?_ ?_
    | with_reducible refine State.rsvdCheck_good _ _ _ _ ?_ | with_reducible refine State.putBit_good _ _ _ _ ?_
    | with_reducible refine State.put_good _ _ _ _ _ ?_ | with_reducible refine State.signalDue_good _ _ ?_ f_cmd
    | with_reducible refine State.setBit_good _ _ _ ?_ | with_reducible refine State.queueStart_good _ _ ?_ f_cmd
    | with_reducible refine State.clrBit_good _ _ _ ?_)

theorem State.queueWrite_good {κ : Kept} (s : State) (fn a v : Nat) (r : RegRow) (is : List Nat) (hg : Good κ s)
    (f_cmd : κ.cmd = none) :
    Good κ (State.queueWrite s fn a v r is) := by
  unfold State.queueWrite
  repeat' (first
    | with_reducible assumption | with_reducible refine good_ite ?_ ?_
    | with_reducible refine State.queueCtrlWrite_good _ _ _ _ _ ?_ f_cmd
    | with_reducible refine State.rsvdCheck_good _ _ _ _ ?_
    | with_reducible refine State.plainWrite_good _ _ _ _ _ _ ?_
    | with_reducible refine State.signalDue_good _ _ ?_ f_cmd)

theorem State.rangeWrite_good {κ : Kept} (s : State) (fn a v : Nat) (r : RegRow) (is : List Nat) (hg : Good κ s) :
    Good κ (State.rangeWrite s fn a v r is) := by
  unfold State.rangeWrite
  repeat' (first
    | with_reducible assumption | with_reducible refine good_ite ?_ ?_
    | with_reducible refine State.rsvdCheck_good _ _ _ _ ?_ | with_reducible refine State.pf0Field_good _ _ _ _ _ _ ?_
    | with_reducible refine State.raiseAt_good _ _ _ _ _ _ _ ?_ | with_reducible refine State.put_good _ _ _ _ _ ?_)

theorem State.pageAgain_good {κ : Kept} (s : State) (q : Nat) (hg : Good κ s) :
    Good κ (State.pageAgain s q) := by
  unfold State.pageAgain
  repeat' (first
    | with_reducible assumption | with_reducible refine good_ite ?_ ?_
    | with_reducible refine State.pageFault_good _ _ _ ?_ | intro _ | (split))

theorem State.doorbell_good {κ : Kept} (s : State) (fn q last v : Nat) (f : CmdSt → CmdSt) (hg : Good κ s)
    (hf : ∀ c, (f c).store = c.store) (f_cmd : κ.cmd = none) : Good κ (State.doorbell s fn q last v f) := by
  unfold State.doorbell
  have h1 := State.pageAgain_good s q hg
  refine good_ite hg (good_ite (State.raiseAt_good _ _ _ _ _ _ _ hg) (good_ite (State.setBit_good _ _ _ h1) ?_))
  have h2 := Good.keepIds (m := (f (s.pageAgain q).cmd).store) h1 f_cmd fun e he => ⟨e, by rw [hf]; exact he, rfl⟩
  exact ⟨h2.1, h2.2, h2.3, h2.4, h2.5, h2.6, h2.7, h2.8, h2.9, h2.10, h2.11, fun _ e => by rw [f_cmd] at e; contradiction, h2.13, h2.14, h2.15, h2.16⟩

theorem State.tagSet_good {κ : Kept} (s : State) (space tag v : Nat) (hg : Good κ s) (f_cmd : κ.cmd = none) :
    Good κ (State.tagSet s space tag v) := by
  unfold State.tagSet
  repeat' (first
    | with_reducible assumption | fail_if_no_progress with_reducible refine good_upd ?_
    | fail_if_no_progress with_reducible refine good_updCmd ?_ f_cmd)

theorem State.storeRegs_good {κ : Kept} (s : State) (o : Origin) (hg : Good κ s) :
    Good κ (State.storeRegs s o) := by
  unfold State.storeRegs
  repeat' (first | with_reducible assumption | with_reducible refine State.put_good _ _ _ _ _ ?_ | intro _ | (split))

theorem State.readyId_good {κ : Kept} (s : State) (id : Nat) (hg : Good κ s) (f_cmd : κ.cmd = none) :
    Good κ (State.readyId s id) := by
  unfold State.readyId
  repeat' (first | with_reducible assumption | with_reducible refine State.makeReady_good _ _ ?_ f_cmd)

theorem State.release_good {κ : Kept} (s : State) (c : Cmd) (hg : Good κ s) (f_cmd : κ.cmd = none) :
    Good κ (State.release s c) := by
  unfold State.release
  repeat' (first
    | with_reducible assumption | with_reducible refine good_ite ?_ ?_
    | with_reducible refine State.readyId_good _ _ ?_ f_cmd | with_reducible refine State.onCmd_good _ _ _ ?_ ?_ f_cmd
    | fail_if_no_progress with_reducible refine good_upd ?_ | exact fun _ => rfl | exact Or.inr fun _ => rfl
    | exact Or.inr rfl | exact Or.inl (by with_reducible assumption) | intro _ | (split))

theorem State.keepMet_good {κ : Kept} (s : State) (id : Nat) (a b : Option Bool) (hg : Good κ s) (f_cmd : κ.cmd =
    none) :
    Good κ (State.keepMet s id a b) := by
  unfold State.keepMet
  repeat' (first
    | with_reducible assumption | with_reducible refine State.onCmd_good _ _ _ ?_ ?_ f_cmd
    | fail_if_no_progress with_reducible refine good_upd ?_ | exact fun _ => rfl)

theorem State.advance_good {κ : Kept} (s : State) (id : Nat) (hg : Good κ s) (f_cmd : κ.cmd = none) :
    Good κ (State.advance s id) := by
  unfold State.advance
  repeat' (first
    | with_reducible assumption | with_reducible refine good_ite ?_ ?_
    | with_reducible refine State.finish_good _ _ _ _ ?_ f_cmd | with_reducible refine State.release_good _ _ ?_ f_cmd
    | with_reducible refine State.keepMet_good _ _ _ _ ?_ f_cmd | intro _ | (split))

theorem State.advanceAll_good {κ : Kept} (s : State) (hg : Good κ s) (f_cmd : κ.cmd = none) :
    Good κ (State.advanceAll s) := by
  unfold State.advanceAll
  repeat' (first
    | with_reducible assumption | with_reducible refine State.advance_good _ _ ?_ f_cmd
    | with_reducible refine good_foldl ?_ ?_ | with_reducible refine good_foldl1 ?_ ?_
    | with_reducible refine good_foldl2 ?_ ?_ | intro _)

theorem State.storeCmd_good {κ : Kept} (s : State) (c : Cmd) (hg : Good κ s) (f_cmd : κ.cmd = none) :
    Good κ (State.storeCmd s c) :=
  State.storeRegs_good _ _ (good_updCmd (hg.keepIds (m := s.cmd.store ++ [c]) f_cmd fun e he =>
    ⟨e, List.mem_append_left _ he, rfl⟩) f_cmd)

theorem State.enter_good {κ : Kept} (s : State) (c : Cmd) (bad : Option (Nat × Bool)) (hg : Good κ s) (f_cmd : κ.cmd
    = none) :
    Good κ (State.enter s c bad) := by
  unfold State.enter
  repeat' (first
    | with_reducible assumption | with_reducible refine good_ite ?_ ?_
    | with_reducible refine State.tagSet_good _ _ _ _ ?_ f_cmd
    | with_reducible refine State.storeCmd_good _ _ ?_ f_cmd | with_reducible refine State.nextDone_good _ ?_ f_cmd
    | fail_if_no_progress with_reducible refine good_upd ?_ | intro _ | (split))

theorem State.forwardCmd_good {κ : Kept} (s : State) (c : Cmd) (q : Nat) (hg : Good κ s) :
    Good κ (State.forwardCmd s c q) := by
  unfold State.forwardCmd
  repeat' (first
    | with_reducible assumption | with_reducible refine State.nextSeq_good _ ?_
    | with_reducible refine State.flood_good _ _ _ _ ?_ | with_reducible refine State.ctrlQueue_good _ _ _ _ ?_
    | with_reducible refine State.count_good _ _ ?_)

theorem State.roundTurn_good {κ : Kept} (s : State) (q : Nat) (hg : Good κ s) (f_cmd : κ.cmd = none) (s1 : State)
    (he : State.roundTurn s q = some s1) : Good κ s1 := by
  unfold State.roundTurn at he
  dsimp only at he
  repeat' (first | contradiction | split at he)
  all_goals (injection he with he; subst he)
  all_goals (first | exact hg | exact good_upd hg | exact good_updCmd hg f_cmd)

theorem State.aliveCheck_good {κ : Kept} (s : State) (q a : Nat) (hg : Good κ s) :
    Good κ (State.aliveCheck s q a).2 := by
  unfold State.aliveCheck
  repeat' (first
    | with_reducible assumption | with_reducible refine good_ite ?_ ?_
    | with_reducible refine good_ite2 ?_ ?_ | with_reducible refine State.put_good _ _ _ _ _ ?_)

theorem State.takeEntry_good {κ : Kept} (s : State) (fn q slot : Nat) (ws : List Word) (hg : Good κ s) (f_cmd :
    κ.cmd = none) :
    Good κ (State.takeEntry s fn q slot ws) := by
  unfold State.takeEntry
  repeat' (first
    | with_reducible assumption | with_reducible refine good_ite ?_ ?_
    | with_reducible refine State.slot_good _ _ _ ?_ | with_reducible refine State.count_good _ _ ?_
    | with_reducible refine State.enter_good _ _ _ ?_ f_cmd | with_reducible refine State.aliveCheck_good _ _ _ ?_
    | with_reducible refine State.forwardCmd_good _ _ _ ?_ | fail_if_no_progress with_reducible refine good_upd ?_
    | intro _ | (split) | with_reducible refine good_pair2 (by with_reducible assumption) ?_)

theorem State.fetchEntry_good {κ : Kept} (s : State) (q : Nat) (hg : Good κ s) (f_cmd : κ.cmd = none) :
    Good κ (State.fetchEntry s q) := by
  unfold State.fetchEntry
  split
  · exact hg
  · refine good_ite hg (good_ite (State.raiseAt_good _ _ _ _ _ _ _ hg) ?_)
    split
    · exact hg
    · rename_i h1
      have hs := State.roundTurn_good _ _ hg f_cmd _ h1
      dsimp only
      split
      · rename_i h2; exact State.queueFault_good _ _ _ _ (good_pair2 h2 (State.translate_good _ _ _ _ hs))
      · rename_i h2
        exact State.advanceAll_good _ (State.takeEntry_good _ _ _ _ _ (State.put_good _ _ _ _ _ (State.count_good _ _
          (good_pair2 h2 (State.translate_good _ _ _ _ hs)))) f_cmd) f_cmd

theorem State.cmdInject_good {κ : Kept} (s : State) (q : Nat) (hg : Good κ s) :
    Good κ (State.cmdInject s q) := by
  unfold State.cmdInject
  repeat' (first
    | with_reducible assumption | with_reducible refine State.injectAt_good _ _ _ _ _ ?_ ?_ ?_
    | with_reducible refine State.raiseAt_good _ _ _ _ _ _ _ ?_ | exact fun _ => rfl | exact Or.inr fun _ => rfl
    | exact Or.inr rfl | exact Or.inl (by with_reducible assumption) | intro _)

theorem State.privateEnd_good {κ : Kept} (s : State) (c : Cmd) (hg : Good κ s) (f_cmd : κ.cmd = none) :
    Good κ (State.privateEnd s c) :=
  State.finish_good _ _ _ _ (State.takeFree_good _ _ (State.takeFree_good _ _ hg)) f_cmd

theorem State.takeUp_good {κ : Kept} (s : State) (c : Cmd) (hg : Good κ s) (f_cmd : κ.cmd = none) :
    Good κ (State.takeUp s c) := by
  unfold State.takeUp
  repeat' (first
    | with_reducible assumption | with_reducible refine good_ite ?_ ?_
    | with_reducible refine State.privateEnd_good _ _ ?_ f_cmd
    | with_reducible refine State.finish_good _ _ _ _ ?_ f_cmd
    | with_reducible refine State.onCmd_good _ _ _ ?_ ?_ f_cmd
    | fail_if_no_progress with_reducible refine good_upd ?_ | exact fun _ => rfl)

theorem State.coalesced_good {κ : Kept} (s : State) (q : Nat) (hg : Good κ s) (f_cmd : κ.cmd = none) :
    Good κ (State.coalesced s q) := by
  unfold State.coalesced
  repeat' (first
    | with_reducible assumption | with_reducible refine good_ite ?_ ?_
    | with_reducible refine State.signalDue_good _ _ ?_ f_cmd | fail_if_no_progress with_reducible refine good_upd ?_
    | fail_if_no_progress with_reducible refine good_updCmd ?_ f_cmd)

theorem State.cqWrite_good {κ : Kept} (s : State) (c : Cmd) (q slot : Nat) (hg : Good κ s) (f_host : κ.host = none)
    (f_cmd : κ.cmd = none) :
    Good κ (State.cqWrite s c q slot).2 := by
  unfold State.cqWrite
  repeat' (first
    | with_reducible assumption | with_reducible refine good_ite2 ?_ ?_
    | with_reducible refine State.setBit_good _ _ _ ?_ | with_reducible refine State.translate_good _ _ _ _ ?_
    | with_reducible refine State.queueFault_good _ _ _ _ ?_ | with_reducible refine State.slot_good _ _ _ ?_
    | with_reducible refine State.hostWrite_good _ _ _ _ ?_ f_host | with_reducible refine State.put_good _ _ _ _ _ ?_
    | with_reducible refine State.putBit_good _ _ _ _ ?_ | with_reducible refine State.coalesced_good _ _ ?_ f_cmd
    | intro _ | (split) | with_reducible refine good_pair2 (by with_reducible assumption) ?_)

theorem State.sendCompletion_good {κ : Kept} (s : State) (c : Cmd) (hg : Good κ s) (f_host : κ.host = none) (f_cmd :
    κ.cmd = none) :
    Good κ (State.sendCompletion s c).2 := by
  unfold State.sendCompletion
  repeat' (first
    | with_reducible assumption | with_reducible refine State.slot_good _ _ _ ?_
    | with_reducible refine State.cqWrite_good _ _ _ _ ?_ f_host f_cmd
    | with_reducible refine State.flood_good _ _ _ _ ?_ | intro _ | (split))

theorem State.takeForwarded_good {κ : Kept} (s : State) (ws : List Word) (hg : Good κ s) (f_cmd : κ.cmd = none) :
    Good κ (State.takeForwarded s ws) := by
  unfold State.takeForwarded
  repeat' (first
    | with_reducible assumption | with_reducible refine good_ite ?_ ?_
    | with_reducible refine State.enter_good _ _ _ ?_ f_cmd | with_reducible refine State.advanceAll_good _ ?_ f_cmd
    | intro _ | (split))

theorem State.takeWaiting_good {κ : Kept} (s : State) (hg : Good κ s) (f_cmd : κ.cmd = none) :
    Good κ (State.takeWaiting s) := by
  unfold State.takeWaiting
  repeat' (first
    | with_reducible assumption | with_reducible refine good_ite ?_ ?_
    | with_reducible refine State.takeForwarded_good _ _ ?_ f_cmd
    | fail_if_no_progress with_reducible refine good_upd ?_
    | fail_if_no_progress with_reducible refine good_updCmd ?_ f_cmd | intro _ | (split))

theorem State.retire_good {κ : Kept} (s : State) (c : Cmd) (hg : Good κ s) (f_cmd : κ.cmd = none) (f_id : κ.id = none) :
    Good κ (State.retire s c) := by
  unfold State.retire
  dsimp only
  have h1 : Good κ (if c.noTag = true then s else s.tagSet c.space c.tag (if c.status = 0 then 2 else 3)) :=
    good_ite hg (State.tagSet_good _ _ _ _ hg f_cmd)
  exact State.takeWaiting_good _ (State.fwRestart_good _ (State.advanceAll_good _ (State.storeRegs_good _ _
    (Good.setStore (State.record_good _ _ _ _ _ _ h1) f_cmd f_id)) f_cmd) f_cmd) f_cmd

theorem State.complete_good {κ : Kept} (s : State) (c : Cmd) (hg : Good κ s) (f_host : κ.host = none) (f_cmd : κ.cmd
    = none) (f_id : κ.id = none) :
    Good κ (State.complete s c) := by
  unfold State.complete
  repeat' (first
    | with_reducible assumption | with_reducible refine good_ite ?_ ?_
    | with_reducible refine State.sendCompletion_good _ _ ?_ f_host f_cmd
    | with_reducible refine State.retire_good _ _ ?_ f_cmd f_id
    | with_reducible refine State.onCmd_good _ _ _ ?_ ?_ f_cmd | fail_if_no_progress with_reducible refine good_upd ?_
    | exact fun _ => rfl | exact Or.inr fun _ => rfl | exact Or.inr rfl | exact Or.inl (by with_reducible assumption)
    | intro _ | (split) | with_reducible refine good_pair2 (by with_reducible assumption) ?_)

theorem State.unmaskVec_good {κ : Kept} (s : State) (fn vec : Nat) (hg : Good κ s) :
    Good κ (State.unmaskVec s fn vec) := by
  unfold State.unmaskVec
  repeat' (first
    | with_reducible assumption | with_reducible refine good_ite ?_ ?_
    | with_reducible refine State.msix_good _ _ _ ?_ | fail_if_no_progress with_reducible refine good_upd ?_
    | fail_if_no_progress with_reducible refine good_updHost ?_)

theorem State.forwardedCommand_good {κ : Kept} (s : State) (ws : List Word) (hg : Good κ s) (f_cmd : κ.cmd = none) :
    Good κ (State.forwardedCommand s ws) := by
  unfold State.forwardedCommand
  repeat' (first
    | with_reducible assumption | with_reducible refine good_ite ?_ ?_
    | with_reducible refine State.raiseAt_good _ _ _ _ _ _ _ ?_
    | with_reducible refine State.takeForwarded_good _ _ ?_ f_cmd
    | fail_if_no_progress with_reducible refine good_upd ?_
    | fail_if_no_progress with_reducible refine good_updCmd ?_ f_cmd | intro _ | (split))

theorem State.forwardedCompletion_good {κ : Kept} (s : State) (ws : List Word) (hg : Good κ s) (f_cmd : κ.cmd =
    none) :
    Good κ (State.forwardedCompletion s ws) := by
  unfold State.forwardedCompletion
  repeat' (first
    | with_reducible assumption | with_reducible refine good_ite ?_ ?_
    | with_reducible refine State.onCmd_good _ _ _ ?_ ?_ f_cmd
    | with_reducible refine State.finish_good _ _ _ _ ?_ f_cmd | fail_if_no_progress with_reducible refine good_upd ?_
    | exact fun _ => rfl | exact Or.inr fun _ => rfl | exact Or.inr rfl | exact Or.inl (by with_reducible assumption)
    | intro _ | (split) | with_reducible refine good_pair2 (by with_reducible assumption) ?_
    | with_reducible refine good_pair1 (by with_reducible assumption) ?_
    | with_reducible refine good_pair22 (by with_reducible assumption) ?_
    | with_reducible refine good_pair222 (by with_reducible assumption) ?_
    | with_reducible refine good_pair2222 (by with_reducible assumption) ?_ | (dsimp only))

theorem State.queryOp_good {κ : Kept} (s : State) (c : Cmd) (hg : Good κ s) (f_cmd : κ.cmd = none) :
    Good κ (State.queryOp s c) := by
  unfold State.queryOp
  repeat' (first
    | with_reducible assumption | with_reducible refine good_ite ?_ ?_
    | with_reducible refine State.finish_good _ _ _ _ ?_ f_cmd | intro _ | (split))

theorem State.negotiateOp_good {κ : Kept} (s : State) (c : Cmd) (hg : Good κ s) (f_cmd : κ.cmd = none) :
    Good κ (State.negotiateOp s c) := by
  unfold State.negotiateOp
  repeat' (first
    | with_reducible assumption | with_reducible refine good_ite ?_ ?_
    | with_reducible refine State.finish_good _ _ _ _ ?_ f_cmd | with_reducible refine State.put_good _ _ _ _ _ ?_
    | with_reducible refine State.setBit_good _ _ _ ?_)

theorem State.progressOp_good {κ : Kept} (s : State) (c : Cmd) (hg : Good κ s) (f_cmd : κ.cmd = none) :
    Good κ (State.progressOp s c) := by
  unfold State.progressOp
  repeat' (first
    | with_reducible assumption | with_reducible refine State.finish_good _ _ _ _ ?_ f_cmd
    | with_reducible refine State.finishAt_good _ _ _ _ _ _ ?_ f_cmd | intro _ | (split)
    | with_reducible refine good_pair2 (by with_reducible assumption) ?_
    | with_reducible refine good_pair1 (by with_reducible assumption) ?_
    | with_reducible refine good_pair22 (by with_reducible assumption) ?_
    | with_reducible refine good_pair222 (by with_reducible assumption) ?_
    | with_reducible refine good_pair2222 (by with_reducible assumption) ?_ | (dsimp only))

end Sys2Proof.Machine
end

