-- ==== Sys2Proof/Laws/GoodDrain.lean ====
section
/-! SUPPORT. What the operations of Machine/Drain.lean keep: one lemma each (Laws/GoodBase.lean). -/

namespace Sys2Proof.Machine
open Sys2Proof

-- One proof at a time: proofs checked side by side take a stack each.
set_option Elab.async false

theorem State.ringStart_good {κ : Kept} (s : State) (p : Nat) (hg : Good κ s) (f_plots : κ.plots = none) (f_res :
    κ.res = none) :
    Good κ (State.ringStart s p) := by
  unfold State.ringStart
  repeat' (first
    | with_reducible assumption | with_reducible refine good_ite ?_ ?_
    | with_reducible refine State.onRes_good _ _ _ ?_ f_plots f_res
    | with_reducible refine State.onHvt_good _ _ _ ?_ f_plots | with_reducible refine State.hvtStateSet_good _ _ _ ?_
    | with_reducible refine State.put_good _ _ _ _ _ ?_ | with_reducible refine State.clrBit_good _ _ _ ?_
    | with_reducible refine State.hvtMirror_good _ _ ?_ | with_reducible refine State.mapRegs_good _ _ ?_)

theorem State.traceConfigOp_good {κ : Kept} (s : State) (c : Cmd) (hg : Good κ s) (f_plots : κ.plots = none) (f_cmd
    : κ.cmd = none) (f_res : κ.res = none) :
    Good κ (State.traceConfigOp s c) := by
  unfold State.traceConfigOp
  repeat' (first
    | with_reducible assumption | with_reducible refine good_ite ?_ ?_
    | with_reducible refine State.finish_good _ _ _ _ ?_ f_cmd | with_reducible refine State.dma_good _ _ _ _ _ _ ?_
    | with_reducible refine State.rnSet_good _ _ _ ?_
    | with_reducible refine State.ringStart_good _ _ ?_ f_plots f_res | with_reducible refine good_foldl ?_ ?_
    | with_reducible refine good_foldl1 ?_ ?_ | with_reducible refine good_foldl2 ?_ ?_ | intro _ | (split)
    | with_reducible refine good_pair2 (by with_reducible assumption) ?_
    | with_reducible refine good_pair1 (by with_reducible assumption) ?_
    | with_reducible refine good_pair22 (by with_reducible assumption) ?_
    | with_reducible refine good_pair222 (by with_reducible assumption) ?_
    | with_reducible refine good_pair2222 (by with_reducible assumption) ?_ | (dsimp only))

theorem State.traceArmOp_good {κ : Kept} (s : State) (c : Cmd) (hg : Good κ s) (f_plots : κ.plots = none) (f_cmd :
    κ.cmd = none) :
    Good κ (State.traceArmOp s c) := by
  unfold State.traceArmOp
  repeat' (first
    | with_reducible assumption | with_reducible refine good_ite ?_ ?_
    | with_reducible refine State.flood_good _ _ _ _ ?_ | with_reducible refine State.finish_good _ _ _ _ ?_ f_cmd
    | with_reducible refine State.blockCmd_good _ _ ?_ f_cmd | with_reducible refine State.onHvt_good _ _ _ ?_ f_plots
    | fail_if_no_progress with_reducible refine good_upd ?_ | intro _ | (split))

theorem State.traceStopOp_good {κ : Kept} (s0 : State) (c : Cmd) (hg : Good κ s0) (f_hbm : κ.hbm = none) (f_plots :
    κ.plots = none) (f_cmd : κ.cmd = none) :
    Good κ (State.traceStopOp s0 c) := by
  unfold State.traceStopOp
  repeat' (first
    | with_reducible assumption | with_reducible refine good_ite ?_ ?_
    | with_reducible refine State.drainFifo_good _ ?_ f_hbm f_plots
    | with_reducible refine State.finish_good _ _ _ _ ?_ f_cmd | with_reducible refine State.hvtStop_good _ _ _ _ _ ?_
    | with_reducible refine State.blockCmd_good _ _ ?_ f_cmd
    | with_reducible refine State.onHvt_good _ _ _ ?_ f_plots)

theorem State.traceDrainOp_good {κ : Kept} (s0 : State) (c : Cmd) (hg : Good κ s0) (f_host : κ.host = none) (f_hbm :
    κ.hbm = none) (f_plots : κ.plots = none) (f_cmd : κ.cmd = none) :
    Good κ (State.traceDrainOp s0 c) := by
  unfold State.traceDrainOp
  repeat' (first
    | with_reducible assumption | with_reducible refine good_ite ?_ ?_
    | with_reducible refine State.drainFifo_good _ ?_ f_hbm f_plots
    | with_reducible refine State.dma_good _ _ _ _ _ _ ?_
    | with_reducible refine State.hostWrite_good _ _ _ _ ?_ f_host
    | with_reducible refine State.onHvt_good _ _ _ ?_ f_plots | with_reducible refine State.hvtMirror_good _ _ ?_
    | with_reducible refine State.dmaEnd_good _ _ _ _ _ _ ?_ f_cmd)

theorem State.drainStart_good {κ : Kept} (s : State) (fn : Nat) (hg : Good κ s) :
    Good κ (State.drainStart s fn) := by
  unfold State.drainStart
  repeat' (first | with_reducible assumption | fail_if_no_progress with_reducible refine good_upd ?_)

theorem State.faultDrainOp_good {κ : Kept} (s0 : State) (c : Cmd) (hg : Good κ s0) (f_host : κ.host = none) (f_hbm :
    κ.hbm = none) (f_plots : κ.plots = none) (f_cmd : κ.cmd = none) :
    Good κ (State.faultDrainOp s0 c) := by
  unfold State.faultDrainOp
  repeat' (first
    | with_reducible assumption | with_reducible refine State.drainFifo_good _ ?_ f_hbm f_plots
    | with_reducible refine State.dma_good _ _ _ _ _ _ ?_ | with_reducible refine State.finish_good _ _ _ _ ?_ f_cmd
    | with_reducible refine State.hostWrite_good _ _ _ _ ?_ f_host
    | fail_if_no_progress with_reducible refine good_upd ?_ | intro _ | (split)
    | with_reducible refine good_pair2 (by with_reducible assumption) ?_
    | with_reducible refine good_pair1 (by with_reducible assumption) ?_
    | with_reducible refine good_pair22 (by with_reducible assumption) ?_
    | with_reducible refine good_pair222 (by with_reducible assumption) ?_
    | with_reducible refine good_pair2222 (by with_reducible assumption) ?_ | (dsimp only))

end Sys2Proof.Machine
end

