-- ==== Sys2Proof/Laws/GoodGleaner.lean ====
section
/-! SUPPORT. What the operations of Machine/Gleaner.lean keep: one lemma each (Laws/GoodBase.lean). -/

namespace Sys2Proof.Machine
open Sys2Proof

-- One proof at a time: proofs checked side by side take a stack each.
set_option Elab.async false

theorem State.firstAck_good {κ : Kept} (s : State) (b : Blk) (v : Nat) (hg : Good κ s) :
    Good κ (State.firstAck s b v) := by
  unfold State.firstAck
  repeat' (first
    | with_reducible assumption | with_reducible refine good_ite ?_ ?_
    | with_reducible refine State.clrBit_good _ _ _ ?_ | with_reducible refine State.countClear_good _ _ ?_)

theorem State.histAck_good {κ : Kept} (s : State) (b : Blk) (v : Nat) (hg : Good κ s) :
    Good κ (State.histAck s b v) := by
  unfold State.histAck
  repeat' (first
    | with_reducible assumption | with_reducible refine good_ite ?_ ?_
    | with_reducible refine State.put_good _ _ _ _ _ ?_)

theorem State.hazardAck_good {κ : Kept} (s : State) (a p : Nat) (hg : Good κ s) :
    Good κ (State.hazardAck s a p) := by
  unfold State.hazardAck
  repeat' (first
    | with_reducible assumption | with_reducible refine good_ite ?_ ?_
    | with_reducible refine State.clrBit_good _ _ _ ?_)

theorem State.clearWrite_good {κ : Kept} (s : State) (a v : Nat) (hg : Good κ s) :
    Good κ (State.clearWrite s a v) := by
  unfold State.clearWrite
  repeat' (first
    | with_reducible assumption | with_reducible refine good_ite ?_ ?_
    | with_reducible refine State.countClear_good _ _ ?_ | with_reducible refine State.hazardAck_good _ _ _ ?_
    | with_reducible refine State.rnSet64_good _ _ _ ?_ | with_reducible refine State.clrBit_good _ _ _ ?_ | intro _
    | (split))

theorem State.bucketAction_good {κ : Kept} (s0 : State) (cls u : Nat) (hg : Good κ s0) :
    Good κ (State.bucketAction s0 cls u) := by
  unfold State.bucketAction
  repeat' (first
    | with_reducible assumption | with_reducible refine good_ite ?_ ?_
    | with_reducible refine State.useTriple_good _ _ ?_ | with_reducible refine State.remapRequest_good _ _ _ ?_
    | with_reducible refine State.setBit_good _ _ _ ?_ | with_reducible refine State.raiseLnk_good _ _ _ _ ?_
    | with_reducible refine State.spareUnused_good _ _ _ ?_ | fail_if_no_progress with_reducible refine good_upd ?_
    | intro _ | (split))

theorem State.bucketDo_good {κ : Kept} (s : State) (cls : Nat) (e : Nat × Nat) (hg : Good κ s) :
    Good κ (State.bucketDo s cls e) := by
  unfold State.bucketDo
  repeat' (first
    | with_reducible assumption | with_reducible refine State.devInt_good _ _ ?_
    | with_reducible refine State.faultRec_good _ _ _ _ _ _ _ _ ?_
    | with_reducible refine State.bucketAction_good _ _ _ ?_)

theorem State.bucketOver_good {κ : Kept} (s : State) (cls : Nat) (e : Nat × Nat) (hg : Good κ s) :
    Good κ (State.bucketOver s cls e) := by
  unfold State.bucketOver
  repeat' (first
    | with_reducible assumption | with_reducible refine good_ite ?_ ?_
    | with_reducible refine State.bucketDo_good _ _ _ ?_ | with_reducible refine State.put_good _ _ _ _ _ ?_
    | fail_if_no_progress with_reducible refine good_upd ?_)

theorem State.glnRaise_good {κ : Kept} (s : State) (cause kind idx : Nat) (hg : Good κ s) :
    Good κ (State.glnRaise s cause kind idx) := by
  unfold State.glnRaise
  repeat' (first | with_reducible assumption | with_reducible refine State.raiseGln_good _ _ _ _ _ ?_)

theorem State.zeroItem_good {κ : Kept} (s : State) (kind idx : Nat) (hg : Good κ s) :
    Good κ (State.zeroItem s kind idx) := by
  unfold State.zeroItem
  repeat' (first
    | with_reducible assumption | with_reducible refine good_ite ?_ ?_
    | with_reducible refine State.eccSet_good _ _ _ _ ?_ | fail_if_no_progress with_reducible refine good_upd ?_)

theorem State.glnConfig_good {κ : Kept} (s : State) (kind idx : Nat) (shadow : Bool) (hg : Good κ s) :
    Good κ (State.glnConfig s kind idx shadow).2 := by
  unfold State.glnConfig
  repeat' (first
    | with_reducible assumption | with_reducible refine good_ite2 ?_ ?_
    | with_reducible refine State.eccSet_good _ _ _ _ ?_ | with_reducible refine State.glnRaise_good _ _ _ _ ?_
    | with_reducible refine State.count_good _ _ ?_ | intro _ | (split))

theorem State.glnDataFix_good {κ : Kept} (s : State) (kind idx : Nat) (hg : Good κ s) :
    Good κ (State.glnDataFix s kind idx).2 := by
  unfold State.glnDataFix
  repeat' (first
    | with_reducible assumption | with_reducible refine State.eccSet_good _ _ _ _ ?_
    | with_reducible refine State.glnRaise_good _ _ _ _ ?_ | with_reducible refine State.count_good _ _ ?_ | intro _
    | (split))

theorem State.glnXtFix_good {κ : Kept} (s : State) (e : Nat) (hg : Good κ s) :
    Good κ (State.glnXtFix s e).2 := by
  unfold State.glnXtFix
  repeat' (first
    | with_reducible assumption | with_reducible refine State.glnRaise_good _ _ _ _ ?_
    | with_reducible refine State.count_good _ _ ?_ | with_reducible refine State.xtRewrite_good _ _ ?_
    | fail_if_no_progress with_reducible refine good_upd ?_ | intro _ | (split))

theorem State.glnFix_good {κ : Kept} (s : State) (kind idx : Nat) (hg : Good κ s) :
    Good κ (State.glnFix s kind idx).2 := by
  unfold State.glnFix
  repeat' (first
    | with_reducible assumption | with_reducible refine good_ite2 ?_ ?_
    | with_reducible refine State.glnXtFix_good _ _ ?_ | with_reducible refine State.glnDataFix_good _ _ _ ?_
    | with_reducible refine State.zeroItem_good _ _ _ ?_ | with_reducible refine State.glnConfig_good _ _ _ _ ?_)

theorem State.glnItem_good {κ : Kept} (s : State) (kind idx : Nat) (hg : Good κ s) :
    Good κ (State.glnItem s kind idx).2 := by
  unfold State.glnItem
  repeat' (first
    | with_reducible assumption | with_reducible refine good_ite2 ?_ ?_
    | with_reducible refine State.glnFix_good _ _ _ ?_ | fail_if_no_progress with_reducible refine good_upd ?_
    | intro _ | (split))

theorem State.glnSelect_good {κ : Kept} (s : State) (i : Nat) (hg : Good κ s) :
    Good κ (State.glnSelect s i).2 := by
  unfold State.glnSelect
  repeat' (first
    | with_reducible assumption | with_reducible refine good_ite2 ?_ ?_
    | with_reducible refine State.glnConfig_good _ _ _ _ ?_ | with_reducible refine State.glnRaise_good _ _ _ _ ?_
    | with_reducible refine State.count_good _ _ ?_ | with_reducible refine State.swapPlan_good _ _ ?_
    | with_reducible refine State.glnItem_good _ _ _ ?_ | intro _ | (split))

theorem State.glnRead_good {κ : Kept} (s : State) (kind idx : Nat) (hg : Good κ s) :
    Good κ (State.glnRead s kind idx).2 := by
  unfold State.glnRead
  repeat' (first
    | with_reducible assumption | with_reducible refine good_ite2 ?_ ?_
    | with_reducible refine State.glnSelect_good _ _ ?_ | with_reducible refine State.glnItem_good _ _ _ ?_)

theorem State.sweepEnd_good {κ : Kept} (s : State) (a : Nat) (hg : Good κ s) :
    Good κ (State.sweepEnd s a) := by
  unfold State.sweepEnd
  repeat' (first
    | with_reducible assumption | with_reducible refine good_ite ?_ ?_
    | with_reducible refine State.setBit_good _ _ _ ?_ | with_reducible refine State.count_good _ _ ?_
    | fail_if_no_progress with_reducible refine good_upd ?_)

theorem State.glnAccess_good {κ : Kept} (s : State) (kind idx : Nat) (hg : Good κ s) :
    Good κ (State.glnAccess s kind idx).2 := by
  unfold State.glnAccess
  exact State.glnRead_good _ _ _ (State.glnTouch_good _ _ _ hg)

theorem State.mapMeet_good {κ : Kept} (s : State) (a : Nat) (hg : Good κ s) :
    Good κ (State.mapMeet s a) := by
  unfold State.mapMeet
  repeat' (first
    | with_reducible assumption | with_reducible refine good_ite ?_ ?_
    | with_reducible refine State.takeInjects_good _ _ _ ?_ | with_reducible refine State.glnCond_good _ _ _ _ _ ?_
    | fail_if_no_progress with_reducible refine good_upd ?_ | with_reducible refine good_foldl ?_ ?_
    | with_reducible refine good_foldl1 ?_ ?_ | with_reducible refine good_foldl2 ?_ ?_ | intro _ | (split))

theorem State.prioSweep_good {κ : Kept} (s : State) (cls u : Nat) (hg : Good κ s) :
    Good κ (State.prioSweep s cls u) := by
  unfold State.prioSweep
  repeat' (first
    | with_reducible assumption | with_reducible refine good_ite ?_ ?_
    | with_reducible refine State.glnAccess_good _ _ _ ?_
    | with_reducible refine good_foldl ?_ ?_ | with_reducible refine good_foldl1 ?_ ?_
    | with_reducible refine good_foldl2 ?_ ?_ | intro _)

theorem State.glnStep_good {κ : Kept} (s0 : State) (a : Nat) (hg : Good κ s0) :
    Good κ (State.glnStep s0 a) := by
  unfold State.glnStep
  repeat' (first
    | with_reducible assumption | with_reducible refine good_ite ?_ ?_
    | with_reducible refine State.prioSweep_good _ _ _ ?_ | with_reducible refine State.mapMeet_good _ _ ?_
    | with_reducible refine State.sweepEnd_good _ _ ?_ | with_reducible refine State.glnAccess_good _ _ _ ?_
    | fail_if_no_progress with_reducible refine good_upd ?_ | intro _ | (split))

theorem State.patrolWord_good {κ : Kept} (s0 : State) (addr : Nat) (hg : Good κ s0) (f_plots : κ.plots = none)
    (f_cmd : κ.cmd = none) :
    Good κ (State.patrolWord s0 addr).2 := by
  unfold State.patrolWord
  repeat' (first
    | with_reducible assumption | with_reducible refine good_ite2 ?_ ?_
    | with_reducible refine State.memInject_good _ _ _ _ _ ?_ f_plots f_cmd
    | with_reducible refine State.useTriple_good _ _ ?_ | with_reducible refine State.unsuspect_good _ _ ?_
    | with_reducible refine State.memCe_good _ _ _ _ ?_ | with_reducible refine State.hbmMarkSet_good _ _ _ ?_
    | with_reducible refine State.count_good _ _ ?_ | with_reducible refine State.memUe_good _ _ _ _ ?_
    | with_reducible refine State.poison_good _ _ _ _ ?_ f_plots
    | with_reducible refine State.raiseGln_good _ _ _ _ _ ?_ | with_reducible refine State.remapRequest_good _ _ _ ?_
    | with_reducible refine State.poisonRead_good _ _ _ _ ?_ | intro _ | (split)
    | with_reducible refine good_pair2 (by with_reducible assumption) ?_
    | with_reducible refine good_pair1 (by with_reducible assumption) ?_
    | with_reducible refine good_pair22 (by with_reducible assumption) ?_
    | with_reducible refine good_pair222 (by with_reducible assumption) ?_
    | with_reducible refine good_pair2222 (by with_reducible assumption) ?_ | (dsimp only))

theorem State.watchFrom_good {κ : Kept} (s : State) (seqs : List Nat) (hg : Good κ s) :
    Good κ (State.watchFrom s seqs) := by
  unfold State.watchFrom
  repeat' (first | with_reducible assumption | fail_if_no_progress with_reducible refine good_upd ?_)

theorem State.glnCfgWrite_good {κ : Kept} (s : State) (fn v : Nat) (r : RegRow) (hg : Good κ s) :
    Good κ (State.glnCfgWrite s fn v r) := by
  unfold State.glnCfgWrite
  repeat' (first
    | with_reducible assumption | with_reducible refine good_ite ?_ ?_
    | with_reducible refine State.rsvdCheck_good _ _ _ _ ?_ | with_reducible refine State.pf0Field_good _ _ _ _ _ _ ?_
    | with_reducible refine State.put_good _ _ _ _ _ ?_ | with_reducible refine State.watchFrom_good _ _ ?_
    | fail_if_no_progress with_reducible refine good_upd ?_)

theorem State.hbmRateWrite_good {κ : Kept} (s : State) (fn a v : Nat) (r : RegRow) (is : List Nat) (hg : Good κ s) :
    Good κ (State.hbmRateWrite s fn a v r is) := by
  unfold State.hbmRateWrite
  repeat' (first
    | with_reducible assumption | with_reducible refine good_ite ?_ ?_
    | with_reducible refine State.plainWrite_good _ _ _ _ _ _ ?_ | with_reducible refine State.watchFrom_good _ _ ?_)

theorem State.scrubFault_good {κ : Kept} (s : State) (kind idx : Nat) (joins again : Bool) (hg : Good κ s) :
    Good κ (State.scrubFault s kind idx joins again) := by
  unfold State.scrubFault
  repeat' (first
    | with_reducible assumption | with_reducible refine good_ite ?_ ?_
    | with_reducible refine State.raiseGln_good _ _ _ _ _ ?_
    | with_reducible refine State.faultRec_good _ _ _ _ _ _ _ _ ?_)

theorem State.scrubItem_good {κ : Kept} (s : State) (kind idx : Nat) (hg : Good κ s) (f_plots : κ.plots = none)
    (f_cmd : κ.cmd = none) :
    Good κ (State.scrubItem s kind idx).2 := by
  unfold State.scrubItem
  repeat' (first
    | with_reducible assumption | with_reducible refine good_ite2 ?_ ?_
    | with_reducible refine State.patrolWord_good _ _ ?_ f_plots f_cmd
    | with_reducible refine State.glnAccess_good _ _ _ ?_ | with_reducible refine State.scrubFault_good _ _ _ _ _ ?_)

theorem State.scrubRun_good {κ : Kept} (s : State) (space lo hi : Nat) (hg : Good κ s) (f_plots : κ.plots = none)
    (f_cmd : κ.cmd = none) :
    Good κ (State.scrubRun s space lo hi).2 := by
  unfold State.scrubRun
  repeat' (first
    | with_reducible assumption | with_reducible refine good_ite2 ?_ ?_
    | with_reducible refine State.scrubItem_good _ _ _ ?_ f_plots f_cmd | with_reducible refine good_foldl ?_ ?_
    | with_reducible refine good_foldl1 ?_ ?_ | with_reducible refine good_foldl2 ?_ ?_ | intro _)

theorem State.scrubOp_good {κ : Kept} (s : State) (c : Cmd) (hg : Good κ s) (f_plots : κ.plots = none) (f_cmd :
    κ.cmd = none) :
    Good κ (State.scrubOp s c) := by
  unfold State.scrubOp
  repeat' (first
    | with_reducible assumption | with_reducible refine good_ite ?_ ?_
    | with_reducible refine State.finish_good _ _ _ _ ?_ f_cmd
    | with_reducible refine State.scrubRun_good _ _ _ _ ?_ f_plots f_cmd
    | with_reducible refine State.finishAt_good _ _ _ _ _ _ ?_ f_cmd)

theorem State.injectWrite_good {κ : Kept} (s : State) (fn a v stat : Nat) (furrow : Bool) (r : RegRow) (hg : Good κ
    s) :
    Good κ (State.injectWrite s fn a v stat furrow r) := by
  unfold State.injectWrite
  repeat' (first
    | with_reducible assumption | with_reducible refine good_ite ?_ ?_
    | with_reducible refine State.rsvdCheck_good _ _ _ _ ?_ | with_reducible refine State.put_good _ _ _ _ _ ?_
    | with_reducible refine State.putBit_good _ _ _ _ ?_ | with_reducible refine State.clrBit_good _ _ _ ?_
    | with_reducible refine State.setBit_good _ _ _ ?_ | fail_if_no_progress with_reducible refine good_upd ?_)

end Sys2Proof.Machine
end

