-- ==== Sys2Proof/Laws/GoodPower.lean ====
section
/-! SUPPORT. What the operations of Machine/Power.lean keep: one lemma each (Laws/GoodBase.lean). -/

namespace Sys2Proof.Machine
open Sys2Proof

-- One proof at a time: proofs checked side by side take a stack each.
set_option Elab.async false

theorem State.raiseCrp_good {κ : Kept} (s : State) (i : Nat) (hg : Good κ s) :
    Good κ (State.raiseCrp s i) := by
  unfold State.raiseCrp
  repeat' (first
    | with_reducible assumption | with_reducible refine State.condition_good _ _ _ _ ?_
    | with_reducible refine State.faultRec_good _ _ _ _ _ _ _ _ ?_)

theorem State.stopRunning_good {κ : Kept} (s : State) (hg : Good κ s) (f_plots : κ.plots = none) (f_cmd : κ.cmd =
    none) (f_tm : κ.tm = none) :
    Good κ (State.stopRunning s) := by
  unfold State.stopRunning
  repeat' (first
    | with_reducible assumption | with_reducible refine State.recoveryFailed_good _ _ ?_ f_plots f_cmd f_tm
    | with_reducible refine good_foldl ?_ ?_ | with_reducible refine good_foldl1 ?_ ?_
    | with_reducible refine good_foldl2 ?_ ?_ | intro _)

theorem State.sendHeld_good {κ : Kept} (s : State) (fns : List Nat) (hg : Good κ s) :
    Good κ (State.sendHeld s fns) := by
  unfold State.sendHeld
  repeat' (first
    | with_reducible assumption | with_reducible refine State.msix_good _ _ _ ?_
    | fail_if_no_progress with_reducible refine good_upd ?_ | with_reducible refine good_foldl ?_ ?_
    | with_reducible refine good_foldl1 ?_ ?_ | with_reducible refine good_foldl2 ?_ ?_ | intro _)

theorem State.evictNow_good {κ : Kept} (s : State) (p : Nat) (hg : Good κ s) (f_hbm : κ.hbm = none) (f_plots :
    κ.plots = none) (f_cmd : κ.cmd = none) (f_tm : κ.tm = none) (f_res : κ.res = none) :
    Good κ (State.evictNow s p) := by
  unfold State.evictNow
  repeat' (first
    | with_reducible assumption | with_reducible refine good_ite ?_ ?_
    | with_reducible refine State.onId_good _ _ _ ?_ f_plots
    | with_reducible refine State.fallowNow_good _ _ _ ?_ f_hbm f_plots f_cmd f_tm f_res
    | with_reducible refine State.finishRuns_good _ _ _ _ ?_ f_plots f_cmd
    | with_reducible refine State.finishAll_good _ _ _ _ _ ?_ f_cmd)

theorem State.dropHold_good {κ : Kept} (s : State) (p : Nat) (hg : Good κ s) (f_hbm : κ.hbm = none) (f_plots :
    κ.plots = none) (f_cmd : κ.cmd = none) (f_tm : κ.tm = none) :
    Good κ (State.dropHold s p) := by
  unfold State.dropHold
  repeat' (first
    | with_reducible assumption | with_reducible refine State.putBack_good _ _ _ ?_ f_hbm f_plots f_cmd f_tm
    | with_reducible refine State.onCmt_good _ _ _ ?_ f_plots | with_reducible refine State.cmtStateSet_good _ _ _ ?_
    | with_reducible refine State.finishOpt_good _ _ _ _ ?_ f_cmd
    | fail_if_no_progress with_reducible refine good_upd ?_ | intro _ | (split))

theorem State.deepEvict_good {κ : Kept} (s : State) (forced : Bool) (p : Nat) (hg : Good κ s) (f_hbm : κ.hbm = none)
    (f_plots : κ.plots = none) (f_cmd : κ.cmd = none) (f_tm : κ.tm = none) (f_res : κ.res = none) :
    Good κ (State.deepEvict s forced p) := by
  unfold State.deepEvict
  repeat' (first
    | with_reducible assumption | with_reducible refine good_ite ?_ ?_
    | with_reducible refine State.dropHold_good _ _ ?_ f_hbm f_plots f_cmd f_tm
    | with_reducible refine State.evictNow_good _ _ ?_ f_hbm f_plots f_cmd f_tm f_res
    | with_reducible refine State.askStop_good _ _ _ _ _ ?_ f_plots
    | with_reducible refine State.floodHalt_good _ _ _ _ ?_)

theorem State.deepStart_good {κ : Kept} (s : State) (forced : Bool) (id : Nat) (hg : Good κ s) (f_hbm : κ.hbm =
    none) (f_plots : κ.plots = none) (f_cmd : κ.cmd = none) (f_tm : κ.tm = none) (f_res : κ.res = none) :
    Good κ (State.deepStart s forced id) := by
  unfold State.deepStart
  repeat' (first
    | with_reducible assumption | with_reducible refine State.put_good _ _ _ _ _ ?_
    | with_reducible refine State.putBit_good _ _ _ _ ?_
    | with_reducible refine State.deepEvict_good _ _ _ ?_ f_hbm f_plots f_cmd f_tm f_res
    | fail_if_no_progress with_reducible refine good_upd ?_ | with_reducible refine good_foldl ?_ ?_
    | with_reducible refine good_foldl1 ?_ ?_ | with_reducible refine good_foldl2 ?_ ?_ | intro _)

theorem State.fallowDeepOp_good {κ : Kept} (s : State) (c : Cmd) (hg : Good κ s) (f_hbm : κ.hbm = none) (f_plots :
    κ.plots = none) (f_cmd : κ.cmd = none) (f_tm : κ.tm = none) (f_res : κ.res = none) :
    Good κ (State.fallowDeepOp s c) := by
  unfold State.fallowDeepOp
  repeat' (first
    | with_reducible assumption | with_reducible refine good_ite ?_ ?_
    | with_reducible refine State.finish_good _ _ _ _ ?_ f_cmd
    | with_reducible refine State.blockCmd_good _ _ ?_ f_cmd
    | with_reducible refine State.deepStart_good _ _ _ ?_ f_hbm f_plots f_cmd f_tm f_res)

theorem State.deepRec_good {κ : Kept} (s : State) (enter : Bool) (ns : Nat) (hg : Good κ s) (f_hbm : κ.hbm = none)
    (f_plots : κ.plots = none) :
    Good κ (State.deepRec s enter ns) := by
  unfold State.deepRec
  repeat' (first
    | with_reducible assumption | with_reducible refine good_ite ?_ ?_
    | with_reducible refine State.enter_good _ _ _ ?_ f_cmd
    | with_reducible refine State.plotPut_good _ _ _ ?_ f_hbm f_plots | with_reducible refine State.devPut_good _ _ ?_
    | with_reducible refine good_foldl ?_ ?_ | with_reducible refine good_foldl1 ?_ ?_
    | with_reducible refine good_foldl2 ?_ ?_ | intro _)

theorem State.lastUs_good {κ : Kept} (s : State) (ns : Nat) (hg : Good κ s) :
    Good κ (State.lastUs s ns) := by
  unfold State.lastUs
  repeat' (first | with_reducible assumption | with_reducible refine State.put_good _ _ _ _ _ ?_)

theorem State.deepEntered_good {κ : Kept} (s : State) (hg : Good κ s) (f_hbm : κ.hbm = none) (f_plots : κ.plots =
    none) (f_cmd : κ.cmd = none) :
    Good κ (State.deepEntered s) := by
  unfold State.deepEntered
  repeat' (first
    | with_reducible assumption | with_reducible refine State.deepRec_good _ _ _ ?_ f_hbm f_plots
    | with_reducible refine State.drainFifo_good _ ?_ f_hbm f_plots
    | with_reducible refine State.laneStateSet_good _ _ _ _ ?_ | with_reducible refine State.clearFurrows_good _ _ ?_
    | with_reducible refine State.put_good _ _ _ _ _ ?_ | with_reducible refine State.clrBit_good _ _ _ ?_
    | with_reducible refine State.lastUs_good _ _ ?_ | with_reducible refine State.finishOpt_good _ _ _ _ ?_ f_cmd
    | fail_if_no_progress with_reducible refine good_upd ?_ | fail_if_no_progress with_reducible refine good_updHbm ?_
    | with_reducible refine good_foldl ?_ ?_ | with_reducible refine good_foldl1 ?_ ?_
    | with_reducible refine good_foldl2 ?_ ?_ | intro _)

theorem State.wakeDone_good {κ : Kept} (s : State) (hg : Good κ s) (f_hbm : κ.hbm = none) (f_plots : κ.plots = none)
    (f_cmd : κ.cmd = none) (f_img : κ.img = none) :
    Good κ (State.wakeDone s) := by
  unfold State.wakeDone
  repeat' (first
    | with_reducible assumption | with_reducible refine good_ite ?_ ?_
    | with_reducible refine State.put_good _ _ _ _ _ ?_
    | with_reducible refine State.deepRec_good _ _ _ ?_ f_hbm f_plots | with_reducible refine State.lastUs_good _ _ ?_
    | with_reducible refine State.eventOut_good _ _ _ ?_ f_hbm f_plots
    | with_reducible refine State.devLoss_good _ _ _ ?_
    | with_reducible refine State.resow_good _ _ ?_ f_plots f_cmd f_img
    | with_reducible refine State.finishOpt_good _ _ _ _ ?_ f_cmd
    | fail_if_no_progress with_reducible refine good_upd ?_ | with_reducible refine good_foldl ?_ ?_
    | with_reducible refine good_foldl1 ?_ ?_ | with_reducible refine good_foldl2 ?_ ?_ | intro _)

theorem State.wakeCheck_good {κ : Kept} (s : State) (hg : Good κ s) (f_hbm : κ.hbm = none) (f_plots : κ.plots =
    none) (f_cmd : κ.cmd = none) (f_img : κ.img = none) :
    Good κ (State.wakeCheck s) := by
  unfold State.wakeCheck
  repeat' (first
    | with_reducible assumption | with_reducible refine good_ite ?_ ?_
    | with_reducible refine State.wakeDone_good _ ?_ f_hbm f_plots f_cmd f_img)

theorem State.wakeDeepOp_good {κ : Kept} (s : State) (c : Cmd) (hg : Good κ s) (f_hbm : κ.hbm = none) (f_plots :
    κ.plots = none) (f_cmd : κ.cmd = none) (f_img : κ.img = none) :
    Good κ (State.wakeDeepOp s c) := by
  unfold State.wakeDeepOp
  repeat' (first
    | with_reducible assumption | with_reducible refine good_ite ?_ ?_
    | with_reducible refine State.finish_good _ _ _ _ ?_ f_cmd
    | with_reducible refine State.blockCmd_good _ _ ?_ f_cmd | with_reducible refine State.put_good _ _ _ _ _ ?_
    | with_reducible refine State.pllLock_good _ ?_ | with_reducible refine State.onLane_good _ _ _ _ ?_
    | with_reducible refine State.wakeCheck_good _ ?_ f_hbm f_plots f_cmd f_img
    | fail_if_no_progress with_reducible refine good_upd ?_ | fail_if_no_progress with_reducible refine good_updHbm ?_
    | with_reducible refine good_foldl ?_ ?_ | with_reducible refine good_foldl1 ?_ ?_
    | with_reducible refine good_foldl2 ?_ ?_ | intro _)

theorem State.alertFrom_good {κ : Kept} (s : State) (old : Nat) (hg : Good κ s) :
    Good κ (State.alertFrom s old) := by
  unfold State.alertFrom
  repeat' (first
    | with_reducible assumption | with_reducible refine good_ite ?_ ?_
    | fail_if_no_progress with_reducible refine good_upd ?_
    | fail_if_no_progress with_reducible refine good_updSvc ?_)

theorem State.forceDeep_good {κ : Kept} (s : State) (hg : Good κ s) (f_hbm : κ.hbm = none) (f_plots : κ.plots =
    none) (f_cmd : κ.cmd = none) (f_tm : κ.tm = none) (f_res : κ.res = none) :
    Good κ (State.forceDeep s) := by
  unfold State.forceDeep
  repeat' (first
    | with_reducible assumption | with_reducible refine good_ite ?_ ?_
    | with_reducible refine State.raiseCrp_good _ _ ?_
    | with_reducible refine State.deepStart_good _ _ _ ?_ f_hbm f_plots f_cmd f_tm f_res
    | with_reducible refine State.deepEvict_good _ _ _ ?_ f_hbm f_plots f_cmd f_tm f_res
    | with_reducible refine State.setBit_good _ _ _ ?_ | with_reducible refine good_foldl ?_ ?_
    | with_reducible refine good_foldl1 ?_ ?_ | with_reducible refine good_foldl2 ?_ ?_ | intro _)

theorem State.readTemps_good {κ : Kept} (s : State) (temps : List Int) (hg : Good κ s) :
    Good κ (State.readTemps s temps) := by
  unfold State.readTemps
  repeat' (first
    | with_reducible assumption | with_reducible refine State.rnSet_good _ _ _ ?_
    | with_reducible refine good_foldl ?_ ?_ | with_reducible refine good_foldl1 ?_ ?_
    | with_reducible refine good_foldl2 ?_ ?_ | intro _)

theorem State.thermal_good {κ : Kept} (s0 : State) (temps0 : List Int) (hg : Good κ s0) (f_hbm : κ.hbm = none)
    (f_plots : κ.plots = none) (f_cmd : κ.cmd = none) (f_tm : κ.tm = none) (f_res : κ.res = none) :
    Good κ (State.thermal s0 temps0) := by
  unfold State.thermal
  repeat' (first
    | with_reducible assumption | with_reducible refine good_ite ?_ ?_
    | with_reducible refine State.waitUntil_good _ _ ?_ | with_reducible refine State.readTemps_good _ _ ?_
    | with_reducible refine State.rnSet_good _ _ _ ?_ | with_reducible refine State.put_good _ _ _ _ _ ?_
    | with_reducible refine State.forceDeep_good _ ?_ f_hbm f_plots f_cmd f_tm f_res
    | fail_if_no_progress with_reducible refine good_upd ?_ | with_reducible refine good_foldl ?_ ?_
    | with_reducible refine good_foldl1 ?_ ?_ | with_reducible refine good_foldl2 ?_ ?_ | intro _)

theorem State.lanesOff_good {κ : Kept} (s : State) (hg : Good κ s) : Good κ (State.lanesOff s) := by
  unfold State.lanesOff
  dsimp only
  have h1 : Good κ (portIds.foldl (fun s q => laneIds.foldl (fun s i => s.laneStateSet q i 0) (s.portLeavesUp q)) s) :=
    good_foldl (fun s q h => good_foldl (fun s i h => State.laneStateSet_good _ _ _ _ h)
      (State.portLeavesUp_good _ _ h)) hg
  generalize portIds.foldl (fun s q => laneIds.foldl (fun s i => s.laneStateSet q i 0) (s.portLeavesUp q)) s = u at h1 ⊢
  have r := recWf_iff h1.recs
  exact good_upd (t := { u with lnk := {} }) (h1.setRecs (recWf_of r.1 r.2.1 r.2.2.1 rfl rfl r.2.2.2.2.2))

end Sys2Proof.Machine
end

