-- ==== Sys2Proof/Laws/GoodResets.lean ====
section
/-! SUPPORT. What the operations of Machine/Resets.lean keep: one lemma each (Laws/GoodBase.lean). -/

namespace Sys2Proof.Machine
open Sys2Proof

-- One proof at a time: proofs checked side by side take a stack each.
set_option Elab.async false

theorem HostSt.kept_mem (h : HostSt) (pcie : Bool) (strap : Nat) : (h.kept pcie strap).mem = h.mem := by
  unfold HostSt.kept; split <;> rfl

theorem BootSt.kept_keys (b : BootSt) (lost : Bool) (k : Nat) :
    cget [] (b.kept lost).keys k = cget [] b.keys k ∨ cget [] (b.kept lost).keys k = [] := by
  have hf : ∀ c : Cells (List Byte),
      cget [] (c.filter fun e => !(decide (4 ≤ e.1 ∧ e.1 < 8))) k = cget [] c k ∨
        cget [] (c.filter fun e => !(decide (4 ≤ e.1 ∧ e.1 < 8))) k = [] := by
    intro c
    by_cases hk : 4 ≤ k ∧ k < 8
    · right
      induction c with
      | nil => rfl
      | cons e c ih =>
        by_cases he : 4 ≤ e.1 ∧ e.1 < 8
        · simp [List.filter, he]; simpa using ih
        · have : e.1 ≠ k := by rintro rfl; exact he hk
          simp only [List.filter, he, decide_false, Bool.not_false, cget, this, if_false]; exact ih
    · left
      induction c with
      | nil => rfl
      | cons e c ih =>
        by_cases he : 4 ≤ e.1 ∧ e.1 < 8
        · have : e.1 ≠ k := by rintro rfl; exact hk he
          simp only [List.filter, he, and_self, decide_true, Bool.not_true, cget, this, if_false]; exact ih
        · simp only [List.filter, he, decide_false, Bool.not_false, cget]; rw [ih]
  unfold BootSt.kept
  cases lost
  · exact Or.inl rfl
  · exact hf b.keys

theorem State.wholeReset_good {κ : Kept} (s : State) (cause nonce : Nat) (por pcie : Bool) (strap gpio : Nat)
    (hg : Good κ s) (f_hbm : κ.hbm = none) (f_spm : κ.spm = none)
    (f_plots : κ.plots = none) (f_cmd : κ.cmd = none) (f_id : κ.id = none)
    (f_tm : κ.tm = none) (f_res : κ.res = none) (f_img : κ.img = none) : Good κ (State.wholeReset s cause nonce por pcie strap gpio) := by
  unfold State.wholeReset
  have hm := hg.wf.2.2.2.1
  have h0 : ∀ (b : BootSt) (f : FurMem) (w : PwrSt) (v : SvcSt), b.window = [] → v.locked = (s.boot.lifecycle == 2) →
      b.fusedMin = s.boot.fusedMin →
      (∀ k, cget [] b.keys k = cget [] s.boot.keys k ∨ cget [] b.keys k = []) →
      (b.lifecycle, b.grade20, b.dieRev, b.fusedOut, b.serial) =
        (s.boot.lifecycle, s.boot.grade20, s.boot.dieRev, s.boot.fusedOut, s.boot.serial) →
      Good κ { pending := s.pending, free := s.free, boot := b, host := s.host.kept pcie strap, fur := f, pwr := w, svc := v } := by
    intro b f w v hw hl hs hk hb
    simp only [Prod.mk.injEq] at hb
    refine ⟨hg.1, ?_, memWf_of rfl rfl rfl (by rw [HostSt.kept_mem]; exact hm) (by rw [hw]; rfl) rfl rfl, ?_, ?_, ?_, ?_, ?_, ?_, ?_, ?_, ?_, ?_, ?_, ?_, ?_⟩
    · rw [← hg.2]; simp only [State.fuses, hb]
    · rw [hs]; exact hg.4
    · intro hc; have := (hg.5 hc).1; rw [hl, hb.1]; simp [this]
    · intro c hc k
      rcases hk k with h | h
      · rw [h]; exact hg.6 c hc k
      · exact Or.inr h
    · intro m hm; rw [HostSt.kept_mem]; exact hg.7 m hm
    · intro m hm; rw [f_hbm] at hm; contradiction
    · intro m hm; rw [f_spm] at hm; contradiction
    · intro m hm; exact Or.inr hw
    · intro m hm; rw [f_plots] at hm; contradiction
    · intro m hm; rw [f_cmd] at hm; contradiction
    · intro m hm; rw [f_id] at hm; contradiction
    · intro m hm; rw [f_tm] at hm; contradiction
    · intro m hm; rw [f_res] at hm; contradiction
    · intro m hm; rw [f_img] at hm; contradiction
  have hb := BootSt.kept_keys s.boot (por && s.boot.vbatLost)
  have h1 := State.rnSet_good _ Reg.CRP_RST_CAUSE cause (h0
    { s.boot.kept (por && s.boot.vbatLost) with cfgReady := if pcie then s.boot.cfgReady else [] }
    { failed := if por then [] else s.fur.failed }
    { trip := s.pwr.trip && !(por && s.boot.vbatLost), d3 := if pcie then s.pwr.d3 else [], refLost := s.pwr.refLost }
    { locked := s.boot.lifecycle == 2, nonce := nonce % 2 ^ 128, fails := if por && s.boot.vbatLost then 0 else s.svc.fails,
      sensor := s.svc.sensor, alert := s.svc.alert && !s.pwr.tripped, gpio := gpio } rfl rfl rfl hb rfl)
  have h2 := good_ite (c := (por && s.boot.vbatLost) = true) (State.devInt_good _ 0xf (State.setBit_good _ Reg.SOW_KEY_STAT 8 h1)) h1
  exact good_ite (good_updFt (State.devInt_good _ _ (State.setBit_good _ _ _ h2))) h2

theorem State.devResetWrite_good {κ : Kept} (s : State) (fn v nonce : Nat) (r : RegRow) (hg : Good κ s) (f_hbm :
    κ.hbm = none) (f_spm : κ.spm = none) (f_plots : κ.plots = none) (f_cmd : κ.cmd = none) (f_id : κ.id = none) (f_tm :
    κ.tm = none) (f_res : κ.res = none) (f_img : κ.img = none) :
    Good κ (State.devResetWrite s fn v nonce r) := by
  unfold State.devResetWrite
  repeat' (first
    | with_reducible assumption | with_reducible refine good_ite ?_ ?_
    | with_reducible refine State.wholeReset_good _ _ _ _ _ _ _ ?_ f_hbm f_spm f_plots f_cmd f_id f_tm f_res f_img
    | with_reducible refine State.rsvdCheck_good _ _ _ _ ?_)

theorem State.endLinkCmds_good {κ : Kept} (s : State) (ids : List Nat) (hg : Good κ s) :
    Good κ (State.endLinkCmds s ids) := by
  unfold State.endLinkCmds
  repeat' (first
    | with_reducible assumption | with_reducible refine good_ite ?_ ?_
    | with_reducible refine State.endTraining_good _ _ ?_ | with_reducible refine State.endTest_good _ _ _ ?_
    | with_reducible refine State.onPort_good _ _ _ ?_ | fail_if_no_progress with_reducible refine good_upd ?_
    | with_reducible refine good_foldl ?_ ?_ | with_reducible refine good_foldl1 ?_ ?_
    | with_reducible refine good_foldl2 ?_ ?_ | intro _)

theorem State.dropRequests_good {κ : Kept} (s : State) (ids : List Nat) (hg : Good κ s) (f_plots : κ.plots = none) :
    Good κ (State.dropRequests s ids) := by
  unfold State.dropRequests
  repeat' (first
    | with_reducible assumption | with_reducible refine State.onPlot_good _ _ _ ?_ ?_ ?_ ?_ f_plots
    | fail_if_no_progress with_reducible refine good_upd ?_ | with_reducible refine good_foldl ?_ ?_
    | with_reducible refine good_foldl1 ?_ ?_ | with_reducible refine good_foldl2 ?_ ?_ | exact Or.inr fun _ => rfl
    | exact Or.inl (by with_reducible assumption) | intro _)

theorem State.discardCmds_good {κ : Kept} (s : State) (fn : Nat) (hg : Good κ s) (f_plots : κ.plots = none) (f_cmd :
    κ.cmd = none) (f_id : κ.id = none) :
    Good κ (State.discardCmds s fn) := by
  unfold State.discardCmds
  repeat' (first
    | with_reducible assumption | with_reducible refine good_ite ?_ ?_
    | with_reducible refine State.endLinkCmds_good _ _ ?_
    | with_reducible refine State.dropRequests_good _ _ ?_ f_plots | with_reducible refine State.clrBit_good _ _ _ ?_
    | with_reducible refine State.put_good _ _ _ _ _ ?_ | with_reducible refine State.copyWr_good _ _ _ _ ?_
    | with_reducible refine State.rnSet_good _ _ _ ?_ | with_reducible refine State.fwRestart_good _ ?_ f_cmd
    | fail_if_no_progress with_reducible refine good_upd ?_
    | fail_if_no_progress with_reducible refine good_updBoot ?_
    | fail_if_no_progress with_reducible refine good_updCmd ?_ f_cmd
    | fail_if_no_progress with_reducible refine good_updBootCmd ?_ f_cmd | with_reducible refine good_foldl ?_ ?_
    | with_reducible refine good_foldl1 ?_ ?_ | with_reducible refine good_foldl2 ?_ ?_ | intro _ | (split)
    | with_reducible refine good_pair2 (by with_reducible assumption) ?_
    | with_reducible refine good_pair1 (by with_reducible assumption) ?_
    | with_reducible refine good_pair22 (by with_reducible assumption) ?_
    | with_reducible refine good_pair222 (by with_reducible assumption) ?_
    | with_reducible refine good_pair2222 (by with_reducible assumption) ?_ | (dsimp only)
    | with_reducible refine Good.setStore ?_ f_cmd f_id)

theorem State.configReset_good {κ : Kept} (s : State) (fn : Nat) (hg : Good κ s) :
    Good κ (State.configReset s fn) := by
  unfold State.configReset
  repeat' (first
    | with_reducible assumption | fail_if_no_progress with_reducible refine good_upd ?_
    | fail_if_no_progress with_reducible refine good_updHost ?_)

theorem State.resetFn_good {κ : Kept} (s : State) (fn : Nat) (hg : Good κ s) (f_hbm : κ.hbm = none) (f_spm : κ.spm =
    none) (f_plots : κ.plots = none) (f_cmd : κ.cmd = none) (f_id : κ.id = none) (f_tm : κ.tm = none) (f_res : κ.res
    = none) (f_img : κ.img = none) :
    Good κ (State.resetFn s fn) := by
  unfold State.resetFn
  repeat' (first
    | with_reducible assumption | with_reducible refine State.discardCmds_good _ _ ?_ f_plots f_cmd f_id
    | with_reducible refine State.configReset_good _ _ ?_
    | with_reducible refine State.finishAll_good _ _ _ _ _ ?_ f_cmd
    | with_reducible refine State.destroyPlot_good _ _ _ ?_ f_hbm f_spm f_plots f_cmd f_tm f_res f_img
    | with_reducible refine good_foldl ?_ ?_ | with_reducible refine good_foldl1 ?_ ?_
    | with_reducible refine good_foldl2 ?_ ?_ | intro _)

theorem State.linkReset_good {κ : Kept} (s : State) (link cause nonce : Nat) (hg : Good κ s) (f_hbm : κ.hbm = none)
    (f_spm : κ.spm = none) (f_plots : κ.plots = none) (f_cmd : κ.cmd = none) (f_id : κ.id = none) (f_tm : κ.tm =
    none) (f_res : κ.res = none) (f_img : κ.img = none) :
    Good κ (State.linkReset s link cause nonce) := by
  unfold State.linkReset
  repeat' (first
    | with_reducible assumption | with_reducible refine good_ite ?_ ?_
    | with_reducible refine State.wholeReset_good _ _ _ _ _ _ _ ?_ f_hbm f_spm f_plots f_cmd f_id f_tm f_res f_img
    | with_reducible refine State.resetFn_good _ _ ?_ f_hbm f_spm f_plots f_cmd f_id f_tm f_res f_img
    | fail_if_no_progress with_reducible refine good_upd ?_
    | fail_if_no_progress with_reducible refine good_updBoot ?_ | with_reducible refine good_foldl ?_ ?_
    | with_reducible refine good_foldl1 ?_ ?_ | with_reducible refine good_foldl2 ?_ ?_ | intro _)

theorem State.mapAcre_good {κ : Kept} (s : State) (a : Nat) (hg : Good κ s) :
    Good κ (State.mapAcre s a) := by
  unfold State.mapAcre
  repeat' (first
    | with_reducible assumption | with_reducible refine State.rnSet_good _ _ _ ?_
    | fail_if_no_progress with_reducible refine good_upd ?_)

theorem State.bootEnd_good {κ : Kept} (s : State) (hg : Good κ s) : Good κ (State.bootEnd s) :=
  ⟨hg.1, hg.2, memWf_of hg.wf.1 hg.wf.2.1 hg.wf.2.2.1 hg.wf.2.2.2.1 rfl hg.wf.2.2.2.2.2 hg.recs, hg.4, hg.5, hg.6, hg.7, hg.8, hg.9,
    fun _ _ => Or.inr rfl, hg.11, hg.12, hg.13, hg.14, hg.15, hg.16⟩

theorem State.fwRunning_good {κ : Kept} (s : State) (version svn : Nat) (hg : Good κ s) :
    Good κ (State.fwRunning s version svn) := by
  unfold State.fwRunning
  repeat' (first
    | with_reducible assumption | with_reducible refine State.bootSet_good _ _ _ ?_
    | with_reducible refine State.rnSet_good _ _ _ ?_ | with_reducible refine State.put_good _ _ _ _ _ ?_
    | with_reducible refine State.mapAcre_good _ _ ?_ | with_reducible refine State.bootEnd_good _ ?_
    | with_reducible refine State.clrBit_good _ _ _ ?_ | with_reducible refine State.sownPin_good _ ?_
    | with_reducible refine good_foldl ?_ ?_ | with_reducible refine good_foldl1 ?_ ?_
    | with_reducible refine good_foldl2 ?_ ?_ | intro _)

end Sys2Proof.Machine
end

