-- ==== Sys2Proof/Laws/GoodCheckpoint.lean ====
section
/-! SUPPORT. What the operations of Machine/Checkpoint.lean keep: one lemma each (Laws/GoodBase.lean). -/

namespace Sys2Proof.Machine
open Sys2Proof

-- One proof at a time: proofs checked side by side take a stack each.
set_option Elab.async false

theorem State.ckptExportEnd_good {κ : Kept} (s : State) (c : Cmd) (body : List Byte) (n reach : Nat) (page : Option
    Nat) (hg : Good κ s) (f_host : κ.host = none) (f_cmd : κ.cmd = none) :
    Good κ (State.ckptExportEnd s c body n reach page) := by
  unfold State.ckptExportEnd
  repeat' (first
    | with_reducible assumption | with_reducible refine good_ite ?_ ?_
    | with_reducible refine State.hostWrite_good _ _ _ _ ?_ f_host
    | with_reducible refine State.dmaEnd_good _ _ _ _ _ _ ?_ f_cmd)

theorem State.ckptChecks_good {κ : Kept} (s : State) (p : Nat) (hg : Good κ s) (f_plots : κ.plots = none) (f_cmd :
    κ.cmd = none) :
    Good κ (State.ckptChecks s p) := by
  unfold State.ckptChecks
  repeat' (first
    | with_reducible assumption | with_reducible refine good_ite ?_ ?_
    | with_reducible refine State.copyChecks_good _ _ _ ?_ f_plots f_cmd
    | with_reducible refine State.dataChecks_good _ _ ?_ f_plots f_cmd)

theorem State.ckptExportOp_good {κ : Kept} (s : State) (c : Cmd) (hg : Good κ s) (f_host : κ.host = none) (f_plots :
    κ.plots = none) (f_cmd : κ.cmd = none) :
    Good κ (State.ckptExportOp s c) := by
  unfold State.ckptExportOp
  repeat' (first
    | with_reducible assumption | with_reducible refine good_ite ?_ ?_
    | with_reducible refine State.finish_good _ _ _ _ ?_ f_cmd
    | with_reducible refine State.ckptChecks_good _ _ ?_ f_plots f_cmd
    | with_reducible refine State.dma_good _ _ _ _ _ _ ?_
    | with_reducible refine State.ckptExportEnd_good _ _ _ _ _ _ ?_ f_host f_cmd)

theorem State.ckptLoadFur_good {κ : Kept} (s : State) (p n f : Nat) (bs : List Byte) (hg : Good κ s) :
    Good κ (State.ckptLoadFur s p n f bs) := by
  unfold State.ckptLoadFur
  repeat' (first | with_reducible assumption | fail_if_no_progress with_reducible refine good_upd ?_)

theorem State.ckptLoadCarried_good {κ : Kept} (s : State) (p : Nat) (bs : List Byte) (hg : Good κ s) :
    Good κ (State.ckptLoadCarried s p bs) := by
  unfold State.ckptLoadCarried
  repeat' (first
    | with_reducible assumption | fail_if_no_progress with_reducible refine good_upd ?_
    | fail_if_no_progress with_reducible refine good_updHbm ?_)

theorem State.ckptWrite_good {κ : Kept} (s : State) (p n : Nat) (body : List Byte) (reach : Nat) (hg : Good κ s)
    (f_hbm : κ.hbm = none) :
    Good κ (State.ckptWrite s p n body reach) := by
  unfold State.ckptWrite
  repeat' (first
    | with_reducible assumption | with_reducible refine good_ite ?_ ?_
    | with_reducible refine State.ckptLoadFur_good _ _ _ _ _ ?_
    | with_reducible refine State.ckptLoadCarried_good _ _ _ ?_
    | with_reducible refine State.hbmStore_good _ _ _ ?_ f_hbm | with_reducible refine good_foldl ?_ ?_
    | with_reducible refine good_foldl1 ?_ ?_ | with_reducible refine good_foldl2 ?_ ?_ | intro _)

theorem State.ckptClear_good {κ : Kept} (s : State) (p : Nat) (hg : Good κ s) (f_plots : κ.plots = none) :
    Good κ (State.ckptClear s p) := by
  unfold State.ckptClear
  repeat' (first
    | with_reducible assumption | with_reducible refine State.wqStat_good _ _ ?_
    | with_reducible refine State.gateDiscard_good _ _ _ ?_ | with_reducible refine State.fioDiscard_good _ _ _ _ ?_
    | with_reducible refine State.hvtDiscard_good _ _ _ ?_ f_plots | with_reducible refine State.onFio_good _ _ _ ?_
    | fail_if_no_progress with_reducible refine good_upd ?_ | fail_if_no_progress with_reducible refine good_updHbm ?_
    | with_reducible refine good_foldl ?_ ?_ | with_reducible refine good_foldl1 ?_ ?_
    | with_reducible refine good_foldl2 ?_ ?_ | intro _)

theorem State.ckptDone_good {κ : Kept} (s : State) (p n : Nat) (hg : Good κ s) (f_plots : κ.plots = none) (f_cmd :
    κ.cmd = none) (f_tm : κ.tm = none) (f_img : κ.img = none) :
    Good κ (State.ckptDone s p n) := by
  unfold State.ckptDone
  repeat' (first
    | with_reducible assumption | with_reducible refine good_ite ?_ ?_
    | with_reducible refine State.onPlot_good _ _ _ ?_ ?_ ?_ ?_ f_plots
    | with_reducible refine State.put_good _ _ _ _ _ ?_ | with_reducible refine State.cmtStateSet_good _ _ _ ?_
    | with_reducible refine State.sigRestartAll_good _ _ ?_
    | with_reducible refine State.versionRestore_good _ _ _ ?_ f_plots f_cmd
    | fail_if_no_progress with_reducible refine good_upd ?_ | exact fun _ => rfl | exact Or.inr fun _ => rfl
    | exact Or.inr rfl | exact Or.inl (by with_reducible assumption))

theorem State.importEnd_good {κ : Kept} (s : State) (c : Cmd) (h body : List Byte) (reach : Nat) (page : Option Nat)
    (hg : Good κ s) (f_hbm : κ.hbm = none) (f_plots : κ.plots = none) (f_cmd : κ.cmd = none) (f_tm : κ.tm = none)
    (f_img : κ.img = none) :
    Good κ (State.importEnd s c h body reach page) := by
  unfold State.importEnd
  repeat' (first
    | with_reducible assumption | with_reducible refine good_ite ?_ ?_
    | with_reducible refine State.ckptClear_good _ _ ?_ f_plots
    | with_reducible refine State.ckptWrite_good _ _ _ _ _ ?_ f_hbm
    | with_reducible refine State.dmaEnd_good _ _ _ _ _ _ ?_ f_cmd
    | with_reducible refine State.ckptDone_good _ _ _ ?_ f_plots f_cmd f_tm f_img)

theorem State.importBody_good {κ : Kept} (s : State) (c : Cmd) (h : List Byte) (start : Nat) (hg : Good κ s) (f_hbm
    : κ.hbm = none) (f_plots : κ.plots = none) (f_cmd : κ.cmd = none) (f_tm : κ.tm = none) (f_img : κ.img = none) :
    Good κ (State.importBody s c h start) := by
  unfold State.importBody
  repeat' (first
    | with_reducible assumption | with_reducible refine State.dma_good _ _ _ _ _ _ ?_
    | with_reducible refine State.importEnd_good _ _ _ _ _ _ ?_ f_hbm f_plots f_cmd f_tm f_img)

theorem State.importCheck_good {κ : Kept} (s : State) (c : Cmd) (h : List Byte) (reach : Nat) (page : Option Nat)
    (hg : Good κ s) (f_hbm : κ.hbm = none) (f_plots : κ.plots = none) (f_cmd : κ.cmd = none) (f_tm : κ.tm = none) (f_img
    : κ.img = none) :
    Good κ (State.importCheck s c h reach page) := by
  unfold State.importCheck
  repeat' (first
    | with_reducible assumption | with_reducible refine good_ite ?_ ?_
    | with_reducible refine State.dmaEnd_good _ _ _ _ _ _ ?_ f_cmd
    | with_reducible refine State.finish_good _ _ _ _ ?_ f_cmd
    | with_reducible refine State.importBody_good _ _ _ _ ?_ f_hbm f_plots f_cmd f_tm f_img)

theorem State.importHead_good {κ : Kept} (s : State) (c : Cmd) (reach : Nat) (page : Option Nat) (hg : Good κ s)
    (f_hbm : κ.hbm = none) (f_plots : κ.plots = none) (f_cmd : κ.cmd = none) (f_tm : κ.tm = none) (f_img : κ.img = none)
    :
    Good κ (State.importHead s c reach page) := by
  unfold State.importHead
  repeat' (first
    | with_reducible assumption | with_reducible refine good_ite ?_ ?_
    | with_reducible refine State.dmaEnd_good _ _ _ _ _ _ ?_ f_cmd
    | with_reducible refine State.finish_good _ _ _ _ ?_ f_cmd
    | with_reducible refine State.importBody_good _ _ _ _ ?_ f_hbm f_plots f_cmd f_tm f_img
    | with_reducible refine State.dma_good _ _ _ _ _ _ ?_
    | with_reducible refine State.importCheck_good _ _ _ _ _ ?_ f_hbm f_plots f_cmd f_tm f_img)

theorem State.ckptImportOp_good {κ : Kept} (s : State) (c : Cmd) (hg : Good κ s) (f_hbm : κ.hbm = none) (f_plots :
    κ.plots = none) (f_cmd : κ.cmd = none) (f_tm : κ.tm = none) (f_img : κ.img = none) :
    Good κ (State.ckptImportOp s c) := by
  unfold State.ckptImportOp
  repeat' (first
    | with_reducible assumption | with_reducible refine good_ite ?_ ?_
    | with_reducible refine State.finish_good _ _ _ _ ?_ f_cmd | with_reducible refine State.dma_good _ _ _ _ _ _ ?_
    | with_reducible refine State.importHead_good _ _ _ _ ?_ f_hbm f_plots f_cmd f_tm f_img | intro _ | (split))

end Sys2Proof.Machine
end

