-- ==== Sys2Proof/Laws/GoodUpdate.lean ====
section
/-! SUPPORT. What the operations of Machine/Update.lean keep: one lemma each (Laws/GoodBase.lean). -/

namespace Sys2Proof.Machine
open Sys2Proof

-- One proof at a time: proofs checked side by side take a stack each.
set_option Elab.async false

theorem State.xtSwapAt_good {κ : Kept} (s : State) (c : Cmd) (n : Nat) (hg : Good κ s) (f_cmd : κ.cmd = none) :
    Good κ (State.xtSwapAt s c n) := by
  unfold State.xtSwapAt
  repeat' (first
    | with_reducible assumption | with_reducible refine good_ite ?_ ?_
    | with_reducible refine State.finishAt_good _ _ _ _ _ _ ?_ f_cmd
    | with_reducible refine State.rnSet64_good _ _ _ ?_ | with_reducible refine State.setBit_good _ _ _ ?_)

theorem State.xtLoadRange_good {κ : Kept} (s : State) (c : Cmd) (a b : Nat) (hg : Good κ s) :
    Good κ (State.xtLoadRange s c a b) := by
  unfold State.xtLoadRange
  repeat' (first
    | with_reducible assumption | with_reducible refine State.xtWrite_good _ _ _ ?_
    | with_reducible refine good_foldl ?_ ?_ | with_reducible refine good_foldl1 ?_ ?_
    | with_reducible refine good_foldl2 ?_ ?_ | intro _)

theorem State.xtLoadOp_good {κ : Kept} (s : State) (c : Cmd) (hg : Good κ s) (f_cmd : κ.cmd = none) :
    Good κ (State.xtLoadOp s c) := by
  unfold State.xtLoadOp
  repeat' (first
    | with_reducible assumption | with_reducible refine good_ite ?_ ?_
    | with_reducible refine State.finish_good _ _ _ _ ?_ f_cmd | with_reducible refine State.dma_good _ _ _ _ _ _ ?_
    | with_reducible refine State.xtLoadRange_good _ _ _ _ ?_
    | with_reducible refine State.dmaEnd_good _ _ _ _ _ _ ?_ f_cmd
    | with_reducible refine State.xtSwapAt_good _ _ _ ?_ f_cmd
    | with_reducible refine State.finishAt_good _ _ _ _ _ _ ?_ f_cmd)

theorem State.raiseSvn_good {κ : Kept} (s : State) (svn : Nat) (hg : Good κ s) : Good κ (State.raiseSvn s svn) :=
  ⟨hg.1, hg.2, hg.3, le_trans hg.4 (le_max_left _ _), hg.5, hg.6, hg.7, hg.8, hg.9, hg.10, hg.11, hg.12, hg.13, hg.14, hg.15, hg.16⟩

theorem State.fwStage_good {κ : Kept} (s : State) (c : Cmd) (version svn : Nat) (hg : Good κ s) (f_cmd : κ.cmd =
    none) :
    Good κ (State.fwStage s c version svn) := by
  unfold State.fwStage
  repeat' (first
    | with_reducible assumption | with_reducible refine State.blockCmd_good _ _ ?_ f_cmd
    | with_reducible refine State.fwRestart_good _ ?_ f_cmd | fail_if_no_progress with_reducible refine good_upd ?_
    | fail_if_no_progress with_reducible refine good_updBoot ?_
    | fail_if_no_progress with_reducible refine good_updCmd ?_ f_cmd
    | fail_if_no_progress with_reducible refine good_updBootCmd ?_ f_cmd)

theorem State.fwTake_good {κ : Kept} (s : State) (c : Cmd) (image : List Byte) (hg : Good κ s) (f_cmd : κ.cmd =
    none) :
    Good κ (State.fwTake s c image) := by
  unfold State.fwTake
  repeat' (first
    | with_reducible assumption | with_reducible refine good_ite ?_ ?_
    | with_reducible refine State.raiseSvn_good _ _ ?_ | with_reducible refine State.fwStage_good _ _ _ _ ?_ f_cmd
    | with_reducible refine State.finishAt_good _ _ _ _ _ _ ?_ f_cmd | intro _ | (split)
    | with_reducible refine good_pair2 (by with_reducible assumption) ?_
    | with_reducible refine good_pair1 (by with_reducible assumption) ?_
    | with_reducible refine good_pair22 (by with_reducible assumption) ?_
    | with_reducible refine good_pair222 (by with_reducible assumption) ?_
    | with_reducible refine good_pair2222 (by with_reducible assumption) ?_ | (dsimp only))

theorem State.fwUpdateOp_good {κ : Kept} (s : State) (c : Cmd) (hg : Good κ s) (f_cmd : κ.cmd = none) :
    Good κ (State.fwUpdateOp s c) := by
  unfold State.fwUpdateOp
  repeat' (first
    | with_reducible assumption | with_reducible refine good_ite ?_ ?_
    | with_reducible refine State.finish_good _ _ _ _ ?_ f_cmd | with_reducible refine State.dma_good _ _ _ _ _ _ ?_
    | with_reducible refine State.dmaEnd_good _ _ _ _ _ _ ?_ f_cmd
    | with_reducible refine State.fwTake_good _ _ _ ?_ f_cmd)

theorem State.keyWrite_good {κ : Kept} (s : State) (slot : Nat) (v : List Byte) (hg : Good κ s) (f_keys : κ.keys = none) :
    Good κ (State.keyWrite s slot v) :=
  ⟨hg.1, hg.2, hg.3, hg.4, hg.5, fun c h => by rw [f_keys] at h; contradiction, hg.7, hg.8, hg.9, hg.10, hg.11, hg.12, hg.13, hg.14, hg.15, hg.16⟩

theorem State.keyOp_good {κ : Kept} (s : State) (c : Cmd) (hg : Good κ s) (f_keys : κ.keys = none) (f_cmd : κ.cmd =
    none) :
    Good κ (State.keyOp s c) := by
  unfold State.keyOp
  repeat' (first
    | with_reducible assumption | with_reducible refine good_ite ?_ ?_
    | with_reducible refine State.slot_good _ _ _ ?_ | with_reducible refine State.finish_good _ _ _ _ ?_ f_cmd
    | with_reducible refine State.dma_good _ _ _ _ _ _ ?_
    | with_reducible refine State.dmaEnd_good _ _ _ _ _ _ ?_ f_cmd
    | with_reducible refine State.keyWrite_good _ _ _ ?_ f_keys | intro _ | (split)
    | with_reducible refine good_pair2 (by with_reducible assumption) ?_
    | with_reducible refine good_pair1 (by with_reducible assumption) ?_
    | with_reducible refine good_pair22 (by with_reducible assumption) ?_
    | with_reducible refine good_pair222 (by with_reducible assumption) ?_
    | with_reducible refine good_pair2222 (by with_reducible assumption) ?_ | (dsimp only))

theorem State.gateWrite_good {κ : Kept} (s : State) (fn a v : Nat) (r : RegRow) (is : List Nat) (hg : Good κ s) :
    Good κ (State.gateWrite s fn a v r is) := by
  unfold State.gateWrite
  repeat' (first
    | with_reducible assumption | with_reducible refine good_ite ?_ ?_
    | with_reducible refine State.rsvdCheck_good _ _ _ _ ?_ | with_reducible refine State.rnSet_good _ _ _ ?_
    | with_reducible refine State.clrBit_good _ _ _ ?_ | with_reducible refine State.put_good _ _ _ _ _ ?_
    | with_reducible refine State.gateParkOne_good _ _ ?_ | fail_if_no_progress with_reducible refine good_upd ?_)

end Sys2Proof.Machine
end

