-- ==== Sys2Proof/Laws/GoodReceive.lean ====
section
/-! SUPPORT. What the operations of Machine/Receive.lean keep: one lemma each (Laws/GoodBase.lean). -/

namespace Sys2Proof.Machine
open Sys2Proof

-- One proof at a time: proofs checked side by side take a stack each.
set_option Elab.async false

theorem State.raisePkt_good {κ : Kept} (s : State) (cause q i : Nat) (hg : Good κ s) :
    Good κ (State.raisePkt s cause q i) := by
  unfold State.raisePkt
  repeat' (first | with_reducible assumption | with_reducible refine State.raiseXch_good _ _ _ _ _ _ _ ?_)

theorem State.pktBad_good {κ : Kept} (s : State) (q i cause : Nat) (hg : Good κ s) :
    Good κ (State.pktBad s q i cause) := by
  unfold State.pktBad
  repeat' (first
    | with_reducible assumption | with_reducible refine State.raisePkt_good _ _ _ _ ?_
    | with_reducible refine State.count_good _ _ ?_)

theorem State.misroute_good {κ : Kept} (s : State) (q i : Nat) (hg : Good κ s) :
    Good κ (State.misroute s q i) := by
  unfold State.misroute
  repeat' (first | with_reducible assumption | with_reducible refine State.raisePkt_good _ _ _ _ ?_)

theorem State.plotControl_good {κ : Kept} (s : State) (ws : List Word) (hg : Good κ s) (f_plots : κ.plots = none)
    (f_cmd : κ.cmd = none) (f_tm : κ.tm = none) (f_img : κ.img = none) :
    Good κ (State.plotControl s ws) := by
  unfold State.plotControl
  repeat' (first
    | with_reducible assumption | with_reducible refine State.sownPacket_good _ _ ?_ f_plots f_cmd f_img
    | with_reducible refine State.launchPacket_good _ _ ?_ f_plots
    | with_reducible refine State.haltPacket_good _ _ ?_ f_plots
    | with_reducible refine State.stakeDonePacket_good _ _ ?_ f_plots f_cmd
    | with_reducible refine State.readyPacket_good _ _ _ ?_ f_plots f_cmd f_tm
    | with_reducible refine State.resumePacket_good _ _ ?_ f_plots
    | with_reducible refine State.divergePacket_good _ _ ?_ f_plots f_cmd
    | with_reducible refine State.rollbackPacket_good _ _ ?_ f_plots | intro _ | (split))

theorem State.crossTrigger_good {κ : Kept} (s : State) (ws : List Word) (hg : Good κ s) (f_plots : κ.plots = none) :
    Good κ (State.crossTrigger s ws) := by
  unfold State.crossTrigger
  repeat' (first
    | with_reducible assumption | with_reducible refine State.armPacket_good _ _ ?_ f_plots
    | with_reducible refine State.firePacket_good _ _ ?_ f_plots | intro _ | (split))

theorem State.forwardedPacket_good {κ : Kept} (s : State) (ws : List Word) (hg : Good κ s) (f_cmd : κ.cmd = none) :
    Good κ (State.forwardedPacket s ws) := by
  unfold State.forwardedPacket
  repeat' (first
    | with_reducible assumption | with_reducible refine State.forwardedCommand_good _ _ ?_ f_cmd
    | with_reducible refine State.forwardedCompletion_good _ _ ?_ f_cmd | intro _ | (split))

theorem State.deliver_good {κ : Kept} (s : State) (q i : Nat) (ws : List Word) (hg : Good κ s) (f_plots : κ.plots =
    none) (f_cmd : κ.cmd = none) (f_tm : κ.tm = none) (f_img : κ.img = none) :
    Good κ (State.deliver s q i ws) := by
  unfold State.deliver
  repeat' (first
    | with_reducible assumption | with_reducible refine State.timeSync_good _ _ _ _ ?_
    | with_reducible refine State.crossTrigger_good _ _ ?_ f_plots
    | with_reducible refine State.votePacket_good _ _ ?_
    | with_reducible refine State.stretchNotice_good _ _ _ ?_ f_plots f_cmd f_tm
    | with_reducible refine State.plotControl_good _ _ ?_ f_plots f_cmd f_tm f_img
    | with_reducible refine State.forwardedPacket_good _ _ ?_ f_cmd
    | with_reducible refine State.mgmtPacket_good _ _ _ ?_ f_plots f_cmd | intro _ | (split))

theorem State.routePacket_good {κ : Kept} (s : State) (q i : Nat) (ws : List Word) (hg : Good κ s) (f_plots :
    κ.plots = none) (f_cmd : κ.cmd = none) (f_tm : κ.tm = none) (f_img : κ.img = none) :
    Good κ (State.routePacket s q i ws) := by
  unfold State.routePacket
  repeat' (first
    | with_reducible assumption | with_reducible refine good_ite ?_ ?_
    | with_reducible refine State.flood_good _ _ _ _ ?_ | with_reducible refine State.markSeen_good _ _ _ ?_
    | with_reducible refine State.deliver_good _ _ _ _ ?_ f_plots f_cmd f_tm f_img
    | with_reducible refine State.forwardFlood_good _ _ _ ?_ | with_reducible refine State.ctrlQueue_good _ _ _ _ ?_
    | with_reducible refine State.misroute_good _ _ _ ?_)

theorem State.ctrlReceive_good {κ : Kept} (s : State) (q i : Nat) (ws : List Word) (hg : Good κ s) (f_plots :
    κ.plots = none) (f_cmd : κ.cmd = none) (f_tm : κ.tm = none) (f_img : κ.img = none) :
    Good κ (State.ctrlReceive s q i ws) := by
  unfold State.ctrlReceive
  repeat' (first
    | with_reducible assumption | with_reducible refine good_ite ?_ ?_
    | with_reducible refine State.pktBad_good _ _ _ _ ?_ | with_reducible refine State.count_good _ _ ?_
    | with_reducible refine State.routePacket_good _ _ _ _ ?_ f_plots f_cmd f_tm f_img)

theorem State.loseFrame_good {κ : Kept} (s : State) (q : Nat) (x : RxSlot) (hg : Good κ s) (f_plots : κ.plots =
    none) (f_cmd : κ.cmd = none) :
    Good κ (State.loseFrame s q x) := by
  unfold State.loseFrame
  repeat' (first
    | with_reducible assumption | with_reducible refine good_ite ?_ ?_
    | with_reducible refine State.takeGroups_good _ _ _ _ _ _ _ ?_ f_plots f_cmd | intro _ | (split))

theorem State.rxError_good {κ : Kept} (s : State) (q : Nat) (x : RxSlot) (cause cnt : Nat) (hg : Good κ s) (f_plots
    : κ.plots = none) (f_cmd : κ.cmd = none) :
    Good κ (State.rxError s q x cause cnt) := by
  unfold State.rxError
  repeat' (first
    | with_reducible assumption | with_reducible refine State.xchError_good _ _ _ _ _ _ _ ?_ f_plots f_cmd)

theorem State.rxDown_good {κ : Kept} (s : State) (q : Nat) (x : RxSlot) (hg : Good κ s) (f_plots : κ.plots = none)
    (f_cmd : κ.cmd = none) :
    Good κ (State.rxDown s q x) := by
  unfold State.rxDown
  repeat' (first
    | with_reducible assumption | with_reducible refine good_ite ?_ ?_
    | with_reducible refine State.rxError_good _ _ _ _ _ ?_ f_plots f_cmd
    | with_reducible refine State.loseFrame_good _ _ _ ?_ f_plots f_cmd)

theorem State.markerWatch_good {κ : Kept} (s : State) (q i : Nat) (x : RxSlot) (f : BitVec 896) (hg : Good κ s)
    (f_cmd : κ.cmd = none) :
    Good κ (State.markerWatch s q i x f) := by
  unfold State.markerWatch
  repeat' (first
    | with_reducible assumption | with_reducible refine good_ite ?_ ?_
    | with_reducible refine State.onLane_good _ _ _ _ ?_ | with_reducible refine State.markerLost_good _ _ _ ?_ f_cmd)

theorem State.rxUndecoded_good {κ : Kept} (s : State) (q i : Nat) (x : RxSlot) (hg : Good κ s) (f_plots : κ.plots =
    none) (f_cmd : κ.cmd = none) :
    Good κ (State.rxUndecoded s q i x) := by
  unfold State.rxUndecoded
  repeat' (first
    | with_reducible assumption | with_reducible refine good_ite ?_ ?_
    | with_reducible refine State.rxError_good _ _ _ _ _ ?_ f_plots f_cmd
    | with_reducible refine State.loseFrame_good _ _ _ ?_ f_plots f_cmd
    | with_reducible refine State.count_good _ _ ?_ | with_reducible refine State.onLane_good _ _ _ _ ?_
    | with_reducible refine State.laneDown_good _ _ _ ?_ f_cmd)

theorem State.rxFixed_good {κ : Kept} (s : State) (q i n : Nat) (hg : Good κ s) :
    Good κ (State.rxFixed s q i n) := by
  unfold State.rxFixed
  repeat' (first
    | with_reducible assumption | with_reducible refine State.bucket_good _ _ _ ?_
    | with_reducible refine State.countBy_good _ _ _ ?_ | with_reducible refine good_foldl ?_ ?_
    | with_reducible refine good_foldl1 ?_ ?_ | with_reducible refine good_foldl2 ?_ ?_ | intro _)

theorem State.rxLowPower_good {κ : Kept} (s : State) (q i : Nat) (hg : Good κ s) :
    Good κ (State.rxLowPower s q i) := by
  unfold State.rxLowPower
  repeat' (first
    | with_reducible assumption | with_reducible refine good_ite ?_ ?_
    | with_reducible refine State.onLane_good _ _ _ _ ?_ | with_reducible refine State.laneStateSet_good _ _ _ _ ?_)

theorem State.rxAliveCheck_good {κ : Kept} (s : State) (q i : Nat) (x : RxSlot) (late : Int) (alive ftype : Nat) (hg
    : Good κ s) (f_plots : κ.plots = none) (f_cmd : κ.cmd = none) :
    Good κ (State.rxAliveCheck s q i x late alive ftype) := by
  unfold State.rxAliveCheck
  repeat' (first
    | with_reducible assumption | with_reducible refine good_ite ?_ ?_
    | with_reducible refine State.raiseLnk_good _ _ _ _ ?_ | with_reducible refine State.count_good _ _ ?_
    | with_reducible refine State.rxError_good _ _ _ _ _ ?_ f_plots f_cmd
    | fail_if_no_progress with_reducible refine good_upd ?_)

theorem State.rxHeader_good {κ : Kept} (s : State) (q : Nat) (x : RxSlot) (hdr : Nat) (hg : Good κ s) (f_plots :
    κ.plots = none) (f_cmd : κ.cmd = none) (f_tm : κ.tm = none) :
    Good κ (State.rxHeader s q x hdr) := by
  unfold State.rxHeader
  repeat' (first
    | with_reducible assumption | with_reducible refine good_ite ?_ ?_
    | with_reducible refine State.takeVotes_good _ _ _ _ ?_ f_plots f_cmd
    | with_reducible refine State.wantStretch_good _ _ _ _ ?_ f_plots f_cmd f_tm | intro _ | (split))

theorem State.rxPayload_good {κ : Kept} (s : State) (q i : Nat) (x : RxSlot) (ftype payload : Nat) (hg : Good κ s)
    (f_plots : κ.plots = none) (f_cmd : κ.cmd = none) (f_tm : κ.tm = none) (f_img : κ.img = none) :
    Good κ (State.rxPayload s q i x ftype payload) := by
  unfold State.rxPayload
  repeat' (first
    | with_reducible assumption | with_reducible refine good_ite ?_ ?_
    | with_reducible refine State.rxError_good _ _ _ _ _ ?_ f_plots f_cmd
    | with_reducible refine State.loseFrame_good _ _ _ ?_ f_plots f_cmd
    | with_reducible refine State.takeGroups_good _ _ _ _ _ _ _ ?_ f_plots f_cmd
    | with_reducible refine State.raiseXch_good _ _ _ _ _ _ _ ?_ | with_reducible refine State.count_good _ _ ?_
    | with_reducible refine State.ctrlReceive_good _ _ _ _ ?_ f_plots f_cmd f_tm f_img | intro _ | (split))

theorem State.rxDecoded_good {κ : Kept} (s : State) (q i : Nat) (x : RxSlot) (late : Int) (d : Decoded) (hg : Good κ
    s) (f_plots : κ.plots = none) (f_cmd : κ.cmd = none) (f_tm : κ.tm = none) (f_img : κ.img = none) :
    Good κ (State.rxDecoded s q i x late d) := by
  unfold State.rxDecoded
  repeat' (first
    | with_reducible assumption | with_reducible refine good_ite ?_ ?_
    | with_reducible refine State.onLane_good _ _ _ _ ?_ | with_reducible refine State.rxFixed_good _ _ _ _ ?_
    | with_reducible refine State.rxLowPower_good _ _ _ ?_ | with_reducible refine State.count_good _ _ ?_
    | with_reducible refine State.rxError_good _ _ _ _ _ ?_ f_plots f_cmd
    | with_reducible refine State.loseFrame_good _ _ _ ?_ f_plots f_cmd
    | with_reducible refine State.rxAliveCheck_good _ _ _ _ _ _ _ ?_ f_plots f_cmd
    | with_reducible refine State.rxHeader_good _ _ _ _ ?_ f_plots f_cmd f_tm
    | with_reducible refine State.rxPayload_good _ _ _ _ _ _ ?_ f_plots f_cmd f_tm f_img)

theorem State.rxTest_good {κ : Kept} (s : State) (q i : Nat) (f : BitVec 896) (hg : Good κ s) :
    Good κ (State.rxTest s q i f) := by
  unfold State.rxTest
  repeat' (first
    | with_reducible assumption | with_reducible refine good_ite ?_ ?_
    | with_reducible refine State.chkBits_good _ _ _ _ ?_ | with_reducible refine State.sendBits_good _ _ _ _ ?_)

theorem State.frameReceive_good {κ : Kept} (s : State) (q i pn fidx : Nat) (late : Int) (f0 : BitVec 896) (hg : Good
    κ s) (f_hbm : κ.hbm = none) (f_plots : κ.plots = none) (f_cmd : κ.cmd = none) (f_tm : κ.tm = none) (f_img :
    κ.img = none) :
    Good κ (State.frameReceive s q i pn fidx late f0) := by
  unfold State.frameReceive
  repeat' (first
    | with_reducible assumption | with_reducible refine good_ite ?_ ?_
    | with_reducible refine State.rxTest_good _ _ _ _ ?_
    | with_reducible refine State.rxDecoded_good _ _ _ _ _ _ ?_ f_plots f_cmd f_tm f_img
    | with_reducible refine State.rxUndecoded_good _ _ _ _ ?_ f_plots f_cmd
    | with_reducible refine State.markerWatch_good _ _ _ _ _ ?_ f_cmd
    | with_reducible refine State.wakeCheck_good _ ?_ f_hbm f_plots f_cmd f_img
    | with_reducible refine State.rxDown_good _ _ _ ?_ f_plots f_cmd | intro _ | (split))

theorem State.rxInject_good {κ : Kept} (s : State) (q i pn fidx : Nat) (hg : Good κ s) (f_plots : κ.plots = none)
    (f_cmd : κ.cmd = none) :
    Good κ (State.rxInject s q i pn fidx) := by
  unfold State.rxInject
  repeat' (first
    | with_reducible assumption | with_reducible refine good_ite ?_ ?_
    | with_reducible refine State.injectAt_good _ _ _ _ _ ?_ ?_ ?_
    | with_reducible refine State.raiseLnk_good _ _ _ _ ?_ | with_reducible refine State.count_good _ _ ?_
    | with_reducible refine State.xchError_good _ _ _ _ _ _ _ ?_ f_plots f_cmd
    | with_reducible refine State.raiseXch_good _ _ _ _ _ _ _ ?_ | exact fun _ => rfl | exact Or.inr fun _ => rfl
    | exact Or.inr rfl | exact Or.inl (by with_reducible assumption) | intro _ | (split))

end Sys2Proof.Machine
end

