-- ==== Sys2Proof/Laws/GoodBar0.lean ====
section
/-! SUPPORT. What the operations of Machine/Bar0.lean keep: one lemma each (Laws/GoodBase.lean). -/

namespace Sys2Proof.Machine
open Sys2Proof

-- One proof at a time: proofs checked side by side take a stack each.
set_option Elab.async false

theorem State.thermCfgWrite_good {κ : Kept} (s : State) (fn a v : Nat) (r : RegRow) (is : List Nat) (hg : Good κ s)
    :
    Good κ (State.thermCfgWrite s fn a v r is) := by
  unfold State.thermCfgWrite
  repeat' (first
    | with_reducible assumption | with_reducible refine good_ite ?_ ?_
    | with_reducible refine State.plainWrite_good _ _ _ _ _ _ ?_ | with_reducible refine State.alertFrom_good _ _ ?_
    | with_reducible refine State.rsvdCheck_good _ _ _ _ ?_)

theorem State.rstCauseWrite_good {κ : Kept} (s : State) (fn v : Nat) (r : RegRow) (hg : Good κ s) :
    Good κ (State.rstCauseWrite s fn v r) := by
  unfold State.rstCauseWrite
  repeat' (first
    | with_reducible assumption | with_reducible refine good_ite ?_ ?_
    | with_reducible refine State.rsvdCheck_good _ _ _ _ ?_ | fail_if_no_progress with_reducible refine good_upd ?_)

theorem State.funcCfgWrite_good {κ : Kept} (s : State) (fn a v : Nat) (r : RegRow) (hg : Good κ s) :
    Good κ (State.funcCfgWrite s fn a v r) := by
  unfold State.funcCfgWrite
  repeat' (first
    | with_reducible assumption | with_reducible refine State.rsvdCheck_good _ _ _ _ ?_
    | with_reducible refine State.pf0Field_good _ _ _ _ _ _ ?_)

theorem State.cmtCfgWrite_good {κ : Kept} (s : State) (fn a v : Nat) (r : RegRow) (is : List Nat) (hg : Good κ s) :
    Good κ (State.cmtCfgWrite s fn a v r is) := by
  unfold State.cmtCfgWrite
  repeat' (first
    | with_reducible assumption | with_reducible refine good_ite ?_ ?_
    | with_reducible refine State.plainWrite_good _ _ _ _ _ _ ?_)

theorem State.intCfgWrite_good {κ : Kept} (s : State) (fn a v : Nat) (r : RegRow) (is : List Nat) (hg : Good κ s) :
    Good κ (State.intCfgWrite s fn a v r is) := by
  unfold State.intCfgWrite
  repeat' (first
    | with_reducible assumption | with_reducible refine good_ite ?_ ?_
    | with_reducible refine State.rsvdCheck_good _ _ _ _ ?_
    | with_reducible refine State.plainWrite_good _ _ _ _ _ _ ?_ | with_reducible refine State.intEmptied_good _ _ ?_)

theorem State.sigCfgWrite_good {κ : Kept} (s : State) (fn a v : Nat) (r : RegRow) (is : List Nat) (hg : Good κ s) :
    Good κ (State.sigCfgWrite s fn a v r is) := by
  unfold State.sigCfgWrite
  repeat' (first
    | with_reducible assumption | with_reducible refine good_ite ?_ ?_
    | with_reducible refine State.rsvdCheck_good _ _ _ _ ?_
    | with_reducible refine State.plainWrite_good _ _ _ _ _ _ ?_ | intro _ | (split))

theorem State.devIdWrite_good {κ : Kept} (s : State) (fn a v : Nat) (r : RegRow) (is : List Nat) (hg : Good κ s) :
    Good κ (State.devIdWrite s fn a v r is) := by
  unfold State.devIdWrite
  repeat' (first
    | with_reducible assumption | with_reducible refine good_ite ?_ ?_
    | with_reducible refine State.rsvdCheck_good _ _ _ _ ?_
    | with_reducible refine State.plainWrite_good _ _ _ _ _ _ ?_)

theorem State.sownMaskWrite_good {κ : Kept} (s : State) (fn a v : Nat) (r : RegRow) (is : List Nat) (hg : Good κ s)
    :
    Good κ (State.sownMaskWrite s fn a v r is) := by
  unfold State.sownMaskWrite
  repeat' (first
    | with_reducible assumption | with_reducible refine good_ite ?_ ?_
    | with_reducible refine State.rsvdCheck_good _ _ _ _ ?_
    | with_reducible refine State.plainWrite_good _ _ _ _ _ _ ?_ | with_reducible refine State.sownPin_good _ ?_)

theorem State.bktCfgWrite_good {κ : Kept} (s : State) (fn a v : Nat) (r : RegRow) (is : List Nat) (hg : Good κ s) :
    Good κ (State.bktCfgWrite s fn a v r is) := by
  unfold State.bktCfgWrite
  repeat' (first
    | with_reducible assumption | with_reducible refine good_ite ?_ ?_
    | with_reducible refine State.plainWrite_good _ _ _ _ _ _ ?_)

theorem State.ftCfgWrite_good {κ : Kept} (s : State) (fn a v : Nat) (r : RegRow) (is : List Nat) (hg : Good κ s) :
    Good κ (State.ftCfgWrite s fn a v r is) := by
  unfold State.ftCfgWrite
  repeat' (first
    | with_reducible assumption | with_reducible refine good_ite ?_ ?_
    | with_reducible refine State.plainWrite_good _ _ _ _ _ _ ?_ | with_reducible refine State.ppsGate_good _ ?_
    | with_reducible refine State.selectGm_good _ ?_)

theorem State.monLock_good {κ : Kept} (s : State) (hg : Good κ s) : Good κ (State.monLock s) := by
  unfold State.monLock
  split
  · exact ⟨hg.1, hg.2, hg.3, hg.4, fun h => ⟨(hg.5 h).1, rfl⟩, hg.6, hg.7, hg.8, hg.9, hg.10, hg.11, hg.12, hg.13, hg.14, hg.15, hg.16⟩
  · exact hg

theorem State.monCtrlWrite_good {κ : Kept} (s : State) (fn v : Nat) (r : RegRow) (hg : Good κ s) :
    Good κ (State.monCtrlWrite s fn v r) := by
  unfold State.monCtrlWrite
  repeat' (first
    | with_reducible assumption | with_reducible refine good_ite ?_ ?_
    | with_reducible refine State.rsvdCheck_good _ _ _ _ ?_ | with_reducible refine State.monLock_good _ ?_)

theorem State.writeLow_good {κ : Kept} (s : State) (fn a v nonce : Nat) (r : RegRow) (is : List Nat) (hg : Good κ s)
    (f_hbm : κ.hbm = none) (f_spm : κ.spm = none) (f_plots : κ.plots = none) (f_cmd : κ.cmd = none) (f_id : κ.id =
    none) (f_tm : κ.tm = none) (f_res : κ.res = none) (f_img : κ.img = none) :
    Good κ (State.writeLow s fn a v nonce r is) := by
  unfold State.writeLow
  repeat' (first
    | with_reducible assumption | with_reducible refine good_ite ?_ ?_
    | with_reducible refine State.thermCfgWrite_good _ _ _ _ _ _ ?_
    | with_reducible refine State.rstCauseWrite_good _ _ _ _ ?_
    | with_reducible refine State.devResetWrite_good _ _ _ _ _ ?_ f_hbm f_spm f_plots f_cmd f_id f_tm f_res f_img
    | with_reducible refine State.ftCfgWrite_good _ _ _ _ _ _ ?_
    | with_reducible refine State.rangeWrite_good _ _ _ _ _ _ ?_
    | with_reducible refine State.funcCfgWrite_good _ _ _ _ _ ?_
    | with_reducible refine State.cmtCfgWrite_good _ _ _ _ _ _ ?_
    | with_reducible refine State.intCfgWrite_good _ _ _ _ _ _ ?_
    | with_reducible refine State.plainWrite_good _ _ _ _ _ _ ?_ | with_reducible refine State.intEmptied_good _ _ ?_
    | with_reducible refine State.goWrite_good _ _ _ _ ?_ | with_reducible refine State.sownPin_good _ ?_
    | with_reducible refine State.sownMaskWrite_good _ _ _ _ _ _ ?_)

theorem State.writeMid_good {κ : Kept} (s : State) (fn a v : Nat) (r : RegRow) (is : List Nat) (hg : Good κ s) :
    Good κ (State.writeMid s fn a v r is) := by
  unfold State.writeMid
  repeat' (first
    | with_reducible assumption | with_reducible refine good_ite ?_ ?_
    | with_reducible refine State.rsvdCheck_good _ _ _ _ ?_ | with_reducible refine State.glnCfgWrite_good _ _ _ _ ?_
    | with_reducible refine State.hbmRateWrite_good _ _ _ _ _ _ ?_
    | with_reducible refine State.bktCfgWrite_good _ _ _ _ _ _ ?_ | with_reducible refine State.clrBit_good _ _ _ ?_
    | with_reducible refine State.sigCfgWrite_good _ _ _ _ _ _ ?_
    | with_reducible refine State.bankWrite_good _ _ _ _ _ ?_
    | with_reducible refine State.nocCfgWrite_good _ _ _ _ ?_
    | with_reducible refine State.devIdWrite_good _ _ _ _ _ _ ?_
    | with_reducible refine State.monCtrlWrite_good _ _ _ _ ?_
    | with_reducible refine State.plainWrite_good _ _ _ _ _ _ ?_)

theorem State.writeHigh_good {κ : Kept} (s : State) (fn a v : Nat) (r : RegRow) (is : List Nat) (hg : Good κ s)
    (f_cmd : κ.cmd = none) :
    Good κ (State.writeHigh s fn a v r is) := by
  unfold State.writeHigh
  repeat' (first
    | with_reducible assumption | with_reducible refine good_ite ?_ ?_
    | with_reducible refine State.laneCtrlWrite_good _ _ _ _ _ ?_ f_cmd
    | with_reducible refine State.laneTestWrite_good _ _ _ _ _ ?_
    | with_reducible refine State.portCtrlWrite_good _ _ _ _ _ ?_ f_cmd
    | with_reducible refine State.corrWrite_good _ _ _ _ _ _ ?_
    | with_reducible refine State.gateWrite_good _ _ _ _ _ _ ?_
    | with_reducible refine State.queueWrite_good _ _ _ _ _ _ ?_ f_cmd
    | with_reducible refine State.plainWrite_good _ _ _ _ _ _ ?_)

theorem State.writeCommon_good {κ : Kept} (s : State) (fn a v : Nat) (r : RegRow) (is : List Nat)
    (hg : Good κ s) (s1 : State) (he : State.writeCommon s fn a v r is = some s1) : Good κ s1 := by
  unfold State.writeCommon at he
  repeat' (first | contradiction | split at he)
  all_goals (injection he with he; subst he)
  all_goals first
    | exact State.firstAck_good _ _ _ (State.rsvdCheck_good _ _ _ _ hg)
    | exact State.histAck_good _ _ _ (State.rsvdCheck_good _ _ _ _ hg)
    | exact State.injectWrite_good _ _ _ _ _ _ _ hg
    | exact State.plainWrite_good _ _ _ _ _ _ hg
    | exact State.clearWrite_good _ _ _ (State.rsvdCheck_good _ _ _ _ hg)
    | exact hg

theorem State.writeReg_good {κ : Kept} (s : State) (fn a v nonce : Nat) (r : RegRow) (is : List Nat)
    (hg : Good κ s) (f_hbm : κ.hbm = none) (f_spm : κ.spm = none) (f_plots : κ.plots = none) (f_cmd : κ.cmd = none)
    (f_id : κ.id = none) (f_tm : κ.tm = none) (f_res : κ.res = none) (f_img : κ.img = none) : Good κ (State.writeReg s fn a v nonce r is) := by
  unfold State.writeReg
  split
  · rename_i he; exact State.writeCommon_good _ _ _ _ _ _ hg _ he
  · exact good_ite (State.writeLow_good _ _ _ _ _ _ _ hg f_hbm f_spm f_plots f_cmd f_id f_tm f_res f_img) (good_ite (State.writeMid_good _ _ _ _ _ _ hg)
      (State.writeHigh_good _ _ _ _ _ _ hg f_cmd))

theorem State.tripleSet_good {κ : Kept} (s : State) (a : Nat) (hg : Good κ s) :
    Good κ (State.tripleSet s a) := by
  unfold State.tripleSet
  repeat' (first
    | with_reducible assumption | with_reducible refine good_ite ?_ ?_
    | fail_if_no_progress with_reducible refine good_upd ?_)

theorem State.bar0Write_good {κ : Kept} (s : State) (fn a v nonce : Nat) (hg : Good κ s) (f_hbm : κ.hbm = none)
    (f_spm : κ.spm = none) (f_window : κ.window = none) (f_plots : κ.plots = none) (f_cmd : κ.cmd = none) (f_id :
    κ.id = none) (f_tm : κ.tm = none) (f_res : κ.res = none) (f_img : κ.img = none) :
    Good κ (State.bar0Write s fn a v nonce) := by
  unfold State.bar0Write
  repeat' (first
    | with_reducible assumption | with_reducible refine good_ite ?_ ?_
    | with_reducible refine State.opened_good _ _ _ _ ?_ ?_
    | with_reducible refine State.writeReg_good _ _ _ _ _ _ _ ?_ f_hbm f_spm f_plots f_cmd f_id f_tm f_res f_img
    | with_reducible refine State.tripleSet_good _ _ ?_ | with_reducible refine State.devStat_good _ _ _ ?_
    | with_reducible refine State.bootWrite_good _ _ _ ?_ f_window
    | with_reducible refine State.aliasWrite_good _ _ _ _ _ _ _ ?_ f_spm
    | with_reducible refine State.spmAccess_good _ _ _ _ _ ?_ f_spm | exact fun _ => rfl | exact Or.inr fun _ => rfl
    | exact Or.inr rfl | exact Or.inl (by with_reducible assumption) | intro _)

theorem State.bar0WriteFree_good {κ : Kept} (s : State) (fn a v : Nat) (hg : Good κ s) (f_hbm : κ.hbm = none) (f_spm
    : κ.spm = none) (f_window : κ.window = none) (f_plots : κ.plots = none) (f_cmd : κ.cmd = none) (f_id : κ.id = none)
    (f_tm : κ.tm = none) (f_res : κ.res = none) (f_img : κ.img = none) :
    Good κ (State.bar0WriteFree s fn a v) := by
  unfold State.bar0WriteFree
  repeat' (first
    | with_reducible assumption | with_reducible refine good_ite ?_ ?_
    | with_reducible refine State.takeFree128_good _ ?_
    | with_reducible refine State.bar0Write_good _ _ _ _ _ ?_ f_hbm f_spm f_window f_plots f_cmd f_id f_tm f_res f_img)

theorem State.numVfsWrite_good {κ : Kept} (s : State) (fn v : Nat) (hg : Good κ s) (f_hbm : κ.hbm = none) (f_spm :
    κ.spm = none) (f_plots : κ.plots = none) (f_cmd : κ.cmd = none) (f_id : κ.id = none) (f_tm : κ.tm = none) (f_res
    : κ.res = none) (f_img : κ.img = none) :
    Good κ (State.numVfsWrite s fn v) := by
  unfold State.numVfsWrite
  repeat' (first
    | with_reducible assumption | with_reducible refine good_ite ?_ ?_
    | with_reducible refine State.resetFn_good _ _ ?_ f_hbm f_spm f_plots f_cmd f_id f_tm f_res f_img
    | with_reducible refine State.drainStart_good _ _ ?_ | fail_if_no_progress with_reducible refine good_upd ?_
    | fail_if_no_progress with_reducible refine good_updHost ?_ | with_reducible refine good_foldl ?_ ?_
    | with_reducible refine good_foldl1 ?_ ?_ | with_reducible refine good_foldl2 ?_ ?_ | intro _)

theorem State.funcMaskWrite_good {κ : Kept} (s : State) (fn : Nat) (on : Bool) (hg : Good κ s) :
    Good κ (State.funcMaskWrite s fn on) := by
  unfold State.funcMaskWrite
  repeat' (first
    | with_reducible assumption | with_reducible refine good_ite ?_ ?_
    | with_reducible refine State.unmaskVec_good _ _ _ ?_ | fail_if_no_progress with_reducible refine good_upd ?_
    | fail_if_no_progress with_reducible refine good_updHost ?_ | with_reducible refine good_foldl ?_ ?_
    | with_reducible refine good_foldl1 ?_ ?_ | with_reducible refine good_foldl2 ?_ ?_ | intro _)

theorem State.cfgWrite_good {κ : Kept} (s : State) (fn v : Nat) (y0 : CfgItem) (hg : Good κ s) (f_hbm : κ.hbm =
    none) (f_spm : κ.spm = none) (f_plots : κ.plots = none) (f_cmd : κ.cmd = none) (f_id : κ.id = none) (f_tm : κ.tm
    = none) (f_res : κ.res = none) (f_img : κ.img = none) :
    Good κ (State.cfgWrite s fn v y0) := by
  unfold State.cfgWrite
  repeat' (first
    | with_reducible assumption | with_reducible refine good_ite ?_ ?_
    | with_reducible refine State.numVfsWrite_good _ _ _ ?_ f_hbm f_spm f_plots f_cmd f_id f_tm f_res f_img
    | with_reducible refine State.funcMaskWrite_good _ _ _ ?_ | with_reducible refine State.unmaskVec_good _ _ _ ?_
    | fail_if_no_progress with_reducible refine good_upd ?_
    | fail_if_no_progress with_reducible refine good_updHost ?_ | intro _ | (split))

end Sys2Proof.Machine
end

