-- ==== Sys2Proof/Laws/GoodRead.lean ====
section
/-! SUPPORT. What the operations of Machine/Read.lean keep: one lemma each (Laws/GoodBase.lean). -/

namespace Sys2Proof.Machine
open Sys2Proof

-- One proof at a time: proofs checked side by side take a stack each.
set_option Elab.async false

theorem State.latchHi_good {κ : Kept} (s : State) (fn a v : Nat) (hg : Good κ s) :
    Good κ (State.latchHi s fn a v) := by
  unfold State.latchHi
  repeat' (first | with_reducible assumption | with_reducible refine State.copyWr_good _ _ _ _ ?_)

theorem State.latchRead_good {κ : Kept} (s : State) (fn a : Nat) (r : RegRow) (is : List Nat) (hg : Good κ s) :
    Good κ (State.latchRead s fn a r is) := by
  unfold State.latchRead
  repeat' (first
    | with_reducible assumption | with_reducible refine good_ite ?_ ?_
    | with_reducible refine State.latchHi_good _ _ _ _ ?_ | with_reducible refine good_foldl ?_ ?_
    | with_reducible refine good_foldl1 ?_ ?_ | with_reducible refine good_foldl2 ?_ ?_ | intro _)

theorem State.readReg_good {κ : Kept} (s : State) (fn a : Nat) (r : RegRow) (is : List Nat) (hg : Good κ s) :
    Good κ (State.readReg s fn a r is).2 := by
  unfold State.readReg
  repeat' (first
    | with_reducible assumption | with_reducible refine good_ite ?_ ?_ | with_reducible refine good_ite2 ?_ ?_
    | with_reducible refine State.latchRead_good _ _ _ _ _ ?_)

theorem State.bar0Read_good {κ : Kept} (s : State) (fn a : Nat) (hg : Good κ s) (f_spm : κ.spm = none) :
    Good κ (State.bar0Read s fn a).2 := by
  unfold State.bar0Read
  repeat' (first
    | with_reducible assumption | with_reducible refine good_ite ?_ ?_
    | with_reducible refine good_ite2 ?_ ?_ | with_reducible refine State.devStat_good _ _ _ ?_
    | with_reducible refine State.readReg_good _ _ _ _ _ ?_
    | with_reducible refine State.spmAccess_good _ _ _ _ _ ?_ f_spm
    | fail_if_no_progress with_reducible refine good_upd ?_ | intro _ | (split))

end Sys2Proof.Machine
end

