-- ==== Sys2Proof/Laws/GoodService.lean ====
section
/-! SUPPORT. What the operations of Machine/Service.lean keep: one lemma each (Laws/GoodBase.lean). -/

namespace Sys2Proof.Machine
open Sys2Proof

-- One proof at a time: proofs checked side by side take a stack each.
set_option Elab.async false

theorem State.say_good {κ : Kept} (s : State) (lines : List String) (hg : Good κ s) :
    Good κ (State.say s lines) := by
  unfold State.say
  repeat' (first | with_reducible assumption | fail_if_no_progress with_reducible refine good_upd ?_)

theorem State.answer_good {κ : Kept} (s : State) (lines : List String) (hg : Good κ s) :
    Good κ (State.answer s lines) := by
  unfold State.answer
  repeat' (first | with_reducible assumption | with_reducible refine State.say_good _ _ ?_)

theorem State.lockPrompt_good {κ : Kept} (s : State) (hg : Good κ s) :
    Good κ (State.lockPrompt s) := by
  unfold State.lockPrompt
  repeat' (first | with_reducible assumption | with_reducible refine State.say_good _ _ ?_)

theorem State.monLine_good {κ : Kept} (s : State) (early : Bool) (k : State → State) (hg : Good κ s) (h_k : ∀ (a0 :
    State), Good κ a0 → Good κ (k a0)) :
    Good κ (State.monLine s early k) := by
  unfold State.monLine
  repeat' (first
    | with_reducible assumption | with_reducible refine good_ite ?_ ?_
    | with_reducible refine State.lockPrompt_good _ ?_ | with_reducible refine State.answer_good _ _ ?_
    | with_reducible refine h_k _ ?_)

theorem State.monPeek_good {κ : Kept} (s : State) (a n : Nat) (hg : Good κ s) (f_spm : κ.spm = none) :
    Good κ (State.monPeek s a n).2 := by
  induction n generalizing s a with
  | zero => exact hg
  | succ k ih => exact ih _ _ (State.bar0Read_good _ _ _ hg f_spm)

theorem State.unlockFail_good {κ : Kept} (s : State) (nonce : Nat) (hg : Good κ s) :
    Good κ (State.unlockFail s nonce) := by
  unfold State.unlockFail
  repeat' (first
    | with_reducible assumption | with_reducible refine good_ite ?_ ?_
    | with_reducible refine State.lockPrompt_good _ ?_ | fail_if_no_progress with_reducible refine good_upd ?_
    | fail_if_no_progress with_reducible refine good_updSvc ?_)

theorem State.unlocked_good {κ : Kept} (s : State) (hg : Good κ s) (f_shut : κ.shut = false) : Good κ (State.unlocked s) :=
  State.answer_good _ _ ⟨hg.1, hg.2, hg.3, hg.4, fun h => by rw [f_shut] at h; contradiction, hg.6, hg.7, hg.8, hg.9, hg.10, hg.11, hg.12, hg.13, hg.14, hg.15, hg.16⟩

theorem State.unlockLine_good {κ : Kept} (s : State) (ok right : Bool) (nonce : Nat) (hg : Good κ s) (f_shut :
    κ.shut = false) :
    Good κ (State.unlockLine s ok right nonce) := by
  unfold State.unlockLine
  repeat' (first
    | with_reducible assumption | with_reducible refine good_ite ?_ ?_ | with_reducible refine State.say_good _ _ ?_
    | with_reducible refine State.answer_good _ _ ?_ | with_reducible refine State.unlocked_good _ ?_ f_shut
    | with_reducible refine State.unlockFail_good _ _ ?_)

theorem State.updateIr_good {κ : Kept} (s : State) (hg : Good κ s) :
    Good κ (State.updateIr s) := by
  unfold State.updateIr
  repeat' (first
    | with_reducible assumption | with_reducible refine good_ite ?_ ?_
    | fail_if_no_progress with_reducible refine good_upd ?_
    | fail_if_no_progress with_reducible refine good_updSvc ?_)

theorem State.smbData_good {κ : Kept} (s : State) (bs : List Byte) (hg : Good κ s) :
    Good κ (State.smbData s bs) := by
  unfold State.smbData
  repeat' (first
    | with_reducible assumption | with_reducible refine good_ite ?_ ?_
    | fail_if_no_progress with_reducible refine good_upd ?_)

end Sys2Proof.Machine
end

