-- ==== Sys2Proof/Laws/GoodClock.lean ====
section
/-! SUPPORT. What the operations of Machine/Clock.lean keep: one lemma each (Laws/GoodBase.lean). -/

namespace Sys2Proof.Machine
open Sys2Proof

-- One proof at a time: proofs checked side by side take a stack each.
set_option Elab.async false

theorem State.diagnosed_good {κ : Kept} (s : State) (hg : Good κ s) :
    Good κ (State.diagnosed s) := by
  unfold State.diagnosed
  repeat' (first
    | with_reducible assumption | with_reducible refine good_ite ?_ ?_
    | with_reducible refine State.putBit_good _ _ _ _ ?_ | fail_if_no_progress with_reducible refine good_upd ?_
    | fail_if_no_progress with_reducible refine good_updTile ?_)

theorem State.onTick_good {κ : Kept} (s : State) (hg : Good κ s) (f_hbm : κ.hbm = none) (f_plots : κ.plots = none)
    (f_cmd : κ.cmd = none) (f_img : κ.img = none) :
    Good κ (State.onTick s) := by
  unfold State.onTick
  repeat' (first
    | with_reducible assumption | with_reducible refine good_ite ?_ ?_
    | with_reducible refine State.lossAfter_good _ _ ?_ f_hbm f_plots
    | with_reducible refine State.drainFifo_good _ ?_ f_hbm f_plots
    | with_reducible refine State.testTick_good _ ?_ f_cmd
    | with_reducible refine State.wakeCheck_good _ ?_ f_hbm f_plots f_cmd f_img
    | with_reducible refine State.remapStopped_good _ ?_ f_plots f_cmd
    | with_reducible refine State.diagnosed_good _ ?_ | with_reducible refine State.selectGm_good _ ?_
    | with_reducible refine good_foldl ?_ ?_ | with_reducible refine good_foldl1 ?_ ?_
    | with_reducible refine good_foldl2 ?_ ?_ | intro _)

theorem State.idle_good {κ : Kept} (s : State) (hg : Good κ s) (f_hbm : κ.hbm = none) (f_plots : κ.plots = none)
    (f_cmd : κ.cmd = none) (f_img : κ.img = none) :
    Good κ (State.idle s) := by
  unfold State.idle
  repeat' (first
    | with_reducible assumption | with_reducible refine good_ite ?_ ?_
    | with_reducible refine State.tickTime_good _ ?_
    | with_reducible refine State.onTick_good _ ?_ f_hbm f_plots f_cmd f_img)

end Sys2Proof.Machine
end

