-- ==== Sys2Proof/WellFormed.lean ====
section
/-! DEFINITION. Which commands name something the device has: operands within the ranges that the spec gives their units.
The values of registers and of Dziene command words are not restricted here: the device itself checks them. -/

namespace Sys2Proof.WellFormed

/-- 16 plots (R510). -/
def okPlot (p : Nat) : Bool := decide (p < 16)
/-- 16 fabric ports, 0 to 15 (09_fabric_lanes.md). -/
def okPort (q : Nat) : Bool := decide (q < 16)
/-- Nine physical lanes of a port, 0 to 8 (R247). -/
def okLane (i : Nat) : Bool := decide (i < 9)
/-- 64 functions (R353). -/
def okFn (f : Nat) : Bool := decide (f < 64)
/-- 4,096 queue pairs (R354). -/
def okQueue (q : Nat) : Bool := decide (q < 4096)
/-- 64 pseudo-channels (R130). -/
def okPc (c : Nat) : Bool := decide (c < 64)
/-- 12 Field I/O ports (R294). -/
def okFio (q : Nat) : Bool := decide (q < 12)
/-- A value of a 32-bit register (R503). -/
def okWord (v : Nat) : Bool := decide (v < 2 ^ 32)
/-- A dword of BAR0, 64 MiB (R503). -/
def okAddr (a : Nat) : Bool := decide (a % 4 = 0 ∧ a < 2 ^ 26)
/-- A nonce of 16 bytes (R495). -/
def okNonce (n : Nat) : Bool := decide (n < 2 ^ 128)
/-- Keys of matching-store entries start at 1. -/
def okId (i : Nat) : Bool := decide (0 < i)
/-- A CTRL packet of 24 dwords (R177). -/
def okWords (ws : List Word) : Bool := decide (ws.length = 24)
/-- Pin levels by Field I/O port. -/
def okPins (l : List (Nat × Nat)) : Bool := l.all fun e => okFio e.1 && okWord e.2
/-- The readings of the 64 sensors, 16 bits each (R482). -/
def okTemps (l : List Int) : Bool := decide (l.length = 64) && l.all fun t => decide (-32768 ≤ t ∧ t < 32768)
/-- A read of len bytes, or a write of that many. -/
def okLen (len : Nat) (d : Option (List Byte)) : Bool :=
  match d with
  | none => decide (0 < len)
  | some bs => decide (bs.length = len ∧ 0 < len)
/-- What a register write may name. -/
def okTarget : WriteTarget → Bool
  | .bar0 a => okAddr a
  | .cfg (.vectorMask vec) => decide (vec < 2048)
  | .cfg _ => true

end Sys2Proof.WellFormed

namespace Sys2Proof

open Sys2Proof.WellFormed

/-- The command names something the device has. -/
def Instr.wellFormed : Instr → Bool
  | .scheduleStep p pins => okPlot p && okPins pins
  | .commitDecision p => okPlot p
  | .inputLatch p pins => okPlot p && okPins pins
  | .outputRelease p => okPlot p
  | .writeQueueCommitMark p => okPlot p
  | .headlandHostApply p => okPlot p
  | .probeFlush p => okPlot p
  | .preEmptionCheck p => okPlot p
  | .refreshHeadland p => okPlot p
  | .replayTurn p => okPlot p
  | .stakeSlice p => okPlot p
  | .stretch p => okPlot p
  | .furrowRamReturn p => okPlot p
  | .hbmReadReturn _ => true
  | .hbmReturnDelivery p => okPlot p
  | .writeQueueDrain pc => okPc pc
  | .autonomousRefresh pc => okPc pc
  | .remapActivate pc entry => okPc pc && decide (entry < 32)
  | .hbmFillDone => true
  | .bar4Access fn _ len data => okFn fn && okLen len data
  | .frameTransmit port lane => okPort port && okLane lane
  | .frameReceive port lane _ fidx _ _ => okPort port && okLane lane && decide (fidx < 19)
  | .importPresentation p => okPlot p
  | .cdrLoss port lane => okPort port && okLane lane
  | .ctrlPacketReceive port words => okPort port && okWords words
  | .timeSync port lane words => okPort port && okLane lane && okWords words
  | .votePacket port words => okPort port && okWords words
  | .stretchNotice port words => okPort port && okWords words
  | .sown port words => okPort port && okWords words
  | .launch port words => okPort port && okWords words
  | .haltAt port words => okPort port && okWords words
  | .stakeDone port words => okPort port && okWords words
  | .healReady port words => okPort port && okWords words
  | .recoverReady port words => okPort port && okWords words
  | .resume port words => okPort port && okWords words
  | .diverge port words => okPort port && okWords words
  | .rollbackPacket port words => okPort port && okWords words
  | .spareReq port words => okPort port && okWords words
  | .spareAck port words => okPort port && okWords words
  | .loopReq port words => okPort port && okWords words
  | .loopAck port words => okPort port && okWords words
  | .laneHealth port words => okPort port && okWords words
  | .arm port words => okPort port && okWords words
  | .fire port words => okPort port && okWords words
  | .forwardedCommand port words => okPort port && okWords words
  | .forwardedCompletion port words => okPort port && okWords words
  | .forwardTimeout id => okId id
  | .thermalEvaluation temps => okTemps temps
  | .thermalTrip => true
  | .bucketDrainTick cls => decide (cls < 6)
  | .bucketOverflow addr => okAddr addr
  | .timeSyncRecord stream => decide (stream ≤ 16)
  | .holdoffExpiry p => okPlot p
  | .fireRepeat p => okPlot p
  | .sownRepeat p => okPlot p
  | .timeSyncSend port => okPort port
  | .parentLost => true
  | .ppsInEdge => true
  | .ppsMiss => true
  | .ppsOutEdge => true
  | .ftDelayTick => true
  | .launchStart p pins => okPlot p && okPins pins
  | .resumeStart p => okPlot p
  | .healWorkDone p => okPlot p
  | .recoveryWorkDone p _ => okPlot p
  | .holdTimeout p => okPlot p
  | .bridgeBusClockEdge port pins => okFio port && decide (pins < 2 ^ 32)
  | .clkLost port => okFio port
  | .vccioBad port _ => okFio port
  | .porN strap gpio nonce => decide (strap < 4 ∧ gpio < 4) && okNonce nonce
  | .perstN link nonce => decide (link < 4) && okNonce nonce
  | .dlDown link nonce => decide (link < 4) && okNonce nonce
  | .devReset fn v nonce => okFn fn && okWord v && okNonce nonce
  | .flr fn => okFn fn
  | .d3hotEntry fn => okFn fn
  | .d0Return fn => okFn fn
  | .refclkLost => true
  | .refclkReturn => true
  | .vbatLost => true
  | .bootWindowWrite fn offset data => okFn fn && decide (offset + data.length ≤ 2 ^ 25)
  | .go fn v => okFn fn && okWord v
  | .firmwareRunning => true
  | .sownNHigh => true
  | .releaseTimeout p => okPlot p
  | .doorbellSqTail fn q tail _ => okFn fn && okQueue q && okWord tail
  | .doorbellCqHead fn q head => okFn fn && okQueue q && okWord head
  | .queueEnable fn q v => okFn fn && okQueue q && okWord v
  | .queueDisable fn q v => okFn fn && okQueue q && okWord v
  | .queueRangeWrite fn q v => okFn fn && okFn q && okWord v
  | .entryFetch q => okQueue q
  | .commandDispatch => true
  | .completionWrite id => okId id
  | .interruptCoalesceTimeout q => okQueue q
  | .msixUnmask fn vec => okFn fn && decide (vec < 2048)
  | .pageRequestResponse fn page _ => okFn fn && decide (page < 2 ^ 52)
  | .atsInvalidation fn page count => okFn fn && decide (page + count ≤ 2 ^ 52)
  | .nop id => okId id
  | .query id => okId id
  | .negotiate id => okId id
  | .plotCreate id => okId id
  | .plotDestroy id => okId id
  | .plotAssign id => okId id
  | .plotRevoke id => okId id
  | .plotReset id => okId id
  | .zeroFillDone kind _ => decide (kind ≤ 9)
  | .sowBegin id => okId id
  | .sowSegment id => okId id
  | .sowCommit id => okId id
  | .sowAbort id => okId id
  | .release id => okId id
  | .run id => okId id
  | .halt id => okId id
  | .stepPass id => okId id
  | .fallow id => okId id
  | .fallowEvict id => okId id
  | .fallowPreEmpt id => okId id
  | .fallowDeep id => okId id
  | .wake id => okId id
  | .wakeDeep id => okId id
  | .launchAt id => okId id
  | .peekState id => okId id
  | .pokeState id => okId id
  | .force id => okId id
  | .unforce id => okId id
  | .memRead id => okId id
  | .memWrite id => okId id
  | .stake id => okId id
  | .ckptExport id => okId id
  | .ckptImport id => okId id
  | .rollback id => okId id
  | .lift id => okId id
  | .drop id => okId id
  | .traceConfig id => okId id
  | .traceArm id => okId id
  | .traceStop id => okId id
  | .traceDrain id => okId id
  | .linkTrain id => okId id
  | .trainFrameReceive port lane offset _ => okPort port && okLane lane && decide (offset < 896)
  | .trainingPhaseTimeout port => okPort port
  | .bitslip fn port lane v => okFn fn && okPort port && okLane lane && okWord v
  | .alignDone fn port v => okFn fn && okPort port && okWord v
  | .laneReset fn port lane v => okFn fn && okPort port && okLane lane && okWord v
  | .laneTestMode fn port lane v => okFn fn && okPort port && okLane lane && okWord v
  | .injOne fn port lane v => okFn fn && okPort port && okLane lane && okWord v
  | .linkTest id => okId id
  | .xtLoad id => okId id
  | .timeConfig id => okId id
  | .timeStep id => okId id
  | .scrubRange id => okId id
  | .remapAdd id => okId id
  | .faultDrain id => okId id
  | .fwUpdate id => okId id
  | .keyProvision id => okId id
  | .sigConfig id => okId id
  | .progress id => okId id
  | .gateDeclare fn g v => okFn fn && decide (g < 256) && okWord v
  | .bankHandover fn bank v => okFn fn && decide (bank < 64) && okWord v
  | .handoverDone bank => decide (bank < 64)
  | .spmDataAccess fn _ len data => okFn fn && okLen len data
  | .bitSet fn addr v => okFn fn && okAddr addr && okWord v
  | .bitClear fn addr v => okFn fn && okAddr addr && okWord v
  | .sortReq fn v => okFn fn && okWord v
  | .firstAck fn addr v => okFn fn && okAddr addr && okWord v
  | .histAck fn addr v => okFn fn && okAddr addr && okWord v
  | .counterClear fn addr v => okFn fn && okAddr addr && okWord v
  | .registerWrite fn target v => okFn fn && okTarget target && okWord v
  | .faultInjectionArm fn addr v => okFn fn && okAddr addr && okWord v
  | .gleanerItemRead seq => decide (seq < 4)
  | .gleanerWrite p => okPlot p
  | .hbmPatrolRead pc => okPc pc
  | .controlTripleVote => true
  | .gleanerWatchdog seq => decide (seq ≤ 4)
  | .gleanerRestart fn v => okFn fn && okWord v
  | .monVer => true
  | .monPeek _ _ => true
  | .monPoke _ _ => true
  | .monHist _ _ => true
  | .monEye _ _ => true
  | .monStake _ => true
  | .monTemp => true
  | .monBaud _ => true
  | .monLock => true
  | .monUnlockPassword w nonce => decide (w.length ≤ 256) && okNonce nonce
  | .monUnlockResponse _ nonce => okNonce nonce
  | .monCtrlLock fn v => okFn fn && okWord v
  | .scanInstruction k => decide (k ≤ 5)
  | .debugInstruction _ => true
  | .smbLifecycle => true
  | .smbTmax => true
  | .smbSensorSelect v => decide (v < 65536)
  | .smbSensorRead => true
  | .smbRailPower watts => decide (watts.length = 21) && watts.all fun w => decide (w < 65536)
  | .smbPowerResetStatus => true
  | .smbAlertCause => true
  | .smbAlertResponse => true
  | .cdrLock port lane _ => okPort port && okLane lane
  | .chkLock port lane _ => okPort port && okLane lane
  | .tResumeStart p => okPlot p
  | .ftPostExpiry p => okPlot p
  | .deepFallowEntered => true
  | .configurationReady link => decide (link < 4)
  | .unlockDelayExpiry => true

end Sys2Proof
end

