-- ==== Sys2Proof/Laws/PerInstr.lean ====
section
/-! SUPPORT. A well-formed command that names a plot names one of the device's 16 (R510): one lemma for each command. -/

namespace Sys2Proof.Laws.WellFormed
open Sys2Proof Sys2Proof.WellFormed

-- One proof at a time: proofs checked side by side take a stack each.
set_option Elab.async false

/-- The plot that a command names by its operand; a Dziene command names its own in its entry (R365). -/
def plotNamed : Instr → Option Nat
  | .scheduleStep p _ => some p
  | .commitDecision p => some p
  | .inputLatch p _ => some p
  | .outputRelease p => some p
  | .writeQueueCommitMark p => some p
  | .headlandHostApply p => some p
  | .probeFlush p => some p
  | .preEmptionCheck p => some p
  | .refreshHeadland p => some p
  | .replayTurn p => some p
  | .stakeSlice p => some p
  | .stretch p => some p
  | .furrowRamReturn p => some p
  | .hbmReturnDelivery p => some p
  | .importPresentation p => some p
  | .holdoffExpiry p => some p
  | .fireRepeat p => some p
  | .sownRepeat p => some p
  | .launchStart p _ => some p
  | .resumeStart p => some p
  | .healWorkDone p => some p
  | .recoveryWorkDone p _ => some p
  | .holdTimeout p => some p
  | .releaseTimeout p => some p
  | .gleanerWrite p => some p
  | .tResumeStart p => some p
  | .ftPostExpiry p => some p
  | _ => none

def Statement (i : Instr) : Prop := i.wellFormed = true → ∀ p, plotNamed i = some p → p < 16

theorem scheduleStep (p : Nat) (pins : List (Nat × Nat)) : Statement (.scheduleStep p pins) := by
  rintro h _ ⟨⟩
  simp only [Instr.wellFormed, okPlot, Bool.and_eq_true, decide_eq_true_eq] at h
  omega
theorem commitDecision (p : Nat) : Statement (.commitDecision p) := by
  rintro h _ ⟨⟩
  simp only [Instr.wellFormed, okPlot, decide_eq_true_eq] at h
  omega
theorem inputLatch (p : Nat) (pins : List (Nat × Nat)) : Statement (.inputLatch p pins) := by
  rintro h _ ⟨⟩
  simp only [Instr.wellFormed, okPlot, Bool.and_eq_true, decide_eq_true_eq] at h
  omega
theorem outputRelease (p : Nat) : Statement (.outputRelease p) := by
  rintro h _ ⟨⟩
  simp only [Instr.wellFormed, okPlot, decide_eq_true_eq] at h
  omega
theorem writeQueueCommitMark (p : Nat) : Statement (.writeQueueCommitMark p) := by
  rintro h _ ⟨⟩
  simp only [Instr.wellFormed, okPlot, decide_eq_true_eq] at h
  omega
theorem headlandHostApply (p : Nat) : Statement (.headlandHostApply p) := by
  rintro h _ ⟨⟩
  simp only [Instr.wellFormed, okPlot, decide_eq_true_eq] at h
  omega
theorem probeFlush (p : Nat) : Statement (.probeFlush p) := by
  rintro h _ ⟨⟩
  simp only [Instr.wellFormed, okPlot, decide_eq_true_eq] at h
  omega
theorem preEmptionCheck (p : Nat) : Statement (.preEmptionCheck p) := by
  rintro h _ ⟨⟩
  simp only [Instr.wellFormed, okPlot, decide_eq_true_eq] at h
  omega
theorem refreshHeadland (p : Nat) : Statement (.refreshHeadland p) := by
  rintro h _ ⟨⟩
  simp only [Instr.wellFormed, okPlot, decide_eq_true_eq] at h
  omega
theorem replayTurn (p : Nat) : Statement (.replayTurn p) := by
  rintro h _ ⟨⟩
  simp only [Instr.wellFormed, okPlot, decide_eq_true_eq] at h
  omega
theorem stakeSlice (p : Nat) : Statement (.stakeSlice p) := by
  rintro h _ ⟨⟩
  simp only [Instr.wellFormed, okPlot, decide_eq_true_eq] at h
  omega
theorem stretch (p : Nat) : Statement (.stretch p) := by
  rintro h _ ⟨⟩
  simp only [Instr.wellFormed, okPlot, decide_eq_true_eq] at h
  omega
theorem furrowRamReturn (p : Nat) : Statement (.furrowRamReturn p) := by
  rintro h _ ⟨⟩
  simp only [Instr.wellFormed, okPlot, decide_eq_true_eq] at h
  omega
theorem hbmReadReturn (n : Nat) : Statement (.hbmReadReturn n) := fun _ _ e => nomatch e
theorem hbmReturnDelivery (p : Nat) : Statement (.hbmReturnDelivery p) := by
  rintro h _ ⟨⟩
  simp only [Instr.wellFormed, okPlot, decide_eq_true_eq] at h
  omega
theorem writeQueueDrain (pc : Nat) : Statement (.writeQueueDrain pc) := fun _ _ e => nomatch e
theorem autonomousRefresh (pc : Nat) : Statement (.autonomousRefresh pc) := fun _ _ e => nomatch e
theorem remapActivate (pc : Nat) (entry : Nat) : Statement (.remapActivate pc entry) := fun _ _ e => nomatch e
theorem hbmFillDone : Statement (.hbmFillDone) := fun _ _ e => nomatch e
theorem bar4Access (fn : Nat) (offset : Nat) (len : Nat) (data : Option (List Byte)) : Statement (.bar4Access fn offset len data) := fun _ _ e => nomatch e
theorem frameTransmit (port : Nat) (lane : Nat) : Statement (.frameTransmit port lane) := fun _ _ e => nomatch e
theorem frameReceive (port : Nat) (lane : Nat) (pn : Nat) (fidx : Nat) (late : Int) (frame : BitVec 896) : Statement (.frameReceive port lane pn fidx late frame) := fun _ _ e => nomatch e
theorem importPresentation (p : Nat) : Statement (.importPresentation p) := by
  rintro h _ ⟨⟩
  simp only [Instr.wellFormed, okPlot, decide_eq_true_eq] at h
  omega
theorem cdrLoss (port : Nat) (lane : Nat) : Statement (.cdrLoss port lane) := fun _ _ e => nomatch e
theorem ctrlPacketReceive (port : Nat) (words : List Word) : Statement (.ctrlPacketReceive port words) := fun _ _ e => nomatch e
theorem timeSync (port : Nat) (lane : Nat) (words : List Word) : Statement (.timeSync port lane words) := fun _ _ e => nomatch e
theorem votePacket (port : Nat) (words : List Word) : Statement (.votePacket port words) := fun _ _ e => nomatch e
theorem stretchNotice (port : Nat) (words : List Word) : Statement (.stretchNotice port words) := fun _ _ e => nomatch e
theorem sown (port : Nat) (words : List Word) : Statement (.sown port words) := fun _ _ e => nomatch e
theorem launch (port : Nat) (words : List Word) : Statement (.launch port words) := fun _ _ e => nomatch e
theorem haltAt (port : Nat) (words : List Word) : Statement (.haltAt port words) := fun _ _ e => nomatch e
theorem stakeDone (port : Nat) (words : List Word) : Statement (.stakeDone port words) := fun _ _ e => nomatch e
theorem healReady (port : Nat) (words : List Word) : Statement (.healReady port words) := fun _ _ e => nomatch e
theorem recoverReady (port : Nat) (words : List Word) : Statement (.recoverReady port words) := fun _ _ e => nomatch e
theorem resume (port : Nat) (words : List Word) : Statement (.resume port words) := fun _ _ e => nomatch e
theorem diverge (port : Nat) (words : List Word) : Statement (.diverge port words) := fun _ _ e => nomatch e
theorem rollbackPacket (port : Nat) (words : List Word) : Statement (.rollbackPacket port words) := fun _ _ e => nomatch e
theorem spareReq (port : Nat) (words : List Word) : Statement (.spareReq port words) := fun _ _ e => nomatch e
theorem spareAck (port : Nat) (words : List Word) : Statement (.spareAck port words) := fun _ _ e => nomatch e
theorem loopReq (port : Nat) (words : List Word) : Statement (.loopReq port words) := fun _ _ e => nomatch e
theorem loopAck (port : Nat) (words : List Word) : Statement (.loopAck port words) := fun _ _ e => nomatch e
theorem laneHealth (port : Nat) (words : List Word) : Statement (.laneHealth port words) := fun _ _ e => nomatch e
theorem arm (port : Nat) (words : List Word) : Statement (.arm port words) := fun _ _ e => nomatch e
theorem fire (port : Nat) (words : List Word) : Statement (.fire port words) := fun _ _ e => nomatch e
theorem forwardedCommand (port : Nat) (words : List Word) : Statement (.forwardedCommand port words) := fun _ _ e => nomatch e
theorem forwardedCompletion (port : Nat) (words : List Word) : Statement (.forwardedCompletion port words) := fun _ _ e => nomatch e
theorem forwardTimeout (id : Nat) : Statement (.forwardTimeout id) := fun _ _ e => nomatch e
theorem thermalEvaluation (temps : List Int) : Statement (.thermalEvaluation temps) := fun _ _ e => nomatch e
theorem thermalTrip : Statement (.thermalTrip) := fun _ _ e => nomatch e
theorem bucketDrainTick (cls : Nat) : Statement (.bucketDrainTick cls) := fun _ _ e => nomatch e
theorem bucketOverflow (addr : Nat) : Statement (.bucketOverflow addr) := fun _ _ e => nomatch e
theorem timeSyncRecord (stream : Nat) : Statement (.timeSyncRecord stream) := fun _ _ e => nomatch e
theorem holdoffExpiry (p : Nat) : Statement (.holdoffExpiry p) := by
  rintro h _ ⟨⟩
  simp only [Instr.wellFormed, okPlot, decide_eq_true_eq] at h
  omega
theorem fireRepeat (p : Nat) : Statement (.fireRepeat p) := by
  rintro h _ ⟨⟩
  simp only [Instr.wellFormed, okPlot, decide_eq_true_eq] at h
  omega
theorem sownRepeat (p : Nat) : Statement (.sownRepeat p) := by
  rintro h _ ⟨⟩
  simp only [Instr.wellFormed, okPlot, decide_eq_true_eq] at h
  omega
theorem timeSyncSend (port : Nat) : Statement (.timeSyncSend port) := fun _ _ e => nomatch e
theorem parentLost : Statement (.parentLost) := fun _ _ e => nomatch e
theorem ppsInEdge : Statement (.ppsInEdge) := fun _ _ e => nomatch e
theorem ppsMiss : Statement (.ppsMiss) := fun _ _ e => nomatch e
theorem ppsOutEdge : Statement (.ppsOutEdge) := fun _ _ e => nomatch e
theorem ftDelayTick : Statement (.ftDelayTick) := fun _ _ e => nomatch e
theorem launchStart (p : Nat) (pins : List (Nat × Nat)) : Statement (.launchStart p pins) := by
  rintro h _ ⟨⟩
  simp only [Instr.wellFormed, okPlot, Bool.and_eq_true, decide_eq_true_eq] at h
  omega
theorem resumeStart (p : Nat) : Statement (.resumeStart p) := by
  rintro h _ ⟨⟩
  simp only [Instr.wellFormed, okPlot, decide_eq_true_eq] at h
  omega
theorem healWorkDone (p : Nat) : Statement (.healWorkDone p) := by
  rintro h _ ⟨⟩
  simp only [Instr.wellFormed, okPlot, decide_eq_true_eq] at h
  omega
theorem recoveryWorkDone (p : Nat) (ok : Bool) : Statement (.recoveryWorkDone p ok) := by
  rintro h _ ⟨⟩
  simp only [Instr.wellFormed, okPlot, decide_eq_true_eq] at h
  omega
theorem holdTimeout (p : Nat) : Statement (.holdTimeout p) := by
  rintro h _ ⟨⟩
  simp only [Instr.wellFormed, okPlot, decide_eq_true_eq] at h
  omega
theorem bridgeBusClockEdge (port : Nat) (pins : Nat) : Statement (.bridgeBusClockEdge port pins) := fun _ _ e => nomatch e
theorem clkLost (port : Nat) : Statement (.clkLost port) := fun _ _ e => nomatch e
theorem vccioBad (port : Nat) (bad : Bool) : Statement (.vccioBad port bad) := fun _ _ e => nomatch e
theorem porN (strap : Nat) (gpio : Nat) (nonce : Nat) : Statement (.porN strap gpio nonce) := fun _ _ e => nomatch e
theorem perstN (link : Nat) (nonce : Nat) : Statement (.perstN link nonce) := fun _ _ e => nomatch e
theorem dlDown (link : Nat) (nonce : Nat) : Statement (.dlDown link nonce) := fun _ _ e => nomatch e
theorem devReset (fn : Nat) (v : Nat) (nonce : Nat) : Statement (.devReset fn v nonce) := fun _ _ e => nomatch e
theorem flr (fn : Nat) : Statement (.flr fn) := fun _ _ e => nomatch e
theorem d3hotEntry (fn : Nat) : Statement (.d3hotEntry fn) := fun _ _ e => nomatch e
theorem d0Return (fn : Nat) : Statement (.d0Return fn) := fun _ _ e => nomatch e
theorem refclkLost : Statement (.refclkLost) := fun _ _ e => nomatch e
theorem refclkReturn : Statement (.refclkReturn) := fun _ _ e => nomatch e
theorem vbatLost : Statement (.vbatLost) := fun _ _ e => nomatch e
theorem bootWindowWrite (fn : Nat) (offset : Nat) (data : List Byte) : Statement (.bootWindowWrite fn offset data) := fun _ _ e => nomatch e
theorem go (fn : Nat) (v : Nat) : Statement (.go fn v) := fun _ _ e => nomatch e
theorem firmwareRunning : Statement (.firmwareRunning) := fun _ _ e => nomatch e
theorem sownNHigh : Statement (.sownNHigh) := fun _ _ e => nomatch e
theorem releaseTimeout (p : Nat) : Statement (.releaseTimeout p) := by
  rintro h _ ⟨⟩
  simp only [Instr.wellFormed, okPlot, decide_eq_true_eq] at h
  omega
theorem doorbellSqTail (fn : Nat) (q : Nat) (tail : Nat) (mem : List (Nat × Byte)) : Statement (.doorbellSqTail fn q tail mem) := fun _ _ e => nomatch e
theorem doorbellCqHead (fn : Nat) (q : Nat) (head : Nat) : Statement (.doorbellCqHead fn q head) := fun _ _ e => nomatch e
theorem queueEnable (fn : Nat) (q : Nat) (v : Nat) : Statement (.queueEnable fn q v) := fun _ _ e => nomatch e
theorem queueDisable (fn : Nat) (q : Nat) (v : Nat) : Statement (.queueDisable fn q v) := fun _ _ e => nomatch e
theorem queueRangeWrite (fn : Nat) (q : Nat) (v : Nat) : Statement (.queueRangeWrite fn q v) := fun _ _ e => nomatch e
theorem entryFetch (q : Nat) : Statement (.entryFetch q) := fun _ _ e => nomatch e
theorem commandDispatch : Statement (.commandDispatch) := fun _ _ e => nomatch e
theorem completionWrite (id : Nat) : Statement (.completionWrite id) := fun _ _ e => nomatch e
theorem interruptCoalesceTimeout (q : Nat) : Statement (.interruptCoalesceTimeout q) := fun _ _ e => nomatch e
theorem msixUnmask (fn : Nat) (vec : Nat) : Statement (.msixUnmask fn vec) := fun _ _ e => nomatch e
theorem pageRequestResponse (fn : Nat) (page : Nat) (ok : Bool) : Statement (.pageRequestResponse fn page ok) := fun _ _ e => nomatch e
theorem atsInvalidation (fn : Nat) (page : Nat) (count : Nat) : Statement (.atsInvalidation fn page count) := fun _ _ e => nomatch e
theorem nop (id : Nat) : Statement (.nop id) := fun _ _ e => nomatch e
theorem query (id : Nat) : Statement (.query id) := fun _ _ e => nomatch e
theorem negotiate (id : Nat) : Statement (.negotiate id) := fun _ _ e => nomatch e
theorem plotCreate (id : Nat) : Statement (.plotCreate id) := fun _ _ e => nomatch e
theorem plotDestroy (id : Nat) : Statement (.plotDestroy id) := fun _ _ e => nomatch e
theorem plotAssign (id : Nat) : Statement (.plotAssign id) := fun _ _ e => nomatch e
theorem plotRevoke (id : Nat) : Statement (.plotRevoke id) := fun _ _ e => nomatch e
theorem plotReset (id : Nat) : Statement (.plotReset id) := fun _ _ e => nomatch e
theorem zeroFillDone (kind : Nat) (index : Nat) : Statement (.zeroFillDone kind index) := fun _ _ e => nomatch e
theorem sowBegin (id : Nat) : Statement (.sowBegin id) := fun _ _ e => nomatch e
theorem sowSegment (id : Nat) : Statement (.sowSegment id) := fun _ _ e => nomatch e
theorem sowCommit (id : Nat) : Statement (.sowCommit id) := fun _ _ e => nomatch e
theorem sowAbort (id : Nat) : Statement (.sowAbort id) := fun _ _ e => nomatch e
theorem release (id : Nat) : Statement (.release id) := fun _ _ e => nomatch e
theorem run (id : Nat) : Statement (.run id) := fun _ _ e => nomatch e
theorem halt (id : Nat) : Statement (.halt id) := fun _ _ e => nomatch e
theorem stepPass (id : Nat) : Statement (.stepPass id) := fun _ _ e => nomatch e
theorem fallow (id : Nat) : Statement (.fallow id) := fun _ _ e => nomatch e
theorem fallowEvict (id : Nat) : Statement (.fallowEvict id) := fun _ _ e => nomatch e
theorem fallowPreEmpt (id : Nat) : Statement (.fallowPreEmpt id) := fun _ _ e => nomatch e
theorem fallowDeep (id : Nat) : Statement (.fallowDeep id) := fun _ _ e => nomatch e
theorem wake (id : Nat) : Statement (.wake id) := fun _ _ e => nomatch e
theorem wakeDeep (id : Nat) : Statement (.wakeDeep id) := fun _ _ e => nomatch e
theorem launchAt (id : Nat) : Statement (.launchAt id) := fun _ _ e => nomatch e
theorem peekState (id : Nat) : Statement (.peekState id) := fun _ _ e => nomatch e
theorem pokeState (id : Nat) : Statement (.pokeState id) := fun _ _ e => nomatch e
theorem force (id : Nat) : Statement (.force id) := fun _ _ e => nomatch e
theorem unforce (id : Nat) : Statement (.unforce id) := fun _ _ e => nomatch e
theorem memRead (id : Nat) : Statement (.memRead id) := fun _ _ e => nomatch e
theorem memWrite (id : Nat) : Statement (.memWrite id) := fun _ _ e => nomatch e
theorem stake (id : Nat) : Statement (.stake id) := fun _ _ e => nomatch e
theorem ckptExport (id : Nat) : Statement (.ckptExport id) := fun _ _ e => nomatch e
theorem ckptImport (id : Nat) : Statement (.ckptImport id) := fun _ _ e => nomatch e
theorem rollback (id : Nat) : Statement (.rollback id) := fun _ _ e => nomatch e
theorem lift (id : Nat) : Statement (.lift id) := fun _ _ e => nomatch e
theorem drop (id : Nat) : Statement (.drop id) := fun _ _ e => nomatch e
theorem traceConfig (id : Nat) : Statement (.traceConfig id) := fun _ _ e => nomatch e
theorem traceArm (id : Nat) : Statement (.traceArm id) := fun _ _ e => nomatch e
theorem traceStop (id : Nat) : Statement (.traceStop id) := fun _ _ e => nomatch e
theorem traceDrain (id : Nat) : Statement (.traceDrain id) := fun _ _ e => nomatch e
theorem linkTrain (id : Nat) : Statement (.linkTrain id) := fun _ _ e => nomatch e
theorem trainFrameReceive (port : Nat) (lane : Nat) (offset : Nat) (frame : BitVec 896) : Statement (.trainFrameReceive port lane offset frame) := fun _ _ e => nomatch e
theorem trainingPhaseTimeout (port : Nat) : Statement (.trainingPhaseTimeout port) := fun _ _ e => nomatch e
theorem bitslip (fn : Nat) (port : Nat) (lane : Nat) (v : Nat) : Statement (.bitslip fn port lane v) := fun _ _ e => nomatch e
theorem alignDone (fn : Nat) (port : Nat) (v : Nat) : Statement (.alignDone fn port v) := fun _ _ e => nomatch e
theorem laneReset (fn : Nat) (port : Nat) (lane : Nat) (v : Nat) : Statement (.laneReset fn port lane v) := fun _ _ e => nomatch e
theorem laneTestMode (fn : Nat) (port : Nat) (lane : Nat) (v : Nat) : Statement (.laneTestMode fn port lane v) := fun _ _ e => nomatch e
theorem injOne (fn : Nat) (port : Nat) (lane : Nat) (v : Nat) : Statement (.injOne fn port lane v) := fun _ _ e => nomatch e
theorem linkTest (id : Nat) : Statement (.linkTest id) := fun _ _ e => nomatch e
theorem xtLoad (id : Nat) : Statement (.xtLoad id) := fun _ _ e => nomatch e
theorem timeConfig (id : Nat) : Statement (.timeConfig id) := fun _ _ e => nomatch e
theorem timeStep (id : Nat) : Statement (.timeStep id) := fun _ _ e => nomatch e
theorem scrubRange (id : Nat) : Statement (.scrubRange id) := fun _ _ e => nomatch e
theorem remapAdd (id : Nat) : Statement (.remapAdd id) := fun _ _ e => nomatch e
theorem faultDrain (id : Nat) : Statement (.faultDrain id) := fun _ _ e => nomatch e
theorem fwUpdate (id : Nat) : Statement (.fwUpdate id) := fun _ _ e => nomatch e
theorem keyProvision (id : Nat) : Statement (.keyProvision id) := fun _ _ e => nomatch e
theorem sigConfig (id : Nat) : Statement (.sigConfig id) := fun _ _ e => nomatch e
theorem progress (id : Nat) : Statement (.progress id) := fun _ _ e => nomatch e
theorem gateDeclare (fn : Nat) (g : Nat) (v : Nat) : Statement (.gateDeclare fn g v) := fun _ _ e => nomatch e
theorem bankHandover (fn : Nat) (bank : Nat) (v : Nat) : Statement (.bankHandover fn bank v) := fun _ _ e => nomatch e
theorem handoverDone (bank : Nat) : Statement (.handoverDone bank) := fun _ _ e => nomatch e
theorem spmDataAccess (fn : Nat) (offset : Nat) (len : Nat) (data : Option (List Byte)) : Statement (.spmDataAccess fn offset len data) := fun _ _ e => nomatch e
theorem bitSet (fn : Nat) (addr : Nat) (v : Nat) : Statement (.bitSet fn addr v) := fun _ _ e => nomatch e
theorem bitClear (fn : Nat) (addr : Nat) (v : Nat) : Statement (.bitClear fn addr v) := fun _ _ e => nomatch e
theorem sortReq (fn : Nat) (v : Nat) : Statement (.sortReq fn v) := fun _ _ e => nomatch e
theorem firstAck (fn : Nat) (addr : Nat) (v : Nat) : Statement (.firstAck fn addr v) := fun _ _ e => nomatch e
theorem histAck (fn : Nat) (addr : Nat) (v : Nat) : Statement (.histAck fn addr v) := fun _ _ e => nomatch e
theorem counterClear (fn : Nat) (addr : Nat) (v : Nat) : Statement (.counterClear fn addr v) := fun _ _ e => nomatch e
theorem registerWrite (fn : Nat) (target : WriteTarget) (v : Nat) : Statement (.registerWrite fn target v) := fun _ _ e => nomatch e
theorem faultInjectionArm (fn : Nat) (addr : Nat) (v : Nat) : Statement (.faultInjectionArm fn addr v) := fun _ _ e => nomatch e
theorem gleanerItemRead (seq : Nat) : Statement (.gleanerItemRead seq) := fun _ _ e => nomatch e
theorem gleanerWrite (p : Nat) : Statement (.gleanerWrite p) := by
  rintro h _ ⟨⟩
  simp only [Instr.wellFormed, okPlot, decide_eq_true_eq] at h
  omega
theorem hbmPatrolRead (pc : Nat) : Statement (.hbmPatrolRead pc) := fun _ _ e => nomatch e
theorem controlTripleVote : Statement (.controlTripleVote) := fun _ _ e => nomatch e
theorem gleanerWatchdog (seq : Nat) : Statement (.gleanerWatchdog seq) := fun _ _ e => nomatch e
theorem gleanerRestart (fn : Nat) (v : Nat) : Statement (.gleanerRestart fn v) := fun _ _ e => nomatch e
theorem monVer : Statement (.monVer) := fun _ _ e => nomatch e
theorem monPeek (a : Nat) (n : Nat) : Statement (.monPeek a n) := fun _ _ e => nomatch e
theorem monPoke (a : Nat) (v : Nat) : Statement (.monPoke a v) := fun _ _ e => nomatch e
theorem monHist (b : Nat) (i : Nat) : Statement (.monHist b i) := fun _ _ e => nomatch e
theorem monEye (port : Nat) (lane : Nat) : Statement (.monEye port lane) := fun _ _ e => nomatch e
theorem monStake (p : Nat) : Statement (.monStake p) := fun _ _ e => nomatch e
theorem monTemp : Statement (.monTemp) := fun _ _ e => nomatch e
theorem monBaud (r : Nat) : Statement (.monBaud r) := fun _ _ e => nomatch e
theorem monLock : Statement (.monLock) := fun _ _ e => nomatch e
theorem monUnlockPassword (w : List Byte) (nonce : Nat) : Statement (.monUnlockPassword w nonce) := fun _ _ e => nomatch e
theorem monUnlockResponse (g : List Word) (nonce : Nat) : Statement (.monUnlockResponse g nonce) := fun _ _ e => nomatch e
theorem monCtrlLock (fn : Nat) (v : Nat) : Statement (.monCtrlLock fn v) := fun _ _ e => nomatch e
theorem scanInstruction (k : Nat) : Statement (.scanInstruction k) := fun _ _ e => nomatch e
theorem debugInstruction (op : Nat) : Statement (.debugInstruction op) := fun _ _ e => nomatch e
theorem smbLifecycle : Statement (.smbLifecycle) := fun _ _ e => nomatch e
theorem smbTmax : Statement (.smbTmax) := fun _ _ e => nomatch e
theorem smbSensorSelect (v : Nat) : Statement (.smbSensorSelect v) := fun _ _ e => nomatch e
theorem smbSensorRead : Statement (.smbSensorRead) := fun _ _ e => nomatch e
theorem smbRailPower (watts : List Nat) : Statement (.smbRailPower watts) := fun _ _ e => nomatch e
theorem smbPowerResetStatus : Statement (.smbPowerResetStatus) := fun _ _ e => nomatch e
theorem smbAlertCause : Statement (.smbAlertCause) := fun _ _ e => nomatch e
theorem smbAlertResponse : Statement (.smbAlertResponse) := fun _ _ e => nomatch e
theorem cdrLock (port : Nat) (lane : Nat) (sync : Bool) : Statement (.cdrLock port lane sync) := fun _ _ e => nomatch e
theorem chkLock (port : Nat) (lane : Nat) (bits : List Bool) : Statement (.chkLock port lane bits) := fun _ _ e => nomatch e
theorem tResumeStart (p : Nat) : Statement (.tResumeStart p) := by
  rintro h _ ⟨⟩
  simp only [Instr.wellFormed, okPlot, decide_eq_true_eq] at h
  omega
theorem ftPostExpiry (p : Nat) : Statement (.ftPostExpiry p) := by
  rintro h _ ⟨⟩
  simp only [Instr.wellFormed, okPlot, decide_eq_true_eq] at h
  omega
theorem deepFallowEntered : Statement (.deepFallowEntered) := fun _ _ e => nomatch e
theorem configurationReady (link : Nat) : Statement (.configurationReady link) := fun _ _ e => nomatch e
theorem unlockDelayExpiry : Statement (.unlockDelayExpiry) := fun _ _ e => nomatch e

end Sys2Proof.Laws.WellFormed
end

