-- ==== Sys2Proof/Laws/Quiet.lean ====
section
/-! SUPPORT. The operations that note an event - a condition, a counter, a record, an interrupt - and change nothing but
registers, event histories and records, messages and pending bits: one lemma each. -/

namespace Sys2Proof.Machine
open Sys2Proof

-- One proof at a time: proofs checked side by side take a stack each.
set_option Elab.async false

/-- What a state holds beside its registers, event histories and records, messages, the hosts' pending bits and the overflows
of buckets that wait; of the scratchpad all but bank 63 (R451). -/
def State.core (s : State) : State := { s with tile := { s.tile with spm := s.tile.spm.filter fun e => decide (e.1 < 63 * 2 ^ 18) }, regs := [], histOpen := [], host := { s.host with msixPend := [], intSent := [] }, hvt := {}, out := { s.out with msix := [] }, pwr := { s.pwr with heldMsgs := [] }, gln := { s.gln with spilt := [] } }

def Quiet (κ s : State) : Prop := s.core = κ.core

theorem quiet_upd {κ t : State} {regs : Cells (BitVec 32)} {histOpen : Cells Nat} {hvt : HvtDev} (h : Quiet κ t) :
   Quiet κ ⟨t.pending, regs, t.copies, histOpen, t.ecc, t.inject, t.fmap, t.plots, t.bp, t.fur, t.sw, t.hbm, t.xch, t.lnk, t.ft, t.io, t.tile, t.boot, t.cmd, t.host, hvt, t.gln, t.pwr, t.svc, t.out, t.free⟩ := h

theorem quiet_updMsi {κ t : State} {m : List (Nat × Nat)} (h : Quiet κ t) : Quiet κ { t with out := { t.out with msix := m } } := h
theorem quiet_updHeld {κ t : State} {m : List (Nat × Nat)} (h : Quiet κ t) : Quiet κ { t with pwr := { t.pwr with heldMsgs := m } } := h
theorem quiet_updPend {κ t : State} {m : Cells Bool} (h : Quiet κ t) : Quiet κ { t with host := { t.host with msixPend := m } } := h

theorem quiet_updSent {κ t : State} {m : Cells Bool} (h : Quiet κ t) : Quiet κ { t with host := { t.host with intSent := m } } := h

theorem quiet_updSpilt {κ t : State} {m : List (Nat × Nat)} (h : Quiet κ t) : Quiet κ { t with gln := { t.gln with spilt := m } } := h

theorem quiet_ite {κ : State} {c : Prop} [Decidable c] {s t : State} (h1 : Quiet κ s) (h2 : Quiet κ t) :
    Quiet κ (if c then s else t) := by
  split <;> assumption

theorem quiet_foldl {κ : State} {α : Type} {g : State → α → State} {l : List α} {s : State}
    (h : ∀ s a, Quiet κ s → Quiet κ (g s a)) (h0 : Quiet κ s) : Quiet κ (l.foldl g s) := by
  induction l generalizing s with
  | nil => exact h0
  | cons a l ih => exact ih (h s a h0)

theorem quiet_pair2 {κ : State} {α : Type} {p : α × State} {a : α} {t : State} (h : p = (a, t))
    (h2 : Quiet κ p.2) : Quiet κ t := by
  subst h; exact h2

theorem quiet_ite2 {κ : State} {α : Type} {c : Prop} [Decidable c] {s t : α × State} (h1 : Quiet κ s.2)
    (h2 : Quiet κ t.2) : Quiet κ (if c then s else t).2 := by
  split <;> assumption

theorem State.rgSet_quiet {κ : State} (s : State) (a : Nat) (v : Word) (hg : Quiet κ s) :
    Quiet κ (State.rgSet s a v) := by
  unfold State.rgSet
  repeat' (first | with_reducible assumption | fail_if_no_progress with_reducible refine quiet_upd ?_)

theorem State.rnSet_quiet {κ : State} (s : State) (a v : Nat) (hg : Quiet κ s) :
    Quiet κ (State.rnSet s a v) := by
  unfold State.rnSet
  repeat' (first | with_reducible assumption | with_reducible refine State.rgSet_quiet _ _ _ ?_)

theorem State.put_quiet {κ : State} (s : State) (a lo len v : Nat) (hg : Quiet κ s) :
    Quiet κ (State.put s a lo len v) := by
  unfold State.put
  repeat' (first | with_reducible assumption | with_reducible refine State.rnSet_quiet _ _ _ ?_)

theorem State.setBit_quiet {κ : State} (s : State) (a i : Nat) (hg : Quiet κ s) :
    Quiet κ (State.setBit s a i) := by
  unfold State.setBit
  repeat' (first | with_reducible assumption | with_reducible refine State.put_quiet _ _ _ _ _ ?_)

theorem State.clrBit_quiet {κ : State} (s : State) (a i : Nat) (hg : Quiet κ s) :
    Quiet κ (State.clrBit s a i) := by
  unfold State.clrBit
  repeat' (first | with_reducible assumption | with_reducible refine State.put_quiet _ _ _ _ _ ?_)

theorem State.putBit_quiet {κ : State} (s : State) (a i : Nat) (b : Bool) (hg : Quiet κ s) :
    Quiet κ (State.putBit s a i b) := by
  unfold State.putBit
  repeat' (first | with_reducible assumption | with_reducible refine State.put_quiet _ _ _ _ _ ?_)

theorem State.rnSet64_quiet {κ : State} (s : State) (lo v : Nat) (hg : Quiet κ s) :
    Quiet κ (State.rnSet64 s lo v) := by
  unfold State.rnSet64
  repeat' (first | with_reducible assumption | with_reducible refine State.rnSet_quiet _ _ _ ?_)

theorem State.rgReset_quiet {κ : State} (s : State) (a : Nat) (hg : Quiet κ s) :
    Quiet κ (State.rgReset s a) := by
  unfold State.rgReset
  repeat' (first | with_reducible assumption | fail_if_no_progress with_reducible refine quiet_upd ?_)

theorem State.rgResetRange_quiet {κ : State} (s : State) (lo n : Nat) (hg : Quiet κ s) :
    Quiet κ (State.rgResetRange s lo n) := by
  unfold State.rgResetRange
  repeat' (first | with_reducible assumption | fail_if_no_progress with_reducible refine quiet_upd ?_)

theorem State.countBy_quiet {κ : State} (s : State) (a n : Nat) (hg : Quiet κ s) :
    Quiet κ (State.countBy s a n) := by
  unfold State.countBy
  repeat' (first
    | with_reducible assumption | with_reducible refine quiet_ite ?_ ?_
    | with_reducible refine State.rnSet_quiet _ _ _ ?_
    | with_reducible refine State.setBit_quiet _ _ _ ?_ | intro _ | (split))

theorem State.count_quiet {κ : State} (s : State) (a : Nat) (hg : Quiet κ s) :
    Quiet κ (State.count s a) := by
  unfold State.count
  repeat' (first | with_reducible assumption | with_reducible refine State.countBy_quiet _ _ _ ?_)

theorem State.countClear_quiet {κ : State} (s : State) (a : Nat) (hg : Quiet κ s) :
    Quiet κ (State.countClear s a) := by
  unfold State.countClear
  repeat' (first
    | with_reducible assumption | with_reducible refine State.rnSet_quiet _ _ _ ?_
    | with_reducible refine State.clrBit_quiet _ _ _ ?_ | intro _ | (split))

theorem State.pllLock_quiet {κ : State} (s : State) (hg : Quiet κ s) :
    Quiet κ (State.pllLock s) := by
  unfold State.pllLock
  repeat' (first
    | with_reducible assumption | with_reducible refine quiet_ite ?_ ?_
    | with_reducible refine State.put_quiet _ _ _ _ _ ?_)

theorem State.msix_quiet {κ : State} (s : State) (fn vec : Nat) (hg : Quiet κ s) : Quiet κ (State.msix s fn vec) := by
  unfold State.msix
  split
  · exact hg
  · split
    · exact hg
    · exact hg

theorem State.devInt_quiet {κ : State} (s : State) (b : Nat) (hg : Quiet κ s) :
    Quiet κ (State.devInt s b) := by
  unfold State.devInt
  repeat' (first
    | with_reducible assumption | with_reducible refine quiet_ite ?_ ?_
    | with_reducible refine State.setBit_quiet _ _ _ ?_ | with_reducible refine State.msix_quiet _ _ _ ?_)

theorem State.intEmptied_quiet {κ : State} (s : State) (p : Nat) (hg : Quiet κ s) :
    Quiet κ (State.intEmptied s p) := by
  unfold State.intEmptied
  exact quiet_ite (quiet_updSent hg) hg

theorem State.plotInt_quiet {κ : State} (s : State) (p i : Nat) (hg : Quiet κ s) :
    Quiet κ (State.plotInt s p i) := by
  unfold State.plotInt
  repeat' (first
    | with_reducible assumption
    | with_reducible refine quiet_ite ?_ ?_
    | with_reducible refine State.intEmptied_quiet _ _ ?_
    | with_reducible refine State.setBit_quiet _ _ _ ?_
    | with_reducible refine State.msix_quiet _ _ _ ?_
    | fail_if_no_progress with_reducible refine quiet_upd ?_
    | fail_if_no_progress with_reducible refine quiet_updPend ?_
    | fail_if_no_progress with_reducible refine quiet_updSent ?_)

theorem State.firstEvent_quiet {κ : State} (s : State) (b : Blk) (cause loc pn : Nat) (hg : Quiet κ s) :
    Quiet κ (State.firstEvent s b cause loc pn) := by
  unfold State.firstEvent
  repeat' (first
    | with_reducible assumption | with_reducible refine quiet_ite ?_ ?_
    | with_reducible refine State.count_quiet _ _ ?_ | with_reducible refine State.rnSet_quiet _ _ _ ?_
    | with_reducible refine State.rnSet64_quiet _ _ _ ?_ | with_reducible refine State.devInt_quiet _ _ ?_)

theorem State.histEvent_quiet {κ : State} (s : State) (b : Blk) (cause low pn : Nat) (hg : Quiet κ s) :
    Quiet κ (State.histEvent s b cause low pn) := by
  unfold State.histEvent
  repeat' (first
    | with_reducible assumption | with_reducible refine quiet_ite ?_ ?_
    | with_reducible refine State.put_quiet _ _ _ _ _ ?_ | with_reducible refine State.setBit_quiet _ _ _ ?_
    | with_reducible refine State.rnSet_quiet _ _ _ ?_ | with_reducible refine State.rnSet64_quiet _ _ _ ?_
    | with_reducible refine State.count_quiet _ _ ?_ | fail_if_no_progress with_reducible refine quiet_upd ?_)

theorem State.eventLost_quiet {κ : State} (s : State) (cause plot pn : Nat) (hg : Quiet κ s) :
    Quiet κ (State.eventLost s cause plot pn).2 := by
  unfold State.eventLost
  dsimp only
  repeat' (first
    | with_reducible assumption | with_reducible refine State.setBit_quiet _ _ _ ?_
    | with_reducible refine State.firstEvent_quiet _ _ _ _ _ ?_ | with_reducible refine State.histEvent_quiet _ _ _ _ _ ?_)

theorem State.fallowPut_quiet {κ : State} (s : State) (r : EvRec) (hg : Quiet κ s) :
    Quiet κ (State.fallowPut s r) := by
  rw [Quiet, ← hg]
  simp only [State.fallowPut, State.spmWrite, State.core]
  rw [Laws.cfilter_csetList (by omega)]

theorem State.event_quiet {κ : State} (s : State) (r0 : EvRec) (hg : Quiet κ s) :
    Quiet κ (State.event s r0) := by
  unfold State.event
  repeat' (first
    | with_reducible assumption
    | with_reducible refine quiet_ite ?_ ?_
    | with_reducible refine State.fallowPut_quiet _ _ ?_
    | with_reducible refine State.eventLost_quiet _ _ _ _ ?_
    | with_reducible refine State.count_quiet _ _ ?_
    | fail_if_no_progress with_reducible refine quiet_upd ?_
    | with_reducible refine quiet_foldl ?_ ?_
    | intro _)

theorem State.record_quiet {κ : State} (s : State) (rtype len : Nat) (plot : Option Nat) (pn : Nat) (body : List Nat)
    (hg : Quiet κ s) :
    Quiet κ (State.record s rtype len plot pn body) := by
  unfold State.record
  repeat' (first
    | with_reducible assumption | with_reducible refine quiet_ite ?_ ?_
    | with_reducible refine State.event_quiet _ _ ?_)

theorem State.faultRec_quiet {κ : State} (s : State) (block cause loc : Nat) (plot : Option Nat) (pn : Nat) (fromVote
    : Bool) (dev : Nat) (hg : Quiet κ s) :
    Quiet κ (State.faultRec s block cause loc plot pn fromVote dev) := by
  unfold State.faultRec
  repeat' (first
    | with_reducible assumption | with_reducible refine quiet_ite ?_ ?_
    | with_reducible refine State.record_quiet _ _ _ _ _ _ ?_)

theorem State.plotState_quiet {κ : State} (s : State) (p ev status : Nat) (more : List Nat) (hg : Quiet κ s) :
    Quiet κ (State.plotState s p ev status more) := by
  unfold State.plotState
  repeat' (first
    | with_reducible assumption | with_reducible refine quiet_ite ?_ ?_
    | with_reducible refine State.record_quiet _ _ _ _ _ _ ?_)

theorem State.raise_quiet {κ : State} (s : State) (b : Blk) (stat cause loc low : Nat) (plot : Option Nat) (pn : Nat)
    (hg : Quiet κ s) :
    Quiet κ (State.raise s b stat cause loc low plot pn) := by
  unfold State.raise
  repeat' (first
    | with_reducible assumption | with_reducible refine quiet_ite ?_ ?_
    | with_reducible refine State.setBit_quiet _ _ _ ?_ | with_reducible refine State.firstEvent_quiet _ _ _ _ _ ?_
    | with_reducible refine State.histEvent_quiet _ _ _ _ _ ?_
    | with_reducible refine State.faultRec_quiet _ _ _ _ _ _ _ _ ?_)

theorem State.condition_quiet {κ : State} (s : State) (block stat i : Nat) (hg : Quiet κ s) :
    Quiet κ (State.condition s block stat i) := by
  unfold State.condition
  repeat' (first
    | with_reducible assumption | with_reducible refine State.setBit_quiet _ _ _ ?_
    | with_reducible refine State.devInt_quiet _ _ ?_)

theorem State.raiseFur_quiet {κ : State} (s : State) (phys cause loc : Nat) (plot : Option Nat) (pn : Nat) (hg : Quiet κ s) :
    Quiet κ (State.raiseFur s phys cause loc plot pn) := by
  unfold State.raiseFur
  repeat' (first | with_reducible assumption | with_reducible refine State.raise_quiet _ _ _ _ _ _ _ _ ?_)

theorem State.raiseSw_quiet {κ : State} (s : State) (acre cause plot dst step pn : Nat) (hg : Quiet κ s) :
    Quiet κ (State.raiseSw s acre cause plot dst step pn) := by
  unfold State.raiseSw
  repeat' (first | with_reducible assumption | with_reducible refine State.raise_quiet _ _ _ _ _ _ _ _ ?_)

theorem State.raiseMem_quiet {κ : State} (s : State) (pc cause offset : Nat) (plot : Option Nat) (pn : Nat) (hg : Quiet κ s) :
    Quiet κ (State.raiseMem s pc cause offset plot pn) := by
  unfold State.raiseMem
  repeat' (first | with_reducible assumption | with_reducible refine State.raise_quiet _ _ _ _ _ _ _ _ ?_)

theorem State.raiseLnk_quiet {κ : State} (s : State) (port lane cause : Nat) (hg : Quiet κ s) :
    Quiet κ (State.raiseLnk s port lane cause) := by
  unfold State.raiseLnk
  repeat' (first | with_reducible assumption | with_reducible refine State.raise_quiet _ _ _ _ _ _ _ _ ?_)

theorem State.raiseXch_quiet {κ : State} (s : State) (cause port lane fidx : Nat) (plot : Option Nat) (pn : Nat) (hg :
    Quiet κ s) :
    Quiet κ (State.raiseXch s cause port lane fidx plot pn) := by
  unfold State.raiseXch
  repeat' (first | with_reducible assumption | with_reducible refine State.raise_quiet _ _ _ _ _ _ _ _ ?_)

theorem State.raiseXt_quiet {κ : State} (s : State) (cause entry : Nat) (plot : Option Nat) (pn : Nat) (hg : Quiet κ s)
    :
    Quiet κ (State.raiseXt s cause entry plot pn) := by
  unfold State.raiseXt
  repeat' (first | with_reducible assumption | with_reducible refine State.raise_quiet _ _ _ _ _ _ _ _ ?_)

theorem State.raiseAt_quiet {κ : State} (s : State) (b : Blk) (stat cause loc : Nat) (plot : Option Nat) (pn : Nat)
    (hg : Quiet κ s) :
    Quiet κ (State.raiseAt s b stat cause loc plot pn) := by
  unfold State.raiseAt
  repeat' (first | with_reducible assumption | with_reducible refine State.raise_quiet _ _ _ _ _ _ _ _ ?_)

theorem State.raiseGln_quiet {κ : State} (s : State) (cause space index : Nat) (plot : Option Nat) (hg : Quiet κ s)
    :
    Quiet κ (State.raiseGln s cause space index plot) := by
  unfold State.raiseGln
  repeat' (first
    | with_reducible assumption
    | with_reducible refine State.raise_quiet _ _ _ _ _ _ _ _ ?_)

theorem State.raiseNoc_quiet {κ : State} (s : State) (cause loc : Nat) (plot : Option Nat) (pn : Nat) (hg : Quiet κ s)
    :
    Quiet κ (State.raiseNoc s cause loc plot pn) := by
  unfold State.raiseNoc
  repeat' (first | with_reducible assumption | with_reducible refine State.raiseAt_quiet _ _ _ _ _ _ _ ?_)

theorem State.cmtStateSet_quiet {κ : State} (s : State) (p v : Nat) (hg : Quiet κ s) :
    Quiet κ (State.cmtStateSet s p v) := by
  unfold State.cmtStateSet
  repeat' (first | with_reducible assumption | with_reducible refine State.put_quiet _ _ _ _ _ ?_)

theorem State.sowSet_quiet {κ : State} (s : State) (p v : Nat) (hg : Quiet κ s) :
    Quiet κ (State.sowSet s p v) := by
  unfold State.sowSet
  repeat' (first | with_reducible assumption | with_reducible refine State.put_quiet _ _ _ _ _ ?_)

theorem State.hvtStop_quiet {κ : State} (s : State) (p cause pn ft : Nat) (hg : Quiet κ s) :
    Quiet κ (State.hvtStop s p cause pn ft) := by
  unfold State.hvtStop
  repeat' (first
    | with_reducible assumption | with_reducible refine quiet_ite ?_ ?_
    | with_reducible refine State.event_quiet _ _ ?_ | with_reducible refine State.put_quiet _ _ _ _ _ ?_
    | with_reducible refine State.rnSet64_quiet _ _ _ ?_)

theorem State.holdRec_quiet {κ : State} (s : State) (p kind action stake pn : Nat) (hg : Quiet κ s) :
    Quiet κ (State.holdRec s p kind action stake pn) := by
  unfold State.holdRec
  repeat' (first | with_reducible assumption | with_reducible refine State.record_quiet _ _ _ _ _ _ ?_)

theorem State.ftStateSet_quiet {κ : State} (s : State) (v : Nat) (hg : Quiet κ s) :
    Quiet κ (State.ftStateSet s v) := by
  unfold State.ftStateSet
  repeat' (first | with_reducible assumption | with_reducible refine State.put_quiet _ _ _ _ _ ?_)

theorem State.setAdj_quiet {κ : State} (s : State) (want : Int) (hg : Quiet κ s) :
    Quiet κ (State.setAdj s want) := by
  unfold State.setAdj
  repeat' (first
    | with_reducible assumption | with_reducible refine quiet_ite ?_ ?_
    | with_reducible refine State.rgSet_quiet _ _ _ ?_ | with_reducible refine State.condition_quiet _ _ _ _ ?_)

theorem State.laneStateSet_quiet {κ : State} (s : State) (q i v : Nat) (hg : Quiet κ s) :
    Quiet κ (State.laneStateSet s q i v) := by
  unfold State.laneStateSet
  repeat' (first | with_reducible assumption | with_reducible refine State.put_quiet _ _ _ _ _ ?_)

theorem State.endTest_quiet {κ : State} (s : State) (q i : Nat) (hg : Quiet κ s) :
    Quiet κ (State.endTest s q i) := by
  unfold State.endTest
  repeat' (first
    | with_reducible assumption | with_reducible refine quiet_ite ?_ ?_
    | with_reducible refine State.laneStateSet_quiet _ _ _ _ ?_ | with_reducible refine State.clrBit_quiet _ _ _ ?_
    | with_reducible refine State.setBit_quiet _ _ _ ?_)

theorem State.countBits_quiet {κ : State} (s : State) (q i n : Nat) (hg : Quiet κ s) :
    Quiet κ (State.countBits s q i n) := by
  unfold State.countBits
  repeat' (first
    | with_reducible assumption | with_reducible refine quiet_ite ?_ ?_
    | with_reducible refine State.rnSet64_quiet _ _ _ ?_ | with_reducible refine State.setBit_quiet _ _ _ ?_)

theorem State.mgmtBad_quiet {κ : State} (s : State) (q : Nat) (hg : Quiet κ s) :
    Quiet κ (State.mgmtBad s q) := by
  unfold State.mgmtBad
  repeat' (first | with_reducible assumption | with_reducible refine State.raiseLnk_quiet _ _ _ _ ?_)

theorem State.laneHealth_quiet {κ : State} (s : State) (q : Nat) (_ws : List Word) (hg : Quiet κ s) :
    Quiet κ (State.laneHealth s q _ws) := by
  unfold State.laneHealth
  repeat' (first
    | with_reducible assumption | with_reducible refine quiet_ite ?_ ?_
    | with_reducible refine State.mgmtBad_quiet _ _ ?_)

theorem State.raiseFio_quiet {κ : State} (s : State) (q cause : Nat) (plot : Option Nat) (pn : Nat) (hg : Quiet κ s) :
    Quiet κ (State.raiseFio s q cause plot pn) := by
  unfold State.raiseFio
  repeat' (first | with_reducible assumption | with_reducible refine State.raiseAt_quiet _ _ _ _ _ _ _ ?_)

theorem State.brgPtr_quiet {κ : State} (s : State) (q : Nat) (hg : Quiet κ s) :
    Quiet κ (State.brgPtr s q) := by
  unfold State.brgPtr
  repeat' (first | with_reducible assumption | with_reducible refine State.rnSet_quiet _ _ _ ?_)

theorem State.brgDrop_quiet {κ : State} (s : State) (q cause : Nat) (pn : Nat) (hg : Quiet κ s) :
    Quiet κ (State.brgDrop s q cause pn) := by
  unfold State.brgDrop
  repeat' (first
    | with_reducible assumption | with_reducible refine State.raiseFio_quiet _ _ _ _ _ ?_
    | with_reducible refine State.count_quiet _ _ ?_)

theorem State.corunFinal_quiet {κ : State} (s : State) (p q : Nat) (c : Compare) (hg : Quiet κ s) :
    Quiet κ (State.corunFinal s p q c) := by
  unfold State.corunFinal
  repeat' (first
    | with_reducible assumption
    | with_reducible refine quiet_ite ?_ ?_
    | with_reducible refine State.raiseFio_quiet _ _ _ _ _ ?_
    | with_reducible refine State.count_quiet _ _ ?_
    | with_reducible refine State.plotInt_quiet _ _ _ ?_
    | with_reducible refine State.rnSet_quiet _ _ _ ?_
    | with_reducible refine State.rnSet64_quiet _ _ _ ?_
    | with_reducible refine State.rgSet_quiet _ _ _ ?_
    | with_reducible refine State.event_quiet _ _ ?_)

theorem State.gateUnpark_quiet {κ : State} (s : State) (p : Nat) (hg : Quiet κ s) :
    Quiet κ (State.gateUnpark s p) := by
  unfold State.gateUnpark
  repeat' (first
    | with_reducible assumption | with_reducible refine quiet_ite ?_ ?_
    | with_reducible refine State.clrBit_quiet _ _ _ ?_ | with_reducible refine quiet_foldl ?_ ?_ | intro _)

theorem State.sigRec_quiet {κ : State} (s : State) (p u code : Nat) (r : SigRes) (hg : Quiet κ s) :
    Quiet κ (State.sigRec s p u code r) := by
  unfold State.sigRec
  repeat' (first | with_reducible assumption | with_reducible refine State.event_quiet _ _ ?_)

theorem State.noteSig_quiet {κ : State} (s : State) (u cause pn : Nat) (hg : Quiet κ s) :
    Quiet κ (State.noteSig s u cause pn) := by
  unfold State.noteSig
  repeat' (first | with_reducible assumption | with_reducible refine State.raiseAt_quiet _ _ _ _ _ _ _ ?_)

theorem State.raiseSig_quiet {κ : State} (s : State) (u cause pn : Nat) (hg : Quiet κ s) :
    Quiet κ (State.raiseSig s u cause pn) := by
  unfold State.raiseSig
  repeat' (first
    | with_reducible assumption
    | with_reducible refine State.noteSig_quiet _ _ _ _ ?_
    | with_reducible refine State.plotInt_quiet _ _ _ ?_
    | intro _
    | (split))

theorem State.sigFinal_quiet {κ : State} (s : State) (p u : Nat) (r : SigRes) (hg : Quiet κ s) :
    Quiet κ (State.sigFinal s p u r) := by
  unfold State.sigFinal
  repeat' (first
    | with_reducible assumption
    | with_reducible refine quiet_ite ?_ ?_
    | with_reducible refine State.rnSet64_quiet _ _ _ ?_
    | with_reducible refine State.putBit_quiet _ _ _ _ ?_
    | with_reducible refine State.noteSig_quiet _ _ _ _ ?_
    | with_reducible refine State.raiseSig_quiet _ _ _ _ ?_
    | with_reducible refine State.count_quiet _ _ ?_
    | with_reducible refine State.sigRec_quiet _ _ _ _ _ ?_)

theorem State.sigWrite_quiet {κ : State} (s : State) (u : Nat) (ws : List Word) (hg : Quiet κ s) :
    Quiet κ (State.sigWrite s u ws) := by
  unfold State.sigWrite
  repeat' (first
    | with_reducible assumption | with_reducible refine quiet_ite ?_ ?_
    | with_reducible refine State.rnSet_quiet _ _ _ ?_ | with_reducible refine quiet_foldl ?_ ?_
    | with_reducible refine quiet_foldl1 ?_ ?_ | with_reducible refine quiet_foldl2 ?_ ?_ | intro _)

theorem State.remapRequest_quiet {κ : State} (s : State) (pc row : Nat) (hg : Quiet κ s) :
    Quiet κ (State.remapRequest s pc row) := by
  unfold State.remapRequest
  repeat' (first
    | with_reducible assumption
    | with_reducible refine quiet_ite ?_ ?_
    | with_reducible refine State.rnSet_quiet _ _ _ ?_
    | with_reducible refine State.raiseGln_quiet _ _ _ _ _ ?_
    | intro _
    | (split))

theorem State.memUe_quiet {κ : State} (s : State) (addr : Nat) (plot : Option Nat) (pn : Nat) (hg : Quiet κ s) :
    Quiet κ (State.memUe s addr plot pn) := by
  unfold State.memUe
  repeat' (first
    | with_reducible assumption | with_reducible refine State.raiseMem_quiet _ _ _ _ _ _ ?_
    | with_reducible refine State.count_quiet _ _ ?_)

theorem State.poisonRead_quiet {κ : State} (s : State) (addr : Nat) (plot : Option Nat) (pn : Nat) (hg : Quiet κ s) :
    Quiet κ (State.poisonRead s addr plot pn) := by
  unfold State.poisonRead
  repeat' (first
    | with_reducible assumption | with_reducible refine State.raiseMem_quiet _ _ _ _ _ _ ?_
    | with_reducible refine State.count_quiet _ _ ?_ | intro _ | (split))

theorem State.wqStat_quiet {κ : State} (s : State) (pc : Nat) (hg : Quiet κ s) :
    Quiet κ (State.wqStat s pc) := by
  unfold State.wqStat
  repeat' (first | with_reducible assumption | with_reducible refine State.rnSet_quiet _ _ _ ?_)

theorem State.hvtStateSet_quiet {κ : State} (s : State) (p v : Nat) (hg : Quiet κ s) :
    Quiet κ (State.hvtStateSet s p v) := by
  unfold State.hvtStateSet
  repeat' (first | with_reducible assumption | with_reducible refine State.put_quiet _ _ _ _ _ ?_)

theorem State.stageAdd_quiet {κ : State} (s : State) (n : Nat) (hg : Quiet κ s) :
    Quiet κ (State.stageAdd s n) := by
  unfold State.stageAdd
  repeat' (first | with_reducible assumption | fail_if_no_progress with_reducible refine quiet_upd ?_)

theorem State.hvtMirror_quiet {κ : State} (s : State) (p : Nat) (hg : Quiet κ s) :
    Quiet κ (State.hvtMirror s p) := by
  unfold State.hvtMirror
  repeat' (first
    | with_reducible assumption | with_reducible refine quiet_ite ?_ ?_
    | with_reducible refine State.rnSet64_quiet _ _ _ ?_ | with_reducible refine State.rnSet_quiet _ _ _ ?_
    | with_reducible refine State.putBit_quiet _ _ _ _ ?_ | with_reducible refine State.setBit_quiet _ _ _ ?_)

theorem State.devPut_quiet {κ : State} (s : State) (x : Rec) (hg : Quiet κ s) :
    Quiet κ (State.devPut s x) := by
  unfold State.devPut
  repeat' (first
    | with_reducible assumption | with_reducible refine State.stageAdd_quiet _ _ ?_
    | with_reducible refine State.put_quiet _ _ _ _ _ ?_ | with_reducible refine State.rnSet_quiet _ _ _ ?_
    | fail_if_no_progress with_reducible refine quiet_upd ?_)

theorem State.devLoss_quiet {κ : State} (s : State) (count cause : Nat) (hg : Quiet κ s) :
    Quiet κ (State.devLoss s count cause) := by
  unfold State.devLoss
  repeat' (first | with_reducible assumption | with_reducible refine State.devPut_quiet _ _ ?_)

theorem State.triggerRec_quiet {κ : State} (s : State) (p t mask dev : Nat) (hg : Quiet κ s) :
    Quiet κ (State.triggerRec s p t mask dev) := by
  unfold State.triggerRec
  repeat' (first
    | with_reducible assumption | with_reducible refine State.plotInt_quiet _ _ _ ?_
    | with_reducible refine State.event_quiet _ _ ?_)

theorem State.hitCounts_quiet {κ : State} (s : State) (p mask : Nat) (hg : Quiet κ s) :
    Quiet κ (State.hitCounts s p mask) := by
  unfold State.hitCounts
  repeat' (first
    | with_reducible assumption | with_reducible refine quiet_ite ?_ ?_
    | with_reducible refine State.putBit_quiet _ _ _ _ ?_ | with_reducible refine State.count_quiet _ _ ?_
    | with_reducible refine quiet_foldl ?_ ?_ | with_reducible refine quiet_foldl1 ?_ ?_
    | with_reducible refine quiet_foldl2 ?_ ?_ | intro _)

theorem State.hvtStep0_quiet {κ : State} (s : State) (p : Nat) (k : Option Nat) (hg : Quiet κ s) :
    Quiet κ (State.hvtStep0 s p k) := by
  unfold State.hvtStep0
  repeat' (first
    | with_reducible assumption | with_reducible refine quiet_ite ?_ ?_
    | with_reducible refine State.hvtStop_quiet _ _ _ _ _ ?_)

theorem State.fallowRec_quiet {κ : State} (s : State) (p : Option Nat) (enter : Bool) (level ns : Nat) (hg : Quiet κ s)
    :
    Quiet κ (State.fallowRec s p enter level ns) := by
  unfold State.fallowRec
  repeat' (first
    | with_reducible assumption | with_reducible refine quiet_ite ?_ ?_
    | with_reducible refine State.event_quiet _ _ ?_)

theorem State.swapsEnd_quiet {κ : State} (s : State) (p n : Nat) (hg : Quiet κ s) :
    Quiet κ (State.swapsEnd s p n) := by
  unfold State.swapsEnd
  repeat' (first
    | with_reducible assumption | with_reducible refine quiet_ite ?_ ?_
    | with_reducible refine State.putBit_quiet _ _ _ _ ?_ | with_reducible refine State.clrBit_quiet _ _ _ ?_
    | with_reducible refine State.setBit_quiet _ _ _ ?_ | with_reducible refine quiet_foldl ?_ ?_
    | with_reducible refine quiet_foldl1 ?_ ?_ | with_reducible refine quiet_foldl2 ?_ ?_ | intro _)

theorem State.swapsCommit_quiet {κ : State} (s : State) (p k : Nat) (hg : Quiet κ s) :
    Quiet κ (State.swapsCommit s p k) := by
  unfold State.swapsCommit
  repeat' (first
    | with_reducible assumption | with_reducible refine quiet_ite ?_ ?_
    | with_reducible refine State.clrBit_quiet _ _ _ ?_ | with_reducible refine quiet_foldl ?_ ?_
    | with_reducible refine quiet_foldl1 ?_ ?_ | with_reducible refine quiet_foldl2 ?_ ?_ | intro _)

theorem State.swapsBack_quiet {κ : State} (s : State) (p k : Nat) (hg : Quiet κ s) :
    Quiet κ (State.swapsBack s p k) := by
  unfold State.swapsBack
  repeat' (first
    | with_reducible assumption | with_reducible refine quiet_ite ?_ ?_
    | with_reducible refine State.putBit_quiet _ _ _ _ ?_ | with_reducible refine State.setBit_quiet _ _ _ ?_
    | with_reducible refine State.clrBit_quiet _ _ _ ?_ | with_reducible refine quiet_foldl ?_ ?_
    | with_reducible refine quiet_foldl1 ?_ ?_ | with_reducible refine quiet_foldl2 ?_ ?_ | intro _)

theorem State.stakeRec_quiet {κ : State} (s : State) (p kind n : Nat) (hg : Quiet κ s) :
    Quiet κ (State.stakeRec s p kind n) := by
  unfold State.stakeRec
  repeat' (first | with_reducible assumption | with_reducible refine State.record_quiet _ _ _ _ _ _ ?_)

theorem State.latFail_quiet {κ : State} (s : State) (p q : Nat) (hg : Quiet κ s) :
    Quiet κ (State.latFail s p q) := by
  unfold State.latFail
  repeat' (first
    | with_reducible assumption | with_reducible refine State.setBit_quiet _ _ _ ?_
    | with_reducible refine State.put_quiet _ _ _ _ _ ?_)

theorem State.chargeRecs_quiet {κ : State} (s : State) (p : Nat) (cs : List Charge) (hg : Quiet κ s) :
    Quiet κ (State.chargeRecs s p cs) := by
  unfold State.chargeRecs
  repeat' (first
    | with_reducible assumption | with_reducible refine State.faultRec_quiet _ _ _ _ _ _ _ _ ?_
    | with_reducible refine quiet_foldl ?_ ?_ | with_reducible refine quiet_foldl1 ?_ ?_
    | with_reducible refine quiet_foldl2 ?_ ?_ | intro _)

theorem State.votePacket_quiet {κ : State} (s : State) (ws : List Word) (hg : Quiet κ s) :
    Quiet κ (State.votePacket s ws) := by
  unfold State.votePacket
  repeat' (first
    | with_reducible assumption | with_reducible refine quiet_ite ?_ ?_
    | with_reducible refine State.faultRec_quiet _ _ _ _ _ _ _ _ ?_ | intro _ | (split))

theorem State.startState_quiet {κ : State} (s : State) (p : Nat) (hg : Quiet κ s) :
    Quiet κ (State.startState s p) := by
  unfold State.startState
  repeat' (first
    | with_reducible assumption | with_reducible refine quiet_ite ?_ ?_
    | with_reducible refine State.cmtStateSet_quiet _ _ _ ?_)

theorem State.hwmReset_quiet {κ : State} (s : State) (p : Nat) (hg : Quiet κ s) :
    Quiet κ (State.hwmReset s p) := by
  unfold State.hwmReset
  repeat' (first
    | with_reducible assumption | with_reducible refine State.put_quiet _ _ _ _ _ ?_
    | with_reducible refine quiet_foldl ?_ ?_ | with_reducible refine quiet_foldl1 ?_ ?_
    | with_reducible refine quiet_foldl2 ?_ ?_ | intro _)

theorem State.bootSet_quiet {κ : State} (s : State) (state cause : Nat) (hg : Quiet κ s) :
    Quiet κ (State.bootSet s state cause) := by
  unfold State.bootSet
  repeat' (first | with_reducible assumption | with_reducible refine State.put_quiet _ _ _ _ _ ?_)

theorem State.sownPin_quiet {κ : State} (s : State) (hg : Quiet κ s) :
    Quiet κ (State.sownPin s) := by
  unfold State.sownPin
  repeat' (first
    | with_reducible assumption | with_reducible refine quiet_ite ?_ ?_
    | with_reducible refine State.putBit_quiet _ _ _ _ ?_ | with_reducible refine State.clrBit_quiet _ _ _ ?_)

theorem State.applySetting_quiet {κ : State} (s : State) (val : Nat) (hg : Quiet κ s) :
    Quiet κ (State.applySetting s val) := by
  unfold State.applySetting
  repeat' (first
    | with_reducible assumption | with_reducible refine State.rnSet_quiet _ _ _ ?_ | intro _ | (split) | (dsimp only))

theorem State.applySettings_quiet {κ : State} (s : State) (x : Part) (hg : Quiet κ s) :
    Quiet κ (State.applySettings s x) := by
  unfold State.applySettings
  repeat' (first
    | with_reducible assumption | with_reducible refine State.rgReset_quiet _ _ ?_
    | with_reducible refine State.put_quiet _ _ _ _ _ ?_ | with_reducible refine State.applySetting_quiet _ _ ?_
    | with_reducible refine quiet_foldl ?_ ?_ | with_reducible refine quiet_foldl1 ?_ ?_
    | with_reducible refine quiet_foldl2 ?_ ?_ | intro _)

theorem State.headerRegs_quiet {κ : State} (s : State) (x : Part) (hg : Quiet κ s) :
    Quiet κ (State.headerRegs s x) := by
  unfold State.headerRegs
  repeat' (first
    | with_reducible assumption | with_reducible refine State.put_quiet _ _ _ _ _ ?_
    | with_reducible refine State.rnSet_quiet _ _ _ ?_ | with_reducible refine quiet_foldl ?_ ?_
    | with_reducible refine quiet_foldl1 ?_ ?_ | with_reducible refine quiet_foldl2 ?_ ?_ | intro _)

theorem State.setChannels_quiet {κ : State} (s : State) (x : Part) (hg : Quiet κ s) :
    Quiet κ (State.setChannels s x) := by
  unfold State.setChannels
  repeat' (first
    | with_reducible assumption | with_reducible refine quiet_ite ?_ ?_
    | with_reducible refine State.putBit_quiet _ _ _ _ ?_ | with_reducible refine State.put_quiet _ _ _ _ _ ?_
    | with_reducible refine quiet_foldl ?_ ?_ | with_reducible refine quiet_foldl1 ?_ ?_
    | with_reducible refine quiet_foldl2 ?_ ?_ | intro _)

theorem State.mapRegs_quiet {κ : State} (s : State) (p : Nat) (hg : Quiet κ s) :
    Quiet κ (State.mapRegs s p) := by
  unfold State.mapRegs
  repeat' (first | with_reducible assumption | with_reducible refine State.rnSet_quiet _ _ _ ?_)

theorem State.ownerReg_quiet {κ : State} (s : State) (p kind i : Nat) (on : Bool) (hg : Quiet κ s) :
    Quiet κ (State.ownerReg s p kind i on) := by
  unfold State.ownerReg
  repeat' (first
    | with_reducible assumption
    | with_reducible refine quiet_ite ?_ ?_
    | with_reducible refine State.putBit_quiet _ _ _ _ ?_
    | with_reducible refine State.put_quiet _ _ _ _ _ ?_
    | with_reducible refine State.setBit_quiet _ _ _ ?_
    | with_reducible refine State.rnSet_quiet _ _ _ ?_
    | intro _
    | (split))

theorem State.plotRegsReset_quiet {κ : State} (s : State) (p : Nat) (hg : Quiet κ s) :
    Quiet κ (State.plotRegsReset s p) := by
  unfold State.plotRegsReset
  repeat' (first
    | with_reducible assumption
    | with_reducible refine State.rgResetRange_quiet _ _ _ ?_
    | with_reducible refine State.rnSet_quiet _ _ _ ?_
    | with_reducible refine State.put_quiet _ _ _ _ _ ?_
    | with_reducible refine State.intEmptied_quiet _ _ ?_)

theorem State.spmCond_quiet {κ : State} (s : State) (i : Nat) (hg : Quiet κ s) :
    Quiet κ (State.spmCond s i) := by
  unfold State.spmCond
  repeat' (first | with_reducible assumption | with_reducible refine State.condition_quiet _ _ _ _ ?_)

theorem State.storeRegs_quiet {κ : State} (s : State) (o : Origin) (hg : Quiet κ s) :
    Quiet κ (State.storeRegs s o) := by
  unfold State.storeRegs
  repeat' (first | with_reducible assumption | with_reducible refine State.put_quiet _ _ _ _ _ ?_ | intro _ | (split))

theorem State.aliveCheck_quiet {κ : State} (s : State) (q a : Nat) (hg : Quiet κ s) :
    Quiet κ (State.aliveCheck s q a).2 := by
  unfold State.aliveCheck
  repeat' (first
    | with_reducible assumption | with_reducible refine quiet_ite ?_ ?_
    | with_reducible refine quiet_ite2 ?_ ?_ | with_reducible refine State.put_quiet _ _ _ _ _ ?_)

theorem State.firstAck_quiet {κ : State} (s : State) (b : Blk) (v : Nat) (hg : Quiet κ s) :
    Quiet κ (State.firstAck s b v) := by
  unfold State.firstAck
  repeat' (first
    | with_reducible assumption | with_reducible refine quiet_ite ?_ ?_
    | with_reducible refine State.clrBit_quiet _ _ _ ?_ | with_reducible refine State.countClear_quiet _ _ ?_)

theorem State.histAck_quiet {κ : State} (s : State) (b : Blk) (v : Nat) (hg : Quiet κ s) :
    Quiet κ (State.histAck s b v) := by
  unfold State.histAck
  repeat' (first
    | with_reducible assumption | with_reducible refine quiet_ite ?_ ?_
    | with_reducible refine State.put_quiet _ _ _ _ _ ?_)

theorem State.hazardAck_quiet {κ : State} (s : State) (a p : Nat) (hg : Quiet κ s) :
    Quiet κ (State.hazardAck s a p) := by
  unfold State.hazardAck
  repeat' (first
    | with_reducible assumption | with_reducible refine quiet_ite ?_ ?_
    | with_reducible refine State.clrBit_quiet _ _ _ ?_)

theorem State.clearWrite_quiet {κ : State} (s : State) (a v : Nat) (hg : Quiet κ s) :
    Quiet κ (State.clearWrite s a v) := by
  unfold State.clearWrite
  repeat' (first
    | with_reducible assumption | with_reducible refine quiet_ite ?_ ?_
    | with_reducible refine State.countClear_quiet _ _ ?_ | with_reducible refine State.hazardAck_quiet _ _ _ ?_
    | with_reducible refine State.rnSet64_quiet _ _ _ ?_ | with_reducible refine State.clrBit_quiet _ _ _ ?_ | intro _
    | (split))

theorem State.glnRaise_quiet {κ : State} (s : State) (cause kind idx : Nat) (hg : Quiet κ s) :
    Quiet κ (State.glnRaise s cause kind idx) := by
  unfold State.glnRaise
  repeat' (first
    | with_reducible assumption
    | with_reducible refine State.raiseGln_quiet _ _ _ _ _ ?_)

theorem State.raiseCrp_quiet {κ : State} (s : State) (i : Nat) (hg : Quiet κ s) :
    Quiet κ (State.raiseCrp s i) := by
  unfold State.raiseCrp
  repeat' (first
    | with_reducible assumption | with_reducible refine State.condition_quiet _ _ _ _ ?_
    | with_reducible refine State.faultRec_quiet _ _ _ _ _ _ _ _ ?_)

theorem State.lastUs_quiet {κ : State} (s : State) (ns : Nat) (hg : Quiet κ s) :
    Quiet κ (State.lastUs s ns) := by
  unfold State.lastUs
  repeat' (first | with_reducible assumption | with_reducible refine State.put_quiet _ _ _ _ _ ?_)

theorem State.readTemps_quiet {κ : State} (s : State) (temps : List Int) (hg : Quiet κ s) :
    Quiet κ (State.readTemps s temps) := by
  unfold State.readTemps
  repeat' (first
    | with_reducible assumption | with_reducible refine State.rnSet_quiet _ _ _ ?_
    | with_reducible refine quiet_foldl ?_ ?_ | with_reducible refine quiet_foldl1 ?_ ?_
    | with_reducible refine quiet_foldl2 ?_ ?_ | intro _)

theorem State.raisePkt_quiet {κ : State} (s : State) (cause q i : Nat) (hg : Quiet κ s) :
    Quiet κ (State.raisePkt s cause q i) := by
  unfold State.raisePkt
  repeat' (first | with_reducible assumption | with_reducible refine State.raiseXch_quiet _ _ _ _ _ _ _ ?_)

theorem State.pktBad_quiet {κ : State} (s : State) (q i cause : Nat) (hg : Quiet κ s) :
    Quiet κ (State.pktBad s q i cause) := by
  unfold State.pktBad
  repeat' (first
    | with_reducible assumption | with_reducible refine State.raisePkt_quiet _ _ _ _ ?_
    | with_reducible refine State.count_quiet _ _ ?_)

theorem State.misroute_quiet {κ : State} (s : State) (q i : Nat) (hg : Quiet κ s) :
    Quiet κ (State.misroute s q i) := by
  unfold State.misroute
  repeat' (first | with_reducible assumption | with_reducible refine State.raisePkt_quiet _ _ _ _ ?_)

end Sys2Proof.Machine
end

