-- ==== Sys2Proof/Laws/State.lean ====
section
/-! SUPPORT. What the named updates of the state leave alone, field by field, and what they change. -/

namespace Sys2Proof.Machine
open Sys2Proof

-- One proof at a time: proofs checked side by side take a stack each.
set_option Elab.async false

/-! rgSet changes regs alone. -/

@[simp] theorem State.rgSet_pending (s : State) (a : Nat) (v : Word) : (s.rgSet a v).pending = s.pending := rfl
@[simp] theorem State.rgSet_copies (s : State) (a : Nat) (v : Word) : (s.rgSet a v).copies = s.copies := rfl
@[simp] theorem State.rgSet_histOpen (s : State) (a : Nat) (v : Word) : (s.rgSet a v).histOpen = s.histOpen := rfl
@[simp] theorem State.rgSet_ecc (s : State) (a : Nat) (v : Word) : (s.rgSet a v).ecc = s.ecc := rfl
@[simp] theorem State.rgSet_inject (s : State) (a : Nat) (v : Word) : (s.rgSet a v).inject = s.inject := rfl
@[simp] theorem State.rgSet_fmap (s : State) (a : Nat) (v : Word) : (s.rgSet a v).fmap = s.fmap := rfl
@[simp] theorem State.rgSet_plots (s : State) (a : Nat) (v : Word) : (s.rgSet a v).plots = s.plots := rfl
@[simp] theorem State.rgSet_bp (s : State) (a : Nat) (v : Word) : (s.rgSet a v).bp = s.bp := rfl
@[simp] theorem State.rgSet_fur (s : State) (a : Nat) (v : Word) : (s.rgSet a v).fur = s.fur := rfl
@[simp] theorem State.rgSet_sw (s : State) (a : Nat) (v : Word) : (s.rgSet a v).sw = s.sw := rfl
@[simp] theorem State.rgSet_hbm (s : State) (a : Nat) (v : Word) : (s.rgSet a v).hbm = s.hbm := rfl
@[simp] theorem State.rgSet_xch (s : State) (a : Nat) (v : Word) : (s.rgSet a v).xch = s.xch := rfl
@[simp] theorem State.rgSet_lnk (s : State) (a : Nat) (v : Word) : (s.rgSet a v).lnk = s.lnk := rfl
@[simp] theorem State.rgSet_ft (s : State) (a : Nat) (v : Word) : (s.rgSet a v).ft = s.ft := rfl
@[simp] theorem State.rgSet_io (s : State) (a : Nat) (v : Word) : (s.rgSet a v).io = s.io := rfl
@[simp] theorem State.rgSet_tile (s : State) (a : Nat) (v : Word) : (s.rgSet a v).tile = s.tile := rfl
@[simp] theorem State.rgSet_boot (s : State) (a : Nat) (v : Word) : (s.rgSet a v).boot = s.boot := rfl
@[simp] theorem State.rgSet_cmd (s : State) (a : Nat) (v : Word) : (s.rgSet a v).cmd = s.cmd := rfl
@[simp] theorem State.rgSet_host (s : State) (a : Nat) (v : Word) : (s.rgSet a v).host = s.host := rfl
@[simp] theorem State.rgSet_hvt (s : State) (a : Nat) (v : Word) : (s.rgSet a v).hvt = s.hvt := rfl
@[simp] theorem State.rgSet_gln (s : State) (a : Nat) (v : Word) : (s.rgSet a v).gln = s.gln := rfl
@[simp] theorem State.rgSet_pwr (s : State) (a : Nat) (v : Word) : (s.rgSet a v).pwr = s.pwr := rfl
@[simp] theorem State.rgSet_svc (s : State) (a : Nat) (v : Word) : (s.rgSet a v).svc = s.svc := rfl
@[simp] theorem State.rgSet_out (s : State) (a : Nat) (v : Word) : (s.rgSet a v).out = s.out := rfl
@[simp] theorem State.rgSet_free (s : State) (a : Nat) (v : Word) : (s.rgSet a v).free = s.free := rfl

/-! rnSet changes regs alone. -/

@[simp] theorem State.rnSet_pending (s : State) (a v : Nat) : (s.rnSet a v).pending = s.pending := rfl
@[simp] theorem State.rnSet_copies (s : State) (a v : Nat) : (s.rnSet a v).copies = s.copies := rfl
@[simp] theorem State.rnSet_histOpen (s : State) (a v : Nat) : (s.rnSet a v).histOpen = s.histOpen := rfl
@[simp] theorem State.rnSet_ecc (s : State) (a v : Nat) : (s.rnSet a v).ecc = s.ecc := rfl
@[simp] theorem State.rnSet_inject (s : State) (a v : Nat) : (s.rnSet a v).inject = s.inject := rfl
@[simp] theorem State.rnSet_fmap (s : State) (a v : Nat) : (s.rnSet a v).fmap = s.fmap := rfl
@[simp] theorem State.rnSet_plots (s : State) (a v : Nat) : (s.rnSet a v).plots = s.plots := rfl
@[simp] theorem State.rnSet_bp (s : State) (a v : Nat) : (s.rnSet a v).bp = s.bp := rfl
@[simp] theorem State.rnSet_fur (s : State) (a v : Nat) : (s.rnSet a v).fur = s.fur := rfl
@[simp] theorem State.rnSet_sw (s : State) (a v : Nat) : (s.rnSet a v).sw = s.sw := rfl
@[simp] theorem State.rnSet_hbm (s : State) (a v : Nat) : (s.rnSet a v).hbm = s.hbm := rfl
@[simp] theorem State.rnSet_xch (s : State) (a v : Nat) : (s.rnSet a v).xch = s.xch := rfl
@[simp] theorem State.rnSet_lnk (s : State) (a v : Nat) : (s.rnSet a v).lnk = s.lnk := rfl
@[simp] theorem State.rnSet_ft (s : State) (a v : Nat) : (s.rnSet a v).ft = s.ft := rfl
@[simp] theorem State.rnSet_io (s : State) (a v : Nat) : (s.rnSet a v).io = s.io := rfl
@[simp] theorem State.rnSet_tile (s : State) (a v : Nat) : (s.rnSet a v).tile = s.tile := rfl
@[simp] theorem State.rnSet_boot (s : State) (a v : Nat) : (s.rnSet a v).boot = s.boot := rfl
@[simp] theorem State.rnSet_cmd (s : State) (a v : Nat) : (s.rnSet a v).cmd = s.cmd := rfl
@[simp] theorem State.rnSet_host (s : State) (a v : Nat) : (s.rnSet a v).host = s.host := rfl
@[simp] theorem State.rnSet_hvt (s : State) (a v : Nat) : (s.rnSet a v).hvt = s.hvt := rfl
@[simp] theorem State.rnSet_gln (s : State) (a v : Nat) : (s.rnSet a v).gln = s.gln := rfl
@[simp] theorem State.rnSet_pwr (s : State) (a v : Nat) : (s.rnSet a v).pwr = s.pwr := rfl
@[simp] theorem State.rnSet_svc (s : State) (a v : Nat) : (s.rnSet a v).svc = s.svc := rfl
@[simp] theorem State.rnSet_out (s : State) (a v : Nat) : (s.rnSet a v).out = s.out := rfl
@[simp] theorem State.rnSet_free (s : State) (a v : Nat) : (s.rnSet a v).free = s.free := rfl

/-! put changes regs alone. -/

@[simp] theorem State.put_pending (s : State) (a lo len v : Nat) : (s.put a lo len v).pending = s.pending := rfl
@[simp] theorem State.put_copies (s : State) (a lo len v : Nat) : (s.put a lo len v).copies = s.copies := rfl
@[simp] theorem State.put_histOpen (s : State) (a lo len v : Nat) : (s.put a lo len v).histOpen = s.histOpen := rfl
@[simp] theorem State.put_ecc (s : State) (a lo len v : Nat) : (s.put a lo len v).ecc = s.ecc := rfl
@[simp] theorem State.put_inject (s : State) (a lo len v : Nat) : (s.put a lo len v).inject = s.inject := rfl
@[simp] theorem State.put_fmap (s : State) (a lo len v : Nat) : (s.put a lo len v).fmap = s.fmap := rfl
@[simp] theorem State.put_plots (s : State) (a lo len v : Nat) : (s.put a lo len v).plots = s.plots := rfl
@[simp] theorem State.put_bp (s : State) (a lo len v : Nat) : (s.put a lo len v).bp = s.bp := rfl
@[simp] theorem State.put_fur (s : State) (a lo len v : Nat) : (s.put a lo len v).fur = s.fur := rfl
@[simp] theorem State.put_sw (s : State) (a lo len v : Nat) : (s.put a lo len v).sw = s.sw := rfl
@[simp] theorem State.put_hbm (s : State) (a lo len v : Nat) : (s.put a lo len v).hbm = s.hbm := rfl
@[simp] theorem State.put_xch (s : State) (a lo len v : Nat) : (s.put a lo len v).xch = s.xch := rfl
@[simp] theorem State.put_lnk (s : State) (a lo len v : Nat) : (s.put a lo len v).lnk = s.lnk := rfl
@[simp] theorem State.put_ft (s : State) (a lo len v : Nat) : (s.put a lo len v).ft = s.ft := rfl
@[simp] theorem State.put_io (s : State) (a lo len v : Nat) : (s.put a lo len v).io = s.io := rfl
@[simp] theorem State.put_tile (s : State) (a lo len v : Nat) : (s.put a lo len v).tile = s.tile := rfl
@[simp] theorem State.put_boot (s : State) (a lo len v : Nat) : (s.put a lo len v).boot = s.boot := rfl
@[simp] theorem State.put_cmd (s : State) (a lo len v : Nat) : (s.put a lo len v).cmd = s.cmd := rfl
@[simp] theorem State.put_host (s : State) (a lo len v : Nat) : (s.put a lo len v).host = s.host := rfl
@[simp] theorem State.put_hvt (s : State) (a lo len v : Nat) : (s.put a lo len v).hvt = s.hvt := rfl
@[simp] theorem State.put_gln (s : State) (a lo len v : Nat) : (s.put a lo len v).gln = s.gln := rfl
@[simp] theorem State.put_pwr (s : State) (a lo len v : Nat) : (s.put a lo len v).pwr = s.pwr := rfl
@[simp] theorem State.put_svc (s : State) (a lo len v : Nat) : (s.put a lo len v).svc = s.svc := rfl
@[simp] theorem State.put_out (s : State) (a lo len v : Nat) : (s.put a lo len v).out = s.out := rfl
@[simp] theorem State.put_free (s : State) (a lo len v : Nat) : (s.put a lo len v).free = s.free := rfl

/-! setBit changes regs alone. -/

@[simp] theorem State.setBit_pending (s : State) (a i : Nat) : (s.setBit a i).pending = s.pending := rfl
@[simp] theorem State.setBit_copies (s : State) (a i : Nat) : (s.setBit a i).copies = s.copies := rfl
@[simp] theorem State.setBit_histOpen (s : State) (a i : Nat) : (s.setBit a i).histOpen = s.histOpen := rfl
@[simp] theorem State.setBit_ecc (s : State) (a i : Nat) : (s.setBit a i).ecc = s.ecc := rfl
@[simp] theorem State.setBit_inject (s : State) (a i : Nat) : (s.setBit a i).inject = s.inject := rfl
@[simp] theorem State.setBit_fmap (s : State) (a i : Nat) : (s.setBit a i).fmap = s.fmap := rfl
@[simp] theorem State.setBit_plots (s : State) (a i : Nat) : (s.setBit a i).plots = s.plots := rfl
@[simp] theorem State.setBit_bp (s : State) (a i : Nat) : (s.setBit a i).bp = s.bp := rfl
@[simp] theorem State.setBit_fur (s : State) (a i : Nat) : (s.setBit a i).fur = s.fur := rfl
@[simp] theorem State.setBit_sw (s : State) (a i : Nat) : (s.setBit a i).sw = s.sw := rfl
@[simp] theorem State.setBit_hbm (s : State) (a i : Nat) : (s.setBit a i).hbm = s.hbm := rfl
@[simp] theorem State.setBit_xch (s : State) (a i : Nat) : (s.setBit a i).xch = s.xch := rfl
@[simp] theorem State.setBit_lnk (s : State) (a i : Nat) : (s.setBit a i).lnk = s.lnk := rfl
@[simp] theorem State.setBit_ft (s : State) (a i : Nat) : (s.setBit a i).ft = s.ft := rfl
@[simp] theorem State.setBit_io (s : State) (a i : Nat) : (s.setBit a i).io = s.io := rfl
@[simp] theorem State.setBit_tile (s : State) (a i : Nat) : (s.setBit a i).tile = s.tile := rfl
@[simp] theorem State.setBit_boot (s : State) (a i : Nat) : (s.setBit a i).boot = s.boot := rfl
@[simp] theorem State.setBit_cmd (s : State) (a i : Nat) : (s.setBit a i).cmd = s.cmd := rfl
@[simp] theorem State.setBit_host (s : State) (a i : Nat) : (s.setBit a i).host = s.host := rfl
@[simp] theorem State.setBit_hvt (s : State) (a i : Nat) : (s.setBit a i).hvt = s.hvt := rfl
@[simp] theorem State.setBit_gln (s : State) (a i : Nat) : (s.setBit a i).gln = s.gln := rfl
@[simp] theorem State.setBit_pwr (s : State) (a i : Nat) : (s.setBit a i).pwr = s.pwr := rfl
@[simp] theorem State.setBit_svc (s : State) (a i : Nat) : (s.setBit a i).svc = s.svc := rfl
@[simp] theorem State.setBit_out (s : State) (a i : Nat) : (s.setBit a i).out = s.out := rfl
@[simp] theorem State.setBit_free (s : State) (a i : Nat) : (s.setBit a i).free = s.free := rfl

/-! clrBit changes regs alone. -/

@[simp] theorem State.clrBit_pending (s : State) (a i : Nat) : (s.clrBit a i).pending = s.pending := rfl
@[simp] theorem State.clrBit_copies (s : State) (a i : Nat) : (s.clrBit a i).copies = s.copies := rfl
@[simp] theorem State.clrBit_histOpen (s : State) (a i : Nat) : (s.clrBit a i).histOpen = s.histOpen := rfl
@[simp] theorem State.clrBit_ecc (s : State) (a i : Nat) : (s.clrBit a i).ecc = s.ecc := rfl
@[simp] theorem State.clrBit_inject (s : State) (a i : Nat) : (s.clrBit a i).inject = s.inject := rfl
@[simp] theorem State.clrBit_fmap (s : State) (a i : Nat) : (s.clrBit a i).fmap = s.fmap := rfl
@[simp] theorem State.clrBit_plots (s : State) (a i : Nat) : (s.clrBit a i).plots = s.plots := rfl
@[simp] theorem State.clrBit_bp (s : State) (a i : Nat) : (s.clrBit a i).bp = s.bp := rfl
@[simp] theorem State.clrBit_fur (s : State) (a i : Nat) : (s.clrBit a i).fur = s.fur := rfl
@[simp] theorem State.clrBit_sw (s : State) (a i : Nat) : (s.clrBit a i).sw = s.sw := rfl
@[simp] theorem State.clrBit_hbm (s : State) (a i : Nat) : (s.clrBit a i).hbm = s.hbm := rfl
@[simp] theorem State.clrBit_xch (s : State) (a i : Nat) : (s.clrBit a i).xch = s.xch := rfl
@[simp] theorem State.clrBit_lnk (s : State) (a i : Nat) : (s.clrBit a i).lnk = s.lnk := rfl
@[simp] theorem State.clrBit_ft (s : State) (a i : Nat) : (s.clrBit a i).ft = s.ft := rfl
@[simp] theorem State.clrBit_io (s : State) (a i : Nat) : (s.clrBit a i).io = s.io := rfl
@[simp] theorem State.clrBit_tile (s : State) (a i : Nat) : (s.clrBit a i).tile = s.tile := rfl
@[simp] theorem State.clrBit_boot (s : State) (a i : Nat) : (s.clrBit a i).boot = s.boot := rfl
@[simp] theorem State.clrBit_cmd (s : State) (a i : Nat) : (s.clrBit a i).cmd = s.cmd := rfl
@[simp] theorem State.clrBit_host (s : State) (a i : Nat) : (s.clrBit a i).host = s.host := rfl
@[simp] theorem State.clrBit_hvt (s : State) (a i : Nat) : (s.clrBit a i).hvt = s.hvt := rfl
@[simp] theorem State.clrBit_gln (s : State) (a i : Nat) : (s.clrBit a i).gln = s.gln := rfl
@[simp] theorem State.clrBit_pwr (s : State) (a i : Nat) : (s.clrBit a i).pwr = s.pwr := rfl
@[simp] theorem State.clrBit_svc (s : State) (a i : Nat) : (s.clrBit a i).svc = s.svc := rfl
@[simp] theorem State.clrBit_out (s : State) (a i : Nat) : (s.clrBit a i).out = s.out := rfl
@[simp] theorem State.clrBit_free (s : State) (a i : Nat) : (s.clrBit a i).free = s.free := rfl

/-! putBit changes regs alone. -/

@[simp] theorem State.putBit_pending (s : State) (a i : Nat) (b : Bool) : (s.putBit a i b).pending = s.pending := rfl
@[simp] theorem State.putBit_copies (s : State) (a i : Nat) (b : Bool) : (s.putBit a i b).copies = s.copies := rfl
@[simp] theorem State.putBit_histOpen (s : State) (a i : Nat) (b : Bool) : (s.putBit a i b).histOpen = s.histOpen := rfl
@[simp] theorem State.putBit_ecc (s : State) (a i : Nat) (b : Bool) : (s.putBit a i b).ecc = s.ecc := rfl
@[simp] theorem State.putBit_inject (s : State) (a i : Nat) (b : Bool) : (s.putBit a i b).inject = s.inject := rfl
@[simp] theorem State.putBit_fmap (s : State) (a i : Nat) (b : Bool) : (s.putBit a i b).fmap = s.fmap := rfl
@[simp] theorem State.putBit_plots (s : State) (a i : Nat) (b : Bool) : (s.putBit a i b).plots = s.plots := rfl
@[simp] theorem State.putBit_bp (s : State) (a i : Nat) (b : Bool) : (s.putBit a i b).bp = s.bp := rfl
@[simp] theorem State.putBit_fur (s : State) (a i : Nat) (b : Bool) : (s.putBit a i b).fur = s.fur := rfl
@[simp] theorem State.putBit_sw (s : State) (a i : Nat) (b : Bool) : (s.putBit a i b).sw = s.sw := rfl
@[simp] theorem State.putBit_hbm (s : State) (a i : Nat) (b : Bool) : (s.putBit a i b).hbm = s.hbm := rfl
@[simp] theorem State.putBit_xch (s : State) (a i : Nat) (b : Bool) : (s.putBit a i b).xch = s.xch := rfl
@[simp] theorem State.putBit_lnk (s : State) (a i : Nat) (b : Bool) : (s.putBit a i b).lnk = s.lnk := rfl
@[simp] theorem State.putBit_ft (s : State) (a i : Nat) (b : Bool) : (s.putBit a i b).ft = s.ft := rfl
@[simp] theorem State.putBit_io (s : State) (a i : Nat) (b : Bool) : (s.putBit a i b).io = s.io := rfl
@[simp] theorem State.putBit_tile (s : State) (a i : Nat) (b : Bool) : (s.putBit a i b).tile = s.tile := rfl
@[simp] theorem State.putBit_boot (s : State) (a i : Nat) (b : Bool) : (s.putBit a i b).boot = s.boot := rfl
@[simp] theorem State.putBit_cmd (s : State) (a i : Nat) (b : Bool) : (s.putBit a i b).cmd = s.cmd := rfl
@[simp] theorem State.putBit_host (s : State) (a i : Nat) (b : Bool) : (s.putBit a i b).host = s.host := rfl
@[simp] theorem State.putBit_hvt (s : State) (a i : Nat) (b : Bool) : (s.putBit a i b).hvt = s.hvt := rfl
@[simp] theorem State.putBit_gln (s : State) (a i : Nat) (b : Bool) : (s.putBit a i b).gln = s.gln := rfl
@[simp] theorem State.putBit_pwr (s : State) (a i : Nat) (b : Bool) : (s.putBit a i b).pwr = s.pwr := rfl
@[simp] theorem State.putBit_svc (s : State) (a i : Nat) (b : Bool) : (s.putBit a i b).svc = s.svc := rfl
@[simp] theorem State.putBit_out (s : State) (a i : Nat) (b : Bool) : (s.putBit a i b).out = s.out := rfl
@[simp] theorem State.putBit_free (s : State) (a i : Nat) (b : Bool) : (s.putBit a i b).free = s.free := rfl

/-! rnSet64 changes regs alone. -/

@[simp] theorem State.rnSet64_pending (s : State) (a v : Nat) : (s.rnSet64 a v).pending = s.pending := rfl
@[simp] theorem State.rnSet64_copies (s : State) (a v : Nat) : (s.rnSet64 a v).copies = s.copies := rfl
@[simp] theorem State.rnSet64_histOpen (s : State) (a v : Nat) : (s.rnSet64 a v).histOpen = s.histOpen := rfl
@[simp] theorem State.rnSet64_ecc (s : State) (a v : Nat) : (s.rnSet64 a v).ecc = s.ecc := rfl
@[simp] theorem State.rnSet64_inject (s : State) (a v : Nat) : (s.rnSet64 a v).inject = s.inject := rfl
@[simp] theorem State.rnSet64_fmap (s : State) (a v : Nat) : (s.rnSet64 a v).fmap = s.fmap := rfl
@[simp] theorem State.rnSet64_plots (s : State) (a v : Nat) : (s.rnSet64 a v).plots = s.plots := rfl
@[simp] theorem State.rnSet64_bp (s : State) (a v : Nat) : (s.rnSet64 a v).bp = s.bp := rfl
@[simp] theorem State.rnSet64_fur (s : State) (a v : Nat) : (s.rnSet64 a v).fur = s.fur := rfl
@[simp] theorem State.rnSet64_sw (s : State) (a v : Nat) : (s.rnSet64 a v).sw = s.sw := rfl
@[simp] theorem State.rnSet64_hbm (s : State) (a v : Nat) : (s.rnSet64 a v).hbm = s.hbm := rfl
@[simp] theorem State.rnSet64_xch (s : State) (a v : Nat) : (s.rnSet64 a v).xch = s.xch := rfl
@[simp] theorem State.rnSet64_lnk (s : State) (a v : Nat) : (s.rnSet64 a v).lnk = s.lnk := rfl
@[simp] theorem State.rnSet64_ft (s : State) (a v : Nat) : (s.rnSet64 a v).ft = s.ft := rfl
@[simp] theorem State.rnSet64_io (s : State) (a v : Nat) : (s.rnSet64 a v).io = s.io := rfl
@[simp] theorem State.rnSet64_tile (s : State) (a v : Nat) : (s.rnSet64 a v).tile = s.tile := rfl
@[simp] theorem State.rnSet64_boot (s : State) (a v : Nat) : (s.rnSet64 a v).boot = s.boot := rfl
@[simp] theorem State.rnSet64_cmd (s : State) (a v : Nat) : (s.rnSet64 a v).cmd = s.cmd := rfl
@[simp] theorem State.rnSet64_host (s : State) (a v : Nat) : (s.rnSet64 a v).host = s.host := rfl
@[simp] theorem State.rnSet64_hvt (s : State) (a v : Nat) : (s.rnSet64 a v).hvt = s.hvt := rfl
@[simp] theorem State.rnSet64_gln (s : State) (a v : Nat) : (s.rnSet64 a v).gln = s.gln := rfl
@[simp] theorem State.rnSet64_pwr (s : State) (a v : Nat) : (s.rnSet64 a v).pwr = s.pwr := rfl
@[simp] theorem State.rnSet64_svc (s : State) (a v : Nat) : (s.rnSet64 a v).svc = s.svc := rfl
@[simp] theorem State.rnSet64_out (s : State) (a v : Nat) : (s.rnSet64 a v).out = s.out := rfl
@[simp] theorem State.rnSet64_free (s : State) (a v : Nat) : (s.rnSet64 a v).free = s.free := rfl

/-! plotSet changes plots alone. -/

@[simp] theorem State.plotSet_pending (s : State) (p : Nat) (x : Plot) : (s.plotSet p x).pending = s.pending := rfl
@[simp] theorem State.plotSet_regs (s : State) (p : Nat) (x : Plot) : (s.plotSet p x).regs = s.regs := rfl
@[simp] theorem State.plotSet_copies (s : State) (p : Nat) (x : Plot) : (s.plotSet p x).copies = s.copies := rfl
@[simp] theorem State.plotSet_histOpen (s : State) (p : Nat) (x : Plot) : (s.plotSet p x).histOpen = s.histOpen := rfl
@[simp] theorem State.plotSet_ecc (s : State) (p : Nat) (x : Plot) : (s.plotSet p x).ecc = s.ecc := rfl
@[simp] theorem State.plotSet_inject (s : State) (p : Nat) (x : Plot) : (s.plotSet p x).inject = s.inject := rfl
@[simp] theorem State.plotSet_fmap (s : State) (p : Nat) (x : Plot) : (s.plotSet p x).fmap = s.fmap := rfl
@[simp] theorem State.plotSet_bp (s : State) (p : Nat) (x : Plot) : (s.plotSet p x).bp = s.bp := rfl
@[simp] theorem State.plotSet_fur (s : State) (p : Nat) (x : Plot) : (s.plotSet p x).fur = s.fur := rfl
@[simp] theorem State.plotSet_sw (s : State) (p : Nat) (x : Plot) : (s.plotSet p x).sw = s.sw := rfl
@[simp] theorem State.plotSet_hbm (s : State) (p : Nat) (x : Plot) : (s.plotSet p x).hbm = s.hbm := rfl
@[simp] theorem State.plotSet_xch (s : State) (p : Nat) (x : Plot) : (s.plotSet p x).xch = s.xch := rfl
@[simp] theorem State.plotSet_lnk (s : State) (p : Nat) (x : Plot) : (s.plotSet p x).lnk = s.lnk := rfl
@[simp] theorem State.plotSet_ft (s : State) (p : Nat) (x : Plot) : (s.plotSet p x).ft = s.ft := rfl
@[simp] theorem State.plotSet_io (s : State) (p : Nat) (x : Plot) : (s.plotSet p x).io = s.io := rfl
@[simp] theorem State.plotSet_tile (s : State) (p : Nat) (x : Plot) : (s.plotSet p x).tile = s.tile := rfl
@[simp] theorem State.plotSet_boot (s : State) (p : Nat) (x : Plot) : (s.plotSet p x).boot = s.boot := rfl
@[simp] theorem State.plotSet_cmd (s : State) (p : Nat) (x : Plot) : (s.plotSet p x).cmd = s.cmd := rfl
@[simp] theorem State.plotSet_host (s : State) (p : Nat) (x : Plot) : (s.plotSet p x).host = s.host := rfl
@[simp] theorem State.plotSet_hvt (s : State) (p : Nat) (x : Plot) : (s.plotSet p x).hvt = s.hvt := rfl
@[simp] theorem State.plotSet_gln (s : State) (p : Nat) (x : Plot) : (s.plotSet p x).gln = s.gln := rfl
@[simp] theorem State.plotSet_pwr (s : State) (p : Nat) (x : Plot) : (s.plotSet p x).pwr = s.pwr := rfl
@[simp] theorem State.plotSet_svc (s : State) (p : Nat) (x : Plot) : (s.plotSet p x).svc = s.svc := rfl
@[simp] theorem State.plotSet_out (s : State) (p : Nat) (x : Plot) : (s.plotSet p x).out = s.out := rfl
@[simp] theorem State.plotSet_free (s : State) (p : Nat) (x : Plot) : (s.plotSet p x).free = s.free := rfl

/-! onPlot changes plots alone. -/

@[simp] theorem State.onPlot_pending (s : State) (p : Nat) (f : Plot → Plot) : (s.onPlot p f).pending = s.pending := rfl
@[simp] theorem State.onPlot_regs (s : State) (p : Nat) (f : Plot → Plot) : (s.onPlot p f).regs = s.regs := rfl
@[simp] theorem State.onPlot_copies (s : State) (p : Nat) (f : Plot → Plot) : (s.onPlot p f).copies = s.copies := rfl
@[simp] theorem State.onPlot_histOpen (s : State) (p : Nat) (f : Plot → Plot) : (s.onPlot p f).histOpen = s.histOpen := rfl
@[simp] theorem State.onPlot_ecc (s : State) (p : Nat) (f : Plot → Plot) : (s.onPlot p f).ecc = s.ecc := rfl
@[simp] theorem State.onPlot_inject (s : State) (p : Nat) (f : Plot → Plot) : (s.onPlot p f).inject = s.inject := rfl
@[simp] theorem State.onPlot_fmap (s : State) (p : Nat) (f : Plot → Plot) : (s.onPlot p f).fmap = s.fmap := rfl
@[simp] theorem State.onPlot_bp (s : State) (p : Nat) (f : Plot → Plot) : (s.onPlot p f).bp = s.bp := rfl
@[simp] theorem State.onPlot_fur (s : State) (p : Nat) (f : Plot → Plot) : (s.onPlot p f).fur = s.fur := rfl
@[simp] theorem State.onPlot_sw (s : State) (p : Nat) (f : Plot → Plot) : (s.onPlot p f).sw = s.sw := rfl
@[simp] theorem State.onPlot_hbm (s : State) (p : Nat) (f : Plot → Plot) : (s.onPlot p f).hbm = s.hbm := rfl
@[simp] theorem State.onPlot_xch (s : State) (p : Nat) (f : Plot → Plot) : (s.onPlot p f).xch = s.xch := rfl
@[simp] theorem State.onPlot_lnk (s : State) (p : Nat) (f : Plot → Plot) : (s.onPlot p f).lnk = s.lnk := rfl
@[simp] theorem State.onPlot_ft (s : State) (p : Nat) (f : Plot → Plot) : (s.onPlot p f).ft = s.ft := rfl
@[simp] theorem State.onPlot_io (s : State) (p : Nat) (f : Plot → Plot) : (s.onPlot p f).io = s.io := rfl
@[simp] theorem State.onPlot_tile (s : State) (p : Nat) (f : Plot → Plot) : (s.onPlot p f).tile = s.tile := rfl
@[simp] theorem State.onPlot_boot (s : State) (p : Nat) (f : Plot → Plot) : (s.onPlot p f).boot = s.boot := rfl
@[simp] theorem State.onPlot_cmd (s : State) (p : Nat) (f : Plot → Plot) : (s.onPlot p f).cmd = s.cmd := rfl
@[simp] theorem State.onPlot_host (s : State) (p : Nat) (f : Plot → Plot) : (s.onPlot p f).host = s.host := rfl
@[simp] theorem State.onPlot_hvt (s : State) (p : Nat) (f : Plot → Plot) : (s.onPlot p f).hvt = s.hvt := rfl
@[simp] theorem State.onPlot_gln (s : State) (p : Nat) (f : Plot → Plot) : (s.onPlot p f).gln = s.gln := rfl
@[simp] theorem State.onPlot_pwr (s : State) (p : Nat) (f : Plot → Plot) : (s.onPlot p f).pwr = s.pwr := rfl
@[simp] theorem State.onPlot_svc (s : State) (p : Nat) (f : Plot → Plot) : (s.onPlot p f).svc = s.svc := rfl
@[simp] theorem State.onPlot_out (s : State) (p : Nat) (f : Plot → Plot) : (s.onPlot p f).out = s.out := rfl
@[simp] theorem State.onPlot_free (s : State) (p : Nat) (f : Plot → Plot) : (s.onPlot p f).free = s.free := rfl

/-! onTm changes plots alone. -/

@[simp] theorem State.onTm_pending (s : State) (p : Nat) (f : TimeSt → TimeSt) : (s.onTm p f).pending = s.pending := rfl
@[simp] theorem State.onTm_regs (s : State) (p : Nat) (f : TimeSt → TimeSt) : (s.onTm p f).regs = s.regs := rfl
@[simp] theorem State.onTm_copies (s : State) (p : Nat) (f : TimeSt → TimeSt) : (s.onTm p f).copies = s.copies := rfl
@[simp] theorem State.onTm_histOpen (s : State) (p : Nat) (f : TimeSt → TimeSt) : (s.onTm p f).histOpen = s.histOpen := rfl
@[simp] theorem State.onTm_ecc (s : State) (p : Nat) (f : TimeSt → TimeSt) : (s.onTm p f).ecc = s.ecc := rfl
@[simp] theorem State.onTm_inject (s : State) (p : Nat) (f : TimeSt → TimeSt) : (s.onTm p f).inject = s.inject := rfl
@[simp] theorem State.onTm_fmap (s : State) (p : Nat) (f : TimeSt → TimeSt) : (s.onTm p f).fmap = s.fmap := rfl
@[simp] theorem State.onTm_bp (s : State) (p : Nat) (f : TimeSt → TimeSt) : (s.onTm p f).bp = s.bp := rfl
@[simp] theorem State.onTm_fur (s : State) (p : Nat) (f : TimeSt → TimeSt) : (s.onTm p f).fur = s.fur := rfl
@[simp] theorem State.onTm_sw (s : State) (p : Nat) (f : TimeSt → TimeSt) : (s.onTm p f).sw = s.sw := rfl
@[simp] theorem State.onTm_hbm (s : State) (p : Nat) (f : TimeSt → TimeSt) : (s.onTm p f).hbm = s.hbm := rfl
@[simp] theorem State.onTm_xch (s : State) (p : Nat) (f : TimeSt → TimeSt) : (s.onTm p f).xch = s.xch := rfl
@[simp] theorem State.onTm_lnk (s : State) (p : Nat) (f : TimeSt → TimeSt) : (s.onTm p f).lnk = s.lnk := rfl
@[simp] theorem State.onTm_ft (s : State) (p : Nat) (f : TimeSt → TimeSt) : (s.onTm p f).ft = s.ft := rfl
@[simp] theorem State.onTm_io (s : State) (p : Nat) (f : TimeSt → TimeSt) : (s.onTm p f).io = s.io := rfl
@[simp] theorem State.onTm_tile (s : State) (p : Nat) (f : TimeSt → TimeSt) : (s.onTm p f).tile = s.tile := rfl
@[simp] theorem State.onTm_boot (s : State) (p : Nat) (f : TimeSt → TimeSt) : (s.onTm p f).boot = s.boot := rfl
@[simp] theorem State.onTm_cmd (s : State) (p : Nat) (f : TimeSt → TimeSt) : (s.onTm p f).cmd = s.cmd := rfl
@[simp] theorem State.onTm_host (s : State) (p : Nat) (f : TimeSt → TimeSt) : (s.onTm p f).host = s.host := rfl
@[simp] theorem State.onTm_hvt (s : State) (p : Nat) (f : TimeSt → TimeSt) : (s.onTm p f).hvt = s.hvt := rfl
@[simp] theorem State.onTm_gln (s : State) (p : Nat) (f : TimeSt → TimeSt) : (s.onTm p f).gln = s.gln := rfl
@[simp] theorem State.onTm_pwr (s : State) (p : Nat) (f : TimeSt → TimeSt) : (s.onTm p f).pwr = s.pwr := rfl
@[simp] theorem State.onTm_svc (s : State) (p : Nat) (f : TimeSt → TimeSt) : (s.onTm p f).svc = s.svc := rfl
@[simp] theorem State.onTm_out (s : State) (p : Nat) (f : TimeSt → TimeSt) : (s.onTm p f).out = s.out := rfl
@[simp] theorem State.onTm_free (s : State) (p : Nat) (f : TimeSt → TimeSt) : (s.onTm p f).free = s.free := rfl

/-! onCmt changes plots alone. -/

@[simp] theorem State.onCmt_pending (s : State) (p : Nat) (f : CommitSt → CommitSt) : (s.onCmt p f).pending = s.pending := rfl
@[simp] theorem State.onCmt_regs (s : State) (p : Nat) (f : CommitSt → CommitSt) : (s.onCmt p f).regs = s.regs := rfl
@[simp] theorem State.onCmt_copies (s : State) (p : Nat) (f : CommitSt → CommitSt) : (s.onCmt p f).copies = s.copies := rfl
@[simp] theorem State.onCmt_histOpen (s : State) (p : Nat) (f : CommitSt → CommitSt) : (s.onCmt p f).histOpen = s.histOpen := rfl
@[simp] theorem State.onCmt_ecc (s : State) (p : Nat) (f : CommitSt → CommitSt) : (s.onCmt p f).ecc = s.ecc := rfl
@[simp] theorem State.onCmt_inject (s : State) (p : Nat) (f : CommitSt → CommitSt) : (s.onCmt p f).inject = s.inject := rfl
@[simp] theorem State.onCmt_fmap (s : State) (p : Nat) (f : CommitSt → CommitSt) : (s.onCmt p f).fmap = s.fmap := rfl
@[simp] theorem State.onCmt_bp (s : State) (p : Nat) (f : CommitSt → CommitSt) : (s.onCmt p f).bp = s.bp := rfl
@[simp] theorem State.onCmt_fur (s : State) (p : Nat) (f : CommitSt → CommitSt) : (s.onCmt p f).fur = s.fur := rfl
@[simp] theorem State.onCmt_sw (s : State) (p : Nat) (f : CommitSt → CommitSt) : (s.onCmt p f).sw = s.sw := rfl
@[simp] theorem State.onCmt_hbm (s : State) (p : Nat) (f : CommitSt → CommitSt) : (s.onCmt p f).hbm = s.hbm := rfl
@[simp] theorem State.onCmt_xch (s : State) (p : Nat) (f : CommitSt → CommitSt) : (s.onCmt p f).xch = s.xch := rfl
@[simp] theorem State.onCmt_lnk (s : State) (p : Nat) (f : CommitSt → CommitSt) : (s.onCmt p f).lnk = s.lnk := rfl
@[simp] theorem State.onCmt_ft (s : State) (p : Nat) (f : CommitSt → CommitSt) : (s.onCmt p f).ft = s.ft := rfl
@[simp] theorem State.onCmt_io (s : State) (p : Nat) (f : CommitSt → CommitSt) : (s.onCmt p f).io = s.io := rfl
@[simp] theorem State.onCmt_tile (s : State) (p : Nat) (f : CommitSt → CommitSt) : (s.onCmt p f).tile = s.tile := rfl
@[simp] theorem State.onCmt_boot (s : State) (p : Nat) (f : CommitSt → CommitSt) : (s.onCmt p f).boot = s.boot := rfl
@[simp] theorem State.onCmt_cmd (s : State) (p : Nat) (f : CommitSt → CommitSt) : (s.onCmt p f).cmd = s.cmd := rfl
@[simp] theorem State.onCmt_host (s : State) (p : Nat) (f : CommitSt → CommitSt) : (s.onCmt p f).host = s.host := rfl
@[simp] theorem State.onCmt_hvt (s : State) (p : Nat) (f : CommitSt → CommitSt) : (s.onCmt p f).hvt = s.hvt := rfl
@[simp] theorem State.onCmt_gln (s : State) (p : Nat) (f : CommitSt → CommitSt) : (s.onCmt p f).gln = s.gln := rfl
@[simp] theorem State.onCmt_pwr (s : State) (p : Nat) (f : CommitSt → CommitSt) : (s.onCmt p f).pwr = s.pwr := rfl
@[simp] theorem State.onCmt_svc (s : State) (p : Nat) (f : CommitSt → CommitSt) : (s.onCmt p f).svc = s.svc := rfl
@[simp] theorem State.onCmt_out (s : State) (p : Nat) (f : CommitSt → CommitSt) : (s.onCmt p f).out = s.out := rfl
@[simp] theorem State.onCmt_free (s : State) (p : Nat) (f : CommitSt → CommitSt) : (s.onCmt p f).free = s.free := rfl

/-! onHvt changes plots alone. -/

@[simp] theorem State.onHvt_pending (s : State) (p : Nat) (f : HvtSt → HvtSt) : (s.onHvt p f).pending = s.pending := rfl
@[simp] theorem State.onHvt_regs (s : State) (p : Nat) (f : HvtSt → HvtSt) : (s.onHvt p f).regs = s.regs := rfl
@[simp] theorem State.onHvt_copies (s : State) (p : Nat) (f : HvtSt → HvtSt) : (s.onHvt p f).copies = s.copies := rfl
@[simp] theorem State.onHvt_histOpen (s : State) (p : Nat) (f : HvtSt → HvtSt) : (s.onHvt p f).histOpen = s.histOpen := rfl
@[simp] theorem State.onHvt_ecc (s : State) (p : Nat) (f : HvtSt → HvtSt) : (s.onHvt p f).ecc = s.ecc := rfl
@[simp] theorem State.onHvt_inject (s : State) (p : Nat) (f : HvtSt → HvtSt) : (s.onHvt p f).inject = s.inject := rfl
@[simp] theorem State.onHvt_fmap (s : State) (p : Nat) (f : HvtSt → HvtSt) : (s.onHvt p f).fmap = s.fmap := rfl
@[simp] theorem State.onHvt_bp (s : State) (p : Nat) (f : HvtSt → HvtSt) : (s.onHvt p f).bp = s.bp := rfl
@[simp] theorem State.onHvt_fur (s : State) (p : Nat) (f : HvtSt → HvtSt) : (s.onHvt p f).fur = s.fur := rfl
@[simp] theorem State.onHvt_sw (s : State) (p : Nat) (f : HvtSt → HvtSt) : (s.onHvt p f).sw = s.sw := rfl
@[simp] theorem State.onHvt_hbm (s : State) (p : Nat) (f : HvtSt → HvtSt) : (s.onHvt p f).hbm = s.hbm := rfl
@[simp] theorem State.onHvt_xch (s : State) (p : Nat) (f : HvtSt → HvtSt) : (s.onHvt p f).xch = s.xch := rfl
@[simp] theorem State.onHvt_lnk (s : State) (p : Nat) (f : HvtSt → HvtSt) : (s.onHvt p f).lnk = s.lnk := rfl
@[simp] theorem State.onHvt_ft (s : State) (p : Nat) (f : HvtSt → HvtSt) : (s.onHvt p f).ft = s.ft := rfl
@[simp] theorem State.onHvt_io (s : State) (p : Nat) (f : HvtSt → HvtSt) : (s.onHvt p f).io = s.io := rfl
@[simp] theorem State.onHvt_tile (s : State) (p : Nat) (f : HvtSt → HvtSt) : (s.onHvt p f).tile = s.tile := rfl
@[simp] theorem State.onHvt_boot (s : State) (p : Nat) (f : HvtSt → HvtSt) : (s.onHvt p f).boot = s.boot := rfl
@[simp] theorem State.onHvt_cmd (s : State) (p : Nat) (f : HvtSt → HvtSt) : (s.onHvt p f).cmd = s.cmd := rfl
@[simp] theorem State.onHvt_host (s : State) (p : Nat) (f : HvtSt → HvtSt) : (s.onHvt p f).host = s.host := rfl
@[simp] theorem State.onHvt_hvt (s : State) (p : Nat) (f : HvtSt → HvtSt) : (s.onHvt p f).hvt = s.hvt := rfl
@[simp] theorem State.onHvt_gln (s : State) (p : Nat) (f : HvtSt → HvtSt) : (s.onHvt p f).gln = s.gln := rfl
@[simp] theorem State.onHvt_pwr (s : State) (p : Nat) (f : HvtSt → HvtSt) : (s.onHvt p f).pwr = s.pwr := rfl
@[simp] theorem State.onHvt_svc (s : State) (p : Nat) (f : HvtSt → HvtSt) : (s.onHvt p f).svc = s.svc := rfl
@[simp] theorem State.onHvt_out (s : State) (p : Nat) (f : HvtSt → HvtSt) : (s.onHvt p f).out = s.out := rfl
@[simp] theorem State.onHvt_free (s : State) (p : Nat) (f : HvtSt → HvtSt) : (s.onHvt p f).free = s.free := rfl

/-! onImg changes plots alone. -/

@[simp] theorem State.onImg_pending (s : State) (p : Nat) (f : ImgSt → ImgSt) : (s.onImg p f).pending = s.pending := rfl
@[simp] theorem State.onImg_regs (s : State) (p : Nat) (f : ImgSt → ImgSt) : (s.onImg p f).regs = s.regs := rfl
@[simp] theorem State.onImg_copies (s : State) (p : Nat) (f : ImgSt → ImgSt) : (s.onImg p f).copies = s.copies := rfl
@[simp] theorem State.onImg_histOpen (s : State) (p : Nat) (f : ImgSt → ImgSt) : (s.onImg p f).histOpen = s.histOpen := rfl
@[simp] theorem State.onImg_ecc (s : State) (p : Nat) (f : ImgSt → ImgSt) : (s.onImg p f).ecc = s.ecc := rfl
@[simp] theorem State.onImg_inject (s : State) (p : Nat) (f : ImgSt → ImgSt) : (s.onImg p f).inject = s.inject := rfl
@[simp] theorem State.onImg_fmap (s : State) (p : Nat) (f : ImgSt → ImgSt) : (s.onImg p f).fmap = s.fmap := rfl
@[simp] theorem State.onImg_bp (s : State) (p : Nat) (f : ImgSt → ImgSt) : (s.onImg p f).bp = s.bp := rfl
@[simp] theorem State.onImg_fur (s : State) (p : Nat) (f : ImgSt → ImgSt) : (s.onImg p f).fur = s.fur := rfl
@[simp] theorem State.onImg_sw (s : State) (p : Nat) (f : ImgSt → ImgSt) : (s.onImg p f).sw = s.sw := rfl
@[simp] theorem State.onImg_hbm (s : State) (p : Nat) (f : ImgSt → ImgSt) : (s.onImg p f).hbm = s.hbm := rfl
@[simp] theorem State.onImg_xch (s : State) (p : Nat) (f : ImgSt → ImgSt) : (s.onImg p f).xch = s.xch := rfl
@[simp] theorem State.onImg_lnk (s : State) (p : Nat) (f : ImgSt → ImgSt) : (s.onImg p f).lnk = s.lnk := rfl
@[simp] theorem State.onImg_ft (s : State) (p : Nat) (f : ImgSt → ImgSt) : (s.onImg p f).ft = s.ft := rfl
@[simp] theorem State.onImg_io (s : State) (p : Nat) (f : ImgSt → ImgSt) : (s.onImg p f).io = s.io := rfl
@[simp] theorem State.onImg_tile (s : State) (p : Nat) (f : ImgSt → ImgSt) : (s.onImg p f).tile = s.tile := rfl
@[simp] theorem State.onImg_boot (s : State) (p : Nat) (f : ImgSt → ImgSt) : (s.onImg p f).boot = s.boot := rfl
@[simp] theorem State.onImg_cmd (s : State) (p : Nat) (f : ImgSt → ImgSt) : (s.onImg p f).cmd = s.cmd := rfl
@[simp] theorem State.onImg_host (s : State) (p : Nat) (f : ImgSt → ImgSt) : (s.onImg p f).host = s.host := rfl
@[simp] theorem State.onImg_hvt (s : State) (p : Nat) (f : ImgSt → ImgSt) : (s.onImg p f).hvt = s.hvt := rfl
@[simp] theorem State.onImg_gln (s : State) (p : Nat) (f : ImgSt → ImgSt) : (s.onImg p f).gln = s.gln := rfl
@[simp] theorem State.onImg_pwr (s : State) (p : Nat) (f : ImgSt → ImgSt) : (s.onImg p f).pwr = s.pwr := rfl
@[simp] theorem State.onImg_svc (s : State) (p : Nat) (f : ImgSt → ImgSt) : (s.onImg p f).svc = s.svc := rfl
@[simp] theorem State.onImg_out (s : State) (p : Nat) (f : ImgSt → ImgSt) : (s.onImg p f).out = s.out := rfl
@[simp] theorem State.onImg_free (s : State) (p : Nat) (f : ImgSt → ImgSt) : (s.onImg p f).free = s.free := rfl

/-! onRel changes plots alone. -/

@[simp] theorem State.onRel_pending (s : State) (p : Nat) (f : RelSt → RelSt) : (s.onRel p f).pending = s.pending := rfl
@[simp] theorem State.onRel_regs (s : State) (p : Nat) (f : RelSt → RelSt) : (s.onRel p f).regs = s.regs := rfl
@[simp] theorem State.onRel_copies (s : State) (p : Nat) (f : RelSt → RelSt) : (s.onRel p f).copies = s.copies := rfl
@[simp] theorem State.onRel_histOpen (s : State) (p : Nat) (f : RelSt → RelSt) : (s.onRel p f).histOpen = s.histOpen := rfl
@[simp] theorem State.onRel_ecc (s : State) (p : Nat) (f : RelSt → RelSt) : (s.onRel p f).ecc = s.ecc := rfl
@[simp] theorem State.onRel_inject (s : State) (p : Nat) (f : RelSt → RelSt) : (s.onRel p f).inject = s.inject := rfl
@[simp] theorem State.onRel_fmap (s : State) (p : Nat) (f : RelSt → RelSt) : (s.onRel p f).fmap = s.fmap := rfl
@[simp] theorem State.onRel_bp (s : State) (p : Nat) (f : RelSt → RelSt) : (s.onRel p f).bp = s.bp := rfl
@[simp] theorem State.onRel_fur (s : State) (p : Nat) (f : RelSt → RelSt) : (s.onRel p f).fur = s.fur := rfl
@[simp] theorem State.onRel_sw (s : State) (p : Nat) (f : RelSt → RelSt) : (s.onRel p f).sw = s.sw := rfl
@[simp] theorem State.onRel_hbm (s : State) (p : Nat) (f : RelSt → RelSt) : (s.onRel p f).hbm = s.hbm := rfl
@[simp] theorem State.onRel_xch (s : State) (p : Nat) (f : RelSt → RelSt) : (s.onRel p f).xch = s.xch := rfl
@[simp] theorem State.onRel_lnk (s : State) (p : Nat) (f : RelSt → RelSt) : (s.onRel p f).lnk = s.lnk := rfl
@[simp] theorem State.onRel_ft (s : State) (p : Nat) (f : RelSt → RelSt) : (s.onRel p f).ft = s.ft := rfl
@[simp] theorem State.onRel_io (s : State) (p : Nat) (f : RelSt → RelSt) : (s.onRel p f).io = s.io := rfl
@[simp] theorem State.onRel_tile (s : State) (p : Nat) (f : RelSt → RelSt) : (s.onRel p f).tile = s.tile := rfl
@[simp] theorem State.onRel_boot (s : State) (p : Nat) (f : RelSt → RelSt) : (s.onRel p f).boot = s.boot := rfl
@[simp] theorem State.onRel_cmd (s : State) (p : Nat) (f : RelSt → RelSt) : (s.onRel p f).cmd = s.cmd := rfl
@[simp] theorem State.onRel_host (s : State) (p : Nat) (f : RelSt → RelSt) : (s.onRel p f).host = s.host := rfl
@[simp] theorem State.onRel_hvt (s : State) (p : Nat) (f : RelSt → RelSt) : (s.onRel p f).hvt = s.hvt := rfl
@[simp] theorem State.onRel_gln (s : State) (p : Nat) (f : RelSt → RelSt) : (s.onRel p f).gln = s.gln := rfl
@[simp] theorem State.onRel_pwr (s : State) (p : Nat) (f : RelSt → RelSt) : (s.onRel p f).pwr = s.pwr := rfl
@[simp] theorem State.onRel_svc (s : State) (p : Nat) (f : RelSt → RelSt) : (s.onRel p f).svc = s.svc := rfl
@[simp] theorem State.onRel_out (s : State) (p : Nat) (f : RelSt → RelSt) : (s.onRel p f).out = s.out := rfl
@[simp] theorem State.onRel_free (s : State) (p : Nat) (f : RelSt → RelSt) : (s.onRel p f).free = s.free := rfl

/-! onId changes plots alone. -/

@[simp] theorem State.onId_pending (s : State) (p : Nat) (f : PlotId → PlotId) : (s.onId p f).pending = s.pending := rfl
@[simp] theorem State.onId_regs (s : State) (p : Nat) (f : PlotId → PlotId) : (s.onId p f).regs = s.regs := rfl
@[simp] theorem State.onId_copies (s : State) (p : Nat) (f : PlotId → PlotId) : (s.onId p f).copies = s.copies := rfl
@[simp] theorem State.onId_histOpen (s : State) (p : Nat) (f : PlotId → PlotId) : (s.onId p f).histOpen = s.histOpen := rfl
@[simp] theorem State.onId_ecc (s : State) (p : Nat) (f : PlotId → PlotId) : (s.onId p f).ecc = s.ecc := rfl
@[simp] theorem State.onId_inject (s : State) (p : Nat) (f : PlotId → PlotId) : (s.onId p f).inject = s.inject := rfl
@[simp] theorem State.onId_fmap (s : State) (p : Nat) (f : PlotId → PlotId) : (s.onId p f).fmap = s.fmap := rfl
@[simp] theorem State.onId_bp (s : State) (p : Nat) (f : PlotId → PlotId) : (s.onId p f).bp = s.bp := rfl
@[simp] theorem State.onId_fur (s : State) (p : Nat) (f : PlotId → PlotId) : (s.onId p f).fur = s.fur := rfl
@[simp] theorem State.onId_sw (s : State) (p : Nat) (f : PlotId → PlotId) : (s.onId p f).sw = s.sw := rfl
@[simp] theorem State.onId_hbm (s : State) (p : Nat) (f : PlotId → PlotId) : (s.onId p f).hbm = s.hbm := rfl
@[simp] theorem State.onId_xch (s : State) (p : Nat) (f : PlotId → PlotId) : (s.onId p f).xch = s.xch := rfl
@[simp] theorem State.onId_lnk (s : State) (p : Nat) (f : PlotId → PlotId) : (s.onId p f).lnk = s.lnk := rfl
@[simp] theorem State.onId_ft (s : State) (p : Nat) (f : PlotId → PlotId) : (s.onId p f).ft = s.ft := rfl
@[simp] theorem State.onId_io (s : State) (p : Nat) (f : PlotId → PlotId) : (s.onId p f).io = s.io := rfl
@[simp] theorem State.onId_tile (s : State) (p : Nat) (f : PlotId → PlotId) : (s.onId p f).tile = s.tile := rfl
@[simp] theorem State.onId_boot (s : State) (p : Nat) (f : PlotId → PlotId) : (s.onId p f).boot = s.boot := rfl
@[simp] theorem State.onId_cmd (s : State) (p : Nat) (f : PlotId → PlotId) : (s.onId p f).cmd = s.cmd := rfl
@[simp] theorem State.onId_host (s : State) (p : Nat) (f : PlotId → PlotId) : (s.onId p f).host = s.host := rfl
@[simp] theorem State.onId_hvt (s : State) (p : Nat) (f : PlotId → PlotId) : (s.onId p f).hvt = s.hvt := rfl
@[simp] theorem State.onId_gln (s : State) (p : Nat) (f : PlotId → PlotId) : (s.onId p f).gln = s.gln := rfl
@[simp] theorem State.onId_pwr (s : State) (p : Nat) (f : PlotId → PlotId) : (s.onId p f).pwr = s.pwr := rfl
@[simp] theorem State.onId_svc (s : State) (p : Nat) (f : PlotId → PlotId) : (s.onId p f).svc = s.svc := rfl
@[simp] theorem State.onId_out (s : State) (p : Nat) (f : PlotId → PlotId) : (s.onId p f).out = s.out := rfl
@[simp] theorem State.onId_free (s : State) (p : Nat) (f : PlotId → PlotId) : (s.onId p f).free = s.free := rfl

/-! onRes changes plots alone. -/

@[simp] theorem State.onRes_pending (s : State) (p : Nat) (f : Res → Res) : (s.onRes p f).pending = s.pending := rfl
@[simp] theorem State.onRes_regs (s : State) (p : Nat) (f : Res → Res) : (s.onRes p f).regs = s.regs := rfl
@[simp] theorem State.onRes_copies (s : State) (p : Nat) (f : Res → Res) : (s.onRes p f).copies = s.copies := rfl
@[simp] theorem State.onRes_histOpen (s : State) (p : Nat) (f : Res → Res) : (s.onRes p f).histOpen = s.histOpen := rfl
@[simp] theorem State.onRes_ecc (s : State) (p : Nat) (f : Res → Res) : (s.onRes p f).ecc = s.ecc := rfl
@[simp] theorem State.onRes_inject (s : State) (p : Nat) (f : Res → Res) : (s.onRes p f).inject = s.inject := rfl
@[simp] theorem State.onRes_fmap (s : State) (p : Nat) (f : Res → Res) : (s.onRes p f).fmap = s.fmap := rfl
@[simp] theorem State.onRes_bp (s : State) (p : Nat) (f : Res → Res) : (s.onRes p f).bp = s.bp := rfl
@[simp] theorem State.onRes_fur (s : State) (p : Nat) (f : Res → Res) : (s.onRes p f).fur = s.fur := rfl
@[simp] theorem State.onRes_sw (s : State) (p : Nat) (f : Res → Res) : (s.onRes p f).sw = s.sw := rfl
@[simp] theorem State.onRes_hbm (s : State) (p : Nat) (f : Res → Res) : (s.onRes p f).hbm = s.hbm := rfl
@[simp] theorem State.onRes_xch (s : State) (p : Nat) (f : Res → Res) : (s.onRes p f).xch = s.xch := rfl
@[simp] theorem State.onRes_lnk (s : State) (p : Nat) (f : Res → Res) : (s.onRes p f).lnk = s.lnk := rfl
@[simp] theorem State.onRes_ft (s : State) (p : Nat) (f : Res → Res) : (s.onRes p f).ft = s.ft := rfl
@[simp] theorem State.onRes_io (s : State) (p : Nat) (f : Res → Res) : (s.onRes p f).io = s.io := rfl
@[simp] theorem State.onRes_tile (s : State) (p : Nat) (f : Res → Res) : (s.onRes p f).tile = s.tile := rfl
@[simp] theorem State.onRes_boot (s : State) (p : Nat) (f : Res → Res) : (s.onRes p f).boot = s.boot := rfl
@[simp] theorem State.onRes_cmd (s : State) (p : Nat) (f : Res → Res) : (s.onRes p f).cmd = s.cmd := rfl
@[simp] theorem State.onRes_host (s : State) (p : Nat) (f : Res → Res) : (s.onRes p f).host = s.host := rfl
@[simp] theorem State.onRes_hvt (s : State) (p : Nat) (f : Res → Res) : (s.onRes p f).hvt = s.hvt := rfl
@[simp] theorem State.onRes_gln (s : State) (p : Nat) (f : Res → Res) : (s.onRes p f).gln = s.gln := rfl
@[simp] theorem State.onRes_pwr (s : State) (p : Nat) (f : Res → Res) : (s.onRes p f).pwr = s.pwr := rfl
@[simp] theorem State.onRes_svc (s : State) (p : Nat) (f : Res → Res) : (s.onRes p f).svc = s.svc := rfl
@[simp] theorem State.onRes_out (s : State) (p : Nat) (f : Res → Res) : (s.onRes p f).out = s.out := rfl
@[simp] theorem State.onRes_free (s : State) (p : Nat) (f : Res → Res) : (s.onRes p f).free = s.free := rfl

/-! toHead changes plots alone. -/

@[simp] theorem State.toHead_pending (s : State) (p : Nat) (g : Stage) : (s.toHead p g).pending = s.pending := rfl
@[simp] theorem State.toHead_regs (s : State) (p : Nat) (g : Stage) : (s.toHead p g).regs = s.regs := rfl
@[simp] theorem State.toHead_copies (s : State) (p : Nat) (g : Stage) : (s.toHead p g).copies = s.copies := rfl
@[simp] theorem State.toHead_histOpen (s : State) (p : Nat) (g : Stage) : (s.toHead p g).histOpen = s.histOpen := rfl
@[simp] theorem State.toHead_ecc (s : State) (p : Nat) (g : Stage) : (s.toHead p g).ecc = s.ecc := rfl
@[simp] theorem State.toHead_inject (s : State) (p : Nat) (g : Stage) : (s.toHead p g).inject = s.inject := rfl
@[simp] theorem State.toHead_fmap (s : State) (p : Nat) (g : Stage) : (s.toHead p g).fmap = s.fmap := rfl
@[simp] theorem State.toHead_bp (s : State) (p : Nat) (g : Stage) : (s.toHead p g).bp = s.bp := rfl
@[simp] theorem State.toHead_fur (s : State) (p : Nat) (g : Stage) : (s.toHead p g).fur = s.fur := rfl
@[simp] theorem State.toHead_sw (s : State) (p : Nat) (g : Stage) : (s.toHead p g).sw = s.sw := rfl
@[simp] theorem State.toHead_hbm (s : State) (p : Nat) (g : Stage) : (s.toHead p g).hbm = s.hbm := rfl
@[simp] theorem State.toHead_xch (s : State) (p : Nat) (g : Stage) : (s.toHead p g).xch = s.xch := rfl
@[simp] theorem State.toHead_lnk (s : State) (p : Nat) (g : Stage) : (s.toHead p g).lnk = s.lnk := rfl
@[simp] theorem State.toHead_ft (s : State) (p : Nat) (g : Stage) : (s.toHead p g).ft = s.ft := rfl
@[simp] theorem State.toHead_io (s : State) (p : Nat) (g : Stage) : (s.toHead p g).io = s.io := rfl
@[simp] theorem State.toHead_tile (s : State) (p : Nat) (g : Stage) : (s.toHead p g).tile = s.tile := rfl
@[simp] theorem State.toHead_boot (s : State) (p : Nat) (g : Stage) : (s.toHead p g).boot = s.boot := rfl
@[simp] theorem State.toHead_cmd (s : State) (p : Nat) (g : Stage) : (s.toHead p g).cmd = s.cmd := rfl
@[simp] theorem State.toHead_host (s : State) (p : Nat) (g : Stage) : (s.toHead p g).host = s.host := rfl
@[simp] theorem State.toHead_hvt (s : State) (p : Nat) (g : Stage) : (s.toHead p g).hvt = s.hvt := rfl
@[simp] theorem State.toHead_gln (s : State) (p : Nat) (g : Stage) : (s.toHead p g).gln = s.gln := rfl
@[simp] theorem State.toHead_pwr (s : State) (p : Nat) (g : Stage) : (s.toHead p g).pwr = s.pwr := rfl
@[simp] theorem State.toHead_svc (s : State) (p : Nat) (g : Stage) : (s.toHead p g).svc = s.svc := rfl
@[simp] theorem State.toHead_out (s : State) (p : Nat) (g : Stage) : (s.toHead p g).out = s.out := rfl
@[simp] theorem State.toHead_free (s : State) (p : Nat) (g : Stage) : (s.toHead p g).free = s.free := rfl

/-! onCmd changes cmd alone. -/

@[simp] theorem State.onCmd_pending (s : State) (id : Nat) (f : Cmd → Cmd) : (s.onCmd id f).pending = s.pending := rfl
@[simp] theorem State.onCmd_regs (s : State) (id : Nat) (f : Cmd → Cmd) : (s.onCmd id f).regs = s.regs := rfl
@[simp] theorem State.onCmd_copies (s : State) (id : Nat) (f : Cmd → Cmd) : (s.onCmd id f).copies = s.copies := rfl
@[simp] theorem State.onCmd_histOpen (s : State) (id : Nat) (f : Cmd → Cmd) : (s.onCmd id f).histOpen = s.histOpen := rfl
@[simp] theorem State.onCmd_ecc (s : State) (id : Nat) (f : Cmd → Cmd) : (s.onCmd id f).ecc = s.ecc := rfl
@[simp] theorem State.onCmd_inject (s : State) (id : Nat) (f : Cmd → Cmd) : (s.onCmd id f).inject = s.inject := rfl
@[simp] theorem State.onCmd_fmap (s : State) (id : Nat) (f : Cmd → Cmd) : (s.onCmd id f).fmap = s.fmap := rfl
@[simp] theorem State.onCmd_plots (s : State) (id : Nat) (f : Cmd → Cmd) : (s.onCmd id f).plots = s.plots := rfl
@[simp] theorem State.onCmd_bp (s : State) (id : Nat) (f : Cmd → Cmd) : (s.onCmd id f).bp = s.bp := rfl
@[simp] theorem State.onCmd_fur (s : State) (id : Nat) (f : Cmd → Cmd) : (s.onCmd id f).fur = s.fur := rfl
@[simp] theorem State.onCmd_sw (s : State) (id : Nat) (f : Cmd → Cmd) : (s.onCmd id f).sw = s.sw := rfl
@[simp] theorem State.onCmd_hbm (s : State) (id : Nat) (f : Cmd → Cmd) : (s.onCmd id f).hbm = s.hbm := rfl
@[simp] theorem State.onCmd_xch (s : State) (id : Nat) (f : Cmd → Cmd) : (s.onCmd id f).xch = s.xch := rfl
@[simp] theorem State.onCmd_lnk (s : State) (id : Nat) (f : Cmd → Cmd) : (s.onCmd id f).lnk = s.lnk := rfl
@[simp] theorem State.onCmd_ft (s : State) (id : Nat) (f : Cmd → Cmd) : (s.onCmd id f).ft = s.ft := rfl
@[simp] theorem State.onCmd_io (s : State) (id : Nat) (f : Cmd → Cmd) : (s.onCmd id f).io = s.io := rfl
@[simp] theorem State.onCmd_tile (s : State) (id : Nat) (f : Cmd → Cmd) : (s.onCmd id f).tile = s.tile := rfl
@[simp] theorem State.onCmd_boot (s : State) (id : Nat) (f : Cmd → Cmd) : (s.onCmd id f).boot = s.boot := rfl
@[simp] theorem State.onCmd_host (s : State) (id : Nat) (f : Cmd → Cmd) : (s.onCmd id f).host = s.host := rfl
@[simp] theorem State.onCmd_hvt (s : State) (id : Nat) (f : Cmd → Cmd) : (s.onCmd id f).hvt = s.hvt := rfl
@[simp] theorem State.onCmd_gln (s : State) (id : Nat) (f : Cmd → Cmd) : (s.onCmd id f).gln = s.gln := rfl
@[simp] theorem State.onCmd_pwr (s : State) (id : Nat) (f : Cmd → Cmd) : (s.onCmd id f).pwr = s.pwr := rfl
@[simp] theorem State.onCmd_svc (s : State) (id : Nat) (f : Cmd → Cmd) : (s.onCmd id f).svc = s.svc := rfl
@[simp] theorem State.onCmd_out (s : State) (id : Nat) (f : Cmd → Cmd) : (s.onCmd id f).out = s.out := rfl
@[simp] theorem State.onCmd_free (s : State) (id : Nat) (f : Cmd → Cmd) : (s.onCmd id f).free = s.free := rfl

/-! finish changes cmd alone. -/

@[simp] theorem State.finish_pending (s : State) (id status result : Nat) : (s.finish id status result).pending = s.pending := rfl
@[simp] theorem State.finish_regs (s : State) (id status result : Nat) : (s.finish id status result).regs = s.regs := rfl
@[simp] theorem State.finish_copies (s : State) (id status result : Nat) : (s.finish id status result).copies = s.copies := rfl
@[simp] theorem State.finish_histOpen (s : State) (id status result : Nat) : (s.finish id status result).histOpen = s.histOpen := rfl
@[simp] theorem State.finish_ecc (s : State) (id status result : Nat) : (s.finish id status result).ecc = s.ecc := rfl
@[simp] theorem State.finish_inject (s : State) (id status result : Nat) : (s.finish id status result).inject = s.inject := rfl
@[simp] theorem State.finish_fmap (s : State) (id status result : Nat) : (s.finish id status result).fmap = s.fmap := rfl
@[simp] theorem State.finish_plots (s : State) (id status result : Nat) : (s.finish id status result).plots = s.plots := rfl
@[simp] theorem State.finish_bp (s : State) (id status result : Nat) : (s.finish id status result).bp = s.bp := rfl
@[simp] theorem State.finish_fur (s : State) (id status result : Nat) : (s.finish id status result).fur = s.fur := rfl
@[simp] theorem State.finish_sw (s : State) (id status result : Nat) : (s.finish id status result).sw = s.sw := rfl
@[simp] theorem State.finish_hbm (s : State) (id status result : Nat) : (s.finish id status result).hbm = s.hbm := rfl
@[simp] theorem State.finish_xch (s : State) (id status result : Nat) : (s.finish id status result).xch = s.xch := rfl
@[simp] theorem State.finish_lnk (s : State) (id status result : Nat) : (s.finish id status result).lnk = s.lnk := rfl
@[simp] theorem State.finish_ft (s : State) (id status result : Nat) : (s.finish id status result).ft = s.ft := rfl
@[simp] theorem State.finish_io (s : State) (id status result : Nat) : (s.finish id status result).io = s.io := rfl
@[simp] theorem State.finish_tile (s : State) (id status result : Nat) : (s.finish id status result).tile = s.tile := rfl
@[simp] theorem State.finish_boot (s : State) (id status result : Nat) : (s.finish id status result).boot = s.boot := rfl
@[simp] theorem State.finish_host (s : State) (id status result : Nat) : (s.finish id status result).host = s.host := rfl
@[simp] theorem State.finish_hvt (s : State) (id status result : Nat) : (s.finish id status result).hvt = s.hvt := rfl
@[simp] theorem State.finish_gln (s : State) (id status result : Nat) : (s.finish id status result).gln = s.gln := rfl
@[simp] theorem State.finish_pwr (s : State) (id status result : Nat) : (s.finish id status result).pwr = s.pwr := rfl
@[simp] theorem State.finish_svc (s : State) (id status result : Nat) : (s.finish id status result).svc = s.svc := rfl
@[simp] theorem State.finish_out (s : State) (id status result : Nat) : (s.finish id status result).out = s.out := rfl
@[simp] theorem State.finish_free (s : State) (id status result : Nat) : (s.finish id status result).free = s.free := rfl

/-! finishAt changes cmd alone. -/

@[simp] theorem State.finishAt_pending (s : State) (id status result pos total : Nat) : (s.finishAt id status result pos total).pending = s.pending := rfl
@[simp] theorem State.finishAt_regs (s : State) (id status result pos total : Nat) : (s.finishAt id status result pos total).regs = s.regs := rfl
@[simp] theorem State.finishAt_copies (s : State) (id status result pos total : Nat) : (s.finishAt id status result pos total).copies = s.copies := rfl
@[simp] theorem State.finishAt_histOpen (s : State) (id status result pos total : Nat) : (s.finishAt id status result pos total).histOpen = s.histOpen := rfl
@[simp] theorem State.finishAt_ecc (s : State) (id status result pos total : Nat) : (s.finishAt id status result pos total).ecc = s.ecc := rfl
@[simp] theorem State.finishAt_inject (s : State) (id status result pos total : Nat) : (s.finishAt id status result pos total).inject = s.inject := rfl
@[simp] theorem State.finishAt_fmap (s : State) (id status result pos total : Nat) : (s.finishAt id status result pos total).fmap = s.fmap := rfl
@[simp] theorem State.finishAt_plots (s : State) (id status result pos total : Nat) : (s.finishAt id status result pos total).plots = s.plots := rfl
@[simp] theorem State.finishAt_bp (s : State) (id status result pos total : Nat) : (s.finishAt id status result pos total).bp = s.bp := rfl
@[simp] theorem State.finishAt_fur (s : State) (id status result pos total : Nat) : (s.finishAt id status result pos total).fur = s.fur := rfl
@[simp] theorem State.finishAt_sw (s : State) (id status result pos total : Nat) : (s.finishAt id status result pos total).sw = s.sw := rfl
@[simp] theorem State.finishAt_hbm (s : State) (id status result pos total : Nat) : (s.finishAt id status result pos total).hbm = s.hbm := rfl
@[simp] theorem State.finishAt_xch (s : State) (id status result pos total : Nat) : (s.finishAt id status result pos total).xch = s.xch := rfl
@[simp] theorem State.finishAt_lnk (s : State) (id status result pos total : Nat) : (s.finishAt id status result pos total).lnk = s.lnk := rfl
@[simp] theorem State.finishAt_ft (s : State) (id status result pos total : Nat) : (s.finishAt id status result pos total).ft = s.ft := rfl
@[simp] theorem State.finishAt_io (s : State) (id status result pos total : Nat) : (s.finishAt id status result pos total).io = s.io := rfl
@[simp] theorem State.finishAt_tile (s : State) (id status result pos total : Nat) : (s.finishAt id status result pos total).tile = s.tile := rfl
@[simp] theorem State.finishAt_boot (s : State) (id status result pos total : Nat) : (s.finishAt id status result pos total).boot = s.boot := rfl
@[simp] theorem State.finishAt_host (s : State) (id status result pos total : Nat) : (s.finishAt id status result pos total).host = s.host := rfl
@[simp] theorem State.finishAt_hvt (s : State) (id status result pos total : Nat) : (s.finishAt id status result pos total).hvt = s.hvt := rfl
@[simp] theorem State.finishAt_gln (s : State) (id status result pos total : Nat) : (s.finishAt id status result pos total).gln = s.gln := rfl
@[simp] theorem State.finishAt_pwr (s : State) (id status result pos total : Nat) : (s.finishAt id status result pos total).pwr = s.pwr := rfl
@[simp] theorem State.finishAt_svc (s : State) (id status result pos total : Nat) : (s.finishAt id status result pos total).svc = s.svc := rfl
@[simp] theorem State.finishAt_out (s : State) (id status result pos total : Nat) : (s.finishAt id status result pos total).out = s.out := rfl
@[simp] theorem State.finishAt_free (s : State) (id status result pos total : Nat) : (s.finishAt id status result pos total).free = s.free := rfl

/-! blockCmd changes cmd alone. -/

@[simp] theorem State.blockCmd_pending (s : State) (id : Nat) : (s.blockCmd id).pending = s.pending := rfl
@[simp] theorem State.blockCmd_regs (s : State) (id : Nat) : (s.blockCmd id).regs = s.regs := rfl
@[simp] theorem State.blockCmd_copies (s : State) (id : Nat) : (s.blockCmd id).copies = s.copies := rfl
@[simp] theorem State.blockCmd_histOpen (s : State) (id : Nat) : (s.blockCmd id).histOpen = s.histOpen := rfl
@[simp] theorem State.blockCmd_ecc (s : State) (id : Nat) : (s.blockCmd id).ecc = s.ecc := rfl
@[simp] theorem State.blockCmd_inject (s : State) (id : Nat) : (s.blockCmd id).inject = s.inject := rfl
@[simp] theorem State.blockCmd_fmap (s : State) (id : Nat) : (s.blockCmd id).fmap = s.fmap := rfl
@[simp] theorem State.blockCmd_plots (s : State) (id : Nat) : (s.blockCmd id).plots = s.plots := rfl
@[simp] theorem State.blockCmd_bp (s : State) (id : Nat) : (s.blockCmd id).bp = s.bp := rfl
@[simp] theorem State.blockCmd_fur (s : State) (id : Nat) : (s.blockCmd id).fur = s.fur := rfl
@[simp] theorem State.blockCmd_sw (s : State) (id : Nat) : (s.blockCmd id).sw = s.sw := rfl
@[simp] theorem State.blockCmd_hbm (s : State) (id : Nat) : (s.blockCmd id).hbm = s.hbm := rfl
@[simp] theorem State.blockCmd_xch (s : State) (id : Nat) : (s.blockCmd id).xch = s.xch := rfl
@[simp] theorem State.blockCmd_lnk (s : State) (id : Nat) : (s.blockCmd id).lnk = s.lnk := rfl
@[simp] theorem State.blockCmd_ft (s : State) (id : Nat) : (s.blockCmd id).ft = s.ft := rfl
@[simp] theorem State.blockCmd_io (s : State) (id : Nat) : (s.blockCmd id).io = s.io := rfl
@[simp] theorem State.blockCmd_tile (s : State) (id : Nat) : (s.blockCmd id).tile = s.tile := rfl
@[simp] theorem State.blockCmd_boot (s : State) (id : Nat) : (s.blockCmd id).boot = s.boot := rfl
@[simp] theorem State.blockCmd_host (s : State) (id : Nat) : (s.blockCmd id).host = s.host := rfl
@[simp] theorem State.blockCmd_hvt (s : State) (id : Nat) : (s.blockCmd id).hvt = s.hvt := rfl
@[simp] theorem State.blockCmd_gln (s : State) (id : Nat) : (s.blockCmd id).gln = s.gln := rfl
@[simp] theorem State.blockCmd_pwr (s : State) (id : Nat) : (s.blockCmd id).pwr = s.pwr := rfl
@[simp] theorem State.blockCmd_svc (s : State) (id : Nat) : (s.blockCmd id).svc = s.svc := rfl
@[simp] theorem State.blockCmd_out (s : State) (id : Nat) : (s.blockCmd id).out = s.out := rfl
@[simp] theorem State.blockCmd_free (s : State) (id : Nat) : (s.blockCmd id).free = s.free := rfl

/-! hostWrite changes host alone. -/

@[simp] theorem State.hostWrite_pending (s : State) (fn addr : Nat) (bs : List Byte) : (s.hostWrite fn addr bs).pending = s.pending := rfl
@[simp] theorem State.hostWrite_regs (s : State) (fn addr : Nat) (bs : List Byte) : (s.hostWrite fn addr bs).regs = s.regs := rfl
@[simp] theorem State.hostWrite_copies (s : State) (fn addr : Nat) (bs : List Byte) : (s.hostWrite fn addr bs).copies = s.copies := rfl
@[simp] theorem State.hostWrite_histOpen (s : State) (fn addr : Nat) (bs : List Byte) : (s.hostWrite fn addr bs).histOpen = s.histOpen := rfl
@[simp] theorem State.hostWrite_ecc (s : State) (fn addr : Nat) (bs : List Byte) : (s.hostWrite fn addr bs).ecc = s.ecc := rfl
@[simp] theorem State.hostWrite_inject (s : State) (fn addr : Nat) (bs : List Byte) : (s.hostWrite fn addr bs).inject = s.inject := rfl
@[simp] theorem State.hostWrite_fmap (s : State) (fn addr : Nat) (bs : List Byte) : (s.hostWrite fn addr bs).fmap = s.fmap := rfl
@[simp] theorem State.hostWrite_plots (s : State) (fn addr : Nat) (bs : List Byte) : (s.hostWrite fn addr bs).plots = s.plots := rfl
@[simp] theorem State.hostWrite_bp (s : State) (fn addr : Nat) (bs : List Byte) : (s.hostWrite fn addr bs).bp = s.bp := rfl
@[simp] theorem State.hostWrite_fur (s : State) (fn addr : Nat) (bs : List Byte) : (s.hostWrite fn addr bs).fur = s.fur := rfl
@[simp] theorem State.hostWrite_sw (s : State) (fn addr : Nat) (bs : List Byte) : (s.hostWrite fn addr bs).sw = s.sw := rfl
@[simp] theorem State.hostWrite_hbm (s : State) (fn addr : Nat) (bs : List Byte) : (s.hostWrite fn addr bs).hbm = s.hbm := rfl
@[simp] theorem State.hostWrite_xch (s : State) (fn addr : Nat) (bs : List Byte) : (s.hostWrite fn addr bs).xch = s.xch := rfl
@[simp] theorem State.hostWrite_lnk (s : State) (fn addr : Nat) (bs : List Byte) : (s.hostWrite fn addr bs).lnk = s.lnk := rfl
@[simp] theorem State.hostWrite_ft (s : State) (fn addr : Nat) (bs : List Byte) : (s.hostWrite fn addr bs).ft = s.ft := rfl
@[simp] theorem State.hostWrite_io (s : State) (fn addr : Nat) (bs : List Byte) : (s.hostWrite fn addr bs).io = s.io := rfl
@[simp] theorem State.hostWrite_tile (s : State) (fn addr : Nat) (bs : List Byte) : (s.hostWrite fn addr bs).tile = s.tile := rfl
@[simp] theorem State.hostWrite_boot (s : State) (fn addr : Nat) (bs : List Byte) : (s.hostWrite fn addr bs).boot = s.boot := rfl
@[simp] theorem State.hostWrite_cmd (s : State) (fn addr : Nat) (bs : List Byte) : (s.hostWrite fn addr bs).cmd = s.cmd := rfl
@[simp] theorem State.hostWrite_hvt (s : State) (fn addr : Nat) (bs : List Byte) : (s.hostWrite fn addr bs).hvt = s.hvt := rfl
@[simp] theorem State.hostWrite_gln (s : State) (fn addr : Nat) (bs : List Byte) : (s.hostWrite fn addr bs).gln = s.gln := rfl
@[simp] theorem State.hostWrite_pwr (s : State) (fn addr : Nat) (bs : List Byte) : (s.hostWrite fn addr bs).pwr = s.pwr := rfl
@[simp] theorem State.hostWrite_svc (s : State) (fn addr : Nat) (bs : List Byte) : (s.hostWrite fn addr bs).svc = s.svc := rfl
@[simp] theorem State.hostWrite_out (s : State) (fn addr : Nat) (bs : List Byte) : (s.hostWrite fn addr bs).out = s.out := rfl
@[simp] theorem State.hostWrite_free (s : State) (fn addr : Nat) (bs : List Byte) : (s.hostWrite fn addr bs).free = s.free := rfl

/-! hbmWrite changes hbm alone. -/

@[simp] theorem State.hbmWrite_pending (s : State) (addr : Nat) (bs : List Byte) : (s.hbmWrite addr bs).pending = s.pending := rfl
@[simp] theorem State.hbmWrite_regs (s : State) (addr : Nat) (bs : List Byte) : (s.hbmWrite addr bs).regs = s.regs := rfl
@[simp] theorem State.hbmWrite_copies (s : State) (addr : Nat) (bs : List Byte) : (s.hbmWrite addr bs).copies = s.copies := rfl
@[simp] theorem State.hbmWrite_histOpen (s : State) (addr : Nat) (bs : List Byte) : (s.hbmWrite addr bs).histOpen = s.histOpen := rfl
@[simp] theorem State.hbmWrite_ecc (s : State) (addr : Nat) (bs : List Byte) : (s.hbmWrite addr bs).ecc = s.ecc := rfl
@[simp] theorem State.hbmWrite_inject (s : State) (addr : Nat) (bs : List Byte) : (s.hbmWrite addr bs).inject = s.inject := rfl
@[simp] theorem State.hbmWrite_fmap (s : State) (addr : Nat) (bs : List Byte) : (s.hbmWrite addr bs).fmap = s.fmap := rfl
@[simp] theorem State.hbmWrite_plots (s : State) (addr : Nat) (bs : List Byte) : (s.hbmWrite addr bs).plots = s.plots := rfl
@[simp] theorem State.hbmWrite_bp (s : State) (addr : Nat) (bs : List Byte) : (s.hbmWrite addr bs).bp = s.bp := rfl
@[simp] theorem State.hbmWrite_fur (s : State) (addr : Nat) (bs : List Byte) : (s.hbmWrite addr bs).fur = s.fur := rfl
@[simp] theorem State.hbmWrite_sw (s : State) (addr : Nat) (bs : List Byte) : (s.hbmWrite addr bs).sw = s.sw := rfl
@[simp] theorem State.hbmWrite_xch (s : State) (addr : Nat) (bs : List Byte) : (s.hbmWrite addr bs).xch = s.xch := rfl
@[simp] theorem State.hbmWrite_lnk (s : State) (addr : Nat) (bs : List Byte) : (s.hbmWrite addr bs).lnk = s.lnk := rfl
@[simp] theorem State.hbmWrite_ft (s : State) (addr : Nat) (bs : List Byte) : (s.hbmWrite addr bs).ft = s.ft := rfl
@[simp] theorem State.hbmWrite_io (s : State) (addr : Nat) (bs : List Byte) : (s.hbmWrite addr bs).io = s.io := rfl
@[simp] theorem State.hbmWrite_tile (s : State) (addr : Nat) (bs : List Byte) : (s.hbmWrite addr bs).tile = s.tile := rfl
@[simp] theorem State.hbmWrite_boot (s : State) (addr : Nat) (bs : List Byte) : (s.hbmWrite addr bs).boot = s.boot := rfl
@[simp] theorem State.hbmWrite_cmd (s : State) (addr : Nat) (bs : List Byte) : (s.hbmWrite addr bs).cmd = s.cmd := rfl
@[simp] theorem State.hbmWrite_host (s : State) (addr : Nat) (bs : List Byte) : (s.hbmWrite addr bs).host = s.host := rfl
@[simp] theorem State.hbmWrite_hvt (s : State) (addr : Nat) (bs : List Byte) : (s.hbmWrite addr bs).hvt = s.hvt := rfl
@[simp] theorem State.hbmWrite_gln (s : State) (addr : Nat) (bs : List Byte) : (s.hbmWrite addr bs).gln = s.gln := rfl
@[simp] theorem State.hbmWrite_pwr (s : State) (addr : Nat) (bs : List Byte) : (s.hbmWrite addr bs).pwr = s.pwr := rfl
@[simp] theorem State.hbmWrite_svc (s : State) (addr : Nat) (bs : List Byte) : (s.hbmWrite addr bs).svc = s.svc := rfl
@[simp] theorem State.hbmWrite_out (s : State) (addr : Nat) (bs : List Byte) : (s.hbmWrite addr bs).out = s.out := rfl
@[simp] theorem State.hbmWrite_free (s : State) (addr : Nat) (bs : List Byte) : (s.hbmWrite addr bs).free = s.free := rfl

/-! spmWrite changes tile alone. -/

@[simp] theorem State.spmWrite_pending (s : State) (addr : Nat) (bs : List Byte) : (s.spmWrite addr bs).pending = s.pending := rfl
@[simp] theorem State.spmWrite_regs (s : State) (addr : Nat) (bs : List Byte) : (s.spmWrite addr bs).regs = s.regs := rfl
@[simp] theorem State.spmWrite_copies (s : State) (addr : Nat) (bs : List Byte) : (s.spmWrite addr bs).copies = s.copies := rfl
@[simp] theorem State.spmWrite_histOpen (s : State) (addr : Nat) (bs : List Byte) : (s.spmWrite addr bs).histOpen = s.histOpen := rfl
@[simp] theorem State.spmWrite_ecc (s : State) (addr : Nat) (bs : List Byte) : (s.spmWrite addr bs).ecc = s.ecc := rfl
@[simp] theorem State.spmWrite_inject (s : State) (addr : Nat) (bs : List Byte) : (s.spmWrite addr bs).inject = s.inject := rfl
@[simp] theorem State.spmWrite_fmap (s : State) (addr : Nat) (bs : List Byte) : (s.spmWrite addr bs).fmap = s.fmap := rfl
@[simp] theorem State.spmWrite_plots (s : State) (addr : Nat) (bs : List Byte) : (s.spmWrite addr bs).plots = s.plots := rfl
@[simp] theorem State.spmWrite_bp (s : State) (addr : Nat) (bs : List Byte) : (s.spmWrite addr bs).bp = s.bp := rfl
@[simp] theorem State.spmWrite_fur (s : State) (addr : Nat) (bs : List Byte) : (s.spmWrite addr bs).fur = s.fur := rfl
@[simp] theorem State.spmWrite_sw (s : State) (addr : Nat) (bs : List Byte) : (s.spmWrite addr bs).sw = s.sw := rfl
@[simp] theorem State.spmWrite_hbm (s : State) (addr : Nat) (bs : List Byte) : (s.spmWrite addr bs).hbm = s.hbm := rfl
@[simp] theorem State.spmWrite_xch (s : State) (addr : Nat) (bs : List Byte) : (s.spmWrite addr bs).xch = s.xch := rfl
@[simp] theorem State.spmWrite_lnk (s : State) (addr : Nat) (bs : List Byte) : (s.spmWrite addr bs).lnk = s.lnk := rfl
@[simp] theorem State.spmWrite_ft (s : State) (addr : Nat) (bs : List Byte) : (s.spmWrite addr bs).ft = s.ft := rfl
@[simp] theorem State.spmWrite_io (s : State) (addr : Nat) (bs : List Byte) : (s.spmWrite addr bs).io = s.io := rfl
@[simp] theorem State.spmWrite_boot (s : State) (addr : Nat) (bs : List Byte) : (s.spmWrite addr bs).boot = s.boot := rfl
@[simp] theorem State.spmWrite_cmd (s : State) (addr : Nat) (bs : List Byte) : (s.spmWrite addr bs).cmd = s.cmd := rfl
@[simp] theorem State.spmWrite_host (s : State) (addr : Nat) (bs : List Byte) : (s.spmWrite addr bs).host = s.host := rfl
@[simp] theorem State.spmWrite_hvt (s : State) (addr : Nat) (bs : List Byte) : (s.spmWrite addr bs).hvt = s.hvt := rfl
@[simp] theorem State.spmWrite_gln (s : State) (addr : Nat) (bs : List Byte) : (s.spmWrite addr bs).gln = s.gln := rfl
@[simp] theorem State.spmWrite_pwr (s : State) (addr : Nat) (bs : List Byte) : (s.spmWrite addr bs).pwr = s.pwr := rfl
@[simp] theorem State.spmWrite_svc (s : State) (addr : Nat) (bs : List Byte) : (s.spmWrite addr bs).svc = s.svc := rfl
@[simp] theorem State.spmWrite_out (s : State) (addr : Nat) (bs : List Byte) : (s.spmWrite addr bs).out = s.out := rfl
@[simp] theorem State.spmWrite_free (s : State) (addr : Nat) (bs : List Byte) : (s.spmWrite addr bs).free = s.free := rfl

/-! copyWr changes copies alone. -/

@[simp] theorem State.copyWr_pending (s : State) (r a : Nat) (v : Word) : (s.copyWr r a v).pending = s.pending := rfl
@[simp] theorem State.copyWr_regs (s : State) (r a : Nat) (v : Word) : (s.copyWr r a v).regs = s.regs := rfl
@[simp] theorem State.copyWr_histOpen (s : State) (r a : Nat) (v : Word) : (s.copyWr r a v).histOpen = s.histOpen := rfl
@[simp] theorem State.copyWr_ecc (s : State) (r a : Nat) (v : Word) : (s.copyWr r a v).ecc = s.ecc := rfl
@[simp] theorem State.copyWr_inject (s : State) (r a : Nat) (v : Word) : (s.copyWr r a v).inject = s.inject := rfl
@[simp] theorem State.copyWr_fmap (s : State) (r a : Nat) (v : Word) : (s.copyWr r a v).fmap = s.fmap := rfl
@[simp] theorem State.copyWr_plots (s : State) (r a : Nat) (v : Word) : (s.copyWr r a v).plots = s.plots := rfl
@[simp] theorem State.copyWr_bp (s : State) (r a : Nat) (v : Word) : (s.copyWr r a v).bp = s.bp := rfl
@[simp] theorem State.copyWr_fur (s : State) (r a : Nat) (v : Word) : (s.copyWr r a v).fur = s.fur := rfl
@[simp] theorem State.copyWr_sw (s : State) (r a : Nat) (v : Word) : (s.copyWr r a v).sw = s.sw := rfl
@[simp] theorem State.copyWr_hbm (s : State) (r a : Nat) (v : Word) : (s.copyWr r a v).hbm = s.hbm := rfl
@[simp] theorem State.copyWr_xch (s : State) (r a : Nat) (v : Word) : (s.copyWr r a v).xch = s.xch := rfl
@[simp] theorem State.copyWr_lnk (s : State) (r a : Nat) (v : Word) : (s.copyWr r a v).lnk = s.lnk := rfl
@[simp] theorem State.copyWr_ft (s : State) (r a : Nat) (v : Word) : (s.copyWr r a v).ft = s.ft := rfl
@[simp] theorem State.copyWr_io (s : State) (r a : Nat) (v : Word) : (s.copyWr r a v).io = s.io := rfl
@[simp] theorem State.copyWr_tile (s : State) (r a : Nat) (v : Word) : (s.copyWr r a v).tile = s.tile := rfl
@[simp] theorem State.copyWr_boot (s : State) (r a : Nat) (v : Word) : (s.copyWr r a v).boot = s.boot := rfl
@[simp] theorem State.copyWr_cmd (s : State) (r a : Nat) (v : Word) : (s.copyWr r a v).cmd = s.cmd := rfl
@[simp] theorem State.copyWr_host (s : State) (r a : Nat) (v : Word) : (s.copyWr r a v).host = s.host := rfl
@[simp] theorem State.copyWr_hvt (s : State) (r a : Nat) (v : Word) : (s.copyWr r a v).hvt = s.hvt := rfl
@[simp] theorem State.copyWr_gln (s : State) (r a : Nat) (v : Word) : (s.copyWr r a v).gln = s.gln := rfl
@[simp] theorem State.copyWr_pwr (s : State) (r a : Nat) (v : Word) : (s.copyWr r a v).pwr = s.pwr := rfl
@[simp] theorem State.copyWr_svc (s : State) (r a : Nat) (v : Word) : (s.copyWr r a v).svc = s.svc := rfl
@[simp] theorem State.copyWr_out (s : State) (r a : Nat) (v : Word) : (s.copyWr r a v).out = s.out := rfl
@[simp] theorem State.copyWr_free (s : State) (r a : Nat) (v : Word) : (s.copyWr r a v).free = s.free := rfl

/-! devStat changes copies alone. -/

@[simp] theorem State.devStat_pending (s : State) (fn i : Nat) : (s.devStat fn i).pending = s.pending := rfl
@[simp] theorem State.devStat_regs (s : State) (fn i : Nat) : (s.devStat fn i).regs = s.regs := rfl
@[simp] theorem State.devStat_histOpen (s : State) (fn i : Nat) : (s.devStat fn i).histOpen = s.histOpen := rfl
@[simp] theorem State.devStat_ecc (s : State) (fn i : Nat) : (s.devStat fn i).ecc = s.ecc := rfl
@[simp] theorem State.devStat_inject (s : State) (fn i : Nat) : (s.devStat fn i).inject = s.inject := rfl
@[simp] theorem State.devStat_fmap (s : State) (fn i : Nat) : (s.devStat fn i).fmap = s.fmap := rfl
@[simp] theorem State.devStat_plots (s : State) (fn i : Nat) : (s.devStat fn i).plots = s.plots := rfl
@[simp] theorem State.devStat_bp (s : State) (fn i : Nat) : (s.devStat fn i).bp = s.bp := rfl
@[simp] theorem State.devStat_fur (s : State) (fn i : Nat) : (s.devStat fn i).fur = s.fur := rfl
@[simp] theorem State.devStat_sw (s : State) (fn i : Nat) : (s.devStat fn i).sw = s.sw := rfl
@[simp] theorem State.devStat_hbm (s : State) (fn i : Nat) : (s.devStat fn i).hbm = s.hbm := rfl
@[simp] theorem State.devStat_xch (s : State) (fn i : Nat) : (s.devStat fn i).xch = s.xch := rfl
@[simp] theorem State.devStat_lnk (s : State) (fn i : Nat) : (s.devStat fn i).lnk = s.lnk := rfl
@[simp] theorem State.devStat_ft (s : State) (fn i : Nat) : (s.devStat fn i).ft = s.ft := rfl
@[simp] theorem State.devStat_io (s : State) (fn i : Nat) : (s.devStat fn i).io = s.io := rfl
@[simp] theorem State.devStat_tile (s : State) (fn i : Nat) : (s.devStat fn i).tile = s.tile := rfl
@[simp] theorem State.devStat_boot (s : State) (fn i : Nat) : (s.devStat fn i).boot = s.boot := rfl
@[simp] theorem State.devStat_cmd (s : State) (fn i : Nat) : (s.devStat fn i).cmd = s.cmd := rfl
@[simp] theorem State.devStat_host (s : State) (fn i : Nat) : (s.devStat fn i).host = s.host := rfl
@[simp] theorem State.devStat_hvt (s : State) (fn i : Nat) : (s.devStat fn i).hvt = s.hvt := rfl
@[simp] theorem State.devStat_gln (s : State) (fn i : Nat) : (s.devStat fn i).gln = s.gln := rfl
@[simp] theorem State.devStat_pwr (s : State) (fn i : Nat) : (s.devStat fn i).pwr = s.pwr := rfl
@[simp] theorem State.devStat_svc (s : State) (fn i : Nat) : (s.devStat fn i).svc = s.svc := rfl
@[simp] theorem State.devStat_out (s : State) (fn i : Nat) : (s.devStat fn i).out = s.out := rfl
@[simp] theorem State.devStat_free (s : State) (fn i : Nat) : (s.devStat fn i).free = s.free := rfl

/-! outData changes out alone. -/

@[simp] theorem State.outData_pending (s : State) (d : Option (List Byte)) : (s.outData d).pending = s.pending := rfl
@[simp] theorem State.outData_regs (s : State) (d : Option (List Byte)) : (s.outData d).regs = s.regs := rfl
@[simp] theorem State.outData_copies (s : State) (d : Option (List Byte)) : (s.outData d).copies = s.copies := rfl
@[simp] theorem State.outData_histOpen (s : State) (d : Option (List Byte)) : (s.outData d).histOpen = s.histOpen := rfl
@[simp] theorem State.outData_ecc (s : State) (d : Option (List Byte)) : (s.outData d).ecc = s.ecc := rfl
@[simp] theorem State.outData_inject (s : State) (d : Option (List Byte)) : (s.outData d).inject = s.inject := rfl
@[simp] theorem State.outData_fmap (s : State) (d : Option (List Byte)) : (s.outData d).fmap = s.fmap := rfl
@[simp] theorem State.outData_plots (s : State) (d : Option (List Byte)) : (s.outData d).plots = s.plots := rfl
@[simp] theorem State.outData_bp (s : State) (d : Option (List Byte)) : (s.outData d).bp = s.bp := rfl
@[simp] theorem State.outData_fur (s : State) (d : Option (List Byte)) : (s.outData d).fur = s.fur := rfl
@[simp] theorem State.outData_sw (s : State) (d : Option (List Byte)) : (s.outData d).sw = s.sw := rfl
@[simp] theorem State.outData_hbm (s : State) (d : Option (List Byte)) : (s.outData d).hbm = s.hbm := rfl
@[simp] theorem State.outData_xch (s : State) (d : Option (List Byte)) : (s.outData d).xch = s.xch := rfl
@[simp] theorem State.outData_lnk (s : State) (d : Option (List Byte)) : (s.outData d).lnk = s.lnk := rfl
@[simp] theorem State.outData_ft (s : State) (d : Option (List Byte)) : (s.outData d).ft = s.ft := rfl
@[simp] theorem State.outData_io (s : State) (d : Option (List Byte)) : (s.outData d).io = s.io := rfl
@[simp] theorem State.outData_tile (s : State) (d : Option (List Byte)) : (s.outData d).tile = s.tile := rfl
@[simp] theorem State.outData_boot (s : State) (d : Option (List Byte)) : (s.outData d).boot = s.boot := rfl
@[simp] theorem State.outData_cmd (s : State) (d : Option (List Byte)) : (s.outData d).cmd = s.cmd := rfl
@[simp] theorem State.outData_host (s : State) (d : Option (List Byte)) : (s.outData d).host = s.host := rfl
@[simp] theorem State.outData_hvt (s : State) (d : Option (List Byte)) : (s.outData d).hvt = s.hvt := rfl
@[simp] theorem State.outData_gln (s : State) (d : Option (List Byte)) : (s.outData d).gln = s.gln := rfl
@[simp] theorem State.outData_pwr (s : State) (d : Option (List Byte)) : (s.outData d).pwr = s.pwr := rfl
@[simp] theorem State.outData_svc (s : State) (d : Option (List Byte)) : (s.outData d).svc = s.svc := rfl
@[simp] theorem State.outData_free (s : State) (d : Option (List Byte)) : (s.outData d).free = s.free := rfl

/-! say changes out alone. -/

@[simp] theorem State.say_pending (s : State) (l : List String) : (s.say l).pending = s.pending := rfl
@[simp] theorem State.say_regs (s : State) (l : List String) : (s.say l).regs = s.regs := rfl
@[simp] theorem State.say_copies (s : State) (l : List String) : (s.say l).copies = s.copies := rfl
@[simp] theorem State.say_histOpen (s : State) (l : List String) : (s.say l).histOpen = s.histOpen := rfl
@[simp] theorem State.say_ecc (s : State) (l : List String) : (s.say l).ecc = s.ecc := rfl
@[simp] theorem State.say_inject (s : State) (l : List String) : (s.say l).inject = s.inject := rfl
@[simp] theorem State.say_fmap (s : State) (l : List String) : (s.say l).fmap = s.fmap := rfl
@[simp] theorem State.say_plots (s : State) (l : List String) : (s.say l).plots = s.plots := rfl
@[simp] theorem State.say_bp (s : State) (l : List String) : (s.say l).bp = s.bp := rfl
@[simp] theorem State.say_fur (s : State) (l : List String) : (s.say l).fur = s.fur := rfl
@[simp] theorem State.say_sw (s : State) (l : List String) : (s.say l).sw = s.sw := rfl
@[simp] theorem State.say_hbm (s : State) (l : List String) : (s.say l).hbm = s.hbm := rfl
@[simp] theorem State.say_xch (s : State) (l : List String) : (s.say l).xch = s.xch := rfl
@[simp] theorem State.say_lnk (s : State) (l : List String) : (s.say l).lnk = s.lnk := rfl
@[simp] theorem State.say_ft (s : State) (l : List String) : (s.say l).ft = s.ft := rfl
@[simp] theorem State.say_io (s : State) (l : List String) : (s.say l).io = s.io := rfl
@[simp] theorem State.say_tile (s : State) (l : List String) : (s.say l).tile = s.tile := rfl
@[simp] theorem State.say_boot (s : State) (l : List String) : (s.say l).boot = s.boot := rfl
@[simp] theorem State.say_cmd (s : State) (l : List String) : (s.say l).cmd = s.cmd := rfl
@[simp] theorem State.say_host (s : State) (l : List String) : (s.say l).host = s.host := rfl
@[simp] theorem State.say_hvt (s : State) (l : List String) : (s.say l).hvt = s.hvt := rfl
@[simp] theorem State.say_gln (s : State) (l : List String) : (s.say l).gln = s.gln := rfl
@[simp] theorem State.say_pwr (s : State) (l : List String) : (s.say l).pwr = s.pwr := rfl
@[simp] theorem State.say_svc (s : State) (l : List String) : (s.say l).svc = s.svc := rfl
@[simp] theorem State.say_free (s : State) (l : List String) : (s.say l).free = s.free := rfl

/-! The passing of time: Field Time, and what the end of a phase term tells (R274, R281): registers and messages. -/

/-- The state s with other registers and another Field Time, and other messages sent, pending or held. -/
def State.Told (s t : State) : Prop :=
  ∃ (r : Cells Word) (f : FtSt) (h : Cells Bool) (o w : List (Nat × Nat)),
    t = { s with regs := r, ft := f, host := { s.host with msixPend := h }, out := { s.out with msix := o },
                 pwr := { s.pwr with heldMsgs := w } }

theorem State.Told.refl (s : State) : s.Told s := ⟨_, _, _, _, _, rfl⟩

theorem State.Told.trans {s t u : State} (h : s.Told t) (g : t.Told u) : s.Told u := by
  obtain ⟨_, _, _, _, _, rfl⟩ := h
  obtain ⟨_, _, _, _, _, rfl⟩ := g
  exact ⟨_, _, _, _, _, rfl⟩

theorem State.told_rgSet (s : State) (a : Nat) (v : Word) : s.Told (s.rgSet a v) := ⟨_, _, _, _, _, rfl⟩

theorem State.told_setBit (s : State) (a i : Nat) : s.Told (s.setBit a i) := ⟨_, _, _, _, _, rfl⟩

theorem State.told_ft (s : State) (x : FtSt) : s.Told { s with ft := x } := ⟨_, _, _, _, _, rfl⟩

theorem State.told_msix (s : State) (fn vec : Nat) : s.Told (s.msix fn vec) := by
  unfold State.msix
  repeat' split
  all_goals exact ⟨_, _, _, _, _, rfl⟩

theorem State.told_devInt (s : State) (b : Nat) : s.Told (s.devInt b) := by
  unfold State.devInt
  dsimp only
  split
  · exact .refl s
  · split
    · exact (s.told_setBit _ _).trans (State.told_msix _ _ _)
    · exact s.told_setBit _ _

theorem State.told_condition (s : State) (block stat i : Nat) : s.Told (s.condition block stat i) :=
  (s.told_setBit _ _).trans (State.told_devInt _ _)

theorem State.told_setAdj (s : State) (want : Int) : s.Told (s.setAdj want) := by
  unfold State.setAdj
  dsimp only
  split
  · exact s.told_rgSet _ _
  · exact (s.told_rgSet _ _).trans (State.told_condition _ _ _ _)

theorem State.told_phaseEnds (s : State) : s.Told s.phaseEnds := (s.told_ft _).trans (State.told_setAdj _ _)

theorem State.told_rateSteps (s : State) (n : Nat) : s.Told (s.rateSteps n) := s.told_ft _

theorem State.told_tickSteps (s : State) (n : Nat) : s.Told (s.tickSteps n) := by
  unfold State.tickSteps
  split
  · exact s.told_rateSteps n
  · dsimp only
    split
    · exact s.told_rateSteps n
    · exact ((s.told_rateSteps _).trans (State.told_phaseEnds _)).trans (State.told_rateSteps _ _)

theorem State.told_tickTime (s : State) : s.Told s.tickTime := s.told_tickSteps 1

theorem State.told_waitUntil (s : State) (n : Nat) : s.Told (s.waitUntil n) := by
  unfold State.waitUntil
  dsimp only
  split
  · exact (s.told_tickSteps _).trans (State.told_tickSteps _ _)
  · exact .refl s

theorem State.told_waitSteps (s : State) (n : Nat) : s.Told (s.waitSteps n) := by
  unfold State.waitSteps
  split
  · exact s.told_tickSteps _
  · exact .refl s

theorem State.Told.pending {s t : State} (h : s.Told t) : t.pending = s.pending := by obtain ⟨_, _, _, _, _, rfl⟩ := h; rfl
theorem State.Told.copies {s t : State} (h : s.Told t) : t.copies = s.copies := by obtain ⟨_, _, _, _, _, rfl⟩ := h; rfl
theorem State.Told.histOpen {s t : State} (h : s.Told t) : t.histOpen = s.histOpen := by obtain ⟨_, _, _, _, _, rfl⟩ := h; rfl
theorem State.Told.ecc {s t : State} (h : s.Told t) : t.ecc = s.ecc := by obtain ⟨_, _, _, _, _, rfl⟩ := h; rfl
theorem State.Told.inject {s t : State} (h : s.Told t) : t.inject = s.inject := by obtain ⟨_, _, _, _, _, rfl⟩ := h; rfl
theorem State.Told.fmap {s t : State} (h : s.Told t) : t.fmap = s.fmap := by obtain ⟨_, _, _, _, _, rfl⟩ := h; rfl
theorem State.Told.plots {s t : State} (h : s.Told t) : t.plots = s.plots := by obtain ⟨_, _, _, _, _, rfl⟩ := h; rfl
theorem State.Told.bp {s t : State} (h : s.Told t) : t.bp = s.bp := by obtain ⟨_, _, _, _, _, rfl⟩ := h; rfl
theorem State.Told.fur {s t : State} (h : s.Told t) : t.fur = s.fur := by obtain ⟨_, _, _, _, _, rfl⟩ := h; rfl
theorem State.Told.sw {s t : State} (h : s.Told t) : t.sw = s.sw := by obtain ⟨_, _, _, _, _, rfl⟩ := h; rfl
theorem State.Told.hbm {s t : State} (h : s.Told t) : t.hbm = s.hbm := by obtain ⟨_, _, _, _, _, rfl⟩ := h; rfl
theorem State.Told.xch {s t : State} (h : s.Told t) : t.xch = s.xch := by obtain ⟨_, _, _, _, _, rfl⟩ := h; rfl
theorem State.Told.lnk {s t : State} (h : s.Told t) : t.lnk = s.lnk := by obtain ⟨_, _, _, _, _, rfl⟩ := h; rfl
theorem State.Told.io {s t : State} (h : s.Told t) : t.io = s.io := by obtain ⟨_, _, _, _, _, rfl⟩ := h; rfl
theorem State.Told.tile {s t : State} (h : s.Told t) : t.tile = s.tile := by obtain ⟨_, _, _, _, _, rfl⟩ := h; rfl
theorem State.Told.boot {s t : State} (h : s.Told t) : t.boot = s.boot := by obtain ⟨_, _, _, _, _, rfl⟩ := h; rfl
theorem State.Told.cmd {s t : State} (h : s.Told t) : t.cmd = s.cmd := by obtain ⟨_, _, _, _, _, rfl⟩ := h; rfl
theorem State.Told.hvt {s t : State} (h : s.Told t) : t.hvt = s.hvt := by obtain ⟨_, _, _, _, _, rfl⟩ := h; rfl
theorem State.Told.gln {s t : State} (h : s.Told t) : t.gln = s.gln := by obtain ⟨_, _, _, _, _, rfl⟩ := h; rfl
theorem State.Told.svc {s t : State} (h : s.Told t) : t.svc = s.svc := by obtain ⟨_, _, _, _, _, rfl⟩ := h; rfl
theorem State.Told.free {s t : State} (h : s.Told t) : t.free = s.free := by obtain ⟨_, _, _, _, _, rfl⟩ := h; rfl
theorem State.Told.hostMem {s t : State} (h : s.Told t) : t.host.mem = s.host.mem := by obtain ⟨_, _, _, _, _, rfl⟩ := h; rfl

/-! tickSteps leaves everything else alone. -/

@[simp] theorem State.tickSteps_pending (s : State) (n : Nat) : (s.tickSteps n).pending = s.pending := (s.told_tickSteps n).pending
@[simp] theorem State.tickSteps_copies (s : State) (n : Nat) : (s.tickSteps n).copies = s.copies := (s.told_tickSteps n).copies
@[simp] theorem State.tickSteps_histOpen (s : State) (n : Nat) : (s.tickSteps n).histOpen = s.histOpen := (s.told_tickSteps n).histOpen
@[simp] theorem State.tickSteps_ecc (s : State) (n : Nat) : (s.tickSteps n).ecc = s.ecc := (s.told_tickSteps n).ecc
@[simp] theorem State.tickSteps_inject (s : State) (n : Nat) : (s.tickSteps n).inject = s.inject := (s.told_tickSteps n).inject
@[simp] theorem State.tickSteps_fmap (s : State) (n : Nat) : (s.tickSteps n).fmap = s.fmap := (s.told_tickSteps n).fmap
@[simp] theorem State.tickSteps_plots (s : State) (n : Nat) : (s.tickSteps n).plots = s.plots := (s.told_tickSteps n).plots
@[simp] theorem State.tickSteps_bp (s : State) (n : Nat) : (s.tickSteps n).bp = s.bp := (s.told_tickSteps n).bp
@[simp] theorem State.tickSteps_fur (s : State) (n : Nat) : (s.tickSteps n).fur = s.fur := (s.told_tickSteps n).fur
@[simp] theorem State.tickSteps_sw (s : State) (n : Nat) : (s.tickSteps n).sw = s.sw := (s.told_tickSteps n).sw
@[simp] theorem State.tickSteps_hbm (s : State) (n : Nat) : (s.tickSteps n).hbm = s.hbm := (s.told_tickSteps n).hbm
@[simp] theorem State.tickSteps_xch (s : State) (n : Nat) : (s.tickSteps n).xch = s.xch := (s.told_tickSteps n).xch
@[simp] theorem State.tickSteps_lnk (s : State) (n : Nat) : (s.tickSteps n).lnk = s.lnk := (s.told_tickSteps n).lnk
@[simp] theorem State.tickSteps_io (s : State) (n : Nat) : (s.tickSteps n).io = s.io := (s.told_tickSteps n).io
@[simp] theorem State.tickSteps_tile (s : State) (n : Nat) : (s.tickSteps n).tile = s.tile := (s.told_tickSteps n).tile
@[simp] theorem State.tickSteps_boot (s : State) (n : Nat) : (s.tickSteps n).boot = s.boot := (s.told_tickSteps n).boot
@[simp] theorem State.tickSteps_cmd (s : State) (n : Nat) : (s.tickSteps n).cmd = s.cmd := (s.told_tickSteps n).cmd
@[simp] theorem State.tickSteps_hvt (s : State) (n : Nat) : (s.tickSteps n).hvt = s.hvt := (s.told_tickSteps n).hvt
@[simp] theorem State.tickSteps_gln (s : State) (n : Nat) : (s.tickSteps n).gln = s.gln := (s.told_tickSteps n).gln
@[simp] theorem State.tickSteps_svc (s : State) (n : Nat) : (s.tickSteps n).svc = s.svc := (s.told_tickSteps n).svc
@[simp] theorem State.tickSteps_free (s : State) (n : Nat) : (s.tickSteps n).free = s.free := (s.told_tickSteps n).free
@[simp] theorem State.tickSteps_hostMem (s : State) (n : Nat) : (s.tickSteps n).host.mem = s.host.mem := (s.told_tickSteps n).hostMem

/-! tickTime leaves everything else alone. -/

@[simp] theorem State.tickTime_pending (s : State) : (s.tickTime).pending = s.pending := (s.told_tickTime).pending
@[simp] theorem State.tickTime_copies (s : State) : (s.tickTime).copies = s.copies := (s.told_tickTime).copies
@[simp] theorem State.tickTime_histOpen (s : State) : (s.tickTime).histOpen = s.histOpen := (s.told_tickTime).histOpen
@[simp] theorem State.tickTime_ecc (s : State) : (s.tickTime).ecc = s.ecc := (s.told_tickTime).ecc
@[simp] theorem State.tickTime_inject (s : State) : (s.tickTime).inject = s.inject := (s.told_tickTime).inject
@[simp] theorem State.tickTime_fmap (s : State) : (s.tickTime).fmap = s.fmap := (s.told_tickTime).fmap
@[simp] theorem State.tickTime_plots (s : State) : (s.tickTime).plots = s.plots := (s.told_tickTime).plots
@[simp] theorem State.tickTime_bp (s : State) : (s.tickTime).bp = s.bp := (s.told_tickTime).bp
@[simp] theorem State.tickTime_fur (s : State) : (s.tickTime).fur = s.fur := (s.told_tickTime).fur
@[simp] theorem State.tickTime_sw (s : State) : (s.tickTime).sw = s.sw := (s.told_tickTime).sw
@[simp] theorem State.tickTime_hbm (s : State) : (s.tickTime).hbm = s.hbm := (s.told_tickTime).hbm
@[simp] theorem State.tickTime_xch (s : State) : (s.tickTime).xch = s.xch := (s.told_tickTime).xch
@[simp] theorem State.tickTime_lnk (s : State) : (s.tickTime).lnk = s.lnk := (s.told_tickTime).lnk
@[simp] theorem State.tickTime_io (s : State) : (s.tickTime).io = s.io := (s.told_tickTime).io
@[simp] theorem State.tickTime_tile (s : State) : (s.tickTime).tile = s.tile := (s.told_tickTime).tile
@[simp] theorem State.tickTime_boot (s : State) : (s.tickTime).boot = s.boot := (s.told_tickTime).boot
@[simp] theorem State.tickTime_cmd (s : State) : (s.tickTime).cmd = s.cmd := (s.told_tickTime).cmd
@[simp] theorem State.tickTime_hvt (s : State) : (s.tickTime).hvt = s.hvt := (s.told_tickTime).hvt
@[simp] theorem State.tickTime_gln (s : State) : (s.tickTime).gln = s.gln := (s.told_tickTime).gln
@[simp] theorem State.tickTime_svc (s : State) : (s.tickTime).svc = s.svc := (s.told_tickTime).svc
@[simp] theorem State.tickTime_free (s : State) : (s.tickTime).free = s.free := (s.told_tickTime).free
@[simp] theorem State.tickTime_hostMem (s : State) : (s.tickTime).host.mem = s.host.mem := (s.told_tickTime).hostMem

/-! waitUntil leaves everything else alone. -/

@[simp] theorem State.waitUntil_pending (s : State) (n : Nat) : (s.waitUntil n).pending = s.pending := (s.told_waitUntil n).pending
@[simp] theorem State.waitUntil_copies (s : State) (n : Nat) : (s.waitUntil n).copies = s.copies := (s.told_waitUntil n).copies
@[simp] theorem State.waitUntil_histOpen (s : State) (n : Nat) : (s.waitUntil n).histOpen = s.histOpen := (s.told_waitUntil n).histOpen
@[simp] theorem State.waitUntil_ecc (s : State) (n : Nat) : (s.waitUntil n).ecc = s.ecc := (s.told_waitUntil n).ecc
@[simp] theorem State.waitUntil_inject (s : State) (n : Nat) : (s.waitUntil n).inject = s.inject := (s.told_waitUntil n).inject
@[simp] theorem State.waitUntil_fmap (s : State) (n : Nat) : (s.waitUntil n).fmap = s.fmap := (s.told_waitUntil n).fmap
@[simp] theorem State.waitUntil_plots (s : State) (n : Nat) : (s.waitUntil n).plots = s.plots := (s.told_waitUntil n).plots
@[simp] theorem State.waitUntil_bp (s : State) (n : Nat) : (s.waitUntil n).bp = s.bp := (s.told_waitUntil n).bp
@[simp] theorem State.waitUntil_fur (s : State) (n : Nat) : (s.waitUntil n).fur = s.fur := (s.told_waitUntil n).fur
@[simp] theorem State.waitUntil_sw (s : State) (n : Nat) : (s.waitUntil n).sw = s.sw := (s.told_waitUntil n).sw
@[simp] theorem State.waitUntil_hbm (s : State) (n : Nat) : (s.waitUntil n).hbm = s.hbm := (s.told_waitUntil n).hbm
@[simp] theorem State.waitUntil_xch (s : State) (n : Nat) : (s.waitUntil n).xch = s.xch := (s.told_waitUntil n).xch
@[simp] theorem State.waitUntil_lnk (s : State) (n : Nat) : (s.waitUntil n).lnk = s.lnk := (s.told_waitUntil n).lnk
@[simp] theorem State.waitUntil_io (s : State) (n : Nat) : (s.waitUntil n).io = s.io := (s.told_waitUntil n).io
@[simp] theorem State.waitUntil_tile (s : State) (n : Nat) : (s.waitUntil n).tile = s.tile := (s.told_waitUntil n).tile
@[simp] theorem State.waitUntil_boot (s : State) (n : Nat) : (s.waitUntil n).boot = s.boot := (s.told_waitUntil n).boot
@[simp] theorem State.waitUntil_cmd (s : State) (n : Nat) : (s.waitUntil n).cmd = s.cmd := (s.told_waitUntil n).cmd
@[simp] theorem State.waitUntil_hvt (s : State) (n : Nat) : (s.waitUntil n).hvt = s.hvt := (s.told_waitUntil n).hvt
@[simp] theorem State.waitUntil_gln (s : State) (n : Nat) : (s.waitUntil n).gln = s.gln := (s.told_waitUntil n).gln
@[simp] theorem State.waitUntil_svc (s : State) (n : Nat) : (s.waitUntil n).svc = s.svc := (s.told_waitUntil n).svc
@[simp] theorem State.waitUntil_free (s : State) (n : Nat) : (s.waitUntil n).free = s.free := (s.told_waitUntil n).free
@[simp] theorem State.waitUntil_hostMem (s : State) (n : Nat) : (s.waitUntil n).host.mem = s.host.mem := (s.told_waitUntil n).hostMem

/-! waitSteps leaves everything else alone. -/

@[simp] theorem State.waitSteps_pending (s : State) (n : Nat) : (s.waitSteps n).pending = s.pending := (s.told_waitSteps n).pending
@[simp] theorem State.waitSteps_copies (s : State) (n : Nat) : (s.waitSteps n).copies = s.copies := (s.told_waitSteps n).copies
@[simp] theorem State.waitSteps_histOpen (s : State) (n : Nat) : (s.waitSteps n).histOpen = s.histOpen := (s.told_waitSteps n).histOpen
@[simp] theorem State.waitSteps_ecc (s : State) (n : Nat) : (s.waitSteps n).ecc = s.ecc := (s.told_waitSteps n).ecc
@[simp] theorem State.waitSteps_inject (s : State) (n : Nat) : (s.waitSteps n).inject = s.inject := (s.told_waitSteps n).inject
@[simp] theorem State.waitSteps_fmap (s : State) (n : Nat) : (s.waitSteps n).fmap = s.fmap := (s.told_waitSteps n).fmap
@[simp] theorem State.waitSteps_plots (s : State) (n : Nat) : (s.waitSteps n).plots = s.plots := (s.told_waitSteps n).plots
@[simp] theorem State.waitSteps_bp (s : State) (n : Nat) : (s.waitSteps n).bp = s.bp := (s.told_waitSteps n).bp
@[simp] theorem State.waitSteps_fur (s : State) (n : Nat) : (s.waitSteps n).fur = s.fur := (s.told_waitSteps n).fur
@[simp] theorem State.waitSteps_sw (s : State) (n : Nat) : (s.waitSteps n).sw = s.sw := (s.told_waitSteps n).sw
@[simp] theorem State.waitSteps_hbm (s : State) (n : Nat) : (s.waitSteps n).hbm = s.hbm := (s.told_waitSteps n).hbm
@[simp] theorem State.waitSteps_xch (s : State) (n : Nat) : (s.waitSteps n).xch = s.xch := (s.told_waitSteps n).xch
@[simp] theorem State.waitSteps_lnk (s : State) (n : Nat) : (s.waitSteps n).lnk = s.lnk := (s.told_waitSteps n).lnk
@[simp] theorem State.waitSteps_io (s : State) (n : Nat) : (s.waitSteps n).io = s.io := (s.told_waitSteps n).io
@[simp] theorem State.waitSteps_tile (s : State) (n : Nat) : (s.waitSteps n).tile = s.tile := (s.told_waitSteps n).tile
@[simp] theorem State.waitSteps_boot (s : State) (n : Nat) : (s.waitSteps n).boot = s.boot := (s.told_waitSteps n).boot
@[simp] theorem State.waitSteps_cmd (s : State) (n : Nat) : (s.waitSteps n).cmd = s.cmd := (s.told_waitSteps n).cmd
@[simp] theorem State.waitSteps_hvt (s : State) (n : Nat) : (s.waitSteps n).hvt = s.hvt := (s.told_waitSteps n).hvt
@[simp] theorem State.waitSteps_gln (s : State) (n : Nat) : (s.waitSteps n).gln = s.gln := (s.told_waitSteps n).gln
@[simp] theorem State.waitSteps_svc (s : State) (n : Nat) : (s.waitSteps n).svc = s.svc := (s.told_waitSteps n).svc
@[simp] theorem State.waitSteps_free (s : State) (n : Nat) : (s.waitSteps n).free = s.free := (s.told_waitSteps n).free
@[simp] theorem State.waitSteps_hostMem (s : State) (n : Nat) : (s.waitSteps n).host.mem = s.host.mem := (s.told_waitSteps n).hostMem

/-! ## Registers -/

theorem State.rg_rgSet_same (s : State) (a : Nat) (v : Word) (h : s.memWf = true) : (s.rgSet a v).rg a = v := by
  have hr : cellsWf 0 s.regs = true := by
    simp only [State.memWf, Bool.and_eq_true] at h; exact h.1.1.1.1.1.1
  unfold State.rg State.rgSet
  rw [Laws.cget_cset_same hr, BitVec.xor_assoc, BitVec.xor_self, BitVec.xor_zero]

@[simp] theorem State.rg_rgSet_ne (s : State) (a b : Nat) (v : Word) (h : b ≠ a) : (s.rgSet a v).rg b = s.rg b := by
  unfold State.rg State.rgSet
  simp [Laws.cget_cset_ne h]

theorem State.rn_rnSet_same (s : State) (a v : Nat) (h : s.memWf = true) : (s.rnSet a v).rn a = v % 2 ^ 32 := by
  unfold State.rn State.rnSet
  rw [State.rg_rgSet_same s a _ h, BitVec.toNat_ofNat]

@[simp] theorem State.rn_rnSet_ne (s : State) (a b v : Nat) (h : b ≠ a) : (s.rnSet a v).rn b = s.rn b := by
  unfold State.rn State.rnSet
  rw [State.rg_rgSet_ne s a b _ h]

theorem State.rgSet_memWf (s : State) (a : Nat) (v : Word) (h : s.memWf = true) : (s.rgSet a v).memWf = true := by
  simp only [State.memWf, Bool.and_eq_true] at h ⊢
  exact ⟨⟨⟨⟨⟨⟨Laws.cset_wf h.1.1.1.1.1.1, h.1.1.1.1.1.2⟩, h.1.1.1.1.2⟩, h.1.1.1.2⟩, h.1.1.2⟩, h.1.2⟩, h.2⟩

theorem putFld_testBit (n lo len v j : Nat) :
    (putFld n lo len v).testBit j = if lo ≤ j ∧ j < lo + len then v.testBit (j - lo) else n.testBit j := by
  have e : putFld n lo len v = 2 ^ lo * (2 ^ len * (n >>> (lo + len)) + v % 2 ^ len) + n % 2 ^ lo := by
    unfold putFld; rw [Nat.shiftLeft_eq, Nat.shiftLeft_eq, Nat.pow_add]; ring
  rw [e, Nat.testBit_two_pow_mul_add _ (Nat.mod_lt _ (Nat.two_pow_pos _)),
    Nat.testBit_two_pow_mul_add _ (Nat.mod_lt _ (Nat.two_pow_pos _)), Nat.testBit_shiftRight, Nat.testBit_mod_two_pow,
    Nat.testBit_mod_two_pow]
  by_cases h1 : j < lo
  · have : ¬ (lo ≤ j ∧ j < lo + len) := by omega
    simp [h1, this]
  · by_cases h2 : j - lo < len
    · have : lo ≤ j ∧ j < lo + len := by omega
      simp [h1, h2, this]
    · have h3 : ¬ (lo ≤ j ∧ j < lo + len) := by omega
      simp only [h1, h2, h3, if_false]
      congr 1; omega

/-- A bit of a register after a field of it was replaced. -/
theorem State.bit_put (s : State) (a lo len v j : Nat) (h : s.memWf = true) (hj : j < 32) :
    (s.put a lo len v).bit a j = if lo ≤ j ∧ j < lo + len then v.testBit (j - lo) else s.bit a j := by
  unfold State.bit State.put
  rw [State.rn_rnSet_same _ _ _ h, Nat.testBit_mod_two_pow, putFld_testBit]
  simp [hj]

theorem State.bit_setBit (s : State) (a i : Nat) (h : s.memWf = true) (hi : i < 32) : (s.setBit a i).bit a i = true := by
  unfold State.setBit
  rw [State.bit_put _ _ _ _ _ _ h hi]; simp

theorem State.bit_clrBit (s : State) (a i : Nat) (h : s.memWf = true) (hi : i < 32) : (s.clrBit a i).bit a i = false := by
  unfold State.clrBit
  rw [State.bit_put _ _ _ _ _ _ h hi]; simp

@[simp] theorem State.rn_put_ne (s : State) (a b lo len v : Nat) (h : b ≠ a) : (s.put a lo len v).rn b = s.rn b := by
  unfold State.put; exact State.rn_rnSet_ne s a b _ h

@[simp] theorem State.rn_setBit_ne (s : State) (a b i : Nat) (h : b ≠ a) : (s.setBit a i).rn b = s.rn b :=
  State.rn_put_ne s a b _ _ _ h

@[simp] theorem State.rn_clrBit_ne (s : State) (a b i : Nat) (h : b ≠ a) : (s.clrBit a i).rn b = s.rn b :=
  State.rn_put_ne s a b _ _ _ h

theorem nfld_putFld_same (n lo len v : Nat) : nfld (putFld n lo len v) lo len = v % 2 ^ len := by
  apply Nat.eq_of_testBit_eq
  intro j
  unfold nfld
  rw [Nat.testBit_mod_two_pow, Nat.testBit_mod_two_pow, Nat.testBit_shiftRight, putFld_testBit]
  by_cases h : j < len
  · have : lo ≤ lo + j ∧ lo + j < lo + len := by omega
    simp [h, this]
  · simp [h]

/-- A field of a register after it was replaced. -/
theorem State.fld_put_same (s : State) (a lo len v : Nat) (h : s.memWf = true) (hl : lo + len ≤ 32) :
    (s.put a lo len v).fld a lo len = v % 2 ^ len := by
  unfold State.fld State.put
  rw [State.rn_rnSet_same _ _ _ h]
  rw [← nfld_putFld_same (s.rn a) lo len v]
  apply Nat.eq_of_testBit_eq
  intro j
  unfold nfld
  rw [Nat.testBit_mod_two_pow, Nat.testBit_mod_two_pow, Nat.testBit_shiftRight, Nat.testBit_shiftRight, Nat.testBit_mod_two_pow]
  by_cases hj : j < len
  · have : lo + j < 32 := by omega
    simp [hj, this]
  · simp [hj]

/-! ## Plots -/

theorem State.plot_plotSet (s : State) (p q : Nat) (x : Plot) (h : s.memWf = true) :
    (s.plotSet p x).plot q = if q = p then x else s.plot q := by
  have hp : cellsWf {} s.plots = true := by simp only [State.memWf, Bool.and_eq_true] at h; exact h.1.2
  unfold State.plot State.plotSet
  split
  · rename_i e; subst e; exact Laws.cget_cset_same hp
  · rename_i e; exact Laws.cget_cset_ne e

/-- The record of a plot after it was changed. -/
theorem State.plot_onPlot (s : State) (p q : Nat) (f : Plot → Plot) (h : s.memWf = true) :
    (s.onPlot p f).plot q = if q = p then f (s.plot p) else s.plot q :=
  State.plot_plotSet s p q _ h

theorem State.onPlot_memWf (s : State) (p : Nat) (f : Plot → Plot) (h : s.memWf = true) : (s.onPlot p f).memWf = true := by
  simp only [State.memWf, Bool.and_eq_true] at h ⊢
  exact ⟨⟨h.1.1, Laws.cset_wf h.1.2⟩, h.2⟩

/-- The same without the canonical form, for a record that is not the empty one. -/
theorem State.plot_onPlot_same (s : State) (p : Nat) (f : Plot → Plot) (h : f (s.plot p) ≠ {}) :
    (s.onPlot p f).plot p = f (s.plot p) := by
  show cget {} (cset {} s.plots p (f (s.plot p))) p = _
  unfold cset
  rw [if_neg h]; exact Laws.cget_cput_same

theorem State.plot_onPlot_ne (s : State) (p q : Nat) (f : Plot → Plot) (h : q ≠ p) : (s.onPlot p f).plot q = s.plot q := by
  unfold State.onPlot State.plotSet State.plot; exact Laws.cget_cset_ne h

theorem State.tm_toHead (s : State) (p : Nat) (g : Stage) :
    ((s.toHead p g).plot p).tm = { (s.plot p).tm with phase := .head g } := by
  unfold State.toHead State.onTm
  rw [State.plot_onPlot_same]
  intro h; have := congrArg (fun x => x.tm.phase) h; simp at this

theorem State.atHead_toHead (s : State) (p : Nat) (g : Stage) : (s.toHead p g).atHead p g = true := by
  simp [State.atHead, State.tm_toHead]

/-! ## The other tables of records -/

theorem State.recs (s : State) (h : s.memWf = true) :
    cellsWf 0 s.copies = true ∧ cellsWf {} s.io.fio = true ∧ cellsWf {} s.io.sig = true ∧ cellsWf {} s.lnk.lanes = true ∧
      cellsWf {} s.lnk.ports = true ∧ cellsWf {} s.ft.ports = true := by
  simp only [State.memWf, State.recWf, Bool.and_eq_true] at h
  exact ⟨h.2.1.1.1.1.1, h.2.1.1.1.1.2, h.2.1.1.1.2, h.2.1.1.2, h.2.1.2, h.2.2⟩

theorem cget_cset [DecidableEq α] {d : α} {c : Cells α} {k j : Nat} {v : α} (h : cellsWf d c = true) :
    cget d (cset d c k v) j = if j = k then v else cget d c j := by
  split
  · rename_i e; subst e; exact Laws.cget_cset_same h
  · rename_i e; exact Laws.cget_cset_ne e

theorem State.copyRd_copyWr (s : State) (f a g b : Nat) (v : Word) (h : s.memWf = true) :
    (s.copyWr f a v).copyRd g b = if copyKey g b = copyKey f a then v else s.copyRd g b :=
  cget_cset (s.recs h).1

theorem State.fio_fioSet (s : State) (q r : Nat) (x : Fio) (h : s.memWf = true) :
    (s.fioSet q x).fio r = if r = q then x else s.fio r :=
  cget_cset (s.recs h).2.1

theorem State.sig_onSig (s : State) (u v : Nat) (f : Sig → Sig) (h : s.memWf = true) :
    (s.onSig u f).sig v = if v = u then f (s.sig u) else s.sig v :=
  cget_cset (s.recs h).2.2.1

theorem State.lane_onLane (s : State) (q i r j : Nat) (f : Lane → Lane) (h : s.memWf = true) :
    (s.onLane q i f).lane r j = if r * 9 + j = q * 9 + i then f (s.lane q i) else s.lane r j :=
  cget_cset (s.recs h).2.2.2.1

theorem State.port_onPort (s : State) (q r : Nat) (f : Port → Port) (h : s.memWf = true) :
    (s.onPort q f).port r = if r = q then f (s.port q) else s.port r :=
  cget_cset (s.recs h).2.2.2.2.1

theorem State.sync_onSync (s : State) (q r : Nat) (f : SyncPort → SyncPort) (h : s.memWf = true) :
    (s.onSync q f).sync r = if r = q then f (s.sync q) else s.sync r :=
  cget_cset (s.recs h).2.2.2.2.2

/-! ## Commands -/

@[simp] theorem Cmd.endAs_id (c : Cmd) (n status result : Nat) : (c.endAs n status result).id = c.id := rfl
@[simp] theorem Cmd.endAs_stage (c : Cmd) (n status result : Nat) : (c.endAs n status result).stage = .finished := rfl
@[simp] theorem Cmd.endAs_status (c : Cmd) (n status result : Nat) : (c.endAs n status result).status = status := rfl
@[simp] theorem Cmd.endAs_result (c : Cmd) (n status result : Nat) : (c.endAs n status result).result = result := rfl
@[simp] theorem Cmd.endAs_done (c : Cmd) (n status result : Nat) : (c.endAs n status result).done = n := rfl

/-- A command that has been finished. -/
theorem State.finish_ended (s : State) (id status result : Nat) (h : ∃ e ∈ s.cmd.store, e.id = id) :
    (s.finish id status result).ended id status result := by
  obtain ⟨e, he, hi⟩ := h
  refine ⟨⟨_, List.mem_map_of_mem he, ?_⟩, ?_⟩
  · simp [hi]
  · intro c hc hci
    obtain ⟨d, hd, rfl⟩ := List.mem_map.1 hc
    by_cases hdi : d.id = id
    · simp [hdi]
    · simp [hdi] at hci

theorem State.finishAt_ended (s : State) (id status result pos total : Nat) (h : ∃ e ∈ s.cmd.store, e.id = id) :
    (s.finishAt id status result pos total).ended id status result := by
  obtain ⟨e, he, hi⟩ := h
  refine ⟨⟨_, List.mem_map_of_mem he, ?_⟩, ?_⟩
  · simp [hi]
  · intro c hc hci
    obtain ⟨d, hd, rfl⟩ := List.mem_map.1 hc
    by_cases hdi : d.id = id
    · simp [hdi]
    · simp [hdi] at hci

/-- A command that a unit has taken is in the store. -/
theorem State.taken_mem (s : State) (opc id : Nat) (c : Cmd) (h : s.taken opc id = some c) : c ∈ s.cmd.store ∧ c.id = id := by
  unfold State.taken at h
  exact ⟨List.mem_of_find?_eq_some h, by have := List.find?_some h; simp at this; exact this.1.1.1⟩

end Sys2Proof.Machine
end

