-- ==== Sys2Proof/Laws/Time.lean ====
section
/-! SUPPORT. Time only moves on, and a wait reaches its instant (R274). -/

namespace Sys2Proof.Machine
open Sys2Proof

-- One proof at a time: proofs checked side by side take a stack each.
set_option Elab.async false

/-- A step always advances FT: ADJ is a 32-bit number of units of 2^-40 (R274). -/
theorem State.stepRate_pos (s : State) : 0 < s.stepRate := by
  unfold State.stepRate State.ftRate State.adj
  have h := BitVec.le_toInt (s.rg Reg.FT_ADJ)
  split <;> omega

theorem State.refSteps_pos (s : State) : 0 < s.refSteps := by unfold State.refSteps; split <;> decide

theorem State.rateSteps_ft_le (s : State) (n : Nat) : s.ft.ft ≤ (s.rateSteps n).ft.ft := Nat.le_add_right _ _

/-- The steps that `stepsTo` counts reach the instant. -/
theorem State.rateSteps_stepsTo (s : State) (ns : Nat) : ns * 2 ^ 32 ≤ (s.rateSteps (s.stepsTo ns)).ft.ft := by
  have hr := s.stepRate_pos
  have hq := s.refSteps_pos
  simp only [State.rateSteps]
  suffices h : ns * 2 ^ 32 - s.ft.ft ≤ (s.ft.rem + s.stepsTo ns * s.stepRate) / s.refSteps / 2 ^ 40 by omega
  rw [Nat.div_div_eq_div_mul, Nat.le_div_iff_mul_le (by positivity), State.stepsTo]
  have hc := Nat.lt_div_mul_add (a := (ns * 2 ^ 32 - s.ft.ft) * 2 ^ 40 * s.refSteps - s.ft.rem + s.stepRate - 1) hr
  rw [Nat.mul_comm s.refSteps, ← Nat.mul_assoc]
  omega

theorem State.msix_ft (s : State) (f v : Nat) : (s.msix f v).ft = s.ft := by
  simp only [State.msix]
  (repeat' split) <;> rfl

theorem State.devInt_ft (s : State) (b : Nat) : (s.devInt b).ft = s.ft := by
  simp only [State.devInt]
  (repeat' split) <;> simp only [State.msix_ft, State.setBit_ft]

theorem State.condition_ft (s : State) (b r k : Nat) : (s.condition b r k).ft = s.ft := by
  rw [State.condition, State.devInt_ft, State.setBit_ft]

theorem State.setAdj_ft (s : State) (x : Int) : (s.setAdj x).ft = s.ft := by
  simp only [State.setAdj]
  split <;> simp only [State.condition_ft, State.rgSet_ft]

theorem State.phaseEnds_ft (s : State) : s.phaseEnds.ft = { s.ft with phaseEnd := none } := by
  simp only [State.phaseEnds, State.setAdj_ft]

theorem State.phaseEnds_ft_ft (s : State) : s.phaseEnds.ft.ft = s.ft.ft := by rw [State.phaseEnds_ft]

theorem State.phaseEnds_phaseEnd (s : State) : s.phaseEnds.ft.phaseEnd = none := by rw [State.phaseEnds_ft]

theorem State.rateSteps_phaseEnd (s : State) (n : Nat) : (s.rateSteps n).ft.phaseEnd = s.ft.phaseEnd := rfl

/-- Steps taken where no phase term ends within them. -/
theorem State.tickSteps_none {s : State} (h : s.ft.phaseEnd = none) (n : Nat) : s.tickSteps n = s.rateSteps n := by
  rw [State.tickSteps, h]

theorem State.tickSteps_lt {s : State} {e : Int} {n : Nat} (h : s.ft.phaseEnd = some e) (hn : n < s.stepsTo e.toNat) :
    s.tickSteps n = s.rateSteps n := by
  rw [State.tickSteps, h]
  exact if_pos hn

/-- Steps taken across the end of a phase term. -/
theorem State.tickSteps_ge {s : State} {e : Int} {n : Nat} (h : s.ft.phaseEnd = some e) (hn : s.stepsTo e.toNat ≤ n) :
    s.tickSteps n = (s.rateSteps (s.stepsTo e.toNat)).phaseEnds.rateSteps (n - s.stepsTo e.toNat) := by
  rw [State.tickSteps, h]
  exact if_neg (Nat.not_lt.2 hn)

theorem State.tickSteps_ft_le (s : State) (n : Nat) : s.ft.ft ≤ (s.tickSteps n).ft.ft := by
  cases h : s.ft.phaseEnd with
  | none => exact (State.tickSteps_none h n).symm ▸ s.rateSteps_ft_le n
  | some e =>
    rcases Nat.lt_or_ge n (s.stepsTo e.toNat) with hn | hn
    · exact (State.tickSteps_lt h hn).symm ▸ s.rateSteps_ft_le n
    · rw [State.tickSteps_ge h hn]
      have h1 := s.rateSteps_ft_le (s.stepsTo e.toNat)
      rw [← (s.rateSteps (s.stepsTo e.toNat)).phaseEnds_ft_ft] at h1
      exact h1.trans (State.rateSteps_ft_le _ _)

theorem State.waitUntil_none {s : State} {ns : Nat} (hlt : s.ftNs < ns) (h : s.ft.phaseEnd = none) :
    s.waitUntil ns = (s.rateSteps 0).rateSteps ((s.rateSteps 0).stepsTo ns) := by
  rw [State.waitUntil, if_pos hlt, h]
  have h0 : (s.rateSteps 0).ft.phaseEnd = none := by rw [State.rateSteps_phaseEnd, h]
  rw [← State.tickSteps_none h0, ← State.tickSteps_none h]

theorem State.waitUntil_some {s : State} {ns : Nat} {e : Int} (hlt : s.ftNs < ns) (h : s.ft.phaseEnd = some e) :
    s.waitUntil ns = (s.tickSteps (min (s.stepsTo e.toNat) (s.stepsTo ns))).tickSteps
      ((s.tickSteps (min (s.stepsTo e.toNat) (s.stepsTo ns))).stepsTo ns) := by
  rw [State.waitUntil, if_pos hlt, h]

/-- FT never goes back while time passes. -/
theorem State.waitUntil_ft_le (s : State) (ns : Nat) : s.ft.ft ≤ (s.waitUntil ns).ft.ft := by
  rcases Nat.lt_or_ge s.ftNs ns with hlt | hge
  · cases h : s.ft.phaseEnd with
    | none =>
      rw [State.waitUntil_none hlt h]
      exact (s.rateSteps_ft_le 0).trans (State.rateSteps_ft_le _ _)
    | some e =>
      rw [State.waitUntil_some hlt h]
      exact (s.tickSteps_ft_le _).trans (State.tickSteps_ft_le _ _)
  · rw [State.waitUntil, if_neg (Nat.not_lt.2 hge)]

theorem State.waitUntil_mono (s : State) (ns : Nat) : s.ftNs ≤ (s.waitUntil ns).ftNs :=
  Nat.div_le_div_right (s.waitUntil_ft_le ns)

/-- A wait ends at its instant or later. -/
theorem State.waitUntil_reaches (s : State) (ns : Nat) : ns ≤ (s.waitUntil ns).ftNs := by
  rcases Nat.lt_or_ge s.ftNs ns with hlt | hge
  · rw [State.ftNs, Nat.le_div_iff_mul_le (by positivity)]
    cases he : s.ft.phaseEnd with
    | none =>
      rw [State.waitUntil_none hlt he]
      exact State.rateSteps_stepsTo _ ns
    | some e =>
      rw [State.waitUntil_some hlt he]
      rcases Nat.lt_or_ge (s.stepsTo ns) (s.stepsTo e.toNat) with hk | hk
      · rw [Nat.min_eq_right hk.le]
        refine le_trans ?_ (State.tickSteps_ft_le _ _)
        rw [State.tickSteps_lt he hk]
        exact s.rateSteps_stepsTo ns
      · have hn : (s.tickSteps (min (s.stepsTo e.toNat) (s.stepsTo ns))).ft.phaseEnd = none := by
          rw [Nat.min_eq_left hk, State.tickSteps_ge he (Nat.le_refl _), State.rateSteps_phaseEnd, State.phaseEnds_phaseEnd]
        rw [State.tickSteps_none hn]
        exact State.rateSteps_stepsTo _ ns
  · rw [State.waitUntil, if_neg (Nat.not_lt.2 hge)]
    exact hge

end Sys2Proof.Machine
end

