-- ==== Sys2Proof/Tests/Slice0.lean ====
section
/-! SUPPORT. Tests: the well-formedness checks refuse what they should, values worked out in the manual, and for every
statement concrete states and operands that meet its hypotheses. -/

namespace Sys2Proof.Tests
set_option Elab.async false
set_option maxRecDepth 20000
set_option synthInstance.maxSize 4096
set_option synthInstance.maxHeartbeats 200000
open Sys2Proof Sys2Proof.Machine

/-- Fields of registers written into a state: (address, bit, width, value). -/
def puts (l : List (Nat × Nat × Nat × Nat)) (s : State) : State := l.foldl (fun s e => s.put e.1 e.2.1 e.2.2.1 e.2.2.2) s

/-- Firmware running, HBM filled. -/
def up : State := puts [(Reg.SOW_BOOT_STAT, 28, 4, 3), (Reg.MEM_STAT, 0, 1, 1)] State.reset

/-- A plot of one furrow, one pseudo-channel, one Field I/O port, one signature unit and two pages, stopped at pass 7. -/
def plotA : Plot :=
  { id := { live := true, owner := 0, ptag := 5 }
    res := { furrows := [0, 1, 2, 3], pcs := [0], sigs := [0], fios := [0], map := [⟨0, 0, false⟩, ⟨1, 0, false⟩, ⟨2, 0, false⟩] }
    tm := { launched := true, pn := 7, cpn := 6, dpn := 6 } }

/-- Plot 0 is x, in a sow state. -/
def withPlot (sow : Nat) (x : Plot) (s : State) : State :=
  puts [(Reg.SOW_PLOT_STAT 0, 28, 4, sow), (Reg.PLT_PASS_CFG 0, 16, 11, 16), (Reg.PLT_PASS_CFG 0, 0, 3, 2)] (s.plotSet 0 x)

/-- Command 1 of function 0, being executed on a plot: its opcode and other dwords. -/
def aCmd (opc plot : Nat) (ws : List (Nat × Nat)) : Cmd :=
  { id := 1, func := 0, origin := .queue 0 0, stage := .executing, plot := plot
    words := (natsFrom 0 16).map fun k =>
      BitVec.ofNat 32 ((if k = 0 then opc * 2 ^ 24 else 0) + ((ws.filter fun e => e.1 == k).map (·.2)).sum)
    status := 0, result := 0, pos := 0, total := 0, told := 0, mark := 0, noTag := false }

/-- That command in the matching store. -/
def withCmd (opc plot : Nat) (ws : List (Nat × Nat)) (s : State) : State :=
  { s with cmd := { s.cmd with nextId := 2, store := [aCmd opc plot ws] } }

/-- The step of a plot's timetable. -/
def atPhase (ph : Phase) (x : Plot) : Plot := { x with tm := { x.tm with phase := ph } }

/-- A CTRL packet: dwords by index. -/
def pkt (ws : List (Nat × Nat)) : List Word :=
  (natsFrom 0 24).map fun k => BitVec.ofNat 32 ((ws.filter fun e => e.1 == k).map (·.2)).sum

/-- Bytes of host memory of function 0. -/
def withHost (addr : Nat) (bs : List Byte) (s : State) : State :=
  { s with host := { s.host with mem := csetList 0 s.host.mem addr bs } }

/-- Meets the hypotheses of StepRunsTheFrontCommand and QueueIsUsedUpFromTheFront and StepKeepsFusesAndCanonicalForm. -/
theorem witness_queue :
    let s1 : State := { up with pwr := { up.pwr with tripped := true } }
    let s2 : State := { up with pending := [Instr.vbatLost] }
    up.memWf = true ∧
    s1.pending = [] ∧
    s1.memWf = true ∧
    s1.pwr.tripped = true ∧
    up.pending = [] ∧
    up.pwr.tripped = false ∧
    s2.memWf = true ∧
    s2.pending ≠ [] := by decide +kernel

theorem witness_step : ∃ t, step { up with pending := [Instr.vbatLost] } = .next t := ⟨_, rfl⟩

theorem witness_exec : ∃ t, exec .vbatLost up = .next t := ⟨_, rfl⟩

/-- Meets the hypotheses of ProtectedStateIsProtected and OnlyTheNamedCommandsWrite. -/
theorem witness_protected :
    up.boot.lifecycle = 2 ∧
    up.svc.locked = true ∧
    Instr.vbatLost.opensMonitor = false ∧
    Instr.vbatLost.writesKeys = false ∧
    Instr.vbatLost.writesHostMemory = false ∧
    Instr.vbatLost.writesDesignMemory = false ∧
    Instr.vbatLost.writesScratchpad = false ∧
    Instr.vbatLost.writesBootWindow = false ∧
    Instr.vbatLost.movesPlotTime = false ∧
    Instr.vbatLost.movesResources = false ∧
    Instr.vbatLost.movesImage = false := by decide +kernel

/-- Plot 0 released, at a point of its timetable. -/
def rel (ph : Phase) : State := withPlot 5 (atPhase ph plotA) up

/-- Meets the hypotheses of PassAndHeadlandFollowTheTimetable. -/
theorem witness_timetable :
    let s1 : State := rel (.step 0)
    let s2 : State := rel (.step 15)
    s1.memWf = true ∧
    (s1.plot 0).tm.phase = .step 0 ∧
    0 + 1 < s1.passLen 0 ∧
    (s2.plot 0).tm.phase = .step 15 ∧
    ¬ 15 + 1 < s2.passLen 0 ∧
    (rel (.head .commit)).atHead 0 .commit = true ∧
    (rel (.head .latch)).atHead 0 .latch = true ∧
    (rel (.head .release)).atHead 0 .release = true ∧
    (rel (.head .mark)).atHead 0 .mark = true ∧
    (rel (.head .apply)).atHead 0 .apply = true ∧
    (rel (.head .flush)).atHead 0 .flush = true := by decide +kernel

/-- Plot 0 at the decision of pass 7 - 2, the pass clear or charged. -/
def deciding (flags : List Nat) (dpn : Nat) : State :=
  let x := atPhase (.head .commit) plotA
  withPlot 5 { x with cmt := { x.cmt with flags := flags }, tm := { x.tm with dpn := dpn, cpn := 5 } } up

/-- Plot 0 at a part of its headland, with what the headland carries. -/
def inHead (g : Stage) (hl : Headland) (f : Plot → Plot := id) : State :=
  let x := atPhase (.head g) plotA
  withPlot 5 (f { x with tm := { x.tm with hl := hl } }) up

/-- Meets the hypotheses of DecisionCommitsOrFails. -/
theorem witness_decision :
    let s1 : State := deciding [] 5
    let s2 : State := deciding [5] 5
    let s3 : State := deciding [] 6
    s1.memWf = true ∧
    s1.atHead 0 .commit = true ∧
    s1.dlag 0 ≤ (s1.plot 0).tm.pn ∧
    (s1.plot 0).tm.dpn ≤ (s1.plot 0).tm.pn - s1.dlag 0 ∧
    (s2.plot 0).cmt.flags.contains (7 - s2.dlag 0) = true ∧
    s2.atHead 0 .commit = true ∧
    ¬ (s3.plot 0).tm.dpn ≤ (s3.plot 0).tm.pn - s3.dlag 0 := by decide +kernel

/-- Meets the hypotheses of HeadlandLatchesMarksAndReleases. -/
theorem witness_headland :
    let s1 : State := inHead .release {}
    let s2 : State := inHead .apply { fail := true }
    let s3 : State := inHead .latch {}
    s3.atHead 0 .latch = true ∧
    0 ∈ (s3.plot 0).res.fios ∧
    (inHead .mark {}).atHead 0 .mark = true ∧
    s1.memWf = true ∧
    s1.atHead 0 .release = true ∧
    (s1.plot 0).tm.hl.commit = false ∧
    (∀ q ∈ (s1.plot 0).res.fios, s1.fioDirect q = false) ∧
    s2.memWf = true ∧
    s2.atHead 0 .apply = true ∧
    (s2.plot 0).tm.hl.fail = true := by decide +kernel

/-- A stake of plot 0 with one slice taken, of four. -/
def staking (x : Plot) : Plot :=
  { x with cmt := { x.cmt with stake := some ⟨⟨4, [], [], [], [], [], []⟩, 1, 0, false⟩ } }

/-- Plot 0 at the check, its stretch table holding a level for the pass. -/
def stretched (x : Plot) : Plot := { x with tm := { x.tm with stretch := [(7, 2)] } }

/-- Refresh is enabled for plot 0 and due. -/
def refreshDue (s : State) : State := puts [(Reg.PLT_HL_CFG 0, 31, 1, 1)] s

def fourSlices (s : State) : State := puts [(Reg.PLT_STAKE_CFG 0, 0, 16, 4)] s

/-- Meets the hypotheses of ExtensionsFollowAndThePassGoesOn. -/
theorem witness_extensions :
    let s1 : State := inHead .stake { stretch := 1 } staking
    let s2 : State := inHead .refresh { replay := true }
    let s3 : State := inHead .check { replay := true }
    let s4 : State := inHead .check {} stretched
    let s5 : State := inHead .check {}
    let s6 : State := inHead .check {} staking
    (refreshDue s5).memWf = true ∧
    (refreshDue s5).atHead 0 .check = true ∧
    ((refreshDue s5).refreshPlan 0 {}).1 = true ∧
    (s3.refreshPlan 0 { replay := true }).1 = false ∧
    (s3.plot 0).tm.hl.replay = true ∧
    (s6.plot 0).cmt.stake.isSome = true ∧
    (s6.refreshPlan 0 { stake := true }).1 = false ∧
    s4.stretchOf 0 7 ≠ 0 ∧
    (s4.refreshPlan 0 { stretch := 2 }).1 = false ∧
    s2.atHead 0 .refresh = true ∧
    (s2.plot 0).res.pcs.Nodup ∧
    0 ∈ (s2.plot 0).res.pcs ∧
    ((inHead .refresh { stake := true }).plot 0).tm.hl.stake = true ∧
    ((inHead .refresh { stretch := 1 }).plot 0).tm.hl.stretch ≠ 0 ∧
    (inHead .replay { stake := true }).atHead 0 .replay = true ∧
    ((inHead .replay { stretch := 1 }).plot 0).tm.hl.stretch ≠ 0 ∧
    (fourSlices s1).memWf = true ∧
    (fourSlices s1).atHead 0 .stake = true ∧
    ((fourSlices s1).plot 0).cmt.stake = some ⟨⟨4, [], [], [], [], [], []⟩, 1, 0, false⟩ ∧
    1 + 1 < (fourSlices s1).fld (Reg.PLT_STAKE_CFG 0) 0 16 ∧
    ((fourSlices s1).plot 0).tm.hl.stretch ≠ 0 := by decide +kernel

/-- Pass 5 was discarded at the headland of pass 7. -/
def discarded (x : Plot) : Plot := { x with cmt := { x.cmt with discarded := some (5, 7) } }

/-- Meets the hypotheses of ExtensionsFollowAndThePassGoesOn. -/
theorem witness_next_pass :
    let s1 : State := inHead .replay { replay := true } discarded
    let s2 : State := inHead .refresh {}
    s2.memWf = true ∧
    (s2.plot 0).tm.hl.hold = false ∧
    (s2.plot 0).tm.hl.stop = false ∧
    (s2.plot 0).tm.hl.div = false ∧
    s2.atHead 0 .refresh = true ∧
    ((s2.plot 0).tm.hl.replay = false ∧ (s2.plot 0).tm.hl.stake = false ∧ (s2.plot 0).tm.hl.stretch = 0) ∧
    s1.memWf = true ∧
    ((s1.plot 0).tm.hl.hold = false ∧ (s1.plot 0).tm.hl.stop = false ∧ (s1.plot 0).tm.hl.div = false) ∧
    ((s1.plot 0).tm.hl.stake = false ∧ (s1.plot 0).tm.hl.stretch = 0) ∧
    (s1.plot 0).cmt.discarded = some (5, (s1.plot 0).tm.pn) ∧
    5 ≤ (s1.plot 0).tm.pn ∧
    s1.atHead 0 .replay = true ∧
    (inHead .stretch {}).atHead 0 .stretch = true := by decide +kernel

/-- Plot 0 with a start pending, of a launch or of a wake. -/
def starting (kind : Nat) : State := withPlot 5 { plotA with id := { plotA.id with startAt := some (0, 0, kind) } } up

/-- Plot 0 in a hold. -/
def holding (recovery : Bool) (sent : Option Nat) (resume : Option (Nat × Nat)) : State :=
  withPlot 5 { plotA with cmt := { plotA.cmt with hold := some ⟨recovery, 5, 5, 0, 0, false, sent, [], [], none, none⟩, resume := resume } } up

/-- The copy of the state before pass 5. -/
def pointAt5 : StakeCopy := ⟨5, [], [], [], [], [], []⟩

/-- A recovery hold of plot 0 whose recovery point is pass 5, Field Time locked. -/
def pointed : State :=
  puts [(Reg.PLT_STAKE_STAT 0, 31, 1, 1), (Reg.PLT_CMT_CFG 0, 4, 1, 1), (Reg.FT_STAT, 28, 4, 2)]
    ((holding true none none).onCmt 0 fun c => { c with area0 := some pointAt5 })

/-- Meets the hypotheses of StartsAndHoldsGoOn: a heal and a recovery whose work ends well, and each that fails. -/
theorem witness_holds :
    let h1 : Hold := ⟨false, 5, 5, 0, 0, false, none, [], [], none, none⟩
    let h2 : Hold := ⟨true, 5, 5, 0, 0, false, none, [], [], none, none⟩
    let s1 : State := puts [(Reg.FT_STAT, 28, 4, 2)] (holding false none none)
    let acts := ((pointed.lateApply 0).chargeRecs 0 []).takeActions 0 [] h2.lanes
    s1.memWf = true ∧
    (s1.plot 0).cmt.hold = some h1 ∧
    s1.ftLocked = true ∧
    (∀ r ∈ h1.ready, r.2.2 = false) ∧
    (holding false none none).ftLocked = false ∧
    pointed.memWf = true ∧
    (pointed.plot 0).cmt.hold = some h2 ∧
    ((pointed.plot 0).cmt.charges.filter fun c => c.pn == h2.k) = [] ∧
    (true && acts.2.2 && !h2.failed && pointed.ftLocked && pointed.bit (Reg.PLT_CMT_CFG 0) 4 && !pointed.slotsLost 0) = true ∧
    pointed.pointCopy 0 = some pointAt5 ∧
    (∀ r ∈ h2.ready, r.2.1 = pointAt5.pn ∧ r.2.2 = false) ∧
    ((holding true none none).plot 0).cmt.hold = some h2 ∧
    (holding true none none).ftLocked = false ∧
    (s1.plot 0).cmt.stopNow = false ∧
    (((holding true (some 0) (some (5, 0))).onCmt 0 fun c => { c with stopNow := true }).plot 0).cmt.stopNow = true := by
  decide +kernel

/-- Meets the hypotheses of StartsAndHoldsGoOn. -/
theorem witness_starts :
    let s1 : State := holding true (some 0) (some (5, 0))
    let s2 : State := holding true none none
    (starting 0).memWf = true ∧
    ((starting 0).plot 0).id.startAt = some (0, 0, 0) ∧
    ((starting 1).plot 0).id.startAt = some (0, 0, 1) ∧
    s1.memWf = true ∧
    (s1.plot 0).cmt.hold = some ⟨true, 5, 5, 0, 0, false, some 0, [], [], none, none⟩ ∧
    (s1.plot 0).cmt.resume = some (5, 0) ∧
    (s2.plot 0).cmt.resume = none ∧
    (s2.plot 0).cmt.hold = some ⟨true, 5, 5, 0, 0, false, none, [], [], none, none⟩ ∧
    ((holding false none none).plot 0).cmt.hold = some ⟨false, 5, 5, 0, 0, false, none, [], [], none, none⟩ ∧
    ((starting 0).plot 0).cmt.hold = none := by decide +kernel

/-- A scheduled HBM read of plot 0, issued in pass 7 for step 3, answered by the write queue. -/
def aRead (vals : Option (List Val)) (delivered : Bool) : HbmRead :=
  ⟨0, 0, 0, 0, 7, 7, 3, 8, true, some [0x55, 1], [true], vals, delivered⟩

/-- Plot 0 at step 3 of pass 7 with that read and a furrow RAM read due. -/
def reading (vals : Option (List Val)) (delivered : Bool) : State :=
  let s := rel (.step 3)
  { s with hbm := { s.hbm with reads := [aRead vals delivered] },
           fur := { s.fur with ramReads := [⟨0, 0, 7, 3, 0, [.v1, .v0, .vx, .vz]⟩] } }

/-- Meets the hypotheses of ReadsReturnAndAreDelivered. -/
theorem witness_reads :
    let s1 : State := reading none false
    s1.hbm.reads[0]? = some (aRead none false) ∧
    (aRead none false).vals = none ∧ (aRead none false).delivered = false ∧
    (aRead none false).word ≠ none ∧
    (let s2 : State := { s1 with hbm := { s1.hbm with reads := [{ aRead none false with word := none }] } }
     s2.hbm.reads[0]? = some { aRead none false with word := none }) ∧
    (∀ i, i < (if (aRead none false).twoVal then 1 else 2) → (aRead none false).forwarded[i]? = some true) ∧
    cellsWf .vx s1.fur.memRet = true ∧
    ((aRead none false).plot = 0 ∧ (aRead none false).pn = (s1.plot 0).tm.pn ∧ (aRead none false).pc < 64) ∧
    (∀ j q, j ≠ 0 → s1.hbm.reads[j]? = some q → False) ∧
    (reading (some []) false).hbm.reads[0]? = some (aRead (some []) false) ∧
    (reading none true).hbm.reads[0]? = some (aRead none true) ∧
    (s1.plot 0).tm.phase = .step 3 ∧
    (let s3 : State := { s1 with hbm := { s1.hbm with reads := [] } }
     s3.fur.ramReads.filter fun q => q.due == 3 && q.pn == (s3.plot 0).tm.pn && (s3.plot 0).res.furrows.contains q.furrow &&
       !(s3.hbm.reads.any fun h => h.furrow == q.furrow && h.pn == q.pn && h.step == 3)) = [⟨0, 0, 7, 3, 0, [.v1, .v0, .vx, .vz]⟩] ∧
    (∀ q ∈ s1.fur.ramReads, q.phys = 0 → q = ⟨0, 0, 7, 3, 0, [.v1, .v0, .vx, .vz]⟩) ∧
    ((rel .stopped).plot 0).tm.phase = .stopped := by
  refine ⟨by decide, by decide, by decide, by decide, by decide, by decide, by decide +kernel, by decide +kernel, ?_, by decide, by decide, by decide +kernel,
    by decide +kernel, by decide +kernel, by decide +kernel⟩
  intro j q hj hq
  cases j with
  | zero => exact hj rfl
  | succ j => exact absurd hq (by simp [reading])

/-- Two entries of the write queue of pseudo-channel 0, the second one committed. -/
def queued : State :=
  { up with hbm := { up.hbm with wq := [⟨0, 0, 16, [1, 2], 7, 0, 0, false, false⟩, ⟨0, 0, 32, [3, 4], 5, 0, 0, true, false⟩] } }

/-- Meets the hypotheses of ControllersDrainRefreshAndPatrol. -/
theorem witness_controllers :
    up.memWf = true ∧
    (∀ e ∈ up.hbm.wq, ¬ (e.pc = 0 ∧ e.committed = true)) ∧
    queued.memWf = true ∧
    queued.drainHeld 0 = false ∧
    (puts [(Reg.PLT_HL_CFG 0, 31, 1, 1), (Reg.PLT_HL_CFG 0, 8, 6, 1)] (rel (.step 15))).memWf = true ∧
    (rel (.step 3)).holder Res.pcs 0 = some 0 ∧
    (rel (.step 3)).plotRuns 0 = true ∧
    (State.reset.hbm.failed = false ∧ State.reset.memWf = true) ∧
    ((up.hbmMarkSet 0 1).hbmMark 0 = 1 ∧ (up.hbmMarkSet 0 1).memWf = true ∧ cellsWf 0 (up.hbmMarkSet 0 1).ecc = true) ∧
    ((up.hbmMarkSet 0 2).hbmMark 0 = 2 ∧ cellsWf 0 (up.hbmMarkSet 0 2).ecc = true ∧ up.inject = []) ∧
    up.rn64 Reg.GLN_HBM_POS_LO < hbmBytes ∧
    queued.hbm.wq = [⟨0, 0, 16, [1, 2], 7, 0, 0, false, false⟩] ++ ⟨0, 0, 32, [3, 4], 5, 0, 0, true, false⟩ :: [] ∧
    queued.fld (Reg.PLT_HL_CFG 0) 8 6 = 0 ∧
    up.holder Res.pcs 0 = none ∧
    up.hbm.selfRefresh = false ∧
    State.reset.bit Reg.MEM_STAT 0 = false ∧
    (puts [(Reg.MEM_PC_REMAP 63 31, 31, 1, 1)] up).bit (Reg.MEM_PC_REMAP 63 31) 31 = true ∧
    up.holder Res.pcs 63 = none ∧
    up.fld Reg.GLN_HBM_RATE 0 16 ≠ 0 ∧
    (up.gln.upset = [] ∧ up.accessHeld 0 = false) ∧
    (let s1 := puts [(Reg.PLT_HL_CFG 0, 31, 1, 1), (Reg.PLT_HL_CFG 0, 8, 6, 1)] (rel (.step 15))
     s1.gln.upset = [] ∧ s1.inject = [] ∧ s1.accessHeld 0 = true) ∧
    ((up.hbmMarkSet 0 3).hbmMark 0 = 3 ∧ cellsWf 0 (up.hbmMarkSet 0 3).ecc = true) ∧
    State.reset.fld Reg.SOW_BOOT_STAT 28 4 = 0 ∧
    up.pwrState = 0 ∧
    up.hbmStatus = 0 ∧
    pcOf (up.rn64 Reg.GLN_HBM_POS_LO) = 0 := by decide +kernel

/-- Meets the hypotheses of ClearRegistersClearCounterAndOverflow. -/
theorem witness_clear_registers :
    up.hostDown 0 = false ∧
    (up.gate 0 (Reg.FUR_SW_CE_CNT_CLR 3)).isRight = true ∧
    (findCnt CntRow.clr (Reg.FUR_SW_CE_CNT_CLR 3) cntRows).isSome = true ∧
    (up.gate 0 (Reg.LNK_LANE_PRBS_BITS_CLR 15 8)).isRight = true ∧
    findCnt CntRow.clr (Reg.LNK_LANE_PRBS_BITS_CLR 15 8) cntRows = none ∧
    bitsClrOf (Reg.LNK_LANE_PRBS_BITS_CLR 15 8) = some (15, 8) := by decide +kernel

/-- Meets the hypotheses of ProtocolCommandsAnswer. -/
theorem witness_protocol :
    let c1 : Cmd := aCmd 0x02 255 [(6, 0x0100), (7, 0)]
    let s1 : State := withCmd 0x02 255 [(6, 0x0101), (7, 0x0100)] up
    let c2 : Cmd := aCmd 0xc0 255 [(6, 0)]
    let s2 : State := withCmd 0x02 255 [(6, 0x0100), (7, 0)] up
    let c3 : Cmd := aCmd 0x02 255 [(6, 0x0101), (7, 0x0100)]
    let c4 : Cmd := aCmd 0x01 0 [(6, 0x11), (0, 0x100000)]
    let c5 : Cmd := aCmd 0x01 0 [(6, 0x0), (0, 0x100000)]
    let c6 : Cmd := aCmd 0x01 0 [(6, 0x1), (0, 0x100000)]
    let c7 : Cmd := aCmd 0x01 0 [(6, 0x5), (0, 0x100000)]
    let c8 : Cmd := aCmd 0xc0 255 [(6, 5)]
    let s3 : State := withCmd 0xc0 255 [(6, 0)] up
    let s4 : State := withCmd 0xc0 255 [(6, 5)] up
    let s5 : State := withCmd 0x00 255 [] up
    s5.memWf = true ∧
    s5.taken 0x00 1 = some (aCmd 0x00 255 []) ∧
    (withCmd 0x01 0 [(6, 0x0), (0, 0x100000)] up).taken 0x01 1 = some c5 ∧
    c5.paramsOk = true ∧
    (withCmd 0x01 0 [(6, 0x1), (0, 0x100000)] up).taken 0x01 1 = some c6 ∧
    c6.paramsOk = true ∧
    (withCmd 0x01 0 [(6, 0x5), (0, 0x100000)] up).taken 0x01 1 = some c7 ∧
    c7.paramsOk = true ∧
    (withCmd 0x01 0 [(6, 0x11), (0, 0x100000)] up).taken 0x01 1 = some c4 ∧
    c4.paramsOk = true ∧
    (∀ k ∈ [0x2, 0x3, 0x4, 0x10], (withCmd 0x01 0 [(6, k), (0, 0x100000)] up).taken 0x01 1 = some (aCmd 0x01 0 [(6, k), (0, 0x100000)]) ∧
      (aCmd 0x01 0 [(6, k), (0, 0x100000)]).paramsOk = true ∧ nfld ((aCmd 0x01 0 [(6, k), (0, 0x100000)]).dw 6) 0 16 = k) ∧
    s2.taken 0x02 1 = some c1 ∧
    s2.bit (Reg.CMD_FUNC_CFG 0) 23 = false ∧
    nfld (c1.dw 7) 8 8 ≤ 1 ∧
    1 ≤ nfld (c1.dw 6) 8 8 ∧
    s1.taken 0x02 1 = some c3 ∧
    nfld (c3.dw 7) 8 8 ≤ 1 ∧
    s1.heldBy 0 = 1 ∧
    s3.taken 0xc0 1 = some c2 ∧
    (s3.cmd.store.find? fun d => d.space == c2.space && d.tag == nfld (c2.dw 6) 0 16 && !d.noTag) = some c2 ∧
    s4.taken 0xc0 1 = some c8 ∧
    ∀ d ∈ s4.cmd.store, d.space = c8.space → d.tag = nfld (c8.dw 6) 0 16 → d.noTag = true := by decide +kernel

/-- Plot 0 in a sow state, stopped. -/
def sowAt (n : Nat) : State := withPlot n plotA up

/-- All 32 remap entries of a pseudo-channel but the last are in use. -/
def remapped (n : Nat) : State := puts ((natsFrom 0 n).map fun k => (Reg.MEM_PC_REMAP 63 k, 31, 1, 1)) up

/-- Meets the hypotheses of TimeAndRemapCommandsTakeEffect. -/
theorem witness_time_commands :
    let s1 : State := withCmd 0x91 255 [(6, 63), (7, 0x210123)] (remapped 31)
    let s2 : State := withCmd 0x81 255 [(7, 1000), (9, 3)] (puts [(Reg.FT_STAT, 8, 8, 0)] up)
    let c1 : Cmd := aCmd 0x91 255 [(6, 63), (7, 0x210123)]
    let c2 : Cmd := aCmd 0x80 255 [(6, 4), (9, 5)]
    let s3 : State := withCmd 0x81 255 [] (sowAt 5)
    let s4 : State := withCmd 0x80 255 [(6, 4), (9, 5)] (sowAt 5)
    let s5 : State := withCmd 0x91 255 [(6, 63)] (remapped 32)
    let c3 : Cmd := aCmd 0x81 255 [(7, 1000), (9, 3)]
    let c4 : Cmd := aCmd 0x80 255 [(6, 2), (8, 77)]
    let c5 : Cmd := aCmd 0x91 255 [(6, 63)]
    s3.memWf = true ∧
    s3.taken 0x81 1 = some (aCmd 0x81 255 []) ∧
    s3.anyReleased = true ∧
    s2.taken 0x81 1 = some c3 ∧
    s2.anyReleased = false ∧
    (c3.dw 6).testBit 0 = false ∧
    ((aCmd 0x81 255 [(6, 1), (7, 1000)]).dw 6).testBit 0 = true ∧
    ((withCmd 0x81 255 [(6, 1), (7, 1000)] up).taken 0x81 1 = some (aCmd 0x81 255 [(6, 1), (7, 1000)]) ∧
      (withCmd 0x81 255 [(6, 1), (7, 1000)] up).anyReleased = false) ∧
    (s2.isGm = true ∧ up.isGm = false) ∧
    (withCmd 0x80 255 [(6, 2), (8, 77)] up).taken 0x80 1 = some c4 ∧
    (c4.dw 6).testBit 1 = true ∧
    s4.taken 0x80 1 = some c2 ∧
    (c2.dw 6).testBit 2 = true ∧
    s4.fld Reg.FT_PPS_OFS 0 32 ≠ nfld (c2.dw 9) 0 32 ∧
    s1.taken 0x91 1 = some c1 ∧
    s1.hbmStatus = 0 ∧
    (∀ j ∈ natsFrom 0 31, s1.bit (Reg.MEM_PC_REMAP (nfld (c1.dw 6) 0 6) j) 31 = true) ∧
    s1.bit (Reg.MEM_PC_REMAP (nfld (c1.dw 6) 0 6) 31) 31 = false ∧
    s5.taken 0x91 1 = some c5 ∧
    ∀ j ∈ natsFrom 0 32, s5.bit (Reg.MEM_PC_REMAP (nfld (c5.dw 6) 0 6) j) 31 = true := by decide +kernel

/-- Meets the hypotheses of PlotsAreCreatedAndGranted. -/
theorem witness_plot_create :
    let c1 : Cmd := aCmd 0x13 0 [(6, 0), (7, 127), (8, 1)]
    let c2 : Cmd := aCmd 0x13 1 [(6, 0), (7, 0), (8, 1)]
    let s1 : State := withCmd 0x13 0 [(6, 0), (7, 127), (8, 1)] (sowAt 0)
    let s2 : State := withCmd 0x10 15 [(6, 0x70000)] up
    let s3 : State := withCmd 0x13 1 [(6, 0), (7, 0), (8, 1)] (sowAt 0)
    let c3 : Cmd := aCmd 0x10 15 [(6, 0x70000)]
    let s4 : State := withCmd 0x10 0 [(6, 0x70000)] (sowAt 0)
    s2.memWf = true ∧
    s2.taken 0x10 1 = some c3 ∧
    c3.dw 6 / 65536 ≠ 0 ∧
    s2.enabledFn (nfld (c3.dw 6) 0 6) = true ∧
    (s2.plot 15).id.live = false ∧
    s2.plotByTag (c3.dw 6 / 65536) = none ∧
    s4.taken 0x10 1 = some (aCmd 0x10 0 [(6, 0x70000)]) ∧
    (s4.plot 0).id.live = true ∧
    s1.taken 0x13 1 = some c1 ∧
    (c1.dw 6).testBit 8 = false ∧
    c1.grantOk = true ∧
    s1.grantState 0 c1.grant.1 = true ∧
    c1.grant.1 ∈ [0, 1, 2, 3, 4, 5, 6, 8] ∧
    (∀ i ∈ kindItems c1.grant.1 c1.grant.2.1 c1.grant.2.2, s1.ownerOf c1.grant.1 i = none ∧ s1.filling c1.grant.1 i = false ∧
      s1.pcExcluded 0 c1.grant.1 i = false) ∧
    (s1.plot 0).id.live = true ∧
    s3.taken 0x13 1 = some c2 ∧
    c2.grantOk = true ∧
    s3.grantState 1 c2.grant.1 = true ∧
    0 ∈ kindItems c2.grant.1 c2.grant.2.1 c2.grant.2.2 ∧
    s3.ownerOf c2.grant.1 0 = some 0 ∧
    (let c4 : Cmd := aCmd 0x13 0 [(6, 4), (7, 62), (8, 1)]
     let s5 := withCmd 0x13 0 [(6, 4), (7, 62), (8, 1)]
       (let s := sowAt 0; { s with tile := { s.tile with zero := [⟨4, 62⟩] } })
     s5.memWf = true ∧ s5.taken 0x13 1 = some c4 ∧ c4.grantOk = true ∧ s5.grantState 0 4 = true ∧ c4.grant.1 = 4 ∧
      62 ∈ kindItems 4 c4.grant.2.1 c4.grant.2.2 ∧ s5.filling 4 62 = true) ∧
    (let c5 : Cmd := aCmd 0x13 0 [(6, 7), (7, 2046), (8, 1)]
     let s6 := withCmd 0x13 0 [(6, 7), (7, 2046), (8, 1)] (sowAt 0)
     let s7 := puts [(Reg.XCH_RGN_CFG 0, 0, 11, 1)] s6
     s6.memWf = true ∧ s6.taken 0x13 1 = some c5 ∧ c5.grantOk = true ∧ s6.grantState 0 7 = true ∧ c5.grant.1 = 7 ∧
      (s6.xtRegion 0).2 = 0 ∧ s6.xtFree c5.grant.2.1 c5.grant.2.2 = true ∧ s7.taken 0x13 1 = some c5 ∧ (s7.xtRegion 0).2 ≠ 0) ∧
    (let s8 := withCmd 0x13 0 [(6, 0), (7, 127), (8, 1)] (sowAt 5)
     s8.memWf = true ∧ s8.taken 0x13 1 = some c1 ∧ s8.grantState 0 c1.grant.1 = false) := by decide +kernel

/-- Meets the hypotheses of PlotsAreCreatedAndGranted: a page of the pseudo-channel of another plot is kept from plot 1 (R132). -/
theorem witness_grant_excluded : (sowAt 0).pcExcluded 1 3 383 = true := by
  have h : (sowAt 0).holder Res.pcs (383 / 384) = some 0 := by decide +kernel
  simp [State.pcExcluded, h]

/-- Plot 0 is being destroyed for command 1. -/
def destroying : State := withCmd 0x11 0 [] (let s := sowAt 0; { s with tile := { s.tile with destroying := [(0, 1)] } })

/-- Meets the hypotheses of PlotsAreRevokedResetAndDestroyed. -/
theorem witness_plot_destroy :
    let c1 : Cmd := aCmd 0x13 0 [(6, 0x101), (7, 0), (8, 1)]
    let s1 : State := withCmd 0x13 0 [(6, 0x101), (7, 0), (8, 1)] (withPlot 0 { plotA with res := { plotA.res with ports := [0] } } up)
    let s2 : State := withCmd 0x14 0 [] (sowAt 5)
    s1.memWf = true ∧
    0 < 16 ∧
    s1.taken 0x13 1 = some c1 ∧
    (c1.dw 6).testBit 8 = true ∧
    c1.grantOk = true ∧
    c1.grant.1 ≠ 7 ∧
    (∀ i ∈ kindItems c1.grant.1 c1.grant.2.1 c1.grant.2.2, s1.ownerOf c1.grant.1 i = some 0) ∧
    s1.revokeBusy 0 c1.grant.1 (kindItems c1.grant.1 c1.grant.2.1 c1.grant.2.2) = false ∧
    (withPlot 3 { plotA with res := { plotA.res with ports := [0] } } up).revokeBusy 0 1 [0] = true ∧
    (∀ ws ∈ [[(6, 0x100), (7, 0), (8, 1)], [(6, 0x103), (7, 2), (8, 1)]],
      let c2 := aCmd 0x13 0 ws
      let s3 := withCmd 0x13 0 ws (sowAt 0)
      s3.taken 0x13 1 = some c2 ∧ c2.grantOk = true ∧ s3.hbmStatus = 0 ∧
        (∀ i ∈ kindItems c2.grant.1 c2.grant.2.1 c2.grant.2.2, s3.ownerOf c2.grant.1 i = some 0) ∧
        s3.revokeBusy 0 c2.grant.1 (kindItems c2.grant.1 c2.grant.2.1 c2.grant.2.2) = false) ∧
    (puts [(Reg.MEM_STAT, 0, 1, 0)] (sowAt 0)).hbmStatus ≠ 0 ∧
    (let c3 := aCmd 0x13 0 [(6, 0x107), (7, 2046), (8, 1)]
     let s4 := withCmd 0x13 0 [(6, 0x107), (7, 2046), (8, 1)] (puts [(Reg.XCH_RGN_CFG 0, 0, 11, 1), (Reg.XCH_RGN_CFG 0, 16, 11, 2046)] (sowAt 0))
     s4.memWf = true ∧ s4.taken 0x13 1 = some c3 ∧ c3.grantOk = true ∧ s4.xtRegion 0 = c3.grant.2 ∧
      s4.revokeBusy 0 7 (kindItems 7 c3.grant.2.1 c3.grant.2.2) = false ∧ s4.hbmStatus = 0) ∧
    s2.taken 0x14 1 = some (aCmd 0x14 0 []) ∧
    s2.ckptBusy 0 = false ∧
    (let s5 : State := { s2 with cmd := { s2.cmd with store := s2.cmd.store ++ [{ aCmd 0x51 0 [] with id := 2 }] } }
     s5.memWf = true ∧ s5.taken 0x14 1 = some (aCmd 0x14 0 []) ∧ s5.ckptBusy 0 = true ∧ ((aCmd 0x14 0 []).dw 0).testBit 16 = false) ∧
    (withCmd 0x11 0 [] (sowAt 0)).taken 0x11 1 = some (aCmd 0x11 0 []) ∧
    (withCmd 0x11 0 [] (sowAt 0)).hbmStatus = 0 ∧
    (sowAt 0).holdsHbm 0 = true ∧
    destroying.memWf = true ∧
    destroying.tile.destroying.find? (fun e => e.1 == 0) = some (0, 1) ∧
    destroying.tile.destroying.find? (fun e => e.1 == 1) = none ∧
    ∃ e ∈ destroying.cmd.store, e.id = 1 := by decide +kernel

/-- A segment of 16 body bytes, its tag as given: kind, index, tag. -/
def segBytes (kind idx : Nat) (tag : List Byte) : List Byte :=
  leBytes 4 0x4e534650 ++ [0, 1, BitVec.ofNat 8 kind, 255] ++ leBytes 4 idx ++ leBytes 4 2 ++ leBytes 4 16 ++ leBytes 12 9 ++ leBytes 8 3 ++
    List.replicate 24 0 ++ (List.replicate 8 0 ++ [1] ++ List.replicate 7 0) ++ tag

/-- Plot 0 is SOWING a part of two segments with image identifier 3, in the FACTORY lifecycle; a segment stands in host memory. -/
def sowingSegment (tag : List Byte) : State :=
  let x := { plotA with img := { plotA.img with header := List.replicate 128 0, imgid := 3, keyslot := 255,
                                                shadow := [⟨0, 1, 0, []⟩] } }
  let s := puts [(Reg.SOW_PLOT_SEG 0, 16, 16, 2)] (withPlot 1 x up)
  withHost 4096 (segBytes 14 1 tag) { s with boot := { s.boot with lifecycle := 0 } }

/-- The segment's tag under the factory key. -/
def goodTag : List Byte := [94, 107, 9, 174, 154, 152, 75, 253, 35, 6, 18, 134, 12, 203, 179, 62]

/-- Meets the hypotheses of SowingTakesSegments. -/
theorem witness_sowing :
    let s1 : State := withCmd 0x20 0 [(6, 3)] (sowAt 0)
    let s2 : State := withCmd 0x20 0 [] (sowAt 1)
    let s3 : State := withCmd 0x23 0 [] (sowAt 2)
    let s4 : State := withCmd 0x23 0 [] (sowAt 3)
    let c1 : Cmd := aCmd 0x23 0 []
    s1.memWf = true ∧
    (s1.host.refused = [] ∧ s1.host.withdrawn = []) ∧
    s1.taken 0x20 1 = some (aCmd 0x20 0 [(6, 3)]) ∧
    s1.sow 0 ≠ Sow.sowing ∧
    s1.sow 0 ≠ Sow.releasing ∧
    s1.ckptBusy 0 = false ∧
    s1.plotBusy 0 = false ∧
    s2.taken 0x20 1 = some (aCmd 0x20 0 []) ∧
    s2.sow 0 = Sow.sowing ∧
    (withCmd 0x21 0 [] State.reset).taken 0x21 1 = some (aCmd 0x21 0 []) ∧
    ((withCmd 0x21 0 [] State.reset).hbmStatus ≠ 0 ∧ (withCmd 0x21 0 [] State.reset).memWf = true) ∧
    s3.taken 0x23 1 = some c1 ∧
    [Sow.sowing, Sow.failed, Sow.sown].contains (s3.sow 0) = true ∧
    s4.taken 0x23 1 = some c1 ∧
    [Sow.sowing, Sow.failed, Sow.sown].contains (s4.sow 0) = true := by decide +kernel

/-- Meets the hypotheses of SowingTakesSegments. -/
theorem witness_segment :
    let s1 : State := withCmd 0x21 0 [(6, 4096), (8, 96)] (sowingSegment goodTag)
    let c1 : Cmd := aCmd 0x21 0 [(6, 4096), (8, 96)]
    let s2 : State := withCmd 0x21 0 [(6, 4096), (8, 96)] (sowingSegment (List.replicate 16 0))
    s1.memWf = true ∧
    s1.taken 0x21 1 = some c1 ∧
    s1.hbmStatus = 0 ∧
    s1.sow 0 = Sow.sowing ∧
    c1.dw 8 = 80 + (segHdr (s1.hostRead 0 (c1.dw64 6) (c1.dw 8))).length ∧
    ((s1.plot 0).img.shadow.any fun g => g.idx == (segHdr (s1.hostRead 0 (c1.dw64 6) (c1.dw 8))).segidx) = false ∧
    (s1.plot 0).img.header ≠ [] ∧
    s1.openSegment 0 (segHdr (s1.hostRead 0 (c1.dw64 6) (c1.dw 8))) (s1.hostRead 0 (c1.dw64 6) (c1.dw 8)) = some (List.replicate 8 0 ++ [1] ++ List.replicate 7 0) ∧
    s1.segmentOk 0 (segHdr (s1.hostRead 0 (c1.dw64 6) (c1.dw 8))) (List.replicate 8 0 ++ [1] ++ List.replicate 7 0) = true ∧
    (let s3 := puts [(Reg.SOW_PLOT_SEG 0, 16, 16, 1)] s1
     s3.memWf = true ∧ s3.taken 0x21 1 = some c1 ∧
      s3.openSegment 0 (segHdr (s3.hostRead 0 (c1.dw64 6) (c1.dw 8))) (s3.hostRead 0 (c1.dw64 6) (c1.dw 8)) =
        some (List.replicate 8 0 ++ [1] ++ List.replicate 7 0) ∧
      s3.segmentOk 0 (segHdr (s3.hostRead 0 (c1.dw64 6) (c1.dw 8))) (List.replicate 8 0 ++ [1] ++ List.replicate 7 0) = false) ∧
    s2.taken 0x21 1 = some c1 ∧
    s2.openSegment 0 (segHdr (s2.hostRead 0 (c1.dw64 6) (c1.dw 8))) (s2.hostRead 0 (c1.dw64 6) (c1.dw 8)) = none := by decide +kernel

/-- Plot 0 with a part of one accepted segment. -/
def complete : State :=
  withPlot 1 { plotA with img := { plotA.img with header := List.replicate 128 0, shadow := [⟨0, 1, 0, []⟩] } } up

/-- Plot 0 SOWN, the step PLL locked. -/
def sown : State := puts [(Reg.CRP_STAT, 1, 1, 1)] (sowAt 3)

/-- Meets the hypotheses of CommitAndReleaseEndTheSowing. -/
theorem witness_commit :
    let s1 : State := withCmd 0x22 0 [] complete
    let s2 : State := withCmd 0x24 0 [] sown
    let s3 : State := withCmd 0x24 0 [] (sowAt 5)
    let c1 : Cmd := aCmd 0x24 0 []
    s1.memWf = true ∧
    s1.taken 0x22 1 = some (aCmd 0x22 0 []) ∧
    s1.hbmStatus = 0 ∧
    s1.sow 0 = Sow.sowing ∧
    (s1.plot 0).img.header ≠ [] ∧
    s1.fld (Reg.SOW_PLOT_SEG 0) 16 16 ≤ (s1.plot 0).img.shadow.length ∧
    s3.taken 0x24 1 = some c1 ∧
    s3.sow 0 ≠ Sow.sown ∧
    s2.taken 0x24 1 = some c1 ∧
    s2.sow 0 = Sow.sown ∧
    s2.bit Reg.CRP_STAT 1 = true ∧
    (s2.plot 0).res.ports = [] ∧
    s2.ndev 0 = 1 ∧
    s2.bit Reg.SOW_SOWN_MASK 0 = false := by decide +kernel

/-- The boot window is open, or the firmware has been started from version 7, SVN 2. -/
def booting (st : Nat) : State :=
  let s := puts [(Reg.SOW_BOOT_STAT, 28, 4, st)] State.reset
  { s with boot := { s.boot with started := some (7, 2) } }

/-- Plot 0 RELEASING, its SOWN_N masked and low, for command 1. -/
def releasing (ndev : Nat) (mask : List (Nat × Nat × Nat × Nat)) : State :=
  withCmd 0x24 0 [] (puts mask (withPlot 4
    { plotA with rel := { plotA.rel with stage := 3, cmd := 1 }, img := { plotA.img with ndev := ndev } } up))

def maskPlot0 : List (Nat × Nat × Nat × Nat) := [(Reg.SOW_SOWN_MASK, 0, 1, 1)]

/-- Meets the hypotheses of BootAndReleaseEvents. -/
theorem witness_boot :
    let s1 : State := releasing 1 maskPlot0
    let s2 : State := releasing 2 []
    (booting 1).memWf = true ∧
    bootSize < 33554432 + ([1] : List Byte).length ∧
    33554431 + ([1] : List Byte).length ≤ bootSize ∧
    (booting 1).hostDown 0 = false ∧
    ((booting 1).bit Reg.MEM_STAT 0 = false ∧
      (let s3 := puts [(Reg.MEM_STAT, 0, 1, 1)] (booting 1); s3.memWf = true ∧ s3.hostDown 0 = false ∧ s3.bit Reg.MEM_STAT 0 = true ∧
        s3.bootState = 1)) ∧
    (booting 2).boot.started = some (7, 2) ∧
    (booting 2).bootState = 2 ∧
    (sowAt 3).plotByTag (pktTag (pkt [(1, 0x50000), (2, 0x1c000)])) = some 0 ∧
    (sowAt 3).sow 0 = Sow.sown ∧
    s1.memWf = true ∧
    s1.sownLow = false ∧
    s1.sownMask = [0] ∧
    s1.sow 0 = Sow.releasing ∧
    (s1.plot 0).rel.stage = 3 ∧
    s1.ndev 0 = 1 ∧
    (s1.plot 0).rel.localStatus = Status.ok ∧
    (s2.plot 0).rel.cmd ≠ 0 ∧
    s2.sow 0 = Sow.releasing ∧
    (∃ e ∈ s2.cmd.store, e.id = (s2.plot 0).rel.cmd) ∧
    1 < s2.ndev 0 ∧
    ((sowAt 3).sownLow = false ∧ ∀ p ∈ (sowAt 3).sownMask, (sowAt 3).sow p ≠ Sow.releasing) ∧
    (let s3 := puts [(Reg.LNK_PORT_STAT 0, 31, 1, 1)] (s2.onRes 0 fun r => { r with ports := [0] })
     (s3.memWf = true ∧ s3.sow 0 = Sow.releasing ∧ (s3.plot 0).rel.stage = 3 ∧ 1 < s3.ndev 0) ∧ s3.portUp 0 = true ∧
      (s3.xch.ctrlQ.filter fun w => w.port == 0).length < 64) := by decide +kernel

/-- Plot 0 released and launched, stopped or running, changed by f. -/
def fieldPlot (ph : Phase) (f : Plot → Plot := id) (l : List (Nat × Nat × Nat × Nat) := []) : State :=
  puts l (withPlot 5 (f (atPhase ph plotA)) up)

/-- Meets the hypotheses of RunStepAndHaltMoveThePlot. -/
theorem witness_run :
    let s2 : State := withCmd 0x31 0 [(4, 9)] (fieldPlot (.step 3))
    let s3 : State := fieldPlot .stopped
    let s1 : State := withCmd 0x30 0 [(6, 8)] s3
    let c1 : Cmd := aCmd 0x30 0 [(6, 8)]
    let c2 : Cmd := aCmd 0x32 0 [(6, 1)]
    let s4 : State := withCmd 0x31 0 [] s3
    let c3 : Cmd := aCmd 0x31 0 [(4, 9)]
    let c4 : Cmd := aCmd 0x30 0 []
    let c5 : Cmd := aCmd 0x31 0 []
    s1.memWf = true ∧
    s1.ndev 0 = 1 ∧
    s1.fallowState 0 = 0 ∧
    s1.ckptBusy 0 = false ∧
    s1.sow 0 = Sow.released ∧
    (s1.plot 0).tm.launched = true ∧
    s1.started 0 = false ∧
    s1.deadStatus 0 = none ∧
    c1.dw64 8 = 0 ∧
    (s1.plot 0).cmt.suppress = none ∧
    s1.dataLost 0 = false ∧
    (let s5 := fieldPlot .stopped id [(Reg.PLT_MEM_CFG 0, 28, 1, 1), (Reg.PLT_MEM_STAT 0, 2, 1, 1)]
     s5.memWf = true ∧ s5.dataLost 0 = true ∧ s5.fallowState 0 = 0 ∧ s5.ckptBusy 0 = false ∧
      (withCmd 0x30 0 [(6, 8)] s5).taken 0x30 1 = some c1 ∧ (withCmd 0x32 0 [(6, 1)] s5).taken 0x32 1 = some c2) ∧
    s1.taken 0x30 1 = some c1 ∧
    (s1.plot 0).tm.pn < c1.dw64 6 ∧
    (withCmd 0x30 0 [] s3).taken 0x30 1 = some c4 ∧
    c4.dw64 6 = 0 ∧
    (withCmd 0x32 0 [(6, 1)] s3).taken 0x32 1 = some c2 ∧
    c2.dw 6 ≠ 0 ∧
    s4.taken 0x31 1 = some c5 ∧
    (c5.dw 6).testBit 0 = false ∧
    (s4.sow 0 ≠ Sow.releasing ∧ s4.sowRuns 0 = false ∧ s4.plotBusy 0 = false) ∧
    (let s6 : State := { s4 with cmd := { s4.cmd with store := s4.cmd.store ++ [{ aCmd 0x21 0 [] with id := 2 }] } }
     s6.memWf = true ∧ s6.taken 0x31 1 = some c5 ∧ s6.sowRuns 0 = true) ∧
    s2.taken 0x31 1 = some c3 ∧
    (s2.sow 0 ≠ Sow.releasing ∧ s2.sowRuns 0 = false ∧ s2.plotBusy 0 = true) ∧
    s2.missed 0 c3 = false := by decide +kernel

/-- Plot 0 RELEASED and not yet launched, Field Time locked. -/
def launchable : State :=
  puts [(Reg.FT_STAT, 28, 4, 2), (Reg.PLT_EVAL_CFG 0, 0, 2, 1)]
    (withPlot 5 { plotA with tm := { plotA.tm with launched := false, pn := 0, cpn := 0 } } up)

/-- Meets the hypotheses of LaunchesAndHaltPacketsAreTaken. -/
theorem witness_launch :
    let s1 : State := withCmd 0x35 0 [(6, 20000)] launchable
    let w1 : List Word := pkt [(1, 0x50000), (8, 0x300), (9, 6)]
    let s2 : State := withCmd 0x35 0 [(6, 19999)] launchable
    let c1 : Cmd := aCmd 0x35 0 [(6, 20000)]
    let w2 : List Word := pkt [(1, 0x50000), (11, 20000)]
    let s3 : State := fieldPlot (.step 3)
    let c2 : Cmd := aCmd 0x35 0 [(6, 19999)]
    s1.memWf = true ∧
    s1.taken 0x35 1 = some c1 ∧
    (c1.dw 8).testBit 0 = false ∧
    s1.launchStatus 0 (c1.dw64 6) = none ∧
    s2.taken 0x35 1 = some c2 ∧
    s2.launchStatus 0 (c2.dw64 6) = some Status.deadlineMissed ∧
    launchable.plotByTag (pktTag w2) = some 0 ∧
    launchable.sow 0 = Sow.released ∧
    launchable.launchStatus 0 (ctlFt w2) = none ∧
    ctlAction w1 < 4 ∧
    (launchable.plot 0).tm.launched = false ∧
    s3.plotByTag (pktTag w1) = some 0 ∧
    (s3.plot 0).tm.launched = true ∧
    ctlPn w1 < (s3.plot 0).tm.pn := by decide +kernel

/-- Meets the hypotheses of FallowAndWakeFollowTheirLevel. -/
theorem witness_fallow :
    let s1 : State := withCmd 0x33 0 [(6, 0)] (fieldPlot .stopped)
    let s2 : State := withCmd 0x34 0 [(6, 1)] (fieldPlot .stopped id [(Reg.PLT_FALLOW 0, 28, 4, 1)])
    let s4 : State := withCmd 0x33 0 [(6, 2)]
      (fieldPlot .stopped fun x => { x with res := { x.res with map := [⟨384, 0, false⟩, ⟨385, 0, false⟩] } })
    let c1 : Cmd := aCmd 0x33 0 [(6, 2)]
    let c2 : Cmd := aCmd 0x33 0 [(6, 0), (4, 9)]
    let c3 : Cmd := aCmd 0x34 0 []
    let c4 : Cmd := aCmd 0x33 0 [(6, 0)]
    let c5 : Cmd := aCmd 0x34 0 [(6, 1)]
    let s5 : State := fieldPlot (.step 3)
    let s3 : State := withCmd 0x33 0 [(6, 0), (4, 9)] s5
    s1.memWf = true ∧
    s1.ndev 0 = 1 ∧
    s1.ckptBusy 0 = false ∧
    s1.taken 0x33 1 = some c4 ∧
    (withCmd 0x33 0 [(6, 1)] (fieldPlot .stopped)).taken 0x33 1 = some (aCmd 0x33 0 [(6, 1)]) ∧
    s4.taken 0x33 1 = some c1 ∧
    s3.taken 0x33 1 = some c2 ∧
    (withCmd 0x33 0 [(6, 1), (4, 9)] s5).taken 0x33 1 = some (aCmd 0x33 0 [(6, 1), (4, 9)]) ∧
    (withCmd 0x33 0 [(6, 2), (4, 9)] s5).taken 0x33 1 = some (aCmd 0x33 0 [(6, 2), (4, 9)]) ∧
    (c1.dw 6).testBit 8 = false ∧ nfld (c1.dw 6) 0 2 = 2 ∧ (c1.dw 6).testBit 4 = false ∧
    s1.sow 0 = Sow.released ∧
    s1.deadStatus 0 = none ∧
    (s1.fallowState 0 = 0 ∧ s1.liftRuns 0 = false ∧ (s1.plot 0).id.startAt = none) ∧
    (let lifting := fun (s : State) => { s with cmd := { s.cmd with store := s.cmd.store ++ [{ aCmd 0x54 0 [] with id := 2 }] } }
     (lifting s1).memWf = true ∧ (lifting s1).taken 0x33 1 = some c4 ∧ (lifting s1).liftRuns 0 = true ∧
      (lifting s2).taken 0x34 1 = some c5 ∧ (lifting s2).liftRuns 0 = true ∧ s2.liftRuns 0 = false) ∧
    s3.plotBusy 0 = true ∧
    s3.missed 0 c2 = false ∧
    s1.plotBusy 0 = false ∧
    c4.atPn = none ∧
    (s1.plot 0).res.furrows.length ≤ 512 ∧
    ((∀ l ∈ (s1.plot 0).res.furrows, s1.phys l < 528) ∧ (s1.plot 0).tm.launched = true) ∧
    (s4.memWf = true ∧ s4.plotBusy 0 = false ∧ s4.savePages 0 ≤ s4.freePages 0) ∧
    (let s6 := withCmd 0x34 0 [] ((fieldPlot .stopped fun x => { x with res := { x.res with ports := [3] } }).onPort 3
      fun x => { x with phase := 1 })
     s6.memWf = true ∧ s6.taken 0x34 1 = some c3 ∧ ∃ q ∈ (s6.plot 0).res.ports, (s6.port q).phase ≠ 0) ∧
    (∀ q ∈ (s2.plot 0).res.ports, (s2.port q).phase = 0) ∧
    s2.taken 0x34 1 = some c5 ∧
    s2.pwrState = 0 ∧
    s2.fallowState 0 = 1 ∧
    (s2.plot 0).id.save = none ∧
    (c5.dw 6).testBit 0 = true ∧
    (withCmd 0x34 0 [] (fieldPlot .stopped id [(Reg.PLT_FALLOW 0, 28, 4, 1)])).taken 0x34 1 = some c3 ∧
    (c3.dw 6).testBit 0 = false ∧
    c3.dw64 8 = 0 := by decide +kernel

/-- The device in a power state. -/
def power (n : Nat) : State := puts [(Reg.CRP_PWR_STAT, 28, 4, n)] up

/-- A running plot of two devices. -/
def busyDeep : State := fieldPlot (.step 3) fun x => { x with img := { x.img with ndev := 2 } }

/-- Deep fallow is being entered for command 1. -/
def deepEntering : State :=
  let s := withCmd 0x33 255 [] (power 1)
  { s with pwr := { s.pwr with deepCmd := 1 } }

/-- Meets the hypotheses of DeepFallowIsEnteredAndLeft. -/
theorem witness_deep :
    let s1 : State := withCmd 0x33 255 [(6, 256)] up
    let s2 : State := withCmd 0x34 255 [] (power 2)
    let c1 : Cmd := aCmd 0x33 255 [(6, 256)]
    let s3 : State := withCmd 0x33 255 [(6, 256)] busyDeep
    let s4 : State := withCmd 0x34 255 [] (power 1)
    let c2 : Cmd := aCmd 0x34 255 []
    s1.memWf = true ∧
    s1.taken 0x33 1 = some c1 ∧
    (c1.dw 6).testBit 8 = true ∧
    s1.deepBusy = false ∧
    s1.deepPlots = [] ∧
    s3.taken 0x33 1 = some c1 ∧
    s3.deepBusy = true ∧
    deepEntering.pwrState = 1 ∧
    deepEntering.deepPlots = [] ∧
    deepEntering.pwr.deepCmd ≠ 0 ∧
    ∃ e ∈ deepEntering.cmd.store, e.id = deepEntering.pwr.deepCmd ∧
    s4.taken 0x34 1 = some c2 ∧
    s4.pwrState = 1 ∧
    s2.taken 0x34 1 = some c2 ∧
    s2.pwrState = 2 ∧
    s2.bit Reg.CRP_PWR_STAT 27 = false := by decide +kernel

/-- Meets the hypotheses of StateSlotsArePeekedAndPoked. -/
theorem witness_slots :
    let s1 : State := withCmd 0x40 0 [(6, 0x7F0003), (7, 255)] (fieldPlot .stopped)
    let s2 : State := withCmd 0x40 0 [(6, 0x7F0003), (7, 255)] (sowAt 0)
    let c1 : Cmd := aCmd 0x40 0 [(6, 0x7F0003), (7, 255)]
    let c2 : Cmd := aCmd 0x41 0 [(6, 3), (7, 0), (4, 9)]
    let s4 : State := withCmd 0x41 0 [(6, 3)] (sowAt 3)
    let s5 : State := fieldPlot (.step 3)
    let s3 : State := withCmd 0x41 0 [(6, 3), (7, 0), (4, 9)] s5
    s2.memWf = true ∧
    s2.slotsOk 0 c1 = true ∧
    s2.taken 0x40 1 = some c1 ∧
    nfld (c1.dw 7) 16 5 = 0 ∧
    s2.sow 0 ≠ Sow.released ∧
    s1.slotsOk 0 c1 = true ∧
    s1.taken 0x40 1 = some c1 ∧
    s1.sow 0 = Sow.released ∧
    (s1.plot 0).tm.launched = true ∧
    (s1.plot 0).id.save = none ∧
    (s1.inject = [] ∧ s2.inject = [] ∧ (s1.plot 0).cmt.kept = none) ∧
    (let s6 := s1.onCmt 0 fun x => { x with kept := some [(3, .v1)] }
     s6.memWf = true ∧ s6.taken 0x40 1 = some c1 ∧ s6.sow 0 = Sow.released ∧ (s6.plot 0).tm.launched = true ∧
      (s6.plot 0).cmt.kept = some [(3, .v1)]) ∧
    s3.taken 0x41 1 = some c2 ∧
    (withCmd 0x42 0 [(6, 3), (7, 0), (4, 9)] s5).taken 0x42 1 = some (aCmd 0x42 0 [(6, 3), (7, 0), (4, 9)]) ∧
    (withCmd 0x43 0 [(6, 3), (7, 0), (4, 9)] s5).taken 0x43 1 = some (aCmd 0x43 0 [(6, 3), (7, 0), (4, 9)]) ∧
    s3.deadStatus 0 = none ∧
    s3.missed 0 c2 = false ∧
    s4.taken 0x41 1 = some (aCmd 0x41 0 [(6, 3)]) ∧
    s4.sow 0 ≠ Sow.released := by decide +kernel

/-- Meets the hypotheses of HostMemoryCommandsMoveTheirBytes. -/
theorem witness_host_memory :
    let s1 : State := withCmd 0x44 0 [(6, 1), (7, 3), (8, 8184), (10, 8), (11, 64)] (fieldPlot (.step 3))
    let c1 : Cmd := aCmd 0x44 0 [(6, 1), (7, 3), (8, 8184), (10, 8), (11, 64)]
    let s2 : State := withCmd 0x44 0 [(6, 1), (7, 3), (8, 8184), (10, 8), (11, 64)] (withHost 64 [1, 2, 3, 4, 5, 6, 7, 8] (sowAt 3))
    let s3 : State := withCmd 0x45 0 [(6, 2), (8, 0x200010), (10, 16), (11, 64)] (withHost 64 [1, 2, 3, 4, 5, 6, 7, 8] (sowAt 3))
    let s4 : State := withCmd 0xb0 0 [(6, 0), (7, 64)] (withHost 64 (leBytes 4 0x01040000) (sowAt 5))
    let c2 : Cmd := aCmd 0x45 0 [(6, 2), (8, 0x200010), (10, 16), (11, 64)]
    let c3 : Cmd := aCmd 0x45 0 [(6, 1), (7, 3), (8, 8184), (10, 8), (11, 64)]
    let c4 : Cmd := aCmd 0xb0 0 [(6, 0), (7, 64)]
    s1.memWf = true ∧
    (s1.host.refused = [] ∧ s1.host.withdrawn = [] ∧ s2.inject = []) ∧
    c1.dw 13 = 0 ∧
    s1.taken 0x44 1 = some c1 ∧
    (withCmd 0x45 0 [(6, 1), (7, 3), (8, 8184), (10, 8), (11, 64)] (fieldPlot (.step 3))).taken 0x45 1 = some c3 ∧
    Sow.sown ≤ s1.sow 0 ∧
    s1.memRangeOk 0 c1 = true ∧
    s1.fallowState 0 < 2 ∧
    s1.missed 0 c1 = false ∧
    c1.opc = 0x44 ∧
    s1.plotRuns 0 = true ∧
    c1.memSpace = 1 ∧
    s2.taken 0x44 1 = some c1 ∧
    (withCmd 0x45 0 [(6, 1), (7, 3), (8, 8184), (10, 8), (11, 64)] (withHost 64 [1, 2, 3, 4, 5, 6, 7, 8] (sowAt 3))).taken 0x45 1 = some c3 ∧
    Sow.sown ≤ s2.sow 0 ∧
    s2.memRangeOk 0 c1 = true ∧
    s2.plotBusy 0 = false ∧
    (s2.fallowState 0 < 2 ∧ s2.missed 0 c1 = false ∧ s2.ecc = [] ∧ cget [] s2.fur.undo (s2.phys (nfld (c1.dw 7) 0 9)) = []) ∧
    s3.taken 0x45 1 = some c2 ∧
    s3.hbmStatus = 0 ∧
    s3.missed 0 c2 = false ∧
    c2.memSpace = 2 ∧ c2.memLength = 16 ∧ c2.memOffset % 16 = 0 ∧
    s3.plotPageAddr 0 c2.memOffset = some 0x200010 ∧
    s4.taken 0xb0 1 = some c4 ∧
    nfld (c4.dw 6) 0 5 ∈ (s4.plot 0).res.sigs ∧
    sigConfigOk (wordAt (s4.sigBlock c4) 0) = true ∧
    s4.deadStatus 0 = none ∧
    s4.plotBusy 0 = false := by decide +kernel

/-- Plot 0 takes stakes of four slices. -/
def stakes : List (Nat × Nat × Nat × Nat) := [(Reg.PLT_STAKE_CFG 0, 24, 5, 10), (Reg.PLT_STAKE_CFG 0, 0, 16, 4), (Reg.PLT_HL_CFG 0, 8, 6, 8)]

/-- Meets the hypotheses of StakeAndRollbackAreNoted. -/
theorem witness_stake :
    let s1 : State := withCmd 0x50 0 [(4, 9)] (fieldPlot (.step 3) id stakes)
    let s2 : State := withCmd 0x53 0 [(4, 9)] (fieldPlot (.step 3))
    let c1 : Cmd := aCmd 0x50 0 [(4, 9)]
    let c2 : Cmd := aCmd 0x50 0 []
    s1.memWf = true ∧
    s1.sow 0 = Sow.released ∧
    s1.deadStatus 0 = none ∧
    c1.atPn = some 9 ∧
    s1.missed 0 c1 = false ∧
    s1.taken 0x50 1 = some c1 ∧
    s1.takesStakes 0 = true ∧
    (s1.plot 0).tm.cpn < 9 ∧
    s2.taken 0x53 1 = some (aCmd 0x53 0 [(4, 9)]) ∧
    (∀ e ∈ (s2.plot 0).cmt.rollback, e.2 = none) ∧
    (let s3 := withCmd 0x53 0 [(4, 9)] ((fieldPlot (.step 3)).onCmt 0 fun x => { x with rollback := [(12, some 2)] })
     s3.taken 0x53 1 = some (aCmd 0x53 0 [(4, 9)]) ∧ ∃ e ∈ (s3.plot 0).cmt.rollback, e.2 ≠ none) ∧
    (withCmd 0x50 0 [] (fieldPlot (.step 3) id stakes)).taken 0x50 1 = some c2 ∧
    c2.atPn = none ∧
    (withCmd 0x53 0 [] (fieldPlot (.step 3))).taken 0x53 1 = some (aCmd 0x53 0 []) := by decide +kernel

/-- Meets the hypotheses of CheckpointsAreExportedAndImported. -/
theorem witness_ckpt :
    let s1 : State := withCmd 0x51 0 [(6, 4096)] (sowAt 3)
    let s2 : State := withCmd 0x52 0 [(6, 4096)] (sowAt 5)
    let c1 : Cmd := aCmd 0x51 0 [(6, 4096)]
    s1.memWf = true ∧
    (s1.host.refused = [] ∧ s1.host.withdrawn = []) ∧
    c1.dw 13 = 0 ∧
    s1.plotBusy 0 = false ∧
    s1.sow 0 = Sow.sown ∧
    s1.ckptLifted 0 = false ∧
    s1.hbmStatus = 0 ∧
    c1.dw64 8 = 0 ∧
    s1.taken 0x51 1 = some c1 ∧
    s2.sow 0 = Sow.released ∧
    s2.taken 0x52 1 = some (aCmd 0x52 0 [(6, 4096)]) ∧
    s2.fallowState 0 = 0 ∧
    (s2.plot 0).id.startAt = none ∧
    s2.deadStatus 0 = none ∧
    (aCmd 0x52 0 [(6, 4096)]).dw64 8 < kib4 ∧
    (let c3 : Cmd := aCmd 0x52 0 [(6, 4096), (8, 8192)]
     let s3 := withCmd 0x52 0 [(6, 4096), (8, 8192)] (sowAt 5)
     s3.taken 0x52 1 = some c3 ∧ ¬ c3.dw64 8 < kib4 ∧ s3.ckptHeaderOk 0 (s3.hostRead 0 4096 kib4) = false) := by decide +kernel

/-- Page 1 of plot 0 is lifted. -/
def lifted : State := withPlot 3 { plotA with res := { plotA.res with map := [⟨0, 0, false⟩, ⟨1, 5, true⟩] } } up

/-- Meets the hypotheses of PagesAreLiftedAndDropped. -/
theorem witness_pages :
    let s1 : State := withCmd 0x54 0 [(6, 2), (7, 1), (8, 4096)] (sowAt 3)
    let c1 : Cmd := aCmd 0x54 0 [(6, 2), (7, 1), (8, 4096)]
    let s2 : State := withCmd 0x55 0 [(6, 2), (7, 1)] (sowAt 3)
    let s3 : State := withCmd 0x55 0 [(6, 1), (7, 1)] lifted
    let c2 : Cmd := aCmd 0x55 0 [(6, 1), (7, 1)]
    let c3 : Cmd := aCmd 0x55 0 [(6, 2), (7, 1)]
    s1.memWf = true ∧
    (s1.host.refused = [] ∧ s1.host.withdrawn = []) ∧
    c1.dw 13 = 0 ∧
    s1.mapRangeOk c1 = true ∧
    s1.taken 0x54 1 = some c1 ∧
    s1.hbmStatus = 0 ∧
    (let s4 := puts [(Reg.MEM_STAT, 0, 1, 0)] s1
     let s5 := puts [(Reg.MEM_STAT, 0, 1, 0)] s2
     s4.memWf = true ∧ s4.hbmStatus ≠ 0 ∧ s4.taken 0x54 1 = some c1 ∧ s5.hbmStatus ≠ 0 ∧ s5.taken 0x55 1 = some c3) ∧
    (∀ e ∈ s1.mapEntries c1, e.lifted = false ∧ s1.liftBusy 0 e = false) ∧
    c1.dw 7 = 1 ∧ (s1.plot 0).res.map[c1.dw 6]? = some ⟨2, 0, false⟩ ∧
    s2.mapRangeOk c3 = true ∧
    s2.taken 0x55 1 = some c3 ∧
    (∃ e ∈ s2.mapEntries c3, e.lifted = false) ∧
    s3.mapRangeOk c2 = true ∧
    s3.taken 0x55 1 = some c2 ∧
    c2.dw 7 = 1 ∧
    (s3.plot 0).res.map[c2.dw 6]? = some ⟨1, 5, true⟩ := by decide +kernel

/-- Plot 0 with its trace in a state. -/
def tracing (n : Nat) (l : List (Nat × Nat × Nat × Nat) := []) (ph : Phase := .step 3) : State :=
  fieldPlot ph id ((Reg.HVT_STAT 0, 28, 4, n) :: l)

/-- Meets the hypotheses of TraceCommandsTakeEffect. -/
theorem witness_trace :
    let s1 : State := withCmd 0x60 0 [(6, 4096), (8, 8)] (withHost 4096 (leBytes 4 (Reg.HVT_CFG 0)) (tracing 0))
    let c1 : Cmd := aCmd 0x60 0 [(6, 4096), (8, 8)]
    let s2 : State := withCmd 0x60 0 [(6, 4096), (8, 8)] (tracing 0)
    let s3 : State := withCmd 0x61 0 [(4, 9)] (tracing 0)
    let s4 : State := withCmd 0x62 0 [] (tracing 1)
    let c2 : Cmd := aCmd 0x63 0 [(6, 4096), (8, 4096)]
    let c3 : Cmd := aCmd 0x61 0 [(4, 9)]
    let s5 : State := withCmd 0x62 0 [] (tracing 0)
    let c4 : Cmd := aCmd 0x62 0 []
    s1.memWf = true ∧
    (s1.host.refused = [] ∧ s1.host.withdrawn = []) ∧
    s1.hvt.fifo = [] ∧
    s1.hvt.dropped = 0 ∧
    s1.taken 0x60 1 = some c1 ∧
    c1.dw 8 % 8 = 0 ∧ c1.dw 8 ≤ 4096 ∧
    ((cfgItems (c1.dw 8 / 8) (s1.hostRead 0 (c1.dw64 6) (c1.dw 8))).foldl (fun (s : State) e => if cfgItemOk 0 e then s.rnSet e.1 e.2 else s) s1).cfgStatus 0 (cfgItems (c1.dw 8 / 8) (s1.hostRead 0 (c1.dw64 6) (c1.dw 8))) = none ∧
    s2.taken 0x60 1 = some c1 ∧
    ((cfgItems (c1.dw 8 / 8) (s2.hostRead 0 (c1.dw64 6) (c1.dw 8))).foldl (fun (s : State) e => if cfgItemOk 0 e then s.rnSet e.1 e.2 else s) s2).cfgStatus 0 (cfgItems (c1.dw 8 / 8) (s2.hostRead 0 (c1.dw64 6) (c1.dw 8))) = some Status.invalidParam ∧
    s3.taken 0x61 1 = some c3 ∧
    (c3.dw 6).testBit 0 = false ∧
    s3.hvtState 0 = 0 ∧
    (s3.plot 0).hvt.armAt = none ∧
    s3.deadStatus 0 = none ∧
    s3.missed 0 c3 = false ∧
    s5.taken 0x62 1 = some c4 ∧
    (s5.plot 0).hvt.fireFt = 0 ∧
    s4.taken 0x62 1 = some c4 ∧
    s4.hvtState 0 = 1 ∧
    (s4.plot 0).hvt.stopAt = none ∧
    (withCmd 0x63 0 [(6, 4096), (8, 4096)] (tracing 0)).taken 0x63 1 = some c2 ∧
    c2.dw 13 = 0 ∧
    (tracing 0).hbmStatus = 0 ∧
    (let s6 := withCmd 0x63 0 [(6, 4096), (8, 4096)] (puts [(Reg.MEM_STAT, 0, 1, 0)] (tracing 0))
     s6.memWf = true ∧ s6.taken 0x63 1 = some c2 ∧ s6.hbmStatus ≠ 0) ∧
    (withCmd 0x92 0 [(6, 4096), (8, 4096)] up).taken 0x92 1 = some (aCmd 0x92 0 [(6, 4096), (8, 4096)]) ∧ up.hbmStatus = 0 ∧
    (let s7 := withCmd 0x92 0 [(6, 4096), (8, 4096)] (puts [(Reg.MEM_STAT, 0, 1, 0)] up)
     s7.memWf = true ∧ s7.taken 0x92 1 = some (aCmd 0x92 0 [(6, 4096), (8, 4096)]) ∧ s7.hbmStatus ≠ 0) := by decide +kernel

/-- Meets the hypotheses of RecorderEventsAndCrossTriggers. -/
theorem witness_recorder :
    let s1 : State := tracing 0 [(Reg.HVT_CFG 0, 30, 2, 1)]
    let s2 : State := tracing 2 [(Reg.HVT_CFG 0, 26, 2, 2)] .stopped
    let s3 : State := tracing 1 [(Reg.HVT_STAT 0, 23, 1, 1), (Reg.HVT_CFG 0, 23, 2, 2)]
    let s4 : State := tracing 1 [(Reg.HVT_CFG 0, 17, 1, 1)]
    (tracing 1).memWf = true ∧
    (tracing 1).running = true ∧
    ((tracing 1).pwrState < 2 ∧ ((tracing 1).syncWait (tracing 1).hvt.ring).stageRoom 64 = true ∧
      ((tracing 1).syncWait ((tracing 1).plot 0).hvt.ring).stageRoom 64 = true) ∧
    (let s5 : State := { tracing 1 with hvt := { (tracing 1).hvt with staging := 2 ^ 24 } }
     s5.memWf = true ∧ s5.running = true ∧ s5.pwrState < 2 ∧ (s5.syncWait s5.hvt.ring).stageRoom 64 = false) ∧
    ((tracing 3).plotByTag (pktTag (pkt [(1, 0x50000), (9, 12), (11, 500)])) = some 0 ∧ (tracing 3).memWf = true ∧ (tracing 3).hvtState 0 = 3) ∧
    (tracing 1).hvtState 0 = 1 ∧
    s3.bit (Reg.HVT_STAT 0) 23 = true ∧
    s3.fld (Reg.HVT_CFG 0) 23 2 = 2 ∧
    s2.hvtState 0 = 2 ∧
    s2.postKind 0 = 2 ∧
    s2.plotRuns 0 = false ∧
    ((fieldPlot (.step 3) fun x => { x with hvt := { x.hvt with fireRep := 2 } }).plot 0).hvt.fireRep ≠ 0 ∧
    s1.plotByTag (pktTag (pkt [(1, 0x50000), (9, 12), (11, 500)])) = some 0 ∧
    s1.hvtState 0 = 0 ∧
    s1.hvtBuf 0 ≠ 0 ∧
    (s1.plot 0).hvt.armAt = none ∧
    (tracing 1).bit (Reg.HVT_CFG 0) 17 = false ∧
    s4.bit (Reg.HVT_CFG 0) 17 = true ∧
    s4.hvtState 0 = 1 ∧
    s4.postKind 0 ≠ 1 ∧
    s4.bit (Reg.HVT_CFG 0) 25 = false := by decide +kernel

/-- Two lanes of port 15 are in test. -/
def twoInTest : State := puts [(Reg.LNK_LANE_STAT 15 0, 28, 4, 7), (Reg.LNK_LANE_STAT 15 8, 28, 4, 7)] up

/-- Plot 0 released with port 15. -/
def portOwned : State := fieldPlot (.step 3) fun x => { x with res := { x.res with ports := [15] } }

/-- Meets the hypotheses of LinkCommandsStartTheirWork. -/
theorem witness_link :
    let c1 : Cmd := aCmd 0x71 255 [(6, 0x18f), (7, 1000)]
    let s1 : State := withCmd 0x70 255 [(6, 15)] up
    let c2 : Cmd := aCmd 0x70 255 [(6, 15)]
    let s2 : State := withCmd 0x71 255 [(6, 0x17f), (7, 1000)] portOwned
    let s3 : State := withCmd 0x71 255 [(6, 0x18f), (7, 1000)] up
    let s4 : State := withCmd 0x70 255 [(6, 15)] twoInTest
    let s5 : State := withCmd 0x70 255 [(6, 15)] portOwned
    s1.memWf = true ∧
    s1.taken 0x70 1 = some c2 ∧
    s1.portReleased 15 = false ∧
    (s1.port (nfld (c2.dw 6) 0 4)).phase = 0 ∧
    8 ≤ (laneIds.filter fun i => s1.laneState 15 i ≠ 7).length ∧
    s4.taken 0x70 1 = some c2 ∧
    (laneIds.filter fun i => s4.laneState 15 i ≠ 7).length < 8 ∧
    s5.taken 0x70 1 = some c2 ∧
    s5.portReleased (nfld (c2.dw 6) 0 4) = true ∧
    s3.taken 0x71 1 = some c1 ∧
    nfld (c1.dw 6) 4 4 ≤ 8 ∧ c1.dw 7 ≠ 0 ∧ nfld (c1.dw 6) 8 2 ≠ 0 ∧ nfld (c1.dw 6) 10 2 = 0 ∧
    s3.testRefused 15 8 = false ∧
    s2.taken 0x71 1 = some (aCmd 0x71 255 [(6, 0x17f), (7, 1000)]) ∧
    s2.testRefused 15 7 = true ∧
    (∀ ws ∈ [[(6, 0x19f), (7, 1000)], [(6, 0x18f), (7, 0)]],
      (withCmd 0x71 255 ws up).taken 0x71 1 = some (aCmd 0x71 255 ws) ∧
      (8 < nfld ((aCmd 0x71 255 ws).dw 6) 4 4 ∨ (aCmd 0x71 255 ws).dw 7 = 0)) ∧
    ((s3.port 15).testCmd = 0 ∧ ((s3.onPort 15 fun x => { x with testCmd := 2 }).port 15).testCmd ≠ 0) ∧
    (let c3 := aCmd 0x71 255 [(6, 0x57f), (7, 1000)]
     (withCmd 0x71 255 [(6, 0x57f), (7, 1000)] up).taken 0x71 1 = some c3 ∧ up.testRefused 15 7 = false ∧
      nfld (c3.dw 6) 10 2 ≠ 0 ∧ nfld (c3.dw 6) 4 4 = 7) := by decide +kernel

/-- Plot 0 SOWN, with an exchange table of two times 1,024 entries. -/
def withRegion : State := puts [(Reg.XCH_RGN_CFG 0, 0, 11, 1)] (withPlot 3 { plotA with tm := { plotA.tm with launched := false }, res := { plotA.res with ports := [0] } } up)

/-- Meets the hypotheses of XtLoadWritesTheStandbyHalf. -/
theorem witness_xt_load :
    let s1 : State := withCmd 0x72 0 [(6, 1), (7, 1023), (8, 1), (9, 4096)] (withHost 4096 [1, 0, 0, 0, 0, 0, 0, 255] withRegion)
    let c1 : Cmd := aCmd 0x72 0 [(6, 1), (7, 1023), (8, 1), (9, 4096)]
    let s2 : State := withCmd 0x72 0 [(6, 3), (11, 6)] (puts [(Reg.XCH_RGN_CFG 0, 0, 11, 1)]
      (fieldPlot (.step 3) fun x => { x with tm := { x.tm with headTop := 7 } }))
    let c2 : Cmd := aCmd 0x72 0 [(6, 3), (11, 20)]
    let s3 : State := withCmd 0x72 0 [(6, 1), (7, 1023), (8, 1), (9, 4096)] withRegion
    let s4 : State := withCmd 0x72 0 [(6, 3), (11, 20)] withRegion
    let c3 : Cmd := aCmd 0x72 0 [(6, 3), (11, 6)]
    s1.memWf = true ∧
    (s1.host.refused = [] ∧ s1.host.withdrawn = []) ∧
    s1.hbmStatus = 0 ∧
    s1.taken 0x72 1 = some c1 ∧
    s1.sow 0 = Sow.sown ∧
    nfld (c1.dw 6) 0 1 ≠ s1.xtActive 0 ∧
    s1.bit (Reg.XCH_RGN_STAT 0) 1 = false ∧
    s1.bit (Reg.XCH_RGN_STAT 0) 2 = false ∧
    c1.dw 13 = 0 ∧
    nfld (c1.dw 7) 0 21 + c1.dw 8 ≤ (s1.xtHalf 0 1).2 ∧
    (((natsFrom 0 (c1.dw 8)).map fun i => leNat (s1.hostRead 0 (c1.dw64 9 + 8 * i) 8)).all xtItemOk && s1.xtLoadOk 0 1 (nfld (c1.dw 7) 0 21) ((natsFrom 0 (c1.dw 8)).map fun i => leNat (s1.hostRead 0 (c1.dw64 9 + 8 * i) 8))) = false ∧
    s3.taken 0x72 1 = some c1 ∧
    (((natsFrom 0 (c1.dw 8)).map fun i => leNat (s3.hostRead 0 (c1.dw64 9 + 8 * i) 8)).all xtItemOk && s3.xtLoadOk 0 1 (nfld (c1.dw 7) 0 21) ((natsFrom 0 (c1.dw 8)).map fun i => leNat (s3.hostRead 0 (c1.dw64 9 + 8 * i) 8))) = true ∧
    (c1.dw 6).testBit 1 = false ∧
    s4.taken 0x72 1 = some c2 ∧
    (((natsFrom 0 (c2.dw 8)).map fun i => leNat (s4.hostRead 0 (c2.dw64 9 + 8 * i) 8)).all xtItemOk && s4.xtLoadOk 0 1 (nfld (c2.dw 7) 0 21) ((natsFrom 0 (c2.dw 8)).map fun i => leNat (s4.hostRead 0 (c2.dw64 9 + 8 * i) 8))) = true ∧
    (c2.dw 6).testBit 1 = true ∧
    s4.deadStatus 0 = none ∧
    (let s5 := puts [(Reg.PLT_CMT_STAT 0, 28, 4, 6)] s4
     s5.memWf = true ∧ s5.taken 0x72 1 = some c2 ∧ s5.deadStatus 0 = some Status.divergence) ∧
    (let c4 := aCmd 0x72 0 [(6, 0), (7, 1023), (8, 1), (9, 4096)]
     (withCmd 0x72 0 [(6, 0), (7, 1023), (8, 1), (9, 4096)] withRegion).taken 0x72 1 = some c4 ∧
      nfld (c4.dw 6) 0 1 = withRegion.xtActive 0 ∧ withRegion.plotBusy 0 = false ∧ (c4.dw 6).testBit 1 = false ∧
      nfld (c4.dw 7) 0 21 + c4.dw 8 ≤ (withRegion.xtHalf 0 0).2) ∧
    s4.headBegun 0 (c2.dw64 11) = false ∧
    s2.taken 0x72 1 = some c3 ∧
    (((natsFrom 0 (c3.dw 8)).map fun i => leNat (s2.hostRead 0 (c3.dw64 9 + 8 * i) 8)).all xtItemOk && s2.xtLoadOk 0 1 (nfld (c3.dw 7) 0 21) ((natsFrom 0 (c3.dw 8)).map fun i => leNat (s2.hostRead 0 (c3.dw64 9 + 8 * i) 8))) = true ∧
    s2.headBegun 0 (c3.dw64 11) = true := by decide +kernel

/-- The FACTORY lifecycle state. -/
def factory (s : State) : State := { s with boot := { s.boot with lifecycle := 0 } }

/-- Key slot 1 holds a key. -/
def keyed : State := { up with boot := { up.boot with keys := [(1, List.replicate 32 1)] } }

/-- Meets the hypotheses of ServiceCommandsTakeEffect. -/
theorem witness_service :
    let s1 : State := withCmd 0xa1 255 [(6, 0xff02), (7, 64), (9, 32)] (factory (withHost 64 [1, 2, 3] up))
    let c1 : Cmd := aCmd 0xa1 255 [(6, 0x0102), (7, 64), (9, 40)]
    let c2 : Cmd := aCmd 0xa1 255 [(6, 0xff02), (7, 64), (9, 32)]
    let s2 : State := withCmd 0xa1 255 [(6, 0x0102), (7, 64), (9, 40)] keyed
    let s3 : State := withCmd 0xa0 255 [(6, 4096), (8, 4096)] up
    let c3 : Cmd := aCmd 0xa0 255 [(6, 4096), (8, 4096)]
    s3.memWf = true ∧
    (s3.host.refused = [] ∧ s3.host.withdrawn = []) ∧
    s3.taken 0xa0 1 = some c3 ∧
    (c3.dw 9).testBit 1 = false ∧
    s1.taken 0xa1 1 = some c2 ∧
    nfld (c2.dw 6) 8 8 = 255 ∧
    s1.boot.lifecycle ≠ 2 ∧
    c2.dw 9 = 32 ∧
    s1.keySet (nfld (c2.dw 6) 0 8) = false ∧
    s2.taken 0xa1 1 = some c1 ∧
    nfld (c1.dw 6) 8 8 < 8 ∧ c1.dw 9 = 40 ∧
    s2.keySet (nfld (c1.dw 6) 8 8) = true ∧
    s2.keySet (nfld (c1.dw 6) 0 8) = false := by decide +kernel

/-- Meets the hypotheses of ServiceCommandsTakeEffect. -/
theorem witness_scrub :
    let s1 : State := withCmd 0x90 255 [(6, 1), (7, 511), (9, 1)] up
    let c1 : Cmd := aCmd 0x90 255 [(6, 1), (7, 511), (9, 1)]
    let s2 : State := withCmd 0x90 255 [(6, 0), (7, 0), (9, 1)] up
    let c2 : Cmd := aCmd 0x90 255 [(6, 0), (7, 0), (9, 1)]
    s2.memWf = true ∧
    s2.taken 0x90 1 = some c2 ∧
    c2.scrubOk = false ∧
    s1.taken 0x90 1 = some c1 ∧
    c1.scrubOk = true ∧
    s1.scrubAllowed c1 = true ∧
    s1.hbmStatus = 0 ∧
    s1.ecc = [] ∧
    (s1.xch.xt = [] ∧ s1.inject = []) ∧
    (let c3 := { c1 with func := 64, plot := 3 }
     c3.scrubOk = true ∧ s1.scrubAllowed c3 = false) ∧
    (let s3 := withCmd 0x90 255 [(6, 0), (7, 0), (9, 4096)] (puts [(Reg.MEM_STAT, 0, 1, 0)] up)
     let c3 := aCmd 0x90 255 [(6, 0), (7, 0), (9, 4096)]
     s3.memWf = true ∧ s3.taken 0x90 1 = some c3 ∧ c3.scrubOk = true ∧ s3.scrubAllowed c3 = true ∧ nfld (c3.dw 6) 0 2 = 0 ∧
      s3.hbmStatus ≠ 0) ∧
    (let s4 := withCmd 0x90 255 [(6, 0), (7, 0), (9, 4096)] ((up.hbmMarkSet 0 1).hbmMarkSet 4088 2)
     let c3 := aCmd 0x90 255 [(6, 0), (7, 0), (9, 4096)]
     s4.memWf = true ∧ s4.taken 0x90 1 = some c3 ∧ s4.hbmStatus = 0 ∧ c3.dw 13 = 0 ∧ s4.inject = [] ∧ cellsWf 0 s4.ecc = true) := by
  decide +kernel

/-- Lanes 0 and 1 of port 15 take part in a training that stands at a phase, with other lanes passed or not. -/
def training (phase : Nat) (others : Bool) (f : Lane → Lane := id) (l : List (Nat × Nat × Nat × Nat) := []) : State :=
  let s := (puts l up).onPort 15 fun x => { x with phase := phase, cmd := 1, mode := 2 }
  let s := (natsFrom 1 8).foldl (fun s i => s.onLane 15 i fun x => { x with inSeq := true, passed := others }) s
  withCmd 0x70 255 [(6, 15)] (s.onLane 15 0 fun x => f { x with inSeq := true })

/-- A TRAIN frame of device 0x12345, port 3, lane 2. -/
def trainFrame : BitVec 896 :=
  mkFrame (4 * 2 ^ 28) (wordsPayload (pkt [(0, trainSync), (1, 0x12345 * 2 ^ 14 + 3 * 2 ^ 10 + 2 * 2 ^ 6)]))

/-- Meets the hypotheses of TrainingFollowsItsPhases. -/
theorem witness_training :
    let s1 : State := training 4 false
    let s2 : State := training 1 false
    let s3 : State := training 3 false
    s2.memWf = true ∧
    (up.port 15).phase = 0 ∧
    (s2.lane 15 0).inSeq = true ∧
    (s2.port 15).phase = 1 ∧
    (∃ j ∈ s2.seqLanes 15, j ≠ 0 ∧ (s2.lane 15 j).passed = false) ∧
    (s3.port 15).phase = 3 ∧
    (s3.lane 15 0).passed = false ∧
    (∃ j ∈ s3.seqLanes 15, j ≠ 0 ∧ (s3.lane 15 j).passed = false) ∧
    ((openFrame (s3.unInvert 15 0 trainFrame)).map fun d => (nfld d.hdr 28 4, trainReservedOk (payloadWords d.payload), wordAt (payloadWords d.payload) 0)) = some (4, true, trainSync) ∧
    (s1.port 15).phase ≠ 0 ∧
    (s1.port 15).only = 0 ∧
    ((s1.seqLanes 15).filter fun j => (s1.lane 15 j).passed).length < 8 ∧
    (s1.port 15).sparing = 0 ∧
    (∀ j, j < 9 → s1.bit (Reg.LNK_LANE_STAT 15 j) 25 = false) ∧
    (s1.port 15).cmd = 1 ∧
    (∃ e ∈ s1.cmd.store, e.id = (s1.port 15).cmd) := by decide +kernel

/-- Meets the hypotheses of TrainingFollowsItsPhases: marker in service, manual alignment, the last lane of CDR, the fourth
match of ALIGN, a first frame of DESKEW, an echo of LATENCY, and a phase limit with eight lanes passed. -/
theorem witness_training_phases :
    let marker : BitVec 896 := mkFrame (2 * 2 ^ 28) (wordsPayload (pkt [(0, trainSync)]))
    let s1 : State := puts [(Reg.LNK_PORT_CTRL 15, 31, 1, 1), (Reg.LNK_LANE_STAT 15 7, 28, 4, 6)] up
    let s2 : State := training 2 false
    let s3 : State := training 1 true
    let s4 : State := (training 2 false fun x => { x with matchCnt := 3 }).onPort 15 fun x => { x with mode := 0 }
    let s5 : State := training 4 false
    let echo : BitVec 896 := mkFrame (4 * 2 ^ 28) (wordsPayload (pkt [(0, trainSync), (3, 2 ^ 30)]))
    let s6 : State := (training 5 false id [(Reg.LNK_PORT_RXMAP 15, 0, 32, 0x76543210)]).onPort 15 fun x => { x with pingAt := some 5 }
    s1.memWf = true ∧ (s1.port 15).phase = 0 ∧ s1.markEn 15 = true ∧ s1.laneState 15 7 = 6 ∧
    isMarker (s1.unInvert 15 7 marker) = true ∧ 1 ≠ (s1.lane 15 7).bound ∧
    (s2.port 15).phase = 2 ∧ (s2.port 15).mode = 2 ∧
    s3.memWf = true ∧ (s3.lane 15 0).inSeq = true ∧ (s3.port 15).phase = 1 ∧
    (∀ j ∈ s3.seqLanes 15, j ≠ 0 → (s3.lane 15 j).passed = true) ∧
    s4.memWf = true ∧ (s4.lane 15 0).inSeq = true ∧ (∃ j ∈ s4.seqLanes 15, j ≠ 0 ∧ (s4.lane 15 j).passed = false) ∧
    (s4.port 15).phase = 2 ∧ (s4.port 15).mode ≠ 1 ∧ (s4.lane 15 0).marks = false ∧ (s4.lane 15 0).passed = false ∧
    (s4.lane 15 0).settle = 0 ∧ (s4.lane 15 0).matchCnt = 3 ∧ (s4.lane 15 0).inverse = false ∧ frameSync marker = syncBits ∧
    (s5.port 15).phase = 4 ∧ (∃ j ∈ s5.seqLanes 15, j ≠ 0 ∧ (s5.lane 15 j).arrival = []) ∧
    ((openFrame (s6.unInvert 15 0 echo)).map fun d => (nfld d.hdr 28 4, trainReservedOk (payloadWords d.payload),
      wordAt (payloadWords d.payload) 0, (wordAt (payloadWords d.payload) 3).testBit 30)) = some (4, true, trainSync, true) ∧
    (s6.memWf = true ∧ (s6.lane 15 0).inSeq = true ∧ (s6.port 15).phase = 5 ∧ s6.rxLane 15 0 = 0 ∧ (s6.port 15).pingAt = some 5 ∧
      (s6.port 15).measured < 15) ∧
    (s3.port 15).only = 0 ∧ (s3.port 15).sparing = 0 ∧
    8 ≤ ((s3.seqLanes 15).filter fun j => (s3.lane 15 j).passed).length := by decide +kernel

/-- Meets the hypotheses of LaneRegistersAct. -/
theorem witness_lane_registers :
    let s1 : State := training 2 true
    up.memWf = true ∧
    up.running = true ∧
    up.hostDown 0 = false ∧
    up.bit (Reg.LNK_LANE_CTRL 15 8) 27 = false ∧
    up.laneServes 15 8 = false ∧
    (up.port 15).phase = 0 ∧
    portOwned.memWf = true ∧ portOwned.running = true ∧ portOwned.hostDown 0 = false ∧
    portOwned.laneServes 15 7 = true ∧
    portOwned.testRefused 15 7 = true ∧
    portOwned.bit (Reg.LNK_LANE_CTRL 15 7) 27 = false ∧
    up.testRefused 15 8 = false ∧ up.laneState 15 8 ≠ 7 ∧
    (up.lane 15 8).inSeq = false ∧
    (∀ j, j < 9 → up.bit (Reg.LNK_LANE_STAT 15 j) 25 = false) ∧ (up.port 15).only = 0 ∧
    (s1.laneServes 15 0 = false ∧ (s1.lane 15 0).inSeq = true ∧ (s1.port 15).phase ≠ 0) ∧
    (puts [(Reg.LNK_LANE_CTRL 15 8, 27, 1, 1)] up).bit (Reg.LNK_LANE_CTRL 15 8) 27 = true ∧
    (s1.memWf = true ∧ s1.running = true ∧ s1.hostDown 0 = false) ∧
    (s1.port 15).phase = 2 ∧ (s1.port 15).mode = 2 ∧ (s1.port 15).only = 0 ∧ (s1.port 15).sparing = 0 ∧
    8 ≤ ((s1.seqLanes 15).filter fun j => (s1.lane 15 j).passed).length := by decide +kernel

/-- Lane 7 of port 15 is UP and the port too, its first eight lanes carrying the logical lanes in order. -/
def portUp15 : State :=
  puts [(Reg.LNK_PORT_CTRL 15, 29, 1, 0), (Reg.LNK_LANE_STAT 15 7, 28, 4, 6), (Reg.LNK_PORT_STAT 15, 31, 1, 1), (Reg.LNK_PORT_STAT 15, 29, 1, 1),
    (Reg.LNK_PORT_TXMAP 15, 0, 32, 0x76543210), (Reg.LNK_PORT_RXMAP 15, 0, 32, 0x76543210)] up

/-- Plot 0 holds port 15 and is in a hold. -/
def recovering (recovery : Bool := true) : State :=
  let h : Hold :=
    { recovery := recovery, k := 5, point := 5, since := 0, action := 0, failed := false, sent := none, lanes := [], ready := [], cmd := none,
      back := none }
  fieldPlot (.head .check) fun x => { x with res := { x.res with ports := [15] }, cmt := { x.cmt with hold := some h } }

/-- Meets the hypotheses of LanesFollowTheirNeighbour. -/
theorem witness_neighbour :
    let s1 : State := withCmd 0x71 255 [] (up.onPort 15 fun x => { x with testCmd := 1 })
    let w1 : List Word := pkt [(8, 0x10000)]
    portUp15.memWf = true ∧
    up.laneState 15 7 = 0 ∧
    (puts [(Reg.LNK_LANE_STAT 15 7, 28, 4, 7)] up).laneState 15 7 = 7 ∧
    portUp15.laneState 15 7 = 6 ∧ (portUp15.port 15).phase = 0 ∧
    portUp15.autoPort 15 = false ∧
    portUp15.rxLogical 15 7 ≠ 8 ∧
    (let s2 := puts [(Reg.LNK_PORT_CTRL 15, 29, 1, 1)] portUp15
     s2.memWf = true ∧ s2.laneState 15 7 = 6 ∧ s2.autoPort 15 = true ∧ (s2.port 15).phase = 0 ∧ (s2.port 15).cmd = 0 ∧
      (s2.port 15).sparing = 0) ∧
    (puts [(Reg.LNK_LANE_STAT 15 7, 28, 4, 8)] portUp15).laneState 15 7 = 8 ∧
    (let s3 := puts [(Reg.LNK_LANE_CTRL 15 8, 27, 1, 1), (Reg.LNK_LANE_TEST 15 8, 28, 1, 1), (Reg.LNK_LANE_TEST 15 8, 21, 1, 1), (Reg.LNK_LANE_TEST 15 8, 30, 2, 1)] up
     s3.memWf = true ∧ s3.bit (Reg.LNK_LANE_CTRL 15 8) 27 = true ∧ s3.bit (Reg.LNK_LANE_TEST 15 8) 28 = true ∧
      s3.bit (Reg.LNK_LANE_TEST 15 8) 21 = true) ∧
    (puts [(Reg.LNK_LANE_CTRL 15 8, 27, 1, 1), (Reg.LNK_LANE_TEST 15 8, 28, 1, 1), (Reg.LNK_LANE_TEST 15 8, 21, 1, 1), (Reg.LNK_LANE_TEST 15 8, 30, 2, 1)] up).fld (Reg.LNK_LANE_TEST 15 8) 30 2 ≠ 0 ∧
    portUp15.spareAllowed 15 (pkt [(8, 0x7000)]) = true ∧ portUp15.spareUsed 15 = false ∧ (portUp15.port 15).cmd = 0 ∧
    portOwned.spareAllowed 15 (pkt [(8, 0x7000)]) = false ∧
    portUp15.rxLane 15 (mgmtLane (pkt [(8, 0x7000)])) < 9 ∧ portUp15.rxLane 15 (mgmtLane (pkt [(8, 0x7000)])) ∉ portUp15.spareLanes 15 ∧
    mgmtStatus (pkt []) = 0 ∧
    mgmtStatus w1 ≠ 0 ∧
    (recovering).memWf = true ∧
    (recovering).portPlot 15 = some 0 ∧
    (((recovering).plot 0).cmt.hold.map (·.recovery)) = some true ∧
    mgmtStatus w1 = 1 ∧
    portUp15.testRefused 15 8 = false ∧
    portUp15.laneState 15 8 ≠ 7 ∧ (portUp15.lane 15 8).inSeq = false ∧ (portUp15.port 15).only = 0 ∧
    (let s4 := puts [(Reg.LNK_PORT_STAT 15, 27, 1, 1)] portUp15
     s4.memWf = true ∧ s4.testRefused 15 8 = true) ∧
    (puts [(Reg.LNK_PORT_VER 15, 16, 16, 0x100)] up).fld (Reg.LNK_PORT_VER 15) 16 16 = 0x100 ∧
    s1.memWf = true ∧
    (s1.port 15).testCmd = 1 ∧ (∃ e ∈ s1.cmd.store, e.id = (s1.port 15).testCmd) ∧
    portUp15.fld (Reg.LNK_PORT_VER 15) 16 16 ≠ 0x100 := by decide +kernel

/-- Plot 0 runs with port 15 and one entry in the active half of its exchange table. -/
def exchanging (ph : Phase) (entry : Nat) : State :=
  let s := puts [(Reg.XCH_RGN_CFG 0, 0, 11, 1), (Reg.LNK_PORT_TXMAP 15, 0, 32, 0x76543210), (Reg.LNK_PORT_RXMAP 15, 0, 32, 0x76543210),
    (Reg.LNK_LANE_STAT 15 7, 28, 4, 6), (Reg.LNK_PORT_STAT 15, 29, 1, 1)]
    (fieldPlot ph fun x => { x with res := { x.res with ports := [15] } })
  { s with xch := { s.xch with xtCopy := [(0, BitVec.ofNat 64 entry)] } }

/-- An entry that receives group 2 of frame 0 of lane 7 of port 15, and one that sends it. -/
def recvEntry : Nat := 2 ^ 55 + 1 * 2 ^ 53 + 2 * 2 ^ 33 + 15 * 2 ^ 29 + 7 * 2 ^ 26 + 5 * 2 ^ 18

def sendEntry : Nat := 2 ^ 55 + 2 * 2 ^ 33 + 15 * 2 ^ 29 + 7 * 2 ^ 26

/-- The frame expected in pass 7: type DATA, index 0, PN modulo 4 = 3. -/
def dataFrame : BitVec 896 := scramble 7 (mkFrame (3 * 2 ^ 4) (groupsPayload [0, 0, 0xabcd] * 2 ^ 720))

/-- An IDLE frame on lane 7. -/
def idleFrame : BitVec 896 := scramble 7 (mkFrame (2 ^ 28 + 63 * 2 ^ 6) 0)

/-- Meets the hypotheses of FramesGiveTheirGroups. -/
theorem witness_frames :
    let s1 : State := exchanging (.step 3) recvEntry
    s1.memWf = true ∧
    s1.inject = [] ∧
    s1.pwrState = 0 ∧
    s1.laneState 15 8 = 0 ∧
    (s1.rxSlot 15 8 7 0).wanted = false ∧
    s1.laneState 15 7 = 6 ∧
    (s1.rxSlot 15 7 7 0).plot = some 0 ∧
    (s1.rxSlot 15 7 7 0).wanted = true ∧
    ((s1.rxOpen 15 7 (s1.unInvert 15 7 dataFrame)).map fun d => (nfld d.hdr 28 4, (s1.rxSlot 15 7 7 0).mismatch d.hdr)) = some (0, false) ∧
    (-16 : Int) ≤ 16 ∧ (16 : Int) ≤ 16 ∧
    s1.rxOpen 15 7 (s1.unInvert 15 7 0xffff) = none ∧
    (s1.lane 15 7).undecoded < 7 ∧
    (portUp15.memWf = true ∧ portUp15.inject = [] ∧ portUp15.pwrState = 0 ∧ portUp15.laneState 15 7 = 6 ∧
      portUp15.markEn 15 = false) ∧
    (portUp15.rxSlot 15 7 0 0).plot = none ∧
    ((portUp15.rxOpen 15 7 (portUp15.unInvert 15 7 idleFrame)).map fun d =>
      (nfld d.hdr 28 4, (portUp15.rxSlot 15 7 0 0).mismatch d.hdr)) = some (1, false) := by decide +kernel

/-- Meets the hypotheses of SlotsSendAndGroupsArePresented. -/
theorem witness_slots_send :
    let s1 : State := let s := exchanging (.step 3) 0; { s with xch := { s.xch with held := [({ plot := 0, relay := false, dst := 0, grp := 5, pn := 7, step := 3, sentPn := 7, carried := false, data := 0x1234, port := 15, done := false } : GroupHeld)] } }
    let s2 : State := let s := puts [(Reg.LNK_LANE_STAT 15 0, 28, 4, 6)] (exchanging .stopped 0); { s with xch := { s.xch with ctrlQ := [({ words := pkt [(1, 5)], port := 15, high := true } : CtrlWait)] } }
    let s3 : State := exchanging (.head .commit) sendEntry
    let s4 : State := exchanging .stopped 0
    s3.memWf = true ∧
    (let s5 := puts [(Reg.LNK_PORT_TXMAP 15, 0, 32, 0x76543218)] up
     s5.txLogical 15 0 = 8 ∧ s5.laneState 15 0 ≠ 7 ∧ s5.laneState 15 0 ≠ 8 ∧ (s5.lane 15 0).inSeq = false) ∧
    s3.txLogical 15 7 < 8 ∧
    s3.laneState 15 7 = 6 ∧
    (s3.lane 15 7).inSeq = false ∧
    s3.dataDue 15 (s3.txLogical 15 7) = some (0, 0) ∧
    s3.frameClaims 0 15 (s3.txLogical 15 7) 0 ≠ [] ∧
    s4.dataDue 15 (s4.txLogical 15 7) = none ∧
    ((s4.slotMark 15 (s4.txLogical 15 7)).port 15).markNow = false ∧
    s4.ctrlNext 15 ((natsFrom 0 (s4.txLogical 15 7)).filter fun j => (s4.slotMark 15 (s4.txLogical 15 7)).slotFree 15 j).length = none ∧
    (let s6 := s4.onLane 15 7 fun x => { x with markDue := true }
     s6.memWf = true ∧ s6.laneState 15 7 = 6 ∧ (s6.lane 15 7).inSeq = false ∧ s6.dataDue 15 (s6.txLogical 15 7) = none ∧
      ((s6.slotMark 15 (s6.txLogical 15 7)).port 15).markNow = true) ∧
    s2.memWf = true ∧ s2.laneState 15 0 = 6 ∧ (s2.lane 15 0).inSeq = false ∧ ((s2.slotMark 15 0).port 15).markNow = false ∧
    s2.txLogical 15 0 = 0 ∧ s2.dataDue 15 0 = none ∧
    cellsWf 0x5555 s1.sw.pres = true ∧
    s2.idleDue 15 0 = false ∧
    s2.ctrlNext 15 0 = some ({ words := pkt [(1, 5)], port := 15, high := true } : CtrlWait) ∧
    (s1.plot 0).tm.phase = .step 3 ∧
    (s1.xch.held.filter fun h => h.plot == 0 && !h.relay && h.pn == (s1.plot 0).tm.pn && h.step == 3 && !h.done) = [({ plot := 0, relay := false, dst := 0, grp := 5, pn := 7, step := 3, sentPn := 7, carried := false, data := 0x1234, port := 15, done := false } : GroupHeld)] ∧
    s1.memWf = true := by decide +kernel

/-- Meets the hypotheses of Bar4ReachesOwnedPages. -/
theorem witness_bar4 :
    let s1 : State := puts [(Reg.MEM_WIN_BASE 0, 0, 15, 1)] (sowAt 3)
    s1.memWf = true ∧
    s1.hostDown 0 = false ∧
    s1.running = true ∧
    s1.bit Reg.MEM_STAT 0 = true ∧
    s1.inject = [] ∧
    (puts [(Reg.MEM_WIN_BASE 0, 0, 15, 24576)] up).fld (Reg.MEM_WIN_BASE 0) 0 15 = 24576 ∧
    s1.fld (Reg.MEM_WIN_BASE 0) 0 15 = 1 ∧
    s1.bar4Mine 0 1 = true ∧
    16 % mib2 + 4 ≤ mib2 ∧
    s1.pageHolder 1 = some (0, 0) ∧
    s1.plotRuns 0 = false ∧
    s1.ecc = [] ∧
    (let s3 : State := { s1 with pwr := { s1.pwr with d3 := [0] } }
     s3.memWf = true ∧ s3.hostDown 0 = true) ∧
    (let s4 := puts [(Reg.MEM_STAT, 0, 1, 0)] s1
     s4.memWf = true ∧ s4.hostDown 0 = false ∧ s4.running = true ∧ s4.bit Reg.MEM_STAT 0 = false) ∧
    (State.reset.memWf = true ∧ State.reset.hostDown 0 = false ∧ State.reset.running = false) ∧
    mib2 < (mib2 - 2) % mib2 + 4 ∧
    (let s2 := fieldPlot (.step 3) fun x => { x with res := { x.res with map := [⟨0, 1, false⟩] } }
     s2.memWf = true ∧ s2.bar4Mine 0 0 = true ∧ s2.pageHolder 0 = some (0, 1) ∧ s2.plotRuns 0 = true) ∧
    (puts [(Reg.MEM_WIN_BASE 1, 0, 15, 1)] (sowAt 3)).bar4Mine 1 1 = false := by decide +kernel

/-- A CTRL packet with its CRC. -/
def sealedPkt (ws : List (Nat × Nat)) : List Word :=
  (pkt ws).take 23 ++ [BitVec.ofNat 32 (crc32c (wordsBytes ((pkt ws).take 23)))]

/-- Meets the hypotheses of ControlPacketsAreCheckedFirst. -/
theorem witness_packets :
    let w1 : List Word := sealedPkt [(0, 0x18000000), (1, 9)]
    let w2 : List Word := sealedPkt [(0, 0x78000000), (1, 9)]
    let s1 : State := { up with xch := { up.xch with seen := [(0, 9)] } }
    let w3 : List Word := pkt [(1, 0x50000), (8, 7), (10, 0x20000), (11, 9)]
    let w4 : List Word := sealedPkt [(0, 0x80000000)]
    let w5 : List Word := sealedPkt [(0, 0xe0000000)]
    up.memWf = true ∧
    pktCrcOk (pkt []) = false ∧
    pktCrcOk (sealedPkt []) = true ∧ (parsePkt (sealedPkt [])).ptype = 0 ∧
    pktCrcOk w4 = true ∧ (parsePkt w4).ptype = 8 ∧
    pktCrcOk w5 = true ∧ (parsePkt w5).ptype = 14 ∧
    s1.memWf = true ∧
    pktCrcOk w1 = true ∧ (parsePkt w1).ptype = 1 ∧ (parsePkt w1).flood = true ∧ s1.xch.seen.contains ((parsePkt w1).src, (parsePkt w1).seq) = true ∧
    pktCrcOk w2 = true ∧ (parsePkt w2).ptype = 7 ∧ (parsePkt w2).flood = true ∧ s1.xch.seen.contains ((parsePkt w2).src, (parsePkt w2).seq) = true ∧
    (let w6 := sealedPkt [(0, 0x20420000), (8, 2)]
     pktCrcOk w6 = true ∧ (parsePkt w6).flood = false ∧ (parsePkt w6).hidx = (parsePkt w6).nhop ∧ (parsePkt w6).dst = up.devId ∧
      (parsePkt w6).ptype = 2 ∧ ctlSub w6 = 2) ∧
    (let w7 := sealedPkt [(0, 0x20400000), (4, 15)]
     pktCrcOk w7 = true ∧ (parsePkt w7).flood = false ∧ (parsePkt w7).hidx < (parsePkt w7).nhop ∧
      portUp15.portUp ((parsePkt w7).hop (parsePkt w7).hidx) = true) ∧
    (let w8 := sealedPkt [(0, 0x20000000), (3, 3 * 2 ^ 14)]
     pktCrcOk w8 = true ∧ (parsePkt w8).flood = false ∧ (parsePkt w8).hidx = (parsePkt w8).nhop ∧ (parsePkt w8).dst ≠ up.devId) ∧
    (let w9 := sealedPkt [(0, 0x38000000), (1, 0x50009)]
     pktCrcOk w9 = true ∧ (parsePkt w9).flood = true ∧ (parsePkt w9).ptype = 3 ∧
      up.xch.seen.contains ((parsePkt w9).src, (parsePkt w9).seq) = false ∧ up.strangeTag (parsePkt w9) = true ∧
      (sowAt 5).strangeTag (parsePkt w9) = false) ∧
    (∀ w ∈ [sealedPkt [(0, 0x48000000), (1, 9)], sealedPkt [(0, 0x48000000), (1, 0x50009)]],
      pktCrcOk w = true ∧ (parsePkt w).flood = true ∧ (parsePkt w).ptype = 4 ∧
        (sowAt 5).xch.seen.contains ((parsePkt w).src, (parsePkt w).seq) = false ∧ (sowAt 5).strangeTag (parsePkt w) = false) ∧
    up.portUp 15 = false ∧
    portUp15.portUp 15 = true ∧
    up.plotByTag (pktTag w3) = none ∧
    (sowAt 5).plotByTag (pktTag w3) = some 0 := by decide +kernel

/-- A hold of a plot whose first device is another one. -/
def followingHold (recovery : Bool) : State :=
  let s := recovering recovery
  (puts [(Reg.XCH_DEV_ID, 0, 18, 9)] s).onPlot 0 fun x => { x with img := { x.img with devices := [9, 8] } }

/-- Meets the hypotheses of PlotPacketsReachTheirPlot. -/
theorem witness_plot_packets :
    let w1 : List Word := pkt [(1, 0x50000), (8, 7), (10, 2)]
    let s1 : State := withPlot 5 (let x := atPhase (.step 3) plotA; { x with tm := { x.tm with notices := [(0, 7)] } }) up
    let s2 : State := rel (.step 3)
    let w2 : List Word := pkt [(1, 0x50000), (9, 6), (11, 500)]
    let w3 : List Word := pkt [(1, 0x50000), (8, 0x10000), (9, 6)]
    let s3 : State := followingHold false
    let s4 : State := followingHold true
    s1.memWf = true ∧
    s1.plotByTag (pktTag w1) = some 0 ∧
    (s1.plot 0).tm.notices.contains (pktSrc w1, word64 w1 8) = true ∧
    s2.memWf = true ∧
    s2.plotByTag (pktTag w1) = some 0 ∧
    (s2.plot 0).tm.notices.contains (pktSrc w1, word64 w1 8) = false ∧
    (s2.plot 0).tm.cpn ≤ word64 w1 8 ∧
    (s2.plot 0).tm.headTop ≤ word64 w1 8 ∧
    s2.stretchOf 0 (word64 w1 8) < wordAt w1 10 % 16 ∧
    ctlStatus w3 ≠ 0 ∧
    s2.plotByTag (pktTag w3) = some 0 ∧
    s3.memWf = true ∧
    s3.plotByTag (pktTag w2) = some 0 ∧
    ((s3.plot 0).cmt.hold.map fun h => (h.ready, h.sent, h.recovery)) = some ([], none, false) ∧
    s3.coordinator 0 = false ∧
    s4.memWf = true ∧
    s4.plotByTag (pktTag w2) = some 0 ∧
    ((s4.plot 0).cmt.hold.map fun h => (h.ready, h.sent, h.recovery)) = some ([], none, true) ∧
    s4.coordinator 0 = false ∧
    ctlStatus w2 = 0 ∧
    s2.plotBusy 0 = true ∧
    s2.cmtState 0 ≠ 6 ∧
    s2.cmtState 0 ≠ 7 ∧
    (let s5 := s2.onTm 0 fun t => { t with headTop := 8 }
     s5.memWf = true ∧ s5.plotByTag (pktTag w1) = some 0 ∧ (s5.plot 0).tm.notices = [] ∧ (s5.plot 0).tm.cpn ≤ word64 w1 8 ∧
      word64 w1 8 < (s5.plot 0).tm.headTop ∧ s5.stretchOf 0 (word64 w1 8) < wordAt w1 10 % 16 ∧ s5.plotBusy 0 = true ∧
      s5.cmtState 0 = 0) ∧
    (∃ d ∈ s3.devicesOf 0, d ≠ pktSrc w2 ∧ (ctlPn w2, d, 0) ∉ (s3.plot 0).cmt.done) ∧
    (let s6 := (s2.onCmt 0 fun c => { c with area0 := some ⟨6, [], [], [], [], [], []⟩ }).onPlot 0 fun x =>
        { x with img := { x.img with devices := [0] } }
     s6.memWf = true ∧ s6.plotByTag (pktTag w2) = some 0 ∧ (∀ d ∈ s6.devicesOf 0, d = pktSrc w2) ∧
      (s6.plot 0).cmt.area0.map (·.pn) = some (ctlPn w2)) ∧
    (let s7 := rel .stopped
     s7.memWf = true ∧ s7.plotByTag (pktTag w1) = some 0 ∧ s7.plotBusy 0 = false ∧ (s7.plot 0).tm.launched = true ∧
      (s7.plot 0).cmt.diverge = false ∧ s7.cmtState 0 = 0) := by decide +kernel

/-- Queue pair 3 belongs to function 0 and is set up with 16 slots each: EN, the SQ tail the host gave. -/
def queues (en tail : Nat) (l : List (Nat × Nat × Nat × Nat) := []) : State :=
  let s := puts ([(Reg.CMD_FUNC_Q 0, 16, 13, 4), (Reg.CMD_FUNC_CFG 0, 0, 17, 64), (Reg.QCF_SIZE 3, 16, 12, 15), (Reg.QCF_SIZE 3, 0, 12, 15),
    (Reg.QCF_SQ_BASE_LO 3, 0, 32, 0x10000), (Reg.QCF_CQ_BASE_LO 3, 0, 32, 0x20000), (Reg.QCF_CTRL 3, 31, 1, en), (Reg.QCF_CTRL 3, 0, 11, 63)] ++ l) up
  { s with cmd := { s.cmd with sqTail := cset 0 s.cmd.sqTail 3 tail } }

/-- A finished command of queue pair 3. -/
def doneCmd : Cmd := { aCmd 0 255 [] with origin := .queue 3 2, stage := .finished }

/-- That command in the store of an enabled queue pair, or another. -/
def withDone (c : Cmd) (s : State) : State := { s with cmd := { s.cmd with nextId := 2, store := [c] } }

/-- Meets the hypotheses of QueuePairsAreDriven. -/
theorem witness_queue_pairs :
    let s1 : State := withDone { doneCmd with stage := .executing } (queues 1 0 [(Reg.QCF_INFLIGHT 3, 0, 17, 1)])
    (queues 0 0).memWf = true ∧
    (queues 0 0).running = true ∧
    (queues 0 0).hostDown 0 = false ∧
    (queues 0 0).sqLast 3 < 16 ∧
    (queues 0 0).sqLast 3 = 15 ∧
    (queues 0 0).cqLast 3 = 15 ∧
    (2 ^ 31 + 63).testBit 31 = true ∧
    (queues 0 0).queueEn 3 = false ∧
    (queues 0 0).queueOwner 3 = some 0 ∧
    (queues 0 0).sqBase 3 % 4096 = 0 ∧
    (queues 0 0).cqBase 3 % 4096 = 0 ∧
    nfld (2 ^ 31 + 63) 0 11 < vectors 0 ∧
    (queues 1 1).queueEn 3 = true ∧
    (queues 1 1).inflight 3 = 0 ∧
    s1.queueEn 3 = true ∧
    s1.inflight 3 ≠ 0 ∧
    (queues 0 0).rangeBad 63 (nfld 262144 0 12) (nfld 262144 16 13) = true ∧
    (queues 0 0).rangeBad 63 (nfld 268238852 0 12) (nfld 268238852 16 13) = true ∧
    (queues 0 0).rangeBad 63 (nfld 4198336 0 12) (nfld 4198336 16 13) = false ∧
    (queues 1 1).inject = [] ∧
    (queues 1 1).fetchable 3 = true ∧
    (queues 1 1).hasCredit 3 = true ∧
    (queues 1 1).cmd.fetchStop = false ∧
    ((queues 1 1).host.refused = [] ∧ (queues 1 1).host.withdrawn = []) ∧
    (cellsWf 0 (queues 0 0).cmd.sqTail = true ∧ cellsWf 0 (queues 0 0).cmd.cqHead = true) ∧
    (queues 1 1).queueOwner 3 = some 0 ∧ (queues 1 1).cmd.store.length < 65536 ∧
    ((queues 0 0).cqTail 3 + 1) % ((queues 0 0).cqLast 3 + 1) ≠ 15 := by decide +kernel

/-- Meets the hypotheses of CommandsFlowToTheirCompletion. -/
theorem witness_command_flow :
    let s1 : State := let s := queues 1 0 [(Reg.QCF_CTRL 3, 30, 1, 1), (Reg.QCF_INT 3, 0, 16, 5)]; { s with cmd := { s.cmd with coalesce := cset 0 s.cmd.coalesce 3 7 }, host := { s.host with unmasked := cset false s.host.unmasked 63 true } }
    let s2 : State := withDone { aCmd 0x40 0 [] with stage := .ready } up
    let s3 : State := withDone doneCmd (queues 1 0)
    s2.memWf = true ∧
    s2.executing true = 0 ∧
    (s2.plot 0).id.zeroing = false ∧
    s2.nextReady (fun c => fastOp c.opc) = some { aCmd 0x40 0 [] with stage := .ready } ∧
    (∀ opc ∈ [0x00, 0xff], let c := { aCmd opc 0 [] with stage := .ready }
      let s5 := withDone c up
      s5.nextReady (fun c => fastOp c.opc) = none ∧ s5.executing false < 4 ∧ s5.nextReady (fun c => !(fastOp c.opc)) = some c ∧
        c ∈ s5.cmd.store ∧ c.opc = opc) ∧
    (let s6 : State := { withDone { doneCmd with done := 1 } (queues 1 0) with
        cmd := { (queues 1 0).cmd with store := [{ doneCmd with done := 1 }, { doneCmd with id := 2 }] } }
     s6.cmdOf 1 = some { doneCmd with done := 1 } ∧ s6.endsFirst { doneCmd with done := 1 } = false) ∧
    s3.memWf = true ∧
    s3.cmdOf 1 = some doneCmd ∧
    doneCmd.stage = .finished ∧
    doneCmd.origin = .queue 3 2 ∧
    s3.bit (Reg.QCF_STAT 3) 6 = false ∧
    s3.hostDown 0 = false ∧
    s3.cqFull 3 = false ∧
    (s3.host.refused = [] ∧ s3.host.withdrawn = [] ∧ s3.endsFirst doneCmd = true ∧ s3.cmd.waiting = []) ∧
    (let s := withDone doneCmd (queues 1 0); { s with cmd := { s.cmd with cqHead := cset 0 s.cmd.cqHead 3 1 } }).cqFull 3 = true ∧
    s1.memWf = true ∧
    s1.queueOwner 3 = some 0 ∧
    s1.bit (Reg.QCF_CTRL 3) 30 = true ∧
    s1.fld (Reg.QCF_INT 3) 0 16 ≠ 0 ∧
    cget 0 s1.cmd.coalesce 3 ≠ 0 ∧
    (let s4 := withDone { doneCmd with origin := .forwarded 7 3 } up
     s4.memWf = true ∧ s4.cmdOf 1 = some { doneCmd with origin := .forwarded 7 3 } ∧ s4.cmd.waiting = [] ∧
      s4.endsFirst { doneCmd with origin := .forwarded 7 3 } = true) ∧
    s1.ft.phaseEnd = none ∧
    s1.pwr.d3 = [] ∧
    cget false s1.host.funcMask 0 = false ∧
    cget false s1.host.unmasked (0 * 2048 + s1.queueVec 3) = true ∧
    63 < vectors 63 ∧
    2047 < vectors 0 := by decide +kernel

/-- Meets the hypotheses of HostAnswersAndForwarding. -/
theorem witness_host_answers :
    let s1 : State := withDone { aCmd 0x31 0 [] with origin := .queue 3 2, stage := .away } (queues 1 0 [(Reg.QCF_FWD_CFG 3, 0, 16, 9)])
    let w1 : List Word := pkt [(8, 0x30002), (9, 0x0700), (16, up.devId)]
    let s2 : State := { up with host := { up.host with pageReqs := [(0, 5)] } }
    let w2 : List Word := pkt [(1, 0x50000), (8, 1)]
    up.memWf = true ∧
    ((0 : Nat), 5) ∉ up.host.pageReqs ∧
    s2.memWf = true ∧
    ((0 : Nat), 5) ∈ s2.host.pageReqs ∧
    s2.host.pageWait = [] ∧
    (sowAt 5).plotByTag (pktTag w2) = some 0 ∧
    nfld (wordAt w2 8) 0 8 = 1 ∧
    (sowAt 5).cmd.store.length < 65536 ∧
    nfld (wordAt w1 8) 0 8 = 2 ∧
    nfld (wordAt w1 16) 0 18 = s1.devId ∧
    nfld (wordAt w1 9) 8 8 ≠ 0 ∧
    (s1.cmd.store.find? fun c => c.stage == .away && c.tag == wordAt w1 9 / 65536 && match c.origin with
        | .queue k _ => k == nfld (wordAt w1 8) 16 12
        | .forwarded _ _ => false) = some { aCmd 0x31 0 [] with origin := .queue 3 2, stage := .away } ∧
    s1.memWf = true ∧
    s1.cmdOf 1 = some { aCmd 0x31 0 [] with origin := .queue 3 2, stage := .away } ∧
    s1.fld (Reg.QCF_FWD_CFG 3) 0 16 ≠ 0 := by decide +kernel

/-- Meets the hypotheses of HostAnswersAndForwarding: a full matching store. -/
theorem witness_store_full :
    let s : State := sowAt 5
    let s1 : State := { s with cmd := { s.cmd with store := List.replicate 65536 doneCmd } }
    65536 ≤ s1.cmd.store.length ∧ s1.memWf = s.memWf ∧ s1.plotByTag = s.plotByTag :=
  ⟨(List.length_replicate ..).ge, rfl, rfl⟩

/-- Meets the hypotheses of FieldTimeEvents. -/
theorem witness_field_time :
    let s1 : State := let s := puts [(Reg.FT_CFG, 10, 1, 1)] up; { s with ft := { s.ft with ppsOut := true } }
    let s2 : State := puts [(Reg.FT_CFG, 10, 1, 1), (Reg.FT_PPS_OUT_OFS, 0, 30, 999999999)] up
    let s3 : State := puts [(Reg.FT_CFG, 11, 1, 1), (Reg.FT_STAT, 8, 8, 0)] up
    up.memWf = true ∧
    up.portUp 15 = false ∧
    State.reset.running = false ∧
    cellsWf {} up.ft.ports = true ∧
    portUp15.memWf = true ∧ cellsWf {} portUp15.ft.ports = true ∧
    (portUp15.xch.ctrlQ.filter (fun w => w.port == 15)).length < 64 ∧
    portUp15.portUp 15 = true ∧
    portUp15.running = true ∧
    up.bit Reg.FT_STAT 23 = false ∧
    (puts [(Reg.FT_STAT, 23, 1, 1)] up).bit Reg.FT_STAT 23 = true ∧
    s3.bit Reg.FT_CFG 11 = true ∧
    s3.isGm = true ∧
    s3.memWf = true ∧ cellsWf {} s3.ft.ports = true ∧
    (s3.ft.first = false ∧ s3.rg Reg.FT_PPS_OFS = 0 ∧ s3.ftNs % 10 ^ 9 ≤ 5 * 10 ^ 8) ∧
    up.bit Reg.FT_CFG 11 = false ∧ up.bit Reg.FT_CFG 10 = false ∧
    s2.memWf = true ∧ s1.memWf = true ∧
    s2.bit Reg.FT_CFG 10 = true ∧
    s2.fld Reg.FT_PPS_OUT_OFS 0 30 < 10 ^ 9 ∧
    s2.ft.ppsOut = false ∧
    s1.bit Reg.FT_CFG 10 = true ∧
    s1.fld Reg.FT_PPS_OUT_OFS 0 30 < 10 ^ 9 ∧
    s1.ft.ppsOut = true := by decide +kernel

/-- Meets the hypotheses of FieldIoEvents. -/
theorem witness_field_io :
    let s1 : State := up.onFio 11 fun x => { x with running := true, lastEdge := 9 }
    (up.fio 11).running = false ∧
    s1.memWf = true ∧
    (s1.fio 11).running = true ∧
    (s1.fio 11).lastEdge ≠ 0 ∧
    s1.rn (Reg.FIO_RFX0 11 (s1.fio 11).reflex) = 0 ∧
    s1.rn (Reg.FIO_RFX1 11 (s1.fio 11).reflex) = 0 ∧
    nfld (s1.rn (Reg.FIO_RFX2 11 (s1.fio 11).reflex)) 0 4 = 0 := by decide +kernel

/-- Meets the hypotheses of ResetsReach. -/
theorem witness_resets :
    let s1 : State := { up with pwr := { up.pwr with tripped := true } }
    up.memWf = true ∧
    up.pwr.tripped = false ∧
    up.links = 1 ∧
    ((Instr.perstN 0 7, 1) : Instr × Nat) ∈ [(Instr.perstN 0 7, 1), (Instr.dlDown 0 7, 2)] ∧
    s1.memWf = true ∧
    s1.pwr.tripped = true ∧
    up.links ≤ 1 ∧
    up.hostDown 0 = false ∧
    up.linksDown = false ∧
    up.enabledFn 0 = true ∧
    up.enabledFn 63 = false := by decide +kernel

/-- Meets the hypotheses of PowerAndClockEvents. -/
theorem witness_power_clock :
    let s1 : State := { up with pwr := { up.pwr with refLost := true } }
    let s2 : State := { up with pwr := { up.pwr with d3 := [0] } }
    up.memWf = true ∧
    up.linksDown = false ∧
    up.enabledFn 0 = true ∧
    up.pwr.d3.contains 0 = false ∧
    s2.memWf = true ∧
    s2.linksDown = false ∧
    s2.pwr.d3.contains 0 = true ∧
    up.pwr.refLost = false ∧
    up.pwr.tripped = false ∧
    s1.memWf = true ∧
    s1.pwr.refLost = true ∧
    s1.pwr.tripped = false ∧
    0 < up.links ∧
    (State.reset.boot.cfgReady.contains 0 = false ∧ State.reset.linksDown = false) ∧
    ([64] : List Int) ≠ [] ∧
    up.pwr.hot < 2 := by decide +kernel

/-- Meets the hypotheses of BanksAreHandedOver. -/
theorem witness_banks :
    let s1 : State := { up with tile := { up.tile with handover := [(5, true)] } }
    up.memWf = true ∧
    up.hostDown 0 = false ∧
    up.running = true ∧
    up.bit (Reg.SPM_BANK_OWNER 62) 29 = false ∧
    up.bridgeBank 62 = false ∧
    (puts [(Reg.SPM_BANK_OWNER 5, 29, 1, 1)] up).bit (Reg.SPM_BANK_OWNER 5) 29 = true ∧
    (puts [(Reg.FIO_PORT_CFG 0, 30, 2, 2), (Reg.FIO_BRG_CFG 0, 26, 6, 7)] (sowAt 5)).bridgeBank 7 = true ∧
    ∀ e ∈ up.tile.handover, e.1 ≠ 5 ∧
    s1.memWf = true ∧
    s1.tile.handover.find? (fun e => e.1 == 5) = some (5, true) := by decide +kernel

/-- Meets the hypotheses of ScratchpadIsReadAndWritten. -/
theorem witness_scratchpad :
    up.memWf = true ∧
    up.hostDown 0 = false ∧
    up.running = true ∧
    up.inject = [] ∧
    up.ecc = [] ∧
    2 ^ 24 < 16777212 + 5 ∧
    16777212 % 4 = 0 ∧ 16777212 + 4 ≤ 2 ^ 24 ∧
    ([1, 2, 3, 4] : List Byte).length = 4 ∧
    65532 % 4 = 0 ∧ 65532 < 2 ^ 16 := by decide +kernel

/-- Meets the hypotheses of FaultRegistersAct. -/
theorem witness_fault_registers :
    up.memWf = true ∧
    up.hostDown 0 = false ∧
    (up.gate 0 (Reg.FUR_FIRST_ACK 527)).isRight = true ∧
    (up.gate 0 (Reg.FUR_HIST_ACK 527)).isRight = true ∧
    (up.gate 0 (Reg.CMD_FI_CTRL)).isRight = true ∧
    (blkOfAck (Reg.FUR_FIRST_ACK 527)).isSome = true ∧
    (blkOfHistAck (Reg.FUR_HIST_ACK 527)).isSome = true ∧
    injectStat Reg.CMD_FI_CTRL = some (Reg.CMD_STAT, false) ∧
    up.boot.lifecycle ≠ 0 ∧
    (factory up).memWf = true ∧
    (factory up).hostDown 0 = false ∧
    ((factory up).gate 0 Reg.CMD_FI_CTRL).isRight = true ∧
    (factory up).boot.lifecycle = 0 ∧
    (2 ^ 31).testBit 31 = true ∧
    armOk (2 ^ 31) ((factory up).rn (Reg.CMD_FI_CTRL + 4)) Reg.CMD_STAT false = true ∧
    (0 : Nat).testBit 31 = false ∧
    up.running = true := by decide +kernel

/-- Meets the hypotheses of SettingsAreTaken. -/
theorem witness_settings :
    let s1 : State := puts [(Reg.FUR_GATE 255, 31, 1, 1)] ((sowAt 5).onPlot 0 fun x => { x with id := { x.id with locked := true } })
    let s2 : State := puts [(Reg.FUR_GATE 255, 31, 1, 1)] up
    up.memWf = true ∧
    up.hostDown 0 = false ∧
    up.running = true ∧
    (2 ^ 31).testBit 31 = true ∧
    (sowAt 5).anyReleased = true ∧
    up.anyReleased = false ∧
    s1.memWf = true ∧
    s1.gateLocked 255 = true ∧
    up.gateLocked 255 = false ∧
    bar0Size ≤ bar0Size ∧
    up.linksDown = false ∧
    up.enabledFn 0 = true ∧
    cellsWf false up.host.ats = true ∧
    s2.bit (Reg.FUR_GATE 255) 31 = true ∧ s2.gateLocked 255 = false := by decide +kernel

/-- Plot 0 in its headland with a corrected word of its first furrow to write back. -/
def writingBack : State :=
  let s := inHead .latch {}
  let s := { s with gln := { s.gln with writes := [((s.plotPhys 0).headD 0, 1, 3)] } }
  { s with ecc := cset 0 s.ecc (eccKey 1 3) 1 }

/-- The same with a seed shadow and the configuration item of an index, its word corrected or lost. -/
def rewriting (idx mark : Nat) : State :=
  let s := writingBack.onPlot 0 fun x => { x with img := { x.img with shadow := [⟨1, 1, 0, []⟩] } }
  { s with gln := { s.gln with writes := [((s.plotPhys 0).headD 0, Item.psw, idx)] }, ecc := cset 0 [] (eccKey Item.psw idx) mark }

/-- Sequencer 0 stands at a corrected descriptor of a furrow that no plot runs on. -/
def sweeping : State :=
  let n := up.nextPlace 0 132096
  let e := placeItem 0 n
  { up with gln := { up.gln with pos := cset 0 up.gln.pos 0 132096 }, ecc := cset 0 [] (eccKey e.1 e.2) 1 }

/-- Meets the hypotheses of GleanerSequencersRun: an item corrected by the sweep, and one beyond L or rebuilt at a write point. -/
theorem witness_gleaner_items :
    (sweeping.memWf = true ∧ sweeping.inject = [] ∧ cellsWf 0 sweeping.gln.pos = true ∧ cellsWf 0 sweeping.ecc = true) ∧
    sweeping.seqRuns 0 = true ∧ sweeping.gln.prio = [] ∧ sweeping.sw.plans = [] ∧
    (let item := placeItem 0 (sweeping.nextPlace 0 (cget 0 sweeping.gln.pos 0))
     sweeping.nextPlace 0 (cget 0 sweeping.gln.pos 0) + 1 < sweepPlaces 0 ∧ item.1 ≠ Item.select ∧ item.1 ≠ Item.xt ∧
      sweeping.itemPlot item.1 item.2 = none ∧ sweeping.beyondL item.1 item.2 = false ∧ sweeping.eccAt item.1 item.2 = 1 ∧
      sweeping.rn (Reg.GLN_CNT 0) < 0xffffffff) ∧
    (let s1 := rewriting 3 2
     s1.memWf = true ∧ s1.inject = [] ∧ cellsWf 0 s1.ecc = true ∧ s1.plotRuns 0 = true ∧ s1.writePoint 0 = true ∧
      s1.beyondL Item.psw 3 = false ∧ s1.eccAt Item.psw 3 = 2 ∧ s1.hasShadow (s1.itemPlot Item.psw 3) = true ∧
      s1.rn (Reg.GLN_CNT 1) < 0xffffffff) ∧
    (rewriting 16 2).beyondL Item.psw 16 = true ∧ (rewriting 16 2).writePoint 0 = true ∧ (rewriting 16 2).memWf = true := by
  decide +kernel

/-- Meets the hypotheses of GleanerSequencersRun. -/
theorem witness_gleaner :
    let s1 : State := { up with gln := { up.gln with upset := cset 0 [] 0x1003 1 } }
    let s2 : State := rel (.step 3)
    up.memWf = true ∧
    up.inject = [] ∧
    cellsWf 0 up.gln.pos = true ∧
    cellsWf 0 up.ecc = true ∧
    up.seqRuns 4 = false ∧
    up.seqRuns 3 = true ∧
    (∀ e ∈ up.gln.prio, prioSeq e ≠ 3) ∧
    up.sw.plans = [] ∧
    up.nextPlace 3 (cget 0 up.gln.pos 3) + 1 < sweepPlaces 3 ∧
    s2.plotRuns 0 = true ∧
    s2.writePoint 0 = false ∧
    writingBack.memWf = true ∧
    writingBack.inject = [] ∧
    cellsWf 0 writingBack.gln.pos = true ∧
    cellsWf 0 writingBack.ecc = true ∧
    writingBack.plotRuns 0 = true ∧
    writingBack.writePoint 0 = true ∧
    writingBack.gln.writes = [((writingBack.plotPhys 0).headD 0, 1, 3)] ∧
    (writingBack.plotPhys 0).contains ((writingBack.plotPhys 0).headD 0) = true ∧
    cget 0 writingBack.gln.wrCount ((writingBack.plotPhys 0).headD 0) < 8 ∧
    writingBack.beyondL 1 3 = false ∧
    writingBack.eccAt 1 3 = 1 ∧
    writingBack.rn (Reg.GLN_CNT 0) < 0xffffffff ∧
    s1.memWf = true ∧
    (s1.gln.upset = [(0x1003, 1)] ∧ 0x1003 ∈ triples ∧ cellsWf 0 s1.gln.upset = true ∧ up.gln.upset = []) ∧
    (up.patrolRuns = true ∧ (puts [(Reg.GLN_HBM_RATE, 0, 16, 0)] up).patrolRuns = false) ∧
    (let x : State := { up with gln := { up.gln with pos := cset 0 up.gln.pos 0 (acrePlaces + selPlaces) },
                                xch := { up.xch with xt := [(0, xtEncode 5 ^^^ 1)] } }
     x.seqRuns 0 = true ∧ placeItem 0 (x.nextPlace 0 (cget 0 x.gln.pos 0)) = (Item.xt, 0) ∧ x.itemPlot Item.xt 0 = none ∧
      xtDecode (cget 0 x.xch.xt 0) = .corrected 5 ∧ xtEncode 5 ≠ 0) ∧
    (let y := { writingBack with gln := { writingBack.gln with wrCount := [((writingBack.plotPhys 0).headD 0, 8)] } }
     y.plotRuns 0 = true ∧ y.gln.writes.length = 1 ∧ 8 ≤ cget 0 y.gln.wrCount ((writingBack.plotPhys 0).headD 0)) ∧
    (let z := { writingBack with gln := { writingBack.gln with writes := [(528, Item.xt, 7)] },
                                 xch := { writingBack.xch with xt := [(7, xtEncode 5 ^^^ 3)], xtCopy := [(7, xtEncode 5)] } }
     z.plotRuns 0 = true ∧ z.writePoint 0 = true ∧ xtDecode (cget 0 z.xch.xt 7) = .lost ∧ cget 0 z.xch.xtCopy 7 ≠ 0 ∧
      z.rn (Reg.GLN_CNT 1) < 0xffffffff) ∧
    2 ≤ (({ up with gln := { up.gln with stalls := [(3, 10), (3, 20)] } } : State).gln.stalls.filter fun e => e.1 == 3 && decide (20000000 < e.2 + 1000000000)).length := by decide +kernel

/-- Meets the hypotheses of BucketsDrainAndOverflow. -/
theorem witness_buckets :
    let s1 : State := puts [(Reg.GLN_BKT_CFG0 + 20, 16, 16, 9), (Reg.SPM_CE_BUCKET, 0, 16, 9)] up
    up.memWf = true ∧
    (up.gln.spilt = [] ∧ up.inject = [] ∧ up.gln.upset = []) ∧
    (∀ e ∈ bucketsOf 5, up.bktSize 5 = 0 ∨ up.fld e.1 0 16 < up.bktSize 5) ∧
    (∀ e ∈ bucketsOf 0, up.bktSize 0 = 0 ∨ up.fld e.1 0 16 < up.bktSize 0) ∧
    (Reg.FUR_CE_BUCKET 527, 527) ∈ bucketsOf 0 ∧
    (let s2 : State := { up with gln := { up.gln with spilt := [(0, Reg.FUR_CE_BUCKET 527)] } }
     s2.memWf = true ∧ s2.gln.spilt.contains (0, Reg.FUR_CE_BUCKET 527) = true) ∧
    (Reg.SPM_CE_BUCKET, 0) ∈ bucketsOf 5 ∧
    s1.memWf = true ∧
    s1.bktSize 5 ≠ 0 ∧
    s1.bktSize 5 ≤ s1.fld Reg.SPM_CE_BUCKET 0 16 := by decide +kernel

theorem witness_no_bucket (cls : Nat) : ∀ e ∈ bucketsOf cls, e.1 = 1 → up.bktSize cls = 0 ∨ up.fld 1 0 16 < up.bktSize cls := by
  intro e he h
  match cls with
  | 0 | 1 | 2 | 3 | 4 | 5 => simp only [bucketsOf, List.mem_map, List.mem_singleton] at he; (try obtain ⟨f, -, rfl⟩ := he); simp [Reg.FUR_CE_BUCKET, Reg.FUR_SW_CE_BUCKET, Reg.MEM_PC_CE_BUCKET, Reg.LNK_LANE_CE_BUCKET, Reg.XCH_CE_BUCKET, Reg.SPM_CE_BUCKET] at h; (try omega)
  | n + 6 => simp [bucketsOf] at he

/-- The monitor is open. -/
def opened : State := { up with svc := { up.svc with locked := false } }

/-- SHA-256 of 16 zero bytes and "password", and the first 16 bytes of HMAC-SHA-256 of 32 zero bytes under 32 bytes of 1, worked out
outside the model with a reference implementation of FIPS 180-4 and RFC 2104. -/
def passwordHash : List Byte :=
  [187, 90, 27, 252, 108, 247, 54, 184, 37, 226, 215, 200, 135, 79, 30, 201, 29, 124, 6, 5, 253, 179, 203, 167, 93, 177, 121, 3, 59, 5, 153, 28]

def answerWords : List Word := [0xc501d9a5, 0x75d82bb7, 0x750b41c6, 0x38e47635]

/-- The bytes of "password". -/
def password : List Byte := [112, 97, 115, 115, 119, 111, 114, 100]

/-- The monitor is locked, its keys fused. -/
def fusedKeys : State := { up with boot := { up.boot with keys := [(16, List.replicate 32 1), (17, passwordHash)] } }

/-- Meets the hypotheses of MonitorAnswersItsLines. -/
theorem witness_monitor :
    let s1 : State := { portOwned with svc := { up.svc with locked := false } }
    up.memWf = true ∧
    up.monSilent = false ∧
    up.running = true ∧
    up.monLocked = true ∧
    Instr.monTemp ∈ [Instr.monVer, .monTemp] ∧
    opened.memWf = true ∧
    opened.monSilent = false ∧
    opened.running = true ∧
    opened.monLocked = false ∧
    opened.peekOk (bar0Size - 4) 1 = true ∧
    opened.peekOk (bar0Size - 4) 2 = false ∧
    2 ^ 32 - 1 < 2 ^ 32 ∧
    (blkOfCode 1 527).isSome = true ∧
    (blkOfCode 1 528).isSome = false ∧
    opened.laneServes 15 8 = false ∧
    s1.laneServes 15 7 = true ∧
    s1.monLocked = false := by decide +kernel

/-- Meets the hypotheses of MonitorIsOpenedAndLocked. -/
theorem witness_unlock :
    let s1 : State := { up with svc := { up.svc with delayEnd := 1000 } }
    fusedKeys.memWf = true ∧
    fusedKeys.monSilent = false ∧
    fusedKeys.running = true ∧
    fusedKeys.monLocked = true ∧
    fusedKeys.waitS = 0 ∧
    8 ≤ password.length ∧ password.length ≤ 64 ∧
    (∀ b ∈ password, 0x21 ≤ b.toNat ∧ b.toNat ≤ 0x7e) ∧
    cget [] fusedKeys.boot.keys 17 ≠ [] ∧
    sha256 (bytes16 fusedKeys.boot.serial ++ password) = cget [] fusedKeys.boot.keys 17 ∧
    sha256 (bytes16 fusedKeys.boot.serial ++ password.reverse) ≠ cget [] fusedKeys.boot.keys 17 ∧
    answerWords.length = 4 ∧
    cget [] fusedKeys.boot.keys 16 ≠ [] ∧
    groupBytes answerWords = (hmacSha256 (cget [] fusedKeys.boot.keys 16) (bytes16 fusedKeys.svc.nonce ++ bytes16 fusedKeys.boot.serial)).take 16 ∧
    s1.memWf = true ∧
    s1.svc.delayEnd ≠ 0 ∧
    up.svc.delayEnd = 0 ∧
    up.hostDown 0 = false := by decide +kernel

/-- Meets the hypotheses of ServicePortsAnswer. -/
theorem witness_service_ports :
    let s1 : State := { up with svc := { up.svc with alert := true } }
    up.memWf = true ∧
    0 ∈ (sowAt 5).livePlots ∧
    (sowAt 5).sow 0 = Sow.released ∧
    up.monLocked = true ∧
    opened.monLocked = false ∧
    up.svc.scan = 0 ∧
    Instr.smbTmax ∈ [Instr.smbLifecycle, .smbTmax] ∧
    up.svc.sensor < 64 ∧
    (([5] : List Nat).getD 0 0) = 5 ∧
    s1.memWf = true ∧
    s1.svc.alert = true ∧
    s1.svc.scan = 0 := by decide +kernel

/-! ## Well-formed commands and ill-formed ones: one for each check -/

theorem test_wellFormed_accepts :
    [.commitDecision 15, .frameTransmit 15 8, .flr 63, .entryFetch 4095, .writeQueueDrain 63, .clkLost 11, .sortReq 63 (2 ^ 32 - 1),
      .firstAck 0 (2 ^ 26 - 4) 0, .perstN 3 (2 ^ 128 - 1), .nop 1, .launch 15 (pkt []), .scheduleStep 0 [(11, 2 ^ 32 - 1)],
      .thermalEvaluation (List.replicate 64 (-32768)), .bar4Access 0 0 4 none, .bar4Access 0 0 2 (some [1, 2]),
      .registerWrite 0 (.bar0 0) 0, .registerWrite 0 (.cfg (.vectorMask 2047)) 0, .remapActivate 0 31, .frameReceive 0 0 0 18 0 0,
      .bucketDrainTick 5, .timeSyncRecord 16, .porN 3 3 0, .zeroFillDone 9 0, .gateDeclare 0 255 0, .bankHandover 0 63 0, .handoverDone 63,
      .gleanerItemRead 3, .gleanerWatchdog 4, .scanInstruction 5, .smbSensorSelect 65535, .smbRailPower (List.replicate 21 0),
      .bootWindowWrite 0 (2 ^ 25 - 2) [1, 2], .msixUnmask 0 2047].all Instr.wellFormed = true := by decide +kernel

theorem test_wellFormed_refuses :
    [.commitDecision 16, .frameTransmit 16 0, .frameTransmit 0 9, .flr 64, .entryFetch 4096, .writeQueueDrain 64, .clkLost 12,
      .sortReq 0 (2 ^ 32), .firstAck 0 2 0, .firstAck 0 (2 ^ 26) 0, .perstN 0 (2 ^ 128), .perstN 4 0, .nop 0, .launch 15 [],
      .scheduleStep 0 [(12, 0)], .scheduleStep 0 [(0, 2 ^ 32)], .thermalEvaluation [0], .thermalEvaluation (List.replicate 64 32768),
      .bar4Access 0 0 0 none, .bar4Access 0 0 3 (some [1, 2]), .registerWrite 0 (.bar0 1) 0, .registerWrite 0 (.cfg (.vectorMask 2048)) 0,
      .remapActivate 0 32, .frameReceive 0 0 0 19 0 0, .bucketDrainTick 6, .timeSyncRecord 17, .porN 4 0 0, .porN 0 4 0, .zeroFillDone 10 0,
      .gateDeclare 0 256 0, .bankHandover 0 64 0, .handoverDone 64, .gleanerItemRead 4, .gleanerWatchdog 5, .scanInstruction 6,
      .smbSensorSelect 65536, .smbRailPower [0], .smbRailPower (List.replicate 21 65536), .bootWindowWrite 0 (2 ^ 25 - 1) [1, 2],
      .msixUnmask 0 2048].all (fun i => !Instr.wellFormed i) = true := by decide +kernel

/-! ## Values worked out in the manual -/

/-- R2, R64-R66: AND2 of a known 0 and X is 0 in exact-X and X in pessimistic-X. -/
theorem test_and2_of_x : lutEval 2 0x8888 .v0 .vx .v0 .v0 = .v0 ∧ lutEval 3 0x8888 .v0 .vx .v0 .v0 = .vx := by decide +kernel

/-- The flip-flop with enable of 02_boolean_processor.md: the fields of its instruction word, and b ? a : c with an unknown enable. -/
theorem test_bp_word :
    bpWord 0x1B8B8A0B41A08E008880 =
      { op := 1, tt := 0xB8B8, srcA := 1285, srcB := 1286, srcC := 1041, srcD := 1536, sw := true, sslot := 17, xm := 0
        prb := false, pp := false, rsvd := 0 } ∧ lutEval 2 0xB8B8 .v1 .vx .v1 .v0 = .v1 := by decide +kernel

/-- 05_design_memory.md: the values 1, 0, 1, 0, 0, 1, 0, 1 and 56 times X. -/
theorem test_packing :
    packVals ([.v1, .v0, .v1, .v0, .v0, .v1, .v0, .v1] ++ List.replicate 56 .vx) = 0x55555555555555555555555555558822 := by decide +kernel

/-- 06_exchange.md: device A's entry. -/
theorem test_xt_entry :
    xtFields 0x00803214410C0000 =
      { valid := true, kind := 0, plot := 0, fidx := 3, sofs := 4, grp := 10, port := 2, lane := 0, acre := 1, xgrp := 3, rport := 0
        rlane := 0, rsvd := 0 } := by decide +kernel

/-- R166: an error in data bit 55 or in a check bit is corrected, two errors are not. -/
theorem test_xt_code :
    xtDecode (xtEncode 0x803214410C0000 ^^^ 0x80000000000000) = .corrected 0x803214410C0000 ∧
      xtDecode (xtEncode 0x803214410C0000 ^^^ 0x4000000000000000) = .corrected 0x803214410C0000 ∧
      xtDecode (xtEncode 0x803214410C0000 ^^^ 3) = .lost := by decide +kernel

/-- R163: six symbols of a frame in error are corrected. -/
theorem test_rs_corrects :
    openFrame (mkFrame 0x12345678 0xabcdef ^^^ 0xff00ff00ff00ff00ff00ff) = some ⟨0x12345678, 0xabcdef, 6⟩ := by decide +kernel

/-- 09_fabric_lanes.md: the two measurements of the worked example. -/
theorem test_arr : arrOf 105 47 2 0 = 30 ∧ arrOf 113 55 0 2 = 28 := by decide +kernel

/-- 10_field_time.md: o = 1.1 ns, 10,000 ns, TC = 3, f = 0. -/
theorem test_servo :
    let t := (puts [(Reg.FT_CFG, 20, 4, 3)] State.reset).servoApply 4724464025 10000 none
    t.ft.f = -1889785 ∧ t.rg Reg.FT_ADJ = BitVec.ofInt 32 (-17008069) := by decide +kernel

/-- The nine characters of R320. -/
def digits : List Byte := [0x31, 0x32, 0x33, 0x34, 0x35, 0x36, 0x37, 0x38, 0x39]

/-- R320, R365: the check value of CRC-32C. -/
theorem test_crc32c : crc32c digits = 0xE3069283 := by decide +kernel

/-- A form of R320, and its result after one block of the nine characters. -/
def form (w poly init xorout : Nat) (refl : Bool) : SigForm :=
  { w := w, refin := refl, refout := refl, vmode := false, xfail := false, bmode := 0, expmode := 2, npass := 0, poly := poly, init := init,
    xorout := xorout, expect := 0, aen := false, aw := 1, aofs := 0 }

def checkOf (f : SigForm) : Nat :=
  let vals : List Val := digits.flatMap fun b => (natsFrom 0 8).map fun j => boolVal (b.toNat.testBit j)
  (f.boundary (vals.foldl f.feed f.restart) 0 0).1.res

theorem test_signatures :
    checkOf (form 8 0x07 0 0 false) = 0xF4 ∧ checkOf (form 16 0x1021 0xFFFF 0 false) = 0x29B1 ∧
      checkOf (form 32 0x04C11DB7 0xFFFFFFFF 0xFFFFFFFF true) = 0xCBF43926 ∧
      checkOf (form 32 0x1EDC6F41 0xFFFFFFFF 0xFFFFFFFF true) = 0xE3069283 ∧
      checkOf (form 64 0x42F0E1EBA9EA3693 (2 ^ 64 - 1) (2 ^ 64 - 1) true) = 0x995DC9BBDF1939FA := by decide +kernel

/-- 13_dziene_commands.md: the POKE entry. -/
def pokeEntry : Cmd :=
  { aCmd 0 3 [] with words := [0x41100102, 0x03800000, 0x80000101, 0, 0x1388, 0, 0x110028, 9, 2, 0, 0, 0, 0, 0, 0x37000000, 0] }

theorem test_poke_entry :
    pokeEntry.opc = 0x41 ∧ pokeEntry.tag = 0x102 ∧ pokeEntry.prio = 4 ∧ nfld (pokeEntry.dw 1) 24 8 = 3 ∧ pokeEntry.dw64 4 = 5000 := by decide +kernel

/-- 19_register_map.md: logical furrow 300 lies on physical furrow 308, once the firmware runs. -/
theorem test_furrow_300 : up.phys 300 = 308 := by decide +kernel

/-- R512: DEV_ID and DEV_REV of a -20 part with die revision 1. -/
theorem test_identity : (up.bar0Read 63 Reg.DEV_ID).1 = 0x96001F5A ∧ (up.bar0Read 63 Reg.DEV_REV).1 = 0x157D0 := by decide +kernel

/-- 16_faults_and_gleaner.md: a bucket of class 0 at level 31 reaches its size with one more correction, goes to 0 and its
overflow is due (R19, R461). -/
theorem test_bucket :
    (((puts [(Reg.FUR_CE_BUCKET 0, 0, 16, 30)] up).bucket 0 (Reg.FUR_CE_BUCKET 0)).fld (Reg.FUR_CE_BUCKET 0) 0 16) = 31 ∧
      (let s := (puts [(Reg.FUR_CE_BUCKET 0, 0, 16, 31)] up).bucket 0 (Reg.FUR_CE_BUCKET 0)
       s.fld (Reg.FUR_CE_BUCKET 0) 0 16 = 0 ∧ s.gln.spilt = [(0, Reg.FUR_CE_BUCKET 0)]) := by
  decide +kernel

/-- The published tests of AES-256 in GCM (empty text, zero key) and of the inverse cipher (FIPS 197, C.3). -/
theorem test_gcm :
    beNat (gcmTag (aesKeys (List.replicate 32 0)) (List.replicate 12 0) [] []) = 0x530f8afbc74536b9a963b4f1c4cb738b := by decide +kernel

theorem test_aes_inverse :
    aesDecrypt (aesKeys (beBytes 32 0x000102030405060708090A0B0C0D0E0F101112131415161718191A1B1C1D1E1F))
      (ofBytes (beBytes 16 0x8ea2b7ca516745bfeafc49904b496089)) =
      [0x00, 0x11, 0x22, 0x33, 0x44, 0x55, 0x66, 0x77, 0x88, 0x99, 0xaa, 0xbb, 0xcc, 0xdd, 0xee, 0xff] := by decide +kernel

end Sys2Proof.Tests
end

section

/-!
# What a command may write

SUPPORT for the statements about every command: what a state keeps (`Good`, from the laws of the step) stays kept by each
command, as long as nothing is asked to be kept that the command may write (`exec_good`).
-/

namespace Sys2Proof.Machine
open Sys2Proof

section
variable {κ : Kept} {s t : State}

/-- An outcome that goes on, goes on with a state that holds what κ keeps. -/
def GoodNext (κ : Kept) (o : Host.Outcome State Fault Refusal) : Prop := ∀ t, o = .next t → Good κ t

theorem GoodNext.next (h : Good κ t) : GoodNext κ (.next t) := fun _ e => by cases e; exact h

theorem GoodNext.fault {r : Fault} : GoodNext κ (.fault r) := fun _ e => by cases e

theorem GoodNext.refused {r : Refusal} : GoodNext κ (.refused r) := fun _ e => by cases e

theorem GoodNext.ite {c : Prop} [Decidable c] {o o' : Host.Outcome State Fault Refusal} (h : GoodNext κ o)
    (h' : GoodNext κ o') : GoodNext κ (if c then o else o') := by
  split <;> assumption

theorem execBridgeBusClockEdge_good {port pins : Nat} (hg : Good κ s) (f_spm : κ.spm = none) :
    GoodNext κ (execBridgeBusClockEdge port pins s) :=
  .next (good_ite (State.reflexEdge_good _ _ _ hg f_spm) hg)

theorem execClkLost_good {port : Nat} (hg : Good κ s) :
    GoodNext κ (execClkLost port s) :=
  .next (good_ite (State.onFio_good _ _ _ (State.raiseFio_good _ _ _ _ _ (State.waitUntil_good _ _ hg))) hg)

theorem execVccioBad_good {port : Nat} {bad : Bool} (hg : Good κ s) :
    GoodNext κ (execVccioBad port bad s) :=
  .next (good_ite (State.raiseFio_good _ _ _ _ _ hg) (good_ite hg (State.clrBit_good _ _ _ hg)))

theorem execHbmReadReturn_good {n : Nat} (hg : Good κ s) (f_plots : κ.plots = none) (f_cmd : κ.cmd = none) :
    GoodNext κ (execHbmReadReturn n s) := by
  unfold execHbmReadReturn
  refine .next ?_
  split
  · exact hg
  · exact good_ite hg (good_updHbm (State.readValues_good _ _ hg f_plots f_cmd))

theorem execWriteQueueDrain_good {pc : Nat} (hg : Good κ s) (f_hbm : κ.hbm = none) (f_plots : κ.plots = none) (f_cmd :
    κ.cmd = none) :
    GoodNext κ (execWriteQueueDrain pc s) :=
  .next (good_ite hg (State.drainOne_good _ _ hg f_hbm f_plots f_cmd))

theorem execAutonomousRefresh_good {pc : Nat} (hg : Good κ s) :
    GoodNext κ (execAutonomousRefresh pc s) :=
  .next (good_ite hg (good_updHbm hg))

theorem execHbmFillDone_good (hg : Good κ s) (f_hbm : κ.hbm = none) :
    GoodNext κ (execHbmFillDone s) :=
  have hp := State.pllLock_good _ (State.takeFree_good _ _ hg)
  have hz := State.hbmZero_good _ (State.setBit_good _ _ _ hp) f_hbm
  .next <| good_ite hg (good_ite (State.setBit_good _ _ _ (good_updHbm hp)) (good_upd (good_ite (State.put_good _ _
      _ _ _ hz) hz)))

theorem execRemapActivate_good {pc entry : Nat} (hg : Good κ s) (f_plots : κ.plots = none) (f_cmd : κ.cmd = none) :
    GoodNext κ (execRemapActivate pc entry s) :=
  .next (good_ite (good_updHbm hg) (State.remapActive_good _ _ _ (State.remapReady_good _ _ hg f_plots f_cmd) f_plots
    f_cmd))

theorem execRemapAdd_good {id : Nat} (hg : Good κ s) (f_cmd : κ.cmd = none) :
    GoodNext κ (execRemapAdd id s) := by
  unfold execRemapAdd
  refine .next ?_
  split
  · exact hg
  · refine good_ite (State.finish_good _ _ _ _ hg f_cmd) ?_
    split
    · exact State.finish_good _ _ _ _ hg f_cmd
    · exact State.finish_good _ _ _ _ (State.rnSet_good _ _ _ hg) f_cmd

theorem execBar4Access_good {fn offset len : Nat} {data : Option (List Byte)} (hg : Good κ s) (f_hbm : κ.hbm = none)
    (f_plots : κ.plots = none) (f_cmd : κ.cmd = none) :
    GoodNext κ (execBar4Access fn offset len data s) :=
  .ite .fault (.next (good_ite (State.outData_good _ _ hg) (State.bar4_good _ _ _ _ _ hg f_hbm f_plots f_cmd)))

theorem execTimeSyncSend_good {port : Nat} (hg : Good κ s) :
    GoodNext κ (execTimeSyncSend port s) :=
  .next (good_ite hg (State.onSync_good _ _ _ (State.sendNbr_good _ _ _ _ _ (State.waitUntil_good _ _ hg))))

theorem execParentLost_good (hg : Good κ s) :
    GoodNext κ (execParentLost s) := by
  unfold execParentLost
  refine .next (good_ite hg ?_)
  split
  · exact State.parentLost_good _ (State.waitUntil_good _ _ hg)
  · exact State.parentLost_good _ hg

theorem execPpsInEdge_good (hg : Good κ s) :
    GoodNext κ (execPpsInEdge s) :=
  have h2 := good_updFt (State.record_good _ _ _ _ _ _ (State.rnSet64_good _ _ _ hg))
  .next <| good_ite (State.servo_good _ _ _ _ h2) h2

theorem execPpsMiss_good (hg : Good κ s) :
    GoodNext κ (execPpsMiss s) :=
  .next (good_ite (State.ftStateSet_good _ _ (State.phaseEnds_good _ (State.condition_good _ _ _ _
    (State.waitUntil_good _ _ hg)))) hg)

theorem execPpsOutEdge_good (hg : Good κ s) :
    GoodNext κ (execPpsOutEdge s) :=
  .next (good_ite (State.ppsGate_good _ hg) (good_ite (good_updFt (State.waitUntil_good _ _ hg)) (good_ite hg
    (good_updFt (State.waitUntil_good _ _ hg)))))

theorem execTimeConfig_good {id : Nat} (hg : Good κ s) (f_cmd : κ.cmd = none) :
    GoodNext κ (execTimeConfig id s) := by
  unfold execTimeConfig
  refine .next ?_
  split
  · exact hg
  · exact good_ite (State.finish_good _ _ _ _ hg f_cmd) (State.finish_good _ _ _ _ (State.selectGm_good _
      (State.ppsGate_good _ (good_foldl (fun _ _ h => (State.put_good _ _ _ _ _ h)) hg))) f_cmd)

theorem execTimeStep_good {id : Nat} (hg : Good κ s) (f_cmd : κ.cmd = none) :
    GoodNext κ (execTimeStep id s) := by
  unfold execTimeStep
  refine .next ?_
  split
  · exact hg
  · exact good_ite (State.finish_good _ _ _ _ hg f_cmd) (State.finish_good _ _ _ _ (State.ftStateSet_good _ _
      (State.noRefusals_good _ (State.ftStep_good _ _ _ hg))) f_cmd)

theorem execLinkTrain_good {id : Nat} (hg : Good κ s) (f_cmd : κ.cmd = none) :
    GoodNext κ (execLinkTrain id s) := by
  unfold execLinkTrain
  refine .next ?_
  split
  · exact hg
  · refine good_ite (State.finish_good _ _ _ _ hg f_cmd) ?_
    exact
      have h2 := State.putBit_good _ _ _ _ (State.putBit_good _ _ _ _ (State.dropCtrl_good _ _ (State.portLeavesUp_good
          _ _ hg)))
      have h4 := State.rnSet_good _ _ _ (State.put_good _ _ _ _ _ (State.put_good _ _ _ _ _ (State.rnSet_good _ _ _
          (State.rnSet_good _ _ _ (State.rnSet_good _ _ _ h2)))))
      good_ite (State.finish_good _ _ _ _ (State.raiseLnk_good _ _ _ _ (State.put_good _ _ _ _ _ h4)) f_cmd)
          (State.blockCmd_good _ _ (State.startTrain_good _ _ _ _ _ h4) f_cmd)

theorem execCdrLock_good {port lane : Nat} {sync : Bool} (hg : Good κ s) (f_cmd : κ.cmd = none) :
    GoodNext κ (execCdrLock port lane sync s) :=
  .next (good_ite (State.checkPhase_good _ _ (State.onPort_good _ _ _ (State.onLane_good _ _ _ _ hg)) f_cmd) hg)

theorem execTrainingPhaseTimeout_good {port : Nat} (hg : Good κ s) (f_cmd : κ.cmd = none) :
    GoodNext κ (execTrainingPhaseTimeout port s) :=
  .next (good_ite hg (State.closePhase_good _ _ (State.waitSteps_good _ _ hg) f_cmd))

theorem execLinkTest_good {id : Nat} (hg : Good κ s) (f_cmd : κ.cmd = none) :
    GoodNext κ (execLinkTest id s) := by
  unfold execLinkTest
  refine .next ?_
  split
  · exact hg
  · refine good_ite (State.finish_good _ _ _ _ hg f_cmd) (good_ite (State.finish_good _ _ _ _ hg f_cmd) ?_)
    exact
      have h0 := State.setTest_good _ _ _ _ hg f_cmd
      have h4 := State.onPort_good _ _ _ (State.rnSet_good _ _ _ (good_ite (State.setBit_good _ _ _ h0) (State.put_good
          _ _ _ _ _ h0)))
      State.blockCmd_good _ _ (good_ite (State.sendMgmt_good _ _ _ _ _ _ _ h4) h4) f_cmd

theorem execTimeSyncRecord_good {stream : Nat} (hg : Good κ s) (f_hbm : κ.hbm = none) (f_plots : κ.plots = none) :
    GoodNext κ (execTimeSyncRecord stream s) :=
  .next (good_ite hg (good_ite (good_ite (good_ite (State.plotSync_good _ _ (State.syncWait_good _ _ hg) f_hbm f_plots)
    (State.syncWait_good _ _ hg)) hg) (good_ite (good_ite (State.devSync_good _ (State.syncWait_good _ _ hg))
    (State.syncWait_good _ _ hg)) hg)))

theorem execProbeFlush_good {p : Nat} (hg : Good κ s) (f_hbm : κ.hbm = none) (f_plots : κ.plots = none) (f_cmd : κ.cmd
    = none) (f_tm : κ.tm = none) :
    GoodNext κ (execProbeFlush p s) :=
  have h1 := State.hvtInject_good _ _ (State.drainFifo_good _ hg f_hbm f_plots)
  have h2 := State.stopDue_good _ _ (good_ite (State.hvtCommit_good _ _ _ h1 f_hbm f_plots) h1) f_plots f_cmd
  .next <| good_ite hg (State.toHead_good _ _ _ (State.armDue_good _ _ (good_ite (State.onHvt_good _ _ _ h2 f_plots)
      (State.probeFlush_good _ _ _ (State.unitsEval_good _ _ h2 f_plots) f_hbm f_plots)) f_plots f_cmd) f_plots f_tm)

theorem execHoldoffExpiry_good {p : Nat} (hg : Good κ s) (f_plots : κ.plots = none) :
    GoodNext κ (execHoldoffExpiry p s) :=
  .next (good_ite (State.holdEnd_good _ _ (State.waitUntil_good _ _ hg) f_plots) hg)

theorem execFtPostExpiry_good {p : Nat} (hg : Good κ s) :
    GoodNext κ (execFtPostExpiry p s) :=
  .next (good_ite (State.hvtStop_good _ _ _ _ _ (State.waitUntil_good _ _ hg)) hg)

theorem execFireRepeat_good {p : Nat} (hg : Good κ s) (f_plots : κ.plots = none) :
    GoodNext κ (execFireRepeat p s) :=
  .next (good_ite hg (State.fireFlood_good _ _ (State.onHvt_good _ _ _ (State.waitUntil_good _ _ hg) f_plots)))

theorem execCommitDecision_good {p : Nat} (hg : Good κ s) (f_plots : κ.plots = none) (f_cmd : κ.cmd = none) (f_tm :
    κ.tm = none) :
    GoodNext κ (execCommitDecision p s) :=
  have hcommit := State.hvtStep0_good _ _ _ (State.versionAdvance_good _ _ (State.commitPass_good _ _ _
      (State.onTm_good _ _ _ hg f_plots f_tm) f_plots f_cmd f_tm) f_plots f_cmd)
  have hdecide := good_ite (good_ite (State.failPass_good _ _ _ (State.hvtStep0_good _ _ _ hg) f_plots f_cmd f_tm)
      hcommit) (State.hvtStep0_good _ _ _ (State.versionAdvance_good _ _ hg f_plots f_cmd))
  .next <| good_ite hg (State.toHead_good _ _ _ (State.spend_good _ _ _ hdecide f_plots f_tm) f_plots f_tm)

theorem execInputLatch_good {p : Nat} {pins : List (Nat × Nat)} (hg : Good κ s) (f_plots : κ.plots = none) (f_tm : κ.tm
    = none) :
    GoodNext κ (execInputLatch p pins s) :=
  .next (good_ite hg (State.toHead_good _ _ _ (State.sampleGates_good _ _ _ (State.latchAll_good _ _ _ _ hg f_plots)
    f_plots) f_plots f_tm))

theorem execOutputRelease_good {p : Nat} (hg : Good κ s) (f_spm : κ.spm = none) (f_plots : κ.plots = none) (f_tm : κ.tm
    = none) :
    GoodNext κ (execOutputRelease p s) :=
  have h1 := State.releaseAll_good _ _ _ _ hg f_spm
  .next <| good_ite hg (good_ite (State.toHead_good _ _ _ (State.spend_good _ _ _ hg f_plots f_tm) f_plots f_tm)
      (State.toHead_good _ _ _ (State.spend_good _ _ _ (good_ite (State.gateUpdate_good _ _ _ h1) h1) f_plots f_tm)
      f_plots f_tm))

theorem execWriteQueueCommitMark_good {p : Nat} (hg : Good κ s) (f_plots : κ.plots = none) (f_tm : κ.tm = none) :
    GoodNext κ (execWriteQueueCommitMark p s) :=
  .next (good_ite hg (State.toHead_good _ _ _ (State.spend_good _ _ _ (good_ite (State.wqDiscard_good _ _ _ hg)
    (good_ite (State.wqCommit_good _ _ _ hg) hg)) f_plots f_tm) f_plots f_tm))

theorem execHealWorkDone_good {p : Nat} (hg : Good κ s) (f_plots : κ.plots = none) (f_cmd : κ.cmd = none) (f_tm : κ.tm
    = none) :
    GoodNext κ (execHealWorkDone p s) := by
  unfold execHealWorkDone
  refine .next ?_
  split
  · exact good_ite hg (State.holdReady_good _ _ _ _ _ (State.floodCtl_good _ _ _ _ _ _ _ (State.onHold_good _ _ _
      (State.healWork_good _ _ _ (State.lateApply_good _ _ hg)) f_plots)) f_plots f_cmd f_tm)
  · exact hg

theorem execRecoveryWorkDone_good {p : Nat} {ok : Bool} (hg : Good κ s) (f_hbm : κ.hbm = none) (f_plots : κ.plots =
    none) (f_cmd : κ.cmd = none) (f_tm : κ.tm = none) :
    GoodNext κ (execRecoveryWorkDone p ok s) := by
  unfold execRecoveryWorkDone
  refine .next ?_
  split
  · exact hg
  · refine good_ite hg ?_
    dsimp only
    split
    · exact
        have h0 := State.restoreStake_good _ _ _ _ (State.takeActions_good _ _ _ _ (State.chargeRecs_good _ _ _
            (State.lateApply_good _ _ hg))) f_hbm f_plots f_cmd f_tm
        State.holdReady_good _ _ _ _ _ (State.floodCtl_good _ _ _ _ _ _ _ (State.onHold_good _ _ _ (good_ite
            (State.swapBanks_good _ _ _ h0) h0) f_plots)) f_plots f_cmd f_tm
    · exact State.holdReady_good _ _ _ _ _ (State.floodCtl_good _ _ _ _ _ _ _ (State.onHold_good _ _ _
        (State.takeActions_good _ _ _ _ (State.chargeRecs_good _ _ _ (State.lateApply_good _ _ hg))) f_plots)) f_plots
        f_cmd f_tm

theorem execHoldTimeout_good {p : Nat} (hg : Good κ s) (f_plots : κ.plots = none) (f_cmd : κ.cmd = none) (f_tm : κ.tm =
    none) :
    GoodNext κ (execHoldTimeout p s) := by
  unfold execHoldTimeout
  refine .next ?_
  split
  · exact State.recoveryFailed_good _ _ (State.waitUntil_good _ _ hg) f_plots f_cmd f_tm
  · exact hg

theorem execResumeStart_good {p : Nat} (hg : Good κ s) (f_hbm : κ.hbm = none) (f_plots : κ.plots = none) (f_cmd : κ.cmd
    = none) (f_tm : κ.tm = none) (f_res : κ.res = none) :
    GoodNext κ (execResumeStart p s) := by
  unfold execResumeStart
  refine .next ?_
  split
  · exact
      have h3 := State.rnSet_good _ _ _ (State.onCmt_good _ _ _ (State.holdRec_good _ _ _ _ _ _ (State.waitUntil_good _
          _ hg)) f_plots)
      have h4 := good_ite (State.putBit_good _ _ _ _ (State.cmtStateSet_good _ _ _ h3)) (State.rnSet_good _ _ _
          (State.setBit_good _ _ _ (State.cmtStateSet_good _ _ _ h3)))
      State.resumePass_good _ _ _ (good_ite (State.sampleGates_good _ _ _ (State.latchAll_good _ _ _ _ h4 f_plots)
          f_plots) h4) f_hbm f_plots f_cmd f_tm f_res
  · exact hg

theorem execPreEmptionCheck_good {p : Nat} (hg : Good κ s) (f_hbm : κ.hbm = none) (f_plots : κ.plots = none) (f_cmd :
    κ.cmd = none) (f_tm : κ.tm = none) (f_res : κ.res = none) :
    GoodNext κ (execPreEmptionCheck p s) :=
  .next (good_ite (State.extend_good _ _ _ (State.spend_good _ _ _ (State.preCheck_good _ _ hg f_plots f_cmd f_tm)
    f_plots f_tm) f_hbm f_plots f_cmd f_tm f_res) hg)

theorem execRefreshHeadland_good {p : Nat} (hg : Good κ s) (f_hbm : κ.hbm = none) (f_plots : κ.plots = none) (f_cmd :
    κ.cmd = none) (f_tm : κ.tm = none) (f_res : κ.res = none) :
    GoodNext κ (execRefreshHeadland p s) :=
  .next (good_ite (State.extend_good _ _ _ (State.spend_good _ _ _ (good_foldl (fun _ _ h => (State.remapReady_good _ _
    h f_plots f_cmd)) (State.count_good _ _ (good_updHbm hg))) f_plots f_tm) f_hbm f_plots f_cmd f_tm f_res) hg)

theorem execReplayTurn_good {p : Nat} (hg : Good κ s) (f_hbm : κ.hbm = none) (f_plots : κ.plots = none) (f_cmd : κ.cmd
    = none) (f_tm : κ.tm = none) (f_res : κ.res = none) :
    GoodNext κ (execReplayTurn p s) :=
  have h1 := good_foldl (fun _ _ h => (State.undoRestore_good _ _ _ _ h f_plots f_cmd)) hg
  .next <| good_ite (State.extend_good _ _ _ (State.spend_good _ _ _ (State.onTm_good _ _ _ (State.restage_good _ _
      _ (State.reapplyMem_good _ _ _ (State.reloadData_good _ _ _ (State.heldDiscard_good _ _ _
      (State.readsDiscard_good _ _ _ h1)) f_plots f_cmd) f_plots f_cmd)) f_plots f_tm) f_plots f_tm) f_hbm f_plots
      f_cmd f_tm f_res) hg

theorem execStakeSlice_good {p : Nat} (hg : Good κ s) (f_hbm : κ.hbm = none) (f_plots : κ.plots = none) (f_cmd : κ.cmd
    = none) (f_tm : κ.tm = none) (f_res : κ.res = none) :
    GoodNext κ (execStakeSlice p s) := by
  have hpos : ∀ n total (s : State) (e : Nat × Nat), Good κ s → Good κ (s.onCmd e.2 fun c => { c with pos := n, total
      := total }) :=
    fun _ _ _ _ h => (State.onCmd_good _ _ _ h (fun _ => rfl) f_cmd)
  unfold execStakeSlice
  refine .next (good_ite ?_ hg)
  split
  · exact State.extend_good _ _ _ (State.spend_good _ _ _ hg f_plots f_tm) f_hbm f_plots f_cmd f_tm f_res
  · exact
      have h2 := good_foldl (hpos _ _) (State.put_good _ _ _ _ _ (State.onCmt_good _ _ _ hg f_plots))
      have h3 := State.stakeWrite_good _ _ _ _ h2 f_hbm
      State.extend_good _ _ _ (State.spend_good _ _ _ (good_ite (State.stakeEnd_good _ _ _ h3 f_hbm f_plots f_cmd) h3)
          f_plots f_tm) f_hbm f_plots f_cmd f_tm f_res

theorem execStretch_good {p : Nat} (hg : Good κ s) (f_hbm : κ.hbm = none) (f_plots : κ.plots = none) (f_cmd : κ.cmd =
    none) (f_tm : κ.tm = none) (f_res : κ.res = none) :
    GoodNext κ (execStretch p s) :=
  .next (good_ite (State.extend_good _ _ _ (State.spend_good _ _ _ (State.count_good _ _ hg) f_plots f_tm) f_hbm
    f_plots f_cmd f_tm f_res) hg)

theorem execScheduleStep_good {p : Nat} {pins : List (Nat × Nat)} (hg : Good κ s) (f_plots : κ.plots = none) (f_cmd :
    κ.cmd = none) (f_tm : κ.tm = none) :
    GoodNext κ (execScheduleStep p pins s) := by
  unfold execScheduleStep
  refine .next ?_
  split
  · exact
      have h1 := State.spend_good _ _ _ (State.stepDo_good _ _ _ _ hg f_plots f_cmd) f_plots f_tm
      good_ite (State.onTm_good _ _ _ h1 f_plots f_tm) (State.beginHeadland_good _ _ h1 f_plots f_cmd f_tm)
  · exact hg

theorem execPageRequestResponse_good {fn page : Nat} {ok : Bool} (hg : Good κ s) :
    GoodNext κ (execPageRequestResponse fn page ok s) :=
  have h1 := good_updHost hg
  have h2 := good_foldl (fun _ _ h => (good_ite (State.clrBit_good _ _ _ h) h)) (good_updHost h1)
  .next <| good_ite hg (State.pageRetry_good _ (good_ite h2 h1))

theorem execAtsInvalidation_good {fn page count : Nat} (hg : Good κ s) :
    GoodNext κ (execAtsInvalidation fn page count s) :=
  .next (State.hostReq_good _ _ _ _ (good_updHost hg))

theorem execHeadlandHostApply_good {p : Nat} (hg : Good κ s) (f_host : κ.host = none) (f_hbm : κ.hbm = none) (f_plots :
    κ.plots = none) (f_cmd : κ.cmd = none) (f_tm : κ.tm = none) :
    GoodNext κ (execHeadlandHostApply p s) :=
  .next (good_ite (State.toHead_good _ _ _ (State.spend_good _ _ _ (State.hostApply_good _ _ hg f_host f_hbm f_plots
    f_cmd f_tm) f_plots f_tm) f_plots f_tm) hg)

theorem execLaunchStart_good {p : Nat} {pins : List (Nat × Nat)} (hg : Good κ s) (f_host : κ.host = none) (f_hbm :
    κ.hbm = none) (f_plots : κ.plots = none) (f_cmd : κ.cmd = none) (f_tm : κ.tm = none) (f_img : κ.img = none) :
    GoodNext κ (execLaunchStart p pins s) := by
  unfold execLaunchStart
  refine .next ?_
  split
  · exact State.launch_good _ _ _ (State.waitUntil_good _ _ hg) f_host f_hbm f_plots f_cmd f_tm f_img
  · exact hg

theorem execTResumeStart_good {p : Nat} (hg : Good κ s) (f_plots : κ.plots = none) (f_cmd : κ.cmd = none) (f_tm : κ.tm
    = none) :
    GoodNext κ (execTResumeStart p s) := by
  unfold execTResumeStart
  refine .next ?_
  split
  · exact State.finishAll_good _ _ _ _ _ (State.resumePlot_good _ _ (State.rnSet_good _ _ _ (State.waitUntil_good _ _
      hg)) f_plots f_cmd f_tm) f_cmd
  · exact hg

theorem execBootWindowWrite_good {fn offset : Nat} {data : List Byte} (hg : Good κ s) (f_window : κ.window = none) :
    GoodNext κ (execBootWindowWrite fn offset data s) :=
  .ite .fault (.next (good_ite hg (State.bootWrite_good _ _ _ hg f_window)))

theorem execSownRepeat_good {p : Nat} (hg : Good κ s) (f_plots : κ.plots = none) :
    GoodNext κ (execSownRepeat p s) :=
  .next (good_ite (State.sendSown_good _ _ (State.waitUntil_good _ _ hg) f_plots) hg)

theorem execSownNHigh_good (hg : Good κ s) (f_plots : κ.plots = none) (f_cmd : κ.cmd = none) (f_img : κ.img = none) :
    GoodNext κ (execSownNHigh s) :=
  .next (good_ite hg (good_foldl (fun _ _ h => (good_ite (State.releaseCheck_good _ _ (State.onRel_good _ _ _ h
    f_plots) f_plots f_cmd f_img) h)) (State.setBit_good _ _ _ hg)))

theorem execReleaseTimeout_good {p : Nat} (hg : Good κ s) (f_plots : κ.plots = none) (f_cmd : κ.cmd = none) :
    GoodNext κ (execReleaseTimeout p s) :=
  .next (good_ite (State.releaseFail_good _ _ _ (State.waitUntil_good _ _ hg) f_plots f_cmd) hg)

theorem execZeroFillDone_good {kind index : Nat} (hg : Good κ s) (f_plots : κ.plots = none) (f_cmd : κ.cmd = none)
    (f_tm : κ.tm = none) (f_res : κ.res = none) (f_img : κ.img = none) :
    GoodNext κ (execZeroFillDone kind index s) := by
  unfold execZeroFillDone
  refine .next (good_ite ?_ (good_updTile hg))
  split
  · exact State.destroyDone_good _ _ _ hg f_plots f_cmd f_tm f_res f_img
  · exact hg

theorem execHandoverDone_good {bank : Nat} (hg : Good κ s) (f_spm : κ.spm = none) :
    GoodNext κ (execHandoverDone bank s) := by
  unfold execHandoverDone
  refine .next ?_
  split
  · exact hg
  · exact good_updTile (State.clrBit_good _ _ _ (good_ite (State.zeroBank_good _ _ hg f_spm) hg))

theorem execSpmDataAccess_good {fn offset len : Nat} {data : Option (List Byte)} (hg : Good κ s) (f_spm : κ.spm = none)
    :
    GoodNext κ (execSpmDataAccess fn offset len data s) :=
  .ite .fault (.next (good_ite (good_upd hg) (good_ite hg (State.spmAccess_good _ _ _ _ _ hg f_spm))))

theorem execDoorbellSqTail_good {fn q tail : Nat} {mem : List (Nat × Byte)} (hg : Good κ s) (f_host : κ.host = none)
    (f_cmd : κ.cmd = none) :
    GoodNext κ (execDoorbellSqTail fn q tail mem s) :=
  .next (State.doorbell_good _ _ _ _ _ _ (good_foldl (fun _ _ h => (State.hostWrite_good _ _ _ _ h f_host)) hg) (fun _
    => rfl) f_cmd)

theorem execDoorbellCqHead_good {fn q head : Nat} (hg : Good κ s) (f_cmd : κ.cmd = none) :
    GoodNext κ (execDoorbellCqHead fn q head s) :=
  .next (good_ite (State.doorbell_good _ _ _ _ _ _ hg (fun _ => rfl) f_cmd) (State.clrBit_good _ _ _
      (State.doorbell_good _ _ _ _ _ _ hg (fun _ => rfl) f_cmd)))

theorem execEntryFetch_good {q : Nat} (hg : Good κ s) (f_cmd : κ.cmd = none) :
    GoodNext κ (execEntryFetch q s) :=
  .next (good_ite (State.fetchEntry_good _ _ (good_ite hg (State.cmdInject_good _ _ hg)) f_cmd) hg)

theorem execFtDelayTick_good (hg : Good κ s) (f_cmd : κ.cmd = none) :
    GoodNext κ (execFtDelayTick s) :=
  .next (State.makeReady_good _ _ (good_updCmd (State.waitUntil_good _ _ hg) f_cmd) f_cmd)

theorem execCommandDispatch_good (hg : Good κ s) (f_cmd : κ.cmd = none) :
    GoodNext κ (execCommandDispatch s) := by
  unfold execCommandDispatch
  refine .next ?_
  dsimp only
  split
  · exact State.takeUp_good _ _ hg f_cmd
  · exact State.takeUp_good _ _ hg f_cmd
  · exact hg

theorem execCompletionWrite_good {id : Nat} (hg : Good κ s) (f_host : κ.host = none) (f_cmd : κ.cmd = none) (f_id :
    κ.id = none) :
    GoodNext κ (execCompletionWrite id s) := by
  unfold execCompletionWrite
  refine .next ?_
  split
  · exact State.complete_good _ _ hg f_host f_cmd f_id
  · exact hg

theorem execInterruptCoalesceTimeout_good {q : Nat} (hg : Good κ s) (f_cmd : κ.cmd = none) :
    GoodNext κ (execInterruptCoalesceTimeout q s) := by
  unfold execInterruptCoalesceTimeout
  refine .next ?_
  dsimp only
  split
  · exact good_ite (State.signal_good _ _ _ (State.waitUntil_good _ _ hg) f_cmd) hg
  · exact hg

theorem execForwardTimeout_good {id : Nat} (hg : Good κ s) (f_cmd : κ.cmd = none) :
    GoodNext κ (execForwardTimeout id s) := by
  unfold execForwardTimeout
  refine .next ?_
  split
  · split
    · exact good_ite hg (State.raiseAt_good _ _ _ _ _ _ _ (State.finish_good _ _ _ _ (State.waitUntil_good _ _ hg)
        f_cmd))
    · exact hg
  · exact hg

theorem execFirstAck_good {fn addr v : Nat} (hg : Good κ s) :
    GoodNext κ (execFirstAck fn addr v s) := by
  unfold execFirstAck
  refine .next ?_
  split
  · exact State.gated_good _ _ _ _ hg (fun _ _ _ h => (State.firstAck_good _ _ _ (State.rsvdCheck_good _ _ _ _ h)))
  · exact hg

theorem execHistAck_good {fn addr v : Nat} (hg : Good κ s) :
    GoodNext κ (execHistAck fn addr v s) := by
  unfold execHistAck
  refine .next ?_
  split
  · exact State.gated_good _ _ _ _ hg (fun _ _ _ h => (State.histAck_good _ _ _ (State.rsvdCheck_good _ _ _ _ h)))
  · exact hg

theorem execCounterClear_good {fn addr v : Nat} (hg : Good κ s) :
    GoodNext κ (execCounterClear fn addr v s) :=
  .next (good_ite (State.gated_good _ _ _ _ hg (fun _ _ _ h => (State.clearWrite_good _ _ _ (State.rsvdCheck_good _ _ _
    _ h)))) hg)

theorem execBucketOverflow_good {addr : Nat} (hg : Good κ s) :
    GoodNext κ (execBucketOverflow addr s) := by
  refine .next <| (good_foldl (fun s _ h => ?_) hg)
  split
  · exact State.bucketOver_good _ _ _ h
  · exact h

theorem execBucketDrainTick_good {cls : Nat} (hg : Good κ s) :
    GoodNext κ (execBucketDrainTick cls s) :=
  have h0 := good_foldl (fun _ _ h => (State.bucketOver_good _ _ _ h)) (State.useTriple_good _ _ hg)
  .next <| good_ite hg (good_foldl (fun _ _ h => (State.put_good _ _ _ _ _ h)) (good_upd (State.waitUntil_good _ _
      h0)))

theorem execGleanerItemRead_good {seq : Nat} (hg : Good κ s) :
    GoodNext κ (execGleanerItemRead seq s) :=
  have h2 := State.useTriple_good _ _ (State.useTriple_good _ _ hg)
  .next <| good_ite (good_upd (State.glnStep_good _ _ (State.plansDone_good _ h2))) h2

theorem execGleanerWrite_good {p : Nat} (hg : Good κ s) :
    GoodNext κ (execGleanerWrite p s) := by
  unfold execGleanerWrite
  refine .next ?_
  dsimp only
  refine good_ite hg ?_
  split
  · exact hg
  · exact State.glnFix_good _ _ _ (good_upd hg)

theorem execHbmPatrolRead_good {pc : Nat} (hg : Good κ s) (f_plots : κ.plots = none) (f_cmd : κ.cmd = none) :
    GoodNext κ (execHbmPatrolRead pc s) :=
  have h0 := State.useTriple_good _ _ hg
  have h1 := State.patrolWord_good _ _ h0 f_plots f_cmd
  .next <| good_ite h0 (good_upd (State.rnSet64_good _ _ _ (good_ite (good_updHbm h1) h1)))

theorem execControlTripleVote_good (hg : Good κ s) :
    GoodNext κ (execControlTripleVote s) :=
  .next (good_foldl (fun _ _ h => (State.useTriple_good _ _ h)) (good_upd (State.waitUntil_good _ _ hg)))

theorem execGleanerWatchdog_good {seq : Nat} (hg : Good κ s) :
    GoodNext κ (execGleanerWatchdog seq s) :=
  have h3 := good_upd (State.count_good _ _ (State.raiseGln_good _ _ _ _ _ (State.waitUntil_good _ _ hg)))
  have h4 := State.sweepRestart_good _ _ h3
  .next <| good_ite hg (good_ite (State.rnSet64_good _ _ _ h3) (good_ite (State.setBit_good _ _ _ h4) h4))

theorem execFaultInjectionArm_good {fn addr v : Nat} (hg : Good κ s) :
    GoodNext κ (execFaultInjectionArm fn addr v s) := by
  unfold execFaultInjectionArm
  refine .next ?_
  split
  · exact State.gated_good _ _ _ _ hg (fun _ _ _ h => (State.injectWrite_good _ _ _ _ _ _ _ h))
  · exact hg

theorem execRefclkLost_good (hg : Good κ s) (f_plots : κ.plots = none) (f_cmd : κ.cmd = none) (f_tm : κ.tm = none) :
    GoodNext κ (execRefclkLost s) :=
  .next (good_ite hg (good_updFtSvc (State.ftStateSet_good _ _ (State.put_good _ _ _ _ _ (State.stopRunning_good _
    (State.raiseCrp_good _ _ hg) f_plots f_cmd f_tm)))))

theorem execRefclkReturn_good (hg : Good κ s) :
    GoodNext κ (execRefclkReturn s) :=
  .next (good_ite (State.pllLock_good _ (good_updFt hg)) hg)

theorem execD3hotEntry_good {fn : Nat} (hg : Good κ s) :
    GoodNext κ (execD3hotEntry fn s) :=
  .next (good_ite hg (good_upd hg))

theorem execD0Return_good {fn : Nat} (hg : Good κ s) :
    GoodNext κ (execD0Return fn s) :=
  .next (good_ite hg (State.sendHeld_good _ _ (good_upd hg)))

theorem execThermalEvaluation_good {temps : List Int} (hg : Good κ s) (f_hbm : κ.hbm = none) (f_plots : κ.plots = none)
    (f_cmd : κ.cmd = none) (f_tm : κ.tm = none) (f_res : κ.res = none) :
    GoodNext κ (execThermalEvaluation temps s) :=
  .next (good_ite hg (State.alertFrom_good _ _ (State.thermal_good _ _ hg f_hbm f_plots f_cmd f_tm f_res)))

theorem execThermalTrip_good (hg : Good κ s) (f_plots : κ.plots = none) (f_cmd : κ.cmd = none) (f_id : κ.id = none)
    (f_tm : κ.tm = none) :
    GoodNext κ (execThermalTrip s) := by
  unfold execThermalTrip
  refine .next ?_
  extract_lets s1 s2
  have h2 : Good κ s2 := (good_foldl (fun _ _ h => (State.onPlot_good _ _ _ h (.inl f_tm) (.inr fun _ => rfl) (.inr fun
      _ => rfl) f_plots)) (good_foldl (fun _ _ h => (State.park_good _ _ h)) (State.put_good _ _ _ _ _
      (State.lanesOff_good _ hg))))
  have h3 : Good κ { s2 with cmd := { s2.cmd with store := [] } } := h2.setStore f_cmd f_id
  exact good_updSvc h3

theorem execFlr_good {fn : Nat} (hg : Good κ s) (f_hbm : κ.hbm = none) (f_spm : κ.spm = none) (f_plots : κ.plots =
    none) (f_cmd : κ.cmd = none) (f_id : κ.id = none) (f_tm : κ.tm = none) (f_res : κ.res = none) (f_img : κ.img =
    none) :
    GoodNext κ (execFlr fn s) :=
  .next (good_ite hg (good_foldl (fun _ _ h => (State.resetFn_good _ _ h f_hbm f_spm f_plots f_cmd f_id f_tm f_res
    f_img)) hg))

theorem execConfigurationReady_good {link : Nat} (hg : Good κ s) :
    GoodNext κ (execConfigurationReady link s) :=
  .next (good_ite hg (State.pllLock_good _ (good_updBoot hg)))

theorem execFirmwareRunning_good (hg : Good κ s) :
    GoodNext κ (execFirmwareRunning s) := by
  unfold execFirmwareRunning
  refine .next ?_
  split
  · exact good_ite (State.fwRunning_good _ _ _ hg) hg
  · exact hg

theorem execRegisterWrite_good {fn : Nat} {target : WriteTarget} {v : Nat} (hg : Good κ s) (f_hbm : κ.hbm = none)
    (f_spm : κ.spm = none) (f_window : κ.window = none) (f_plots : κ.plots = none) (f_cmd : κ.cmd = none) (f_id : κ.id
    = none) (f_tm : κ.tm = none) (f_res : κ.res = none) (f_img : κ.img = none) :
    GoodNext κ (execRegisterWrite fn target v s) := by
  cases target with
  | bar0 a => exact .ite .fault (.next (good_ite hg (State.bar0WriteFree_good _ _ _ _ hg f_hbm f_spm f_window f_plots
      f_cmd f_id f_tm f_res f_img)))
  | cfg item => exact .next (good_ite hg (State.cfgWrite_good _ _ _ _ hg f_hbm f_spm f_plots f_cmd f_id f_tm f_res
      f_img))

theorem execMonPeek_good {a n : Nat} (hg : Good κ s) (f_spm : κ.spm = none) :
    GoodNext κ (execMonPeek a n s) :=
  .next (State.monLine_good _ _ _ hg (fun _ h => (good_ite (State.answer_good _ _ (State.monPeek_good _ _ _ h f_spm))
    (State.answer_good _ _ h))))

theorem execMonPoke_good {a v : Nat} (hg : Good κ s) (f_hbm : κ.hbm = none) (f_spm : κ.spm = none) (f_window : κ.window
    = none) (f_plots : κ.plots = none) (f_cmd : κ.cmd = none) (f_id : κ.id = none) (f_tm : κ.tm = none) (f_res : κ.res
    = none) (f_img : κ.img = none) :
    GoodNext κ (execMonPoke a v s) :=
  .next (State.monLine_good _ _ _ hg (fun _ h => (good_ite (State.answer_good _ _ h) (State.answer_good _ _
    (State.bar0WriteFree_good _ _ _ _ h f_hbm f_spm f_window f_plots f_cmd f_id f_tm f_res f_img)))))

theorem execMonHist_good {b i : Nat} (hg : Good κ s) :
    GoodNext κ (execMonHist b i s) := by
  refine .next ((State.monLine_good _ _ _ hg (fun s h => ?_)))
  split
  · exact State.answer_good _ _ h
  · exact State.answer_good _ _ h

theorem execMonEye_good {port lane : Nat} (hg : Good κ s) :
    GoodNext κ (execMonEye port lane s) :=
  .next (State.monLine_good _ _ _ hg (fun _ h => (good_ite (State.answer_good _ _ h) (good_ite (State.answer_good _ _
    h) (State.answer_good _ _ (State.takeFree_good _ _ h))))))

theorem execMonStake_good {p : Nat} (hg : Good κ s) :
    GoodNext κ (execMonStake p s) :=
  .next (State.monLine_good _ _ _ hg (fun _ h => (good_ite (State.answer_good _ _ h) (State.answer_good _ _ h))))

theorem execMonBaud_good {r : Nat} (hg : Good κ s) :
    GoodNext κ (execMonBaud r s) :=
  .next (State.monLine_good _ _ _ hg (fun _ h => (good_ite (good_updSvc (State.answer_good _ _ h)) (State.answer_good _
    _ h))))

theorem execMonLock_good (hg : Good κ s) :
    GoodNext κ (execMonLock s) :=
  .next (State.monLine_good _ _ _ hg (fun _ h => (good_ite (State.say_good _ _ (State.monLock_good _ h))
    (State.answer_good _ _ h))))

theorem execUnlockDelayExpiry_good (hg : Good κ s) :
    GoodNext κ (execUnlockDelayExpiry s) :=
  .next (good_ite hg (good_updSvc (State.waitUntil_good _ _ hg)))

theorem execScanInstruction_good {k : Nat} (hg : Good κ s) (f_plots : κ.plots = none) (f_cmd : κ.cmd = none) (f_tm :
    κ.tm = none) :
    GoodNext κ (execScanInstruction k s) :=
  have h1 := good_foldl (fun _ _ h => (State.recoveryFailed_good _ _ h f_plots f_cmd f_tm)) (State.updateIr_good _ hg)
  .next <| good_ite (State.updateIr_good _ hg) (good_updSvc (State.faultRec_good _ _ _ _ _ _ _ _
      (State.takeFree_good _ _ (State.lanesOff_good _ h1))))

theorem execDebugInstruction_good {op : Nat} (hg : Good κ s) :
    GoodNext κ (execDebugInstruction op s) :=
  .ite (.next ((State.updateIr_good _ hg))) .refused

theorem execSmbSensorSelect_good {v : Nat} (hg : Good κ s) :
    GoodNext κ (execSmbSensorSelect v s) :=
  .next (good_ite (good_updSvc hg) hg)

theorem execSmbSensorRead_good (hg : Good κ s) :
    GoodNext κ (execSmbSensorRead s) :=
  .next (good_ite (State.smbData_good _ _ hg) (State.smbData_good _ _ (State.takeFree_good _ _ hg)))

theorem execSmbAlertResponse_good (hg : Good κ s) :
    GoodNext κ (execSmbAlertResponse s) :=
  .next (good_ite (good_upd hg) (good_updSvc (State.smbData_good _ _ hg)))

/-- κ leaves open what a command may write (Safety.lean), and always the plots and the command unit as a whole. -/
structure Kept.OpenTo (κ : Kept) (c : Instr) : Prop where
  plots : κ.plots = none
  cmd : κ.cmd = none
  id : κ.id = none
  shut : c.opensMonitor = true → κ.shut = false
  keys : c.writesKeys = true → κ.keys = none
  host : c.writesHostMemory = true → κ.host = none
  hbm : c.writesDesignMemory = true → κ.hbm = none
  spm : c.writesScratchpad = true → κ.spm = none
  window : c.writesBootWindow = true → κ.window = none
  tm : c.movesPlotTime = true → κ.tm = none
  res : c.movesResources = true → κ.res = none
  img : c.movesImage = true → κ.img = none

/-- Every command keeps what κ keeps, as long as κ leaves open what the command may write. -/
theorem exec_good (c : Instr) (hg : Good κ s) (ho : κ.OpenTo c) : GoodNext κ (exec c s) := by
  cases c with
  | bridgeBusClockEdge _ _ => exact execBridgeBusClockEdge_good hg (ho.spm rfl)
  | clkLost _ => exact execClkLost_good hg
  | vccioBad _ _ => exact execVccioBad_good hg
  | hbmReadReturn _ => exact execHbmReadReturn_good hg ho.plots ho.cmd
  | hbmReturnDelivery _ => exact .next (State.hbmReturns_good _ _ hg ho.plots ho.cmd)
  | furrowRamReturn _ => exact .next (State.ramReturns_good _ _ hg)
  | writeQueueDrain _ => exact execWriteQueueDrain_good hg (ho.hbm rfl) ho.plots ho.cmd
  | autonomousRefresh _ => exact execAutonomousRefresh_good hg
  | hbmFillDone => exact execHbmFillDone_good hg (ho.hbm rfl)
  | remapActivate _ _ => exact execRemapActivate_good hg ho.plots ho.cmd
  | remapAdd _ => exact execRemapAdd_good hg ho.cmd
  | bar4Access _ _ _ _ => exact execBar4Access_good hg (ho.hbm rfl) ho.plots ho.cmd
  | importPresentation _ => exact .next (State.importPresent_good _ _ hg)
  | timeSync _ _ _ => exact .next (State.timeSync_good _ _ _ _ hg)
  | timeSyncSend _ => exact execTimeSyncSend_good hg
  | parentLost => exact execParentLost_good hg
  | ppsInEdge => exact execPpsInEdge_good hg
  | ppsMiss => exact execPpsMiss_good hg
  | ppsOutEdge => exact execPpsOutEdge_good hg
  | timeConfig _ => exact execTimeConfig_good hg ho.cmd
  | timeStep _ => exact execTimeStep_good hg ho.cmd
  | linkTrain _ => exact execLinkTrain_good hg ho.cmd
  | cdrLock _ _ _ => exact execCdrLock_good hg ho.cmd
  | trainFrameReceive _ _ _ _ => exact .next (State.trainArrives_good _ _ _ _ _ hg ho.cmd)
  | trainingPhaseTimeout _ => exact execTrainingPhaseTimeout_good hg ho.cmd
  | bitslip _ _ _ _ =>
    exact .next (State.gated_good _ _ _ _ hg (fun _ _ _ h => (State.laneCtrlWrite_good _ _ _ _ _ h ho.cmd)))
  | laneReset _ _ _ _ =>
    exact .next (State.gated_good _ _ _ _ hg (fun _ _ _ h => (State.laneCtrlWrite_good _ _ _ _ _ h ho.cmd)))
  | laneTestMode _ _ _ _ =>
    exact .next (State.gated_good _ _ _ _ hg (fun _ _ _ h => (State.laneCtrlWrite_good _ _ _ _ _ h ho.cmd)))
  | injOne _ _ _ _ => exact .next (State.gated_good _ _ _ _ hg (fun _ _ _ h => (State.laneTestWrite_good _ _ _ _ _ h)))
  | alignDone _ _ _ =>
    exact .next (State.gated_good _ _ _ _ hg (fun _ _ _ h => (State.portCtrlWrite_good _ _ _ _ _ h ho.cmd)))
  | chkLock _ _ _ => exact .next (State.chkBits_good _ _ _ _ hg)
  | linkTest _ => exact execLinkTest_good hg ho.cmd
  | spareReq _ _ => exact .next (State.spareReq_good _ _ _ hg ho.plots)
  | spareAck _ _ => exact .next (State.spareAck_good _ _ _ hg ho.plots)
  | loopReq _ _ => exact .next (State.loopReq_good _ _ _ hg ho.cmd)
  | loopAck _ _ => exact .next (State.loopAck_good _ _ _ hg ho.cmd)
  | laneHealth _ _ => exact .next (State.laneHealth_good _ _ _ hg)
  | cdrLoss _ _ => exact .next (State.laneDown_good _ _ _ hg ho.cmd)
  | stretchNotice _ _ => exact .next (State.stretchNotice_good _ _ _ hg ho.plots ho.cmd (ho.tm rfl))
  | frameTransmit _ _ => exact .next (State.slot_good _ _ _ hg)
  | timeSyncRecord _ => exact execTimeSyncRecord_good hg (ho.hbm rfl) ho.plots
  | probeFlush _ => exact execProbeFlush_good hg (ho.hbm rfl) ho.plots ho.cmd (ho.tm rfl)
  | holdoffExpiry _ => exact execHoldoffExpiry_good hg ho.plots
  | ftPostExpiry _ => exact execFtPostExpiry_good hg
  | arm _ _ => exact .next (State.armPacket_good _ _ hg ho.plots)
  | fire _ _ => exact .next (State.firePacket_good _ _ hg ho.plots)
  | fireRepeat _ => exact execFireRepeat_good hg ho.plots
  | commitDecision _ => exact execCommitDecision_good hg ho.plots ho.cmd (ho.tm rfl)
  | inputLatch _ _ => exact execInputLatch_good hg ho.plots (ho.tm rfl)
  | outputRelease _ => exact execOutputRelease_good hg (ho.spm rfl) ho.plots (ho.tm rfl)
  | writeQueueCommitMark _ => exact execWriteQueueCommitMark_good hg ho.plots (ho.tm rfl)
  | healWorkDone _ => exact execHealWorkDone_good hg ho.plots ho.cmd (ho.tm rfl)
  | recoveryWorkDone _ _ => exact execRecoveryWorkDone_good hg (ho.hbm rfl) ho.plots ho.cmd (ho.tm rfl)
  | holdTimeout _ => exact execHoldTimeout_good hg ho.plots ho.cmd (ho.tm rfl)
  | stakeDone _ _ => exact .next (State.stakeDonePacket_good _ _ hg ho.plots ho.cmd)
  | healReady _ _ => exact .next (State.readyPacket_good _ _ _ hg ho.plots ho.cmd (ho.tm rfl))
  | recoverReady _ _ => exact .next (State.readyPacket_good _ _ _ hg ho.plots ho.cmd (ho.tm rfl))
  | resume _ _ => exact .next (State.resumePacket_good _ _ hg ho.plots)
  | diverge _ _ => exact .next (State.divergePacket_good _ _ hg ho.plots ho.cmd)
  | rollbackPacket _ _ => exact .next (State.rollbackPacket_good _ _ hg ho.plots)
  | votePacket _ _ => exact .next (State.votePacket_good _ _ hg)
  | resumeStart _ => exact execResumeStart_good hg (ho.hbm rfl) ho.plots ho.cmd (ho.tm rfl) (ho.res rfl)
  | preEmptionCheck _ => exact execPreEmptionCheck_good hg (ho.hbm rfl) ho.plots ho.cmd (ho.tm rfl) (ho.res rfl)
  | refreshHeadland _ => exact execRefreshHeadland_good hg (ho.hbm rfl) ho.plots ho.cmd (ho.tm rfl) (ho.res rfl)
  | replayTurn _ => exact execReplayTurn_good hg (ho.hbm rfl) ho.plots ho.cmd (ho.tm rfl) (ho.res rfl)
  | stakeSlice _ => exact execStakeSlice_good hg (ho.hbm rfl) ho.plots ho.cmd (ho.tm rfl) (ho.res rfl)
  | stretch _ => exact execStretch_good hg (ho.hbm rfl) ho.plots ho.cmd (ho.tm rfl) (ho.res rfl)
  | scheduleStep _ _ => exact execScheduleStep_good hg ho.plots ho.cmd (ho.tm rfl)
  | pageRequestResponse _ _ _ => exact execPageRequestResponse_good hg
  | atsInvalidation _ _ _ => exact execAtsInvalidation_good hg
  | peekState _ => exact .next (State.onTaken_good _ _ _ _ hg (fun _ => (State.peek_good _ _ hg ho.plots ho.cmd)))
  | pokeState _ => exact .next (State.onTaken_good _ _ _ _ hg (fun _ => (State.slotCmd_good _ _ hg ho.plots ho.cmd)))
  | force _ => exact .next (State.onTaken_good _ _ _ _ hg (fun _ => (State.slotCmd_good _ _ hg ho.plots ho.cmd)))
  | unforce _ => exact .next (State.onTaken_good _ _ _ _ hg (fun _ => (State.slotCmd_good _ _ hg ho.plots ho.cmd)))
  | memRead _ =>
    exact .next (State.onTaken_good _ _ _ _ hg (fun _ => (State.memCmd_good _ _ hg (ho.host rfl) (ho.hbm rfl) ho.plots
      ho.cmd)))
  | memWrite _ =>
    exact .next (State.onTaken_good _ _ _ _ hg (fun _ => (State.memCmd_good _ _ hg (ho.host rfl) (ho.hbm rfl) ho.plots
      ho.cmd)))
  | sigConfig _ =>
    exact .next (State.onTaken_good _ _ _ _ hg (fun _ => (State.sigConfigCmd_good _ _ hg ho.plots ho.cmd)))
  | headlandHostApply _ => exact execHeadlandHostApply_good hg (ho.host rfl) (ho.hbm rfl) ho.plots ho.cmd (ho.tm rfl)
  | run _ =>
    exact .next (State.onTaken_good _ _ _ _ hg (fun _ => (State.runOp_good _ _ hg ho.plots ho.cmd (ho.tm rfl))))
  | stepPass _ =>
    exact .next (State.onTaken_good _ _ _ _ hg (fun _ => (State.stepOp_good _ _ hg ho.plots ho.cmd (ho.tm rfl))))
  | halt _ => exact .next (State.onTaken_good _ _ _ _ hg (fun _ => (State.haltOp_good _ _ hg ho.plots ho.cmd)))
  | haltAt _ _ => exact .next (State.haltPacket_good _ _ hg ho.plots)
  | launchAt _ => exact .next (State.onTaken_good _ _ _ _ hg (fun _ => (State.launchOp_good _ _ hg ho.plots ho.cmd)))
  | launch _ _ => exact .next (State.launchPacket_good _ _ hg ho.plots)
  | launchStart _ _ => exact execLaunchStart_good hg (ho.host rfl) (ho.hbm rfl) ho.plots ho.cmd (ho.tm rfl) (ho.img rfl)
  | tResumeStart _ => exact execTResumeStart_good hg ho.plots ho.cmd (ho.tm rfl)
  | stake _ => exact .next (State.onTaken_good _ _ _ _ hg (fun _ => (State.stakeOp_good _ _ hg ho.plots ho.cmd)))
  | rollback _ => exact .next (State.onTaken_good _ _ _ _ hg (fun _ => (State.rollbackOp_good _ _ hg ho.plots ho.cmd)))
  | bootWindowWrite _ _ _ => exact execBootWindowWrite_good hg (ho.window rfl)
  | go _ _ => exact .next (State.gated_good _ _ _ _ hg (fun _ _ _ h => (State.goWrite_good _ _ _ _ h)))
  | sowBegin _ =>
    exact .next (State.onTaken_good _ _ _ _ hg (fun _ => (State.sowBeginOp_good _ _ hg (ho.hbm rfl) ho.plots ho.cmd
      (ho.tm rfl) (ho.res rfl) (ho.img rfl))))
  | sowSegment _ =>
    exact .next (State.onTakenHbm_good _ _ _ _ hg (fun _ => (State.sowSegmentOp_good _ _ hg ho.plots ho.cmd (ho.img
      rfl))) ho.cmd)
  | sowCommit _ =>
    exact .next (State.onTakenHbm_good _ _ _ _ hg (fun _ => (State.sowCommitOp_good _ _ hg (ho.hbm rfl) ho.plots ho.cmd
      (ho.res rfl) (ho.img rfl))) ho.cmd)
  | sowAbort _ =>
    exact .next (State.onTaken_good _ _ _ _ hg (fun _ => (State.sowAbortOp_good _ _ hg (ho.hbm rfl) ho.plots ho.cmd
      (ho.tm rfl) (ho.res rfl) (ho.img rfl))))
  | release _ =>
    exact .next (State.onTaken_good _ _ _ _ hg (fun _ => (State.releaseOp_good _ _ hg ho.plots ho.cmd (ho.img rfl))))
  | sown _ _ => exact .next (State.sownPacket_good _ _ hg ho.plots ho.cmd (ho.img rfl))
  | sownRepeat _ => exact execSownRepeat_good hg ho.plots
  | sownNHigh => exact execSownNHigh_good hg ho.plots ho.cmd (ho.img rfl)
  | releaseTimeout _ => exact execReleaseTimeout_good hg ho.plots ho.cmd
  | plotCreate _ =>
    exact .next (State.onTaken_good _ _ _ _ hg (fun _ => (State.plotCreateOp_good _ _ hg ho.plots ho.cmd (ho.tm rfl)
      (ho.res rfl) (ho.img rfl))))
  | plotAssign _ =>
    exact .next (State.onTaken_good _ _ _ _ hg (fun _ => (good_ite hg (State.plotAssignOp_good _ _ hg ho.plots ho.cmd
      (ho.res rfl)))))
  | plotRevoke _ =>
    exact .next (State.onTaken_good _ _ _ _ hg (fun _ => (good_ite (State.plotRevokeOp_good _ _ hg (ho.hbm rfl) (ho.spm
      rfl) ho.plots ho.cmd (ho.res rfl)) hg)))
  | plotReset _ =>
    exact .next (State.onTaken_good _ _ _ _ hg (fun _ => (State.plotResetOp_good _ _ hg (ho.hbm rfl) ho.plots ho.cmd
      (ho.tm rfl) (ho.res rfl) (ho.img rfl))))
  | plotDestroy _ =>
    exact .next (State.onTaken_good _ _ _ _ hg (fun _ => (State.plotDestroyOp_good _ _ hg (ho.hbm rfl) (ho.spm rfl)
      ho.plots ho.cmd (ho.tm rfl) (ho.res rfl) (ho.img rfl))))
  | zeroFillDone _ _ => exact execZeroFillDone_good hg ho.plots ho.cmd (ho.tm rfl) (ho.res rfl) (ho.img rfl)
  | lift _ =>
    exact .next (State.onTakenHbm_good _ _ _ _ hg (fun _ => (State.liftOp_good _ _ hg (ho.host rfl) (ho.hbm rfl)
      ho.plots ho.cmd (ho.res rfl))) ho.cmd)
  | drop _ =>
    exact .next (State.onTakenHbm_good _ _ _ _ hg (fun _ => (State.dropOp_good _ _ hg (ho.hbm rfl) ho.plots ho.cmd
      (ho.res rfl))) ho.cmd)
  | bankHandover _ _ _ => exact .next (State.gated_good _ _ _ _ hg (fun _ _ _ h => (State.bankWrite_good _ _ _ _ _ h)))
  | handoverDone _ => exact execHandoverDone_good hg (ho.spm rfl)
  | spmDataAccess _ _ _ _ => exact execSpmDataAccess_good hg (ho.spm rfl)
  | bitSet _ _ _ => exact .next (good_ite hg (State.aliasWrite_good _ _ _ _ _ _ _ hg (ho.spm rfl)))
  | bitClear _ _ _ => exact .next (good_ite hg (State.aliasWrite_good _ _ _ _ _ _ _ hg (ho.spm rfl)))
  | fallow _ =>
    exact .next (State.onTaken_good _ _ _ _ hg (fun _ => (State.fallowRow_good _ _ _ hg (ho.hbm rfl) ho.plots ho.cmd
      (ho.tm rfl) (ho.res rfl))))
  | fallowEvict _ =>
    exact .next (State.onTaken_good _ _ _ _ hg (fun _ => (State.fallowRow_good _ _ _ hg (ho.hbm rfl) ho.plots ho.cmd
      (ho.tm rfl) (ho.res rfl))))
  | fallowPreEmpt _ =>
    exact .next (State.onTaken_good _ _ _ _ hg (fun _ => (State.fallowRow_good _ _ _ hg (ho.hbm rfl) ho.plots ho.cmd
      (ho.tm rfl) (ho.res rfl))))
  | wake _ =>
    exact .next (State.onTaken_good _ _ _ _ hg (fun _ => (good_ite hg (State.wakeOp_good _ _ hg ho.plots ho.cmd (ho.tm
      rfl) (ho.res rfl) (ho.img rfl)))))
  | sortReq _ _ => exact .next (State.gated_good _ _ _ _ hg (fun _ _ _ h => (State.nocCfgWrite_good _ _ _ _ h)))
  | queueEnable _ _ _ =>
    exact .next (good_ite (State.gated_good _ _ _ _ hg (fun _ _ _ h => (State.queueWrite_good _ _ _ _ _ _ h ho.cmd)))
      hg)
  | queueDisable _ _ _ =>
    exact .next (good_ite (State.gated_good _ _ _ _ hg (fun _ _ _ h => (State.queueWrite_good _ _ _ _ _ _ h ho.cmd)))
      hg)
  | queueRangeWrite _ _ _ =>
    exact .next (good_ite (State.gated_good _ _ _ _ hg (fun _ _ _ h => (State.rangeWrite_good _ _ _ _ _ _ h))) hg)
  | doorbellSqTail _ _ _ _ => exact execDoorbellSqTail_good hg (ho.host rfl) ho.cmd
  | doorbellCqHead _ _ _ => exact execDoorbellCqHead_good hg ho.cmd
  | entryFetch _ => exact execEntryFetch_good hg ho.cmd
  | ftDelayTick => exact execFtDelayTick_good hg ho.cmd
  | commandDispatch => exact execCommandDispatch_good hg ho.cmd
  | completionWrite _ => exact execCompletionWrite_good hg (ho.host rfl) ho.cmd ho.id
  | interruptCoalesceTimeout _ => exact execInterruptCoalesceTimeout_good hg ho.cmd
  | msixUnmask _ _ => exact .next (State.unmaskVec_good _ _ _ hg)
  | forwardedCommand _ _ => exact .next (State.forwardedCommand_good _ _ hg ho.cmd)
  | forwardedCompletion _ _ =>
    exact .next (State.forwardFlood_good _ _ _ (State.forwardedCompletion_good _ _ hg ho.cmd))
  | forwardTimeout _ => exact execForwardTimeout_good hg ho.cmd
  | nop _ => exact .next (State.onTaken_good _ _ _ _ hg (fun _ => (State.finish_good _ _ _ _ hg ho.cmd)))
  | query _ => exact .next (State.onTaken_good _ _ _ _ hg (fun _ => (State.queryOp_good _ _ hg ho.cmd)))
  | negotiate _ => exact .next (State.onTaken_good _ _ _ _ hg (fun _ => (State.negotiateOp_good _ _ hg ho.cmd)))
  | progress _ => exact .next (State.onTaken_good _ _ _ _ hg (fun _ => (State.progressOp_good _ _ hg ho.cmd)))
  | traceConfig _ =>
    exact .next (State.onTaken_good _ _ _ _ hg (fun _ => (State.traceConfigOp_good _ _ hg ho.plots ho.cmd (ho.res
      rfl))))
  | traceArm _ => exact .next (State.onTaken_good _ _ _ _ hg (fun _ => (State.traceArmOp_good _ _ hg ho.plots ho.cmd)))
  | traceStop _ =>
    exact .next (State.onTaken_good _ _ _ _ hg (fun _ => (State.traceStopOp_good _ _ hg (ho.hbm rfl) ho.plots ho.cmd)))
  | traceDrain _ =>
    exact .next (State.onTakenHbm_good _ _ _ _ hg (fun _ => (State.traceDrainOp_good _ _ hg (ho.host rfl) (ho.hbm rfl)
      ho.plots ho.cmd)) ho.cmd)
  | faultDrain _ =>
    exact .next (State.onTakenHbm_good _ _ _ _ hg (fun _ => (State.faultDrainOp_good _ _ hg (ho.host rfl) (ho.hbm rfl)
      ho.plots ho.cmd)) ho.cmd)
  | firstAck _ _ _ => exact execFirstAck_good hg
  | histAck _ _ _ => exact execHistAck_good hg
  | counterClear _ _ _ => exact execCounterClear_good hg
  | bucketOverflow _ => exact execBucketOverflow_good hg
  | bucketDrainTick _ => exact execBucketDrainTick_good hg
  | gleanerItemRead _ => exact execGleanerItemRead_good hg
  | gleanerWrite _ => exact execGleanerWrite_good hg
  | hbmPatrolRead _ => exact execHbmPatrolRead_good hg ho.plots ho.cmd
  | controlTripleVote => exact execControlTripleVote_good hg
  | gleanerWatchdog _ => exact execGleanerWatchdog_good hg
  | gleanerRestart _ _ =>
    exact .next (good_ite (State.gated_good _ _ _ _ hg (fun _ _ _ h => (State.glnCfgWrite_good _ _ _ _ h))) hg)
  | scrubRange _ => exact .next (State.onTaken_good _ _ _ _ hg (fun _ => (State.scrubOp_good _ _ hg ho.plots ho.cmd)))
  | faultInjectionArm _ _ _ => exact execFaultInjectionArm_good hg
  | refclkLost => exact execRefclkLost_good hg ho.plots ho.cmd (ho.tm rfl)
  | refclkReturn => exact execRefclkReturn_good hg
  | d3hotEntry _ => exact execD3hotEntry_good hg
  | d0Return _ => exact execD0Return_good hg
  | fallowDeep _ =>
    exact .next (State.onTaken_good _ _ _ _ hg (fun _ => (State.fallowDeepOp_good _ _ hg (ho.hbm rfl) ho.plots ho.cmd
      (ho.tm rfl) (ho.res rfl))))
  | deepFallowEntered => exact .next (good_ite (State.deepEntered_good _ hg (ho.hbm rfl) ho.plots ho.cmd) hg)
  | wakeDeep _ =>
    exact .next (State.onTaken_good _ _ _ _ hg (fun _ => (State.wakeDeepOp_good _ _ hg (ho.hbm rfl) ho.plots ho.cmd
      (ho.img rfl))))
  | thermalEvaluation _ => exact execThermalEvaluation_good hg (ho.hbm rfl) ho.plots ho.cmd (ho.tm rfl) (ho.res rfl)
  | thermalTrip => exact execThermalTrip_good hg ho.plots ho.cmd ho.id (ho.tm rfl)
  | porN _ _ _ =>
    exact .next (State.wholeReset_good _ _ _ _ _ _ _ hg (ho.hbm rfl) (ho.spm rfl) ho.plots ho.cmd ho.id (ho.tm rfl)
      (ho.res rfl) (ho.img rfl))
  | devReset _ _ _ =>
    exact .next (State.gated_good _ _ _ _ hg (fun _ _ _ h => (State.devResetWrite_good _ _ _ _ _ h (ho.hbm rfl) (ho.spm
      rfl) ho.plots ho.cmd ho.id (ho.tm rfl) (ho.res rfl) (ho.img rfl))))
  | flr _ => exact execFlr_good hg (ho.hbm rfl) (ho.spm rfl) ho.plots ho.cmd ho.id (ho.tm rfl) (ho.res rfl) (ho.img rfl)
  | perstN _ _ =>
    exact .next (State.linkReset_good _ _ _ _ hg (ho.hbm rfl) (ho.spm rfl) ho.plots ho.cmd ho.id (ho.tm rfl) (ho.res
      rfl) (ho.img rfl))
  | dlDown _ _ =>
    exact .next (State.linkReset_good _ _ _ _ hg (ho.hbm rfl) (ho.spm rfl) ho.plots ho.cmd ho.id (ho.tm rfl) (ho.res
      rfl) (ho.img rfl))
  | configurationReady _ => exact execConfigurationReady_good hg
  | firmwareRunning => exact execFirmwareRunning_good hg
  | vbatLost => exact .next (good_updBoot hg)
  | ckptExport _ =>
    exact .next (State.onTakenHbm_good _ _ _ _ hg (fun _ => (State.ckptExportOp_good _ _ hg (ho.host rfl) ho.plots
      ho.cmd)) ho.cmd)
  | ckptImport _ =>
    exact .next (State.onTakenHbm_good _ _ _ _ hg (fun _ => (State.ckptImportOp_good _ _ hg (ho.hbm rfl) ho.plots
      ho.cmd (ho.tm rfl) (ho.img rfl))) ho.cmd)
  | xtLoad _ => exact .next (State.onTaken_good _ _ _ _ hg (fun _ => (State.xtLoadOp_good _ _ hg ho.cmd)))
  | fwUpdate _ => exact .next (State.onTaken_good _ _ _ _ hg (fun _ => (State.fwUpdateOp_good _ _ hg ho.cmd)))
  | keyProvision _ =>
    exact .next (State.onTaken_good _ _ _ _ hg (fun _ => (State.keyOp_good _ _ hg (ho.keys rfl) ho.cmd)))
  | gateDeclare _ _ _ => exact .next (State.gated_good _ _ _ _ hg (fun _ _ _ h => (State.gateWrite_good _ _ _ _ _ _ h)))
  | ctrlPacketReceive _ _ => exact .next (State.ctrlReceive_good _ _ _ _ hg ho.plots ho.cmd (ho.tm rfl) (ho.img rfl))
  | frameReceive _ _ _ _ _ _ =>
    exact .next (State.frameReceive_good _ _ _ _ _ _ _ (State.rxInject_good _ _ _ _ _ hg ho.plots ho.cmd) (ho.hbm rfl)
      ho.plots ho.cmd (ho.tm rfl) (ho.img rfl))
  | registerWrite _ _ _ =>
    exact execRegisterWrite_good hg (ho.hbm rfl) (ho.spm rfl) (ho.window rfl) ho.plots ho.cmd ho.id (ho.tm rfl) (ho.res
      rfl) (ho.img rfl)
  | monCtrlLock _ _ => exact .next (State.gated_good _ _ _ _ hg (fun _ _ _ h => (State.monCtrlWrite_good _ _ _ _ h)))
  | monVer => exact .next (State.monLine_good _ _ _ hg (fun _ h => (State.answer_good _ _ h)))
  | monPeek _ _ => exact execMonPeek_good hg (ho.spm rfl)
  | monPoke _ _ =>
    exact execMonPoke_good hg (ho.hbm rfl) (ho.spm rfl) (ho.window rfl) ho.plots ho.cmd ho.id (ho.tm rfl) (ho.res rfl)
      (ho.img rfl)
  | monHist _ _ => exact execMonHist_good hg
  | monEye _ _ => exact execMonEye_good hg
  | monStake _ => exact execMonStake_good hg
  | monTemp => exact .next (State.monLine_good _ _ _ hg (fun _ h => (State.answer_good _ _ h)))
  | monBaud _ => exact execMonBaud_good hg
  | monLock => exact execMonLock_good hg
  | monUnlockPassword _ _ => exact .next (State.unlockLine_good _ _ _ _ hg (ho.shut rfl))
  | monUnlockResponse _ _ => exact .next (State.unlockLine_good _ _ _ _ hg (ho.shut rfl))
  | unlockDelayExpiry => exact execUnlockDelayExpiry_good hg
  | scanInstruction _ => exact execScanInstruction_good hg ho.plots ho.cmd (ho.tm rfl)
  | debugInstruction op => exact execDebugInstruction_good (op := op) hg
  | smbLifecycle => exact .next (State.smbData_good _ _ hg)
  | smbTmax => exact .next (State.smbData_good _ _ hg)
  | smbSensorSelect _ => exact execSmbSensorSelect_good hg
  | smbSensorRead => exact execSmbSensorRead_good hg
  | smbRailPower _ => exact .next (State.smbData_good _ _ hg)
  | smbPowerResetStatus => exact .next (State.smbData_good _ _ hg)
  | smbAlertCause => exact .next (State.smbData_good _ _ hg)
  | smbAlertResponse => exact execSmbAlertResponse_good hg
end
end Sys2Proof.Machine

end

section

/-!
# What leaves Field Time alone

SUPPORT for the tick of the wall clock (R474, R484): the operations that the passing of a step starts, in the order of
the definitions. Most leave the Field Time unit alone (the lemmas `_ft`); the choice of a grandmaster writes its parent and
phase, but not the wall clock (the lemmas `_wall`).
-/

namespace Sys2Proof.Machine
open Sys2Proof

section
variable {s : State}

theorem Quiet.ft {κ s : State} (h : Quiet κ s) : s.ft = κ.ft := congrArg (a₁ := s.core) (a₂ := κ.core) State.ft h

/-! Updates of other fields. A proof rewrites with these lemmas, whose rfl is checked once for a variable: on a state that
is spelled out the kernel would compare the two states field by field. -/

theorem ft_setHvt {h : HvtDev} : ({ s with hvt := h } : State).ft = s.ft := rfl

theorem ft_setTile {x : IoTile} : ({ s with tile := x } : State).ft = s.ft := rfl

theorem wall_setParent {n : Nat} {b : Bool} :
    ({ s with ft := { s.ft with sinceParent := n, disciplined := b } } : State).ft.wall = s.ft.wall := rfl

theorem State.phaseEnds_wall : s.phaseEnds.ft.wall = s.ft.wall := by rw [State.phaseEnds_ft]

@[simp] theorem ite_ft {c : Prop} [Decidable c] {s t : State} : (if c then s else t).ft = if c then s.ft else t.ft :=
  apply_ite _ _ _ _

@[simp] theorem foldl_ft {α : Type} {g : State → α → State} {l : List α} {s : State} (h : ∀ s a, (g s a).ft = s.ft) :
    (l.foldl g s).ft = s.ft := by
  induction l generalizing s with
  | nil => rfl
  | cons a l ih => rw [List.foldl_cons, ih, h]

@[simp] theorem foldl_snd_ft {α β : Type} {g : β × State → α → β × State} {l : List α} {s : β × State}
    (h : ∀ s a, (g s a).2.ft = s.2.ft) : (l.foldl g s).2.ft = s.2.ft := by
  induction l generalizing s with
  | nil => rfl
  | cons a l ih => rw [List.foldl_cons, ih, h]

@[simp] theorem State.rgReset_ft {a : Nat} : (s.rgReset a).ft = s.ft :=
  (State.rgReset_quiet s _ rfl).ft

@[simp] theorem State.count_ft {a : Nat} : (s.count a).ft = s.ft :=
  (State.count_quiet s _ rfl).ft

@[simp] theorem State.plotInt_ft {p i : Nat} : (s.plotInt p i).ft = s.ft :=
  (State.plotInt_quiet s _ _ rfl).ft

@[simp] theorem State.record_ft {rtype len : Nat} {plot : Option Nat} {pn : Nat} {body : List Nat} :
    (s.record rtype len plot pn body).ft = s.ft :=
  (State.record_quiet s _ _ _ _ _ rfl).ft

@[simp] theorem State.plotState_ft {p ev status : Nat} {more : List Nat} : (s.plotState p ev status more).ft = s.ft :=
  (State.plotState_quiet s _ _ _ _ rfl).ft

@[simp] theorem State.raiseMem_ft {pc cause offset : Nat} {plot : Option Nat} {pn : Nat} :
    (s.raiseMem pc cause offset plot pn).ft = s.ft :=
  (State.raiseMem_quiet s _ _ _ _ _ rfl).ft

@[simp] theorem State.raiseXch_ft {cause port lane fidx : Nat} {plot : Option Nat} {pn : Nat} :
    (s.raiseXch cause port lane fidx plot pn).ft = s.ft :=
  (State.raiseXch_quiet s _ _ _ _ _ _ rfl).ft

@[simp] theorem State.raiseGln_ft {cause space index : Nat} {plot : Option Nat} :
    (s.raiseGln cause space index plot).ft = s.ft :=
  (State.raiseGln_quiet s _ _ _ _ rfl).ft

@[simp] theorem State.cmtStateSet_ft {p v : Nat} : (s.cmtStateSet p v).ft = s.ft :=
  (State.cmtStateSet_quiet s _ _ rfl).ft

@[simp] theorem State.hvtStop_ft {p cause pn ft : Nat} : (s.hvtStop p cause pn ft).ft = s.ft :=
  (State.hvtStop_quiet s _ _ _ _ rfl).ft

@[simp] theorem State.holdRec_ft {p kind action stake pn : Nat} : (s.holdRec p kind action stake pn).ft = s.ft :=
  (State.holdRec_quiet s _ _ _ _ _ rfl).ft

@[simp] theorem State.memUe_ft {addr : Nat} {plot : Option Nat} {pn : Nat} : (s.memUe addr plot pn).ft = s.ft :=
  (State.memUe_quiet s _ _ _ rfl).ft

@[simp] theorem State.poisonRead_ft {addr : Nat} {plot : Option Nat} {pn : Nat} : (s.poisonRead addr plot pn).ft = s.ft :=
  (State.poisonRead_quiet s _ _ _ rfl).ft

@[simp] theorem State.ftStateSet_ft {v : Nat} : (s.ftStateSet v).ft = s.ft :=
  (State.ftStateSet_quiet s _ rfl).ft

@[simp] theorem State.stageAdd_ft {n : Nat} : (s.stageAdd n).ft = s.ft :=
  (State.stageAdd_quiet s _ rfl).ft

@[simp] theorem State.hvtMirror_ft {p : Nat} : (s.hvtMirror p).ft = s.ft :=
  (State.hvtMirror_quiet s _ rfl).ft

@[simp] theorem State.devPut_ft {x : Rec} : (s.devPut x).ft = s.ft :=
  (State.devPut_quiet s _ rfl).ft

@[simp] theorem State.devLoss_ft {count cause : Nat} : (s.devLoss count cause).ft = s.ft :=
  (State.devLoss_quiet s _ _ rfl).ft

@[simp] theorem State.applySettings_ft {x : Part} : (s.applySettings x).ft = s.ft :=
  (State.applySettings_quiet s _ rfl).ft

@[simp] theorem State.lastUs_ft {ns : Nat} : (s.lastUs ns).ft = s.ft :=
  (State.lastUs_quiet s _ rfl).ft

@[simp] theorem State.takeFree_ft {w : Nat} : (s.takeFree w).2.ft = s.ft := by simp [State.takeFree]

@[simp] theorem State.takeInjects_ft {reg : Nat} {pick : Nat → Bool} : (s.takeInjects reg pick).2.ft = s.ft := by
  unfold State.takeInjects
  dsimp only
  split
  · rfl
  · exact (State.setBit_ft _ _ _).trans (State.clrBit_ft _ _ _)

@[simp] theorem State.injectAt_ft {reg : Nat} {pick : Nat → Bool} {corrupt : Nat → State → State}
    {cond : Nat → Nat → State → State} (hc : ∀ b s, (corrupt b s).ft = s.ft) (hd : ∀ a b s, (cond a b s).ft = s.ft) :
    (s.injectAt reg pick corrupt cond).ft = s.ft := by
  unfold State.injectAt
  split
  · rfl
  · exact (foldl_ft fun s i => by split <;> simp [hc, hd]).trans State.takeInjects_ft

@[simp] theorem State.eccSet_ft {kind idx v : Nat} : (s.eccSet kind idx v).ft = s.ft := by simp [State.eccSet]
@[simp] theorem State.upsetItem_ft {kind idx bits : Nat} : (s.upsetItem kind idx bits).ft = s.ft := by simp [State.upsetItem]

@[simp] theorem State.glnCond_ft {cause space index : Nat} {plot : Option Nat} :
    (s.glnCond cause space index plot).ft = s.ft := by
  unfold State.glnCond
  split <;> simp

@[simp] theorem State.glnMeet_ft {plot : Option Nat} {pick : Nat → Bool} {corrupt : Nat → Nat → State → State}
    (hc : ∀ a b s, (corrupt a b s).ft = s.ft) :
    (s.glnMeet plot pick corrupt).ft = s.ft := by
  unfold State.glnMeet
  split
  · rfl
  · exact (foldl_ft fun s i => by split <;> simp [hc]).trans State.takeInjects_ft

@[simp] theorem State.glnTouchHbm_ft {word : Nat} {plot : Option Nat} : (s.glnTouchHbm word plot).ft = s.ft := by
  simp [State.glnTouchHbm]

@[simp] theorem State.sweepRestart_ft {a : Nat} : (s.sweepRestart a).ft = s.ft := by simp [State.sweepRestart]
@[simp] theorem State.vote_ft {e : Nat × Nat} : (s.vote e).ft = s.ft := by simp [State.vote]
@[simp] theorem State.useTriple_ft {reg : Nat} : (s.useTriple reg).ft = s.ft := by simp [State.useTriple]
@[simp] theorem State.bucket_ft {cls reg : Nat} : (s.bucket cls reg).ft = s.ft := by simp [State.bucket]

@[simp] theorem State.ctrlQueue_ft {port ptype : Nat} {ws : List Word} : (s.ctrlQueue port ptype ws).ft = s.ft := by
  simp [State.ctrlQueue]

@[simp] theorem State.ctrlQueueAll_ft {ports : List Nat} {ptype : Nat} {ws : List Word} :
    (s.ctrlQueueAll ports ptype ws).ft = s.ft := by simp [State.ctrlQueueAll]

@[simp] theorem State.nextSeq_ft : (s.nextSeq).2.ft = s.ft := by simp [State.nextSeq]
@[simp] theorem State.markSeen_ft {src seq : Nat} : (s.markSeen src seq).ft = s.ft := by simp [State.markSeen]
@[simp] theorem State.flood_ft {p ptype : Nat} {body : List Nat} : (s.flood p ptype body).ft = s.ft := by simp [State.flood]

@[simp] theorem State.floodCtl_ft {p subtype action status pn ftns : Nat} :
    (s.floodCtl p subtype action status pn ftns).ft = s.ft := by simp [State.floodCtl]

@[simp] theorem State.nextDone_ft : (s.nextDone).ft = s.ft := by simp [State.nextDone]

@[simp] theorem State.finishOpt_ft {id status result : Nat} : (s.finishOpt id status result).ft = s.ft := by
  simp [State.finishOpt]

@[simp] theorem State.finishAll_ft {p : Nat} {pick : Cmd → Bool} {status result : Nat} :
    (s.finishAll p pick status result).ft = s.ft := by simp [State.finishAll]

@[simp] theorem State.finishRuns_ft {p status pn : Nat} : (s.finishRuns p status pn).ft = s.ft := by simp [State.finishRuns]
@[simp] theorem State.makeReady_ft {pick : Cmd → Bool} : (s.makeReady pick).ft = s.ft := by simp [State.makeReady]

@[simp] theorem State.finishWaiting_ft {p status : Nat} : (s.finishWaiting p status).ft = s.ft := by
  simp [State.finishWaiting]

@[simp] theorem State.faultStop_ft {p state status : Nat} : (s.faultStop p state status).ft = s.ft := by
  simp [State.faultStop]

@[simp] theorem State.divergePass_ft {p k : Nat} {sendPacket : Bool} : (s.divergePass p k sendPacket).ft = s.ft := by
  simp [State.divergePass]

@[simp] theorem State.passError_ft {p k block cause : Nat} {loc unit : Nat} :
    (s.passError p k block cause loc unit).ft = s.ft := by simp [State.passError]

@[simp] theorem State.selectsOwn_ft {p : Nat} {pick : Nat → Bool} : (s.selectsOwn p pick).ft = s.ft := by
  simp [State.selectsOwn]

@[simp] theorem State.ramPut_ft {phys base : Nat} {vs : List Val} : (s.ramPut phys base vs).ft = s.ft := by
  simp [State.ramPut]

@[simp] theorem State.hbmMarkSet_ft {addr v : Nat} : (s.hbmMarkSet addr v).ft = s.ft := by simp [State.hbmMarkSet]
@[simp] theorem State.unsuspect_ft {addr : Nat} : (s.unsuspect addr).ft = s.ft := by simp [State.unsuspect]

@[simp] theorem State.memEvent_ft {cause addr : Nat} {plot : Option Nat} {pn : Nat} :
    (s.memEvent cause addr plot pn).ft = s.ft := by simp [State.memEvent]

@[simp] theorem State.memRaise_ft {cause addr : Nat} {plot : Option Nat} {pn : Nat} {sched : Bool} :
    (s.memRaise cause addr plot pn sched).ft = s.ft := by
  unfold State.memRaise
  cases plot with
  | none => simp
  | some p => simp

@[simp] theorem State.memInject_ft {addr : Nat} {plot : Option Nat} {pn : Nat} {sched : Bool} :
    (s.memInject addr plot pn sched).ft = s.ft := by simp [State.memInject]

@[simp] theorem State.dataLoss_ft {addr p pn : Nat} : (s.dataLoss addr p pn).ft = s.ft := by simp [State.dataLoss]

@[simp] theorem State.poison_ft {addr : Nat} {plot : Option Nat} {pn : Nat} : (s.poison addr plot pn).ft = s.ft := by
  unfold State.poison
  split <;> simp

@[simp] theorem State.hbmCheck_ft {addr : Nat} {plot : Option Nat} {pn : Nat} : (s.hbmCheck addr plot pn).2.ft = s.ft := by
  unfold State.hbmCheck
  dsimp only
  split <;> simp

@[simp] theorem State.hbmCheckRange_ft {addr n : Nat} {plot : Option Nat} {pn : Nat} :
    (s.hbmCheckRange addr n plot pn).2.ft = s.ft := by simp [State.hbmCheckRange]

@[simp] theorem State.hbmStore_ft {addr : Nat} {bs : List Byte} : (s.hbmStore addr bs).ft = s.ft := by simp [State.hbmStore]
@[simp] theorem State.remapCopy_ft {pc row : Nat} : (s.remapCopy pc row).ft = s.ft := by simp [State.remapCopy]

@[simp] theorem State.remapActive_ft {pc k : Nat} : (s.remapActive pc k).ft = s.ft := by
  unfold State.remapActive
  split
  · rw [State.raiseMem_ft, State.setBit_ft, State.remapCopy_ft]
  · rfl

@[simp] theorem State.remapReady_ft {pc : Nat} : (s.remapReady pc).ft = s.ft := by simp [State.remapReady]
@[simp] theorem State.remapStopped_ft : (s.remapStopped).ft = s.ft := by simp [State.remapStopped]

@[simp] theorem State.onSync_wall {q : Nat} {f : SyncPort → SyncPort} : (s.onSync q f).ft.wall = s.ft.wall := by
  simp [State.onSync]

@[simp] theorem State.choose_wall {gmid q : Nat} : (s.choose gmid q).ft.wall = s.ft.wall := by
  unfold State.choose
  dsimp only
  split <;> simp [State.condition_ft]

@[simp] theorem State.recount_wall : (s.recount).ft.wall = s.ft.wall := by simp [State.recount]

@[simp] theorem State.discipline_wall : (s.discipline).ft.wall = s.ft.wall := by
  unfold State.discipline
  split
  · simp
  · split
    · rfl
    · simp

@[simp] theorem State.noGm_wall : (s.noGm).ft.wall = s.ft.wall := by
  unfold State.noGm
  dsimp only
  split <;> simp

@[simp] theorem State.selfGm_wall {gm : Nat} : (s.selfGm gm).ft.wall = s.ft.wall := by
  unfold State.selfGm
  split <;> simp

@[simp] theorem State.takeParent_wall {gm hops q : Nat} : (s.takeParent gm hops q).ft.wall = s.ft.wall := by
  unfold State.takeParent
  dsimp only
  rw [State.put_ft, State.rnSet_ft]
  split
  · rfl
  · rw [State.recount_wall, wall_setParent, State.ftStateSet_ft, State.setBit_ft, State.put_ft, State.choose_wall]

@[simp] theorem State.chooseGm_wall : (s.chooseGm).ft.wall = s.ft.wall := by
  unfold State.chooseGm
  split
  · exact State.noGm_wall
  · dsimp only
    split
    · exact State.selfGm_wall
    · exact State.takeParent_wall

@[simp] theorem State.parentLost_wall : (s.parentLost).ft.wall = s.ft.wall := by
  have hrest : ∀ s1 : State, (((s1.phaseEnds.ftStateSet 3).put Reg.FT_STAT 8 8 255).chooseGm).ft.wall = s1.ft.wall :=
    fun s1 => by rw [State.chooseGm_wall, State.put_ft, State.ftStateSet_ft, State.phaseEnds_wall]
  have hgone : ∀ q f, (((s.condition Block.ft Reg.FT_STAT 20).clrBit Reg.FT_STAT 23).onSync q f).ft.wall = s.ft.wall :=
    fun q f => by rw [State.onSync_wall, State.clrBit_ft, State.condition_ft]
  exact (hrest _).trans (hgone _ _)

@[simp] theorem State.selectGm_wall : (s.selectGm).ft.wall = s.ft.wall := by
  unfold State.selectGm
  split <;> simp

@[simp] theorem State.onPort_ft {q : Nat} {f : Port → Port} : (s.onPort q f).ft = s.ft := by simp [State.onPort]
@[simp] theorem State.testTick_ft : (s.testTick).ft = s.ft := by simp [State.testTick]

@[simp] theorem State.ringStore_ft {p off : Nat} {bs : List Byte} : (s.ringStore p off bs).ft = s.ft :=
  foldl_ft fun s i => by split <;> simp

@[simp] theorem State.plotStore_ft {p : Nat} {x : Rec} {put : Ring × List (Nat × List Word)} :
    (s.plotStore p x put).ft = s.ft := by
  unfold State.plotStore
  dsimp only
  split
  · rw [State.setBit_ft, State.hvtMirror_ft, State.onHvt_ft, foldl_ft fun _ _ => State.ringStore_ft, State.stageAdd_ft]
  · rw [State.hvtMirror_ft, State.onHvt_ft, foldl_ft fun _ _ => State.ringStore_ft, State.stageAdd_ft]

@[simp] theorem State.plotPut_ft {p : Nat} {x : Rec} : (s.plotPut p x).ft = s.ft := by simp [State.plotPut]

@[simp] theorem State.eventOut_ft {e : EvRec} {trunc : Bool} : (s.eventOut e trunc).ft = s.ft := by
  unfold State.eventOut
  have hdev : ∀ x, (if e.toDev then s.devPut x else s).ft = s.ft := fun x => by simp
  dsimp only
  split
  · rw [ite_ft, State.plotPut_ft, hdev, ite_self]
  · exact hdev _

@[simp] theorem State.fifoRun_ft {es : List EvRec} : (s.fifoRun es).ft = s.ft := by
  induction es generalizing s with
  | nil => rfl
  | cons e es ih =>
    unfold State.fifoRun
    split <;> simp [ih]

@[simp] theorem State.drainFifo_ft : (s.drainFifo).ft = s.ft := by
  unfold State.drainFifo
  dsimp only
  split
  · rfl
  · split
    · rw [State.fifoRun_ft, ft_setHvt]
    · rw [State.devLoss_ft, ft_setHvt, State.fifoRun_ft, ft_setHvt]

@[simp] theorem State.plotLoss_ft {p pn count cause : Nat} : (s.plotLoss p pn count cause).ft = s.ft := by
  unfold State.plotLoss
  rw [State.setBit_ft, State.plotPut_ft]

@[simp] theorem State.lossDue_ft {p : Nat} : (s.lossDue p).ft = s.ft := by
  unfold State.lossDue
  split
  · rfl
  · rw [State.onHvt_ft, State.plotLoss_ft]

@[simp] theorem State.lossAfter_ft {p : Nat} : (s.lossAfter p).ft = s.ft := by simp [State.lossAfter]
@[simp] theorem State.clearFurrow_ft {f : Nat} : (s.clearFurrow f).ft = s.ft := by simp [State.clearFurrow]
@[simp] theorem State.clearFurrows_ft {p : Nat} : (s.clearFurrows p).ft = s.ft := by simp [State.clearFurrows]

@[simp] theorem State.writeTarget_ft {t : Target} : (s.writeTarget t).ft = s.ft := by
  unfold State.writeTarget
  split <;> simp

@[simp] theorem State.carryMap_ft {x : Part} : (s.carryMap x).ft = s.ft := by simp [State.carryMap]
@[simp] theorem State.shadowWord_ft {p idx w : Nat} : (s.shadowWord p idx w).ft = s.ft := by simp [State.shadowWord]
@[simp] theorem State.shadowRead_ft {p : Nat} : (s.shadowRead p).ft = s.ft := by simp [State.shadowRead]
@[simp] theorem State.resow_ft {p : Nat} : (s.resow p).ft = s.ft := by simp [State.resow]
@[simp] theorem State.deepRec_ft {enter : Bool} {ns : Nat} : (s.deepRec enter ns).ft = s.ft := by simp [State.deepRec]
@[simp] theorem State.wakeDone_ft : (s.wakeDone).ft = s.ft := by simp [State.wakeDone]
@[simp] theorem State.wakeCheck_ft : (s.wakeCheck).ft = s.ft := by simp [State.wakeCheck]

@[simp] theorem State.diagnosed_ft : (s.diagnosed).ft = s.ft := by
  unfold State.diagnosed
  split
  · exact ft_setTile.trans (State.putBit_ft _ _ _ _)
  · rfl

end
end Sys2Proof.Machine

end

section

/-!
# The front of the queue

PROVES O3 (spec 00_scope.md, R4, R474, R484).
-/

namespace Sys2Proof.Machine
open Sys2Proof

section
variable {κ : Kept} {s t : State}

/-- What a command leaves alone: all that it may not write. -/
def Kept.under (c : Instr) (s : State) : Kept :=
  { pending := s.pending, fuses := s.fuses, svn := s.boot.fusedMin,
    shut := !c.opensMonitor && (s.boot.lifecycle == 2 && s.svc.locked),
    keys := if c.writesKeys then none else some s.boot.keys,
    host := if c.writesHostMemory then none else some s.host.mem,
    hbm := if c.writesDesignMemory then none else some s.hbm.mem,
    spm := if c.writesScratchpad then none else some s.tile.spm,
    window := if c.writesBootWindow then none else some s.boot.window,
    plots := none, cmd := none, id := none,
    tm := if c.movesPlotTime then none else some fun p => (s.plot p).tm,
    res := if c.movesResources then none else some fun p => (s.plot p).res,
    img := if c.movesImage then none else some fun p => (s.plot p).img }

theorem Kept.under_sub (c : Instr) (s : State) : (Kept.under c s).Sub (Kept.all s) where
  pending := rfl
  fuses := rfl
  svn := le_rfl
  shut h := (Bool.and_eq_true_iff.1 h).2
  keys := ite_eq_or_eq _ _ _
  host := ite_eq_or_eq _ _ _
  hbm := ite_eq_or_eq _ _ _
  spm := ite_eq_or_eq _ _ _
  window := ite_eq_or_eq _ _ _
  plots := .inl rfl
  cmd := .inl rfl
  id := .inl rfl
  tm := ite_eq_or_eq _ _ _
  res := ite_eq_or_eq _ _ _
  img := ite_eq_or_eq _ _ _

theorem Kept.under_openTo (c : Instr) (s : State) : (Kept.under c s).OpenTo c where
  plots := rfl
  cmd := rfl
  id := rfl
  shut h := by simp [Kept.under, h]
  keys h := if_pos h
  host h := if_pos h
  hbm h := if_pos h
  spm h := if_pos h
  window h := if_pos h
  tm h := if_pos h
  res h := if_pos h
  img h := if_pos h

/-- A command that goes on leaves alone what it may not write, and the canonical form. -/
theorem exec_keeps {c : Instr} (hm : s.memWf = true) (h : exec c s = .next t) : Good (Kept.under c s) t :=
  exec_good c ((Good.all s hm).sub (Kept.under_sub c s)) (Kept.under_openTo c s) t h

/-! ## One step of the step clock -/

theorem State.rateSteps_wall {n : Nat} : (s.rateSteps n).ft.wall = s.ft.wall + n := rfl

/-- n steps of the step clock are n steps of the wall clock, whether a phase term ends within them or not. -/
theorem State.tickSteps_wall {n : Nat} : (s.tickSteps n).ft.wall = s.ft.wall + n := by
  cases h : s.ft.phaseEnd with
  | none => rw [State.tickSteps_none h, State.rateSteps_wall]
  | some e =>
    rcases Nat.lt_or_ge n (s.stepsTo e.toNat) with hn | hn
    · rw [State.tickSteps_lt h hn, State.rateSteps_wall]
    · rw [State.tickSteps_ge h hn, State.rateSteps_wall, State.phaseEnds_wall, State.rateSteps_wall]
      omega

/-- What the passing of a step starts takes no further step. -/
theorem State.onTick_wall : s.onTick.ft.wall = s.ft.wall := by
  have h : ((natsFrom 0 16).foldl State.lossAfter s.testTick.drainFifo).remapStopped.diagnosed.wakeCheck.ft = s.ft := by
    rw [State.wakeCheck_ft, State.diagnosed_ft, State.remapStopped_ft, foldl_ft fun _ _ => State.lossAfter_ft,
      State.drainFifo_ft, State.testTick_ft]
  unfold State.onTick
  dsimp only
  split
  · rw [State.selectGm_wall, h]
  · rw [h]

theorem State.idle_wall : s.idle.ft.wall = s.ft.wall + 1 := by
  unfold State.idle
  split
  · exact State.tickSteps_wall
  · exact State.onTick_wall.trans State.tickSteps_wall

/-- What an idle step leaves alone: it may store events in the rings, end tests and wake plots. -/
theorem State.idle_keeps (hm : s.memWf = true) :
    Good { Kept.all s with hbm := none, plots := none, cmd := none, img := none } s.idle :=
  have hs : Kept.Sub { Kept.all s with hbm := none, plots := none, cmd := none, img := none } (Kept.all s) :=
    ⟨rfl, rfl, le_rfl, id, .inr rfl, .inr rfl, .inl rfl, .inr rfl, .inr rfl, .inl rfl, .inl rfl, .inr rfl, .inr rfl, .inr rfl,
      .inl rfl⟩
  State.idle_good s ((Good.all s hm).sub hs) rfl rfl rfl rfl

/-! ## One step of the machine -/

theorem step_idle (h : s.pending = []) : step s = .next s.idle := by
  rw [step, h]

theorem step_exec {c : Instr} {rest : List Instr} (h : s.pending = c :: rest) :
    step s = exec c { s with pending := rest } := by
  rw [step, h]

/-- A step with commands waiting uses up the first of them. -/
theorem step_pending (hm : s.memWf = true) (hp : s.pending ≠ []) (h : step s = .next t) :
    t.pending = s.pending.tail := by
  obtain ⟨c, rest, hc⟩ := List.exists_cons_of_ne_nil hp
  rw [step_exec hc] at h
  rw [hc]
  exact (exec_keeps (s := { s with pending := rest }) hm h).pending

end

/-- Settles O3: an idle step is one tick of the wall clock (`State.idle_wall`), after a trip the passing of time alone, and no
command touches the queue (`exec_keeps`). -/
theorem queueIsUsedUpFromTheFront : Obligations.QueueIsUsedUpFromTheFront := by
  intro s hm
  refine ⟨fun hp => ?_, fun hp ht => ?_, fun t hp h => step_pending hm hp h⟩
  · have hk := State.idle_keeps hm
    exact ⟨s.idle, step_idle hp, hk.pending.trans hp, hk.mem, State.idle_wall⟩
  · have hi : s.idle = s.tickTime := if_pos ht
    exact ⟨s.tickTime, hi ▸ step_idle hp, s.tickTime_plots, s.tickTime_cmd, s.tickTime_hbm, s.tickTime_lnk, s.tickTime_hvt,
      s.tickTime_xch⟩

end Sys2Proof.Machine

end

section

/-!
# The timetable of a pass

PROVES O7 (spec R22, R23).
-/

namespace Sys2Proof.Machine
open Sys2Proof

/-! ## Where the plots stand in their timetables -/

section
variable {s t u : State} {p n st : Nat} {pins : List (Nat × Nat)} {ph ph' : Phase}

/-- What is kept where only the plots' places in their timetables matter. -/
def Kept.times (s : State) : Kept :=
  { pending := s.pending, fuses := s.fuses, svn := s.boot.fusedMin, shut := false, keys := none, host := none, hbm := none,
    spm := none, window := none, plots := none, cmd := none, id := none, tm := some fun p => (s.plot p).tm, res := none,
    img := none }

theorem Good.times (hm : s.memWf = true) : Good (Kept.times s) s :=
  (Good.all s hm).sub ⟨rfl, rfl, le_rfl, fun h => (Bool.false_ne_true h).elim, .inl rfl, .inl rfl, .inl rfl, .inl rfl, .inl rfl,
    .inl rfl, .inl rfl, .inl rfl, .inr rfl, .inl rfl, .inl rfl⟩

/-- t is in canonical form, plot p stands at ph with the counts that it has in s, and every other plot where it stands in s. -/
structure State.Stands (p : Nat) (ph : Phase) (s t : State) : Prop where
  mem : t.memWf = true
  phase : (t.plot p).tm.phase = ph
  pn : (t.plot p).tm.pn = (s.plot p).tm.pn
  cpn : (t.plot p).tm.cpn = (s.plot p).tm.cpn
  others : ∀ q, q ≠ p → (t.plot q).tm = (s.plot q).tm

theorem State.Stands.refl (hm : s.memWf = true) : State.Stands p (s.plot p).tm.phase s s :=
  ⟨hm, rfl, rfl, rfl, fun _ _ => rfl⟩

/-- An operation that leaves the timetables alone. -/
theorem State.Stands.keep (h : State.Stands p ph s t) (hk : Good (Kept.times t) t → Good (Kept.times t) u) :
    State.Stands p ph s u := by
  have hu := hk (Good.times h.mem)
  have htm : ∀ q, (u.plot q).tm = (t.plot q).tm := hu.tm _ rfl
  exact ⟨hu.mem, htm p ▸ h.phase, htm p ▸ h.pn, htm p ▸ h.cpn, fun q hq => (htm q).trans (h.others q hq)⟩

/-- A change of the record of p that leaves the counts alone. -/
theorem State.Stands.onPlot {f : Plot → Plot} (h : State.Stands p ph s t) (hph : (f (t.plot p)).tm.phase = ph')
    (hpn : ∀ y, (f y).tm.pn = y.tm.pn) (hcpn : ∀ y, (f y).tm.cpn = y.tm.cpn) : State.Stands p ph' s (t.onPlot p f) := by
  have hp : (t.onPlot p f).plot p = f (t.plot p) := (State.plot_onPlot t p p f h.mem).trans (if_pos rfl)
  refine ⟨State.onPlot_memWf t p f h.mem, ?_, ?_, ?_, fun q hq => ?_⟩
  · rw [hp, hph]
  · rw [hp, hpn, h.pn]
  · rw [hp, hcpn, h.cpn]
  · rw [State.plot_onPlot_ne t p q f hq, h.others q hq]

/-- The time that a part takes moves only the point at which the next one is due. -/
theorem State.Stands.spend (h : State.Stands p ph s t) : State.Stands p ph s (t.spend p n) := by
  refine State.Stands.keep ?_ fun hg => State.waitSteps_good _ _ hg
  exact h.onPlot h.phase (fun _ => rfl) fun _ => rfl

/-- The headland of a pass begins with its commit part. -/
theorem State.Stands.beginHeadland (h : State.Stands p ph s t) : State.Stands p (.head .commit) s (t.beginHeadland p) := by
  refine State.Stands.keep ?_ fun hg => State.readyPlot_good _ _ hg rfl
  refine State.Stands.onPlot (ph := ph) ?_ rfl (fun _ => rfl) fun _ => rfl
  exact h.keep fun hg => State.sigPassEnd_good _ _ _ (State.stagePass_good _ _ (good_upd hg))

/-- The steps of a pass follow one another, and its headland the last of them (R22). -/
theorem scheduleStep_stands (hm : s.memWf = true) (hp : (s.plot p).tm.phase = .step st) :
    ∃ t, exec (.scheduleStep p pins) s = .next t ∧
      State.Stands p (if st + 1 < s.passLen p then .step (st + 1) else .head .commit) s t := by
  have hexec : exec (.scheduleStep p pins) s = .next (if st + 1 < s.passLen p then
      ((s.stepDo p st pins).spend p 1).onTm p fun t => { t with phase := .step (st + 1) }
      else ((s.stepDo p st pins).spend p 1).beginHeadland p) := by
    show execScheduleStep p pins s = _
    rw [execScheduleStep, hp]
  have hstep : State.Stands p _ s ((s.stepDo p st pins).spend p 1) :=
    ((State.Stands.refl hm).keep fun hg => State.stepDo_good _ _ _ _ hg rfl rfl).spend
  refine ⟨_, hexec, ?_⟩
  split
  · exact hstep.onPlot rfl (fun _ => rfl) fun _ => rfl
  · exact hstep.beginHeadland

/-! ## The parts of a headland (R23) -/

/-- A command that acts at part g alone hands the plot to part g', where what it does there ends with that. -/
theorem atHead_hands_on {o : Host.Outcome State Fault Refusal} {g g' : Stage}
    (hin : s.atHead p g = true → ∃ u : State, o = .next (u.toHead p g')) (hout : s.atHead p g = false → o = .next s) :
    if s.atHead p g then ∃ t, o = .next t ∧ t.atHead p g' = true else o = .next s := by
  split
  · obtain ⟨u, hu⟩ := hin ‹_›
    exact ⟨_, hu, State.atHead_toHead u p g'⟩
  · exact hout (Bool.eq_false_iff.2 ‹_›)

/-- The same for a command that first asks whether the plot stands elsewhere. -/
theorem guarded_hands_on {v : State} {g g' : Stage} (hv : ∃ u : State, v = u.toHead p g') :
    let o : Host.Outcome State Fault Refusal := .next (if s.atHead p g = false then s else v)
    if s.atHead p g then ∃ t, o = .next t ∧ t.atHead p g' = true else o = .next s := by
  obtain ⟨u, rfl⟩ := hv
  exact atHead_hands_on (fun h => ⟨u, congrArg _ (if_neg (Bool.not_eq_false _ ▸ h))⟩) fun h => congrArg _ (if_pos h)

end

/-- Settles O7: a schedule step leaves every timetable but its own plot's alone (`scheduleStep_stands`), and each headland
command ends with the plot at the next part (`atHead_hands_on`). -/
theorem passAndHeadlandFollowTheTimetable : Obligations.PassAndHeadlandFollowTheTimetable := by
  refine ⟨fun s p st pins hm hp => ?_, fun s p pins => ⟨?_, ?_, ?_, ?_, ?_, ?_⟩⟩
  · obtain ⟨t, ht, hs⟩ := scheduleStep_stands (pins := pins) hm hp
    refine ⟨t, ht, hs.pn, hs.cpn, ?_, hs.others⟩
    have hph := hs.phase
    split
    · rw [hph, if_pos ‹_›]
    · rw [State.atHead, hph, if_neg ‹_›, beq_self_eq_true]
  · exact guarded_hands_on ⟨_, rfl⟩
  · exact guarded_hands_on ⟨_, rfl⟩
  · refine guarded_hands_on ?_
    split
    · exact ⟨_, rfl⟩
    · exact ⟨_, rfl⟩
  · exact guarded_hands_on ⟨_, rfl⟩
  · exact atHead_hands_on (fun h => ⟨_, congrArg _ (if_pos h)⟩) fun h => congrArg _ (if_neg (Bool.eq_false_iff.1 h))
  · exact guarded_hands_on ⟨_, rfl⟩

end Sys2Proof.Machine

end

section

/-!
# Clear registers

PROVES O15 (spec R17).
-/

namespace Sys2Proof.Machine
open Sys2Proof

/-! ## The counter at an address -/

/-- The greatest offset within an array of registers. -/
def dimSpan : List (Nat × Nat) → Nat
  | [] => 0
  | (n, st) :: ds => (n - 1) * st + dimSpan ds

/-- The common divisor of the strides. -/
def dimGcd : List (Nat × Nat) → Nat
  | [] => 0
  | (_, st) :: ds => Nat.gcd st (dimGcd ds)

/-- The indices of an offset give the offset back. -/
theorem dotIdx_of_dimIdx {ds : List (Nat × Nat)} {off : Nat} {is : List Nat} (h : dimIdx ds off = some is) :
    dotIdx is (ds.map (·.2)) = off := by
  induction ds generalizing off is with
  | nil => simp_all [dimIdx, dotIdx]
  | cons d ds ih =>
    simp only [dimIdx, Option.ite_none_right_eq_some, Option.map_eq_some_iff] at h
    obtain ⟨-, js, hjs, rfl⟩ := h
    rw [List.map_cons, dotIdx, ih hjs, Nat.div_add_mod']

theorem le_dimSpan {ds : List (Nat × Nat)} {off : Nat} {is : List Nat} (h : dimIdx ds off = some is) :
    off ≤ dimSpan ds := by
  induction ds generalizing off is with
  | nil => simp_all [dimIdx, dimSpan]
  | cons d ds ih =>
    simp only [dimIdx, Option.ite_none_right_eq_some, Option.map_eq_some_iff] at h
    obtain ⟨hn, js, hjs, rfl⟩ := h
    calc off = off / d.2 * d.2 + off % d.2 := (Nat.div_add_mod' off d.2).symm
      _ ≤ (d.1 - 1) * d.2 + dimSpan ds := Nat.add_le_add (Nat.mul_le_mul_right _ (by omega)) (ih hjs)

theorem dimGcd_dvd {ds : List (Nat × Nat)} {off : Nat} {is : List Nat} (h : dimIdx ds off = some is) :
    dimGcd ds ∣ off := by
  induction ds generalizing off is with
  | nil => simp_all [dimIdx, dimGcd]
  | cons d ds ih =>
    simp only [dimIdx, Option.ite_none_right_eq_some, Option.map_eq_some_iff] at h
    obtain ⟨hn, js, hjs, rfl⟩ := h
    have hmod := (Nat.gcd_dvd_right d.2 (dimGcd ds)).trans (ih hjs)
    exact (Nat.dvd_mod_iff (Nat.gcd_dvd_left d.2 _)).1 hmod

/-- No address lies in both arrays of counters: one ends before the other begins, or they interleave. -/
def CntRow.apart (r r' : CntRow) : Bool :=
  let g := Nat.gcd (dimGcd r.dims) (dimGcd r'.dims)
  decide (r.base + dimSpan r.dims < r'.base ∨ r'.base + dimSpan r'.dims < r.base ∨ r.base % g ≠ r'.base % g)

theorem CntRow.apart_ne {r r' : CntRow} {off off' : Nat} {is is' : List Nat} (h : r.apart r' = true)
    (hi : dimIdx r.dims off = some is) (hi' : dimIdx r'.dims off' = some is') : r.base + off ≠ r'.base + off' := by
  intro he
  have hs := le_dimSpan hi
  have hs' := le_dimSpan hi'
  have hg := (Nat.gcd_dvd_left (dimGcd r.dims) (dimGcd r'.dims)).trans (dimGcd_dvd hi)
  have hg' := (Nat.gcd_dvd_right (dimGcd r.dims) (dimGcd r'.dims)).trans (dimGcd_dvd hi')
  rw [CntRow.apart, decide_eq_true_eq] at h
  rcases h with h | h | h
  · omega
  · omega
  · have hm := congrArg (· % Nat.gcd (dimGcd r.dims) (dimGcd r'.dims)) he
    simp only [Nat.add_mod, Nat.mod_eq_zero_of_dvd hg, Nat.mod_eq_zero_of_dvd hg', Nat.add_zero, Nat.mod_mod] at hm
    exact h hm

/-- The arrays of counters of the register map lie apart, none at address 0. -/
theorem cntRows_apart : cntRows.Pairwise fun r r' => r.apart r' = true := by decide +kernel

theorem cntRows_base_ne_zero : ∀ r ∈ cntRows, r.base ≠ 0 := by decide +kernel

/-- What a lookup finds: a row of the table, and the indices of the address within it. -/
theorem findCnt_some {sel : CntRow → Nat} {a : Nat} {l : List CntRow} {r : CntRow} {is : List Nat}
    (h : findCnt sel a l = some (r, is)) : r ∈ l ∧ dimIdx r.dims (a - sel r) = some is := by
  induction l with
  | nil => simp [findCnt] at h
  | cons x l ih =>
    rw [findCnt] at h
    split at h
    · exact (ih h).imp_left (List.mem_cons_of_mem x)
    · split at h
      · cases h; exact ⟨List.mem_cons_self, ‹_›⟩
      · exact (ih h).imp_left (List.mem_cons_of_mem x)

/-- Where rows lie apart, the lookup of a counter's address finds its row. -/
theorem findCnt_base {l : List CntRow} {r : CntRow} {off : Nat} {is : List Nat}
    (hl : l.Pairwise fun r r' => r.apart r' = true) (hz : ∀ r ∈ l, r.base ≠ 0) (hr : r ∈ l)
    (hi : dimIdx r.dims off = some is) :
    findCnt CntRow.base (r.base + off) l = some (r, is) := by
  induction l with
  | nil => simp at hr
  | cons x l ih =>
    obtain ⟨hx, hl⟩ := List.pairwise_cons.1 hl
    have hz' : ∀ r ∈ l, r.base ≠ 0 := fun r h => hz r (List.mem_cons_of_mem x h)
    rw [findCnt]
    rcases List.mem_cons.1 hr with rfl | hr
    · rw [if_neg (by have := hz r List.mem_cons_self; omega), Nat.add_sub_cancel_left, hi]
    · split
      · exact ih hl hz' hr
      · split
        · rename_i hc is' hi'
          exact absurd (by omega) (CntRow.apart_ne (hx r hr) hi' hi)
        · exact ih hl hz' hr

/-- The counter that a clear register belongs to is found at its own address. -/
theorem findCnt_cntAt {a : Nat} {r : CntRow} {is : List Nat} (h : findCnt CntRow.clr a cntRows = some (r, is)) :
    findCnt CntRow.base (r.cntAt is) cntRows = some (r, is) := by
  obtain ⟨hr, hi⟩ := findCnt_some h
  rw [CntRow.cntAt, dotIdx_of_dimIdx hi]
  exact findCnt_base cntRows_apart cntRows_base_ne_zero hr hi

/-! ## Clearing bits -/

section
variable {s t : State}

/-- Clearing a bit sets no bit. -/
theorem State.bit_clrBit_of_not {a i b j : Nat} (hm : s.memWf = true) (h : s.bit b j = false) :
    (s.clrBit a i).bit b j = false := by
  by_cases hb : b = a
  · subst hb
    rcases Nat.lt_or_ge j 32 with hj | hj
    · rw [State.clrBit, State.bit_put _ _ _ _ _ _ hm hj, h, Nat.zero_testBit, ite_self]
    · exact Nat.testBit_lt_two_pow ((BitVec.isLt _).trans_le (Nat.pow_le_pow_right (by decide) hj))
  · rw [State.bit, State.rn_clrBit_ne _ _ _ _ hb]
    exact h

theorem State.rn_clrBit_of_zero {a i b : Nat} (hm : s.memWf = true) (h : s.rn b = 0) : (s.clrBit a i).rn b = 0 :=
  Nat.eq_of_testBit_eq fun j =>
    (State.bit_clrBit_of_not hm (by rw [State.bit, h, Nat.zero_testBit])).trans (Nat.zero_testBit j).symm

theorem State.bit_clrBit_self {a i : Nat} (hm : s.memWf = true) : (s.clrBit a i).bit a i = false := by
  rcases Nat.lt_or_ge i 32 with hi | hi
  · exact State.bit_clrBit s a i hm hi
  · exact Nat.testBit_lt_two_pow ((BitVec.isLt _).trans_le (Nat.pow_le_pow_right (by decide) hi))

theorem State.clrBit_memWf {a i : Nat} (hm : s.memWf = true) : (s.clrBit a i).memWf = true :=
  (State.clrBit_good s a i (Good.all s hm)).mem

theorem State.rnSet_memWf {a v : Nat} (hm : s.memWf = true) : (s.rnSet a v).memWf = true :=
  State.rgSet_memWf s a _ hm

/-! ## Counters (R16, R17) -/

/-- t holds a counter at 0 and its OVF bit clear. -/
structure State.Cleared (c o i : Nat) (t : State) : Prop where
  mem : t.memWf = true
  count : t.rn c = 0
  ovf : t.bit o i = false

theorem State.Cleared.clrBit {c o i a j : Nat} (h : State.Cleared c o i s) : State.Cleared c o i (s.clrBit a j) :=
  ⟨State.clrBit_memWf h.mem, State.rn_clrBit_of_zero h.mem h.count, State.bit_clrBit_of_not h.mem h.ovf⟩

theorem State.Cleared.of_zero {c o i : Nat} (hm : s.memWf = true) (h : s.rn c = 0) : State.Cleared c o i (s.clrBit o i) :=
  ⟨State.clrBit_memWf hm, State.rn_clrBit_of_zero hm h, State.bit_clrBit_self hm⟩

theorem State.rn_rnSet_zero {a : Nat} (hm : s.memWf = true) : (s.rnSet a 0).rn a = 0 := State.rn_rnSet_same s a 0 hm

theorem State.countClear_cleared {r : CntRow} {is : List Nat} {a : Nat} (hm : s.memWf = true)
    (h : findCnt CntRow.base a cntRows = some (r, is)) : State.Cleared a (r.ovfAt is).1 (r.ovfAt is).2 (s.countClear a) := by
  rw [State.countClear, h]
  exact .of_zero (State.rnSet_memWf hm) (State.rn_rnSet_zero hm)

/-- A write of 0 to a clear register clears its counter and the OVF bit. -/
theorem State.clearWrite_cleared {r : CntRow} {is : List Nat} {a : Nat} (hm : s.memWf = true)
    (h : findCnt CntRow.clr a cntRows = some (r, is)) :
    State.Cleared (r.cntAt is) (r.ovfAt is).1 (r.ovfAt is).2 (s.clearWrite a 0) := by
  have hc := State.countClear_cleared hm (findCnt_cntAt h)
  rw [State.clearWrite, if_neg (by decide), h]
  show State.Cleared _ _ _ (State.hazardAck _ _ _)
  rw [State.hazardAck]
  split
  · exact hc.clrBit
  · exact hc

/-- The first increment of a cleared counter. -/
theorem State.Cleared.rn_count {c o i : Nat} (h : State.Cleared c o i t) : (t.count c).rn c = 1 := by
  rw [State.count, State.countBy, if_neg (by decide)]
  dsimp only
  rw [h.count, if_pos (by decide), State.rn_rnSet_same t c _ h.mem]
  rfl

theorem State.rn64_eq_zero {a : Nat} (hlo : s.rn a = 0) (hhi : s.rn (a + 4) = 0) : s.rn64 a = 0 := by
  rw [State.rn64, hlo, hhi, Nat.mul_zero]

theorem State.rn64_rnSet64 {a v : Nat} (hm : s.memWf = true) (hv : v < 2 ^ 64) : (s.rnSet64 a v).rn64 a = v := by
  have hlo : (s.rnSet64 a v).rn a = v % 2 ^ 32 := by
    rw [State.rnSet64, State.rn_rnSet_ne _ _ _ _ (by omega), State.rn_rnSet_same s a v hm]
  have hhi : (s.rnSet64 a v).rn (a + 4) = v / 2 ^ 32 := by
    rw [State.rnSet64, State.rn_rnSet_same _ _ _ (State.rnSet_memWf hm)]
    omega
  rw [State.rn64, hlo, hhi]
  omega

/-- The 48-bit PRBS_BITS of a lane, both halves. -/
theorem State.clearWrite_bits {a q i : Nat} (hm : s.memWf = true) (h : findCnt CntRow.clr a cntRows = none)
    (hb : bitsClrOf a = some (q, i)) :
    (s.clearWrite a 0).memWf = true ∧ (s.clearWrite a 0).rn64 (Reg.LNK_LANE_PRBS_BITS_LO q i) = 0 ∧
      (s.clearWrite a 0).bit (Reg.LNK_LANE_OVF q i) 4 = false := by
  have h0 := State.rn64_rnSet64 (a := Reg.LNK_LANE_PRBS_BITS_LO q i) (v := 0) hm (by decide)
  have hw : (s.rnSet64 (Reg.LNK_LANE_PRBS_BITS_LO q i) 0).memWf = true := State.rnSet_memWf (State.rnSet_memWf hm)
  rw [State.rn64] at h0
  rw [State.clearWrite, if_neg (by decide), h, hb]
  exact ⟨State.clrBit_memWf hw,
    State.rn64_eq_zero (State.rn_clrBit_of_zero hw (by omega)) (State.rn_clrBit_of_zero hw (by omega)),
    State.bit_clrBit_self hw⟩

theorem State.rn64_countBits_of_zero {q i : Nat} (hm : s.memWf = true) (h : s.rn64 (Reg.LNK_LANE_PRBS_BITS_LO q i) = 0) :
    (s.countBits q i 1).rn64 (Reg.LNK_LANE_PRBS_BITS_LO q i) = 1 := by
  rw [State.countBits, h]
  exact State.rn64_rnSet64 hm (by decide)

/-- A write of 0 that the gate lets through to a clear register. -/
theorem exec_counterClear {fn a : Nat} {g : RegRow × List Nat} (hd : s.hostDown fn = false) (hg : s.gate fn a = .inr g)
    (h : (findCnt CntRow.clr a cntRows).isSome ∨ (bitsClrOf a).isSome) :
    exec (.counterClear fn a 0) s = .next ((s.rsvdCheck fn 0 g.1.fields).clearWrite a 0) := by
  show execCounterClear fn a 0 s = _
  rw [execCounterClear, if_pos h, State.gated, hd, State.opened, hg]
  rfl

end

/-- Settles O15: the clear register's counter is found at its own address (`findCnt_cntAt`), so that the write clears it and its
OVF bit (`State.clearWrite_cleared`, `State.clearWrite_bits`), and the next increment starts from 0. -/
theorem clearRegistersClearCounterAndOverflow : Obligations.ClearRegistersClearCounterAndOverflow := by
  intro s fn addr g hm hd hg
  have hw : (s.rsvdCheck fn 0 g.1.fields).memWf = true := (State.rsvdCheck_good s fn 0 _ (Good.all s hm)).mem
  refine ⟨fun r is hr => ?_, fun q i hr hb => ?_⟩
  · have hc := State.clearWrite_cleared hw hr
    exact ⟨_, exec_counterClear hd hg (.inl (by rw [hr]; rfl)), hc.count, hc.ovf, hc.rn_count⟩
  · obtain ⟨hm', h0, hovf⟩ := State.clearWrite_bits hw hr hb
    exact ⟨_, exec_counterClear hd hg (.inr (by rw [hb]; rfl)), h0, hovf, State.rn64_countBits_of_zero hm' h0⟩

end Sys2Proof.Machine

end

section

/-!
# Registers that an event is noted in

SUPPORT for the statements about packets, drains and extensions: which registers a condition, a counter and an event record
may write. Every other register keeps its content.
-/

namespace Sys2Proof.Machine
open Sys2Proof

section
variable {s : State} {a : Nat}

/-! ## Counters (R16) -/

/-- Counting at c may write the register at a: the counter, or the register of its OVF bit. -/
def countsAt (c a : Nat) : Prop :=
  a = c ∨ ∃ r is, findCnt CntRow.base c cntRows = some (r, is) ∧ a = (r.ovfAt is).1

theorem countsAt_iff {c : Nat} {r : CntRow} {is : List Nat} (h : findCnt CntRow.base c cntRows = some (r, is)) :
    countsAt c a ↔ a = c ∨ a = (r.ovfAt is).1 := by
  simp [countsAt, h]

theorem State.rn_countBy {c n : Nat} (h : ¬ countsAt c a) : (s.countBy c n).rn a = s.rn a := by
  obtain ⟨hc, ho⟩ := not_or.1 h
  unfold State.countBy
  dsimp only
  split
  · rfl
  · split
    · exact State.rn_rnSet_ne _ _ _ _ hc
    · split
      · rename_i r is hf
        rw [State.rn_setBit_ne _ _ _ _ fun e => ho ⟨r, is, hf, e⟩, State.rn_rnSet_ne _ _ _ _ hc]
      · exact State.rn_rnSet_ne _ _ _ _ hc

theorem State.rn_count {c : Nat} (h : ¬ countsAt c a) : (s.count c).rn a = s.rn a := State.rn_countBy h

/-! ## Events (R106-R108, R427) -/

theorem State.rn_rnSet64_ne {b v : Nat} (hlo : a ≠ b) (hhi : a ≠ b + 4) : (s.rnSet64 b v).rn a = s.rn a := by
  rw [State.rnSet64, State.rn_rnSet_ne _ _ _ _ hhi, State.rn_rnSet_ne _ _ _ _ hlo]

theorem State.rn_msix {fn vec : Nat} : (s.msix fn vec).rn a = s.rn a := by
  unfold State.msix
  repeat' split
  all_goals rfl

theorem State.rn_setHvt {x : HvtDev} : ({ s with hvt := x } : State).rn a = s.rn a := rfl

theorem State.rn_setHost {x : HostSt} : ({ s with host := x } : State).rn a = s.rn a := rfl

theorem State.rn_fallowPut {r : EvRec} : (s.fallowPut r).rn a = s.rn a := rfl

theorem State.rn_intEmptied {p : Nat} : (s.intEmptied p).rn a = s.rn a := by
  unfold State.intEmptied
  split
  · exact State.rn_setHost
  · rfl

theorem State.rn_devInt {b : Nat} (h : a ≠ Reg.CMD_INT_PEND) : (s.devInt b).rn a = s.rn a := by
  unfold State.devInt
  dsimp only
  split
  · rfl
  · split
    · rw [State.rn_msix, State.rn_setBit_ne _ _ _ _ h]
    · exact State.rn_setBit_ne _ _ _ _ h

/-- The register of the OVF bits of an error block. -/
def Blk.ovf (b : Blk) : Nat := match findCnt CntRow.base b.merged cntRows with
  | some (r, is) => (r.ovfAt is).1
  | none => 0

/-- Noting an event in an error block may write a register: FIRST, MERGED, HIST, or the OVF bits of their counters. -/
def Blk.notes (b : Blk) (a : Nat) : Bool :=
  decide (b.first ≤ a ∧ a < b.first + 24 ∨ a = b.merged ∨ a = b.ovf ∨ b.ptr ≤ a ∧ a < b.ptr + 12 ∨
    b.hist ≤ a ∧ a < b.hist + 256)

/-- Noting an event in one of the blocks that the device has once may write a register, beside its condition and counter. -/
def notedReg (a : Nat) : Bool :=
  decide (a = Reg.CMD_INT_PEND ∨ a = Reg.HVT_DEV_STAT ∨ a = Reg.HVT_EVT_LOSS_CNT) || singleBlks.any fun b => b.notes a

/-- The counters of these blocks have their OVF bits in one register. -/
theorem findCnt_singleBlks : ∀ b ∈ singleBlks,
    (findCnt CntRow.base b.merged cntRows).map (fun x => (x.1.ovfAt x.2).1) = some b.ovf ∧
    (findCnt CntRow.base (b.ptr + 8) cntRows).map (fun x => (x.1.ovfAt x.2).1) = some b.ovf := by decide +kernel

theorem findCnt_evtLoss : (findCnt CntRow.base Reg.HVT_EVT_LOSS_CNT cntRows).map (fun x => (x.1.ovfAt x.2).1) =
    some Blk.hvt.ovf := by decide +kernel

theorem not_countsAt_of_map {c o : Nat}
    (h : (findCnt CntRow.base c cntRows).map (fun x => (x.1.ovfAt x.2).1) = some o) (hc : a ≠ c) (ho : a ≠ o) :
    ¬ countsAt c a := by
  obtain ⟨⟨r, is⟩, hf, rfl⟩ := Option.map_eq_some_iff.1 h
  exact fun hn => ((countsAt_iff hf).1 hn).elim hc ho

/-- What a register keeps away from where no event is noted in it. -/
theorem notedReg_false (h : notedReg a = false) :
    a ≠ Reg.CMD_INT_PEND ∧ a ≠ Reg.HVT_DEV_STAT ∧ a ≠ Reg.HVT_EVT_LOSS_CNT ∧ ∀ b ∈ singleBlks, b.notes a = false := by
  simpa [notedReg, not_or, and_assoc] using h

section
variable {b : Blk} (hb : b ∈ singleBlks) (h : notedReg a = false)
include hb h

theorem State.rn_firstEvent {cause loc pn : Nat} : (s.firstEvent b cause loc pn).rn a = s.rn a := by
  obtain ⟨hp, -, -, hn⟩ := notedReg_false h
  have hn := hn b hb
  simp only [Blk.notes, decide_eq_false_iff_not, not_or, not_and, not_lt] at hn
  obtain ⟨hf, hm, ho, -⟩ := hn
  unfold State.firstEvent
  split
  · exact State.rn_count (not_countsAt_of_map (findCnt_singleBlks b hb).1 hm ho)
  · rw [State.rn_devInt hp, State.rn_rnSet64_ne (by omega) (by omega), State.rn_rnSet64_ne (by omega) (by omega),
      State.rn_rnSet_ne _ _ _ _ (by omega), State.rn_rnSet_ne _ _ _ _ (by omega)]

theorem State.rn_histEvent {cause low pn : Nat} : (s.histEvent b cause low pn).rn a = s.rn a := by
  obtain ⟨-, -, -, hn⟩ := notedReg_false h
  have hn := hn b hb
  simp only [Blk.notes, decide_eq_false_iff_not, not_or, not_and, not_lt] at hn
  obtain ⟨-, -, ho, hp, hh⟩ := hn
  have hnew : s.fld b.ptr 0 4 < 16 := Nat.mod_lt _ (by decide)
  unfold State.histEvent
  dsimp only
  split
  · split
    · exact State.rn_put_ne _ _ _ _ _ _ (by omega)
    · rw [State.rn_setBit_ne _ _ _ _ (by omega), State.rn_put_ne _ _ _ _ _ _ (by omega)]
  · generalize hi : (if cget 0 s.histOpen b.hist = 0 then 0 else (s.fld b.ptr 0 4 + 1) % 16) = i
    have hi' : i < 16 := by rw [← hi]; split <;> omega
    have h2 : ((((((s.rnSet (b.hist + 16 * i) (cause * 2 ^ 18 + low % 2 ^ 18)).rnSet (b.hist + 16 * i + 4)
        (pn % 2 ^ 32)).rnSet64 (b.hist + 16 * i + 8) s.ftNs).put b.ptr 0 4 i).put b.ptr 16 5
        (min 16 (s.fld b.ptr 16 5 + 1))).rn a) = s.rn a := by
      rw [State.rn_put_ne _ _ _ _ _ _ (by omega), State.rn_put_ne _ _ _ _ _ _ (by omega),
        State.rn_rnSet64_ne (by omega) (by omega), State.rn_rnSet_ne _ _ _ _ (by omega),
        State.rn_rnSet_ne _ _ _ _ (by omega)]
    split
    · exact (State.rn_count (not_countsAt_of_map (findCnt_singleBlks b hb).2 (by omega) ho)).trans h2
    · exact h2

end

section
variable (h : notedReg a = false)
include h

theorem State.rn_eventLost {cause plot pn : Nat} : (s.eventLost cause plot pn).2.rn a = s.rn a := by
  rw [State.eventLost, State.rn_histEvent (by decide) h, State.rn_firstEvent (by decide) h,
    State.rn_setBit_ne _ _ _ _ (notedReg_false h).2.1]

theorem State.rn_evtLossCnt (l : List Nat) :
    (l.foldl (fun s _ => State.count s Reg.HVT_EVT_LOSS_CNT) s).rn a = s.rn a := by
  obtain ⟨-, -, hc, hn⟩ := notedReg_false h
  have hn := hn Blk.hvt (by decide)
  simp only [Blk.notes, decide_eq_false_iff_not, not_or] at hn
  obtain ⟨-, -, ho, -⟩ := hn
  induction l generalizing s with
  | nil => rfl
  | cons _ l ih => rw [List.foldl_cons, ih, State.rn_count (not_countsAt_of_map findCnt_evtLoss hc ho)]

theorem State.rn_event {r : EvRec} : (s.event r).rn a = s.rn a := by
  unfold State.event
  dsimp only
  split
  · split
    · exact State.rn_fallowPut
    · rw [State.rn_setHvt, State.rn_eventLost h]
  · split
    · exact State.rn_setHvt
    · rw [State.rn_setHvt, State.rn_evtLossCnt h, State.rn_eventLost h]

theorem State.rn_record {rtype len : Nat} {plot : Option Nat} {pn : Nat} {body : List Nat} :
    (s.record rtype len plot pn body).rn a = s.rn a := State.rn_event h

theorem State.rn_faultRec {block cause loc : Nat} {plot : Option Nat} {pn : Nat} {v : Bool} {dev : Nat} :
    (s.faultRec block cause loc plot pn v dev).rn a = s.rn a := State.rn_record h

theorem State.rn_plotState {p ev status : Nat} {more : List Nat} : (s.plotState p ev status more).rn a = s.rn a :=
  State.rn_record h

theorem State.rn_holdRec {p kind action stake pn : Nat} : (s.holdRec p kind action stake pn).rn a = s.rn a :=
  State.rn_record h

theorem State.rn_stakeRec {p kind n : Nat} : (s.stakeRec p kind n).rn a = s.rn a := State.rn_record h

/-- A condition of a block that the device has once sets its bit, and writes no register in which no event is noted. -/
theorem State.rn_raise {b : Blk} (hb : b ∈ singleBlks) {stat cause loc low : Nat} {plot : Option Nat} {pn : Nat} :
    (s.raise b stat cause loc low plot pn).rn a = (s.setBit stat cause).rn a := by
  unfold State.raise
  dsimp only
  split
  · rw [State.rn_histEvent hb h, State.rn_firstEvent hb h]
  · rw [State.rn_faultRec h, State.rn_histEvent hb h, State.rn_firstEvent hb h]

theorem State.rn_raise_ne {b : Blk} (hb : b ∈ singleBlks) {stat cause loc low : Nat} {plot : Option Nat} {pn : Nat}
    (hs : a ≠ stat) : (s.raise b stat cause loc low plot pn).rn a = s.rn a := by
  rw [State.rn_raise h hb, State.rn_setBit_ne _ _ _ _ hs]

end

theorem State.rn_plotInt {p i : Nat} (h : a ≠ Reg.PLT_INT_STAT p) : (s.plotInt p i).rn a = s.rn a := by
  unfold State.plotInt
  dsimp only
  split
  · rw [State.rn_msix, State.rn_setHost, State.rn_setBit_ne _ _ _ _ h, State.rn_intEmptied]
  · rw [State.rn_setBit_ne _ _ _ _ h, State.rn_intEmptied]

end

end Sys2Proof.Machine

end

section

/-!
# Packets about the passes of a plot

PROVES O44 (spec R37, R38, R202, R203, R209, R213, R217).
-/

namespace Sys2Proof.Machine
open Sys2Proof

section
variable {s t u : State} {p k n q : Nat} {ws : List Word}

/-! ## Plots and their registers -/

theorem foldl_keeps {σ α β : Type} {g : σ → α → σ} (f : σ → β) (h : ∀ s a, f (g s a) = f s) (l : List α) (s : σ) :
    f (l.foldl g s) = f s := by
  induction l generalizing s with
  | nil => rfl
  | cons a l ih => rw [List.foldl_cons, ih, h]

theorem mem_natsFrom {lo i : Nat} : i ∈ natsFrom lo n ↔ lo ≤ i ∧ i < lo + n := by
  induction n generalizing lo with
  | zero => simp [natsFrom]
  | succ n ih => simp only [natsFrom, List.mem_cons, ih]; omega

theorem State.plot_of_plots (h : t.plots = s.plots) : t.plot p = s.plot p := by rw [State.plot, State.plot, h]

theorem State.rn_of_regs {a : Nat} (h : t.regs = s.regs) : t.rn a = s.rn a := by
  rw [State.rn, State.rn, State.rg, State.rg, h]

theorem Quiet.plots (h : Quiet s t) : t.plots = s.plots := congrArg (a₁ := t.core) (a₂ := s.core) State.plots h

/-- The record of a plot after it was changed. -/
theorem State.plot_onPlot_self {f : Plot → Plot} (hm : s.memWf = true) : (s.onPlot p f).plot p = f (s.plot p) :=
  (State.plot_onPlot s p p f hm).trans (if_pos rfl)

theorem State.onPlot_plots_congr {f : Plot → Plot} (h : t.plots = s.plots) : (t.onPlot p f).plots = (s.onPlot p f).plots := by
  simp only [State.onPlot, State.plotSet, State.plot, h]

theorem State.plotByTag_lt {tag : Nat} (h : s.plotByTag tag = some p) : p < 16 := by
  unfold State.plotByTag at h
  split at h
  · cases h
  · simpa using (mem_natsFrom.1 (List.mem_of_find?_eq_some h)).2

/-- The registers of the plots, in which no event of a block is noted (R41, R218). -/
def plotReg (a : Nat) : Prop := 0x40000 ≤ a ∧ a < 0x44000

theorem notedReg_of_plotReg {a : Nat} (h : plotReg a) : notedReg a = false := by
  have hb : ∀ b ∈ singleBlks, b.first + 24 ≤ 0x40000 ∧ b.merged < 0x40000 ∧ b.ovf < 0x40000 ∧ b.ptr + 12 ≤ 0x40000 ∧
      b.hist + 256 ≤ 0x40000 ∨ 0x44000 ≤ b.first ∧ 0x44000 ≤ b.merged ∧ 0x44000 ≤ b.ovf ∧ 0x44000 ≤ b.ptr ∧
      0x44000 ≤ b.hist := by decide +kernel
  obtain ⟨hlo, hhi⟩ := h
  simp only [notedReg, Bool.or_eq_false_iff, List.any_eq_false, Blk.notes, decide_eq_true_eq,
    Reg.CMD_INT_PEND, Reg.HVT_DEV_STAT, Reg.HVT_EVT_LOSS_CNT]
  refine ⟨decide_eq_false (by omega), fun b hm => ?_⟩
  rcases hb b hm with h | h <;> omega

theorem plotReg_cmtStat (h : p < 16) : plotReg (Reg.PLT_CMT_STAT p) := by
  unfold plotReg Reg.PLT_CMT_STAT; omega

/-! ## Packets queued on the links (R180, R181) -/

theorem State.rn_ctrlQueue {a port ptype : Nat} (h : plotReg a) : (s.ctrlQueue port ptype ws).rn a = s.rn a := by
  have hf : (findCnt CntRow.base (Reg.XCH_CNT 5) cntRows).map (fun x => (x.1.ovfAt x.2).1) = some 0xd0008 := by decide +kernel
  have hn := h
  unfold plotReg at hn
  unfold State.ctrlQueue
  split
  · rfl
  · rw [State.rn_count (not_countsAt_of_map hf (by unfold Reg.XCH_CNT; omega) (by omega)), State.raiseXch,
      State.rn_raise_ne (notedReg_of_plotReg h) (by decide) (by unfold Reg.XCH_STAT; omega)]

theorem State.rn_ctrlQueueAll {a ptype : Nat} {ports : List Nat} (h : plotReg a) :
    (s.ctrlQueueAll ports ptype ws).rn a = s.rn a :=
  foldl_keeps (fun s => s.rn a) (fun _ _ => State.rn_ctrlQueue h) ports s

theorem State.rn_forwardFlood {a port : Nat} (h : plotReg a) : (s.forwardFlood port ws).rn a = s.rn a := by
  unfold State.forwardFlood
  dsimp only
  split
  · rfl
  · exact State.rn_ctrlQueueAll h

theorem State.forwardFlood_plots {port : Nat} (hm : s.memWf = true) : (s.forwardFlood port ws).plots = s.plots :=
  (State.forwardFlood_good s port ws (Good.all s hm)).plots _ rfl

theorem State.forwardFlood_memWf {port : Nat} (hm : s.memWf = true) : (s.forwardFlood port ws).memWf = true :=
  (State.forwardFlood_good s port ws (Good.all s hm)).mem

theorem State.floodCtl_plots {sub act st ft : Nat} (hm : s.memWf = true) : (s.floodCtl p sub act st n ft).plots = s.plots :=
  (State.floodCtl_good s p sub act st n ft (Good.all s hm)).plots _ rfl

/-! ## Divergence and the stop for good (R202, R213, R543) -/

/-- A plot that runs or stands in a hold and has not diverged diverges: nothing else of the plots changes. -/
theorem State.divergePass_busy {send : Bool} (hm : s.memWf = true) (hd : (s.plot p).cmt.diverge = false)
    (h6 : s.cmtState p ≠ 6) (h7 : s.cmtState p ≠ 7) (hb : s.plotBusy p = true) :
    (s.divergePass p k send).plots = (s.onCmt p fun c => { c with diverge := true }).plots := by
  have hnot : ¬ ((s.plot p).cmt.diverge = true ∨ s.cmtState p = 6 ∨ s.cmtState p = 7) := by simp [hd, h6, h7]
  have hidle : ¬ (s.plotBusy p = false ∧ (s.plot p).tm.launched = true) := by simp [hb]
  have hg : Good (Kept.all s) ((s.setBit (Reg.PLT_CMT_STAT p) 1).plotInt p 4) :=
    State.plotInt_good _ _ _ (State.setBit_good _ _ _ (Good.all s hm))
  have hs : (((s.setBit (Reg.PLT_CMT_STAT p) 1).plotInt p 4).onCmt p fun c => { c with diverge := true }).plots =
      (s.onCmt p fun c => { c with diverge := true }).plots := State.onPlot_plots_congr (hg.plots _ rfl)
  have hrec := State.holdRec_good _ p 4 0 0 k (Good.all
    (((s.setBit (Reg.PLT_CMT_STAT p) 1).plotInt p 4).onCmt p fun c => { c with diverge := true })
    (State.onPlot_memWf _ _ _ hg.mem))
  rw [State.divergePass, if_neg hnot]
  dsimp only
  rw [if_neg hidle, ← hs]
  split
  · exact (State.floodCtl_good _ _ _ _ _ _ _ hrec).plots _ rfl
  · exact hrec.plots _ rfl

/-- A plot that diverges, or has diverged, while it runs or stands in a hold. -/
theorem State.divergePass_busy_plot {send : Bool} (hm : s.memWf = true) (h6 : s.cmtState p ≠ 6) (h7 : s.cmtState p ≠ 7)
    (hb : s.plotBusy p = true) :
    ((s.divergePass p k send).plot p).cmt.diverge = true ∧ ((s.divergePass p k send).plot p).tm = (s.plot p).tm := by
  cases hd : (s.plot p).cmt.diverge with
  | true => rw [State.divergePass, if_pos (.inl hd)]; exact ⟨hd, rfl⟩
  | false =>
    rw [State.plot_of_plots (State.divergePass_busy hm hd h6 h7 hb), State.onCmt, State.plot_onPlot_self hm]
    exact ⟨rfl, rfl⟩


/-! ## The stop for good (R202, R543) -/

/-- A field of a register after a field apart from it was replaced. -/
theorem State.fld_put_apart {a lo len v lo' len' : Nat} (hm : s.memWf = true) (hl : lo' + len' ≤ 32)
    (h : lo' + len' ≤ lo ∨ lo + len ≤ lo') : (s.put a lo len v).fld a lo' len' = s.fld a lo' len' := by
  refine Nat.eq_of_testBit_eq fun j => ?_
  simp only [State.fld, nfld, Nat.testBit_mod_two_pow, Nat.testBit_shiftRight]
  by_cases hj : j < len'
  · have hb := State.bit_put s a lo len v (lo' + j) hm (by omega)
    rw [if_neg (by omega)] at hb
    rw [State.bit, State.bit] at hb
    rw [hb]
  · simp [hj]

/-- What is kept of the plots alone. -/
def Kept.records (s : State) : Kept :=
  { pending := s.pending, fuses := s.fuses, svn := s.boot.fusedMin, shut := false, keys := none, host := none, hbm := none,
    spm := none, window := none, plots := some s.plots, cmd := none, id := none, tm := none, res := none, img := none }

theorem Good.records (hm : s.memWf = true) : Good (Kept.records s) s :=
  (Good.all s hm).sub ⟨rfl, rfl, le_rfl, fun h => (Bool.false_ne_true h).elim, .inl rfl, .inl rfl, .inl rfl, .inl rfl, .inl rfl,
    .inr rfl, .inl rfl, .inl rfl, .inl rfl, .inl rfl, .inl rfl⟩

/-- t is in canonical form, and a reading of the plots' records gives in it what it gives in s. -/
structure State.Reads {β : Type} (g : Plot → β) (s t : State) : Prop where
  mem : t.memWf = true
  same : ∀ q, g (t.plot q) = g (s.plot q)

section
variable {β : Type} {g : Plot → β}

theorem State.Reads.refl (hm : s.memWf = true) : State.Reads g s s := ⟨hm, fun _ => rfl⟩

/-- An operation that leaves the plots alone. -/
theorem State.Reads.still (h : State.Reads g s t) (hk : Good (Kept.records t) t → Good (Kept.records t) u) :
    State.Reads g s u := by
  have hu := hk (Good.records h.mem)
  exact ⟨hu.mem, fun q => (congrArg g (State.plot_of_plots (hu.plots _ rfl))).trans (h.same q)⟩

theorem State.Reads.onPlot {f : Plot → Plot} (h : State.Reads g s t) (hf : ∀ x, g (f x) = g x) :
    State.Reads g s (t.onPlot p f) := by
  refine ⟨State.onPlot_memWf t p f h.mem, fun q => ?_⟩
  rw [State.plot_onPlot t p q f h.mem]
  split
  · rw [hf, ← h.same q, ‹q = p›]
  · exact h.same q

theorem State.Reads.finishRuns {st : Nat} (h : State.Reads g s t)
    (hg : ∀ x i e, g { x with id := i, cmt := { x.cmt with exposed := e } } = g x) : State.Reads g s (t.finishRuns p st n) :=
  State.Reads.onPlot (h.still fun hk => State.nextDone_good _ (hk.mapCmds rfl fun c => by split <;> simp [Cmd.ended_id]) rfl)
    fun _ => hg _ _ _

theorem State.Reads.finishWaiting {st : Nat} (h : State.Reads g s t)
    (hg : ∀ x i b r e, g { x with id := i, cmt := { x.cmt with rollback := b, recov := r, extra := e } } = g x) :
    State.Reads g s (t.finishWaiting p st) := by
  unfold State.finishWaiting
  refine State.Reads.onPlot (State.Reads.still (State.Reads.still (State.Reads.still h
    fun hk => State.finishAll_good _ _ _ _ _ hk rfl) fun hk => good_ite (State.hvtStop_good _ _ _ _ _ hk) hk)
    fun hk => State.makeReady_good _ _ (State.finishAll_good _ _ _ _ _ hk rfl) rfl) fun _ => hg _ _ _ _ _

/-- A plot stops for good: its hold is over, and nothing waits for it any more. -/
theorem State.Reads.faultStop {state st : Nat} (h : State.Reads g s t)
    (hg : ∀ x i c, c.discarded = x.cmt.discarded → g { x with id := i, cmt := c } = g x) :
    State.Reads g s (t.faultStop p state st) := by
  unfold State.faultStop
  refine State.Reads.still (State.Reads.finishWaiting (State.Reads.finishRuns (State.Reads.still (State.Reads.onPlot h ?_)
    fun hk => State.clrBit_good _ _ _ (State.cmtStateSet_good _ _ _ hk)) ?_) ?_) fun hk => State.plotState_good _ _ _ _ _ hk
  all_goals exact fun _ => by intros; exact hg _ _ _ rfl

end

theorem State.faultStop_hold {state st : Nat} (hm : s.memWf = true) :
    ((s.faultStop p state st).plot p).cmt.hold = none := by
  unfold State.faultStop
  dsimp only
  generalize hu : s.onPlot p _ = u
  have hmu : u.memWf = true := hu ▸ State.onPlot_memWf _ _ _ hm
  have hn : (u.plot p).cmt.hold = none := by rw [← hu, State.plot_onPlot_self hm]
  refine Eq.trans (State.Reads.same (g := fun x => x.cmt.hold) (State.Reads.still (State.Reads.finishWaiting
    (State.Reads.finishRuns (State.Reads.still (.refl hmu) fun hk => State.clrBit_good _ _ _ (State.cmtStateSet_good _ _ _ hk))
    ?_) ?_) fun hk => State.plotState_good _ _ _ _ _ hk) p) hn
  all_goals intros; rfl

theorem State.rn_hvtStop {a cause ft : Nat} (h : plotReg a) : (s.hvtStop p cause n ft).rn a = s.rn a := by
  have hn := h
  unfold plotReg at hn
  unfold State.hvtStop
  dsimp only
  split
  · rw [State.rn_rnSet64_ne (by unfold Reg.HVT_STOP_PN_LO; omega) (by unfold Reg.HVT_STOP_PN_LO; omega),
      State.rn_put_ne _ _ _ _ _ _ (by unfold Reg.HVT_STAT; omega), State.rn_event (notedReg_of_plotReg h)]
  · rfl

theorem State.makeReady_regs {pick : Cmd → Bool} : (s.makeReady pick).regs = s.regs := by
  unfold State.makeReady
  dsimp only
  split <;> rfl

theorem State.rn_finishRuns {a st : Nat} : (s.finishRuns p st n).rn a = s.rn a := rfl

theorem State.rn_finishAll {a st res : Nat} {pick : Cmd → Bool} : (s.finishAll p pick st res).rn a = s.rn a := rfl

theorem State.rn_finishWaiting {a st : Nat} (h : plotReg a) : (s.finishWaiting p st).rn a = s.rn a := by
  unfold State.finishWaiting
  dsimp only
  rw [State.rn_of_regs (State.onPlot_regs _ _ _), State.rn_of_regs State.makeReady_regs, State.rn_finishAll]
  split
  · rw [State.rn_hvtStop h, State.rn_finishAll]
  · rw [State.rn_finishAll]

theorem State.cmtState_clrBit_cmtStateSet {v : Nat} (hm : s.memWf = true) :
    ((s.cmtStateSet p v).clrBit (Reg.PLT_CMT_STAT p) 7).cmtState p = v % 16 := by
  have hc : (s.cmtStateSet p v).memWf = true := (State.cmtStateSet_good s p v (Good.records hm)).mem
  rw [State.cmtState, State.clrBit, State.fld_put_apart hc (by decide) (by decide), State.cmtStateSet,
    State.fld_put_same _ _ _ _ _ hm (by decide)]
  rfl

/-- The plot shows the state in which it has stopped for good (R218). -/
theorem State.faultStop_cmtState {state st : Nat} (hm : s.memWf = true) (hp : p < 16) :
    (s.faultStop p state st).cmtState p = state % 16 := by
  have hr := plotReg_cmtStat hp
  unfold State.faultStop
  dsimp only
  rw [State.cmtState, State.fld, State.rn_plotState (notedReg_of_plotReg hr), State.rn_finishWaiting hr, State.rn_finishRuns]
  exact State.cmtState_clrBit_cmtStateSet (State.onPlot_memWf s p _ hm)

theorem State.recoveryFailed_plot (hm : s.memWf = true) :
    ((s.recoveryFailed p).plot p).cmt.hold = none ∧ ((s.recoveryFailed p).plot p).tm.phase = .stopped := by
  unfold State.recoveryFailed State.stopFault
  dsimp only
  generalize hu : State.holdRec _ p 3 0 0 _ = u
  have hmu : u.memWf = true := hu ▸ (State.holdRec_good _ _ _ _ _ _ (State.plotInt_good _ _ _ (State.setBit_good _ _ _
    (Good.all s hm)))).mem
  have hmt : (u.onTm p fun t => { t with phase := .stopped }).memWf = true := State.onPlot_memWf _ _ _ hmu
  refine ⟨State.faultStop_hold hmt, ?_⟩
  rw [(State.faultStop_good _ p 7 Status.plotFault (Good.times hmt) rfl rfl).tm _ rfl p, State.onTm, State.plot_onPlot_self hmu]

/-- A plot that has been launched, stands stopped and diverges has stopped for good at once. -/
theorem State.divergePass_idle (hm : s.memWf = true) (hp : p < 16) (hd : (s.plot p).cmt.diverge = false)
    (h6 : s.cmtState p ≠ 6) (h7 : s.cmtState p ≠ 7) (hb : s.plotBusy p = false) (hl : (s.plot p).tm.launched = true) :
    (s.divergePass p k false).cmtState p = 6 ∧ ((s.divergePass p k false).plot p).tm = (s.plot p).tm := by
  have hnot : ¬ ((s.plot p).cmt.diverge = true ∨ s.cmtState p = 6 ∨ s.cmtState p = 7) := by simp [hd, h6, h7]
  refine ⟨?_, (State.divergePass_good s p k false (Good.times hm) rfl rfl).tm _ rfl p⟩
  rw [State.divergePass, if_neg hnot]
  dsimp only
  rw [if_pos ⟨hb, hl⟩, if_neg Bool.false_ne_true]
  refine State.faultStop_cmtState ?_ hp
  exact (State.holdRec_good _ _ _ _ _ _ (State.onCmt_good _ _ _ (State.plotInt_good _ _ _ (State.setBit_good _ _ _
    (Good.times hm))) rfl)).mem

/-! ## STRETCH_NOTICE (R37, R38) -/

/-- The notice has been noted and forwarded: the plot differs in its notices alone. -/
structure State.Noticed (p : Nat) (e : Nat × Nat) (s t : State) : Prop where
  mem : t.memWf = true
  plot : t.plot p = { s.plot p with tm := { (s.plot p).tm with notices := e :: (s.plot p).tm.notices } }
  state : t.cmtState p = s.cmtState p

theorem State.noticed {e : Nat × Nat} (hm : s.memWf = true) (hp : p < 16) :
    State.Noticed p e s ((s.onTm p fun x => { x with notices := e :: x.notices }).forwardFlood q ws) := by
  have hu : (s.onTm p fun x => { x with notices := e :: x.notices }).memWf = true := State.onPlot_memWf s p _ hm
  refine ⟨State.forwardFlood_memWf hu, ?_, ?_⟩
  · rw [State.plot_of_plots (State.forwardFlood_plots hu), State.onTm, State.plot_onPlot_self hm]
  · rw [State.cmtState, State.fld, State.rn_forwardFlood (plotReg_cmtStat hp)]
    rfl

/-- A request for a headland that has not begun raises its level. -/
theorem State.wantStretch_early {k n : Nat} (hm : s.memWf = true) (hc : (s.plot p).tm.cpn ≤ k) (hn : s.stretchOf p k < n)
    (hh : (s.plot p).tm.headTop ≤ k) :
    (s.wantStretch p k n).plot p =
      { s.plot p with tm := { (s.plot p).tm with stretch := cset 0 (s.plot p).tm.stretch k n } } := by
  rw [State.wantStretch, if_neg (by omega), if_neg (by omega), State.onTm, State.plot_onPlot_self hm]

/-- A request for a headland that has begun is late. -/
theorem State.wantStretch_late {k n : Nat} (hc : (s.plot p).tm.cpn ≤ k) (hn : s.stretchOf p k < n)
    (hh : k < (s.plot p).tm.headTop) : s.wantStretch p k n = s.divergePass p k true := by
  rw [State.wantStretch, if_neg (by omega), if_pos hh]

theorem State.stretchNotice_eq (h : s.plotByTag (pktTag ws) = some p)
    (hn : (s.plot p).tm.notices.contains (pktSrc ws, word64 ws 8) = false) :
    s.stretchNotice q ws = ((s.onTm p fun x => { x with notices := (pktSrc ws, word64 ws 8) :: x.notices }).forwardFlood q
      ws).wantStretch p (word64 ws 8) (wordAt ws 10 % 16) := by
  rw [State.stretchNotice, h]
  exact if_neg (by rw [hn]; exact Bool.false_ne_true)

/-! ## STAKE_DONE (R209) -/

theorem State.finishOpt_plots {id st res : Nat} : (s.finishOpt id st res).plots = s.plots := by
  unfold State.finishOpt
  split <;> rfl

theorem State.finishOpt_regs {id st res : Nat} : (s.finishOpt id st res).regs = s.regs := by
  unfold State.finishOpt
  split <;> rfl

/-- What has been heard of a stake, once a device's word on it is kept. -/
def heard (done : List (Nat × Nat × Nat)) (n dev st : Nat) : List (Nat × Nat × Nat) :=
  done.filter (fun e => !(e.1 == n && e.2.1 == dev)) ++ [(n, dev, st)]

theorem mem_heard {done : List (Nat × Nat × Nat)} {n dev st d : Nat} :
    (n, d, 0) ∈ heard done n dev st ↔ d = dev ∧ st = 0 ∨ d ≠ dev ∧ (n, d, 0) ∈ done := by
  simp only [heard, List.mem_append, List.mem_filter, List.mem_singleton, Prod.mk.injEq, true_and, Bool.not_eq_true',
    Bool.and_eq_false_iff, beq_eq_false_iff_ne, ne_eq, not_true_eq_false, false_or]
  grind

/-- A device's word that the stake of pass n has failed ends the commands that asked for it. -/
theorem State.stakeDone_failed {dev st : Nat} (hm : s.memWf = true) (hst : st ≠ 0) :
    ((s.stakeDone p dev n st).plot p).cmt.done = heard (s.plot p).cmt.done n dev st ∧
      ((s.stakeDone p dev n st).plot p).cmt.extra = (s.plot p).cmt.extra.filter fun e => e.1 != n := by
  unfold State.stakeDone
  dsimp only
  rw [if_pos hst]
  generalize hu : State.onCmt s p _ = u
  have hmu : u.memWf = true := hu ▸ State.onPlot_memWf s p _ hm
  generalize hv : List.foldl _ u _ = v
  have hg : Good (Kept.records u) v := hv ▸ good_foldl (fun t e h => State.finishOpt_good t _ _ _ h rfl) (Good.records hmu)
  have hp : v.plot p = { s.plot p with cmt := { (s.plot p).cmt with done := heard (s.plot p).cmt.done n dev st } } := by
    rw [State.plot_of_plots (hg.plots _ rfl), ← hu, State.onCmt, State.plot_onPlot_self hm]
    rfl
  rw [State.onCmt, State.plot_onPlot_self hg.mem, hp]
  exact ⟨rfl, rfl⟩

/-- The stake of pass n waits for another device. -/
theorem State.stakeDone_waits {dev d : Nat} (hm : s.memWf = true) (hd : d ∈ s.devicesOf p) (hne : d ≠ dev)
    (hn : (n, d, 0) ∉ (s.plot p).cmt.done) :
    s.stakeDone p dev n 0 = s.onCmt p fun c => { c with done := heard c.done n dev 0 } := by
  unfold State.stakeDone
  dsimp only
  rw [if_neg (by simp), if_neg]
  · rfl
  · rintro ⟨hall, -⟩
    have hmem : (n, d, 0) ∈ heard (s.plot p).cmt.done n dev 0 := by
      have := List.all_eq_true.1 hall d hd
      rwa [List.contains_iff_mem, State.onCmt, State.plot_onPlot_self hm] at this
    exact (mem_heard.1 hmem).elim (fun h => hne h.1) fun h => hn h.2

/-- The last device's word makes the stake of pass n the recovery point. -/
theorem State.stakeDone_promotes {dev : Nat} (hm : s.memWf = true)
    (hd : ∀ d ∈ s.devicesOf p, d = dev ∨ (n, d, 0) ∈ (s.plot p).cmt.done)
    (ha : (s.plot p).cmt.area0.map (·.pn) = some n ∨ (s.plot p).cmt.area1.map (·.pn) = some n) :
    s.stakeDone p dev n 0 = (s.onCmt p fun c => { c with done := heard c.done n dev 0 }).promote p n := by
  unfold State.stakeDone
  dsimp only
  rw [if_neg (by simp), if_pos]
  · rfl
  · refine ⟨List.all_eq_true.2 fun d h => ?_, ha⟩
    rw [List.contains_iff_mem, State.onCmt, State.plot_onPlot_self hm]
    refine mem_heard.2 ?_
    rcases hd d h with rfl | hd
    · exact .inl ⟨rfl, rfl⟩
    · by_cases e : d = dev
      · exact .inl ⟨e, rfl⟩
      · exact .inr ⟨e, hd⟩

theorem plotReg_stake (h : p < 16) : plotReg (Reg.PLT_STAKE_STAT p) ∧ plotReg (Reg.PLT_STAKE_PN_LO p) ∧
    plotReg (Reg.PLT_STAKE_PN_LO p + 4) := by
  unfold plotReg Reg.PLT_STAKE_STAT Reg.PLT_STAKE_PN_LO; omega

/-- The commands of the stakes up to the recovery point n are over. -/
theorem State.promote_extra (hm : s.memWf = true) : ∀ e ∈ ((s.promote p n).plot p).cmt.extra, n < e.1 := by
  unfold State.promote
  dsimp only
  generalize hu : State.stakeRec _ p 1 n = u
  have hg : Good (Kept.times s) u := hu ▸ State.stakeRec_good _ _ _ _ (State.logTrim_good _ _ _ (good_updHbm
    (State.rnSet64_good _ _ _ (State.putBit_good _ _ _ _ (State.setBit_good _ _ _ (Good.times hm))))) rfl)
  rw [State.plot_of_plots (foldl_keeps State.plots (fun s e => by split <;> exact State.finishOpt_plots) _ _), State.onCmt,
    State.plot_onPlot_self hg.mem]
  simp only [List.mem_filter, decide_eq_true_eq]
  exact fun e he => he.2

theorem State.rn_setHbm {a : Nat} {x : HbmMem} : ({ s with hbm := x } : State).rn a = s.rn a := rfl

/-- The registers of a plot that its new recovery point leaves as they were written for it. -/
theorem State.rn_promote {a : Nat} (h : plotReg a) : (s.promote p n).rn a =
    (((s.setBit (Reg.PLT_STAKE_STAT p) 31).putBit (Reg.PLT_STAKE_STAT p) 29
      (((s.plot p).cmt.area1.map (·.pn)) == some n)).rnSet64 (Reg.PLT_STAKE_PN_LO p) n).rn a := by
  unfold State.promote
  dsimp only
  rw [State.rn_of_regs (foldl_keeps State.regs (fun s e => by split <;> exact State.finishOpt_regs) _ _),
    State.rn_of_regs (State.onCmt_regs _ _ _), State.rn_stakeRec (notedReg_of_plotReg h), State.logTrim,
    State.rn_of_regs (State.onPlot_regs _ _ _), State.rn_setHbm]

/-- The recovery point is valid, and names its pass (R209). -/
theorem State.promote_point (hm : s.memWf = true) (hp : p < 16) (hn : n < 2 ^ 64) :
    (s.promote p n).bit (Reg.PLT_STAKE_STAT p) 31 = true ∧ (s.promote p n).rn64 (Reg.PLT_STAKE_PN_LO p) = n := by
  obtain ⟨hs, hl, hh⟩ := plotReg_stake hp
  have h1 := (State.setBit_good s (Reg.PLT_STAKE_STAT p) 31 (Good.records hm)).mem
  constructor
  · rw [State.bit, State.rn_promote hs, State.rn_rnSet64_ne (by unfold Reg.PLT_STAKE_STAT Reg.PLT_STAKE_PN_LO; omega)
      (by unfold Reg.PLT_STAKE_STAT Reg.PLT_STAKE_PN_LO; omega), ← State.bit, State.putBit, State.bit_put _ _ _ _ _ _ h1 (by decide),
      if_neg (by omega)]
    exact State.bit_setBit s _ 31 hm (by decide)
  · rw [State.rn64, State.rn_promote hl, State.rn_promote hh, ← State.rn64]
    exact State.rn64_rnSet64 (State.putBit_good _ _ _ _ (Good.records h1)).mem hn

/-! ## HEAL_READY, RECOVER_READY and RESUME (R202, R203) -/

theorem State.ftNs_onCmt {f : CommitSt → CommitSt} : (s.onCmt p f).ftNs = s.ftNs := rfl

/-- A device's word on a hold fails no hold: it is kept, and the coordinator that has heard every device sets the instant. -/
theorem State.readyCheck_ready {h : Hold} (hm : s.memWf = true) (hh : (s.plot p).cmt.hold = some h)
    (hok : ∀ r ∈ h.ready, r.2.2 = false) (hpt : h.recovery = true → h.sent.isSome = true → ∀ r ∈ h.ready, r.2.1 = h.point) :
    ((s.readyCheck p).plot p).cmt.hold = some h ∧
      ((s.readyCheck p).plot p).cmt.resume =
        if (s.plot p).cmt.resume.isNone && s.coordinator p && (s.devicesOf p).all (fun d => h.ready.any fun r => r.1 == d) then
          some (if h.recovery then h.point else h.k, s.ftNs + 50000)
        else (s.plot p).cmt.resume := by
  have hany : ¬ (h.ready.any fun r => r.2.2 || (h.recovery && h.sent.isSome && r.2.1 != h.point)) = true := by
    rw [List.any_eq_true]
    rintro ⟨r, hr, hb⟩
    simp only [hok r hr, Bool.false_or, Bool.and_eq_true, bne_iff_ne] at hb
    exact hb.2 (hpt hb.1.1 hb.1.2 r hr)
  unfold State.readyCheck
  rw [hh]
  dsimp only
  rw [if_neg hany]
  split
  · generalize hu : State.floodCtl s p _ _ _ _ _ = u
    have hg : Good (Kept.records s) u := hu ▸ State.floodCtl_good s _ _ _ _ _ _ (Good.records hm)
    have hpl : u.plot p = s.plot p := State.plot_of_plots (hg.plots _ rfl)
    rw [State.resumeAt, if_pos (by rw [hpl, hh]; rfl), State.onCmt, State.plot_onPlot_self hg.mem, hpl]
    exact ⟨hh, rfl⟩
  · exact ⟨hh, rfl⟩

/-- A device that reports a failure ends the hold with the plot stopped. -/
theorem State.readyCheck_failed {h : Hold} (hm : s.memWf = true) (hh : (s.plot p).cmt.hold = some h)
    (hbad : ∃ r ∈ h.ready, r.2.2 = true) :
    ((s.readyCheck p).plot p).cmt.hold = none ∧ ((s.readyCheck p).plot p).tm.phase = .stopped := by
  obtain ⟨r, hr, hb⟩ := hbad
  unfold State.readyCheck
  rw [hh]
  dsimp only
  rw [if_pos (List.any_eq_true.2 ⟨r, hr, by rw [hb]; rfl⟩)]
  exact State.recoveryFailed_plot hm

/-- The hold with a device's word on it. -/
def Hold.hears (h : Hold) (dev point : Nat) (failed : Bool) : Hold :=
  { h with ready := h.ready.filter (fun r => r.1 != dev) ++ [(dev, point, failed)] }

theorem State.plot_hears {h : Hold} {dev point : Nat} {failed : Bool} (hm : s.memWf = true)
    (hh : (s.plot p).cmt.hold = some h) :
    (s.onHold p fun h => h.hears dev point failed).plot p =
      { s.plot p with cmt := { (s.plot p).cmt with hold := some (h.hears dev point failed) } } := by
  rw [State.onHold, State.onCmt, State.plot_onPlot_self hm, hh]
  rfl

theorem State.hears_memWf {dev point : Nat} {failed : Bool} (hm : s.memWf = true) :
    (s.onHold p fun h => h.hears dev point failed).memWf = true := State.onPlot_memWf s p _ hm

/-- A packet of a hold's kind counts for it. -/
theorem exec_ready {h : Hold} (hp : s.plotByTag (pktTag ws) = some p) (hh : (s.plot p).cmt.hold = some h) :
    exec (if h.recovery then Instr.recoverReady q ws else .healReady q ws) s =
      .next ((s.onHold p fun h => h.hears (pktSrc ws) (ctlPn ws) (ctlStatus ws != 0)).readyCheck p) := by
  have hr : s.readyPacket ws h.recovery =
      (s.onHold p fun h => h.hears (pktSrc ws) (ctlPn ws) (ctlStatus ws != 0)).readyCheck p := by
    rw [State.readyPacket, hp]
    dsimp only
    rw [hh]
    dsimp only
    rw [if_pos (beq_self_eq_true _)]
    rfl
  rw [← hr]
  cases h.recovery <;> rfl

theorem ctlPn_lt : ctlPn ws < 2 ^ 64 := by
  have hlo : wordAt ws 9 < 2 ^ 32 := BitVec.isLt _
  have hhi : wordAt ws (9 + 1) < 2 ^ 32 := BitVec.isLt _
  rw [ctlPn, word64]
  omega

/-! ## The packets -/

section
variable (hm : s.memWf = true) (hp : s.plotByTag (pktTag ws) = some p)
include hp

theorem exec_stretchNotice_again (hn : (s.plot p).tm.notices.contains (pktSrc ws, word64 ws 8) = true) :
    exec (.stretchNotice q ws) s = .next s := by
  have hs : s.stretchNotice q ws = s := by rw [State.stretchNotice, hp]; exact if_pos hn
  exact congrArg Host.Outcome.next hs

theorem exec_stakeDone :
    exec (.stakeDone q ws) s = .next (s.stakeDone p (pktSrc ws) (ctlPn ws) (ctlStatus ws)) := by
  show Host.Outcome.next (s.stakeDonePacket ws) = _
  rw [State.stakeDonePacket, hp]

theorem exec_diverge (h : (s.plotBusy p || (s.plot p).tm.launched) = true) :
    exec (.diverge q ws) s = .next (s.divergePass p (ctlPn ws) false) := by
  show Host.Outcome.next (s.divergePacket ws) = _
  rw [State.divergePacket, hp]
  exact congrArg _ (if_pos h)

include hm

theorem exec_stretchNotice_early (hn : (s.plot p).tm.notices.contains (pktSrc ws, word64 ws 8) = false)
    (hc : (s.plot p).tm.cpn ≤ word64 ws 8) (hh : (s.plot p).tm.headTop ≤ word64 ws 8)
    (hl : s.stretchOf p (word64 ws 8) < wordAt ws 10 % 16) :
    ∃ t, exec (.stretchNotice q ws) s = .next t ∧ t.stretchOf p (word64 ws 8) = wordAt ws 10 % 16 ∧
      (pktSrc ws, word64 ws 8) ∈ (t.plot p).tm.notices ∧ (t.plot p).tm.pn = (s.plot p).tm.pn := by
  obtain ⟨hmt, hpl, -⟩ := State.noticed (q := q) (ws := ws) (e := (pktSrc ws, word64 ws 8)) hm (State.plotByTag_lt hp)
  have hw := State.wantStretch_early (n := wordAt ws 10 % 16) hmt (k := word64 ws 8) (by rw [hpl]; exact hc)
    (by rw [State.stretchOf, hpl]; exact hl) (by rw [hpl]; exact hh)
  refine ⟨_, congrArg Host.Outcome.next (State.stretchNotice_eq hp hn), ?_⟩
  rw [State.stretchOf, hw, hpl]
  refine ⟨?_, List.mem_cons_self, rfl⟩
  rw [cset, if_neg (Nat.ne_of_gt (Nat.zero_lt_of_lt hl))]
  exact Laws.cget_cput_same

theorem exec_stretchNotice_late (hn : (s.plot p).tm.notices.contains (pktSrc ws, word64 ws 8) = false)
    (hc : (s.plot p).tm.cpn ≤ word64 ws 8) (hh : word64 ws 8 < (s.plot p).tm.headTop)
    (hl : s.stretchOf p (word64 ws 8) < wordAt ws 10 % 16) (hb : s.plotBusy p = true) (h6 : s.cmtState p ≠ 6)
    (h7 : s.cmtState p ≠ 7) :
    ∃ t, exec (.stretchNotice q ws) s = .next t ∧ (t.plot p).cmt.diverge = true ∧
      (t.plot p).tm.phase = (s.plot p).tm.phase := by
  obtain ⟨hmt, hpl, hst⟩ := State.noticed (q := q) (ws := ws) (e := (pktSrc ws, word64 ws 8)) hm (State.plotByTag_lt hp)
  have hw := State.wantStretch_late (n := wordAt ws 10 % 16) (k := word64 ws 8) (p := p) (by rw [hpl]; exact hc)
    (by rw [State.stretchOf, hpl]; exact hl) (by rw [hpl]; exact hh)
  obtain ⟨hd, htm⟩ := State.divergePass_busy_plot (k := word64 ws 8) (send := true) hmt (hst ▸ h6) (hst ▸ h7)
    (by rw [State.plotBusy, State.plotRuns, hpl]; exact hb)
  refine ⟨_, congrArg Host.Outcome.next (State.stretchNotice_eq hp hn), ?_⟩
  rw [hw]
  exact ⟨hd, by rw [htm, hpl]⟩

theorem exec_stakeDone_failed (hst : ctlStatus ws ≠ 0) :
    ∃ t, exec (.stakeDone q ws) s = .next t ∧ (ctlPn ws, pktSrc ws, ctlStatus ws) ∈ (t.plot p).cmt.done ∧
      ∀ e ∈ (t.plot p).cmt.extra, e.1 ≠ ctlPn ws := by
  obtain ⟨hdone, hextra⟩ := State.stakeDone_failed (p := p) (n := ctlPn ws) (dev := pktSrc ws) hm hst
  refine ⟨_, exec_stakeDone hp, ?_, ?_⟩
  · rw [hdone, heard]; simp
  · rw [hextra]; simp

theorem exec_stakeDone_waits (hst : ctlStatus ws = 0)
    (hd : ∃ d ∈ s.devicesOf p, d ≠ pktSrc ws ∧ (ctlPn ws, d, 0) ∉ (s.plot p).cmt.done) :
    ∃ t, exec (.stakeDone q ws) s = .next t ∧ (ctlPn ws, pktSrc ws, 0) ∈ (t.plot p).cmt.done ∧ t.regs = s.regs ∧
      (t.plot p).cmt.extra = (s.plot p).cmt.extra := by
  obtain ⟨d, hd, hne, hnd⟩ := hd
  refine ⟨_, exec_stakeDone hp, ?_⟩
  rw [hst, State.stakeDone_waits hm hd hne hnd, State.onCmt, State.plot_onPlot_self hm]
  exact ⟨mem_heard.2 (.inl ⟨rfl, rfl⟩), rfl, rfl⟩

theorem exec_stakeDone_promotes (hst : ctlStatus ws = 0)
    (hd : ∀ d ∈ s.devicesOf p, d = pktSrc ws ∨ (ctlPn ws, d, 0) ∈ (s.plot p).cmt.done)
    (ha : (s.plot p).cmt.area0.map (·.pn) = some (ctlPn ws) ∨ (s.plot p).cmt.area1.map (·.pn) = some (ctlPn ws)) :
    ∃ t, exec (.stakeDone q ws) s = .next t ∧ t.bit (Reg.PLT_STAKE_STAT p) 31 = true ∧
      t.rn64 (Reg.PLT_STAKE_PN_LO p) = ctlPn ws ∧ ∀ e ∈ (t.plot p).cmt.extra, ctlPn ws < e.1 := by
  have hmt : (s.onCmt p fun c => { c with done := heard c.done (ctlPn ws) (pktSrc ws) 0 }).memWf = true :=
    State.onPlot_memWf s p _ hm
  obtain ⟨hb, hn⟩ := State.promote_point hmt (State.plotByTag_lt hp) (ctlPn_lt (ws := ws))
  refine ⟨_, exec_stakeDone hp, ?_⟩
  rw [hst, State.stakeDone_promotes hm hd ha]
  exact ⟨hb, hn, State.promote_extra hmt⟩

theorem exec_ready_kept {h : Hold} (hh : (s.plot p).cmt.hold = some h) (hst : ctlStatus ws = 0)
    (hok : ∀ r ∈ h.ready, r.2.2 = false)
    (hpt : h.recovery = true → h.sent.isSome = true → ∀ r ∈ (h.hears (pktSrc ws) (ctlPn ws) false).ready, r.2.1 = h.point) :
    ∃ t, exec (if h.recovery then Instr.recoverReady q ws else .healReady q ws) s = .next t ∧
      (t.plot p).cmt.hold = some (h.hears (pktSrc ws) (ctlPn ws) false) ∧
      (t.plot p).cmt.resume =
        if (s.plot p).cmt.resume.isNone && s.coordinator p &&
            (s.devicesOf p).all (fun d => (h.hears (pktSrc ws) (ctlPn ws) false).ready.any fun r => r.1 == d) then
          some (if h.recovery then h.point else h.k, s.ftNs + 50000)
        else (s.plot p).cmt.resume := by
  have hpl := State.plot_hears (dev := pktSrc ws) (point := ctlPn ws) (failed := false) hm hh
  have hdev : (s.onHold p fun h => h.hears (pktSrc ws) (ctlPn ws) false).devicesOf p = s.devicesOf p := by
    rw [State.devicesOf, State.devicesOf, hpl]
    rfl
  have hready : ∀ r ∈ (h.hears (pktSrc ws) (ctlPn ws) false).ready, r.2.2 = false := by
    intro r hr
    rcases List.mem_append.1 hr with hr | hr
    · exact hok r (List.mem_filter.1 hr).1
    · rw [List.mem_singleton.1 hr]
  obtain ⟨h1, h2⟩ := State.readyCheck_ready (State.hears_memWf (dev := pktSrc ws) (point := ctlPn ws) (failed := false) hm)
    (congrArg (fun x : Plot => x.cmt.hold) hpl) hready hpt
  refine ⟨_, exec_ready hp hh, ?_⟩
  rw [hst]
  refine ⟨h1, h2.trans ?_⟩
  rw [State.coordinator, hdev, hpl]
  rfl

theorem exec_ready_failed {h : Hold} (hh : (s.plot p).cmt.hold = some h) (hst : ctlStatus ws ≠ 0) :
    ∃ t, exec (if h.recovery then Instr.recoverReady q ws else .healReady q ws) s = .next t ∧
      (t.plot p).cmt.hold = none ∧ (t.plot p).tm.phase = .stopped := by
  refine ⟨_, exec_ready hp hh, ?_⟩
  refine State.readyCheck_failed (State.hears_memWf hm) (congrArg (fun x : Plot => x.cmt.hold) (State.plot_hears hm hh)) ?_
  exact ⟨_, List.mem_append_right _ (List.mem_singleton_self _), bne_iff_ne.2 hst⟩

theorem exec_resume (hh : (s.plot p).cmt.hold.isSome = true) :
    ∃ t, exec (.resume q ws) s = .next t ∧ (t.plot p).cmt.resume = some (ctlPn ws, ctlFt ws) ∧
      (t.plot p).cmt.hold = (s.plot p).cmt.hold := by
  have he : s.resumePacket ws = s.onCmt p fun c => { c with resume := some (ctlPn ws, ctlFt ws) } := by
    rw [State.resumePacket, hp]
    exact if_pos hh
  refine ⟨_, congrArg Host.Outcome.next he, ?_⟩
  rw [State.onCmt, State.plot_onPlot_self hm]
  exact ⟨rfl, rfl⟩

theorem exec_rollbackPacket :
    ∃ t, exec (.rollbackPacket q ws) s = .next t ∧
      (t.plot p).cmt.rollback = (s.plot p).cmt.rollback ++ [(ctlPn ws, none)] ∧ (t.plot p).tm = (s.plot p).tm := by
  have he : s.rollbackPacket ws = s.onCmt p fun c => { c with rollback := c.rollback ++ [(ctlPn ws, none)] } := by
    rw [State.rollbackPacket, hp]
  refine ⟨_, congrArg Host.Outcome.next he, ?_⟩
  rw [State.onCmt, State.plot_onPlot_self hm]
  exact ⟨rfl, rfl⟩

end

end

/-- Settles O44: what each packet does to its plot, one lemma for each case. STRETCH_NOTICE asks for a headland ahead or comes
late, STAKE_DONE fails, is kept or promotes the stake, the READY packets are counted or end the hold, and RESUME, DIVERGE and
ROLLBACK leave their mark on the plot's record. -/
theorem plotPacketsReachTheirPlot : Obligations.PlotPacketsReachTheirPlot := by
  intro s q p ws hm hp
  refine ⟨exec_stretchNotice_again hp, exec_stretchNotice_early hm hp, exec_stretchNotice_late hm hp,
    exec_stakeDone_failed hm hp, fun hst => ⟨exec_stakeDone_waits hm hp hst, exec_stakeDone_promotes hm hp hst⟩, ?_,
    exec_resume hm hp, fun hb h6 h7 => ?_, fun hb hl hd h6 h7 => ?_, exec_rollbackPacket hm hp⟩
  · rintro h i hh rfl
    exact ⟨exec_ready_kept hm hp hh, exec_ready_failed hm hp hh⟩
  · exact ⟨_, exec_diverge hp (by rw [hb]; rfl), State.divergePass_busy_plot hm h6 h7 hb⟩
  · exact ⟨_, exec_diverge hp (by rw [hl, Bool.or_true]), State.divergePass_idle hm (State.plotByTag_lt hp) hd h6 h7 hb hl⟩

end Sys2Proof.Machine

end

section

/-!
# What the checks of stored words spare

SUPPORT for the statements about headlands and HBM controllers: the checks of stored items, the conditions that they note and
the pass errors that they charge leave alone the Field I/O ports, the refresh counts, the discarded passes of the plots, and
the remap entries.
-/

namespace Sys2Proof.Machine
open Sys2Proof

/-! ## Remap entries among the registers (R152) -/

/-- The registers of the remap entries, by their place in the register map. -/
abbrev remapReg (a : Nat) : Prop := 0xa0000 ≤ a ∧ a < 0xa8000 ∧ 0x100 ≤ a % 0x200 ∧ a % 0x200 < 0x180

theorem remapReg_entry {pc k : Nat} (hpc : pc < 64) (hk : k < 32) : remapReg (Reg.MEM_PC_REMAP pc k) := by
  unfold remapReg Reg.MEM_PC_REMAP; omega

theorem dotIdx_of_zero {is ss : List Nat} (h : ∀ x ∈ ss, x = 0) : dotIdx is ss = 0 := by
  induction ss generalizing is with
  | nil => cases is <;> rfl
  | cons x ss ih =>
    cases is with
    | nil => rfl
    | cons i is => rw [dotIdx, h x List.mem_cons_self, ih fun y hy => h y (List.mem_cons_of_mem x hy), Nat.mul_zero]

/-- No event is noted in a register of a pseudo-channel (R157). -/
theorem notedReg_of_pcReg {a : Nat} (hlo : 0xa0000 ≤ a) (hhi : a < 0xa8000) : notedReg a = false := by
  have hb : ∀ b ∈ singleBlks, b.first + 24 ≤ 0xa0000 ∧ b.merged < 0xa0000 ∧ b.ovf < 0xa0000 ∧ b.ptr + 12 ≤ 0xa0000 ∧
      b.hist + 256 ≤ 0xa0000 ∨ 0xa8000 ≤ b.first ∧ 0xa8000 ≤ b.merged ∧ 0xa8000 ≤ b.ovf ∧ 0xa8000 ≤ b.ptr ∧
      0xa8000 ≤ b.hist := by decide +kernel
  simp only [notedReg, Bool.or_eq_false_iff, List.any_eq_false, Blk.notes, decide_eq_true_eq, Reg.CMD_INT_PEND,
    Reg.HVT_DEV_STAT, Reg.HVT_EVT_LOSS_CNT]
  refine ⟨decide_eq_false (by omega), fun b hm => ?_⟩
  rcases hb b hm with h | h <;> omega

section
variable {a : Nat} (h : remapReg a)
include h

theorem notedReg_of_remapReg : notedReg a = false := notedReg_of_pcReg h.1 h.2.1

/-- No OVF bit lies in a remap entry, and no counter that is none itself. -/
theorem not_countsAt_remap {c : Nat} (hc : a ≠ c) : ¬ countsAt c a := by
  have ht : ∀ r ∈ cntRows, (r.ovfStride = r.dims.map (·.2) ∨ ∀ x ∈ r.ovfStride, x = 0) ∧
      (r.ovf + dimSpan r.dims < 0xa0000 ∨ 0xa8000 ≤ r.ovf ∨ 0x200 ∣ dimGcd r.dims ∧ r.ovf % 0x200 < 0x100) := by
    decide +kernel
  obtain ⟨hlo, hhi, hm, -⟩ := h
  rintro (rfl | ⟨r, is, hf, rfl⟩)
  · exact hc rfl
  · obtain ⟨hr, hi⟩ := findCnt_some hf
    obtain ⟨hst, hreg⟩ := ht r hr
    have hoff : dotIdx is r.ovfStride ≤ dimSpan r.dims ∧ dimGcd r.dims ∣ dotIdx is r.ovfStride := by
      rcases hst with hst | hst
      · rw [hst, dotIdx_of_dimIdx hi]
        exact ⟨le_dimSpan hi, dimGcd_dvd hi⟩
      · rw [dotIdx_of_zero hst]
        exact ⟨Nat.zero_le _, dvd_zero _⟩
    simp only [CntRow.ovfAt] at hlo hhi hm
    rcases hreg with hreg | hreg | ⟨hg, hreg⟩
    · omega
    · omega
    · have hd := Nat.mod_eq_zero_of_dvd (hg.trans hoff.2)
      omega

end

section
variable {R : Prop} {κ s t : State} {p n pc a : Nat} {plot : Option Nat}

/-! ## What is spared -/

/-- s has the Field I/O ports and the refresh counts of κ, its discarded passes (in canonical form), and where R asks for it
its remap entries. -/
structure State.Spares (R : Prop) (κ s : State) : Prop where
  io : s.io = κ.io
  refreshes : s.hbm.refreshes = κ.hbm.refreshes
  regs : R → ∀ a, remapReg a → s.rn a = κ.rn a
  plots : κ.memWf = true → s.memWf = true ∧ ∀ q, (s.plot q).cmt.discarded = (κ.plot q).cmt.discarded

theorem State.Spares.refl : State.Spares R s s := ⟨rfl, rfl, fun _ _ _ => rfl, fun h => ⟨h, fun _ => rfl⟩⟩

theorem State.Spares.trans {u : State} (h : State.Spares R s t) (g : State.Spares R t u) : State.Spares R s u where
  io := g.io.trans h.io
  refreshes := g.refreshes.trans h.refreshes
  regs hr a ha := (g.regs hr a ha).trans (h.regs hr a ha)
  plots hm := ⟨(g.plots (h.plots hm).1).1, fun q => ((g.plots (h.plots hm).1).2 q).trans ((h.plots hm).2 q)⟩

/-- An operation that changes nothing that is named here. -/
theorem State.Spares.of_eq (h : State.Spares R κ s) (hi : t.io = s.io) (hh : t.hbm.refreshes = s.hbm.refreshes)
    (hr : t.regs = s.regs) (hp : t.plots = s.plots) (hm : s.memWf = true → t.memWf = true) : State.Spares R κ t :=
  h.trans ⟨hi, hh, fun _ _ _ => State.rn_of_regs hr, fun hs => ⟨hm hs, fun _ => by rw [State.plot_of_plots hp]⟩⟩

/-- An operation that notes an event. -/
theorem State.Spares.note (h : State.Spares R κ s) (hq : Quiet s t) (hr : R → ∀ a, remapReg a → t.rn a = s.rn a)
    (hg : Good (Kept.records s) s → Good (Kept.records s) t) : State.Spares R κ t :=
  h.trans ⟨congrArg (a₁ := t.core) (a₂ := s.core) State.io hq, congrArg (a₁ := t.core) (a₂ := s.core) (·.hbm.refreshes) hq, hr,
    fun hs => ⟨(hg (Good.records hs)).mem, fun _ => by rw [State.plot_of_plots hq.plots]⟩⟩

theorem State.Spares.onPlot {f : Plot → Plot} (h : State.Spares R κ s)
    (hf : ∀ x, (f x).cmt.discarded = x.cmt.discarded) : State.Spares R κ (s.onPlot p f) := by
  refine h.trans ⟨rfl, rfl, fun _ _ _ => rfl, fun hs => ?_⟩
  obtain ⟨hm, hsame⟩ := State.Reads.onPlot (g := fun x => x.cmt.discarded) (p := p) (.refl hs) hf
  exact ⟨hm, hsame⟩

theorem State.Spares.ite {c : Prop} [Decidable c] (h : State.Spares R κ s) (g : State.Spares R κ t) :
    State.Spares R κ (if c then s else t) := by
  split <;> assumption

theorem State.Spares.foldl {α : Type} {g : State → α → State} {l : List α} (h : State.Spares R κ s)
    (hg : ∀ s a, a ∈ l → State.Spares R κ s → State.Spares R κ (g s a)) : State.Spares R κ (l.foldl g s) := by
  induction l generalizing s with
  | nil => exact h
  | cons a l ih => exact ih (hg s a List.mem_cons_self h) fun s b hb => hg s b (List.mem_cons_of_mem a hb)

/-! ## Notes -/

theorem State.Spares.put {lo len v : Nat} (h : State.Spares R κ s) (ha : R → ¬ remapReg a) :
    State.Spares R κ (s.put a lo len v) :=
  h.note (State.put_quiet s a lo len v rfl)
    (fun hr _ hb => State.rn_put_ne _ _ _ _ _ _ fun e => ha hr (e ▸ hb)) fun hg => State.put_good _ _ _ _ _ hg

theorem State.Spares.setBit {i : Nat} (h : State.Spares R κ s) (ha : R → ¬ remapReg a) : State.Spares R κ (s.setBit a i) :=
  h.put ha

theorem State.Spares.clrBit {i : Nat} (h : State.Spares R κ s) (ha : R → ¬ remapReg a) : State.Spares R κ (s.clrBit a i) :=
  h.put ha

theorem State.Spares.count (h : State.Spares R κ s) (ha : R → ¬ remapReg a) : State.Spares R κ (s.count a) :=
  h.note (State.count_quiet s a rfl)
    (fun hr _ hb => State.rn_count (not_countsAt_remap hb fun e => ha hr (e ▸ hb))) fun hg => State.count_good _ _ hg

theorem State.Spares.plotInt {i : Nat} (h : State.Spares R κ s) (hp : R → p < 16) : State.Spares R κ (s.plotInt p i) :=
  h.note (State.plotInt_quiet s p i rfl)
    (fun hr b hb => State.rn_plotInt (by have := hp hr; unfold remapReg at hb; unfold Reg.PLT_INT_STAT; omega))
    fun hg => State.plotInt_good _ _ _ hg

theorem State.Spares.record {rtype len pn : Nat} {body : List Nat} (h : State.Spares R κ s) :
    State.Spares R κ (s.record rtype len plot pn body) :=
  h.note (State.record_quiet s rtype len plot pn body rfl) (fun _ _ hb => State.rn_record (notedReg_of_remapReg hb))
    fun hg => State.record_good _ _ _ _ _ _ hg

theorem State.Spares.holdRec {kind action stake pn : Nat} (h : State.Spares R κ s) :
    State.Spares R κ (s.holdRec p kind action stake pn) := h.record

theorem State.Spares.plotState {ev st : Nat} {more : List Nat} (h : State.Spares R κ s) :
    State.Spares R κ (s.plotState p ev st more) := h.record

theorem State.Spares.raise {b : Blk} {stat cause loc low pn : Nat} (h : State.Spares R κ s)
    (hb : R → b ∈ singleBlks ∧ ¬ remapReg stat) : State.Spares R κ (s.raise b stat cause loc low plot pn) :=
  h.note (State.raise_quiet s b stat cause loc low plot pn rfl)
    (fun hr _ ha => State.rn_raise_ne (notedReg_of_remapReg ha) (hb hr).1 fun e => (hb hr).2 (e ▸ ha))
    fun hg => State.raise_good _ _ _ _ _ _ _ _ hg

theorem State.Spares.hvtStop {cause ft : Nat} (h : State.Spares R κ s) (hp : R → p < 16) :
    State.Spares R κ (s.hvtStop p cause n ft) := by
  refine h.note (State.hvtStop_quiet s p cause n ft rfl) (fun hr b hb => ?_) fun hg => State.hvtStop_good _ _ _ _ _ hg
  have hlt := hp hr
  have hn := notedReg_of_remapReg hb
  unfold remapReg at hb
  unfold State.hvtStop
  dsimp only
  split
  · rw [State.rn_rnSet64_ne (by unfold Reg.HVT_STOP_PN_LO; omega) (by unfold Reg.HVT_STOP_PN_LO; omega),
      State.rn_put_ne _ _ _ _ _ _ (by unfold Reg.HVT_STAT; omega), State.rn_event hn]
  · rfl

/-! ## Packets, commands and the stop of a plot -/

theorem State.Spares.ctrlQueueAll {ports : List Nat} {ptype : Nat} {ws : List Word} (h : State.Spares R κ s) :
    State.Spares R κ (s.ctrlQueueAll ports ptype ws) := by
  refine h.foldl fun t q _ h => ?_
  unfold State.ctrlQueue
  split
  · exact h.of_eq rfl rfl rfl rfl id
  · exact (h.raise fun _ => ⟨by decide, by decide⟩).count fun _ => by decide

theorem State.Spares.flood {ptype : Nat} {body : List Nat} (h : State.Spares R κ s) :
    State.Spares R κ (s.flood p ptype body) :=
  (h.of_eq (t := (s.nextSeq.2).markSeen s.devId s.nextSeq.1) rfl rfl rfl rfl id).ctrlQueueAll

theorem State.Spares.finishAll {pick : Cmd → Bool} {st res : Nat} (h : State.Spares R κ s) :
    State.Spares R κ (s.finishAll p pick st res) := h.of_eq rfl rfl rfl rfl id

theorem State.Spares.makeReady {pick : Cmd → Bool} (h : State.Spares R κ s) : State.Spares R κ (s.makeReady pick) := by
  unfold State.makeReady
  exact h.ite (h.of_eq rfl rfl rfl rfl id)

theorem State.Spares.finishRuns {st : Nat} (h : State.Spares R κ s) : State.Spares R κ (s.finishRuns p st n) := by
  unfold State.finishRuns
  exact State.Spares.onPlot (h.of_eq rfl rfl rfl rfl id) fun _ => rfl

theorem State.Spares.finishWaiting {st : Nat} (h : State.Spares R κ s) (hp : R → p < 16) :
    State.Spares R κ (s.finishWaiting p st) := by
  unfold State.finishWaiting
  refine State.Spares.onPlot (State.Spares.makeReady (State.Spares.finishAll ?_)) fun _ => rfl
  exact State.Spares.ite (h.finishAll.hvtStop hp) h.finishAll

theorem State.Spares.faultStop {state st : Nat} (h : State.Spares R κ s) (hp : R → p < 16) :
    State.Spares R κ (s.faultStop p state st) := by
  have hr : R → ¬ remapReg (Reg.PLT_CMT_STAT p) := fun r => by have := hp r; unfold Reg.PLT_CMT_STAT; omega
  unfold State.faultStop
  refine State.Spares.plotState (State.Spares.finishWaiting (State.Spares.finishRuns ?_) hp)
  exact State.Spares.clrBit (State.Spares.put (h.onPlot fun _ => rfl) hr) hr

theorem State.Spares.divergePass {k : Nat} {send : Bool} (h : State.Spares R κ s) (hp : R → p < 16) :
    State.Spares R κ (s.divergePass p k send) := by
  have hr : R → ¬ remapReg (Reg.PLT_CMT_STAT p) := fun r => by have := hp r; unfold Reg.PLT_CMT_STAT; omega
  unfold State.divergePass
  dsimp only
  split
  · exact h
  · generalize hu : State.holdRec _ p 4 0 0 k = u
    have hrec : State.Spares R κ u := hu ▸ State.Spares.holdRec (State.Spares.onPlot ((h.setBit hr).plotInt hp) fun _ => rfl)
    have hsent : State.Spares R κ (if send then u.floodCtl p 0x14 0 0 k 0 else u) := State.Spares.ite hrec.flood hrec
    exact State.Spares.ite (hsent.faultStop hp) hsent

/-- A pass error is charged to its pass: it marks the plot, and asks the other devices. -/
theorem State.Spares.passError {k block cause loc unit : Nat} (h : State.Spares R κ s) (hp : R → p < 16) :
    State.Spares R κ (s.passError p k block cause loc unit) := by
  unfold State.passError
  dsimp only
  refine h.ite ((h.divergePass hp).ite (.ite (h.onPlot fun _ => rfl) ?_))
  exact State.Spares.flood (.onPlot (h.onPlot fun _ => rfl) fun _ => rfl)

/-! ## Injections, control triples and buckets (R461, R469, R471) -/

theorem State.Spares.takeInjects {reg : Nat} {pick : Nat → Bool} (h : State.Spares R κ s) (hr : R → ¬ remapReg reg) :
    State.Spares R κ (s.takeInjects reg pick).2 := by
  unfold State.takeInjects
  dsimp only
  split
  · exact h
  · exact State.Spares.setBit (State.Spares.clrBit (h.of_eq rfl rfl rfl rfl id) hr) hr

theorem State.Spares.injectAt {reg : Nat} {pick : Nat → Bool} {corrupt : Nat → State → State}
    {cond : Nat → Nat → State → State} (h : State.Spares R κ s) (hr : R → ¬ remapReg reg)
    (hc : ∀ b t, State.Spares R κ t → State.Spares R κ (corrupt b t))
    (hd : ∀ a b t, State.Spares R κ t → State.Spares R κ (cond a b t)) :
    State.Spares R κ (s.injectAt reg pick corrupt cond) := by
  unfold State.injectAt
  refine h.ite ((h.takeInjects hr).foldl fun t i _ ht => ?_)
  split
  · exact hc _ _ ht
  · exact hc _ _ ht
  · exact hd _ _ _ ht

theorem State.Spares.eccSet {kind idx v : Nat} (h : State.Spares R κ s) : State.Spares R κ (s.eccSet kind idx v) :=
  h.of_eq rfl rfl rfl rfl id

theorem State.Spares.upsetItem {kind idx bits : Nat} (h : State.Spares R κ s) : State.Spares R κ (s.upsetItem kind idx bits) :=
  h.eccSet

theorem State.Spares.raiseGln {cause space index : Nat} (h : State.Spares R κ s) :
    State.Spares R κ (s.raiseGln cause space index plot) := h.raise fun _ => ⟨by decide, by decide⟩

theorem State.Spares.glnCond {cause space index : Nat} (h : State.Spares R κ s) :
    State.Spares R κ (s.glnCond cause space index plot) := by
  have hc : ∀ i < 7, State.Spares R κ ((s.raiseGln cause space index plot).count (Reg.GLN_CNT i)) := fun i hi =>
    h.raiseGln.count fun _ => by unfold Reg.GLN_CNT; omega
  unfold State.glnCond
  dsimp only
  split
  · exact hc 0 (by decide)
  · exact hc 1 (by decide)
  · exact hc 3 (by decide)
  · exact hc 5 (by decide)
  · exact hc 6 (by decide)
  · exact hc 4 (by decide)
  · exact h.raiseGln

theorem State.Spares.glnMeet {pick : Nat → Bool} {corrupt : Nat → Nat → State → State} (h : State.Spares R κ s)
    (hc : ∀ a b t, State.Spares R κ t → State.Spares R κ (corrupt a b t)) :
    State.Spares R κ (s.glnMeet plot pick corrupt) := by
  unfold State.glnMeet
  refine h.ite ((h.takeInjects fun _ => by decide).foldl fun t i _ ht => ?_)
  split
  · exact hc _ _ _ ht
  · exact hc _ _ _ ht
  · exact ht.glnCond

theorem State.Spares.glnTouchHbm {word : Nat} (h : State.Spares R κ s) : State.Spares R κ (s.glnTouchHbm word plot) :=
  h.glnMeet fun _ _ _ ht => ht.upsetItem

/-- A register goes back to its reset value. -/
theorem State.Spares.rgReset (h : State.Spares R κ s) (ha : R → ¬ remapReg a) : State.Spares R κ (s.rgReset a) := by
  refine h.note rfl (fun hr b hb => ?_) fun hg => State.rgReset_good _ _ hg
  have hne : b ≠ a := fun e => ha hr (e ▸ hb)
  rw [State.rn, State.rn, State.rg, State.rg, State.rgReset]
  dsimp only
  rw [Laws.cget_cdel_ne hne]

theorem State.Spares.vote {e : Nat × Nat} (h : State.Spares R κ s) : State.Spares R κ (s.vote e) := by
  unfold State.vote
  dsimp only
  split
  · exact h.raiseGln.count fun _ => by decide
  · refine State.Spares.foldl ?_ fun t _ _ ht => ht.of_eq rfl rfl rfl rfl id
    split
    · exact h.raiseGln.rgReset fun _ => by unfold Reg.GLN_CFG; omega
    · exact h.raiseGln

theorem State.Spares.useTriple {reg : Nat} (h : State.Spares R κ s) : State.Spares R κ (s.useTriple reg) := by
  have hm := h.glnMeet (plot := none) (pick := fun a => a == 7 * 2 ^ 28 + reg)
    (corrupt := fun _ bits s => { s with gln := { s.gln with upset := cset 0 s.gln.upset reg bits } })
    fun _ _ _ ht => ht.of_eq rfl rfl rfl rfl id
  unfold State.useTriple
  exact h.ite (hm.ite (State.Spares.vote (hm.of_eq rfl rfl rfl rfl id)))

theorem State.Spares.bucket {cls : Nat} (h : State.Spares R κ s) (ha : R → ¬ remapReg a) :
    State.Spares R κ (s.bucket cls a) := by
  unfold State.bucket
  refine State.Spares.ite h.useTriple (State.Spares.ite ?_ (h.useTriple.put ha))
  exact (h.useTriple.put ha).of_eq rfl rfl rfl rfl id

/-! ## Checks of HBM words (R149-R152) -/

theorem State.Spares.raiseMem {cause offset : Nat} (h : State.Spares R κ s) :
    State.Spares R κ (s.raiseMem pc cause offset plot n) :=
  h.raise fun _ => ⟨by decide, by unfold Reg.MEM_PC_STAT; omega⟩

theorem State.Spares.memEvent {cause addr : Nat} (h : State.Spares R κ s) :
    State.Spares R κ (s.memEvent cause addr plot n) :=
  (h.raiseMem.count fun _ => by unfold Reg.MEM_PC_CE_CNT; omega).bucket fun _ => by unfold Reg.MEM_PC_CE_BUCKET; omega

theorem State.Spares.memUe {addr : Nat} (h : State.Spares R κ s) : State.Spares R κ (s.memUe addr plot n) :=
  h.raiseMem.count fun _ => by unfold Reg.MEM_PC_UE_CNT; omega

theorem State.Spares.dataLoss {addr : Nat} (h : State.Spares R κ s) (hp : R → p < 16) :
    State.Spares R κ (s.dataLoss addr p n) := by
  have hr : R → ¬ remapReg (Reg.PLT_MEM_STAT p) := fun r => by have := hp r; unfold Reg.PLT_MEM_STAT; omega
  unfold State.dataLoss
  exact State.Spares.ite (((h.setBit hr).plotInt hp).record.onPlot fun _ => rfl) ((h.setBit hr).plotInt hp).record

section
variable (hp : R → ∀ p ∈ plot, p < 16)
include hp

theorem State.Spares.memRaise {cause addr : Nat} {sched : Bool} (h : State.Spares R κ s) :
    State.Spares R κ (s.memRaise cause addr plot n sched) := by
  have h1 : State.Spares R κ (if cause = 0 ∨ cause = 6 then s.memEvent cause addr plot n
      else if cause = 1 then s.memUe addr plot n else s.raiseMem (pcOf addr) cause (pcOffset addr) plot n) :=
    h.memEvent.ite (h.memUe.ite h.raiseMem)
  unfold State.memRaise
  dsimp only
  split
  · exact (h1.passError fun r => hp r _ rfl).ite h1
  · exact h1

theorem State.Spares.memInject {addr : Nat} {sched : Bool} (h : State.Spares R κ s) :
    State.Spares R κ (s.memInject addr plot n sched) :=
  h.glnTouchHbm.injectAt (fun _ => by decide) (fun _ _ ht => ht.upsetItem) fun _ _ _ ht => ht.memRaise hp

theorem State.Spares.poison {addr : Nat} (h : State.Spares R κ s) : State.Spares R κ (s.poison addr plot n) := by
  have h1 : State.Spares R κ (((s.hbmMarkSet addr 3).unsuspect addr).raiseMem (pcOf addr) 2 (pcOffset addr) plot n) :=
    State.Spares.raiseMem (State.Spares.of_eq h.eccSet rfl rfl rfl rfl id)
  unfold State.poison
  dsimp only
  split
  · exact h1.record
  · exact h1.dataLoss fun r => hp r _ rfl

theorem State.Spares.poisonRead {addr : Nat} (h : State.Spares R κ s) : State.Spares R κ (s.poisonRead addr plot n) := by
  unfold State.poisonRead
  dsimp only
  split
  · exact h.raiseMem.count fun r => by have := hp r _ rfl; unfold Reg.PLT_MEM_POISON_CNT; omega
  · exact h.raiseMem

theorem State.Spares.hbmCheck {addr : Nat} (h : State.Spares R κ s) : State.Spares R κ (s.hbmCheck addr plot n).2 := by
  have hi := h.memInject (addr := addr) (n := n) (sched := false) hp
  unfold State.hbmCheck
  dsimp only
  split
  · exact hi
  · exact hi.memEvent.eccSet
  · exact hi.memUe.poison hp
  · exact hi.poisonRead hp

theorem State.Spares.hbmCheckRange {addr len : Nat} (h : State.Spares R κ s) :
    State.Spares R κ (s.hbmCheckRange addr len plot n).2 := by
  unfold State.hbmCheckRange
  generalize natsFrom _ _ = l
  suffices ∀ r : Bool × State, State.Spares R κ r.2 → State.Spares R κ (l.foldl (fun r w =>
      ((r.1 || (r.2.hbmCheck (8 * w) plot n).1), (r.2.hbmCheck (8 * w) plot n).2)) r).2 from this (false, s) h
  induction l with
  | nil => exact fun _ hr => hr
  | cons w l ih => exact fun _ hr => ih _ (hr.hbmCheck hp)

end

/-- A live plot whose page holds an address. -/
theorem State.pageHolder_lt {page : Nat} {x : Nat × Nat} (h : s.pageHolder page = some x) : x.1 < 16 := by
  obtain ⟨q, hq, hx⟩ := List.exists_of_findSome?_eq_some h
  obtain ⟨e, -, rfl⟩ := Option.map_eq_some_iff.1 hx
  simpa using (mem_natsFrom.1 (List.mem_of_mem_filter hq)).2

theorem State.Spares.remapCopy {row : Nat} (h : State.Spares R κ s) : State.Spares R κ (s.remapCopy pc row) := by
  unfold State.remapCopy
  refine State.Spares.ite (h.hbmCheckRange fun _ p hp => ?_) h
  obtain ⟨x, hx, rfl⟩ := Option.map_eq_some_iff.1 hp
  exact State.pageHolder_lt hx

/-- A remap entry becomes active: its own register is all that is not spared. -/
theorem State.Spares.remapActive {k : Nat} (h : State.Spares False κ s) : State.Spares False κ (s.remapActive pc k) := by
  unfold State.remapActive
  exact State.Spares.ite (h.remapCopy.setBit False.elim).raiseMem h

theorem State.Spares.remapReady (h : State.Spares False κ s) : State.Spares False κ (s.remapReady pc) :=
  State.Spares.foldl (h.of_eq rfl rfl rfl rfl id) fun _ _ _ ht => ht.remapActive

end

end Sys2Proof.Machine

end

section

/-!
# What a headland latches, marks, releases and applies

PROVES O9 (spec R24, R144, R295, R297).
-/

namespace Sys2Proof.Machine
open Sys2Proof

section
variable {κ s t : State} {p pn q r : Nat} {pins : List (Nat × Nat)}

/-! ## The record of a port -/

theorem State.fio_of_io (h : t.io = s.io) : t.fio r = s.fio r := by rw [State.fio, State.fio, h]

theorem State.fio_fioSet_ne {x : Fio} (h : r ≠ q) : (s.fioSet q x).fio r = s.fio r := by
  unfold State.fioSet State.fio
  exact Laws.cget_cset_ne h

theorem State.fio_fioSet_self {x : Fio} (h : x ≠ {}) : (s.fioSet q x).fio q = x := by
  unfold State.fioSet State.fio
  rw [cset, if_neg h]
  exact Laws.cget_cput_same

/-! ## The latch (R297, R300, R311) -/

theorem State.Spares.raiseFio {cause : Nat} {plot : Option Nat} (h : State.Spares False κ s) :
    State.Spares False κ (s.raiseFio q cause plot pn) := h.raise False.elim

theorem State.Spares.fioInject (h : State.Spares False κ s) : State.Spares False κ (s.fioInject p pn q) := by
  refine h.injectAt False.elim (fun _ _ ht => ht) fun cause _ t ht => ?_
  dsimp only
  split
  · exact ht.raiseFio.count False.elim
  · exact ht.raiseFio.count False.elim
  · exact ht.raiseFio.count False.elim
  · exact ht.raiseFio

theorem State.Spares.spmCond {i : Nat} (h : State.Spares False κ s) : State.Spares False κ (s.spmCond i) :=
  h.note (State.spmCond_quiet s i rfl) False.elim fun hg => State.spmCond_good _ _ hg

theorem State.Spares.spmCheck {addr : Nat} (h : State.Spares False κ s) : State.Spares False κ (s.spmCheck addr).2 := by
  have hi : State.Spares False κ (s.spmInject addr) :=
    h.injectAt False.elim (fun _ _ ht => ht.upsetItem) fun _ _ _ ht => (ht.spmCond.bucket False.elim).ite ht.spmCond
  unfold State.spmCheck
  dsimp only
  split
  · exact hi
  · exact hi.eccSet.spmCond.bucket False.elim
  · exact hi.spmCond

/-- The delivery of a BRIDGE port leaves the other ports alone. -/
theorem State.bridgeDeliver_ne (h : r ≠ q) : (s.bridgeDeliver p q pn).2.fio r = s.fio r := by
  unfold State.bridgeDeliver
  dsimp only
  split
  · exact (State.fio_fioSet_ne h).trans (State.fio_of_io State.Spares.refl.spmCheck.io)
  · exact State.fio_of_io State.Spares.refl.raiseFio.io

/-- Latching a port leaves the other ports alone. -/
theorem State.latchPort_ne (h : r ≠ q) : (s.latchPort p pn pins q).fio r = s.fio r := by
  have hi : (s.fioInject p pn q).fio r = s.fio r := State.fio_of_io (State.Spares.refl.fioInject).io
  unfold State.latchPort
  dsimp only
  split
  · exact (State.fio_fioSet_ne h).trans hi
  · refine Eq.trans (State.fio_fioSet_ne h) ?_
    split
    · exact (State.bridgeDeliver_ne h).trans hi
    · exact hi

/-- A port that has been latched holds the latch of that pass alone. -/
theorem State.latchPort_latch : ((s.latchPort p pn pins q).fio q).latch.map Prod.fst = [pn] := by
  have hset : ∀ (t : State) (x : Fio) (v : List Val),
      ((t.fioSet q { x with latch := [(pn, v)] }).fio q).latch.map Prod.fst = [pn] := by
    intro t x v
    rw [State.fio_fioSet_self fun h => List.cons_ne_nil _ _ (congrArg Fio.latch h)]
    rfl
  unfold State.latchPort
  dsimp only
  split
  · exact hset _ _ _
  · exact hset _ _ _

theorem foldl_of_mem {σ α : Type} {P : σ → Prop} {g : σ → α → σ} {a : α} {l : List α} (ha : a ∈ l) (hset : ∀ s, P (g s a))
    (hkeep : ∀ s b, P s → P (g s b)) (s : σ) : P (l.foldl g s) := by
  have hrest : ∀ (l : List α) (s : σ), P s → P (l.foldl g s) := by
    intro l
    induction l with
    | nil => exact fun _ h => h
    | cons b l ih => exact fun s h => ih _ (hkeep s b h)
  induction l generalizing s with
  | nil => cases ha
  | cons b l ih =>
    rcases List.mem_cons.1 ha with rfl | ha
    · exact hrest l _ (hset s)
    · exact ih ha _

theorem State.sampleGates_io : (s.sampleGates p pn).io = s.io := by
  refine foldl_keeps State.io (fun t g => ?_) _ s
  dsimp only
  split
  · rfl
  · rw [State.logAdd, State.onPlot_io]
    dsimp only
    split <;> rfl

theorem State.loadInputs_io : (s.loadInputs p).io = s.io := foldl_keeps State.io (fun _ _ => by rfl) _ s

/-- Every port of the plot holds the latch of the pass. -/
theorem State.latchAll_latch (hq : q ∈ (s.plot p).res.fios) : ((s.latchAll p pn pins).fio q).latch.map Prod.fst = [pn] := by
  rw [State.latchAll, State.fio_of_io State.loadInputs_io]
  refine foldl_of_mem (P := fun t : State => (t.fio q).latch.map Prod.fst = [pn]) hq (fun _ => State.latchPort_latch)
    (fun t b h => ?_) s
  by_cases hb : q = b
  · exact hb ▸ State.latchPort_latch
  · rw [State.latchPort_ne hb]; exact h

/-! ## The marks of the write queue (R144) -/

theorem State.spend_io {n : Nat} : (s.spend p n).io = s.io := by rw [State.spend, State.waitSteps_io, State.onTm_io]

theorem State.spend_hbm {n : Nat} : (s.spend p n).hbm = s.hbm := by rw [State.spend, State.waitSteps_hbm, State.onTm_hbm]

theorem State.wqDiscard_hbm {k : Nat} : (s.wqDiscard p k).hbm =
    { s.hbm with wq := s.hbm.wq.filter fun e => !(e.plot == p && k ≤ e.pn && !e.committed) } :=
by
  unfold State.wqDiscard
  exact foldl_keeps State.hbm (fun _ _ => by rfl) _ _

/-! ## Release (R197, R297) -/

/-- The registers that the passing of time may write: the servo's adjustment and its clamp (R274, R281). -/
theorem State.rn_tickSteps {a n : Nat} (h1 : a ≠ Reg.FT_ADJ) (h2 : a ≠ Reg.FT_STAT) (h3 : a ≠ Reg.CMD_INT_PEND) :
    (s.tickSteps n).rn a = s.rn a := by
  have hrate : ∀ (t : State) (n : Nat), (t.rateSteps n).rn a = t.rn a := fun _ _ => rfl
  have hend : ∀ t : State, t.phaseEnds.rn a = t.rn a := by
    intro t
    have hset : ∀ (u : State) (v : Word), (u.rgSet Reg.FT_ADJ v).rn a = u.rn a := fun u v => by
      rw [State.rn, State.rn, State.rg_rgSet_ne _ _ _ _ h1]
    unfold State.phaseEnds State.setAdj
    dsimp only
    split
    · exact (hset _ _).trans rfl
    · rw [State.condition, State.rn_devInt h3, State.rn_setBit_ne _ _ _ _ h2]
      exact (hset _ _).trans rfl
  unfold State.tickSteps
  split
  · exact hrate s n
  · dsimp only
    split
    · exact hrate s n
    · rw [hrate, hend, hrate]

theorem State.rn_spend {a n : Nat} (h1 : a ≠ Reg.FT_ADJ) (h2 : a ≠ Reg.FT_STAT) (h3 : a ≠ Reg.CMD_INT_PEND) :
    (s.spend p n).rn a = s.rn a := by
  unfold State.spend State.waitSteps
  dsimp only
  split
  · exact (State.rn_tickSteps h1 h2 h3).trans rfl
  · rfl

/-- t releases nothing that s does not: the same registers and gates, and every port drives what it drives in s. -/
structure State.Drives (s t : State) : Prop where
  mem : t.memWf = true
  regs : t.regs = s.regs
  sw : t.sw = s.sw
  ports : ∀ q, (t.fio q).out = (s.fio q).out ∧ (t.fio q).oe = (s.fio q).oe ∧ (t.fio q).clk = (s.fio q).clk

theorem State.Drives.unstage {f : Nat × List Val → Bool} (h : State.Drives s t) :
    State.Drives s (t.onFio q fun x => { x with staged := x.staged.filter f }) := by
  refine ⟨(State.onFio_good t q _ (Good.records h.mem)).mem, h.regs, h.sw, fun r => ?_⟩
  rw [State.onFio, State.fio_fioSet t q r _ h.mem]
  split
  · rename_i hr
    exact hr ▸ h.ports r
  · exact h.ports r

theorem foldl_inv {σ α : Type} {P : σ → Prop} {g : σ → α → σ} {l : List α} {s : σ} (h : P s)
    (hg : ∀ s, ∀ a ∈ l, P s → P (g s a)) : P (l.foldl g s) := by
  induction l generalizing s with
  | nil => exact h
  | cons a l ih => exact ih (hg s a List.mem_cons_self h) fun s b hb => hg s b (List.mem_cons_of_mem a hb)

/-- Without a commit, ports that are not DIRECT only forget staging that nothing needs. -/
theorem State.releaseAll_drives {direct : Bool} (hm : s.memWf = true)
    (hd : ∀ q ∈ (s.plot p).res.fios, s.fioDirect q = false) : State.Drives s (s.releaseAll p direct none) := by
  unfold State.releaseAll
  refine foldl_inv (P := State.Drives s) ⟨hm, rfl, rfl, fun _ => ⟨rfl, rfl, rfl⟩⟩ fun t q hq ht => ?_
  have hdt : t.fioDirect q = false := by
    rw [← hd q hq, State.fioDirect, State.fioDirect, State.bit, State.bit, State.rn_of_regs ht.regs]
  dsimp only
  rw [hdt, if_neg Bool.false_ne_true]
  exact ht.unstage

/-- The release part of a headland that commits nothing. -/
theorem exec_outputRelease_drives (hm : s.memWf = true) (hh : s.atHead p .release = true)
    (hc : (s.plot p).tm.hl.commit = false) (hd : ∀ q ∈ (s.plot p).res.fios, s.fioDirect q = false) :
    ∃ t, State.Drives s t ∧ exec (.outputRelease p) s = .next ((t.spend p 4).toHead p .mark) := by
  cases hs : s.suppressed p with
  | true =>
    refine ⟨s, ⟨hm, rfl, rfl, fun _ => ⟨rfl, rfl, rfl⟩⟩, ?_⟩
    show execOutputRelease p s = _
    rw [execOutputRelease, hh, hs]
    rfl
  | false =>
    refine ⟨s.releaseAll p (!(s.plot p).tm.hl.again || (s.plot p).tm.hl.fail) none, State.releaseAll_drives hm hd, ?_⟩
    show execOutputRelease p s = _
    rw [execOutputRelease, hh, hs]
    simp [hc]

/-! ## The host's operations (R25, R24) -/

/-- What a headland whose decision failed applies: the ROLLBACKs named for it alone. -/
theorem State.hostApply_of_fail (h : (s.plot p).tm.hl.fail = true) : s.hostApply p = s.rollbackCheck p := by
  unfold State.hostApply
  exact if_pos h

theorem State.rollbackCheck_keeps : ((s.rollbackCheck p).bp, (s.rollbackCheck p).fur, (s.rollbackCheck p).hbm) =
    (s.bp, s.fur, s.hbm) := by
  have hl := foldl_keeps (fun t : State => (t.bp, t.fur, t.hbm))
    (g := fun t (e : Nat × Option Nat) => t.finishOpt (e.2.getD 0) Status.deadlineMissed 0)
    fun t e => by unfold State.finishOpt; split <;> rfl
  unfold State.rollbackCheck
  dsimp only
  split
  · exact hl _ _
  · exact hl _ _

end

/-- Settles O9: the latch of each port (`State.latchAll_latch`), the marks of the write queue (`State.wqDiscard_hbm`), the
releases of a headland that commits nothing (`exec_outputRelease_drives`), and what a failed one applies
(`State.hostApply_of_fail`). -/
theorem headlandLatchesMarksAndReleases : Obligations.HeadlandLatchesMarksAndReleases := by
  refine ⟨fun s p q pins hh hq => ?_, fun s p hh => ?_, fun s p hm => ⟨fun hh hc hd => ?_, fun hh hf => ?_⟩⟩
  · have he : exec (.inputLatch p pins) s =
        .next (((s.latchAll p (s.nextPass p) pins).sampleGates p (s.nextPass p)).toHead p .release) := by
      show execInputLatch p pins s = _
      rw [execInputLatch, hh]
      rfl
    refine ⟨_, he, ?_⟩
    rw [State.fio_of_io (State.toHead_io _ _ _), State.fio_of_io State.sampleGates_io]
    exact State.latchAll_latch hq
  · have he : exec (.writeQueueCommitMark p) s = .next (((if (s.plot p).tm.hl.fail then
        s.wqDiscard p ((s.plot p).tm.pn - s.dlag p) else if (s.plot p).tm.hl.commit then
        s.wqCommit p ((s.plot p).tm.pn - s.dlag p) else s).spend p 4).toHead p .apply) := by
      show execWriteQueueCommitMark p s = _
      rw [execWriteQueueCommitMark, hh]
      rfl
    refine ⟨_, he, State.atHead_toHead _ _ _, ?_⟩
    rw [State.toHead_hbm, State.spend_hbm]
    split
    · rw [State.wqDiscard_hbm]
      exact ⟨rfl, rfl⟩
    · split
      · exact ⟨rfl, rfl⟩
      · exact ⟨rfl, rfl⟩
  · obtain ⟨t, ht, he⟩ := exec_outputRelease_drives hm hh hc hd
    refine ⟨_, he, ?_, fun a h1 h2 h3 => ?_, fun q => ?_⟩
    · rw [State.toHead_sw, State.spend, State.waitSteps_sw, State.onTm_sw, ht.sw]
    · rw [State.rn_of_regs (State.toHead_regs _ _ _), State.rn_spend h1 h2 h3, State.rn_of_regs ht.regs]
    · rw [State.fio_of_io ((State.toHead_io _ _ _).trans State.spend_io)]
      exact ht.ports q
  · have he : exec (.headlandHostApply p) s = .next (((s.rollbackCheck p).spend p 13).toHead p .flush) := by
      show execHeadlandHostApply p s = _
      rw [execHeadlandHostApply, if_pos hh, State.hostApply_of_fail hf]
    obtain ⟨hb, hfur, hh⟩ : _ ∧ _ ∧ _ := by simpa only [Prod.mk.injEq] using State.rollbackCheck_keeps (s := s) (p := p)
    refine ⟨_, he, ?_, ?_, ?_⟩
    · rw [State.toHead_bp, State.spend, State.waitSteps_bp, State.onTm_bp, hb]
    · rw [State.toHead_fur, State.spend, State.waitSteps_fur, State.onTm_fur, hfur]
    · rw [State.toHead_hbm, State.spend_hbm, hh]

end Sys2Proof.Machine

end

section

/-!
# HBM controllers

PROVES O13 (spec R33, R133, R140, R143, R147, R152, R153, R323, R465).
-/

namespace Sys2Proof.Machine
open Sys2Proof

section
variable {s t : State} {p n q k pc addr : Nat}

/-! ## Lists of cells -/

theorem cgetList_one {α : Type} {d : α} {c : Cells α} {j : Nat} : cgetList d c j 1 = [cget d c j] := rfl

theorem cgetList_nil {α : Type} {d : α} {j : Nat} : cgetList d [] j n = List.replicate n d := by
  induction n generalizing j with
  | zero => rfl
  | succ n ih => rw [cgetList, ih, List.replicate_succ, cget]

theorem cget_csetList {α : Type} [DecidableEq α] {d : α} {c : Cells α} {k j : Nat} {vs : List α} (h : cellsWf d c = true) :
    cget d (csetList d c k vs) j = if k ≤ j ∧ j < k + vs.length then (vs[j - k]?).getD d else cget d c j := by
  induction vs generalizing c k with
  | nil => rw [if_neg (by simp), csetList]
  | cons v vs ih =>
    rw [csetList, ih (Laws.cset_wf h), cget_cset h, List.length_cons]
    by_cases hj : j = k
    · subst hj
      rw [if_neg (by omega), if_pos rfl, if_pos (by omega), Nat.sub_self]
      rfl
    · by_cases hin : k + 1 ≤ j ∧ j < k + 1 + vs.length
      · rw [if_pos hin, if_pos (by omega), show j - k = j - (k + 1) + 1 by omega, List.getElem?_cons_succ]
      · rw [if_neg hin, if_neg hj, if_neg (by omega)]

/-- A filter that drops a key leaves nothing at it. -/
theorem cget_filter_out {α : Type} {d : α} {c : Cells α} {f : Nat × α → Bool} {j : Nat} (h : ∀ v, f (j, v) = false) :
    cget d (c.filter f) j = d := by
  induction c with
  | nil => rfl
  | cons e c ih =>
    rw [List.filter_cons]
    split
    · rename_i he
      rw [cget, if_neg fun hj => by rw [← Prod.eta e, hj, h] at he; cases he]
      exact ih
    · exact ih

theorem takeFirst_none {α : Type} {f : α → Bool} {l : List α} (h : ∀ x ∈ l, f x = false) : takeFirst f l = (none, l) := by
  induction l with
  | nil => rfl
  | cons x l ih =>
    rw [takeFirst, if_neg (by rw [h x List.mem_cons_self]; exact Bool.false_ne_true),
      ih fun y hy => h y (List.mem_cons_of_mem x hy)]

theorem takeFirst_append {α : Type} {f : α → Bool} {before after : List α} {e : α} (h : ∀ x ∈ before, f x = false)
    (he : f e = true) : takeFirst f (before ++ e :: after) = (some e, before ++ after) := by
  induction before with
  | nil => rw [List.nil_append, takeFirst, if_pos he, List.nil_append]
  | cons x l ih =>
    rw [List.cons_append, takeFirst, if_neg (by rw [h x List.mem_cons_self]; exact Bool.false_ne_true),
      ih fun y hy => h y (List.mem_cons_of_mem x hy), List.cons_append]

/-! ## Drains (R140, R147) -/

theorem State.hbmStore_hbm {bs : List Byte} : (s.hbmStore addr bs).hbm.wq = s.hbm.wq ∧
    (s.hbmStore addr bs).hbm.mem = csetList 0 s.hbm.mem addr bs := by
  have h : ((s.hbmStore addr bs).hbm.wq, (s.hbmStore addr bs).hbm.mem) = (s.hbm.wq, csetList 0 s.hbm.mem addr bs) := by
    unfold State.hbmStore
    exact foldl_keeps (fun t : State => (t.hbm.wq, t.hbm.mem)) (fun _ _ => by rfl) _ _
  exact Prod.mk.inj h

/-- On a plot without stakes a drain writes the entry's bytes at its address. -/
theorem State.drainEntry_hbm {e : WqEntry} (h : s.fld (Reg.PLT_HL_CFG e.plot) 8 6 = 0) :
    (s.drainEntry e).hbm.wq = s.hbm.wq ∧ (s.drainEntry e).hbm.mem = csetList 0 s.hbm.mem e.addr e.data := by
  unfold State.drainEntry
  dsimp only
  split
  · rename_i hd
    rw [hd]
    exact ⟨rfl, rfl⟩
  · exact State.hbmStore_hbm

theorem State.memWf_hbm (hm : s.memWf = true) : cellsWf 0 s.hbm.mem = true := (Good.records hm).wf.2.1

theorem State.hbmRead_one : s.hbmRead addr 1 = [cget 0 s.hbm.mem addr] := rfl

theorem exec_drain (h : s.drainHeld pc = false) : exec (.writeQueueDrain pc) s = .next (s.drainOne pc) := by
  show execWriteQueueDrain pc s = _
  rw [execWriteQueueDrain, h]
  rfl

theorem exec_drain_idle
    (h : s.drainHeld pc = true ∨ ∀ e ∈ s.hbm.wq, ¬ (e.pc = pc ∧ e.committed = true)) :
    exec (.writeQueueDrain pc) s = .next s := by
  cases hd : s.drainHeld pc with
  | true =>
    show execWriteQueueDrain pc s = _
    rw [execWriteQueueDrain, hd]
    rfl
  | false =>
    have hw : ∀ e ∈ s.hbm.wq, (e.pc == pc && e.committed) = false := by
      intro e he
      have := (h.resolve_left (by simp [hd])) e he
      simpa using this
    rw [exec_drain hd, State.drainOne, takeFirst_none hw]

/-- The oldest committed entry of a pseudo-channel is written to DRAM and leaves the queue. -/
theorem exec_drain_oldest (hm : s.memWf = true) {before after : List WqEntry} {e : WqEntry}
    (hw : s.hbm.wq = before ++ e :: after) (hb : ∀ x ∈ before, ¬ (x.pc = pc ∧ x.committed = true)) (hpc : e.pc = pc)
    (hc : e.committed = true) (hst : s.fld (Reg.PLT_HL_CFG e.plot) 8 6 = 0) (hd : s.drainHeld pc = false) :
    ∃ t, exec (.writeQueueDrain pc) s = .next t ∧ t.hbm.wq = before ++ after ∧
      ∀ a, t.hbmRead a 1 =
        if e.addr ≤ a ∧ a < e.addr + e.data.length then [(e.data[a - e.addr]?).getD 0] else s.hbmRead a 1 := by
  have ht : takeFirst (fun e => e.pc == pc && e.committed) s.hbm.wq = (some e, before ++ after) := by
    rw [hw]
    exact takeFirst_append (fun x hx => by have := hb x hx; simpa using this) (by rw [hpc, hc, beq_self_eq_true]; rfl)
  obtain ⟨hq, hmem⟩ := State.drainEntry_hbm (s := { s with hbm := { s.hbm with wq := before ++ after } }) (e := e) hst
  refine ⟨_, exec_drain hd, ?_, fun a => ?_⟩
  · rw [State.drainOne, ht]
    exact hq
  · rw [State.drainOne, ht]
    dsimp only
    rw [State.hbmRead_one, State.hbmRead_one, State.wqStat, State.rnSet_hbm, hmem, cget_csetList (State.memWf_hbm hm)]
    split <;> rfl

/-! ## Refresh and fill (R33, R153, R323) -/

theorem State.pcRuns_eq_false (h : ∀ p, s.holder Res.pcs pc = some p → s.plotRuns p = false) : s.pcRuns pc = false := by
  unfold State.pcRuns
  split
  · exact h _ ‹_›
  · rfl

theorem exec_autonomousRefresh (h : ∀ p, s.holder Res.pcs pc = some p → s.plotRuns p = false)
    (hs : s.hbm.selfRefresh = false) :
    ∃ t, exec (.autonomousRefresh pc) s = .next t ∧ cget 0 t.hbm.refreshes pc = cget 0 s.hbm.refreshes pc + 1 ∧
      ∀ q, q ≠ pc → cget 0 t.hbm.refreshes q = cget 0 s.hbm.refreshes q := by
  have he : exec (.autonomousRefresh pc) s = .next { s with hbm := { s.hbm with
      refreshes := cset 0 s.hbm.refreshes pc (cget 0 s.hbm.refreshes pc + 1) } } := by
    show execAutonomousRefresh pc s = _
    rw [execAutonomousRefresh, State.pcRuns_eq_false h, hs]
    rfl
  refine ⟨_, he, ?_, fun q hq => ?_⟩
  · dsimp only
    rw [cset, if_neg (Nat.succ_ne_zero _)]
    exact Laws.cget_cput_same
  · dsimp only
    exact Laws.cget_cset_ne hq

theorem State.rn_pllLock {a : Nat} (h : a ≠ Reg.CRP_STAT) : s.pllLock.rn a = s.rn a := by
  unfold State.pllLock
  split
  · rfl
  · exact State.rn_put_ne _ _ _ _ _ _ h

/-- A stack failed its training. -/
theorem exec_hbmFillDone_failed (hm : s.memWf = true) (h0 : s.bit Reg.MEM_STAT 0 = false) (hf : s.hbm.failed = false)
    (hv : (s.takeFree 1).1 = 1) :
    ∃ t, exec .hbmFillDone s = .next t ∧ t.bit Reg.MEM_STAT 1 = true ∧ t.hbmStatus = Status.internal ∧
      t.hbm.mem = s.hbm.mem := by
  have hpm : (s.takeFree 1).2.pllLock.memWf = true := (State.pllLock_good _ (Good.records (s := (s.takeFree 1).2) hm)).mem
  have hph : (s.takeFree 1).2.pllLock.hbm = s.hbm :=
    congrArg (a₁ := (s.takeFree 1).2.pllLock.core) (a₂ := (s.takeFree 1).2.core) State.hbm (State.pllLock_quiet _ rfl)
  have he : exec .hbmFillDone s = .next (State.setBit { (s.takeFree 1).2.pllLock with
      hbm := { (s.takeFree 1).2.pllLock.hbm with failed := true } } Reg.MEM_STAT 1) := by
    show execHbmFillDone s = _
    rw [execHbmFillDone, h0, hf, if_neg (by simp)]
    dsimp only
    rw [if_pos hv]
  refine ⟨_, he, State.bit_setBit _ _ _ hpm (by decide), rfl, ?_⟩
  rw [State.setBit_hbm, ← hph]

theorem State.hbmZero_regs : s.hbmZero.regs = s.regs := rfl

/-- Every byte is 0 with valid check bits. -/
theorem State.hbmZero_zero (a : Nat) : (s.hbmZero.hbmRead a n = List.replicate n 0) ∧ s.hbmZero.hbmMark a = 0 := by
  refine ⟨cgetList_nil, cget_filter_out fun v => ?_⟩
  simp [eccKey, Item.hbmWord]

/-- Once filled, the boot waits for its image, where it has not gone further. -/
theorem State.bootLoads (hm : s.memWf = true) :
    ∃ t : State, (if s.fld Reg.SOW_BOOT_STAT 28 4 = 0 then s.put Reg.SOW_BOOT_STAT 28 4 1 else s) = t ∧
      t.hbm = s.hbm ∧ t.ecc = s.ecc ∧ t.rn Reg.MEM_STAT = s.rn Reg.MEM_STAT ∧
      (s.fld Reg.SOW_BOOT_STAT 28 4 = 0 → t.fld Reg.SOW_BOOT_STAT 28 4 = 1) := by
  refine ⟨_, rfl, ?_⟩
  split
  · exact ⟨State.put_hbm _ _ _ _ _, State.put_ecc _ _ _ _ _, State.rn_put_ne _ _ _ _ _ _ (by decide), fun _ => State.fld_put_same _ _ _ _ _ hm (by decide)⟩
  · exact ⟨rfl, rfl, rfl, fun h => absurd h ‹_›⟩

/-- The stacks have been trained and filled. -/
theorem exec_hbmFillDone_filled (hm : s.memWf = true) (h0 : s.bit Reg.MEM_STAT 0 = false) (hf : s.hbm.failed = false)
    (hv : (s.takeFree 1).1 ≠ 1) :
    ∃ t, exec .hbmFillDone s = .next t ∧ t.bit Reg.MEM_STAT 0 = true ∧ (∀ a n, t.hbmRead a n = List.replicate n 0) ∧
      (∀ a, t.hbmMark a = 0) ∧ (s.fld Reg.SOW_BOOT_STAT 28 4 = 0 → t.fld Reg.SOW_BOOT_STAT 28 4 = 1) := by
  have hpm : (s.takeFree 1).2.pllLock.memWf = true := (State.pllLock_good _ (Good.records (s := (s.takeFree 1).2) hm)).mem
  have hpf : (s.takeFree 1).2.pllLock.fld Reg.SOW_BOOT_STAT 28 4 = s.fld Reg.SOW_BOOT_STAT 28 4 :=
    congrArg (nfld · 28 4) (State.rn_pllLock (s := (s.takeFree 1).2) (by decide))
  have he : exec .hbmFillDone s = .next (let u := ((s.takeFree 1).2.pllLock.setBit Reg.MEM_STAT 0).hbmZero
      let v := if u.fld Reg.SOW_BOOT_STAT 28 4 = 0 then u.put Reg.SOW_BOOT_STAT 28 4 1 else u
      { v with gln := { v.gln with last := cset 0 v.gln.last 4 v.ftNs } }) := by
    show execHbmFillDone s = _
    rw [execHbmFillDone, h0, hf, if_neg (by simp)]
    dsimp only
    rw [if_neg hv]
  rw [he]
  generalize (s.takeFree 1).2.pllLock = r at hpm hpf
  have hum : (r.setBit Reg.MEM_STAT 0).hbmZero.memWf = true :=
    (State.hbmZero_good _ (State.setBit_good _ _ _ (Good.times hpm)) rfl).mem
  have hur : (r.setBit Reg.MEM_STAT 0).hbmZero.rn Reg.SOW_BOOT_STAT = r.rn Reg.SOW_BOOT_STAT := by
    rw [State.rn_of_regs State.hbmZero_regs, State.rn_setBit_ne _ _ _ _ (by decide)]
  have hub : (r.setBit Reg.MEM_STAT 0).hbmZero.rn Reg.MEM_STAT = (r.setBit Reg.MEM_STAT 0).rn Reg.MEM_STAT :=
    State.rn_of_regs State.hbmZero_regs
  have huz := fun a n => State.hbmZero_zero (s := r.setBit Reg.MEM_STAT 0) (n := n) a
  dsimp only
  generalize (r.setBit Reg.MEM_STAT 0).hbmZero = u at hum hur hub huz
  obtain ⟨v, hv, hh, hecc, hb, hl⟩ := State.bootLoads hum
  rw [hv]
  refine ⟨_, rfl, ?_, fun a n => ?_, fun a => ?_, fun h => ?_⟩
  · exact (congrArg (Nat.testBit · 0) (hb.trans hub)).trans (State.bit_setBit _ _ _ hpm (by decide))
  · exact (congrArg (fun x : HbmMem => cgetList 0 x.mem a n) hh).trans (huz a n).1
  · exact (congrArg (fun x => cget 0 x (eccKey Item.hbmWord (eccWord a))) hecc).trans (huz a 0).2
  · exact hl ((congrArg (nfld · 28 4) hur).trans (hpf.trans h))

/-! ## Remap entries (R152) -/

theorem exec_remapActivate_running (h : s.holder Res.pcs pc = some p) (hr : s.plotRuns p = true) :
    ∃ t, exec (.remapActivate pc k) s = .next t ∧ (pc, k) ∈ t.hbm.ready ∧ t.regs = s.regs := by
  have hp : s.pcRuns pc = true := by
    rw [State.pcRuns, h]
    exact hr
  refine ⟨{ s with hbm := { s.hbm with ready := s.hbm.ready.filter (· != (pc, k)) ++ [(pc, k)] } }, ?_, ?_, rfl⟩
  · show execRemapActivate pc k s = _
    rw [execRemapActivate, if_pos hp]
  · exact List.mem_append_right _ (List.mem_singleton_self _)

/-- The switch of an entry changes no VALID bit. -/
theorem State.bit_remapActive_valid {q i : Nat} (hm : s.memWf = true) (hq : remapReg (Reg.MEM_PC_REMAP q i)) :
    (s.remapActive pc k).bit (Reg.MEM_PC_REMAP q i) 31 = s.bit (Reg.MEM_PC_REMAP q i) 31 := by
  unfold State.remapActive
  split
  · generalize hu : s.remapCopy pc _ = u
    have hum : u.memWf = true := hu ▸ (State.remapCopy_good _ _ _ (Good.times hm) rfl rfl).mem
    have hur : u.rn (Reg.MEM_PC_REMAP q i) = s.rn (Reg.MEM_PC_REMAP q i) :=
      hu ▸ (State.Spares.remapCopy (R := True) .refl).regs trivial _ hq
    have hst : Reg.MEM_PC_REMAP q i ≠ Reg.MEM_PC_STAT pc := by unfold remapReg at hq; unfold Reg.MEM_PC_STAT; omega
    have hr : ((u.setBit (Reg.MEM_PC_REMAP pc k) 30).raiseMem pc 7 0 (s.holder Res.pcs pc) 0).rn (Reg.MEM_PC_REMAP q i) =
        (u.setBit (Reg.MEM_PC_REMAP pc k) 30).rn (Reg.MEM_PC_REMAP q i) :=
      State.rn_raise_ne (notedReg_of_remapReg hq) (by decide) hst
    rw [State.bit, hr, State.bit, ← hur]
    by_cases he : Reg.MEM_PC_REMAP q i = Reg.MEM_PC_REMAP pc k
    · rw [he]
      exact (State.bit_put _ _ _ _ _ _ hum (by decide)).trans (if_neg (by decide))
    · rw [State.rn_setBit_ne _ _ _ _ he]
  · rfl

/-- A valid entry is active after its switch. -/
theorem State.bit_remapActive (hm : s.memWf = true) (hq : remapReg (Reg.MEM_PC_REMAP pc k))
    (hv : s.bit (Reg.MEM_PC_REMAP pc k) 31 = true) : (s.remapActive pc k).bit (Reg.MEM_PC_REMAP pc k) 30 = true := by
  unfold State.remapActive
  cases ha : s.bit (Reg.MEM_PC_REMAP pc k) 30 with
  | true =>
    rw [hv, if_neg (by decide)]
    exact ha
  | false =>
    rw [hv, if_pos (by decide)]
    have hst : Reg.MEM_PC_REMAP pc k ≠ Reg.MEM_PC_STAT pc := by unfold remapReg at hq; unfold Reg.MEM_PC_STAT; omega
    have hum := (State.remapCopy_good s pc (s.fld (Reg.MEM_PC_REMAP pc k) 0 22) (Good.times hm) rfl rfl).mem
    exact (congrArg (Nat.testBit · 30) (State.rn_raise_ne (notedReg_of_remapReg hq) (by decide) hst)).trans
      (State.bit_setBit _ _ _ hum (by decide))

/-- A copied row becomes active at once where no running plot owns its pseudo-channel. -/
theorem exec_remapActivate_free (hm : s.memWf = true) (h : ∀ p, s.holder Res.pcs pc = some p → s.plotRuns p = false)
    (hpc : pc < 64) (hk : k < 32) (hv : s.bit (Reg.MEM_PC_REMAP pc k) 31 = true) :
    ∃ t, exec (.remapActivate pc k) s = .next t ∧ t.bit (Reg.MEM_PC_REMAP pc k) 30 = true := by
  have hq := remapReg_entry hpc hk
  obtain ⟨hrm, hrv⟩ : (s.remapReady pc).memWf = true ∧ (s.remapReady pc).bit (Reg.MEM_PC_REMAP pc k) 31 = true := by
    unfold State.remapReady
    refine foldl_inv (P := fun t : State => t.memWf = true ∧ t.bit (Reg.MEM_PC_REMAP pc k) 31 = true) ⟨hm, hv⟩
      fun t e _ ht => ⟨?_, ?_⟩
    · exact (State.remapActive_good _ _ _ (Good.times ht.1) rfl rfl).mem
    · exact (State.bit_remapActive_valid ht.1 hq).trans ht.2
  refine ⟨_, ?_, State.bit_remapActive hrm hq hrv⟩
  show execRemapActivate pc k s = _
  rw [execRemapActivate, State.pcRuns_eq_false h]
  rfl

/-! ## The patrol (R465) -/

/-- No injection is armed and no copy of a control triple is upset. -/
def State.Calm (s : State) : Prop := s.inject = [] ∧ s.gln.upset = []

theorem Quiet.ecc (h : Quiet s t) : t.ecc = s.ecc := congrArg (a₁ := t.core) (a₂ := s.core) State.ecc h

theorem Quiet.calm (h : Quiet s t) (hc : s.Calm) : t.Calm :=
  ⟨(congrArg (a₁ := t.core) (a₂ := s.core) State.inject h).trans hc.1,
    (congrArg (a₁ := t.core) (a₂ := s.core) (·.gln.upset) h).trans hc.2⟩

theorem State.Calm.useTriple {reg : Nat} (h : s.Calm) : s.useTriple reg = s := if_pos h

theorem State.Calm.memInject {plot : Option Nat} {sched : Bool} (h : s.Calm) : s.memInject addr plot n sched = s := by
  rw [State.memInject, State.glnTouchHbm, State.glnMeet, if_pos h.1, State.injectAt, if_pos h.1]

theorem State.rn_setGln {x : GlnSt} {a : Nat} : ({ s with gln := x } : State).rn a = s.rn a := rfl

theorem State.Calm.bucket {cls reg : Nat} (h : s.Calm) :
    Quiet s (s.bucket cls reg) ∧ ∀ a, a ≠ reg → (s.bucket cls reg).rn a = s.rn a := by
  unfold State.bucket
  rw [h.useTriple]
  dsimp only
  split
  · exact ⟨rfl, fun _ _ => rfl⟩
  · split
    · exact ⟨quiet_updSpilt (State.put_quiet s reg 0 16 0 rfl), fun _ ha => State.rn_setGln.trans (State.rn_put_ne _ _ _ _ _ _ ha)⟩
    · exact ⟨State.put_quiet s reg 0 16 _ rfl, fun _ ha => State.rn_put_ne _ _ _ _ _ _ ha⟩

/-- A saturating counter counts by 1. -/
theorem State.rn_count_self {c o : Nat} (hm : s.memWf = true)
    (ho : (findCnt CntRow.base c cntRows).map (fun x => (x.1.ovfAt x.2).1) = some o) (hc : c ≠ o) : (s.count c).rn c = min (s.rn c + 1) 0xffffffff := by
  have hv : (s.rnSet c (min (s.rn c + 1) 0xffffffff)).rn c = min (s.rn c + 1) 0xffffffff :=
    (State.rn_rnSet_same _ _ _ hm).trans (Nat.mod_eq_of_lt ((Nat.min_le_right _ _).trans_lt (by decide)))
  unfold State.count State.countBy
  rw [if_neg (by decide)]
  dsimp only
  split
  · exact hv
  · split
    · rename_i r is hf
      rw [State.rn_setBit_ne _ _ _ _ fun e => hc (by rw [hf] at ho; exact e.trans (Option.some.inj ho))]
      exact hv
    · exact hv

/-- Counters that stand in an array with a register of OVF bits each. -/
theorem countsAt_array {a i m st : Nat} {r : CntRow} (hr : r ∈ cntRows) (hd : r.dims = [(m, st)]) (hs : r.ovfStride = [st])
    (hst : 0 < st) (hi : i < m) : countsAt (r.base + st * i) a ↔ a = r.base + st * i ∨ a = r.ovf + st * i := by
  have hx : dimIdx r.dims (st * i) = some [i] := by
    rw [hd, dimIdx, Nat.mul_div_cancel_left _ hst, if_pos hi, Nat.mul_mod_right]
    rfl
  rw [countsAt_iff (findCnt_base cntRows_apart cntRows_base_ne_zero hr hx), CntRow.ovfAt, hs]
  simp [dotIdx, Nat.mul_comm]

theorem not_countsAt_ceCnt {a : Nat} (hpc : pc < 64) (ha : a < 0xa0000) : ¬ countsAt (Reg.MEM_PC_CE_CNT pc) a := by
  have h := countsAt_array (a := a) (r := ⟨0xa0010, [(64, 0x200)], 0xa0014, 0xa0008, [0x200], 0, false⟩) (by decide +kernel)
    rfl rfl (by decide) hpc
  rw [Reg.MEM_PC_CE_CNT, h]
  dsimp only
  omega

theorem not_countsAt_poisonCnt {a : Nat} (hp : p < 16) (ha : 0xa0000 ≤ a) : ¬ countsAt (Reg.PLT_MEM_POISON_CNT p) a := by
  have h := countsAt_array (a := a) (r := ⟨0x400d8, [(16, 0x400)], 0x400dc, 0x400d4, [0x400], 3, false⟩) (by decide +kernel)
    rfl rfl (by decide) hp
  rw [Reg.PLT_MEM_POISON_CNT, h]
  dsimp only
  omega

theorem pcOf_lt (h : addr < hbmBytes) : pcOf addr < 64 := by
  unfold pcOf mib2
  unfold hbmBytes at h
  omega

theorem State.addrPlot_lt (h : s.addrPlot addr = some p) : p < 16 := by
  obtain ⟨x, hx, rfl⟩ := Option.map_eq_some_iff.1 h
  exact State.pageHolder_lt hx

/-- A request of a remap entry writes a remap entry, or notes that they are all in use. -/
theorem State.rn_remapRequest {a row : Nat} (hn : notedReg a = false) (ha : a < 0xa0000) (hs : a ≠ Reg.GLN_STAT) :
    (s.remapRequest pc row).rn a = s.rn a := by
  unfold State.remapRequest
  dsimp only
  split
  · rfl
  · split
    · exact State.rn_rnSet_ne _ _ _ _ (by unfold Reg.MEM_PC_REMAP; omega)
    · exact State.rn_raise_ne hn (by decide) hs

theorem State.bit_remapRequest {row i : Nat} (hm : s.memWf = true) (hb : s.bit Reg.GLN_STAT i = true) (hi : i < 32) :
    (s.remapRequest pc row).bit Reg.GLN_STAT i = true := by
  unfold State.remapRequest
  dsimp only
  split
  · exact hb
  · split
    · refine (congrArg (Nat.testBit · i) (State.rn_rnSet_ne _ _ _ _ ?_)).trans hb
      unfold Reg.GLN_STAT Reg.MEM_PC_REMAP
      omega
    · refine (congrArg (Nat.testBit · i) (State.rn_raise (by decide +kernel) (by decide))).trans ?_
      refine (State.bit_put _ _ _ _ _ _ hm hi).trans ?_
      split
      · rename_i h9
        rw [show i = 9 by omega]
        rfl
      · exact hb

theorem State.Calm.memEvent {plot : Option Nat} (h : s.Calm) : Quiet s (s.memEvent 0 addr plot n) := by
  have hq := State.count_quiet _ (Reg.MEM_PC_CE_CNT (pcOf addr))
    (State.raiseMem_quiet (κ := s) s (pcOf addr) 0 (pcOffset addr) plot n rfl)
  exact Eq.trans (Quiet.calm hq h).bucket.1 hq

theorem findCnt_glnCnt2 : (findCnt CntRow.base (Reg.GLN_CNT 2) cntRows).map (fun x => (x.1.ovfAt x.2).1) = some Reg.GLN_OVF := by
  decide +kernel

theorem findCnt_glnCnt3 : (findCnt CntRow.base (Reg.GLN_CNT 3) cntRows).map (fun x => (x.1.ovfAt x.2).1) = some Reg.GLN_OVF := by
  decide +kernel

theorem State.Calm.rowCount {a : Nat} (h : s.Calm) (hn : notedReg a = false) (ha : a < 0xa0000) (hs : a ≠ Reg.GLN_STAT) :
    (s.rowCount addr).ecc = s.ecc ∧ (s.rowCount addr).rn a = s.rn a := by
  unfold State.rowCount
  rw [h.useTriple]
  dsimp only
  generalize hu : ({ s with hbm := { s.hbm with rows := _ } } : State) = u
  have hecc : u.ecc = s.ecc := by rw [← hu]
  have hrn : u.rn a = s.rn a := by rw [← hu, State.rn_setHbm]
  split
  · exact ⟨(Quiet.ecc (State.remapRequest_quiet u _ _ rfl)).trans hecc, (State.rn_remapRequest hn ha hs).trans hrn⟩
  · exact ⟨hecc, hrn⟩

/-- What the patrol does with a word that has a single-bit error (R465). -/
def State.patrolFixed (s : State) (addr : Nat) (p : Option Nat) (n : Nat) : State :=
  (((s.memCe addr p n).hbmMarkSet addr 0).unsuspect addr).count (Reg.GLN_CNT 2)

/-- What the patrol does with an uncorrectable word (R465, R466). -/
def State.patrolLost (s : State) (addr : Nat) (p : Option Nat) (n : Nat) : State :=
  let s1 := (((s.memUe addr p n).poison addr p n).raiseGln 3 6 (addr / 256) p).count (Reg.GLN_CNT 3)
  if s1.remapAuto then s1.remapRequest (pcOf addr) (rowOf addr) else s1

theorem State.dataLoss_ecc : (s.dataLoss addr p n).ecc = s.ecc := by
  have hq : ∀ body, Quiet s (((s.setBit (Reg.PLT_MEM_STAT p) 2).plotInt p 0).record 0x13 1 (some p) n body) := fun body =>
    State.record_quiet _ _ _ _ _ body (State.plotInt_quiet _ p 0 (State.setBit_quiet s (Reg.PLT_MEM_STAT p) 2 rfl))
  unfold State.dataLoss
  dsimp only
  split
  · exact (State.onCmt_ecc _ _ _).trans (Quiet.ecc (hq _))
  · exact Quiet.ecc (hq _)

theorem State.poison_ecc {p : Option Nat} : (s.poison addr p n).ecc = cset 0 s.ecc (eccKey Item.hbmWord (eccWord addr)) 3 := by
  have h1 : (((s.hbmMarkSet addr 3).unsuspect addr).raiseMem (pcOf addr) 2 (pcOffset addr) p n).ecc =
      cset 0 s.ecc (eccKey Item.hbmWord (eccWord addr)) 3 := Quiet.ecc (State.raiseMem_quiet _ _ _ _ _ _ rfl)
  unfold State.poison
  dsimp only
  split
  · exact (Quiet.ecc (State.record_quiet _ _ _ _ _ _ rfl)).trans h1
  · exact State.dataLoss_ecc.trans h1

theorem State.hbmMark_of_ecc {v : Nat} (hw : cellsWf 0 s.ecc = true)
    (h : t.ecc = cset 0 s.ecc (eccKey Item.hbmWord (eccWord addr)) v) : t.hbmMark addr = v := by
  rw [State.hbmMark, State.eccAt, h, cget_cset hw, if_pos rfl]

section
variable (hm : s.memWf = true) (hc : s.Calm) (hw : cellsWf 0 s.ecc = true) (ha : addr < hbmBytes)
include hm hc ha

include hw in
/-- A single-bit error is corrected and counted. -/
theorem State.patrolWord_single (hmark : s.hbmMark addr = 1) : (s.patrolWord addr).2.hbmMark addr = 0 ∧
    (s.patrolWord addr).2.rn (Reg.GLN_CNT 2) = min (s.rn (Reg.GLN_CNT 2) + 1) 0xffffffff := by
  have he : (s.patrolWord addr).2 = s.patrolFixed addr (s.addrPlot addr) (s.pnOf (s.addrPlot addr)) := by
    rw [State.patrolWord, hc.memInject, hc.useTriple]
    dsimp only
    rw [hmark]
    rfl
  rw [he, State.patrolFixed]
  generalize s.pnOf _ = n
  generalize s.addrPlot addr = p
  have hn : notedReg (Reg.GLN_CNT 2) = false := by decide +kernel
  have hev := State.Calm.memEvent (addr := addr) (plot := p) (n := n) hc
  obtain ⟨hre, hrr⟩ := (hev.calm hc).rowCount (addr := addr) hn (by decide) (by decide)
  have hecc : (s.memCe addr p n).ecc = s.ecc := hre.trans hev.ecc
  have hrn : (s.memCe addr p n).rn (Reg.GLN_CNT 2) = s.rn (Reg.GLN_CNT 2) := by
    have hq : Quiet s ((s.raiseMem (pcOf addr) 0 (pcOffset addr) p n).count (Reg.MEM_PC_CE_CNT (pcOf addr))) :=
      State.count_quiet _ _ (State.raiseMem_quiet s _ _ _ _ _ rfl)
    refine hrr.trans (((hq.calm hc).bucket.2 _ ?_).trans ((State.rn_count (not_countsAt_ceCnt (pcOf_lt ha) (by decide))).trans
      (State.rn_raise_ne hn (by decide) ?_)))
    · unfold Reg.GLN_CNT Reg.MEM_PC_CE_BUCKET; omega
    · unfold Reg.GLN_CNT Reg.MEM_PC_STAT; omega
  have hum : (((s.memCe addr p n).hbmMarkSet addr 0).unsuspect addr).memWf = true :=
    (State.memCe_good s addr p n (Good.times hm)).mem
  refine ⟨State.hbmMark_of_ecc hw ((Quiet.ecc (State.count_quiet _ _ rfl)).trans ?_), ?_⟩
  · rw [← hecc]
    rfl
  · rw [State.rn_count_self hum findCnt_glnCnt2 (by decide), ← hrn]
    rfl

omit ha

include hw in
/-- An uncorrectable word is poisoned, and the Gleaner notes it. -/
theorem State.patrolWord_double (hmark : s.hbmMark addr = 2) : (s.patrolWord addr).2.hbmMark addr = 3 ∧
    (s.patrolWord addr).2.bit Reg.GLN_STAT 3 = true := by
  have he : (s.patrolWord addr).2 = s.patrolLost addr (s.addrPlot addr) (s.pnOf (s.addrPlot addr)) := by
    rw [State.patrolWord, hc.memInject, hc.useTriple]
    dsimp only
    rw [hmark]
    rfl
  rw [he, State.patrolLost]
  generalize s.pnOf _ = n
  generalize s.addrPlot addr = p
  generalize hu : (s.memUe addr p n).poison addr p n = u
  have hum : u.memWf = true := hu ▸ (State.poison_good _ _ _ _ (State.memUe_good s addr p n (Good.times hm)) rfl).mem
  have hue : u.ecc = cset 0 s.ecc (eccKey Item.hbmWord (eccWord addr)) 3 := by
    rw [← hu, State.poison_ecc, Quiet.ecc (State.memUe_quiet s addr p n rfl)]
  generalize hv : (u.raiseGln 3 6 (addr / 256) p).count (Reg.GLN_CNT 3) = v
  have hvm : v.memWf = true := hv ▸ (State.count_good _ _ (State.raiseGln_good u _ _ _ _ (Good.times hum))).mem
  have hve : v.ecc = cset 0 s.ecc (eccKey Item.hbmWord (eccWord addr)) 3 :=
    hv ▸ (Quiet.ecc (State.count_quiet _ _ (State.raiseGln_quiet u _ _ _ _ rfl))).trans hue
  have hvb : v.bit Reg.GLN_STAT 3 = true := by
    rw [← hv, State.bit, State.rn_count (not_countsAt_of_map findCnt_glnCnt3 (by decide) (by decide)), State.raiseGln,
      State.rn_raise (by decide +kernel) (by decide)]
    exact State.bit_setBit _ _ _ hum (by decide)
  split
  · exact ⟨State.hbmMark_of_ecc hw ((Quiet.ecc (State.remapRequest_quiet v _ _ rfl)).trans hve),
      State.bit_remapRequest hvm hvb (by decide)⟩
  · exact ⟨State.hbmMark_of_ecc hw hve, hvb⟩

include ha in
/-- A poisoned word stays poisoned, and its pseudo-channel notes the read. -/
theorem State.patrolWord_poisoned (hmark : s.hbmMark addr = 3) : (s.patrolWord addr).2.hbmMark addr = 3 ∧
    (s.patrolWord addr).2.bit (Reg.MEM_PC_STAT (pcOf addr)) 3 = true := by
  have he : (s.patrolWord addr).2 = s.poisonRead addr (s.addrPlot addr) (s.pnOf (s.addrPlot addr)) := by
    rw [State.patrolWord, hc.memInject, hc.useTriple]
    dsimp only
    rw [hmark]
    rfl
  rw [he]
  have hpc := pcOf_lt ha
  have hn : notedReg (Reg.MEM_PC_STAT (pcOf addr)) = false :=
    notedReg_of_pcReg (by unfold Reg.MEM_PC_STAT; omega) (by unfold Reg.MEM_PC_STAT; omega)
  have hb : ∀ p n, (s.raiseMem (pcOf addr) 3 (pcOffset addr) p n).bit (Reg.MEM_PC_STAT (pcOf addr)) 3 = true := fun p n =>
    (congrArg (Nat.testBit · 3) (State.rn_raise hn (by decide))).trans (State.bit_setBit _ _ _ hm (by decide))
  refine ⟨(congrArg (fun x => cget 0 x (eccKey Item.hbmWord (eccWord addr)))
    (Quiet.ecc (State.poisonRead_quiet s addr _ _ rfl))).trans hmark, ?_⟩
  unfold State.poisonRead
  dsimp only
  split
  · refine (congrArg (Nat.testBit · 3) (State.rn_count (not_countsAt_poisonCnt (State.addrPlot_lt ‹_›) ?_))).trans (hb _ _)
    unfold Reg.MEM_PC_STAT; omega
  · exact hb _ _

end

/-- The patrol waits for the steps of a pass that nears its end. -/
theorem exec_hbmPatrolRead_held (hc : s.Calm) (h : s.accessHeld pc = true) : exec (.hbmPatrolRead pc) s = .next s := by
  show execHbmPatrolRead pc s = _
  rw [execHbmPatrolRead, hc.useTriple]
  dsimp only
  rw [if_pos (.inr (.inr h))]

/-- A patrol read leaves what its word led to, and goes on to the next word. -/
theorem exec_hbmPatrolRead (hm : s.memWf = true) (hc : s.Calm) (hr : s.fld Reg.GLN_HBM_RATE 0 16 ≠ 0)
    (hsr : s.hbm.selfRefresh = false) (hp : s.pwrState = 0) (hst : s.hbmStatus = 0)
    (hpc : pcOf (s.rn64 Reg.GLN_HBM_POS_LO) = pc) (h : s.accessHeld pc = false) :
    ∃ t, exec (.hbmPatrolRead pc) s = .next t ∧ t.rn64 Reg.GLN_HBM_POS_LO =
        (if hbmBytes ≤ s.rn64 Reg.GLN_HBM_POS_LO + 8 then 0 else s.rn64 Reg.GLN_HBM_POS_LO + 8) ∧
      t.ecc = (s.patrolWord (s.rn64 Reg.GLN_HBM_POS_LO)).2.ecc ∧
      ∀ a, a ≠ Reg.GLN_HBM_POS_LO → a ≠ Reg.GLN_HBM_POS_LO + 4 →
        t.rn a = (s.patrolWord (s.rn64 Reg.GLN_HBM_POS_LO)).2.rn a := by
  have hruns : s.patrolRuns = true := by
    simp [State.patrolRuns, hr, hsr, hp, hst]
  generalize hx : s.rn64 Reg.GLN_HBM_POS_LO = addr at hpc
  generalize hw : (s.patrolWord addr).2 = w
  have hwm : w.memWf = true := hw ▸ (State.patrolWord_good s addr (Good.times hm) rfl rfl).mem
  generalize hn : (if hbmBytes ≤ addr + 8 then 0 else addr + 8) = next
  have hlt : next < 2 ^ 64 := by
    rw [← hn]; unfold hbmBytes; split <;> omega
  have he : exec (.hbmPatrolRead pc) s = .next (let u := if next = 0 then { w with hbm := { w.hbm with
        rows := (w.hbm.rows.map fun e => (e.1, e.2.1, e.2.2 / 2)).filter fun e => e.2.2 != 0 } } else w
      let v := u.rnSet64 Reg.GLN_HBM_POS_LO next
      { v with gln := { v.gln with last := cset 0 v.gln.last 4 v.ftNs } }) := by
    show execHbmPatrolRead pc s = _
    rw [execHbmPatrolRead, hc.useTriple]
    dsimp only
    rw [hx, hruns, h, hpc, if_neg (by simp), hw, hn]
  rw [he]
  dsimp only
  generalize hu : (if next = 0 then _ else w) = u
  obtain ⟨hum, huecc, hur⟩ : u.memWf = true ∧ u.ecc = w.ecc ∧ ∀ a, u.rn a = w.rn a := by
    rw [← hu]
    split
    · exact ⟨hwm, rfl, fun _ => rfl⟩
    · exact ⟨hwm, rfl, fun _ => rfl⟩
  generalize hv : u.rnSet64 Reg.GLN_HBM_POS_LO next = v
  have hvr : ∀ a, a ≠ Reg.GLN_HBM_POS_LO → a ≠ Reg.GLN_HBM_POS_LO + 4 → v.rn a = u.rn a := fun a hlo hhi =>
    hv ▸ State.rn_rnSet64_ne hlo hhi
  have hv64 : v.rn64 Reg.GLN_HBM_POS_LO = next := hv ▸ State.rn64_rnSet64 hum hlt
  have hvecc : v.ecc = u.ecc := hv ▸ rfl
  exact ⟨_, rfl, hv64, hvecc.trans huecc, fun a hlo hhi => (hvr a hlo hhi).trans (hur a)⟩

end

/-- Settles O13: drains, refresh, fill, remap entries and the patrol of the HBM controllers. -/
theorem controllersDrainRefreshAndPatrol : Obligations.ControllersDrainRefreshAndPatrol := by
  unfold Obligations.ControllersDrainRefreshAndPatrol
  refine ⟨fun s pc hm => ⟨exec_drain_idle, fun before after e hw hb hpc hc hst hd =>
    exec_drain_oldest hm hw hb hpc hc hst hd⟩, fun s pc k hm => ⟨exec_autonomousRefresh, fun h0 hf => ?_,
      fun p => exec_remapActivate_running, fun h hpc hk hv => exec_remapActivate_free hm h hpc hk hv,
      fun hu hi => exec_hbmPatrolRead_held ⟨hi, hu⟩, fun hu hi hr hsr hp hst hpc h => ?_⟩⟩
  · by_cases hv : (s.takeFree 1).1 = 1
    · obtain ⟨t, he, hb, hs, hmem⟩ := exec_hbmFillDone_failed hm h0 hf hv
      exact ⟨t, he, .inr ⟨hb, hs, hmem⟩⟩
    · obtain ⟨t, he, hb, hz, hmark, hl⟩ := exec_hbmFillDone_filled hm h0 hf hv
      exact ⟨t, he, .inl ⟨hb, hz, hmark, hl⟩⟩
  · have hc : s.Calm := ⟨hi, hu⟩
    obtain ⟨t, he, hpos, hecc, hrn⟩ := exec_hbmPatrolRead hm hc hr hsr hp hst hpc h
    have hmark : ∀ a, t.hbmMark a = (s.patrolWord (s.rn64 Reg.GLN_HBM_POS_LO)).2.hbmMark a := fun a =>
      congrArg (fun x => cget 0 x (eccKey Item.hbmWord (eccWord a))) hecc
    refine ⟨t, he, hpos, fun hw ha => ⟨fun h1 => ?_, fun h2 => ?_, fun h3 => ?_⟩⟩
    · rw [hmark, hrn _ (by decide) (by decide)]
      exact State.patrolWord_single hm hc hw ha h1
    · rw [hmark, State.bit, hrn _ (by decide) (by decide)]
      exact State.patrolWord_double hm hc hw h2
    · rw [hmark, State.bit, hrn _ (by unfold Reg.MEM_PC_STAT Reg.GLN_HBM_POS_LO; omega)
        (by unfold Reg.MEM_PC_STAT Reg.GLN_HBM_POS_LO; omega), ← hpc]
      exact State.patrolWord_poisoned hm hc ha h3

end Sys2Proof.Machine

end

section

/-!
# Extensions of a headland, and the pass that follows

PROVES O10 (spec R26-R31, R36, R194).
-/

namespace Sys2Proof.Machine
open Sys2Proof

section
variable {s t u : State} {p n k : Nat}

/-! ## The course of a plot -/

/-- What the end of a headland depends on: its extensions, the pass, and the discarded passes. -/
def Plot.course (x : Plot) : Headland × Nat × Option (Nat × Nat) := (x.tm.hl, x.tm.pn, x.cmt.discarded)

theorem State.Reads.onTm {β : Type} {g : Plot → β} {f : TimeSt → TimeSt} (h : State.Reads g s t)
    (hf : ∀ x, g { x with tm := f x.tm } = g x) : State.Reads g s (t.onTm p f) := h.onPlot hf

/-- The time that a part takes moves only the point at which the next one is due. -/
theorem State.Reads.spend {β : Type} {g : Plot → β} (h : State.Reads g s t)
    (hg : ∀ x d, g { x with tm := { x.tm with due := d } } = g x) : State.Reads g s (t.spend p n) :=
  (h.onTm fun x => hg x _).still fun hk => State.waitSteps_good _ _ hk

/-- An operation that leaves the timetables and the discarded passes alone. -/
theorem State.Reads.sparing (h : State.Reads Plot.course s t) (hk : Good (Kept.times t) t → Good (Kept.times t) u)
    (hs : State.Spares False t u) : State.Reads Plot.course s u := by
  have hu := hk (Good.times h.mem)
  refine ⟨hu.mem, fun q => Eq.trans ?_ (h.same q)⟩
  rw [Plot.course, Plot.course, hu.tm _ rfl q, (hs.plots h.mem).2 q]

theorem State.Reads.hl (h : State.Reads Plot.course s t) : (t.plot p).tm.hl = (s.plot p).tm.hl := congrArg (·.1) (h.same p)

theorem State.Reads.nextPass (h : State.Reads Plot.course s t) : t.nextPass p = s.nextPass p := by
  have hpn : (t.plot p).tm.pn = (s.plot p).tm.pn := congrArg (·.2.1) (h.same p)
  have hd : (t.plot p).cmt.discarded = (s.plot p).cmt.discarded := congrArg (·.2.2) (h.same p)
  rw [State.nextPass, State.nextPass, hpn, hd]

/-! ## The next pass -/

/-- Where a plot stands, and in which pass. -/
def Plot.place (x : Plot) : Phase × Nat := (x.tm.phase, x.tm.pn)

theorem State.Reads.places (h : State.Reads Plot.place s t) (hk : Good (Kept.times t) t → Good (Kept.times t) u) :
    State.Reads Plot.place s u := by
  have hu := hk (Good.times h.mem)
  refine ⟨hu.mem, fun q => Eq.trans ?_ (h.same q)⟩
  rw [Plot.place, Plot.place, hu.tm _ rfl q]

/-- The request for a stretch moves no plot. -/
theorem State.Reads.askStretch (h : State.Reads Plot.place s t) : State.Reads Plot.place s (t.askStretch p) := by
  unfold State.askStretch
  dsimp only
  split
  · exact h
  · generalize hu : t.wantStretch p _ _ = u
    have hw : State.Reads Plot.place s u := by
      rw [← hu, State.wantStretch]
      split
      · exact h
      · split
        · exact h.places fun hk => State.divergePass_good _ _ _ _ hk rfl rfl
        · exact h.onTm fun _ => rfl
    split
    · exact hw
    · exact (hw.onTm fun _ => rfl).places fun hk => State.flood_good _ _ _ _ hk

/-- A pass begins with its step 0. -/
theorem State.beginPass_place (hm : s.memWf = true) :
    ((s.beginPass p n).plot p).tm.phase = .step 0 ∧ ((s.beginPass p n).plot p).tm.pn = n := by
  unfold State.beginPass
  dsimp only
  generalize hu : s.onPlot p _ = u
  have hum : u.memWf = true := hu ▸ State.onPlot_memWf s p _ hm
  have hup : Plot.place (u.plot p) = (.step 0, n) := by rw [← hu, State.plot_onPlot_self hm]; rfl
  have hr : State.Reads Plot.place u ((((u.recoveryDone p n).clearPass p).sigPassStart p n).askStretch p) :=
    ((State.Reads.refl hum).places fun hk =>
      State.sigPassStart_good _ _ _ (State.clearPass_good _ _ (State.recoveryDone_good _ _ _ hk rfl rfl))).askStretch
  exact Prod.mk.inj ((hr.same p).trans hup)

/-- The headland ends, and the plot neither holds nor stops. -/
theorem State.endHeadland_place (hm : s.memWf = true) (hh : (s.plot p).tm.hl.hold = false)
    (hs : (s.plot p).tm.hl.stop = false) (hd : (s.plot p).tm.hl.div = false) :
    ((s.endHeadland p).plot p).tm.phase = .step 0 ∧ ((s.endHeadland p).plot p).tm.pn = s.nextPass p := by
  unfold State.endHeadland
  dsimp only
  generalize hu : State.putBit _ (Reg.PLT_HL_STAT p) 5 _ = u
  have hg : Good (Kept.records s) u := hu ▸ State.putBit_good _ _ _ _ (State.putBit_good _ _ _ _ (State.putBit_good _ _ _ _
    (State.put_good _ _ _ _ _ (State.put_good _ _ _ _ _ (Good.records hm)))))
  generalize hv : (if (s.plot p).tm.hl.fail then u else u.swapsEnd p (s.plot p).tm.pn) = v
  have hgv : Good (Kept.records s) v := hv ▸ good_ite hg (State.swapsEnd_good _ _ _ hg)
  have hn : v.nextPass p = s.nextPass p := by
    rw [State.nextPass, State.nextPass, State.plot_of_plots (hgv.plots _ rfl)]
  rw [hh, hs, hd, ← hn]
  exact State.beginPass_place hgv.mem

/-- An extension that the headland carries follows. -/
theorem State.extend_eq_toHead {after g : Stage} {hl : Headland} (ht : (t.plot p).tm.hl = hl)
    (hn : nextExt hl after = some g) : t.extend p after = t.toHead p g := by
  rw [State.extend, ht, hn]

theorem State.extend_to {after g : Stage} {hl : Headland} (ht : (t.plot p).tm.hl = hl) (hn : nextExt hl after = some g) :
    (t.extend p after).atHead p g = true := by
  rw [State.extend_eq_toHead ht hn]
  exact State.atHead_toHead t p g

/-- After the last extension the next pass begins. -/
theorem State.extend_next {after : Stage} (hr : State.Reads Plot.course s t)
    (hn : nextExt (s.plot p).tm.hl after = none) (hh : (s.plot p).tm.hl.hold = false)
    (hs : (s.plot p).tm.hl.stop = false) (hd : (s.plot p).tm.hl.div = false) :
    ((t.extend p after).plot p).tm.phase = .step 0 ∧ ((t.extend p after).plot p).tm.pn = s.nextPass p := by
  rw [State.extend, hr.hl, hn, ← hr.nextPass]
  exact State.endHeadland_place hr.mem (hr.hl ▸ hh) (hr.hl ▸ hs) (hr.hl ▸ hd)

/-! ## The pre-emption check (R26, R32) -/

/-- The plan of the headland after its step 23. -/
theorem State.preCheck_hl (hm : s.memWf = true) : (s.preCheck p).memWf = true ∧
    ∃ stop div, ((s.preCheck p).plot p).tm.hl = { (s.plot p).tm.hl with
      stop := stop, div := div, stretch := s.stretchOf p (s.plot p).tm.pn,
      stake := (s.plot p).cmt.stake.isSome && !(s.plot p).tm.hl.replay,
      refresh := (s.refreshPlan p { (s.plot p).tm.hl with
        stake := (s.plot p).cmt.stake.isSome && !(s.plot p).tm.hl.replay,
        stretch := s.stretchOf p (s.plot p).tm.pn }).1 } := by
  have hrm : ∀ v, (s.rnSet (Reg.PLT_REF_REMAIN p) v).memWf = true := fun v => (State.rnSet_good _ _ _ (Good.records hm)).mem
  unfold State.preCheck
  dsimp only
  generalize hu : State.onPlot (s.rnSet (Reg.PLT_REF_REMAIN p) _) p _ = u
  have hum : u.memWf = true := hu ▸ State.onPlot_memWf _ p _ (hrm _)
  generalize hv : List.foldl _ u _ = v
  have hg : Good (Kept.records u) v := hv ▸ good_foldl (fun t e h => State.finishOpt_good t _ _ _ h rfl) (Good.records hum)
  refine ⟨hg.mem, ?_⟩
  rw [State.plot_of_plots (hg.plots _ rfl), ← hu, State.plot_onPlot_self (hrm _)]
  exact ⟨_, _, rfl⟩

theorem exec_preEmptionCheck (hm : s.memWf = true) (h : s.atHead p .check = true) :
    ∃ u : State, exec (.preEmptionCheck p) s = .next (u.extend p .check) ∧ ∃ stop div, (u.plot p).tm.hl =
      { (s.plot p).tm.hl with
        stop := stop, div := div, stretch := s.stretchOf p (s.plot p).tm.pn,
        stake := (s.plot p).cmt.stake.isSome && !(s.plot p).tm.hl.replay,
        refresh := (s.refreshPlan p { (s.plot p).tm.hl with
          stake := (s.plot p).cmt.stake.isSome && !(s.plot p).tm.hl.replay,
          stretch := s.stretchOf p (s.plot p).tm.pn }).1 } := by
  obtain ⟨hpm, stop, div, hhl⟩ := State.preCheck_hl (p := p) hm
  have hr : State.Reads (fun x => x.tm.hl) (s.preCheck p) ((s.preCheck p).spend p (1 + s.vwin p)) :=
    (State.Reads.refl hpm).spend fun _ _ => rfl
  refine ⟨_, ?_, stop, div, (hr.same p).trans hhl⟩
  show execPreEmptionCheck p s = _
  rw [execPreEmptionCheck, if_pos h]

/-! ## The refresh headland (R33) -/

/-- Every channel of a list is refreshed once. -/
theorem cget_foldl_refresh {l : List Nat} (hl : l.Nodup) {c : Cells Nat} {pc : Nat} :
    cget 0 (l.foldl (fun m pc => cset 0 m pc (cget 0 m pc + 1)) c) pc = cget 0 c pc + if pc ∈ l then 1 else 0 := by
  induction l generalizing c with
  | nil => rfl
  | cons a l ih =>
    obtain ⟨ha, hl⟩ := List.nodup_cons.1 hl
    rw [List.foldl_cons, ih hl, cset, if_neg (Nat.succ_ne_zero _)]
    by_cases h : pc = a
    · subst h
      rw [Laws.cget_cput_same, if_neg ha, if_pos List.mem_cons_self]
    · rw [Laws.cget_cput_ne h]
      simp only [List.mem_cons, h, false_or]

/-- A refresh headland refreshes the channels of the plot and leaves its course alone. -/
theorem exec_refreshHeadland (hm : s.memWf = true) (h : s.atHead p .refresh = true) :
    ∃ u : State, exec (.refreshHeadland p) s = .next (u.extend p .refresh) ∧ State.Reads Plot.course s u ∧
      u.hbm.refreshes = (s.plot p).res.pcs.foldl (fun m pc => cset 0 m pc (cget 0 m pc + 1)) s.hbm.refreshes := by
  generalize hl : (s.plot p).res.pcs.foldl (fun m pc => cset 0 m pc (cget 0 m pc + 1)) s.hbm.refreshes = l
  generalize hv : (s.plot p).res.pcs.foldl State.remapReady
    (({ s with hbm := { s.hbm with refreshes := l } } : State).count (Reg.PLT_REFRESH_CNT p)) = v
  have hs : State.Spares False ({ s with hbm := { s.hbm with refreshes := l } } : State) v :=
    hv ▸ State.Spares.foldl (State.Spares.refl.count False.elim) fun _ _ _ ht => ht.remapReady
  have hr : State.Reads Plot.course s v :=
    State.Reads.sparing (t := { s with hbm := { s.hbm with refreshes := l } }) ⟨hm, fun _ => rfl⟩
      (fun hk => hv ▸ good_foldl (fun _ _ ht => State.remapReady_good _ _ ht rfl rfl) (State.count_good _ _ hk)) hs
  refine ⟨v.spend p 720, ?_, hr.spend fun _ _ => rfl, ?_⟩
  · show execRefreshHeadland p s = _
    rw [execRefreshHeadland, if_pos h]
    dsimp only
    rw [hl, hv]
  · rw [State.spend_hbm, hs.refreshes]

/-! ## The stake slice (R207) -/

theorem exec_stakeSlice (hm : s.memWf = true) (h : s.atHead p .stake = true) {r : StakeRun}
    (hr : (s.plot p).cmt.stake = some r) (hn : r.slices + 1 < s.fld (Reg.PLT_STAKE_CFG p) 0 16) :
    ∃ (u : State) (r' : StakeRun), exec (.stakeSlice p) s = .next (u.extend p .stake) ∧ u.memWf = true ∧
      (u.plot p).tm.hl = (s.plot p).tm.hl ∧ (u.plot p).cmt.stake = some r' ∧ r'.slices = r.slices + 1 ∧ r'.copy = r.copy := by
  generalize hr1 : ({ r with slices := r.slices + 1, body := r.body + s.sliceLen p * 8 * s.stakeChannels p } : StakeRun) = r1
  generalize hu : s.onCmt p (fun c => { c with stake := some r1 }) = u
  have hum : u.memWf = true := hu ▸ State.onPlot_memWf s p _ hm
  have hup : u.plot p = { s.plot p with cmt := { (s.plot p).cmt with stake := some r1 } } := by
    rw [← hu, State.onCmt, State.plot_onPlot_self hm]
  generalize hv : State.stakeWrite (((s.plot p).cmt.extra.filter fun e => e.1 == r.copy.pn).foldl (fun s' e => s'.onCmd e.2
    fun c => { c with pos := r1.slices, total := s.fld (Reg.PLT_STAKE_CFG p) 0 16 })
    (u.put (Reg.PLT_STAKE_STAT p) 13 16 r1.slices)) p r r1 = v
  have hg : Good (Kept.records u) v := by
    rw [← hv]
    refine State.stakeWrite_good _ _ _ _ (good_foldl (fun t e ht => ?_) (State.put_good u (Reg.PLT_STAKE_STAT p) 13 16 r1.slices
      (Good.records hum))) rfl
    exact State.onCmd_good t e.2 _ ht (fun _ => rfl) rfl
  have hrd : State.Reads (fun x => (x.tm.hl, x.cmt.stake)) u (v.spend p (s.sliceLen p)) :=
    ((State.Reads.refl hum).still fun _ => hg).spend fun _ _ => rfl
  obtain ⟨hhl, hst⟩ := Prod.mk.inj (hrd.same p)
  rw [hup] at hhl hst
  refine ⟨_, r1, ?_, hrd.mem, hhl, hst, hr1 ▸ rfl, hr1 ▸ rfl⟩
  show execStakeSlice p s = _
  rw [execStakeSlice, if_pos h, hr]
  dsimp only
  rw [if_neg (Nat.not_le.2 hn), ← hv, ← hu, ← hr1]

/-! ## What a replay turn leaves alone (R61, R94, R142, R171) -/

section
variable {κ : State} {phys cause loc st b base ver : Nat}

theorem State.Spares.furError (h : State.Spares False κ s) : State.Spares False κ (s.furError p phys cause loc k) :=
  (h.raise False.elim).passError False.elim

theorem State.Spares.furCe {plot : Option Nat} (h : State.Spares False κ s) :
    State.Spares False κ (s.furCe phys cause loc plot n) :=
  ((h.raise False.elim).count False.elim).bucket False.elim

theorem State.Spares.idleCause (h : State.Spares False κ s) : State.Spares False κ (s.idleCause p phys cause st b) := by
  have hc : State.Spares False κ (s.furCause p phys cause st b) := h.furError.ite (h.furCe.ite (h.raise False.elim))
  exact hc.ite (h.furCe.ite (h.raise False.elim))

theorem State.Spares.glnTouch {plot : Option Nat} {read : Nat → Nat → Bool} (h : State.Spares False κ s) :
    State.Spares False κ (s.glnTouch plot read) := by
  refine h.glnMeet fun a bits t ht => ?_
  split
  · exact State.Spares.ite (ht.of_eq rfl rfl rfl rfl id) ht.upsetItem
  · exact ht

theorem State.Spares.ramCheck (h : State.Spares False κ s) : State.Spares False κ (s.ramCheck p phys base st).2 := by
  unfold State.ramCheck
  dsimp only
  split
  · exact h.glnTouch
  · exact h.glnTouch.idleCause.eccSet
  · exact h.glnTouch.idleCause

theorem State.Spares.ramMerge (h : State.Spares False κ s) : State.Spares False κ (s.ramMerge p phys base st) := by
  unfold State.ramMerge
  dsimp only
  exact State.Spares.ite (State.Spares.eccSet (h.ramCheck.of_eq rfl rfl rfl rfl id)) h.ramCheck

theorem State.Spares.undoRestore (h : State.Spares False κ s) : State.Spares False κ (s.undoRestore p phys k) := by
  unfold State.undoRestore
  refine State.Spares.of_eq (State.Spares.foldl h fun t e _ ht => ?_) rfl rfl rfl rfl id
  exact ht.ite (ht.ramMerge.of_eq rfl rfl rfl rfl id)

theorem State.Spares.rowRead {e : Nat × Nat} (h : State.Spares False κ s) :
    State.Spares False κ (s.rowRead p phys ver n e) := h.furCe.eccSet.ite h.furError

theorem State.Spares.reloadData (h : State.Spares False κ s) : State.Spares False κ (s.reloadData p n) := by
  unfold State.reloadData
  refine State.Spares.foldl h fun t f _ ht => State.Spares.of_eq (State.Spares.foldl (State.Spares.glnTouch ht)
    fun _ _ _ hu => hu.rowRead) rfl rfl rfl rfl id

theorem State.Spares.ramStore {vs : List Val} {host : Bool} (h : State.Spares False κ s) :
    State.Spares False κ (s.ramStore p phys base n st vs host) := by
  unfold State.ramStore State.undoAdd
  exact State.Spares.of_eq (State.Spares.put (h.ramMerge.of_eq rfl rfl rfl rfl id) False.elim) rfl rfl rfl rfl id

theorem State.Spares.wqStat {pc : Nat} (h : State.Spares False κ s) : State.Spares False κ (s.wqStat pc) :=
  h.note (State.rnSet_quiet _ _ _ rfl) (fun hr => hr.elim) fun hg => State.rnSet_good _ _ _ hg

theorem State.Spares.wqEnter {e : WqEntry} (h : State.Spares False κ s) : State.Spares False κ (s.wqEnter e).2 := by
  unfold State.wqEnter
  split
  · exact h
  · exact State.Spares.wqStat (h.of_eq rfl rfl rfl rfl id)

theorem State.Spares.reapplyMem (h : State.Spares False κ s) : State.Spares False κ (s.reapplyMem p n) := by
  unfold State.reapplyMem
  refine State.Spares.foldl h fun t r _ ht => ?_
  split
  · exact ht.ramStore
  · rename_i m a bs _
    have he := State.Spares.wqEnter (e := ⟨pcOf a, p, a, bs, m, 0, 0, false, true⟩) ht
    unfold State.reapplyRec
    dsimp only
    split
    · rename_i hq
      rw [hq] at he
      exact he
    · rename_i hq
      rw [hq] at he
      exact (he.raiseMem.setBit False.elim).passError False.elim
  · exact ht

theorem State.Spares.restage (h : State.Spares False κ s) : State.Spares False κ (s.restage p k) := by
  unfold State.restage
  refine State.Spares.foldl h fun t b _ ht => ?_
  split
  · exact ht.of_eq rfl rfl rfl rfl id
  · exact ht

end

theorem State.Spares.readsDiscard {κ : State} (h : State.Spares False κ s) : State.Spares False κ (s.readsDiscard p k) :=
  h.of_eq rfl rfl rfl rfl id

theorem State.Spares.heldDiscard {κ : State} (h : State.Spares False κ s) : State.Spares False κ (s.heldDiscard p k) :=
  h.of_eq rfl rfl rfl rfl id

/-- A replay turn takes the plot's resources back and leaves its course alone. -/
theorem exec_replayTurn (hm : s.memWf = true) (h : s.atHead p .replay = true) :
    ∃ u : State, exec (.replayTurn p) s = .next (u.extend p .replay) ∧ State.Reads Plot.course s u := by
  generalize hk : s.nextPass p = k
  let u1 := (s.plotPhys p).foldl (fun s f => s.undoRestore p f k) s
  let u2 := ((u1.readsDiscard p k).heldDiscard p k).reloadData p k
  let u3 := (u2.reapplyMem p k).restage p k
  have hg : Good (Kept.times s) s → Good (Kept.times s) u3 := fun h0 => by
    have h1 : Good (Kept.times s) u1 := good_foldl (fun _ _ ht => State.undoRestore_good _ _ _ _ ht rfl rfl) h0
    have h2 : Good (Kept.times s) u2 :=
      State.reloadData_good _ _ _ (State.heldDiscard_good _ _ _ (State.readsDiscard_good _ _ _ h1)) rfl rfl
    exact State.restage_good _ _ _ (State.reapplyMem_good _ _ _ h2 rfl rfl)
  have hs : State.Spares False s u3 := by
    have h1 : State.Spares False s u1 := State.Spares.foldl .refl fun _ _ _ ht => ht.undoRestore
    have h2 : State.Spares False s u2 := h1.readsDiscard.heldDiscard.reloadData
    exact h2.reapplyMem.restage
  have hr : State.Reads Plot.course s u3 := (State.Reads.refl hm).sparing hg hs
  refine ⟨(u3.onTm p fun t => { t with turn := (t.due, t.due + 64) }).spend p 64, ?_,
    (hr.onTm fun _ => rfl).spend fun _ _ => rfl⟩
  show execReplayTurn p s = _
  rw [execReplayTurn, if_pos h]
  dsimp only
  rw [hk]

theorem exec_stretch (hm : s.memWf = true) (h : s.atHead p .stretch = true) :
    ∃ u : State, exec (.stretch p) s = .next (u.extend p .stretch) ∧ State.Reads Plot.course s u := by
  refine ⟨(s.count (Reg.PLT_STRETCH_CNT p)).spend p (64 * (s.plot p).tm.hl.stretch), ?_,
    ((State.Reads.refl hm).still fun hk => State.count_good _ _ hk).spend fun _ _ => rfl⟩
  show execStretch p s = _
  rw [execStretch, if_pos h]

/-! ## The order of the extensions (R27) -/

section
variable {hl : Headland}

theorem nextExt_check_refresh (h : hl.refresh = true) : nextExt hl .check = some .refresh := by simp [nextExt, h]

theorem nextExt_check (h : hl.refresh = false) : nextExt hl .check = nextExt hl .refresh := by simp [nextExt, h]

theorem nextExt_refresh_replay (h : hl.replay = true) : nextExt hl .refresh = some .replay := by simp [nextExt, h]

theorem nextExt_refresh (h : hl.replay = false) : nextExt hl .refresh = nextExt hl .replay := by simp [nextExt, h]

theorem nextExt_replay_stake (h : hl.stake = true) : nextExt hl .replay = some .stake := by simp [nextExt, h]

theorem nextExt_replay (h : hl.stake = false) : nextExt hl .replay = nextExt hl .stake := by simp [nextExt, h]

theorem nextExt_stake_stretch (h : hl.stretch ≠ 0) : nextExt hl .stake = some .stretch := by simp [nextExt, h]

theorem nextExt_check_replay (hr : hl.refresh = false) (h : hl.replay = true) : nextExt hl .check = some .replay :=
  (nextExt_check hr).trans (nextExt_refresh_replay h)

theorem nextExt_check_stake (hr : hl.refresh = false) (hp : hl.replay = false) (h : hl.stake = true) :
    nextExt hl .check = some .stake :=
  (nextExt_check hr).trans ((nextExt_refresh hp).trans (nextExt_replay_stake h))

theorem nextExt_check_stretch (hr : hl.refresh = false) (hp : hl.replay = false) (hs : hl.stake = false)
    (h : hl.stretch ≠ 0) : nextExt hl .check = some .stretch :=
  (nextExt_check hr).trans ((nextExt_refresh hp).trans ((nextExt_replay hs).trans (nextExt_stake_stretch h)))

theorem nextExt_refresh_some (h : hl.replay = true ∨ hl.stake = true ∨ hl.stretch ≠ 0) :
    ∃ g, nextExt hl .refresh = some g := by
  cases hp : hl.replay with
  | true => exact ⟨_, nextExt_refresh_replay hp⟩
  | false =>
    rw [nextExt_refresh hp]
    cases hs : hl.stake with
    | true => exact ⟨_, nextExt_replay_stake hs⟩
    | false => exact ⟨_, (nextExt_replay hs).trans (nextExt_stake_stretch (by simpa [hp, hs] using h))⟩

theorem nextExt_stake (h : hl.stretch = 0) : nextExt hl .stake = none := by simp [nextExt, h]

end

end

/-- Settles O10: each extension ends with `State.extend`, which hands the plot to the next one, and after the last one to the
next pass. -/
theorem extensionsFollowAndThePassGoesOn : Obligations.ExtensionsFollowAndThePassGoesOn := by
  refine ⟨fun s p hm => ⟨fun h => ?_, fun h => ?_, fun h => ?_, fun h r hr hn hst => ?_⟩,
    fun s p hm hh hs hd => ⟨fun h hrep hstk hstr => ?_, fun h hstk hstr k hk _ => ?_, fun h => ?_⟩⟩
  · obtain ⟨u, he, stop, div, hhl⟩ := exec_preEmptionCheck hm h
    refine ⟨_, he, fun href => ?_, fun href hrep => ?_, fun href hrep hstk => ?_, fun href hrep hstk hstr => ?_⟩
    · exact State.extend_to hhl (nextExt_check_refresh href)
    · exact State.extend_to hhl (nextExt_check_replay href hrep)
    · exact State.extend_to hhl (nextExt_check_stake href hrep hstk)
    · exact State.extend_to hhl (nextExt_check_stretch href hrep hstk hstr)
  · obtain ⟨u, he, hr, href⟩ := exec_refreshHeadland hm h
    refine ⟨_, he, fun hrep => ?_, fun hrep hstk => ?_, fun hrep hstk hstr => ?_, fun hext hnd pc hpc => ?_⟩
    · exact State.extend_to hr.hl (nextExt_refresh_replay hrep)
    · exact State.extend_to hr.hl ((nextExt_refresh hrep).trans (nextExt_replay_stake hstk))
    · exact State.extend_to hr.hl ((nextExt_refresh hrep).trans ((nextExt_replay hstk).trans (nextExt_stake_stretch hstr)))
    · obtain ⟨g, hg⟩ := nextExt_refresh_some hext
      rw [State.extend_eq_toHead hr.hl hg, State.toHead, State.onTm_hbm, href, cget_foldl_refresh hnd, if_pos hpc]
  · obtain ⟨u, he, hr⟩ := exec_replayTurn hm h
    exact ⟨_, he, fun hstk => State.extend_to hr.hl (nextExt_replay_stake hstk), fun hstk hstr =>
      State.extend_to hr.hl ((nextExt_replay hstk).trans (nextExt_stake_stretch hstr))⟩
  · obtain ⟨u, r', he, hum, hhl, hst', hsl, hc⟩ := exec_stakeSlice hm h hr hn
    refine ⟨_, he, State.extend_to hhl (nextExt_stake_stretch hst), r', ?_, hsl, hc⟩
    rw [State.extend_eq_toHead hhl (nextExt_stake_stretch hst), State.toHead, State.onTm, State.plot_onPlot_self hum]
    exact hst'
  · obtain ⟨u, he, hr, -⟩ := exec_refreshHeadland hm h
    exact ⟨_, he, State.extend_next hr ((nextExt_refresh hrep).trans ((nextExt_replay hstk).trans (nextExt_stake hstr))) hh hs hd⟩
  · obtain ⟨u, he, hr⟩ := exec_replayTurn hm h
    have hnext : s.nextPass p = k := by rw [State.nextPass, hk]
    exact ⟨_, he, hnext ▸ State.extend_next hr ((nextExt_replay hstk).trans (nextExt_stake hstr)) hh hs hd⟩
  · obtain ⟨u, he, hr⟩ := exec_stretch hm h
    exact ⟨_, he, State.extend_next hr rfl hh hs hd⟩

end Sys2Proof.Machine

end

section

/-!
# The look-up table

PROVES O14 (spec R64-R66).
-/

namespace Sys2Proof.Machine
open Sys2Proof

section
variable {tt k i j : Nat}

/-! ## Values that a result may have -/

@[simp] theorem allowed_boolVal (b : Bool) : allowed (boolVal b) = [b] := by cases b <;> rfl

@[simp] theorem asBool_boolVal (b : Bool) : asBool (boolVal b) = b := by cases b <;> rfl

@[simp] theorem known_boolVal (b : Bool) : Val.known (boolVal b) = true := by cases b <;> rfl

theorem boolVal_ne_vz (b : Bool) : boolVal b ≠ .vz := by cases b <;> decide

/-- The common value of results is one of them, or X. -/
theorem common_eq_or_mem (l : List Val) : common l = .vx ∨ common l ∈ l := by
  cases l with
  | nil => exact .inl rfl
  | cons v vs =>
    rw [common]
    split
    · exact .inr List.mem_cons_self
    · exact .inl rfl

theorem common_ne_vz {l : List Val} (h : ∀ v ∈ l, ∃ b, v = boolVal b) : common l ≠ .vz := by
  rcases common_eq_or_mem l with hx | hm
  · rw [hx]; decide
  · obtain ⟨b, hb⟩ := h _ hm
    exact hb ▸ boolVal_ne_vz b

/-! ## The modes (R66) -/

/-- On operands 0 and 1 no mode differs from the two-value one. -/
theorem lutEval_boolVal (mode tt : Nat) (a b c d : Bool) :
    lutEval mode tt (boolVal a) (boolVal b) (boolVal c) (boolVal d) = boolVal (lutBit tt a b c d) := by
  unfold lutEval
  split
  case h_1 => simp
  case h_2 => simp
  case h_3 => simp [common]

theorem lutEval_ne_vz (mode tt : Nat) (a b c d : Val) : lutEval mode tt a b c d ≠ .vz := by
  unfold lutEval
  split
  case h_1 => exact boolVal_ne_vz _
  case h_2 =>
    split
    · decide
    · exact boolVal_ne_vz _
  case h_3 =>
    refine common_ne_vz fun v hv => ?_
    simp only [List.mem_flatMap, List.mem_map] at hv
    obtain ⟨x, -, y, -, z, -, w, -, rfl⟩ := hv
    exact ⟨_, rfl⟩

/-! ## Dependence (R65) -/

/-- To an index of the table with bit k clear, adding 2^k sets that bit and no other. -/
theorem add_two_pow_eq_or : ∀ i < 16, ∀ k < 4, i.testBit k = false → i + 2 ^ k = i ||| 2 ^ k := by decide

theorem eq_or_two_pow (hb : i.testBit k = false) (hk : i.testBit k ≠ j.testBit k)
    (h : ∀ m, m ≠ k → i.testBit m = j.testBit m) : j = i ||| 2 ^ k := by
  refine Nat.eq_of_testBit_eq fun m => ?_
  rw [Nat.testBit_or, Nat.testBit_two_pow]
  by_cases hm : m = k
  · subst hm
    simpa [hb] using hk
  · simp [h m hm, Ne.symm hm]

/-- The model looks at the pairs of indices from their member with bit k clear. -/
theorem lutDepends_iff_clear (hk : k < 4) :
    lutDepends tt k = true ↔ ∃ i < 16, i.testBit k = false ∧ tt.testBit i ≠ tt.testBit (i ||| 2 ^ k) := by
  have h16 : ∀ i, i ∈ natsFrom 0 16 ↔ i < 16 := fun i => by rw [mem_natsFrom]; omega
  simp only [lutDepends, List.any_eq_true, h16, Bool.and_eq_true, beq_iff_eq, bne_iff_ne]
  refine exists_congr fun i => and_congr_right fun hi => and_congr_right fun hb => ?_
  rw [add_two_pow_eq_or i hi k hk hb]

/-- TT depends on operand k where two indices that differ in bit k alone hold different bits (R65). -/
theorem lutDepends_iff (hk : k < 4) :
    lutDepends tt k = true ↔ ∃ i j, i < 16 ∧ j < 16 ∧ tt.testBit i ≠ tt.testBit j ∧ i.testBit k ≠ j.testBit k ∧
      ∀ m, m ≠ k → i.testBit m = j.testBit m := by
  rw [lutDepends_iff_clear hk]
  constructor
  · rintro ⟨i, hi, hb, ht⟩
    have hj : i ||| 2 ^ k < 2 ^ 4 := Nat.or_lt_two_pow hi (Nat.pow_lt_pow_right (by decide) hk)
    refine ⟨i, i ||| 2 ^ k, hi, hj, ht, ?_, fun m hm => ?_⟩
    · simp [hb]
    · simp [Ne.symm hm]
  · rintro ⟨i, j, hi, hj, ht, hne, h⟩
    cases hb : i.testBit k with
    | false => exact ⟨i, hi, hb, eq_or_two_pow hb hne h ▸ ht⟩
    | true =>
      have hc : j.testBit k = false := by simpa [hb] using hne.symm
      exact ⟨j, hj, hc, eq_or_two_pow hc hne.symm (fun m hm => (h m hm).symm) ▸ ht.symm⟩

end

/-- Settles O14: on operands 0 and 1 every mode gives the bit of the table, a result is X or the value of such a bit, and the
dependence that the model tests from the indices with the operand's bit clear is that of R65. -/
theorem lutFollowsItsTable : Obligations.LutFollowsItsTable := fun mode tt =>
  ⟨lutEval_boolVal mode tt, lutEval_ne_vz mode tt, fun _ hk => lutDepends_iff hk⟩

end Sys2Proof.Machine

end

section

/-!
# What the checks of a peek leave alone in the state store

SUPPORT for the statement about state slots: a condition that the check of a row notes, and the pass error that it charges,
leave the memory of the Boolean processors as it is (R76, R185).
-/

namespace Sys2Proof.Machine
open Sys2Proof

section
variable {s t : State} {p q k n : Nat} {plot : Option Nat}

theorem Quiet.bp (h : Quiet s t) : t.bp = s.bp := congrArg (a₁ := t.core) (a₂ := s.core) State.bp h

/-- Both ways of a choice keep the memory. -/
theorem State.ite_bp {c : Prop} [Decidable c] {m : BpMem} (h : s.bp = m) (g : t.bp = m) : (if c then s else t).bp = m := by
  split <;> assumption

/-! ## Packets, and the stop of a plot -/

theorem State.ctrlQueue_bp {ptype : Nat} {ws : List Word} : (s.ctrlQueue q ptype ws).bp = s.bp :=
  State.ite_bp rfl (State.count_quiet _ _ (State.raiseXch_quiet s _ _ _ _ _ _ rfl)).bp

theorem State.flood_bp {ptype : Nat} {body : List Nat} : (s.flood p ptype body).bp = s.bp :=
  foldl_keeps State.bp (fun _ _ => State.ctrlQueue_bp) _ _

theorem State.makeReady_bp {pick : Cmd → Bool} : (s.makeReady pick).bp = s.bp := State.ite_bp rfl rfl

theorem State.finishWaiting_bp {st : Nat} : (s.finishWaiting p st).bp = s.bp := by
  unfold State.finishWaiting
  rw [State.onPlot_bp, State.makeReady_bp]
  exact State.ite_bp (State.hvtStop_quiet _ p 2 _ _ rfl).bp rfl

theorem State.faultStop_bp {state st : Nat} : (s.faultStop p state st).bp = s.bp :=
  (State.plotState_quiet _ p 1 st [] rfl).bp.trans State.finishWaiting_bp

theorem State.divergePass_bp {send : Bool} : (s.divergePass p k send).bp = s.bp := by
  unfold State.divergePass
  dsimp only
  generalize hu : State.holdRec _ p 4 0 0 k = u
  have hrec : u.bp = s.bp := hu ▸ (State.holdRec_quiet _ p 4 0 0 k rfl).bp.trans
    (State.plotInt_quiet _ p 4 (State.setBit_quiet s _ 1 rfl)).bp
  have hsent : (if send then u.floodCtl p 0x14 0 0 k 0 else u).bp = s.bp := State.ite_bp (State.flood_bp.trans hrec) hrec
  exact State.ite_bp rfl (State.ite_bp (State.faultStop_bp.trans hsent) hsent)

theorem State.passError_bp {block cause loc unit : Nat} : (s.passError p k block cause loc unit).bp = s.bp :=
  State.ite_bp rfl (State.ite_bp State.divergePass_bp (State.ite_bp rfl State.flood_bp))

/-! ## Control triples and buckets (R461, R469, R471) -/

theorem State.takeInjects_bp {reg : Nat} {pick : Nat → Bool} : (s.takeInjects reg pick).2.bp = s.bp := by
  unfold State.takeInjects
  dsimp only
  split
  · rfl
  · rw [State.setBit_bp, State.clrBit_bp]

theorem State.glnCond_bp {cause space index : Nat} : (s.glnCond cause space index plot).bp = s.bp := by
  have hr := State.raiseGln_quiet s cause space index plot (κ := s) rfl
  unfold State.glnCond
  dsimp only
  split
  iterate 6 exact (State.count_quiet _ _ hr).bp
  exact hr.bp

theorem State.glnMeet_bp {pick : Nat → Bool} {corrupt : Nat → Nat → State → State}
    (hc : ∀ a b t, (corrupt a b t).bp = t.bp) : (s.glnMeet plot pick corrupt).bp = s.bp := by
  refine State.ite_bp rfl ((foldl_keeps State.bp (fun t i => ?_) _ _).trans State.takeInjects_bp)
  split
  · exact hc _ _ _
  · exact hc _ _ _
  · exact State.glnCond_bp

theorem State.vote_bp {e : Nat × Nat} : (s.vote e).bp = s.bp := by
  have hr := fun cause => State.raiseGln_quiet s cause 7 e.1 none (κ := s) rfl
  refine State.ite_bp (State.count_quiet _ _ (hr 5)).bp ?_
  exact (foldl_keeps (g := State.sweepRestart) State.bp (fun _ _ => rfl) _ _).trans
    (State.ite_bp (State.rgReset_quiet _ _ (hr 6)).bp (hr 6).bp)

theorem State.useTriple_bp {reg : Nat} : (s.useTriple reg).bp = s.bp := by
  have hm : (s.glnMeet none (fun a => a == 7 * 2 ^ 28 + reg) fun _ bits s =>
      { s with gln := { s.gln with upset := cset 0 s.gln.upset reg bits } }).bp = s.bp := State.glnMeet_bp fun _ _ _ => rfl
  exact State.ite_bp rfl (State.ite_bp hm (State.vote_bp.trans hm))

theorem State.bucket_bp {cls reg : Nat} : (s.bucket cls reg).bp = s.bp :=
  State.ite_bp State.useTriple_bp (State.ite_bp State.useTriple_bp State.useTriple_bp)

/-! ## Conditions of a furrow (R106) -/

section
variable {phys cause loc st b : Nat}

theorem State.furCe_bp : (s.furCe phys cause loc plot n).bp = s.bp :=
  State.bucket_bp.trans (State.count_quiet _ _ (State.raiseFur_quiet s phys cause loc plot n rfl)).bp

theorem State.furError_bp : (s.furError p phys cause loc k).bp = s.bp :=
  State.passError_bp.trans (State.raiseFur_quiet s phys cause loc (some p) k rfl).bp

theorem State.idleCause_bp : (s.idleCause p phys cause st b).bp = s.bp := by
  have hr : (s.raiseFur phys cause (locFur st false b) (some p) (s.plot p).tm.pn).bp = s.bp :=
    (State.raiseFur_quiet s phys cause _ (some p) _ rfl).bp
  exact State.ite_bp (State.ite_bp State.furError_bp (State.ite_bp State.furCe_bp hr)) (State.ite_bp State.furCe_bp hr)

end

end

end Sys2Proof.Machine

end

section

/-!
# State slots: PEEK_STATE, POKE_STATE, FORCE and UNFORCE

PROVES O27 (spec R25, R59, R76, R202, R379, R543).
-/

namespace Sys2Proof.Machine
open Sys2Proof

section
variable {s : State} {c : Cmd} {p l b n id opc : Nat}

/-! ## Commands that a unit has taken -/

theorem State.onTaken_some {f : Cmd → State} (h : s.taken opc id = some c) : s.onTaken opc id f = f c := by
  rw [State.onTaken, h]

theorem State.taken_mem_id (h : s.taken opc id = some c) : ∃ e ∈ s.cmd.store, e.id = id :=
  ⟨c, s.taken_mem opc id c h⟩

theorem State.blockCmd_waits (h : ∃ e ∈ s.cmd.store, e.id = id) : (s.blockCmd id).waits id := by
  obtain ⟨e, he, hi⟩ := h
  refine ⟨⟨_, List.mem_map_of_mem he, by simp [hi]⟩, fun c hc hci => ?_⟩
  obtain ⟨d, hd, rfl⟩ := List.mem_map.1 hc
  by_cases hdi : d.id = id
  · simp [hdi]
  · simp [hdi] at hci

/-! ## The version that a peek reads (R59) -/

theorem State.peekVersion_unreleased (h : s.sow p ≠ Sow.released) : s.peekVersion p = none := if_pos h

section
variable (hr : s.sow p = Sow.released) (hl : (s.plot p).tm.launched = true)
include hr hl

theorem State.peekVersion_kept {state : Cells Val} (hk : (s.plot p).cmt.kept = some state) : s.peekVersion p = none := by
  simp [State.peekVersion, hr, hl, hk]

theorem State.peekVersion_committed (hs : (s.plot p).id.save = none) (hk : (s.plot p).cmt.kept = none) :
    s.peekVersion p = some (s.verBefore p (s.plot p).tm.dpn) := by
  simp [State.peekVersion, hr, hl, hs, hk]

end

/-! ## The value of a slot (R59, R202, R543) -/

theorem State.peekSlot_unreleased (h : s.sow p ≠ Sow.released) : s.peekSlot p l b n = .vx := by
  rw [State.peekSlot, State.peekVersion_unreleased h]
  split
  · exact if_neg h
  · contradiction
  · exact if_pos h

section
variable (hr : s.sow p = Sow.released) (hl : (s.plot p).tm.launched = true)
include hr hl

theorem State.peekSlot_kept {state : Cells Val} (hk : (s.plot p).cmt.kept = some state) :
    s.peekSlot p l b n = copySlot state l b n := by
  simp [State.peekSlot, State.peekVersion_kept hr hl hk, hr, hl, hk]

theorem State.peekSlot_committed (hs : (s.plot p).id.save = none) (hk : (s.plot p).cmt.kept = none) :
    s.peekSlot p l b n = s.slotRead (s.phys l) (s.verBefore p (s.plot p).tm.dpn) b n := by
  simp [State.peekSlot, State.peekVersion_committed hr hl hs hk, hl]

end

/-! ## The check of its row (R76) -/

theorem State.peekTouch_of_no_inject {k : Nat} (h : s.inject = []) : s.peekTouch p l b k n = s := if_pos h

theorem State.peekCheck_of_no_version {k : Nat} (h : s.peekVersion p = none) : s.peekCheck p l b k n = s := by
  rw [State.peekCheck, State.peekRows, h]
  rfl

theorem State.peekCheck_of_no_ecc {k : Nat} (h : s.ecc = []) : s.peekCheck p l b k n = s := by
  have h0 : ∀ r, s.eccAt Item.stateRow r = 0 := fun r => by rw [State.eccAt, h]; rfl
  exact List.foldl_fixed' (fun r => by rw [h0]; rfl) _

theorem State.peekCheck_bp {k : Nat} : (s.peekCheck p l b k n).bp = s.bp := by
  refine foldl_keeps State.bp (fun t r => ?_) _ _
  split
  · rfl
  · exact State.idleCause_bp
  · exact State.idleCause_bp

/-- The check keeps the command in the store, whatever else of the plot's it may end. -/
theorem State.peekCheck_mem_id {k : Nat} (hm : s.memWf = true) (h : ∃ e ∈ s.cmd.store, e.id = id) :
    ∃ e ∈ (s.peekCheck p l b k n).cmd.store, e.id = id :=
  (State.peekCheck_good s p l b k n ((Good.times hm).withId id h) rfl rfl).id id rfl

/-! ## PEEK_STATE of one slot (R59) -/

theorem packVals_one (v : Val) : packVals [v] = valBits v := by rw [packVals, packVals]; rfl

/-- The slots that a peek of one slot names: its furrow, its BP, its slot. -/
theorem Cmd.slots_one (h : nfld (c.dw 7) 16 5 = 0) :
    c.slots = (nfld (c.dw 6) 0 9, nfld (c.dw 6) 16 7, nfld (c.dw 7) 0 8, 1) := by rw [Cmd.slots, h]

section
variable (hok : s.slotsOk c.plot c = true) (hsl : c.slots = (l, b, n, 1)) (hi : s.inject = [])
include hok hsl hi

theorem State.peek_one : s.peek c =
    (s.peekCheck c.plot l b n 1).finish c.id Status.ok (valBits (s.peekSlot c.plot l b n)) := by
  have hno : ¬ s.slotsOk c.plot c = false := by rw [hok]; decide
  rw [State.peek, hsl]
  dsimp only
  rw [if_neg hno, State.peekTouch_of_no_inject hi, ← packVals_one]
  rfl

variable (hm : s.memWf = true) (hc : s.taken 0x40 id = some c)
include hc

theorem exec_peekState_one : exec (.peekState id) s =
    .next ((s.peekCheck c.plot l b n 1).finish id Status.ok (valBits (s.peekSlot c.plot l b n))) := by
  show Host.Outcome.next (s.onTaken 0x40 id s.peek) = _
  rw [State.onTaken_some hc, State.peek_one hok hsl hi, (s.taken_mem _ _ _ hc).2]

/-- Where the value comes from no version of the state store, nothing but the command changes. -/
theorem exec_peekState_of_no_version (hv : s.peekVersion c.plot = none) :
    ∃ t, exec (.peekState id) s = .next t ∧ t.bp = s.bp ∧ t.plots = s.plots ∧ t.regs = s.regs ∧
      t.ended id Status.ok (valBits (s.peekSlot c.plot l b n)) := by
  refine ⟨_, exec_peekState_one hok hsl hi hc, ?_⟩
  rw [State.peekCheck_of_no_version hv]
  exact ⟨rfl, rfl, rfl, State.finish_ended _ _ _ _ (State.taken_mem_id hc)⟩

theorem exec_peekState_unreleased (h : s.sow c.plot ≠ Sow.released) :
    ∃ t, exec (.peekState id) s = .next t ∧ t.ended id Status.ok (valBits .vx) ∧ t.bp = s.bp ∧ t.plots = s.plots := by
  obtain ⟨t, he, hbp, hpl, -, hend⟩ := exec_peekState_of_no_version hok hsl hi hc (State.peekVersion_unreleased h)
  rw [State.peekSlot_unreleased h] at hend
  exact ⟨t, he, hend, hbp, hpl⟩

variable (hr : s.sow c.plot = Sow.released) (hl : (s.plot c.plot).tm.launched = true)
include hr hl

theorem exec_peekState_kept {state : Cells Val} (hk : (s.plot c.plot).cmt.kept = some state) :
    ∃ t, exec (.peekState id) s = .next t ∧ t.bp = s.bp ∧ t.plots = s.plots ∧ t.regs = s.regs ∧
      t.ended id Status.ok (valBits (copySlot state l b n)) := by
  rw [← State.peekSlot_kept hr hl hk]
  exact exec_peekState_of_no_version hok hsl hi hc (State.peekVersion_kept hr hl hk)

include hm

theorem exec_peekState_committed (hs : (s.plot c.plot).id.save = none) (hk : (s.plot c.plot).cmt.kept = none) :
    ∃ t, exec (.peekState id) s = .next t ∧ t.bp = s.bp ∧ (s.ecc = [] → t.plots = s.plots ∧ t.regs = s.regs) ∧
      t.ended id Status.ok (valBits (s.slotRead (s.phys l) (s.verBefore c.plot (s.plot c.plot).tm.dpn) b n)) := by
  rw [← State.peekSlot_committed hr hl hs hk]
  refine ⟨_, exec_peekState_one hok hsl hi hc, State.peekCheck_bp, fun hecc => ?_, State.finish_ended _ _ _ _
    (State.peekCheck_mem_id hm (State.taken_mem_id hc))⟩
  rw [State.peekCheck_of_no_ecc hecc]
  exact ⟨rfl, rfl⟩

end

/-! ## POKE_STATE, FORCE and UNFORCE (R25, R379) -/

/-- The three commands reach their unit alike. -/
theorem exec_slotCmd {i : Instr}
    (hi : (i, opc) ∈ [(Instr.pokeState id, 0x41), (Instr.force id, 0x42), (Instr.unforce id, 0x43)])
    (hc : s.taken opc id = some c) : exec i s = .next (s.slotCmd c) := by
  rw [← State.onTaken_some (f := s.slotCmd) hc]
  simp only [List.mem_cons, List.not_mem_nil, or_false, Prod.mk.injEq] at hi
  rcases hi with ⟨rfl, rfl⟩ | ⟨rfl, rfl⟩ | ⟨rfl, rfl⟩ <;> rfl

theorem State.slotCmd_unreleased (h : s.sow c.plot ≠ Sow.released) :
    s.slotCmd c = s.finish c.id Status.invalidParam 0 := if_pos (.inr h)

theorem State.slotCmd_queues (hok : s.slotsOk c.plot c = true) (hr : s.sow c.plot = Sow.released)
    (hd : s.deadStatus c.plot = none) (hmiss : s.missed c.plot c = false) : s.slotCmd c = s.queueHost c.plot c.id := by
  simp [State.slotCmd, hok, hr, hd, hmiss]

theorem State.queueHost_waits (h : ∃ e ∈ s.cmd.store, e.id = id) : (s.queueHost p id).waits id := State.blockCmd_waits h

theorem State.plot_queueHost (hm : s.memWf = true) : (s.queueHost p id).plot p =
    { s.plot p with id := { (s.plot p).id with hostQ := (s.plot p).id.hostQ ++ [id] } } :=
  State.plot_onPlot_self (s := s.blockCmd id) hm

end

/-- Settles O27: a peek of one slot ends with the slot's value (`exec_peekState_one`), which is X before release, the kept
copy's after a restored stake and else that of the newest committed version; what the check of its row notes leaves the state
store alone (`State.peekCheck_bp`). The three commands that change slots enter the queue of their plot. -/
theorem stateSlotsArePeekedAndPoked : Obligations.StateSlotsArePeekedAndPoked := by
  intro s id c hm hok
  refine ⟨fun hc hn hi => ?_, fun i opc hi hc => ?_⟩
  · have hsl := Cmd.slots_one hn
    exact ⟨exec_peekState_unreleased hok hsl hi hc, fun _ hr hl hk => exec_peekState_kept hok hsl hi hc hr hl hk,
      exec_peekState_committed hok hsl hi hm hc⟩
  · have hid := (s.taken_mem opc id c hc).2
    refine ⟨fun hr => ⟨_, exec_slotCmd hi hc, ?_⟩, fun hr hd hmiss => ⟨_, exec_slotCmd hi hc, ?_⟩⟩
    · rw [State.slotCmd_unreleased hr, hid]
      exact ⟨State.finish_ended s id _ _ (State.taken_mem_id hc), State.finish_plots .., State.finish_bp ..⟩
    · rw [State.slotCmd_queues hok hr hd hmiss, hid, State.plot_queueHost hm]
      exact ⟨State.queueHost_waits (State.taken_mem_id hc), rfl, rfl, rfl⟩

end Sys2Proof.Machine

end

section

/-!
# What is fused, and the canonical form

PROVES O4 (spec R104, R328, R380, R485, R492, R496, R512).
-/

namespace Sys2Proof.Machine
open Sys2Proof

section
variable {s t : State}

/-- What every step keeps: the fuses, and a bound of the SVN. The queue, which a step uses up, is that of the state it leads
to; all else may change. -/
def Kept.fused (s : State) (q : List Instr) : Kept :=
  { pending := q, fuses := s.fuses, svn := s.boot.fusedMin, shut := false, keys := none, host := none, hbm := none, spm := none,
    window := none, plots := none, cmd := none, id := none, tm := none, res := none, img := none }

theorem Kept.fused_sub_all : (Kept.fused s s.pending).Sub (Kept.all s) :=
  ⟨rfl, rfl, le_rfl, fun h => (Bool.false_ne_true h).elim, .inl rfl, .inl rfl, .inl rfl, .inl rfl, .inl rfl, .inl rfl, .inl rfl,
    .inl rfl, .inl rfl, .inl rfl, .inl rfl⟩

theorem Good.fused (hm : s.memWf = true) : Good (Kept.fused s s.pending) s := (Good.all s hm).sub Kept.fused_sub_all

theorem Kept.fused_openTo {q : List Instr} (c : Instr) : (Kept.fused s q).OpenTo c :=
  ⟨rfl, rfl, rfl, fun _ => rfl, fun _ => rfl, fun _ => rfl, fun _ => rfl, fun _ => rfl, fun _ => rfl, fun _ => rfl, fun _ => rfl,
    fun _ => rfl⟩

/-- Every step keeps the canonical form and the fuses, whether it runs a command or lets a step of the clock pass. -/
theorem step_fused (hm : s.memWf = true) (h : step s = .next t) : Good (Kept.fused s t.pending) t := by
  suffices hg : ∃ q, Good (Kept.fused s q) t by
    obtain ⟨q, hg⟩ := hg
    rw [hg.pending]
    exact hg
  cases hp : s.pending with
  | nil =>
    rw [step_idle hp] at h
    cases h
    exact ⟨s.pending, State.idle_good s (Good.fused hm) rfl rfl rfl rfl⟩
  | cons c rest =>
    rw [step_exec hp] at h
    exact ⟨rest, exec_good c (Good.fused (s := { s with pending := rest }) hm) (Kept.fused_openTo c) t h⟩

end

/-- Settles O4: the canonical form, the fuses and the fused minimum are part of what the laws of the step keep, of every command
(`exec_good`) and of a step of the clock, whatever else changes (`step_fused`). -/
theorem stepKeepsFusesAndCanonicalForm : Obligations.StepKeepsFusesAndCanonicalForm :=
  ⟨fun _ _ hm h => ⟨(step_fused hm h).mem, (step_fused hm h).fuses⟩, fun _ _ hm h => (step_fused hm h).svn⟩

end Sys2Proof.Machine

end

section

/-!
# Acknowledgements, injections and the restart of the Gleaner

PROVES O54 (spec R107, R109, R470, R472).
-/

namespace Sys2Proof.Machine
open Sys2Proof

section
variable {s : State}

/-! ## Writes that the gate lets through (R505, R506) -/

/-- A write that passes the gate, over a link that is up, is its handler's. -/
theorem State.gated_open {fn a : Nat} {g : RegRow × List Nat} {k : State → RegRow → List Nat → State}
    (hd : s.hostDown fn = false) (hg : s.gate fn a = .inr g) : s.gated fn a k = k s g.1 g.2 := by
  rw [State.gated, hd, State.opened, hg]
  rfl

theorem State.rsvdCheck_regs {fn v : Nat} {fs : List RegField} : (s.rsvdCheck fn v fs).regs = s.regs := by
  unfold State.rsvdCheck
  split <;> rfl

theorem State.rsvdCheck_memWf {fn v : Nat} {fs : List RegField} (hm : s.memWf = true) : (s.rsvdCheck fn v fs).memWf = true :=
  (State.rsvdCheck_good s fn v fs (Good.all s hm)).mem

/-- A bit and a field of a register are those of any state with the same registers. -/
theorem State.bit_of_regs {t : State} {a i : Nat} (h : t.regs = s.regs) : t.bit a i = s.bit a i := by
  rw [State.bit, State.bit, State.rn_of_regs h]

theorem State.fld_of_regs {t : State} {a lo n : Nat} (h : t.regs = s.regs) : t.fld a lo n = s.fld a lo n := by
  rw [State.fld, State.fld, State.rn_of_regs h]

/-! ## FIRST_ACK (R107) -/

/-- A register written with 0 gains no bit, nor does any other. -/
theorem State.bit_rnSet_zero_of_not {a b j : Nat} (hm : s.memWf = true) (h : s.bit b j = false) :
    (s.rnSet a 0).bit b j = false := by
  by_cases hb : b = a
  · subst hb
    rw [State.bit, State.rn_rnSet_zero hm, Nat.zero_testBit]
  · rw [State.bit, State.rn_rnSet_ne _ _ _ _ hb]
    exact h

/-- Clearing a counter sets no bit. -/
theorem State.bit_countClear_of_not {c b j : Nat} (hm : s.memWf = true) (h : s.bit b j = false) :
    (s.countClear c).bit b j = false := by
  have h0 := State.bit_rnSet_zero_of_not (a := c) hm h
  unfold State.countClear
  split
  · exact State.bit_clrBit_of_not (State.rnSet_memWf hm) h0
  · exact h0

/-- A cleared counter reads 0, whether it has an OVF bit or not. -/
theorem State.rn_countClear {c : Nat} (hm : s.memWf = true) : (s.countClear c).rn c = 0 := by
  cases h : findCnt CntRow.base c cntRows with
  | some x => exact (State.countClear_cleared hm h).count
  | none =>
    rw [State.countClear, h]
    exact State.rn_rnSet_zero hm

/-- An acknowledgement with 0 frees the first-error registers and clears the merge counter. -/
theorem State.firstAck_frees {b : Blk} (hm : s.memWf = true) :
    (s.firstAck b 0).bit b.first 31 = false ∧ (s.firstAck b 0).rn b.merged = 0 := by
  have hc : (s.clrBit b.first 31).memWf = true := State.clrBit_memWf hm
  rw [State.firstAck, if_pos rfl]
  exact ⟨State.bit_countClear_of_not hc (State.bit_clrBit_self hm), State.rn_countClear hc⟩

theorem exec_firstAck {addr v : Nat} {b : Blk} {g : RegRow × List Nat} (hd : s.hostDown 0 = false) (hg : s.gate 0 addr = .inr g)
    (hb : blkOfAck addr = some b) :
    exec (.firstAck 0 addr v) s = .next ((s.rsvdCheck 0 v g.1.fields).firstAck b (v % 2 ^ 32)) := by
  show execFirstAck 0 addr v s = _
  rw [execFirstAck, hb]
  exact congrArg _ (State.gated_open hd hg)

/-! ## HIST_ACK (R108, R109) -/

/-- The oldest entries of the history are read: all of them for 0. -/
theorem State.histAck_unread {b : Blk} {v : Nat} (hm : s.memWf = true) :
    (s.histAck b v).fld b.ptr 16 5 = if nfld v 0 5 = 0 then 0 else s.fld b.ptr 16 5 - nfld v 0 5 := by
  have hlt : s.fld b.ptr 16 5 < 2 ^ 5 := Nat.mod_lt _ (Nat.two_pow_pos 5)
  rw [State.histAck, State.fld_put_same _ _ _ _ _ hm (by decide), Nat.mod_eq_of_lt]
  split <;> omega

theorem exec_histAck {addr v : Nat} {b : Blk} {g : RegRow × List Nat} (hd : s.hostDown 0 = false) (hg : s.gate 0 addr = .inr g)
    (hb : blkOfHistAck addr = some b) :
    exec (.histAck 0 addr v) s = .next ((s.rsvdCheck 0 v g.1.fields).histAck b v) := by
  show execHistAck 0 addr v s = _
  rw [execHistAck, hb]
  exact congrArg _ (State.gated_open hd hg)

/-! ## Fault injection (R471) -/

section
variable {a v stat : Nat} {furrow : Bool} {r : RegRow}

theorem State.injectWrite_outside (h : s.boot.lifecycle ≠ 0) : s.injectWrite 0 a v stat furrow r = s := if_pos h

/-- A write that FACTORY lets through: KIND and CAUSE are taken over, DONE is cleared where the write says so, and ARM follows. -/
theorem State.injectWrite_factory (hm : s.memWf = true) (hf : s.boot.lifecycle = 0) :
    ∃ u : State, u.memWf = true ∧ s.injectWrite 0 a v stat furrow r =
      if v.testBit 31 = false then { u.clrBit a 31 with inject := s.inject.filter fun i => i.reg != a }
      else if armOk v (s.rn (a + 4)) stat furrow then
        { u.setBit a 31 with inject := (s.inject.filter fun i => i.reg != a) ++ [⟨a, v, s.rn (a + 4)⟩] }
      else u := by
  refine ⟨_, (State.putBit_good _ a 30 (s.bit a 30 && !(v.testBit 30)) (State.put_good _ a 23 5 (nfld v 23 5)
    (State.put_good _ a 28 2 (nfld v 28 2) (State.rsvdCheck_good s 0 v r.fields (Good.all s hm))))).mem, ?_⟩
  rw [State.injectWrite, if_neg (not_not_intro hf)]

/-- What is armed is not in the registers. -/
theorem State.bit_inject {u : State} {i : Nat} {l : List Inject} : ({ u with inject := l } : State).bit a i = u.bit a i := by
  have h : ({ u with inject := l } : State).regs = u.regs := rfl
  exact State.bit_of_regs h

/-- In FACTORY a write with ARM arms the injection. -/
theorem State.injectWrite_arms (hm : s.memWf = true) (hf : s.boot.lifecycle = 0) (hv : v.testBit 31 = true)
    (hok : armOk v (s.rn (a + 4)) stat furrow = true) :
    (s.injectWrite 0 a v stat furrow r).bit a 31 = true ∧
      ⟨a, v, s.rn (a + 4)⟩ ∈ (s.injectWrite 0 a v stat furrow r).inject := by
  obtain ⟨u, hu, he⟩ := State.injectWrite_factory (a := a) (v := v) (stat := stat) (furrow := furrow) (r := r) hm hf
  rw [he, if_neg (by simp [hv]), if_pos hok]
  exact ⟨State.bit_inject.trans (State.bit_setBit _ _ _ hu (by decide)),
    List.mem_append_right _ (List.mem_singleton_self _)⟩

/-- A write without ARM withdraws what was armed. -/
theorem State.injectWrite_withdraws (hm : s.memWf = true) (hf : s.boot.lifecycle = 0) (hv : v.testBit 31 = false) :
    (s.injectWrite 0 a v stat furrow r).bit a 31 = false ∧
      ∀ i ∈ (s.injectWrite 0 a v stat furrow r).inject, i.reg ≠ a := by
  obtain ⟨u, hu, he⟩ := State.injectWrite_factory (a := a) (v := v) (stat := stat) (furrow := furrow) (r := r) hm hf
  rw [he, if_pos hv]
  exact ⟨State.bit_inject.trans (State.bit_clrBit_self hu),
    fun i hi => by simpa using (List.mem_filter.1 hi).2⟩

end

theorem exec_faultInjectionArm {addr v stat : Nat} {furrow : Bool} {g : RegRow × List Nat} (hd : s.hostDown 0 = false)
    (hg : s.gate 0 addr = .inr g) (hi : injectStat addr = some (stat, furrow)) :
    exec (.faultInjectionArm 0 addr v) s = .next (s.injectWrite 0 addr v stat furrow g.1) := by
  show execFaultInjectionArm 0 addr v s = _
  rw [execFaultInjectionArm, hi]
  exact congrArg _ (State.gated_open hd hg)

/-! ## The Gleaner's restart (R470) -/

/-- GLN_CFG is a register of the device. -/
theorem regAt_glnCfg : (regAt Reg.GLN_CFG).map (·.1.cls) = some .device := by decide +kernel

/-- Once firmware runs PF0 may write GLN_CFG. -/
theorem State.gate_glnCfg (hr : s.running = true) : ∃ g, s.gate 0 Reg.GLN_CFG = .inr g := by
  obtain ⟨⟨r, is⟩, hreg, hcls⟩ := Option.map_eq_some_iff.1 regAt_glnCfg
  have hcls : r.cls = .device := hcls
  refine ⟨(r, is), ?_⟩
  rw [State.gate, if_neg (by decide), hr, if_neg (by decide), hreg]
  dsimp only
  rw [hcls]
  rfl

/-- A write of EN = 1 clears the stopped sequencers, and every stall but the patrol's. -/
theorem State.glnCfgWrite_restarts {v : Nat} {r : RegRow} (hm : s.memWf = true) (hv : v.testBit 31 = true) :
    (s.glnCfgWrite 0 v r).fld Reg.GLN_STAT 12 4 = 0 ∧ ∀ e ∈ (s.glnCfgWrite 0 v r).gln.stalls, e.1 = 4 := by
  obtain ⟨u, hu, he⟩ : ∃ u : State, u.memWf = true ∧ s.glnCfgWrite 0 v r =
      { (u.put Reg.GLN_STAT 12 4 0).watchFrom ((natsFrom 0 4).filter fun a => !s.seqRuns a) with
        gln := { ((u.put Reg.GLN_STAT 12 4 0).watchFrom ((natsFrom 0 4).filter fun a => !s.seqRuns a)).gln with
          stalls := (u.put Reg.GLN_STAT 12 4 0).gln.stalls.filter fun e => e.1 == 4 } } := by
    rw [State.glnCfgWrite, if_pos ⟨rfl, hv⟩]
    exact ⟨_, (State.pf0Field_good _ 0 Reg.GLN_CFG 0 16 v (State.pf0Field_good _ 0 Reg.GLN_CFG 16 4 v
      (State.pf0Field_good _ 0 Reg.GLN_CFG 31 1 v (State.rsvdCheck_good s 0 v r.fields (Good.all s hm))))).mem, rfl⟩
  rw [he]
  exact ⟨(State.fld_of_regs (s := u.put Reg.GLN_STAT 12 4 0) rfl).trans (State.fld_put_same _ _ _ _ 0 hu (by decide)),
    fun e he => by simpa using (List.mem_filter.1 he).2⟩

theorem exec_gleanerRestart {v : Nat} (hd : s.hostDown 0 = false) (hr : s.running = true) (hv : v.testBit 31 = true) :
    ∃ r, exec (.gleanerRestart 0 v) s = .next (s.glnCfgWrite 0 v r) := by
  obtain ⟨g, hg⟩ := State.gate_glnCfg hr
  refine ⟨g.1, ?_⟩
  show execGleanerRestart 0 v s = _
  rw [execGleanerRestart, if_pos hv]
  exact congrArg _ (State.gated_open hd hg)

end

/-- Settles O54: each write reaches its handler (`State.gated_open`), and one lemma says what the handler does: FIRST_ACK
(`State.firstAck_frees`), HIST_ACK (`State.histAck_unread`), an injection that is armed or withdrawn
(`State.injectWrite_arms`, `State.injectWrite_withdraws`) and the restart (`State.glnCfgWrite_restarts`). -/
theorem faultRegistersAct : Obligations.FaultRegistersAct := by
  intro s addr v g hm hd hg
  refine ⟨fun b hb => ⟨⟨_, exec_firstAck hd hg hb, State.firstAck_frees (State.rsvdCheck_memWf hm)⟩, fun hv => ?_⟩,
    fun b hb => ⟨_, exec_histAck hd hg hb, ?_⟩, fun stat furrow hi => ⟨fun hl => ?_, fun hl hv hok => ?_, fun hl hv => ?_⟩,
    fun hv hr => ?_⟩
  · exact ⟨_, exec_firstAck hd hg hb, by rw [State.firstAck, if_neg hv, State.rsvdCheck_regs]⟩
  · rw [State.histAck_unread (State.rsvdCheck_memWf hm), State.fld, State.rn_of_regs State.rsvdCheck_regs]
    rfl
  · rw [exec_faultInjectionArm hd hg hi, State.injectWrite_outside hl]
  · exact ⟨_, exec_faultInjectionArm hd hg hi, State.injectWrite_arms hm hl hv hok⟩
  · exact ⟨_, exec_faultInjectionArm hd hg hi, State.injectWrite_withdraws hm hl hv⟩
  · obtain ⟨r, he⟩ := exec_gleanerRestart hd hr hv
    exact ⟨_, he, State.glnCfgWrite_restarts hm hv⟩

end Sys2Proof.Machine

end

section

/-!
# The stock of memories

SUPPORT for the statements about reads: the checks of stored words, the conditions that they note and the pass errors that they
charge leave the machine's memories as they are (R149-R151, R185, R461, R469, R471).
-/

namespace Sys2Proof.Machine
open Sys2Proof

section
variable {s t : State} {p q k n addr : Nat} {plot : Option Nat}

/-- What a state holds beside what `State.core` leaves out, the records of the plots, the exchange, the command unit, the ECC
conditions of stored items, the injections, the Gleaner, and of the HBM controllers the lists of suspect words and rows. -/
def State.stockOf (c : State) : State :=
  { c with plots := [], xch := {}, cmd := {}, ecc := [], inject := [], gln := {}, hbm := { c.hbm with suspects := [], rows := [] } }

def State.stock (s : State) : State := s.core.stockOf

theorem Quiet.stock (h : Quiet s t) : t.stock = s.stock := congrArg State.stockOf h

theorem State.fur_of_stock (h : t.stock = s.stock) : t.fur = s.fur := congrArg (a₁ := t.stock) (a₂ := s.stock) State.fur h

theorem State.reads_of_stock (h : t.stock = s.stock) : t.hbm.reads = s.hbm.reads :=
  congrArg (a₁ := t.stock) (a₂ := s.stock) (fun u : State => u.hbm.reads) h

theorem State.phys_of_stock {l : Nat} (h : t.stock = s.stock) : t.phys l = s.phys l :=
  congrArg (a₁ := t.stock) (a₂ := s.stock) (fun u : State => u.phys l) h

/-- Both ways of a choice keep the stock. -/
theorem State.ite_stock {c : Prop} [Decidable c] {u : State} (h : s.stock = u) (g : t.stock = u) :
    (if c then s else t).stock = u := by
  split <;> assumption

/-! ## Packets, and the stop of a plot -/

theorem State.ctrlQueue_stock {ptype : Nat} {ws : List Word} : (s.ctrlQueue q ptype ws).stock = s.stock :=
  State.ite_stock rfl (State.count_quiet _ _ (State.raiseXch_quiet s _ _ _ _ _ _ rfl)).stock

theorem State.flood_stock {ptype : Nat} {body : List Nat} : (s.flood p ptype body).stock = s.stock :=
  foldl_keeps State.stock (fun _ _ => State.ctrlQueue_stock) _ _

theorem State.makeReady_stock {pick : Cmd → Bool} : (s.makeReady pick).stock = s.stock := State.ite_stock rfl rfl

theorem State.finishWaiting_stock {st : Nat} : (s.finishWaiting p st).stock = s.stock :=
  State.makeReady_stock.trans (State.ite_stock (State.hvtStop_quiet _ p 2 _ _ rfl).stock rfl)

theorem State.faultStop_stock {state st : Nat} : (s.faultStop p state st).stock = s.stock :=
  (State.plotState_quiet _ p 1 st [] rfl).stock.trans State.finishWaiting_stock

theorem State.divergePass_stock {send : Bool} : (s.divergePass p k send).stock = s.stock := by
  unfold State.divergePass
  dsimp only
  generalize hu : State.holdRec _ p 4 0 0 k = u
  have hrec : u.stock = s.stock := hu ▸ (State.holdRec_quiet _ p 4 0 0 k rfl).stock.trans
    (State.plotInt_quiet _ p 4 (State.setBit_quiet s _ 1 rfl)).stock
  have hsent : (if send then u.floodCtl p 0x14 0 0 k 0 else u).stock = s.stock :=
    State.ite_stock (State.flood_stock.trans hrec) hrec
  exact State.ite_stock rfl (State.ite_stock (State.faultStop_stock.trans hsent) hsent)

theorem State.passError_stock {block cause loc unit : Nat} : (s.passError p k block cause loc unit).stock = s.stock :=
  State.ite_stock rfl (State.ite_stock State.divergePass_stock (State.ite_stock rfl State.flood_stock))

/-! ## Injections, control triples and buckets (R461, R469, R471) -/

/-- What is armed is no part of the stock. -/
theorem State.stock_inject {l : List Inject} : ({ s with inject := l } : State).stock = s.stock := rfl

theorem State.takeInjects_stock {reg : Nat} {pick : Nat → Bool} : (s.takeInjects reg pick).2.stock = s.stock := by
  unfold State.takeInjects
  dsimp only
  split
  · rfl
  · exact (State.setBit_quiet _ reg 30 (State.clrBit_quiet _ reg 31 rfl)).stock.trans State.stock_inject

theorem State.injectAt_stock {reg : Nat} {pick : Nat → Bool} {corrupt : Nat → State → State} {cond : Nat → Nat → State → State}
    (hc : ∀ b t, (corrupt b t).stock = t.stock) (hd : ∀ a b t, (cond a b t).stock = t.stock) :
    (s.injectAt reg pick corrupt cond).stock = s.stock := by
  refine State.ite_stock rfl ((foldl_keeps State.stock (fun t i => ?_) _ _).trans State.takeInjects_stock)
  split
  · exact hc _ _
  · exact hc _ _
  · exact hd _ _ _

theorem State.glnCond_stock {cause space index : Nat} : (s.glnCond cause space index plot).stock = s.stock := by
  have hr := State.raiseGln_quiet s cause space index plot (κ := s) rfl
  unfold State.glnCond
  dsimp only
  split
  iterate 6 exact (State.count_quiet _ _ hr).stock
  exact hr.stock

theorem State.glnMeet_stock {pick : Nat → Bool} {corrupt : Nat → Nat → State → State}
    (hc : ∀ a b t, (corrupt a b t).stock = t.stock) : (s.glnMeet plot pick corrupt).stock = s.stock := by
  refine State.ite_stock rfl ((foldl_keeps State.stock (fun t i => ?_) _ _).trans State.takeInjects_stock)
  split
  · exact hc _ _ _
  · exact hc _ _ _
  · exact State.glnCond_stock

theorem State.vote_stock {e : Nat × Nat} : (s.vote e).stock = s.stock := by
  have hr := fun cause => State.raiseGln_quiet s cause 7 e.1 none (κ := s) rfl
  refine State.ite_stock (State.count_quiet _ _ (hr 5)).stock ?_
  exact (foldl_keeps (g := State.sweepRestart) State.stock (fun _ _ => rfl) _ _).trans
    (State.ite_stock (State.rgReset_quiet _ _ (hr 6)).stock (hr 6).stock)

theorem State.useTriple_stock {reg : Nat} : (s.useTriple reg).stock = s.stock := by
  have hm : (s.glnMeet none (fun a => a == 7 * 2 ^ 28 + reg) fun _ bits s =>
      { s with gln := { s.gln with upset := cset 0 s.gln.upset reg bits } }).stock = s.stock :=
    State.glnMeet_stock fun _ _ _ => rfl
  exact State.ite_stock rfl (State.ite_stock hm (State.vote_stock.trans hm))

theorem State.bucket_stock {cls reg : Nat} : (s.bucket cls reg).stock = s.stock :=
  State.ite_stock State.useTriple_stock (State.ite_stock State.useTriple_stock State.useTriple_stock)

/-! ## Conditions of a furrow (R106) -/

theorem State.furCause_stock {phys cause st b : Nat} : (s.furCause p phys cause st b).stock = s.stock := by
  have hr := fun loc m => State.raiseFur_quiet s phys cause loc (some p) m (κ := s) rfl
  exact State.ite_stock (State.passError_stock.trans (hr _ _).stock)
    (State.ite_stock (State.bucket_stock.trans (State.count_quiet _ _ (hr _ _)).stock) (hr _ _).stock)

/-! ## Checks of HBM words (R149-R151) -/

theorem State.memEvent_stock {cause : Nat} : (s.memEvent cause addr plot n).stock = s.stock :=
  State.bucket_stock.trans (State.count_quiet _ _ (State.raiseMem_quiet s _ _ _ _ _ rfl)).stock

theorem State.memUe_stock : (s.memUe addr plot n).stock = s.stock := (State.memUe_quiet s addr plot n rfl).stock

theorem State.rowCount_stock : (s.rowCount addr).stock = s.stock := by
  unfold State.rowCount
  dsimp only
  exact State.ite_stock ((State.remapRequest_quiet _ _ _ rfl).stock.trans State.useTriple_stock) State.useTriple_stock

theorem State.memRaise_stock {cause : Nat} {sched : Bool} : (s.memRaise cause addr plot n sched).stock = s.stock := by
  have h1 : (if cause = 0 ∨ cause = 6 then s.memEvent cause addr plot n else if cause = 1 then s.memUe addr plot n
      else s.raiseMem (pcOf addr) cause (pcOffset addr) plot n).stock = s.stock :=
    State.ite_stock State.memEvent_stock (State.ite_stock State.memUe_stock (State.raiseMem_quiet s _ _ _ _ _ rfl).stock)
  unfold State.memRaise
  dsimp only
  split
  · exact State.ite_stock (State.passError_stock.trans h1) h1
  · exact h1

theorem State.memInject_stock {sched : Bool} : (s.memInject addr plot n sched).stock = s.stock :=
  have hg : (s.glnTouchHbm (eccWord addr) plot).stock = s.stock := State.glnMeet_stock fun _ _ _ => rfl
  (State.injectAt_stock (corrupt := fun bits s => s.upsetItem Item.hbmWord (eccWord addr) bits)
    (cond := fun cause _ s => s.memRaise cause addr plot n sched) (fun _ _ => rfl) fun _ _ _ => State.memRaise_stock).trans hg

theorem State.dataLoss_stock : (s.dataLoss addr p n).stock = s.stock := by
  have hr := (State.record_quiet _ 0x13 1 (some p) n [pcOf addr * 2 ^ 24 + pcOffset addr]
    (State.plotInt_quiet _ p 0 (State.setBit_quiet s (Reg.PLT_MEM_STAT p) 2 rfl))).stock
  exact State.ite_stock hr hr

theorem State.poison_stock : (s.poison addr plot n).stock = s.stock := by
  have h1 : (((s.hbmMarkSet addr 3).unsuspect addr).raiseMem (pcOf addr) 2 (pcOffset addr) plot n).stock = s.stock :=
    (State.raiseMem_quiet _ _ _ _ _ _ rfl).stock
  unfold State.poison
  dsimp only
  split
  · exact (State.record_quiet _ _ _ _ _ _ rfl).stock.trans h1
  · exact State.dataLoss_stock.trans h1

/-- A scheduled read of an ECC word of DRAM leaves the memories alone. -/
theorem State.scheduledCheck_stock : (s.scheduledCheck p n addr).2.stock = s.stock := by
  have hi : (s.memInject addr (some p) n true).stock = s.stock := State.memInject_stock
  unfold State.scheduledCheck
  dsimp only
  split
  · exact hi
  · exact State.rowCount_stock.trans (State.memEvent_stock.trans hi)
  · have hue := (State.memUe_stock (addr := addr) (plot := some p) (n := n)).trans hi
    split
    · exact State.poison_stock.trans hue
    · have hpe := State.passError_stock (p := p) (k := n) (block := Block.mem) (cause := 1)
        (loc := pcOf addr * 2 ^ 24 + pcOffset addr) (unit := pcOf addr) |>.trans hue
      exact State.ite_stock (State.poison_stock.trans hpe) hpe
  · exact (State.poisonRead_quiet _ addr _ n rfl).stock.trans hi

end

end Sys2Proof.Machine

end

section

/-!
# The return of a scheduled read

SUPPORT for O12 (spec R135, R139, R141, R145, R150, R421).
-/

namespace Sys2Proof.Machine
open Sys2Proof

section
variable {s : State} {r : HbmRead} {n i : Nat}

/-- `setNth` is the library's `List.set`. -/
theorem setNth_eq_set {α : Type} {l : List α} {n : Nat} {v : α} : setNth l n v = l.set n v := by
  induction l generalizing n with
  | nil => rfl
  | cons x xs ih =>
    cases n with
    | zero => rfl
    | succ n => exact congrArg (x :: ·) ih

/-! ## The values of a read, ECC word by ECC word (R135, R145, R150) -/

/-- The values of an ECC word of a read as its data holds them. -/
def HbmRead.wordVals (r : HbmRead) (i : Nat) : List Val :=
  if r.twoVal then unpackBits 64 (leNat (r.word.getD [])) else unpackVals 32 (leNat (((r.word.getD []).drop (8 * i)).take 8))

/-- The check of an ECC word of a read: what the write queue answered does not go to DRAM. -/
def HbmRead.checkWord (r : HbmRead) (s : State) (i : Nat) : Bool × State :=
  if nth false r.forwarded i then (false, s) else s.scheduledCheck r.plot r.issuePn (r.addr + 8 * i)

/-- One ECC word of a read after those before it: its values, lost where the check says so. -/
def HbmRead.addWord (r : HbmRead) (acc : List Val × State) (i : Nat) : List Val × State :=
  (acc.1 ++ if (r.checkWord acc.2 i).1 then List.replicate (if r.twoVal then 64 else 32) (if r.twoVal then Val.v0 else .vx)
    else r.wordVals i, (r.checkWord acc.2 i).2)

theorem State.readValues_eq : s.readValues r =
    (((natsFrom 0 (if r.twoVal then 1 else 2)).foldl r.addWord ([], s)).1.take r.dcnt,
      ((natsFrom 0 (if r.twoVal then 1 else 2)).foldl r.addWord ([], s)).2) := rfl

theorem HbmRead.addWord_stock {acc : List Val × State} : (r.addWord acc i).2.stock = acc.2.stock := by
  unfold HbmRead.addWord HbmRead.checkWord
  split
  · rfl
  · exact State.scheduledCheck_stock

theorem HbmRead.addWord_forwarded {acc : List Val × State} (h : r.forwarded[i]? = some true) :
    r.addWord acc i = (acc.1 ++ r.wordVals i, acc.2) := by
  have hc : r.checkWord acc.2 i = (false, acc.2) := if_pos (by rw [nth, h]; rfl)
  rw [HbmRead.addWord, hc]
  rfl

/-- The check of what a read finds in DRAM leaves the memories alone. -/
theorem State.readValues_stock : (s.readValues r).2.stock = s.stock :=
  foldl_keeps (fun acc : List Val × State => acc.2.stock) (fun _ _ => HbmRead.addWord_stock) _ _

/-- A read that the write queue answered has the values of its word, and no more than DCNT. -/
theorem State.readValues_forwarded (h : ∀ i, i < (if r.twoVal then 1 else 2) → r.forwarded[i]? = some true) :
    s.readValues r = ((if r.twoVal then unpackBits 64 (leNat (r.word.getD []))
      else unpackVals 32 (leNat ((r.word.getD []).take 8)) ++ unpackVals 32 (leNat (((r.word.getD []).drop 8).take 8))).take r.dcnt,
      s) := by
  rw [State.readValues_eq]
  cases ht : r.twoVal <;> simp only [ht, if_true, Bool.false_eq_true, if_false] at h ⊢
  · simp [natsFrom, HbmRead.addWord_forwarded (h 0 (by omega)), HbmRead.addWord_forwarded (h 1 (by omega)), HbmRead.wordVals, ht]
  · simp [natsFrom, HbmRead.addWord_forwarded (h 0 (by omega)), HbmRead.wordVals, ht]

/-! ## HBM_READ_RETURN (R139, R141) -/

/-- The return of a read that has its values, that lost its data or that has been delivered does nothing. -/
theorem exec_hbmReadReturn_idle (hr : s.hbm.reads[n]? = some r) (h : r.vals.isSome ∨ r.word = none ∨ r.delivered = true) :
    exec (.hbmReadReturn n) s = .next s := by
  show execHbmReadReturn n s = _
  rw [execHbmReadReturn, hr]
  exact congrArg _ (if_pos h)

/-- The state after the return of a read: its values stand in the return buffer. -/
def State.readReturned (s : State) (n : Nat) (r : HbmRead) : State :=
  { (s.readValues r).2 with hbm := { (s.readValues r).2.hbm with
      reads := setNth (s.readValues r).2.hbm.reads n { r with vals := some (s.readValues r).1 } } }

theorem exec_hbmReadReturn (hr : s.hbm.reads[n]? = some r) (hv : r.vals = none) (hd : r.delivered = false) (hw : r.word ≠ none) :
    exec (.hbmReadReturn n) s = .next (s.readReturned n r) := by
  show execHbmReadReturn n s = _
  rw [execHbmReadReturn, hr]
  exact congrArg _ (if_neg (by simp [hv, hd, hw]))

theorem State.readReturned_reads :
    (s.readReturned n r).hbm.reads = s.hbm.reads.set n { r with vals := some (s.readValues r).1 } := by
  rw [← State.reads_of_stock (s := s) State.readValues_stock]
  exact setNth_eq_set

/-- A read whose words all came from the write queue changes nothing but the return buffer. -/
theorem State.readReturned_forwarded (h : (s.readValues r).2 = s) :
    (s.readReturned n r).fur = s.fur ∧ (s.readReturned n r).plots = s.plots := by
  rw [State.readReturned, h]
  exact ⟨rfl, rfl⟩

end

end Sys2Proof.Machine

end

section

/-!
# The memory return registers

SUPPORT for O12: what a delivery loads, to which furrow, and what it leaves (spec R86, R92, R138).
-/

namespace Sys2Proof.Machine
open Sys2Proof

section
variable {s : State} {m : Cells Val} {p phys j k : Nat} {vs : List Val}

/-- What a delivery of values loads: 64 values, X beyond those that are given. -/
def retVals (vs : List Val) : List Val := (vs ++ List.replicate 64 Val.vx).take 64

/-- The memory return registers after a delivery, a physical furrow with its values. -/
def retLoad (m : Cells Val) (e : Nat × List Val) : Cells Val := csetList .vx m (e.1 * 64) (retVals e.2)

theorem retVals_length : (retVals vs).length = 64 := by simp [retVals]

theorem getD_retVals (h : j < 64) : ((retVals vs)[j]?).getD .vx = (vs[j]?).getD .vx := by
  rw [retVals, List.getElem?_take_of_lt h, List.getElem?_append]
  split
  · rfl
  · rw [List.getElem?_eq_none (l := vs) (by omega), List.getElem?_replicate]
    split <;> rfl

theorem retLoad_wf {e : Nat × List Val} (h : cellsWf .vx m = true) : cellsWf .vx (retLoad m e) = true := Laws.csetList_wf h

/-- A delivery gives the furrow's register its values and leaves the others. -/
theorem cget_retLoad {e : Nat × List Val} (h : cellsWf .vx m = true) :
    cget .vx (retLoad m e) k = if k / 64 = e.1 then (e.2[k % 64]?).getD .vx else cget .vx m k := by
  rw [retLoad, cget_csetList h, retVals_length]
  by_cases hk : k / 64 = e.1
  · rw [if_pos (by omega), if_pos hk, show k - e.1 * 64 = k % 64 by omega, getD_retVals (Nat.mod_lt _ (by decide))]
  · rw [if_neg (by omega), if_neg hk]

theorem retLoads_wf {l : List (Nat × List Val)} (h : cellsWf .vx m = true) : cellsWf .vx (l.foldl retLoad m) = true := by
  induction l generalizing m with
  | nil => exact h
  | cons e l ih => exact ih (retLoad_wf h)

/-- Deliveries to other furrows leave a register as it is. -/
theorem cget_retLoads_out {l : List (Nat × List Val)} (hm : cellsWf .vx m = true) (h : ∀ e ∈ l, k / 64 ≠ e.1) :
    cget .vx (l.foldl retLoad m) k = cget .vx m k := by
  induction l generalizing m with
  | nil => rfl
  | cons e l ih =>
    rw [List.foldl_cons, ih (retLoad_wf hm) fun x hx => h x (List.mem_cons_of_mem _ hx), cget_retLoad hm,
      if_neg (h e (List.mem_cons_self ..))]

/-- Where all deliveries to a furrow bring the same values, its register holds them. -/
theorem cget_retLoads_in {l : List (Nat × List Val)} {e : Nat × List Val} (hm : cellsWf .vx m = true) (he : e ∈ l)
    (hu : ∀ x ∈ l, x.1 = e.1 → x.2 = e.2) (hk : k / 64 = e.1) :
    cget .vx (l.foldl retLoad m) k = (e.2[k % 64]?).getD .vx := by
  induction l generalizing m with
  | nil => exact absurd he List.not_mem_nil
  | cons x l ih =>
    have hrest : ∀ x ∈ l, x.1 = e.1 → x.2 = e.2 := fun y hy => hu y (List.mem_cons_of_mem _ hy)
    rw [List.foldl_cons]
    by_cases hl : ∃ y ∈ l, y.1 = e.1
    · obtain ⟨y, hy, hye⟩ := hl
      exact ih (retLoad_wf hm) (Prod.ext hye (hrest y hy hye) ▸ hy) hrest
    · have hout : ∀ y ∈ l, k / 64 ≠ y.1 := fun y hy h => hl ⟨y, hy, h ▸ hk⟩
      have hx : x = e := by
        rcases List.mem_cons.1 he with h | h
        · exact h.symm
        · exact absurd ⟨e, h, rfl⟩ hl
      rw [cget_retLoads_out (retLoad_wf hm) hout, cget_retLoad hm, hx, if_pos hk]

/-! ## A load changes the memory return registers and their tags (R86, R236) -/

theorem State.memRetLoad_fur : ∃ x : FurMem, s.memRetLoad p phys vs = { s with fur := x } ∧
    x.memRet = retLoad s.fur.memRet (phys, vs) ∧ x.ramReads = s.fur.ramReads := by
  unfold State.memRetLoad
  dsimp only
  split
  · exact ⟨_, rfl, rfl, rfl⟩
  · exact ⟨_, rfl, rfl, rfl⟩

/-- Loads one after the other change nothing but the registers of the furrows. -/
theorem State.memRetLoads_fur {α : Type} {f : α → Nat × List Val} {l : List α} :
    ∃ x : FurMem, l.foldl (fun s r => s.memRetLoad p (f r).1 (f r).2) s = { s with fur := x } ∧
      x.memRet = (l.map f).foldl retLoad s.fur.memRet := by
  induction l generalizing s with
  | nil => exact ⟨s.fur, rfl, rfl⟩
  | cons r l ih =>
    obtain ⟨x, hx, hret, -⟩ := State.memRetLoad_fur (s := s) (p := p) (phys := (f r).1) (vs := (f r).2)
    obtain ⟨y, hy, hys⟩ := ih (s := { s with fur := x })
    refine ⟨y, ?_, ?_⟩
    · rw [List.foldl_cons, hx, hy]
    · rw [hys, List.map_cons, List.foldl_cons]
      exact congrArg (fun m => (l.map f).foldl retLoad m) hret

/-! ## FURROW_RAM_RETURN (R90, R92) -/

/-- The furrow RAM reads of a plot that are due at a step of its pass, but those on which an HBM return falls. -/
def State.ramDue (s : State) (p st : Nat) : List RamRead :=
  s.fur.ramReads.filter fun q =>
    q.due == st && q.pn == (s.plot p).tm.pn && (s.plot p).res.furrows.contains q.furrow && !s.hbmReturnAt q.furrow q.pn st

theorem exec_furrowRamReturn {st : Nat} (h : (s.plot p).tm.phase = .step st) :
    ∃ x : FurMem, exec (.furrowRamReturn p) s = .next { s with fur := x } ∧
      x.memRet = ((s.ramDue p st).map fun r => (r.phys, r.vals)).foldl retLoad s.fur.memRet := by
  obtain ⟨x, hx, hret⟩ := State.memRetLoads_fur (s := s) (p := p) (l := s.ramDue p st) (f := fun r : RamRead => (r.phys, r.vals))
  refine ⟨x, ?_, hret⟩
  show Host.Outcome.next (s.ramReturns p) = _
  rw [State.ramReturns, h, ← hx]
  rfl

/-- Away from the steps of a pass nothing is delivered. -/
theorem exec_furrowRamReturn_idle (h : ∀ st, (s.plot p).tm.phase ≠ .step st) : exec (.furrowRamReturn p) s = .next s := by
  show Host.Outcome.next (s.ramReturns p) = _
  rw [State.ramReturns]
  split
  · exact absurd ‹_› (h _)
  · rfl

/-- What the register of a furrow holds after the furrow RAM reads of a step. -/
theorem cget_ramLoads {l : List RamRead} {r : RamRead} (hm : cellsWf .vx m = true) (hr : r ∈ l)
    (hu : ∀ q ∈ l, q.phys = r.phys → q = r) (hk : k < 64) :
    cget .vx ((l.map fun r => (r.phys, r.vals)).foldl retLoad m) (r.phys * 64 + k) = (r.vals[k]?).getD .vx := by
  have he : (r.phys, r.vals) ∈ l.map fun r => (r.phys, r.vals) := List.mem_map.2 ⟨r, hr, rfl⟩
  rw [cget_retLoads_in hm he (fun x hx hp => ?_) (by simp only; omega), show (r.phys * 64 + k) % 64 = k by omega]
  obtain ⟨q, hq, rfl⟩ := List.mem_map.1 hx
  rw [hu q hq hp]

end

end Sys2Proof.Machine

end

section

/-!
# The registers in which a late read is noted

SUPPORT for O12: a condition sets its bit whatever the register held, and the pass error that follows it leaves the status of
the memory as it is (spec R106, R138, R141, R185).
-/

namespace Sys2Proof.Machine
open Sys2Proof

section
variable {s t : State} {a p k n i : Nat}

/-- A bit that is clear at reset is set by `State.setBit` in any state: its register then differs from its reset value. -/
theorem State.bit_setBit_of_reset (h : (regReset a).toNat.testBit i = false) (hi : i < 32) : (s.setBit a i).bit a i = true := by
  have hb : (putFld (s.rn a) i 1 1).testBit i = true := by rw [putFld_testBit, if_pos (by omega), Nat.sub_self]; rfl
  have hw : (BitVec.ofNat 32 (putFld (s.rn a) i 1 1)).toNat.testBit i = true := by
    rw [BitVec.toNat_ofNat, Nat.testBit_mod_two_pow, hb, decide_eq_true hi]
    rfl
  have hne : BitVec.ofNat 32 (putFld (s.rn a) i 1 1) ^^^ regReset a ≠ 0 := by
    intro h0
    rw [BitVec.xor_eq_zero_iff.1 h0, h] at hw
    exact Bool.false_ne_true hw
  have hrg : (s.setBit a i).rg a = BitVec.ofNat 32 (putFld (s.rn a) i 1 1) := by
    rw [State.setBit, State.put, State.rnSet, State.rgSet, State.rg]
    dsimp only
    rw [cset, if_neg hne, Laws.cget_cput_same, BitVec.xor_assoc, BitVec.xor_self, BitVec.xor_zero]
  rw [State.bit, State.rn, hrg, hw]

theorem regReset_pcStat : ∀ pc < 64, (regReset (Reg.MEM_PC_STAT pc)).toNat.testBit 5 = false := by decide +kernel

theorem regReset_memStat : ∀ p < 16, (regReset (Reg.PLT_MEM_STAT p)).toNat.testBit 0 = false := by decide +kernel

/-- Both ways of a choice give a register one content. -/
theorem State.ite_rn {c : Prop} [Decidable c] {x : Nat} (h : s.rn a = x) (g : t.rn a = x) : (if c then s else t).rn a = x := by
  split <;> assumption

/-- The registers that a pass error of a plot does not write: no event is noted in them, and they are none of the exchange, of
the trace streams, nor the commit status or the interrupts of the plot. -/
def errorFree (p a : Nat) : Prop :=
  notedReg a = false ∧ a < 0xd0000 ∧ (a < 0x60000 ∨ 0x62000 ≤ a) ∧ a ≠ Reg.PLT_CMT_STAT p ∧ a ≠ Reg.PLT_INT_STAT p

theorem errorFree_pcStat (hn : n < 64) : errorFree p (Reg.MEM_PC_STAT n) := by
  unfold errorFree Reg.MEM_PC_STAT Reg.PLT_CMT_STAT Reg.PLT_INT_STAT
  exact ⟨notedReg_of_pcReg (by omega) (by omega), by omega, by omega, by omega, by omega⟩

theorem errorFree_memStat (hp : p < 16) : errorFree p (Reg.PLT_MEM_STAT p) := by
  unfold errorFree Reg.PLT_MEM_STAT Reg.PLT_CMT_STAT Reg.PLT_INT_STAT
  exact ⟨notedReg_of_plotReg (by unfold plotReg; omega), by omega, by omega, by omega, by omega⟩

section
variable (h : errorFree p a)
include h

theorem State.rn_ctrlQueue_errorFree {port ptype : Nat} {ws : List Word} : (s.ctrlQueue port ptype ws).rn a = s.rn a := by
  obtain ⟨hn, hx, -⟩ := h
  have hf : (findCnt CntRow.base (Reg.XCH_CNT 5) cntRows).map (fun x => (x.1.ovfAt x.2).1) = some 0xd0008 := by decide +kernel
  unfold State.ctrlQueue
  split
  · rfl
  · rw [State.rn_count (not_countsAt_of_map hf (by unfold Reg.XCH_CNT; omega) (by omega)), State.raiseXch,
      State.rn_raise_ne hn (by decide) (by unfold Reg.XCH_STAT; omega)]

theorem State.rn_flood_errorFree {ptype : Nat} {body : List Nat} : (s.flood p ptype body).rn a = s.rn a :=
  foldl_keeps (fun s : State => s.rn a) (fun _ _ => State.rn_ctrlQueue_errorFree h) _ _

theorem State.rn_hvtStop_errorFree {cause ft : Nat} (hp : p < 16) : (s.hvtStop p cause n ft).rn a = s.rn a := by
  obtain ⟨hn, -, hv, -⟩ := h
  unfold State.hvtStop
  dsimp only
  split
  · rw [State.rn_rnSet64_ne (by unfold Reg.HVT_STOP_PN_LO; omega) (by unfold Reg.HVT_STOP_PN_LO; omega),
      State.rn_put_ne _ _ _ _ _ _ (by unfold Reg.HVT_STAT; omega), State.rn_event hn]
  · rfl

theorem State.rn_finishWaiting_errorFree {st : Nat} (hp : p < 16) : (s.finishWaiting p st).rn a = s.rn a := by
  unfold State.finishWaiting
  dsimp only
  rw [State.rn_of_regs (State.onPlot_regs _ _ _), State.rn_of_regs State.makeReady_regs, State.rn_finishAll]
  split
  · rw [State.rn_hvtStop_errorFree h hp, State.rn_finishAll]
  · rw [State.rn_finishAll]

theorem State.rn_faultStop_errorFree {state st : Nat} (hp : p < 16) : (s.faultStop p state st).rn a = s.rn a := by
  obtain ⟨hn, -, -, hc, -⟩ := id h
  rw [State.faultStop, State.rn_plotState hn, State.rn_finishWaiting_errorFree h hp, State.rn_finishRuns,
    State.rn_clrBit_ne _ _ _ _ hc, State.cmtStateSet, State.rn_put_ne _ _ _ _ _ _ hc, State.rn_of_regs (State.onPlot_regs _ _ _)]

theorem State.rn_divergePass_errorFree {send : Bool} (hp : p < 16) : (s.divergePass p k send).rn a = s.rn a := by
  obtain ⟨hn, -, -, hc, hi⟩ := id h
  unfold State.divergePass
  dsimp only
  generalize hu : State.holdRec _ p 4 0 0 k = u
  have hrec : u.rn a = s.rn a := by
    rw [← hu, State.rn_holdRec hn, State.onCmt, State.rn_of_regs (State.onPlot_regs _ _ _), State.rn_plotInt hi,
      State.rn_setBit_ne _ _ _ _ hc]
  have hsent : (if send then u.floodCtl p 0x14 0 0 k 0 else u).rn a = s.rn a :=
    State.ite_rn ((State.rn_flood_errorFree h).trans hrec) hrec
  exact State.ite_rn rfl (State.ite_rn ((State.rn_faultStop_errorFree h hp).trans hsent) hsent)

/-- A pass error writes no register of `errorFree`. -/
theorem State.rn_passError {block cause loc unit : Nat} (hp : p < 16) : (s.passError p k block cause loc unit).rn a = s.rn a :=
  State.ite_rn rfl (State.ite_rn (State.rn_divergePass_errorFree h hp) (State.ite_rn rfl (State.rn_flood_errorFree h)))

end

end

end Sys2Proof.Machine

end

section

/-!
# Reads return and are delivered

PROVES O12 (spec R90, R92, R138-R150, R235, R421).
-/

namespace Sys2Proof.Machine
open Sys2Proof

section
variable {s t : State} {p i st : Nat} {r : HbmRead}

/-! ## The delivery of one read (R138, R141, R235) -/

/-- A read after its delivery: one whose data has not come has no data any more. -/
def HbmRead.done (r : HbmRead) : HbmRead := { r with delivered := true, word := if r.vals.isSome then r.word else none }

theorem State.memRetLoad_memRet {phys : Nat} {vs : List Val} :
    (s.memRetLoad p phys vs).fur.memRet = retLoad s.fur.memRet (phys, vs) := by
  obtain ⟨x, hx, hret, -⟩ := State.memRetLoad_fur (s := s) (p := p) (phys := phys) (vs := vs)
  rw [hx]
  exact hret

theorem State.memRetLoad_hbm {phys : Nat} {vs : List Val} : (s.memRetLoad p phys vs).hbm = s.hbm := by
  obtain ⟨x, hx, -⟩ := State.memRetLoad_fur (s := s) (p := p) (phys := phys) (vs := vs)
  rw [hx]

theorem State.memRetLoad_phys {phys l : Nat} {vs : List Val} : (s.memRetLoad p phys vs).phys l = s.phys l := by
  obtain ⟨x, hx, -⟩ := State.memRetLoad_fur (s := s) (p := p) (phys := phys) (vs := vs)
  rw [hx]
  rfl

/-- A furrow RAM read due at the same step is a conflict, which is noted and changes no memory (R92). -/
def State.retConflict (s : State) (p : Nat) (r : HbmRead) : State :=
  if s.fur.ramReads.any fun q => q.furrow == r.furrow && q.due == r.step && q.pn == (s.plot p).tm.pn then
    s.furCause p (s.phys r.furrow) 14 r.step 0 else s

theorem State.retConflict_stock : (s.retConflict p r).stock = s.stock := State.ite_stock State.furCause_stock rfl

/-- A read whose data has not come is noted late in the status of its channel and of its plot (R141). -/
def State.noteLate (s : State) (p pn : Nat) (r : HbmRead) : State :=
  (s.raiseMem r.pc 5 (pcOffset r.addr) (some p) pn).setBit (Reg.PLT_MEM_STAT p) 0

/-- A late read loads X, and its pass has an error. -/
def State.lateLoad (s : State) (p phys pn : Nat) (r : HbmRead) : State :=
  (((s.memRetLoad p phys []).furCause p phys 13 r.step 0).noteLate p pn r).passError p pn Block.mem 5
    (r.pc * 2 ^ 24 + pcOffset r.addr) r.pc

theorem State.lateLoad_stock {phys pn : Nat} : (s.lateLoad p phys pn r).stock = (s.memRetLoad p phys []).stock :=
  State.passError_stock.trans ((State.setBit_quiet _ _ _ (State.raiseMem_quiet _ _ _ _ _ _ rfl)).stock.trans State.furCause_stock)

/-- What a delivery loads: the values of the read, or nothing where they have not come. -/
def State.readLoad (s : State) (p : Nat) (r : HbmRead) : State :=
  match r.vals with
  | some vs => (s.retConflict p r).memRetLoad p (s.phys r.furrow) vs
  | none => (s.retConflict p r).lateLoad p (s.phys r.furrow) (s.plot p).tm.pn r

theorem State.deliverRead_eq : s.deliverRead p i r = { s.readLoad p r with
    hbm := { (s.readLoad p r).hbm with reads := setNth (s.readLoad p r).hbm.reads i r.done } } := rfl

theorem State.readLoad_stock :
    (s.readLoad p r).stock = ((s.retConflict p r).memRetLoad p (s.phys r.furrow) (r.vals.getD [])).stock := by
  unfold State.readLoad
  cases r.vals with
  | some vs => rfl
  | none => exact State.lateLoad_stock

/-- A delivery loads the furrow's memory return register, marks the read as delivered, and moves no furrow. -/
theorem State.deliverRead_frame :
    (s.deliverRead p i r).hbm.reads = s.hbm.reads.set i r.done ∧
    (s.deliverRead p i r).fur.memRet = retLoad s.fur.memRet (s.phys r.furrow, r.vals.getD []) ∧
    ∀ l, (s.deliverRead p i r).phys l = s.phys l := by
  have hl := State.readLoad_stock (s := s) (p := p) (r := r)
  have hc := State.retConflict_stock (s := s) (p := p) (r := r)
  rw [State.deliverRead_eq]
  refine ⟨?_, ?_, fun l => ?_⟩
  · dsimp only
    rw [setNth_eq_set, State.reads_of_stock hl, State.memRetLoad_hbm, State.reads_of_stock hc]
  · dsimp only
    rw [State.fur_of_stock hl, State.memRetLoad_memRet, State.fur_of_stock hc]
  · exact (State.phys_of_stock hl).trans (State.memRetLoad_phys.trans (State.phys_of_stock hc))

/-- A read that is delivered without its data sets LATE in its channel and in its plot. -/
theorem State.deliverRead_late (hv : r.vals = none) (hp : p < 16) (hc : r.pc < 64) :
    (s.deliverRead p i r).bit (Reg.MEM_PC_STAT r.pc) 5 = true ∧ (s.deliverRead p i r).bit (Reg.PLT_MEM_STAT p) 0 = true := by
  have hregs : (s.deliverRead p i r).regs =
      ((s.retConflict p r).lateLoad p (s.phys r.furrow) (s.plot p).tm.pn r).regs := by
    rw [State.deliverRead_eq, State.readLoad, hv]
  have hpc := errorFree_pcStat (p := p) hc
  rw [State.bit, State.bit, State.rn_of_regs hregs, State.rn_of_regs hregs, State.lateLoad, State.rn_passError hpc hp,
    State.rn_passError (errorFree_memStat hp) hp]
  refine ⟨?_, State.bit_setBit_of_reset (regReset_memStat p hp) (by decide)⟩
  rw [State.noteLate, State.rn_setBit_ne _ _ _ _ (by unfold Reg.MEM_PC_STAT Reg.PLT_MEM_STAT; omega), State.raiseMem,
    State.rn_raise hpc.1 (by decide)]
  exact State.bit_setBit_of_reset (regReset_pcStat r.pc hc) (by decide)

/-! ## All reads that are due (R138) -/

/-- A read of a plot is due at a step of its pass. -/
def State.readDue (s : State) (p st : Nat) (r : HbmRead) : Bool :=
  r.plot == p && r.pn == (s.plot p).tm.pn && r.step == st && !r.delivered

/-- The reads that are due, with their places in the return buffer. -/
def State.dueReads (s : State) (p st : Nat) : List (HbmRead × Nat) := s.hbm.reads.zipIdx.filter fun e => s.readDue p st e.1

theorem zip_natsFrom {α : Type} {l : List α} {n : Nat} : l.zip (natsFrom n l.length) = l.zipIdx n := by
  induction l generalizing n with
  | nil => rfl
  | cons x xs ih => exact congrArg ((x, n) :: ·) ih

theorem State.mem_dueReads {e : HbmRead × Nat} :
    e ∈ s.dueReads p st ↔ s.hbm.reads[e.2]? = some e.1 ∧ s.readDue p st e.1 = true := by
  rw [State.dueReads, List.mem_filter, List.mem_zipIdx_iff_getElem?]

theorem exec_hbmReturnDelivery (h : (s.plot p).tm.phase = .step st) :
    exec (.hbmReturnDelivery p) s = .next ((s.dueReads p st).foldl (fun s e => s.deliverRead p e.2 e.1) s) := by
  show Host.Outcome.next (s.hbmReturns p) = _
  rw [State.hbmReturns, h]
  dsimp only
  rw [zip_natsFrom, State.dueReads, List.foldl_filter]
  rfl

/-- What a list of deliveries loads, furrow by furrow. -/
def State.readLoads (s : State) (l : List (HbmRead × Nat)) : List (Nat × List Val) :=
  l.map fun e => (s.phys e.1.furrow, e.1.vals.getD [])

theorem State.deliverReads_frame {l : List (HbmRead × Nat)} :
    (l.foldl (fun s e => s.deliverRead p e.2 e.1) s).hbm.reads = l.foldl (fun rs e => rs.set e.2 e.1.done) s.hbm.reads ∧
    (l.foldl (fun s e => s.deliverRead p e.2 e.1) s).fur.memRet = (s.readLoads l).foldl retLoad s.fur.memRet := by
  induction l generalizing s with
  | nil => exact ⟨rfl, rfl⟩
  | cons e l ih =>
    obtain ⟨hreads, hret, hphys⟩ := State.deliverRead_frame (s := s) (p := p) (i := e.2) (r := e.1)
    obtain ⟨ihr, ihm⟩ := ih (s := s.deliverRead p e.2 e.1)
    refine ⟨?_, ?_⟩
    · rw [List.foldl_cons, ihr, hreads, List.foldl_cons]
    · have hl : (s.deliverRead p e.2 e.1).readLoads l = s.readLoads l := by simp only [State.readLoads, hphys]
      rw [List.foldl_cons, ihm, hret, hl]
      rfl

/-- An entry of the return buffer after deliveries, each of the read at its place: delivered where it is among them. -/
theorem getElem?_setDone {l : List (HbmRead × Nat)} {rs : List HbmRead} (hr : rs[i]? = some r) (hl : ∀ e ∈ l, e.2 = i → e.1 = r) :
    (l.foldl (fun rs e => rs.set e.2 e.1.done) rs)[i]? = some (if (r, i) ∈ l then r.done else r) := by
  suffices h : ∀ x, rs[i]? = some x →
      (l.foldl (fun rs e => rs.set e.2 e.1.done) rs)[i]? = some (if (r, i) ∈ l then r.done else x) from h r hr
  clear hr
  induction l generalizing rs with
  | nil => exact fun x hx => by simpa using hx
  | cons e l ih =>
    intro x hx
    obtain ⟨q, j⟩ := e
    have ih := ih (rs := rs.set j q.done) fun e he => hl e (List.mem_cons_of_mem _ he)
    rw [List.foldl_cons]
    by_cases hj : j = i
    · have hq : q = r := hl (q, j) (List.mem_cons_self ..) hj
      subst hj hq
      rw [if_pos (List.mem_cons_self ..), ih q.done (by rw [List.getElem?_set_self (List.getElem?_eq_some_iff.1 hx).1]), ite_self]
    · have hne : (r, i) ≠ (q, j) := fun h => hj (Prod.mk.inj h).2.symm
      rw [ih x (by rw [List.getElem?_set_ne hj, hx])]
      simp only [List.mem_cons, hne, false_or]

/-- Where one read alone is due, its delivery is all that happens. -/
theorem State.dueReads_single (hr : s.hbm.reads[i]? = some r) (hd : s.readDue p st r = true)
    (ho : ∀ j q, j ≠ i → s.hbm.reads[j]? = some q → s.readDue p st q = false) : s.dueReads p st = [(r, i)] := by
  have hnd : ((s.dueReads p st).map Prod.snd).Nodup :=
    (List.nodup_zipIdx_map_snd s.hbm.reads).sublist (List.filter_sublist.map Prod.snd)
  have hall : ∀ e ∈ s.dueReads p st, e = (r, i) := by
    intro e he
    obtain ⟨hq, hdue⟩ := State.mem_dueReads.1 he
    by_cases hj : e.2 = i
    · rw [hj, hr] at hq
      exact Prod.ext (Option.some.inj hq).symm hj
    · rw [ho e.2 e.1 hj hq] at hdue
      exact absurd hdue Bool.false_ne_true
  have hmem : (r, i) ∈ s.dueReads p st := State.mem_dueReads.2 ⟨hr, hd⟩
  rw [List.eq_replicate_of_mem hall] at hnd hmem ⊢
  rw [List.map_replicate, List.nodup_replicate] at hnd
  rw [List.mem_replicate] at hmem
  rw [show (s.dueReads p st).length = 1 by omega]
  rfl

end

section
variable {s : State} {p i st : Nat} {r : HbmRead}

/-- The delivery of a step of the schedule: what becomes of a read of the return buffer and of the memory return registers. -/
theorem hbmReturnDelivery_delivers (h : (s.plot p).tm.phase = .step st) (hr : s.hbm.reads[i]? = some r)
    (hm : cellsWf .vx s.fur.memRet = true) :
    ∃ t, exec (.hbmReturnDelivery p) s = .next t ∧ t.hbm.reads[i]? = some (if s.readDue p st r then r.done else r) ∧
      (s.readDue p st r = true →
        (∀ j q, j ≠ i → s.hbm.reads[j]? = some q → s.readDue p st q = true → s.phys q.furrow ≠ s.phys r.furrow) →
        ∀ k, k < 64 → cget .vx t.fur.memRet (s.phys r.furrow * 64 + k) = ((r.vals.getD [])[k]?).getD .vx) ∧
      (s.readDue p st r = true → (∀ j q, j ≠ i → s.hbm.reads[j]? = some q → s.readDue p st q = false) → r.vals = none →
        p < 16 → r.pc < 64 → t.bit (Reg.MEM_PC_STAT r.pc) 5 = true ∧ t.bit (Reg.PLT_MEM_STAT p) 0 = true) ∧
      ∀ k, (∀ q ∈ s.hbm.reads, s.readDue p st q = true → k / 64 ≠ s.phys q.furrow) →
        cget .vx t.fur.memRet k = cget .vx s.fur.memRet k := by
  obtain ⟨hreads, hret⟩ := State.deliverReads_frame (s := s) (p := p) (l := s.dueReads p st)
  refine ⟨_, exec_hbmReturnDelivery h, ?_, fun hd ho k hk => ?_, fun hd ho hv hp hc => ?_, fun k hk => ?_⟩
  · rw [hreads, getElem?_setDone hr fun e he hi => ?_]
    · simp only [State.mem_dueReads, hr, true_and]
    · obtain ⟨hq, -⟩ := State.mem_dueReads.1 he
      rw [hi, hr] at hq
      exact (Option.some.inj hq).symm
  · have he : (s.phys r.furrow, r.vals.getD []) ∈ s.readLoads (s.dueReads p st) :=
      List.mem_map.2 ⟨(r, i), State.mem_dueReads.2 ⟨hr, hd⟩, rfl⟩
    rw [hret, cget_retLoads_in hm he (fun x hx hxe => ?_) (by dsimp only; omega),
      show (s.phys r.furrow * 64 + k) % 64 = k by omega]
    obtain ⟨e, he, rfl⟩ := List.mem_map.1 hx
    obtain ⟨hq, hdue⟩ := State.mem_dueReads.1 he
    by_cases hj : e.2 = i
    · rw [hj, hr] at hq
      rw [Option.some.inj hq]
    · exact absurd hxe (ho e.2 e.1 hj hq hdue)
  · rw [State.dueReads_single hr hd ho]
    exact State.deliverRead_late hv hp hc
  · rw [hret, cget_retLoads_out hm fun x hx => ?_]
    obtain ⟨e, he, rfl⟩ := List.mem_map.1 hx
    obtain ⟨hq, hdue⟩ := State.mem_dueReads.1 he
    exact hk e.1 (List.mem_of_getElem? hq) hdue

/-- The delivery of the furrow RAM reads that are due at a step. -/
theorem furrowRamReturn_delivers (h : (s.plot p).tm.phase = .step st) (hm : cellsWf .vx s.fur.memRet = true) :
    ∃ t, exec (.furrowRamReturn p) s = .next t ∧ t.regs = s.regs ∧ t.plots = s.plots ∧ t.hbm = s.hbm ∧
      (∀ r ∈ s.ramDue p st, (∀ q ∈ s.ramDue p st, q.phys = r.phys → q = r) →
        ∀ k, k < 64 → cget .vx t.fur.memRet (r.phys * 64 + k) = (r.vals[k]?).getD .vx) ∧
      ∀ k, (∀ q ∈ s.ramDue p st, k / 64 ≠ q.phys) → cget .vx t.fur.memRet k = cget .vx s.fur.memRet k := by
  obtain ⟨x, hx, hret⟩ := exec_furrowRamReturn h
  refine ⟨_, hx, rfl, rfl, rfl, fun r hr hu k hk => ?_, fun k hk => ?_⟩
  · exact (congrArg (fun m => cget .vx m (r.phys * 64 + k)) hret).trans (cget_ramLoads hm hr hu hk)
  · refine (congrArg (fun m => cget .vx m k) hret).trans (cget_retLoads_out hm fun e he => ?_)
    obtain ⟨q, hq, rfl⟩ := List.mem_map.1 he
    exact hk q hq

end

/-- Settles O12: the return of a read is `exec_hbmReadReturn` with the frame `State.readReturned_reads` and, for one that the
write queue answered, `State.readValues_forwarded`; a delivery is `hbmReturnDelivery_delivers`, that of the furrow RAM reads
`furrowRamReturn_delivers`. -/
theorem readsReturnAndAreDelivered : Obligations.ReadsReturnAndAreDelivered := by
  refine ⟨fun s n r hr => ?_, fun s p i st r h hr hm => hbmReturnDelivery_delivers h hr hm, fun s p hm =>
    ⟨fun st h => furrowRamReturn_delivers h hm, exec_furrowRamReturn_idle⟩⟩
  have hlt : n < s.hbm.reads.length := (List.getElem?_eq_some_iff.1 hr).1
  have hself : (s.readReturned n r).hbm.reads[n]? = some { r with vals := some (s.readValues r).1 } := by
    rw [State.readReturned_reads, List.getElem?_set_self hlt]
  refine ⟨fun hv => exec_hbmReadReturn_idle hr (.inl hv), fun hw => exec_hbmReadReturn_idle hr (.inr (.inl hw)),
    fun hv hd hw => ⟨_, exec_hbmReadReturn hr hv hd hw, hself, fun i hi => ?_⟩, fun hv hd hw hf => ?_,
    fun hd => exec_hbmReadReturn_idle hr (.inr (.inr hd))⟩
  · rw [State.readReturned_reads, List.getElem?_set_ne hi.symm]
  · have hvals := State.readValues_forwarded (s := s) hf
    obtain ⟨hfur, hplots⟩ := State.readReturned_forwarded (n := n) (by rw [hvals])
    rw [hvals] at hself
    exact ⟨_, exec_hbmReadReturn hr hv hd hw, hfur, hplots, hself⟩

end Sys2Proof.Machine

end

section

/-!
# Host memory that is all translated

SUPPORT for O28: where the host has refused and withdrawn no page, a DMA reaches its end, and changes the translation cache and
the requests that the host sees alone (spec R375, R406, R407).
-/

namespace Sys2Proof.Machine
open Sys2Proof

section
variable {s t : State} {fn req page addr n size start k : Nat}

/-- States that differ in the translation cache and in the requests that the host sees alone. -/
def State.Translated (s t : State) : Prop :=
  ∃ (atc : List (Nat × Nat × Nat)) (ats : List (HostReq × Nat × Nat)),
    t = { s with host := { s.host with atc := atc }, out := { s.out with ats := ats } }

theorem State.Translated.refl : s.Translated s := ⟨s.host.atc, s.out.ats, rfl⟩

theorem State.Translated.trans {u : State} (h : s.Translated t) (g : t.Translated u) : s.Translated u := by
  obtain ⟨_, _, rfl⟩ := h
  obtain ⟨a, o, rfl⟩ := g
  exact ⟨a, o, rfl⟩

theorem State.Translated.refused (h : s.Translated t) : t.host.refused = s.host.refused := by
  obtain ⟨_, _, rfl⟩ := h
  rfl

theorem State.Translated.withdrawn (h : s.Translated t) : t.host.withdrawn = s.host.withdrawn := by
  obtain ⟨_, _, rfl⟩ := h
  rfl

/-- What a translation keeps: all that `Good` speaks of. -/
theorem State.Translated.good {κ : Kept} (h : s.Translated t) (hg : Good κ s) : Good κ t := by
  obtain ⟨_, _, rfl⟩ := h
  exact good_updHost hg

theorem State.Translated.hostReq {r : HostReq} (h : s.Translated t) : s.Translated (t.hostReq r fn page) :=
  h.trans ⟨t.host.atc, _, rfl⟩

theorem State.Translated.atcPut (h : s.Translated t) : s.Translated (t.atcPut fn req page) := h.trans ⟨_, t.out.ats, rfl⟩

/-- A host that refuses no page and has withdrawn none gives every page that is asked for. -/
theorem State.hostGives_all (hr : s.host.refused = []) (hw : s.host.withdrawn = []) : s.hostGives fn page = (true, s) := by
  rw [State.hostGives, hr, hw]
  rfl

theorem State.translate_all (hr : s.host.refused = []) (hw : s.host.withdrawn = []) :
    (s.translate fn req page).1 = true ∧ s.Translated (s.translate fn req page).2 := by
  unfold State.translate
  split
  · exact ⟨by rw [hr]; rfl, .hostReq .refl⟩
  · split
    · exact ⟨rfl, .hostReq (.atcPut .refl)⟩
    · have hg : (s.hostReq .translation fn page).hostGives fn page = (true, s.hostReq .translation fn page) :=
        State.hostGives_all hr hw
      rw [hg]
      exact ⟨rfl, .hostReq (.atcPut (.hostReq .refl))⟩

theorem State.translateRange_all (hr : s.host.refused = []) (hw : s.host.withdrawn = []) :
    (s.translateRange fn addr n).1 = none ∧ s.Translated (s.translateRange fn addr n).2 := by
  unfold State.translateRange
  split
  · exact ⟨rfl, .refl⟩
  · refine foldl_inv (P := fun x : Option Nat × State => x.1 = none ∧ s.Translated x.2) ⟨rfl, .refl⟩ fun x page _ h => ?_
    obtain ⟨o, u⟩ := x
    obtain ⟨rfl, hu⟩ : o = none ∧ s.Translated u := h
    obtain ⟨hok, ht⟩ := State.translate_all (s := u) (fn := fn) (req := dmaReq) (page := page) (hu.refused.trans hr)
      (hu.withdrawn.trans hw)
    exact ⟨if_pos hok, hu.trans ht⟩

/-- A DMA reaches its last byte, and no page fails. -/
theorem State.dmaUnits_all (hr : s.host.refused = []) (hw : s.host.withdrawn = []) :
    ∃ t, s.dmaUnits fn addr n size start k = (n, none, t) ∧ s.Translated t := by
  induction k generalizing s start with
  | zero => exact ⟨s, rfl, .refl⟩
  | succ k ih =>
    unfold State.dmaUnits
    dsimp only
    split
    · exact ⟨s, rfl, .refl⟩
    · obtain ⟨hn, ht⟩ := State.translateRange_all (s := s) (fn := fn) (addr := addr + start * size)
        (n := min size (n - start * size)) hr hw
      generalize s.translateRange fn (addr + start * size) (min size (n - start * size)) = x at hn ht
      obtain ⟨o, u⟩ := x
      obtain rfl : o = none := hn
      obtain ⟨t, he, hu⟩ := ih (s := u) (start := start + 1) (ht.refused.trans hr) (ht.withdrawn.trans hw)
      exact ⟨t, he, State.Translated.trans ht hu⟩

theorem State.dma_all (hr : s.host.refused = []) (hw : s.host.withdrawn = []) :
    ∃ t, s.dma fn addr n size start = (n, none, t) ∧ s.Translated t := State.dmaUnits_all hr hw

end

end Sys2Proof.Machine

end
section

/-!
# Bytes of a furrow's RAM

SUPPORT for O28: the bytes of one word of furrow RAM, read together or one by one, are the same (spec R7, R8, R89, R95).
-/

namespace Sys2Proof.Machine
open Sys2Proof

section
variable {s : State} {p phys off n j : Nat}

/-! ## Packed values (R7, R8) -/

theorem valBits_lt (v : Val) : valBits v < 4 := by cases v <;> decide

theorem packVals_drop {vs : List Val} {k : Nat} : packVals (vs.drop k) = packVals vs / 4 ^ k := by
  induction k generalizing vs with
  | zero => simp
  | succ k ih =>
    cases vs with
    | nil => simp [packVals]
    | cons v vs =>
      have hv := valBits_lt v
      rw [List.drop_succ_cons, ih, packVals, Nat.pow_succ', ← Nat.div_div_eq_div_mul]
      congr 1
      omega

theorem packVals_take {vs : List Val} {k : Nat} : packVals (vs.take k) = packVals vs % 4 ^ k := by
  induction k generalizing vs with
  | zero => simp [packVals, Nat.mod_one]
  | succ k ih =>
    cases vs with
    | nil => simp [packVals]
    | cons v vs =>
      have hv := valBits_lt v
      rw [List.take_succ_cons, packVals, ih, packVals, Nat.pow_succ', Nat.mod_mul]
      rw [show (valBits v + 4 * packVals vs) % 4 = valBits v by omega,
        show (valBits v + 4 * packVals vs) / 4 = packVals vs by omega]

theorem leBytes_length {x : Nat} : (leBytes n x).length = n := by
  induction n generalizing x with
  | zero => rfl
  | succ n ih => rw [leBytes, List.length_cons, ih]

theorem getElem?_leBytes {x : Nat} (h : j < n) : (leBytes n x)[j]? = some (BitVec.ofNat 8 (x / 256 ^ j)) := by
  induction n generalizing x j with
  | zero => omega
  | succ n ih =>
    cases j with
    | zero => simp [leBytes]
    | succ j => rw [leBytes, List.getElem?_cons_succ, ih (by omega), Nat.div_div_eq_div_mul, Nat.pow_succ']

/-- Byte j of packed values packs the four values from 4j on. -/
theorem getElem?_leBytes_packVals {vs : List Val} (h : j < n) :
    (leBytes n (packVals (vs.take (4 * n))))[j]? = (leBytes 1 (packVals ((vs.drop (4 * j)).take 4)))[0]? := by
  rw [getElem?_leBytes h, getElem?_leBytes (by decide), packVals_take, packVals_take, packVals_drop,
    show (256 : Nat) = 4 ^ 4 by decide, ← Nat.pow_mul, ← Nat.pow_mul, Nat.mul_zero, Nat.pow_zero, Nat.div_one,
    show 4 * n = 4 * j + 4 * (n - j) by omega, Nat.pow_add, Nat.mod_mul_right_div_self]
  have hd : (4 : Nat) ^ 4 ∣ 4 ^ (4 * (n - j)) := Nat.pow_dvd_pow 4 (by omega)
  refine congrArg some (BitVec.eq_of_toNat_eq ?_)
  rw [BitVec.toNat_ofNat, BitVec.toNat_ofNat, show (2 : Nat) ^ 8 = 4 ^ 4 by decide, Nat.mod_mod, Nat.mod_mod_of_dvd _ hd]

/-! ## A read inside one word (R89, R95) -/

theorem shapeWidth_cases (k : Nat) : shapeWidth k = 1 ∨ shapeWidth k = 8 ∨ shapeWidth k = 32 ∨ shapeWidth k = 64 := by
  unfold shapeWidth
  split
  · exact .inl rfl
  · exact .inr (.inl rfl)
  · exact .inr (.inr (.inl rfl))
  · exact .inr (.inr (.inr rfl))

/-- Bytes inside one word are those of its values. -/
theorem State.ramBytesView_word (hn : 0 < n) (hw : 1 < shapeWidth (s.ramShape phys))
    (hu : n ≤ ramBytes (s.ramShape phys) - off % ramBytes (s.ramShape phys)) :
    s.ramBytesView p phys off n = leBytes n (packVals (((s.ramView p phys
      (off / ramBytes (s.ramShape phys) * shapeWidth (s.ramShape phys)) (shapeWidth (s.ramShape phys))).drop
        (4 * (off % ramBytes (s.ramShape phys)))).take (4 * n))) := by
  unfold State.ramBytesView
  generalize hk : s.ramShape phys = k at hw hu ⊢
  have hfirst : 4 * off / shapeWidth k = off / ramBytes k ∧
      (4 * (off + n) + shapeWidth k - 1) / shapeWidth k = off / ramBytes k + 1 ∧
      4 * off - off / ramBytes k * shapeWidth k = 4 * (off % ramBytes k) := by
    unfold ramBytes at hu ⊢
    rcases shapeWidth_cases k with h | h | h | h
    · omega
    all_goals
      rw [h] at hu ⊢
      norm_num at hu ⊢
      omega
  obtain ⟨h1, h2, h3⟩ := hfirst
  dsimp only
  rw [h1, h2, h3, Nat.mul_div_cancel _ (by omega : 0 < shapeWidth k), Nat.add_sub_cancel_left]
  simp [natsFrom]

/-- A byte of a read inside one word of furrow RAM is the byte read alone. -/
theorem State.getElem?_ramBytesView (hj : j < n)
    (hu : n ≤ ramBytes (s.ramShape phys) - off % ramBytes (s.ramShape phys)) :
    (s.ramBytesView p phys off n)[j]? = (s.ramBytesView p phys (off + j) 1)[0]? := by
  rcases Nat.eq_or_lt_of_le (show 1 ≤ shapeWidth (s.ramShape phys) by
    rcases shapeWidth_cases (s.ramShape phys) with h | h | h | h <;> omega) with hw | hw
  · have hb : ramBytes (s.ramShape phys) = 1 := by rw [ramBytes, ← hw]; rfl
    rw [hb] at hu
    obtain ⟨rfl, rfl⟩ : j = 0 ∧ n = 1 := by omega
    rfl
  · generalize hk : s.ramShape phys = k at hu hw
    have hq : (off + j) / ramBytes k = off / ramBytes k ∧ (off + j) % ramBytes k = off % ramBytes k + j := by
      have hpos : 0 < ramBytes k := by unfold ramBytes; omega
      have hdm := Nat.div_add_mod off (ramBytes k)
      have hm := Nat.mod_lt off hpos
      have he : off + j = off % ramBytes k + j + ramBytes k * (off / ramBytes k) := by omega
      rw [he, Nat.add_mul_div_left _ _ hpos, Nat.add_mul_mod_self_left, Nat.div_eq_of_lt (by omega), Nat.mod_eq_of_lt (by omega)]
      omega
    obtain ⟨hdiv, hmod⟩ := hq
    rw [State.ramBytesView_word (by omega) (hk ▸ hw) (hk ▸ hu), State.ramBytesView_word (by omega) (hk ▸ hw)
      (by rw [hk, hmod]; omega), hk, hdiv, hmod, getElem?_leBytes_packVals hj, List.drop_drop, Nat.mul_add]

end

end Sys2Proof.Machine

end

section

/-!
# MEM_READ and MEM_WRITE that are admitted

SUPPORT for O28: the course of a memory command, unit by unit, to its end (spec R25, R95, R148).
-/

namespace Sys2Proof.Machine
open Sys2Proof

section
variable {s t : State} {p id n pos last k budget : Nat} {c : Cmd}

/-! ## The command is admitted, and DMA reaches all of its buffer (R148, R370, R375) -/

/-- A memory command with every page translated, as it begins. -/
def Cmd.reaching (c0 c : Cmd) : Cmd :=
  { c with pos := min c.memLength (c.dw 13 * kib4), total := c.memLength, mark := c0.memLength, result := 0 }

/-- Nothing turns a memory command away, and it begins at the start of its buffer. -/
structure State.MemAdmits (s : State) (c : Cmd) : Prop where
  ready : c.memSpace = 1 ∨ s.hbmStatus = 0
  sown : Sow.sown ≤ s.sow c.plot
  range : s.memRangeOk c.plot c = true
  free : ¬ ((c.memSpace = 1 ∧ s.gone c.plot = true) ∨
    (c.memSpace = 0 ∧ ((s.plot c.plot).res.map.any fun e => e.use == 1 && e.lifted) = true) ∨
    (c.memSpace = 2 ∧ (c.opc == 0x45) = true ∧ s.pagesBusy c.plot c = true))
  intime : ((c.opc == 0x45) && s.missed c.plot c) = false
  start : c.dw 13 = 0
  refused : s.host.refused = []
  withdrawn : s.host.withdrawn = []

/-- A plot takes the command only at a headland: a write waits also in a hold (R25, R370). -/
def State.memHeld (s : State) (c : Cmd) : Prop :=
  c.memSpace ≠ 2 ∧ (if c.opc == 0x45 then s.plotBusy c.plot else s.plotRuns c.plot) = true

/-- The state in which an admitted command begins: its buffer is translated, and its entry says so. -/
def State.MemBegins (s : State) (c : Cmd) (t : State) : Prop := ∃ u, s.Translated u ∧ t = u.onCmd c.id c.reaching

theorem State.memCmd_admitted (h : s.MemAdmits c) : ∃ t, s.MemBegins c t ∧ s.memCmd c =
    if c.memSpace ≠ 2 ∧ (if c.opc == 0x45 then s.plotBusy c.plot else s.plotRuns c.plot) = true then t.queueHost c.plot c.id
    else if (t.memStep (s.nextPass c.plot) (c.reaching c) (2 ^ 40)).2.1 then
      (t.memStep (s.nextPass c.plot) (c.reaching c) (2 ^ 40)).2.2.queueHost c.plot c.id
    else (t.memStep (s.nextPass c.plot) (c.reaching c) (2 ^ 40)).2.2 := by
  obtain ⟨u, he, hu⟩ := State.dma_all (fn := c.func) (addr := c.memHost) (n := c.memLength) (size := kib4) (start := c.dw 13)
    h.refused h.withdrawn
  refine ⟨_, ⟨u, hu, rfl⟩, ?_⟩
  have hready : ¬ (c.memSpace ≠ 1 ∧ s.hbmStatus ≠ 0) := fun ⟨h1, h2⟩ => h.ready.elim h1 h2
  unfold State.memCmd
  dsimp only
  rw [if_neg hready, if_neg (Nat.not_lt.2 h.sown), if_neg (by simp [h.range]), if_neg h.free, if_neg (by simp [h.intime]), he]
  simp only [Option.getD_none, Nat.zero_mul]
  rfl

theorem State.memCmd_held (h : s.MemAdmits c) (hw : s.memHeld c) :
    ∃ t, s.MemBegins c t ∧ s.memCmd c = t.queueHost c.plot c.id := by
  obtain ⟨t, ht, he⟩ := State.memCmd_admitted h
  exact ⟨t, ht, he.trans (if_pos hw)⟩

theorem State.memCmd_serves (h : s.MemAdmits c) (hw : ¬ s.memHeld c) :
    ∃ t, s.MemBegins c t ∧ s.memCmd c =
      if (t.memStep (s.nextPass c.plot) (c.reaching c) (2 ^ 40)).2.1 then
        (t.memStep (s.nextPass c.plot) (c.reaching c) (2 ^ 40)).2.2.queueHost c.plot c.id
      else (t.memStep (s.nextPass c.plot) (c.reaching c) (2 ^ 40)).2.2 := by
  obtain ⟨t, ht, he⟩ := State.memCmd_admitted h
  exact ⟨t, ht, he.trans (if_neg hw)⟩

/-! ## The units of a command (R25, R89, R148) -/

theorem State.memUnit_pos {off left : Nat} (h : 0 < left) : 0 < s.memUnit p c off left := by
  have hu : 0 < if c.memSpace = 1 then ramBytes (s.ramShape (s.phys (nfld (c.dw 7) 0 9))) else 16 := by
    unfold ramBytes
    split <;> omega
  exact lt_min h (Nat.sub_pos_of_lt (Nat.mod_lt _ hu))

theorem State.memUnit_le {off left : Nat} : s.memUnit p c off left ≤ left := Nat.min_le_left _ _

theorem State.memCost_le : s.memCost c ≤ 4 := by
  unfold State.memCost
  split <;> omega

/-- A command that serves each of its units, within the budget of four operations a byte, serves them all; what each unit keeps
holds at the end. -/
theorem State.memRun_induct {P : Nat → State → Prop}
    (hP : ∀ pos t, pos < last → P pos t → ∃ u, t.memServe n c pos (t.memUnit c.plot c (c.memOffset + pos) (last - pos)) =
      some (false, u) ∧ P (pos + t.memUnit c.plot c (c.memOffset + pos) (last - pos)) u)
    (h : P pos s) (hpos : pos ≤ last) (hk : last - pos ≤ k) (hb : 4 * (last - pos) ≤ budget) :
    ∃ b u, s.memRun n c last k pos budget = (last, b, false, false, u) ∧ P last u := by
  induction k generalizing s pos budget with
  | zero =>
    obtain rfl : pos = last := by omega
    exact ⟨budget, s, rfl, h⟩
  | succ k ih =>
    unfold State.memRun
    by_cases hend : last ≤ pos
    · obtain rfl : pos = last := by omega
      exact ⟨budget, s, if_pos le_rfl, h⟩
    · have hcost := State.memCost_le (s := s) (c := c)
      have hlen := State.memUnit_pos (s := s) (p := c.plot) (c := c) (off := c.memOffset + pos) (left := last - pos) (by omega)
      have hle := State.memUnit_le (s := s) (p := c.plot) (c := c) (off := c.memOffset + pos) (left := last - pos)
      obtain ⟨u, hu, hPu⟩ := hP pos s (by omega) h
      rw [if_neg hend]
      dsimp only
      rw [if_neg (by omega), hu]
      exact ih hPu (by omega) (by omega) (by omega)

/-- A command on a plot that need not wait, none of whose units waits or meets poisoned data, ends with its length. -/
theorem State.memCmd_ends {P : Nat → State → Prop} (h : s.MemAdmits c) (hw : ¬ s.memHeld c) (hb : 4 * c.memLength ≤ 2 ^ 40)
    (h0 : ∀ t, s.MemBegins c t → P 0 t)
    (hP : ∀ pos t, pos < c.memLength → P pos t →
      ∃ u, t.memServe (s.nextPass c.plot) (c.reaching c) pos (t.memUnit c.plot c (c.memOffset + pos) (c.memLength - pos)) =
        some (false, u) ∧ P (pos + t.memUnit c.plot c (c.memOffset + pos) (c.memLength - pos)) u) :
    ∃ u, P c.memLength u ∧ s.memCmd c = u.finishAt c.id Status.ok c.memLength c.memLength c.memLength := by
  obtain ⟨t, ht, he⟩ := State.memCmd_serves h hw
  obtain ⟨b, u, hrun, hu⟩ := State.memRun_induct (k := c.memLength + 1) (budget := 2 ^ 40) (n := s.nextPass c.plot)
    (c := c.reaching c) hP (h0 t ht) (Nat.zero_le _) (by omega) (by omega)
  have hpos : (c.reaching c).pos = 0 := by
    show min c.memLength (c.dw 13 * kib4) = 0
    rw [h.start, Nat.zero_mul, Nat.min_zero]
  have hres : c.memLength - c.dw 13 * kib4 = c.memLength := by rw [h.start, Nat.zero_mul, Nat.sub_zero]
  have hend : u.memEnd (c.reaching c) c.memLength false = u.finishAt c.id Status.ok c.memLength c.memLength c.memLength := by
    have hmark : ¬ (c.reaching c).mark < (c.reaching c).memLength := Nat.lt_irrefl c.memLength
    rw [State.memEnd, if_neg Bool.false_ne_true, if_neg hmark]
    exact congrArg (fun r => u.finishAt c.id Status.ok r c.memLength c.memLength) hres
  have hstep : t.memStep (s.nextPass c.plot) (c.reaching c) (2 ^ 40) =
      (b, false, u.finishAt c.id Status.ok c.memLength c.memLength c.memLength) := by
    have hlast : (c.reaching c).mark = c.memLength ∧ (c.reaching c).memLength = c.memLength := ⟨rfl, rfl⟩
    rw [State.memStep, hpos, hlast.1, hlast.2, hrun, ← hend]
    rfl
  rw [hstep] at he
  exact ⟨u, hu, he⟩

end

end Sys2Proof.Machine

end

section

/-!
# MEM_READ, MEM_WRITE and SIG_CONFIG

PROVES O28 (spec R95, R148, R319).
-/

namespace Sys2Proof.Machine
open Sys2Proof

section
variable {s t u : State} {p id n pos len off f : Nat} {c : Cmd}

/-! ## What the service of a furrow's RAM keeps -/

/-- What a memory command on a furrow's RAM keeps while it is served: HBM, the entry of the command and the time of the plots,
and of host memory what is said. -/
def Kept.serve (s : State) (id : Nat) (host : Option (Cells Byte)) : Kept :=
  { pending := s.pending, fuses := s.fuses, svn := s.boot.fusedMin, shut := false, keys := none, host := host,
    hbm := some s.hbm.mem, spm := none, window := none, plots := none, cmd := none, id := some id,
    tm := some fun p => (s.plot p).tm, res := none, img := none }

theorem Good.serve (hm : s.memWf = true) (hid : ∃ e ∈ s.cmd.store, e.id = id) :
    Good (Kept.serve s id (some s.host.mem)) s := by
  have h := Good.all s hm
  exact ⟨rfl, rfl, hm, le_rfl, fun e => (Bool.false_ne_true e).elim, nofun, h.host, h.hbm, nofun, nofun, nofun, nofun,
    fun i e => Option.some.inj e ▸ hid, h.tm, nofun, nofun⟩

theorem Good.serve_open (h : Good (Kept.serve s id (some s.host.mem)) t) : Good (Kept.serve s id none) t :=
  h.sub ⟨rfl, rfl, le_rfl, fun e => e, .inl rfl, .inl rfl, .inr rfl, .inl rfl, .inl rfl, .inl rfl, .inl rfl, .inr rfl, .inr rfl,
    .inl rfl, .inl rfl⟩

theorem State.MemBegins.good {κ : Kept} (h : s.MemBegins c t) (hg : Good κ s) (hc : κ.cmd = none) : Good κ t := by
  obtain ⟨_, hu, rfl⟩ := h
  exact State.onCmd_good _ _ _ (hu.good hg) (fun _ => rfl) hc

/-- A plot whose time does not move stands as it stood. -/
theorem Good.serve_plotRuns {host : Option (Cells Byte)} (h : Good (Kept.serve s id host) t) : t.plotRuns p = s.plotRuns p := by
  rw [State.plotRuns, State.plotRuns, h.tm _ rfl p]

/-! ## The furrow's RAM, as commands read it -/

/-- States that hold the same furrow RAM, and in which it is read in the same way. -/
structure State.SameRam (s t : State) : Prop where
  fur : t.fur = s.fur
  regs : t.regs = s.regs
  fmap : t.fmap = s.fmap
  plots : t.plots = s.plots
  ecc : t.ecc = s.ecc
  inject : t.inject = s.inject

theorem State.SameRam.hostWrite {fn addr : Nat} {bs : List Byte} (h : s.SameRam t) : s.SameRam (t.hostWrite fn addr bs) :=
  ⟨h.fur, h.regs, h.fmap, h.plots, h.ecc, h.inject⟩

theorem State.MemBegins.sameRam (h : s.MemBegins c t) : s.SameRam t := by
  obtain ⟨_, ⟨a, o, rfl⟩, rfl⟩ := h
  exact ⟨rfl, rfl, rfl, rfl, rfl, rfl⟩

theorem State.SameRam.phys (h : s.SameRam t) (l : Nat) : t.phys l = s.phys l := by rw [State.phys, State.phys, h.fmap]

theorem State.SameRam.ramBytesView (h : s.SameRam t) : t.ramBytesView p f off n = s.ramBytesView p f off n := by
  have hshape : t.ramShape f = s.ramShape f := by
    rw [State.ramShape, State.ramShape, State.fld, State.fld, State.rn_of_regs h.regs]
  have hview : ∀ base w, t.ramView p f base w = s.ramView p f base w := fun base w => by
    unfold State.ramView State.ramSafe State.ramGet State.eccAt State.plotRuns State.plot
    rw [h.fur, h.plots, h.ecc]
  simp only [State.ramBytesView, hshape, hview]

theorem State.ramBytesView_length : (s.ramBytesView p f off n).length = n := leBytes_length

theorem State.ramBytesView_one : s.ramBytesView p f off 1 = [((s.ramBytesView p f off 1)[0]?).getD 0] := by
  have hl := State.ramBytesView_length (s := s) (p := p) (f := f) (off := off) (n := 1)
  obtain ⟨b, hb⟩ := List.length_eq_one_iff.1 hl
  rw [hb]
  rfl

/-- With no word bad and no injection armed the check of a word before its read finds nothing. -/
theorem State.ramBytesCheck_clean (he : s.ecc = []) (hi : s.inject = []) : s.ramBytesCheck p f off n = s := by
  refine foldl_inv (P := (· = s)) rfl fun t i _ ht => ?_
  subst ht
  have ht : t.glnTouch (some p) (fun kind j => kind == Item.ramWord && j == f * 512 + 64 * i / 64) = t := if_pos hi
  have h0 : t.eccAt Item.ramWord (f * 512 + 64 * i / 64) = 0 := by rw [State.eccAt, he]; rfl
  rw [State.ramCheck, ht, h0]
  rfl

/-! ## The read of a furrow's RAM (R95, R148) -/

theorem State.ramBytesCheck_hostMem (hm : s.memWf = true) (hid : ∃ e ∈ s.cmd.store, e.id = id) :
    (s.ramBytesCheck p f off n).host.mem = s.host.mem :=
  (State.ramBytesCheck_good s p f off n (Good.serve hm hid) rfl rfl).host _ rfl

/-- One unit of a read: its words are checked, and its bytes written to host memory. -/
theorem State.memServe_ramRead (hsp : c.memSpace = 1) (hop : c.opc = 0x44)
    (hu : s.ramBytesCheck c.plot (s.phys (nfld (c.dw 7) 0 9)) (c.memOffset + pos) len = u) :
    s.memServe n (c.reaching c) pos len = some (false, u.hostWrite c.func (c.memHost + pos)
      (u.ramBytesView c.plot (s.phys (nfld (c.dw 7) 0 9)) (c.memOffset + pos) len)) := by
  have hs : (c.reaching c).memSpace = 1 := hsp
  have hw : ((c.reaching c).opc == 0x45) = false := beq_eq_false_iff_ne.2 (ne_of_eq_of_ne hop (by decide))
  rw [State.memServe, if_pos hs, hw, ← hu]
  rfl

/-- The bytes that a read has brought up to a position of its buffer, and what it has left alone. -/
structure State.ReadUpTo (s : State) (c : Cmd) (pos : Nat) (t : State) : Prop where
  good : Good (Kept.serve s c.id none) t
  outside : ∀ k, k < c.func * 2 ^ 64 + c.memHost ∨ c.func * 2 ^ 64 + c.memHost + c.memLength ≤ k →
    cget 0 t.host.mem k = cget 0 s.host.mem k
  bytes : s.ecc = [] → s.inject = [] → s.SameRam t ∧ ∀ k, k < pos → t.hostRead c.func (c.memHost + k) 1 =
    s.ramBytesView c.plot (s.phys (nfld (c.dw 7) 0 9)) (c.memOffset + k) 1

theorem State.MemBegins.readUpTo (h : s.MemBegins c t) (hm : s.memWf = true) (hid : ∃ e ∈ s.cmd.store, e.id = c.id) :
    s.ReadUpTo c 0 t := by
  have hg := h.good (Good.serve hm hid) rfl
  exact ⟨hg.serve_open, fun k _ => by rw [hg.host _ rfl], fun _ _ => ⟨h.sameRam, fun k hk => absurd hk (Nat.not_lt_zero k)⟩⟩

/-- Bytes written to host memory are read there, one by one. -/
theorem State.hostRead_hostWrite {fn addr a : Nat} {bs : List Byte} (hm : s.memWf = true) :
    (s.hostWrite fn addr bs).hostRead fn a 1 =
      if addr ≤ a ∧ a < addr + bs.length then [(bs[a - addr]?).getD 0] else s.hostRead fn a 1 := by
  have hw : cellsWf 0 s.host.mem = true := (Good.records hm).wf.2.2.2.1
  show [cget 0 (csetList 0 s.host.mem (fn * 2 ^ 64 + addr) bs) (fn * 2 ^ 64 + a)] = _
  rw [cget_csetList hw]
  by_cases h : addr ≤ a ∧ a < addr + bs.length
  · rw [if_pos (by omega), if_pos h, Nat.add_sub_add_left]
  · rw [if_neg (by omega), if_neg h]
    rfl

/-- One unit of a read brings its bytes. -/
theorem State.ReadUpTo.step (h : s.ReadUpTo c pos t) (hsp : c.memSpace = 1) (hop : c.opc = 0x44) (hpos : pos < c.memLength) :
    ∃ u, t.memServe n (c.reaching c) pos (t.memUnit c.plot c (c.memOffset + pos) (c.memLength - pos)) = some (false, u) ∧
      s.ReadUpTo c (pos + t.memUnit c.plot c (c.memOffset + pos) (c.memLength - pos)) u := by
  have hle := State.memUnit_le (s := t) (p := c.plot) (c := c) (off := c.memOffset + pos) (left := c.memLength - pos)
  have hunit : t.memUnit c.plot c (c.memOffset + pos) (c.memLength - pos) ≤
      ramBytes (t.ramShape (t.phys (nfld (c.dw 7) 0 9))) -
        (c.memOffset + pos) % ramBytes (t.ramShape (t.phys (nfld (c.dw 7) 0 9))) := by
    rw [State.memUnit, if_pos hsp]
    exact Nat.min_le_right _ _
  generalize t.memUnit c.plot c (c.memOffset + pos) (c.memLength - pos) = len at hle hunit
  generalize hu : t.ramBytesCheck c.plot (t.phys (nfld (c.dw 7) 0 9)) (c.memOffset + pos) len = u
  have hgu : Good (Kept.serve s c.id none) u := hu ▸ State.ramBytesCheck_good t _ _ _ _ h.good rfl rfl
  have hmem : u.host.mem = t.host.mem := hu ▸ State.ramBytesCheck_hostMem h.good.mem (h.good.id _ rfl)
  refine ⟨_, State.memServe_ramRead hsp hop hu, State.hostWrite_good _ _ _ _ hgu rfl, fun k hk => ?_, fun he hi => ?_⟩
  · rw [← h.outside k hk, ← hmem]
    refine Laws.cget_csetList_out ?_
    rw [State.ramBytesView_length]
    omega
  · obtain ⟨hram, hbytes⟩ := h.bytes he hi
    obtain rfl : t = u := (State.ramBytesCheck_clean (hram.ecc.trans he) (hram.inject.trans hi)).symm.trans hu
    refine ⟨hram.hostWrite, fun k hk => ?_⟩
    rw [State.hostRead_hostWrite h.good.mem, State.ramBytesView_length]
    by_cases hin : pos ≤ k
    · obtain ⟨j, rfl⟩ := Nat.exists_eq_add_of_le hin
      rw [if_pos (by omega), ← Nat.add_assoc, Nat.add_sub_cancel_left, State.getElem?_ramBytesView (by omega) hunit,
        hram.phys, hram.ramBytesView, Nat.add_assoc, ← State.ramBytesView_one]
    · rw [if_neg (by omega), hbytes k (by omega)]

/-! ## Commands on a furrow's RAM (R95, R148) -/

/-- A command that names bytes of a furrow's RAM names no more than 8192. -/
theorem State.memRangeOk_ram (h : s.memRangeOk c.plot c = true) (hsp : c.memSpace = 1) : c.memLength ≤ 8192 := by
  rw [State.memRangeOk, hsp] at h
  simp only [Bool.and_eq_true, decide_eq_true_eq] at h
  omega

theorem State.gone_of_fallowState (h : s.fallowState p < 2) : s.gone p = false := decide_eq_false (by omega)

/-- A command on the furrow RAM of a plot that is sown and not evicted is admitted. -/
theorem State.memAdmits_ram (hr : s.host.refused = []) (hw : s.host.withdrawn = []) (h13 : c.dw 13 = 0)
    (hsow : Sow.sown ≤ s.sow c.plot) (hrange : s.memRangeOk c.plot c = true) (hf : s.fallowState c.plot < 2)
    (hmiss : s.missed c.plot c = false) (hsp : c.memSpace = 1) : s.MemAdmits c where
  ready := .inl hsp
  sown := hsow
  range := hrange
  free := by simp [hsp, State.gone_of_fallowState hf]
  intime := by simp [hmiss]
  start := h13
  refused := hr
  withdrawn := hw

theorem State.plotRuns_of_not_busy (h : s.plotBusy p = false) : s.plotRuns p = false := (Bool.or_eq_false_iff.1 h).1

theorem State.not_memHeld (h : s.plotBusy c.plot = false) : ¬ s.memHeld c := by
  simp [State.memHeld, h, State.plotRuns_of_not_busy h]

/-- On a plot that runs, a command on furrow RAM waits in the queue of its plot. -/
theorem State.memCmd_queued (h : s.MemAdmits c) (hm : s.memWf = true) (hid : ∃ e ∈ s.cmd.store, e.id = c.id)
    (hsp : c.memSpace = 1) (hrun : s.plotRuns c.plot = true) : (s.memCmd c).waits c.id ∧
      ((s.memCmd c).plot c.plot).id.hostQ = (s.plot c.plot).id.hostQ ++ [c.id] ∧ (s.memCmd c).fur = s.fur ∧
      (s.memCmd c).host.mem = s.host.mem := by
  have hheld : s.memHeld c := ⟨by simp [hsp], by simp [State.plotBusy, hrun]⟩
  obtain ⟨t, ht, he⟩ := State.memCmd_held h hheld
  have hg := ht.good (Good.serve hm hid) rfl
  rw [he, State.plot_queueHost hg.mem]
  refine ⟨State.queueHost_waits (hg.id _ rfl), ?_, ht.sameRam.fur, hg.host _ rfl⟩
  rw [State.plot, ht.sameRam.plots]
  rfl

/-- The write of a furrow's RAM on a stopped plot ends with its length, and leaves DRAM and host memory alone. -/
theorem State.memCmd_ramWrite (h : s.MemAdmits c) (hm : s.memWf = true) (hid : ∃ e ∈ s.cmd.store, e.id = c.id)
    (hsp : c.memSpace = 1) (hop : c.opc = 0x45) (hb : s.plotBusy c.plot = false) :
    (s.memCmd c).ended c.id Status.ok c.memLength ∧ (s.memCmd c).hbm.mem = s.hbm.mem ∧
      (s.memCmd c).host.mem = s.host.mem := by
  obtain ⟨u, hu, he⟩ := State.memCmd_ends (P := fun _ t => Good (Kept.serve s c.id (some s.host.mem)) t) h
    (State.not_memHeld hb) (by have := State.memRangeOk_ram h.range hsp; omega) (fun t ht => ht.good (Good.serve hm hid) rfl)
    fun pos t _ ht => by
      have hrun : t.plotRuns (c.reaching c).plot = false := ht.serve_plotRuns.trans (State.plotRuns_of_not_busy hb)
      have hw : ((c.reaching c).opc == 0x45) = true := beq_iff_eq.2 hop
      have hs : (c.reaching c).memSpace = 1 := hsp
      refine ⟨_, ?_, State.ramHostWrite_good t c.plot (s.nextPass c.plot) (nfld (c.dw 7) 0 9) (c.memOffset + pos)
        (t.hostRead c.func (c.memHost + pos) (t.memUnit c.plot c (c.memOffset + pos) (c.memLength - pos))) ht rfl rfl⟩
      rw [State.memServe, if_pos hs, hw, hrun]
      rfl
  rw [he]
  exact ⟨State.finishAt_ended _ _ _ _ _ _ (hu.id _ rfl), hu.hbm _ rfl, hu.host _ rfl⟩

/-- The read of a furrow's RAM on a stopped plot ends with its length, and brings the RAM's bytes to its buffer. -/
theorem State.memCmd_ramRead (h : s.MemAdmits c) (hm : s.memWf = true) (hid : ∃ e ∈ s.cmd.store, e.id = c.id)
    (hsp : c.memSpace = 1) (hop : c.opc = 0x44) (hb : s.plotBusy c.plot = false) :
    (s.memCmd c).ended c.id Status.ok c.memLength ∧ s.ReadUpTo c c.memLength (s.memCmd c) := by
  obtain ⟨u, hu, he⟩ := State.memCmd_ends (P := s.ReadUpTo c) h (State.not_memHeld hb)
    (by have := State.memRangeOk_ram h.range hsp; omega) (fun t ht => ht.readUpTo hm hid) fun pos t hpos ht =>
      ht.step hsp hop hpos
  rw [he]
  refine ⟨State.finishAt_ended _ _ _ _ _ _ (hu.good.id _ rfl), State.finishAt_good _ _ _ _ _ _ hu.good rfl, hu.outside,
    fun hecc hinj => ?_⟩
  obtain ⟨hram, hbytes⟩ := hu.bytes hecc hinj
  exact ⟨⟨hram.fur, hram.regs, hram.fmap, hram.plots, hram.ecc, hram.inject⟩, hbytes⟩

/-! ## The write of a word of a plot page (R148) -/

/-- What a list of bytes put to HBM reads there. -/
theorem cgetList_csetList {α : Type} [DecidableEq α] {d : α} {m : Cells α} {a : Nat} {vs : List α} (h : cellsWf d m = true) :
    cgetList d (csetList d m a vs) a vs.length = vs := by
  induction vs generalizing m a with
  | nil => rfl
  | cons v vs ih =>
    rw [csetList, List.length_cons, cgetList, ih (Laws.cset_wf h), Laws.cget_csetList_out (.inl (Nat.lt_succ_self a)),
      Laws.cget_cset_same h]

theorem cgetList_length {α : Type} {d : α} {m : Cells α} {a : Nat} : (cgetList d m a n).length = n := by
  induction n generalizing a with
  | zero => rfl
  | succ n ih => rw [cgetList, List.length_cons, ih]

/-- A word of 16 bytes lies in one page. -/
theorem State.memRangeOk_word {a : Nat} (hsp : c.memSpace = 2) (hl : c.memLength = 16) (ho : c.memOffset % 16 = 0)
    (ha : s.plotPageAddr p c.memOffset = some a) : s.memRangeOk p c = true := by
  have hpage : (c.memOffset + 16 - 1) / mib2 - c.memOffset / mib2 + 1 = 1 := by unfold mib2; omega
  have hsome : (s.plotPageAddr p (c.memOffset / mib2 * mib2)).isSome = true := by
    have hdiv : c.memOffset / mib2 * mib2 / mib2 = c.memOffset / mib2 := Nat.mul_div_cancel _ (by decide)
    rw [State.plotPageAddr] at ha ⊢
    rw [hdiv]
    split at ha
    · split at ha
      · cases ha
      · rw [if_neg ‹_›]
        rfl
    · cases ha
  rw [State.memRangeOk, hsp, hl, hpage]
  simp only [natsFrom, List.all_cons, List.all_nil, hsome, Bool.and_true, Bool.and_eq_true, beq_iff_eq, decide_eq_true_eq]
  exact ⟨⟨by omega, trivial⟩, by decide⟩

theorem State.pagesBusy_stopped (h : s.plotBusy p = false) : s.pagesBusy p c = false := by
  rw [State.pagesBusy, State.plotRuns_of_not_busy h]
  rfl

theorem State.hbmStore_cmd {a : Nat} {bs : List Byte} : (s.hbmStore a bs).cmd = s.cmd := by
  unfold State.hbmStore
  exact foldl_keeps (fun t : State => t.cmd) (fun _ _ => by rfl) _ _

/-- Bytes stored in HBM are read there. -/
theorem State.hbmRead_hbmStore {a : Nat} {bs : List Byte} (hm : s.memWf = true) : (s.hbmStore a bs).hbmRead a bs.length = bs := by
  rw [State.hbmRead, State.hbmStore_hbm.2]
  exact cgetList_csetList (State.memWf_hbm hm)

/-- The write of a word of a plot page has not begun, or the host's bytes stand there. -/
def State.WordWritten (s : State) (c : Cmd) (a pos : Nat) (t : State) : Prop :=
  pos = 0 ∧ s.MemBegins c t ∨
    pos = 16 ∧ (∃ e ∈ t.cmd.store, e.id = c.id) ∧ t.hbmRead a 16 = s.hostRead c.func c.memHost 16

/-- The one unit of a 16-byte write puts the host's bytes to the word's address. -/
theorem State.MemBegins.writeWord {a : Nat} (h : s.MemBegins c t) (hm : s.memWf = true)
    (hid : ∃ e ∈ s.cmd.store, e.id = c.id) (hsp : c.memSpace = 2) (hop : c.opc = 0x45)
    (ha : s.plotPageAddr c.plot c.memOffset = some a) :
    ∃ u, t.memServe n (c.reaching c) 0 16 = some (false, u) ∧ s.WordWritten c a 16 u := by
  have hg := h.good (Good.serve hm hid) rfl
  have hw : ((c.reaching c).opc == 0x45) = true := beq_iff_eq.2 hop
  have hspace : (c.reaching c).memSpace = 2 := hsp
  have haddr : t.memAddr c.plot (c.reaching c) c.memOffset = some a := by
    rw [State.memAddr, if_neg (by omega), ← ha, State.plotPageAddr, State.plotPageAddr, State.plot, h.sameRam.plots]
    rfl
  have hserve : t.memServe n (c.reaching c) 0 16 = some (false, t.hbmStore a (t.hostRead c.func c.memHost 16)) := by
    rw [State.memServe, if_neg (by omega), hw]
    show (match t.memAddr c.plot (c.reaching c) c.memOffset with | none => _ | some a => _) = _
    rw [haddr]
    exact if_pos (Or.inl hspace)
  have hread : t.hostRead c.func c.memHost 16 = s.hostRead c.func c.memHost 16 := by
    rw [State.hostRead, hg.host _ rfl, State.hostRead]
  refine ⟨_, hserve, Or.inr ⟨rfl, ?_, ?_⟩⟩
  · rw [State.hbmStore_cmd]
    exact hg.id _ rfl
  · rw [← hread]
    have hl : (t.hostRead c.func c.memHost 16).length = 16 := cgetList_length
    have hb := State.hbmRead_hbmStore (a := a) (bs := t.hostRead c.func c.memHost 16) hg.mem
    rwa [hl] at hb

theorem State.memCmd_wordWrite {a : Nat} (h : s.MemAdmits c) (hm : s.memWf = true) (hid : ∃ e ∈ s.cmd.store, e.id = c.id)
    (hsp : c.memSpace = 2) (hop : c.opc = 0x45) (hb : s.plotBusy c.plot = false) (hl : c.memLength = 16)
    (ho : c.memOffset % 16 = 0) (ha : s.plotPageAddr c.plot c.memOffset = some a) :
    (s.memCmd c).ended c.id Status.ok 16 ∧ (s.memCmd c).hbmRead a 16 = s.hostRead c.func c.memHost 16 := by
  obtain ⟨u, hu, he⟩ := State.memCmd_ends (P := s.WordWritten c a) h (State.not_memHeld hb) (by omega)
    (fun t ht => Or.inl ⟨rfl, ht⟩) fun pos t hpos ht => by
      obtain ⟨rfl, hbegin⟩ : pos = 0 ∧ s.MemBegins c t := ht.resolve_right fun h => by omega
      have hunit : t.memUnit c.plot c (c.memOffset + 0) (c.memLength - 0) = 16 := by
        rw [State.memUnit, if_neg (by omega), Nat.add_zero, ho, hl]
        rfl
      rw [hunit]
      exact hbegin.writeWord hm hid hsp hop ha
  rw [hl] at hu he
  obtain ⟨-, hentry, hword⟩ := hu.resolve_left fun h => absurd h.1 (by decide)
  rw [he]
  exact ⟨State.finishAt_ended _ _ _ _ _ _ hentry, hword⟩

/-! ## SIG_CONFIG (R319) -/

/-- The configuration word of a signal unit is the first word written. -/
theorem State.rn_sigWrite {ws : List Word} (hm : s.memWf = true) : (s.sigWrite n ws).rn (Reg.SIG_CFG n) = wordAt ws 0 := by
  rw [State.sigWrite, show natsFrom 0 10 = 0 :: natsFrom 1 9 from rfl, List.foldl_cons]
  refine foldl_inv (P := fun t : State => t.rn (Reg.SIG_CFG n) = wordAt ws 0) ?_ fun t i hi ht => ?_
  · rw [if_neg (by decide), Nat.mul_zero, Nat.add_zero, State.rn_rnSet_same _ _ _ hm]
    exact Nat.mod_eq_of_lt (ws.getD 0 0).isLt
  · have hi := (mem_natsFrom.1 hi).1
    rw [State.rn_rnSet_ne _ _ _ _ (by omega), ht]

/-- A SIG_CONFIG that nothing turns away, on a stopped plot, takes effect at once. -/
theorem State.sigConfigCmd_applies (hr : s.host.refused = []) (hw : s.host.withdrawn = [])
    (ho : nfld (c.dw 6) 0 5 ∈ (s.plot c.plot).res.sigs) (hok : sigConfigOk (wordAt (s.sigBlock c) 0) = true)
    (hd : s.deadStatus c.plot = none) (hmiss : s.missed c.plot c = false) (hb : s.plotBusy c.plot = false) :
    ∃ t, s.Translated t ∧ s.sigConfigCmd c = t.sigApply (s.nextPass c.plot) c := by
  obtain ⟨t, he, ht⟩ := State.dma_all (fn := c.func) (addr := c.dw64 7) (n := 40) (size := 40) (start := 0) hr hw
  refine ⟨t, ht, ?_⟩
  unfold State.sigConfigCmd
  dsimp only
  rw [he]
  dsimp only
  rw [if_neg (by simp [ho]), if_neg (by decide), if_neg (by simp [hok]), hd]
  dsimp only
  rw [if_neg (by simp [hmiss]), if_neg (by simp [hb])]

/-- On a plot that does not run it writes the unit's registers, and ends. -/
theorem State.sigApply_stopped (h : s.plotRuns c.plot = false) :
    s.sigApply n c = (s.sigWrite (nfld (c.dw 6) 0 5) (s.sigBlock c)).finish c.id Status.ok 0 := by
  rw [State.sigApply, h]
  rfl

theorem State.sigConfigCmd_ends (hm : s.memWf = true) (hid : ∃ e ∈ s.cmd.store, e.id = c.id) (hr : s.host.refused = [])
    (hw : s.host.withdrawn = []) (ho : nfld (c.dw 6) 0 5 ∈ (s.plot c.plot).res.sigs)
    (hok : sigConfigOk (wordAt (s.sigBlock c) 0) = true) (hd : s.deadStatus c.plot = none)
    (hmiss : s.missed c.plot c = false) (hb : s.plotBusy c.plot = false) :
    (s.sigConfigCmd c).ended c.id Status.ok 0 ∧
      (s.sigConfigCmd c).rn (Reg.SIG_CFG (nfld (c.dw 6) 0 5)) = wordAt (s.sigBlock c) 0 := by
  obtain ⟨t, ht, he⟩ := State.sigConfigCmd_applies hr hw ho hok hd hmiss hb
  have hg := ht.good (Good.serve hm hid)
  have hblock : t.sigBlock c = s.sigBlock c := by
    rw [State.sigBlock, State.sigBlock, State.hostRead, State.hostRead, hg.host _ rfl]
  rw [he, State.sigApply_stopped (hg.serve_plotRuns.trans (State.plotRuns_of_not_busy hb)), hblock]
  refine ⟨State.finish_ended _ _ _ _ ((State.sigWrite_good _ _ _ hg).id _ rfl), ?_⟩
  rw [State.rn_of_regs (State.finish_regs _ _ _ _), State.rn_sigWrite hg.mem]

end

/-- Settles O28: a command on furrow RAM waits on a plot that runs (`State.memCmd_queued`) and is served unit by unit on one that
does not (`State.memCmd_ramRead`, `State.memCmd_ramWrite`); a 16-byte word of a plot page is one unit
(`State.memCmd_wordWrite`), and SIG_CONFIG writes its unit (`State.sigConfigCmd_ends`). -/
theorem hostMemoryCommandsMoveTheirBytes : Obligations.HostMemoryCommandsMoveTheirBytes := by
  intro s id c hm hr hw h13
  refine ⟨fun i opc hi hc hsow hrange hf hmiss hop => ?_, fun hc hst hsow hb hmiss hop hsp hl ho a ha => ?_,
    fun hc ho hok hd hmiss hb => ?_⟩
  · have hid := State.taken_mem_id hc
    obtain ⟨-, rfl⟩ := s.taken_mem _ _ _ hc
    have hexec : exec i s = .next (s.memCmd c) := by
      simp only [List.mem_cons, Prod.mk.injEq, List.not_mem_nil, or_false] at hi
      rcases hi with ⟨rfl, rfl⟩ | ⟨rfl, rfl⟩
      · exact congrArg Host.Outcome.next (State.onTaken_some hc)
      · exact congrArg Host.Outcome.next (State.onTaken_some hc)
    have hopc : opc = 0x44 ∨ opc = 0x45 := by
      simp only [List.mem_cons, Prod.mk.injEq, List.not_mem_nil, or_false] at hi
      exact hi.imp And.right And.right
    refine ⟨fun hrun hsp => ⟨_, hexec, State.memCmd_queued (State.memAdmits_ram hr hw h13 hsow hrange hf hmiss hsp) hm hid hsp
      hrun⟩, fun hb hsp => ⟨_, hexec, ?_⟩⟩
    have hadm := State.memAdmits_ram hr hw h13 hsow hrange hf hmiss hsp
    rcases hopc with rfl | rfl
    · obtain ⟨hend, hread⟩ := State.memCmd_ramRead hadm hm hid hsp hop hb
      exact ⟨hend, hread.good.hbm _ rfl, fun h => absurd h (by decide), fun _ he hi _ => (hread.bytes he hi).2, hread.outside⟩
    · obtain ⟨hend, hhbm, hhost⟩ := State.memCmd_ramWrite hadm hm hid hsp hop hb
      exact ⟨hend, hhbm, fun _ => hhost, fun h => absurd h (by decide), fun k _ => by rw [hhost]⟩
  · have hid := State.taken_mem_id hc
    obtain ⟨-, rfl⟩ := s.taken_mem _ _ _ hc
    have hadm : s.MemAdmits c :=
      { ready := .inr hst, sown := hsow, range := State.memRangeOk_word hsp hl ho ha,
        free := by simp [hsp, State.pagesBusy_stopped hb], intime := by simp [hmiss], start := h13, refused := hr,
        withdrawn := hw }
    exact ⟨_, congrArg Host.Outcome.next (State.onTaken_some hc), State.memCmd_wordWrite hadm hm hid hsp hop hb hl ho ha⟩
  · have hid := State.taken_mem_id hc
    obtain ⟨-, rfl⟩ := s.taken_mem _ _ _ hc
    exact ⟨_, congrArg Host.Outcome.next (State.onTaken_some hc), State.sigConfigCmd_ends hm hid hr hw ho hok hd hmiss hb⟩

end Sys2Proof.Machine

end

section

/-!
# What only the named commands write

PROVES O6 (spec R147, R148, R155, R310, R327, R359, R376, R394, R396, R402, R426, R488).
-/

namespace Sys2Proof.Machine
open Sys2Proof

section
variable {κ : Kept} {s t : State} {addr n : Nat}

/-- Ranges of two memories that agree key for key read the same. -/
theorem cgetList_congr {α : Type} {d : α} {c c' : Cells α} {k : Nat}
    (h : ∀ a, k ≤ a → a < k + n → cget d c' a = cget d c a) : cgetList d c' k n = cgetList d c k n := by
  induction n generalizing k with
  | zero => rfl
  | succ n ih => rw [cgetList, cgetList, h k (by omega) (by omega), ih fun a hl hu => h a (by omega) (by omega)]

/-! ## What is kept of a memory reads as before -/

theorem Good.hostRead_eq {fn : Nat} (hg : Good κ t) (h : κ.host = some s.host.mem) :
    t.hostRead fn addr n = s.hostRead fn addr n := by
  rw [State.hostRead, State.hostRead, hg.host _ h]

theorem Good.hbmRead_eq (hg : Good κ t) (h : κ.hbm = some s.hbm.mem) : t.hbmRead addr n = s.hbmRead addr n := by
  rw [State.hbmRead, State.hbmRead, hg.hbm _ h]

/-- Below bank 63, which takes the event records of deep fallow (R451). -/
theorem Good.spmRead_eq (hg : Good κ t) (h : κ.spm = some s.tile.spm) (hn : addr + n ≤ 63 * 2 ^ 18) :
    t.spmRead addr n = s.spmRead addr n :=
  cgetList_congr fun a _ ha => hg.spm _ h a (ha.trans_le hn)

/-! ## What a command that is not named leaves alone -/

section
variable {c : Instr} (hm : s.memWf = true) (h : exec c s = .next t)
include hm h

theorem exec_hostRead (hc : c.writesHostMemory = false) (fn : Nat) : t.hostRead fn addr n = s.hostRead fn addr n :=
  (exec_keeps hm h).hostRead_eq (by simp [Kept.under, hc])

theorem exec_hbmRead (hc : c.writesDesignMemory = false) : t.hbmRead addr n = s.hbmRead addr n :=
  (exec_keeps hm h).hbmRead_eq (by simp [Kept.under, hc])

theorem exec_spmRead (hc : c.writesScratchpad = false) (hn : addr + n ≤ 63 * 2 ^ 18) :
    t.spmRead addr n = s.spmRead addr n :=
  (exec_keeps hm h).spmRead_eq (by simp [Kept.under, hc]) hn

theorem exec_window (hc : c.writesBootWindow = false) : t.boot.window = s.boot.window ∨ t.boot.window = [] :=
  (exec_keeps hm h).window _ (by simp [Kept.under, hc])

theorem exec_tm (hc : c.movesPlotTime = false) (p : Nat) : (t.plot p).tm = (s.plot p).tm :=
  (exec_keeps hm h).tm (fun p => (s.plot p).tm) (by simp [Kept.under, hc]) p

theorem exec_res (hc : c.movesResources = false) (p : Nat) : (t.plot p).res = (s.plot p).res :=
  (exec_keeps hm h).res (fun p => (s.plot p).res) (by simp [Kept.under, hc]) p

theorem exec_img (hc : c.movesImage = false) (p : Nat) : (t.plot p).img = (s.plot p).img :=
  (exec_keeps hm h).img (fun p => (s.plot p).img) (by simp [Kept.under, hc]) p

end

end

/-- Settles O6: every command leaves alone what it may not write (`exec_keeps`), and what is left alone of a memory reads as
before. -/
theorem onlyTheNamedCommandsWrite : Obligations.OnlyTheNamedCommandsWrite :=
  ⟨fun _ _ _ hm hc h fn _ _ => exec_hostRead hm h hc fn, fun _ _ _ hm hc h _ _ => exec_hbmRead hm h hc,
    fun _ _ _ hm h => ⟨fun hc _ _ hn => exec_spmRead hm h hc hn, exec_window hm h⟩,
    fun _ _ _ p hm hc h => exec_tm hm h hc p,
    fun _ _ _ p hm h => ⟨fun hc => exec_res hm h hc p, fun hc => exec_img hm h hc p⟩⟩

end Sys2Proof.Machine

end

section

/-!
# BAR4 accesses

PROVES O42 (spec R148, R153, R155, R324).
-/

namespace Sys2Proof.Machine
open Sys2Proof

section
variable {s : State} {fn offset len page addr n p pn : Nat} {data : Option (List Byte)} {bs : List Byte}
  {plot owner : Option Nat} {holder : Option (Nat × Nat)} {w : BitVec 256} {f : Flit}

/-! ## Header flits (R417) -/

theorem b2n_le_one (b : Bool) : b2n b ≤ 1 := by cases b <;> decide

/-- PLOT, PV and CMD of the 256 bits of a header flit. -/
theorem Flit.word_fields : f.word.toNat / 2 ^ 104 % 2 ^ 4 = f.plot.getD 0 % 16 ∧
    f.word.toNat / 2 ^ 108 % 2 = b2n f.plot.isSome ∧ f.word.toNat / 2 ^ 146 % 2 ^ 4 = f.cmd % 16 := by
  have hpv := b2n_le_one f.plot.isSome
  have hex := b2n_le_one f.express
  rw [Flit.word, BitVec.toNat_ofNat]
  omega

theorem parseFlit_word_cmd : (parseFlit f.word).cmd = f.cmd % 16 := by
  show nfld f.word.toNat 146 4 = _
  rw [nfld, Nat.shiftRight_eq_div_pow, Flit.word_fields.2.2]

/-- The plot of a header flit comes back, as the device has 16. -/
theorem parseFlit_word_plot (h : ∀ p ∈ f.plot, p < 16) : (parseFlit f.word).plot = f.plot := by
  obtain ⟨hplot, hpv, -⟩ := f.word_fields
  show (if f.word.toNat.testBit 108 then some (nfld f.word.toNat 104 4) else none) = f.plot
  rw [nfld, Nat.shiftRight_eq_div_pow, hplot, Nat.testBit_eq_decide_div_mod_eq, hpv]
  cases hp : f.plot with
  | none => rfl
  | some p => exact congrArg some (Nat.mod_eq_of_lt (h p hp))

/-! ## Requests across the network (R416-R421) -/

theorem State.takeInjects_unarmed {reg : Nat} {pick : Nat → Bool} (h : s.inject = []) : s.takeInjects reg pick = ([], s) := by
  rw [State.takeInjects, h]
  rfl

theorem State.nocInject_unarmed {cls : Nat} (h : s.inject = []) : s.nocInject cls = s := by
  rw [State.nocInject, State.takeInjects_unarmed h]
  rfl

theorem State.nocLoses_unarmed (h : s.inject = []) : s.nocLoses = false := by
  rw [State.nocLoses, h]
  rfl

/-- The state in which a request stands on the network: its flits. -/
def State.flitSent (s : State) (w : BitVec 256) (bs : List Byte) : State :=
  { s with out := { s.out with flit := w, flitData := dataFlits ((bs.length + 31) / 32) bs, reply := [] } }

/-- Where no injection is armed, a request of the owner with a CMD that is not reserved is served. -/
theorem State.packet_served (hi : s.inject = []) (hc : (parseFlit w).cmd < 9) (ho : (parseFlit w).plot = owner) :
    s.packet w bs owner = (false, s.flitSent w bs) := by
  have hn : (s.flitSent w bs).nocInject 2 = s.flitSent w bs := State.nocInject_unarmed hi
  unfold State.packet
  dsimp only
  rw [if_neg (by omega), if_neg (by rw [State.nocLoses_unarmed hi]; exact Bool.false_ne_true), if_pos ho]
  exact congrArg (Prod.mk false) hn

/-- The request of an access to BAR4 is served. -/
theorem State.packet_hostFlit {unit : Nat} {write : Bool} (hi : s.inject = []) (ho : ∀ p ∈ owner, p < 16) :
    s.packet (s.hostFlit false unit (b2n write) bs.length owner addr).word bs owner =
      (false, s.flitSent (s.hostFlit false unit (b2n write) bs.length owner addr).word bs) := by
  refine State.packet_served hi ?_ (parseFlit_word_plot ho)
  rw [parseFlit_word_cmd]
  exact (Nat.mod_le _ _).trans_lt ((b2n_le_one write).trans_lt (by decide))

/-! ## Checks and writes of HBM (R148-R151) -/

theorem State.memInject_unarmed {sched : Bool} (h : s.inject = []) : s.memInject addr plot pn sched = s := by
  rw [State.memInject, State.glnTouchHbm, State.glnMeet, if_pos h, State.injectAt, if_pos h]

theorem State.hbmMark_clear (h : s.ecc = []) : s.hbmMark addr = 0 := by
  rw [State.hbmMark, State.eccAt, h]
  rfl

theorem State.hbmCheck_clear (hi : s.inject = []) (he : s.ecc = []) : s.hbmCheck addr plot pn = (false, s) := by
  rw [State.hbmCheck, State.memInject_unarmed hi, State.hbmMark_clear he]
  rfl

theorem State.hbmCheckRange_clear (hi : s.inject = []) (he : s.ecc = []) : s.hbmCheckRange addr n plot pn = (false, s) := by
  unfold State.hbmCheckRange
  refine foldl_inv (P := fun r : Bool × State => r = (false, s)) rfl fun r w _ hr => ?_
  rw [hr, State.hbmCheck_clear hi he]
  rfl

/-- Without a poisoned word the host reads the bytes of DRAM under the write queue. -/
theorem State.hbmSeen_clear {pick : WqEntry → Bool} (he : s.ecc = []) : s.hbmSeen addr n pick = s.hbmView addr n pick := by
  have hz : (s.hbmRead addr n).zip (natsFrom addr n) = (s.hbmRead addr n).zipIdx addr := by
    have hl : (s.hbmRead addr n).length = n := cgetList_length
    rw [← zip_natsFrom, hl]
  rw [State.hbmSeen, State.hbmView, hz]
  simp [State.hbmMark_clear he, List.zipIdx_map_fst]

theorem State.hbmStore_out : (s.hbmStore addr bs).out = s.out := by
  unfold State.hbmStore
  exact foldl_keeps (fun t : State => t.out) (fun _ _ => by rfl) _ _

theorem State.hbmPatch_out : (s.hbmPatch addr bs).out = s.out := State.hbmStore_out

theorem State.hbmRead_hbmPatch (hm : s.memWf = true) : (s.hbmPatch addr bs).hbmRead addr bs.length = bs :=
  State.hbmRead_hbmStore hm

/-! ## An access that is served (R148, R155) -/

theorem State.respond_hbm {unit : Nat} : (s.respond false unit data).hbm = s.hbm := rfl

theorem State.respond_regs {unit : Nat} : (s.respond false unit data).regs = s.regs := rfl

theorem State.respond_data {unit : Nat} : (s.respond false unit data).out.data = s.out.data := rfl

theorem State.hbmRead_of_hbm {t : State} (h : t.hbm = s.hbm) : t.hbmRead addr n = s.hbmRead addr n := by
  rw [State.hbmRead, State.hbmRead, h]

/-- A write stores its bytes, but in a design page of a running plot. -/
theorem State.bar4Do_write (hm : s.memWf = true) (h : ∀ p use, holder = some (p, use) → s.plotRuns p = false ∨ use ≠ 1) :
    (s.bar4Do addr bs.length (some bs) holder).hbmRead addr bs.length = bs ∧
      (s.bar4Do addr bs.length (some bs) holder).out.data = none := by
  have he : s.bar4Do addr bs.length (some bs) holder = (s.outData none).hbmPatch addr bs := by
    unfold State.bar4Do
    dsimp only
    rw [List.take_length]
    cases holder with
    | none => rfl
    | some e =>
      refine if_neg ?_
      rcases h e.1 e.2 rfl with hr | hu
      · simp [hr]
      · simp [hu]
  rw [he]
  exact ⟨State.hbmRead_hbmPatch hm, congrArg OutSt.data State.hbmPatch_out⟩

theorem Quiet.hbm {κ : State} (h : Quiet κ s) : s.hbm = κ.hbm := congrArg (a₁ := s.core) (a₂ := κ.core) State.hbm h

theorem Quiet.out_data {κ : State} (h : Quiet κ s) : s.out.data = κ.out.data :=
  congrArg (a₁ := s.core) (a₂ := κ.core) (·.out.data) h

/-- A write to a design page of a running plot is discarded and noted. -/
theorem State.bar4Do_discarded (hm : s.memWf = true) (hpc : pcOf addr < 64) (hr : s.plotRuns p = true) :
    (s.bar4Do addr len (some bs) (some (p, 1))).hbm = s.hbm ∧
      (s.bar4Do addr len (some bs) (some (p, 1))).bit (Reg.MEM_PC_STAT (pcOf addr)) 8 = true ∧
      (s.bar4Do addr len (some bs) (some (p, 1))).out.data = none := by
  have he : s.bar4Do addr len (some bs) (some (p, 1)) =
      (s.outData none).raiseMem (pcOf addr) 8 (pcOffset addr) (some p) 0 := by
    unfold State.bar4Do
    exact if_pos (by simp [hr])
  have hn : notedReg (Reg.MEM_PC_STAT (pcOf addr)) = false :=
    notedReg_of_pcReg (by unfold Reg.MEM_PC_STAT; omega) (by unfold Reg.MEM_PC_STAT; omega)
  have hq : Quiet (s.outData none) ((s.outData none).raiseMem (pcOf addr) 8 (pcOffset addr) (some p) 0) :=
    State.raiseMem_quiet _ _ _ _ _ _ rfl
  rw [he]
  refine ⟨(Quiet.hbm hq).trans (State.outData_hbm _ _), ?_, Quiet.out_data hq⟩
  exact (congrArg (Nat.testBit · 8) (State.rn_raise hn (by decide))).trans (State.bit_setBit _ _ _ hm (by decide))

/-- A read answers what the host sees. -/
theorem State.bar4Do_read (hi : s.inject = []) (he : s.ecc = []) :
    s.bar4Do addr len none holder = s.outData (some (s.hbmView addr len s.hostSees)) := by
  unfold State.bar4Do
  dsimp only
  rw [State.hbmCheckRange_clear hi he, State.hbmSeen_clear he]

/-! ## Which access is served (R153, R155, R324) -/

theorem exec_bar4Access_outside (h : 2 ^ 32 ≤ offset ∨ 2 ^ 32 < offset + len) :
    exec (.bar4Access fn offset len data) s = .fault .outsideBar := if_pos h

section
variable (ho : offset < 2 ^ 32) (hl : offset + len ≤ 2 ^ 32)
include ho hl

theorem exec_bar4Access_down (h : s.hostDown fn = true) : exec (.bar4Access fn offset len data) s = .next (s.outData none) :=
  (if_neg (by omega)).trans (congrArg Host.Outcome.next (if_pos h))

theorem exec_bar4Access (h : s.hostDown fn = false) :
    exec (.bar4Access fn offset len data) s = .next (s.bar4 fn offset len data) :=
  (if_neg (by omega)).trans (congrArg Host.Outcome.next (if_neg (by simp [h])))

end

theorem State.bar4_filling (hr : s.running = true) (hf : s.bit Reg.MEM_STAT 0 = false) :
    s.bar4 fn offset len data = s.outData (refusedData len data) := by
  unfold State.bar4
  exact if_pos (by simp [hr, hf])

theorem State.bar4_notRunning (hr : s.running = false) :
    s.bar4 fn offset len data = (s.setBit Reg.MEM_STAT 2).outData (refusedData len data) := by
  unfold State.bar4
  dsimp only
  rw [if_neg (by simp [hr]), if_pos (by simp [hr])]

section
variable (hpage : s.fld (Reg.MEM_WIN_BASE fn) 0 15 + offset / mib2 = page) (hf : s.bit Reg.MEM_STAT 0 = true)
include hpage hf

theorem State.bar4_refused (h : 24576 ≤ page ∨ s.bar4Mine fn page = false ∨ mib2 < offset % mib2 + len) :
    s.bar4 fn offset len data = (s.setBit Reg.MEM_STAT 2).outData (refusedData len data) := by
  unfold State.bar4
  dsimp only
  rw [hpage, if_neg (by simp [hf]), if_pos (by simpa [or_assoc] using .inr h)]

/-- An access to a page of the function, within the page: it is served in a state in which its flits stand on the network, and
then answered. -/
theorem State.bar4_served (hr : s.running = true) (hp : page < 24576) (hmine : s.bar4Mine fn page = true)
    (hl : offset % mib2 + len ≤ mib2) (hi : s.inject = []) :
    ∃ w bs d, s.bar4 fn offset len data =
      ((s.flitSent w bs).bar4Do (page * mib2 + offset % mib2) len data (s.pageHolder page)).respond false
        (pcOf (page * mib2 + offset % mib2)) d := by
  have howner : ∀ p ∈ (s.pageHolder page).map (·.1), p < 16 := fun p hp => by
    obtain ⟨x, hx, rfl⟩ := Option.map_eq_some_iff.1 hp
    exact State.pageHolder_lt hx
  unfold State.bar4
  dsimp only
  rw [hpage, if_neg (by simp [hf]), if_neg (by simp [hr, hmine]; omega), State.packet_hostFlit hi howner]
  exact ⟨_, _, _, if_neg Bool.false_ne_true⟩

end

/-- A refused access notes WIN_REFUSED. -/
theorem State.winRefused (hm : s.memWf = true) (d : Option (List Byte)) :
    let t := (s.setBit Reg.MEM_STAT 2).outData d
    t.bit Reg.MEM_STAT 2 = true ∧ t.hbm = s.hbm ∧ t.plots = s.plots ∧ t.out.data = d := by
  refine ⟨(State.bit_of_regs (State.outData_regs _ _)).trans (State.bit_setBit _ _ _ hm (by decide)), ?_, ?_, rfl⟩
  · rw [State.outData_hbm, State.setBit_hbm]
  · rw [State.outData_plots, State.setBit_plots]

theorem pcOf_page (hp : page < 24576) : pcOf (page * mib2 + offset % mib2) < 64 := by
  unfold pcOf mib2
  omega

end

/-- Settles O42: which access reaches the pages is decided by the branches of the access (`State.bar4_notRunning`,
`State.bar4_filling`, `State.bar4_refused`); any other crosses the network as a request of the page's owner, which is served
(`State.bar4_served`), and then writes, is discarded or reads (`State.bar4Do_write`, `State.bar4Do_discarded`,
`State.bar4Do_read`). -/
theorem bar4ReachesOwnedPages : Obligations.Bar4ReachesOwnedPages := by
  intro s fn offset len data hm
  refine ⟨exec_bar4Access_outside, fun ho hl => ⟨exec_bar4Access_down ho hl, fun hd hr => ?_, fun hd hr hf => ?_,
    fun hd hr hf => ⟨fun h => ?_, fun hp hmine hin hi => ?_⟩⟩⟩
  · refine ⟨_, exec_bar4Access ho hl hd, ?_⟩
    rw [State.bar4_notRunning hr]
    exact State.winRefused hm _
  · refine ⟨_, exec_bar4Access ho hl hd, ?_⟩
    rw [State.bar4_filling hr hf]
    exact ⟨rfl, rfl, rfl⟩
  · refine ⟨_, exec_bar4Access ho hl hd, ?_⟩
    rw [State.bar4_refused rfl hf h]
    obtain ⟨hbit, hhbm, -, hout⟩ := State.winRefused hm (refusedData len data)
    exact ⟨hbit, hhbm, hout⟩
  · obtain ⟨w, bs, d, hserved⟩ := State.bar4_served (data := data) rfl hf hr hp hmine hin hi
    have hexec := hserved ▸ exec_bar4Access (data := data) ho hl hd
    refine ⟨?_, ?_, ?_⟩
    · rintro bs' rfl rfl hfree
      obtain ⟨hread, hout⟩ := State.bar4Do_write (s := s.flitSent w bs) hm hfree
      exact ⟨_, hexec, (State.hbmRead_of_hbm State.respond_hbm).trans hread, State.respond_data.trans hout⟩
    · intro p hdata hholder hruns
      obtain ⟨bs', rfl⟩ := Option.ne_none_iff_exists'.1 hdata
      rw [hholder] at hexec
      obtain ⟨hhbm, hbit, hout⟩ :=
        State.bar4Do_discarded (s := s.flitSent w bs) (bs := bs') (len := len) hm (pcOf_page hp) hruns
      exact ⟨_, hexec, congrArg HbmMem.mem (State.respond_hbm.trans hhbm), (State.bit_of_regs State.respond_regs).trans hbit,
        State.respond_data.trans hout⟩
    · rintro rfl hecc
      rw [State.bar4Do_read (s := s.flitSent w bs) hi hecc] at hexec
      exact ⟨_, hexec, State.respond_data, State.respond_hbm⟩

end Sys2Proof.Machine

end

section

/-!
# XT_LOAD

PROVES O35 (spec R173, R174, R543).
-/

namespace Sys2Proof.Machine
open Sys2Proof

section
variable {s t : State} {c : Cmd} {id n lo base i j v : Nat}

/-! ## The entries that are written (R166, R173) -/

theorem natsFrom_getElem? (h : (natsFrom lo n)[i]? = some v) : v = lo + i ∧ i < n := by
  induction n generalizing lo i with
  | zero => cases h
  | succ n ih =>
    cases i with
    | zero => exact ⟨(Option.some.inj h).symm, Nat.succ_pos n⟩
    | succ i =>
      obtain ⟨rfl, hi⟩ := ih h
      exact ⟨by omega, by omega⟩

/-- States that differ in the exchange table and its copy alone. -/
def State.Loaded (s t : State) : Prop :=
  ∃ xt copy, t = { s with xch := { s.xch with xt := xt, xtCopy := copy } }

theorem State.Loaded.refl : s.Loaded s := ⟨_, _, rfl⟩

theorem State.Loaded.xtWrite (h : s.Loaded t) : s.Loaded (t.xtWrite i v) := by
  obtain ⟨_, _, rfl⟩ := h
  exact ⟨_, _, rfl⟩

theorem State.Loaded.hostRead {fn addr : Nat} (h : s.Loaded t) : t.hostRead fn addr n = s.hostRead fn addr n := by
  obtain ⟨_, _, rfl⟩ := h
  rfl

theorem State.Loaded.regs (h : s.Loaded t) : t.regs = s.regs := by
  obtain ⟨_, _, rfl⟩ := h
  rfl

theorem State.Loaded.cmd (h : s.Loaded t) : t.cmd = s.cmd := by
  obtain ⟨_, _, rfl⟩ := h
  rfl

theorem State.Loaded.plots (h : s.Loaded t) : t.plots = s.plots := by
  obtain ⟨_, _, rfl⟩ := h
  rfl

theorem State.xt_xtWrite_same (h : xtEncode v ≠ 0) : cget 0 (s.xtWrite i v).xch.xt i = xtEncode v := by
  show cget 0 (cset 0 s.xch.xt i (xtEncode v)) i = _
  rw [cset, if_neg h, Laws.cget_cput_same]

theorem State.xt_xtWrite_ne (h : j ≠ i) : cget 0 (s.xtWrite i v).xch.xt j = cget 0 s.xch.xt j := Laws.cget_cset_ne h

/-- Words from one on are written behind one another, and no entry before them. -/
theorem State.xtWrites_entries {g : State → Nat → Nat} (hg : ∀ t j, s.Loaded t → g t j = g s j) (h : s.Loaded t) :
    let r := (natsFrom lo n).foldl (fun s j => s.xtWrite (base + j) (g s j)) t
    s.Loaded r ∧ (∀ j < base + lo, cget 0 r.xch.xt j = cget 0 t.xch.xt j) ∧
      ∀ j, lo ≤ j → j < lo + n → xtEncode (g s j) ≠ 0 → cget 0 r.xch.xt (base + j) = xtEncode (g s j) := by
  induction n generalizing lo t with
  | zero => exact ⟨h, fun _ _ => rfl, fun j hl hu => absurd hu (Nat.not_lt.2 hl)⟩
  | succ n ih =>
    obtain ⟨hr, hbefore, hfrom⟩ := ih (lo := lo + 1) (h.xtWrite (i := base + lo) (v := g t lo))
    refine ⟨hr, fun j hj => ?_, fun j hl hu hv => ?_⟩
    · exact (hbefore j (by omega)).trans (State.xt_xtWrite_ne (by omega))
    · rcases Nat.eq_or_lt_of_le hl with rfl | hl
      · refine (hbefore _ (by omega)).trans ?_
        rw [hg t lo h]
        exact State.xt_xtWrite_same hv
      · exact hfrom j hl (by omega) hv

/-- The words that XT_LOAD reads from the host. -/
def State.xtWords (s : State) (c : Cmd) : List Nat :=
  (natsFrom 0 (c.dw 8)).map fun i => leNat (s.hostRead c.func (c.dw64 9 + 8 * i) 8)

/-- The first entry that XT_LOAD writes. -/
def State.xtLoadBase (s : State) (c : Cmd) : Nat := (s.xtHalf c.plot (nfld (c.dw 6) 0 1)).1 + nfld (c.dw 7) 0 21

theorem State.xtLoadRange_entries :
    s.Loaded (s.xtLoadRange c 0 (c.dw 8)) ∧ ∀ i v, (s.xtWords c)[i]? = some v → xtEncode v ≠ 0 →
      cget 0 (s.xtLoadRange c 0 (c.dw 8)).xch.xt (s.xtLoadBase c + i) = xtEncode v := by
  obtain ⟨hr, -, hw⟩ := State.xtWrites_entries (s := s) (lo := 0) (n := c.dw 8) (base := s.xtLoadBase c)
    (g := fun s i => leNat (s.hostRead c.func (c.dw64 9 + 8 * i) 8)) (fun t j h => by rw [h.hostRead]) .refl
  refine ⟨hr, fun i v hi hv => ?_⟩
  rw [State.xtWords, List.getElem?_map, Option.map_eq_some_iff] at hi
  obtain ⟨j, hj, rfl⟩ := hi
  obtain ⟨rfl, hlt⟩ := natsFrom_getElem? hj
  rw [Nat.zero_add] at hv ⊢
  exact hw i (Nat.zero_le i) (by omega) hv

/-! ## The command is admitted (R173, R174, R375) -/

/-- Nothing turns the load away before its words are read. -/
structure State.XtAdmits (s : State) (c : Cmd) : Prop where
  refused : s.host.refused = []
  withdrawn : s.host.withdrawn = []
  ready : s.hbmStatus = 0
  settled : ¬ (s.sow c.plot = Sow.sowing ∨ s.sow c.plot = Sow.releasing)
  active : nfld (c.dw 6) 0 1 = s.xtActive c.plot → s.plotBusy c.plot = false ∧ (c.dw 6).testBit 1 = false
  standby : nfld (c.dw 6) 0 1 ≠ s.xtActive c.plot →
    s.bit (Reg.XCH_RGN_STAT c.plot) 1 = false ∧ s.bit (Reg.XCH_RGN_STAT c.plot) 2 = false
  start : c.dw 13 = 0
  range : nfld (c.dw 7) 0 21 + c.dw 8 ≤ (s.xtHalf c.plot (nfld (c.dw 6) 0 1)).2

/-- The load check of the words that the host gives. -/
def State.xtWordsOk (s : State) (c : Cmd) : Bool :=
  (s.xtWords c).all xtItemOk && s.xtLoadOk c.plot (nfld (c.dw 6) 0 1) (nfld (c.dw 7) 0 21) (s.xtWords c)

theorem State.Translated.xtWordsOk (h : s.Translated t) : t.xtWordsOk c = s.xtWordsOk c := by
  obtain ⟨_, _, rfl⟩ := h
  rfl

/-- The entries are written, and the swap is scheduled where one is asked for. -/
def State.xtLoadEnd (s : State) (c : Cmd) : State :=
  if (c.dw 6).testBit 1 then (s.xtLoadRange c 0 (c.dw 8)).xtSwapAt c (c.dw64 11)
  else (s.xtLoadRange c 0 (c.dw 8)).finishAt c.id Status.ok (c.dw 8) (c.dw 8) (c.dw 8)

theorem State.xtLoadOp_admitted (h : s.XtAdmits c) : ∃ t, s.Translated t ∧ s.xtLoadOp c =
    if (c.dw 6).testBit 1 = true ∧ (s.deadStatus c.plot).isSome = true then s.finish c.id ((s.deadStatus c.plot).getD 0) 0
    else if s.xtWordsOk c = false then t.finish c.id Status.imageCheckFail 0 else t.xtLoadEnd c := by
  obtain ⟨t, he, ht⟩ := State.dma_all (s := s) (fn := c.func) (addr := c.dw64 9) (n := 8 * c.dw 8) (size := kib4)
    (start := c.dw 13) h.refused h.withdrawn
  refine ⟨t, ht, ?_⟩
  have hrange : ¬ ((s.xtHalf c.plot (nfld (c.dw 6) 0 1)).2 < nfld (c.dw 7) 0 21 + c.dw 8 ∨
      ¬ nfld (c.dw 6) 0 1 ≠ s.xtActive c.plot ∧ ((c.dw 6).testBit 1 = true ∨ s.plotBusy c.plot = true)) := by
    rintro (hlt | ⟨hact, hbusy⟩)
    · exact absurd h.range (Nat.not_le.2 hlt)
    · obtain ⟨hb, hs⟩ := h.active (not_not.1 hact)
      simp [hb, hs] at hbusy
  have hheld : ¬ (nfld (c.dw 6) 0 1 ≠ s.xtActive c.plot ∧
      (s.bit (Reg.XCH_RGN_STAT c.plot) 1 || s.bit (Reg.XCH_RGN_STAT c.plot) 2) = true) := by
    rintro ⟨hne, hheld⟩
    obtain ⟨h1, h2⟩ := h.standby hne
    simp [h1, h2] at hheld
  rw [← ht.xtWordsOk]
  unfold State.xtLoadOp
  dsimp only
  rw [if_neg h.settled, if_neg hrange, if_neg hheld, if_neg (not_not_intro h.ready), he]
  dsimp only
  rw [h.start, Nat.zero_mul, Nat.sub_zero, Nat.add_zero, Nat.mul_div_cancel_left _ (by decide)]
  rfl

/-! ## How the command ends (R174, R543) -/

theorem State.headBegun_of_plots (h : t.plots = s.plots) {p : Nat} : t.headBegun p n = s.headBegun p n := by
  rw [State.headBegun, State.headBegun, State.plot_of_plots h]

theorem Cmd.dw64_lt : c.dw64 n < 2 ^ 64 := by
  have hlo : wordAt c.words n < 2 ^ 32 := BitVec.isLt _
  have hhi : wordAt c.words (n + 1) < 2 ^ 32 := BitVec.isLt _
  rw [Cmd.dw64, word64]
  omega

/-- The swap is noted for its pass. -/
theorem State.swapNoted {p : Nat} (hm : s.memWf = true) (hn : n < 2 ^ 64) :
    let t := (s.rnSet64 (Reg.XCH_RGN_SWAP_PN_LO p) n).setBit (Reg.XCH_RGN_STAT p) 1
    t.bit (Reg.XCH_RGN_STAT p) 1 = true ∧ t.rn64 (Reg.XCH_RGN_SWAP_PN_LO p) = n := by
  refine ⟨State.bit_setBit _ _ _ (State.rnSet_memWf (State.rnSet_memWf hm)) (by decide), ?_⟩
  rw [State.rn64, State.rn_setBit_ne _ _ _ _ (by unfold Reg.XCH_RGN_SWAP_PN_LO Reg.XCH_RGN_STAT; omega),
    State.rn_setBit_ne _ _ _ _ (by unfold Reg.XCH_RGN_SWAP_PN_LO Reg.XCH_RGN_STAT; omega)]
  exact State.rn64_rnSet64 hm hn

section
variable (hm : s.memWf = true) (hid : ∃ e ∈ s.cmd.store, e.id = c.id)
include hid

/-- An answer that comes of the command's own entry alone. -/
theorem State.Translated.finish_ended {st : Nat} (h : s.Translated t) :
    (t.finish c.id st 0).ended c.id st 0 ∧ (t.finish c.id st 0).xch = s.xch ∧ (t.finish c.id st 0).regs = s.regs := by
  obtain ⟨_, _, rfl⟩ := h
  exact ⟨State.finish_ended _ _ _ _ hid, rfl, rfl⟩

theorem State.xtLoadEnd_plain (hs : (c.dw 6).testBit 1 = false) :
    (s.xtLoadEnd c).xch = (s.xtLoadRange c 0 (c.dw 8)).xch ∧ (s.xtLoadEnd c).ended c.id Status.ok (c.dw 8) ∧
      (s.xtLoadEnd c).regs = s.regs := by
  have hl := (State.xtLoadRange_entries (s := s) (c := c)).1
  rw [State.xtLoadEnd, if_neg (by simp [hs])]
  exact ⟨rfl, State.finishAt_ended _ _ _ _ _ _ (by rw [hl.cmd]; exact hid), hl.regs⟩

include hm

theorem State.xtLoadEnd_swap (hs : (c.dw 6).testBit 1 = true) :
    (s.xtLoadEnd c).xch = (s.xtLoadRange c 0 (c.dw 8)).xch ∧
      if s.headBegun c.plot (c.dw64 11) then
        (s.xtLoadEnd c).ended c.id Status.deadlineMissed 0 ∧ (s.xtLoadEnd c).regs = s.regs
      else (s.xtLoadEnd c).ended c.id Status.ok (c.dw 8) ∧ (s.xtLoadEnd c).bit (Reg.XCH_RGN_STAT c.plot) 1 = true ∧
        (s.xtLoadEnd c).rn64 (Reg.XCH_RGN_SWAP_PN_LO c.plot) = c.dw64 11 := by
  have hl := (State.xtLoadRange_entries (s := s) (c := c)).1
  have hid' : ∃ e ∈ (s.xtLoadRange c 0 (c.dw 8)).cmd.store, e.id = c.id := by rw [hl.cmd]; exact hid
  have hmu : (s.xtLoadRange c 0 (c.dw 8)).memWf = true := (State.xtLoadRange_good s c 0 _ (Good.all s hm)).mem
  rw [State.xtLoadEnd, if_pos hs, State.xtSwapAt, State.headBegun_of_plots hl.plots]
  split
  · exact ⟨rfl, State.finishAt_ended _ _ _ _ _ _ hid', hl.regs⟩
  · obtain ⟨hb, hn⟩ := State.swapNoted hmu (p := c.plot) (Cmd.dw64_lt (c := c) (n := 11))
    exact ⟨rfl, State.finishAt_ended _ _ _ _ _ _ hid', hb, hn⟩

theorem State.xtLoadEnd_ends :
    (∀ i v, (s.xtWords c)[i]? = some v → xtEncode v ≠ 0 →
      cget 0 (s.xtLoadEnd c).xch.xt (s.xtLoadBase c + i) = xtEncode v) ∧
    ((c.dw 6).testBit 1 = false → (s.xtLoadEnd c).ended c.id Status.ok (c.dw 8) ∧ (s.xtLoadEnd c).regs = s.regs) ∧
    ((c.dw 6).testBit 1 = true → if s.headBegun c.plot (c.dw64 11) then
      (s.xtLoadEnd c).ended c.id Status.deadlineMissed 0 ∧ (s.xtLoadEnd c).regs = s.regs
    else (s.xtLoadEnd c).ended c.id Status.ok (c.dw 8) ∧ (s.xtLoadEnd c).bit (Reg.XCH_RGN_STAT c.plot) 1 = true ∧
      (s.xtLoadEnd c).rn64 (Reg.XCH_RGN_SWAP_PN_LO c.plot) = c.dw64 11) := by
  refine ⟨?_, fun hs => (State.xtLoadEnd_plain hid hs).2, fun hs => (State.xtLoadEnd_swap hm hid hs).2⟩
  have hx : (s.xtLoadEnd c).xch = (s.xtLoadRange c 0 (c.dw 8)).xch := by
    cases hs : (c.dw 6).testBit 1 with
    | false => exact (State.xtLoadEnd_plain hid hs).1
    | true => exact (State.xtLoadEnd_swap hm hid hs).1
  rw [hx]
  exact (State.xtLoadRange_entries (s := s) (c := c)).2

end

theorem exec_xtLoad (h : s.taken 0x72 id = some c) : exec (.xtLoad id) s = .next (s.xtLoadOp c) :=
  congrArg Host.Outcome.next (State.onTaken_some h)

end

/-- Settles O35: an admitted load is turned away by the stop of its plot or by the load check alone
(`State.xtLoadOp_admitted`), and otherwise writes its words one after the other (`State.xtLoadRange_entries`) and notes its swap
(`State.xtLoadEnd_swap`). -/
theorem xtLoadWritesTheStandbyHalf : Obligations.XtLoadWritesTheStandbyHalf := by
  intro s id c hm href hwd hhbm htk hsow hrel hact hstand hstart hrange words good
  have hid : ∃ e ∈ s.cmd.store, e.id = c.id := ⟨c, (s.taken_mem _ id c htk).1, rfl⟩
  obtain rfl : c.id = id := (s.taken_mem _ id c htk).2
  obtain ⟨u, hu, hop⟩ := State.xtLoadOp_admitted (s := s) (c := c)
    ⟨href, hwd, hhbm, fun h => h.elim hsow hrel, hact, hstand, hstart, hrange⟩
  rw [exec_xtLoad htk, hop]
  refine ⟨fun st hswap hdead => ?_, fun hlive => ?_⟩
  · refine ⟨_, rfl, ?_⟩
    rw [if_pos ⟨hswap, by rw [hdead]; rfl⟩, hdead]
    exact State.Translated.finish_ended hid .refl
  · rw [if_neg fun ⟨hswap, hdead⟩ => hlive.elim (fun h => by simp [h] at hswap) fun h => by simp [h] at hdead]
    refine ⟨fun hbad => ⟨_, rfl, ?_⟩, fun hgood => ⟨_, rfl, ?_⟩⟩
    · rw [show s.xtWordsOk c = false from hbad, if_pos rfl]
      exact hu.finish_ended hid
    · rw [show s.xtWordsOk c = true from hgood, if_neg (by decide)]
      have hmu : u.memWf = true := (hu.good (Good.all s hm)).mem
      obtain ⟨_, _, rfl⟩ := hu
      exact State.xtLoadEnd_ends hmu hid

end Sys2Proof.Machine

end

section

/-!
# The exchange of time stamps

SUPPORT for O43: the selection of a grandmaster and the servo leave alone what a port has heard (spec R277-R284).
-/

namespace Sys2Proof.Machine
open Sys2Proof

section
variable {κ s t : State} {q : Nat}

/-- s has what κ has of port q's announcement and stamps, of the first lock, and of the count of outliers. -/
structure State.Heard (q : Nat) (κ s : State) : Prop where
  sync : s.sync q = κ.sync q
  first : s.ft.first = κ.ft.first
  outliers : s.rn Reg.FT_OUTLIER_CNT = κ.rn Reg.FT_OUTLIER_CNT

theorem State.Heard.refl : State.Heard q s s := ⟨rfl, rfl, rfl⟩

theorem State.Heard.trans {u : State} (h : State.Heard q s t) (g : State.Heard q t u) : State.Heard q s u :=
  ⟨g.sync.trans h.sync, g.first.trans h.first, g.outliers.trans h.outliers⟩

theorem State.Heard.ite {c : Prop} [Decidable c] (h : State.Heard q κ s) (g : State.Heard q κ t) :
    State.Heard q κ (if c then s else t) := by
  split <;> assumption

/-- An operation that notes an event. -/
theorem State.Heard.note (h : State.Heard q κ s) (hq : Quiet s t) (hr : t.rn Reg.FT_OUTLIER_CNT = s.rn Reg.FT_OUTLIER_CNT) :
    State.Heard q κ t :=
  h.trans ⟨by rw [State.sync, State.sync, hq.ft], by rw [hq.ft], hr⟩

theorem State.Heard.rgSet {a : Nat} {v : Word} (h : State.Heard q κ s) (ha : Reg.FT_OUTLIER_CNT ≠ a) :
    State.Heard q κ (s.rgSet a v) :=
  h.note (State.rgSet_quiet s a v rfl) (congrArg BitVec.toNat (State.rg_rgSet_ne s a _ v ha))

theorem State.Heard.put {a i n v : Nat} (h : State.Heard q κ s) (ha : Reg.FT_OUTLIER_CNT ≠ a) :
    State.Heard q κ (s.put a i n v) := h.rgSet ha

theorem State.Heard.rnSet {a v : Nat} (h : State.Heard q κ s) (ha : Reg.FT_OUTLIER_CNT ≠ a) :
    State.Heard q κ (s.rnSet a v) := h.rgSet ha

theorem State.Heard.record {rtype len : Nat} {plot : Option Nat} {pn : Nat} {body : List Nat} (h : State.Heard q κ s) :
    State.Heard q κ (s.record rtype len plot pn body) :=
  h.note (State.record_quiet s rtype len plot pn body rfl) (State.rn_record (by decide +kernel))

theorem State.Heard.condition {block stat i : Nat} (h : State.Heard q κ s) (ha : Reg.FT_OUTLIER_CNT ≠ stat) :
    State.Heard q κ (s.condition block stat i) :=
  h.note (State.condition_quiet s block stat i rfl)
    ((State.rn_devInt (by decide)).trans (State.rn_setBit_ne _ _ _ _ ha))

/-- An update of Field Time beside the ports and the first lock. -/
theorem State.Heard.ft {x : FtSt} (h : State.Heard q κ s) (hp : x.ports = s.ft.ports) (hf : x.first = s.ft.first) :
    State.Heard q κ { s with ft := x } :=
  h.trans ⟨congrArg (fun m : Cells SyncPort => cget ({} : SyncPort) m q) hp, hf, rfl⟩

theorem State.Heard.setAdj {want : Int} (h : State.Heard q κ s) : State.Heard q κ (s.setAdj want) := by
  unfold State.setAdj
  have hr : State.Heard q κ (s.rgSet Reg.FT_ADJ (BitVec.ofInt 32 (clampAdj want))) := h.rgSet (by decide)
  exact hr.ite (hr.condition (by decide))

theorem State.Heard.phaseEnds (h : State.Heard q κ s) : State.Heard q κ s.phaseEnds :=
  State.Heard.setAdj (h.ft rfl rfl)

theorem State.Heard.ftStateSet {v : Nat} (h : State.Heard q κ s) : State.Heard q κ (s.ftStateSet v) := h.put (by decide)

theorem State.Heard.recount (h : State.Heard q κ s) : State.Heard q κ s.recount := h.ft rfl rfl

/-! ## The choice of a grandmaster (R279, R280, R283) -/

theorem State.Heard.choose {gmid port : Nat} (h : State.Heard q κ s) : State.Heard q κ (s.choose gmid port) := by
  have h1 : State.Heard q κ { s with ft := { s.ft with chosen := some (gmid, port) } } := h.ft rfl rfl
  unfold State.choose
  exact h1.ite (h1.condition (by decide)).record

theorem State.Heard.discipline (h : State.Heard q κ s) : State.Heard q κ s.discipline := by
  unfold State.discipline
  refine State.Heard.ite (State.Heard.ftStateSet (h.ft rfl rfl)) (h.ite (State.Heard.ftStateSet (State.Heard.recount ?_)))
  exact h.ft rfl rfl

theorem State.Heard.noGm (h : State.Heard q κ s) : State.Heard q κ s.noGm := by
  have h1 : State.Heard q κ ((s.put Reg.FT_STAT 8 8 255).clrBit Reg.FT_STAT 23) := (h.put (by decide)).put (by decide)
  have h2 := h1.ft (x := { ((s.put Reg.FT_STAT 8 8 255).clrBit Reg.FT_STAT 23).ft with disciplined := false }) rfl rfl
  unfold State.noGm
  exact h2.ite (State.Heard.rnSet (State.Heard.ftStateSet (h2.ft rfl rfl)) (by decide))

theorem State.Heard.selfGm {gm : Nat} (h : State.Heard q κ s) : State.Heard q κ (s.selfGm gm) := by
  unfold State.selfGm
  refine State.Heard.discipline (State.Heard.rnSet (h.ite ?_) (by decide))
  exact State.Heard.put (State.Heard.put (State.Heard.choose (h.ft rfl rfl)) (by decide)) (by decide)

theorem State.Heard.takeParent {gm hops port : Nat} (h : State.Heard q κ s) : State.Heard q κ (s.takeParent gm hops port) := by
  have h2 : State.Heard q κ ((((s.choose (gm % 2 ^ 24) port).put Reg.FT_STAT 24 4 port).setBit Reg.FT_STAT 23).ftStateSet 1) :=
    ((h.choose.put (by decide)).put (by decide)).ftStateSet
  unfold State.takeParent
  exact State.Heard.put (State.Heard.rnSet (h.ite (State.Heard.recount (h2.ft rfl rfl))) (by decide)) (by decide)

theorem State.Heard.chooseGm (h : State.Heard q κ s) : State.Heard q κ s.chooseGm := by
  unfold State.chooseGm
  split
  · exact h.noGm
  · dsimp only
    exact h.selfGm.ite h.takeParent

/-- An update of what another port has heard. -/
theorem State.Heard.onSync_ne {r : Nat} {f : SyncPort → SyncPort} (h : State.Heard q κ s) (hr : q ≠ r) :
    State.Heard q κ (s.onSync r f) := h.trans ⟨Laws.cget_cset_ne hr, rfl, rfl⟩

/-- The loss of a parent on another port (R284). -/
theorem State.Heard.parentLost (h : State.Heard q κ s) (hq : s.fld Reg.FT_STAT 24 4 ≠ q) : State.Heard q κ s.parentLost := by
  have h1 : State.Heard q κ ((s.condition Block.ft Reg.FT_STAT 20).clrBit Reg.FT_STAT 23) :=
    (h.condition (by decide)).put (by decide)
  unfold State.parentLost
  exact State.Heard.chooseGm (State.Heard.put (h1.onSync_ne (Ne.symm hq)).phaseEnds.ftStateSet (by decide))

/-- A port that is UP and has been heard of now is not the port of a silent parent. -/
theorem State.parentSilent_other {a b c : Nat} (hup : s.portUp q = true) (ha : (s.sync q).ann = some (a, b, c, (s.ftNs : Int)))
    (hp : s.parentSilent = true) : s.fld Reg.FT_STAT 24 4 ≠ q := by
  rintro rfl
  have hint : 1000 ≤ s.syncInt := Nat.le_mul_of_pos_right _ (Nat.le_max_left _ _)
  simp only [State.parentSilent, hup, ha, Bool.not_true, Bool.false_or, Bool.and_eq_true, decide_eq_true_eq] at hp
  omega

theorem State.Heard.selectGm {a b c : Nat} (hup : s.portUp q = true) (ha : (s.sync q).ann = some (a, b, c, (s.ftNs : Int))) :
    State.Heard q s s.selectGm := by
  unfold State.selectGm
  split
  · exact State.Heard.refl.parentLost (State.parentSilent_other hup ha ‹_›)
  · exact State.Heard.refl.chooseGm

/-! ## The servo (R278, R280-R282) -/

theorem SyncPort.shift_zero {x : SyncPort} : x.shift 0 = x := by
  cases x with
  | mk ann => cases ann <;> simp [SyncPort.shift]

theorem SyncPort.shift_shift {x : SyncPort} {d e : Int} : (x.shift d).shift e = x.shift (d + e) := by
  cases x with
  | mk ann => cases ann <;> simp [SyncPort.shift, Int.add_assoc]

theorem cget_shiftPorts {m : Cells SyncPort} {d : Int} {qs : List Nat} (hm : cellsWf {} m = true) :
    ∃ k, cget {} (shiftPorts m d qs) q = (cget {} m q).shift k := by
  unfold shiftPorts
  induction qs generalizing m with
  | nil => exact ⟨0, SyncPort.shift_zero.symm⟩
  | cons r qs ih =>
    obtain ⟨k, hk⟩ := ih (Laws.cset_wf (k := r) (v := (cget {} m r).shift d) hm)
    rw [cget_cset hm] at hk
    by_cases hr : q = r
    · subst hr
      exact ⟨d + k, by rw [List.foldl_cons, hk, if_pos rfl, SyncPort.shift_shift]⟩
    · exact ⟨k, by rw [List.foldl_cons, hk, if_neg hr]⟩

theorem State.Heard.keepSample {o : Int} {d : Option Int} (h : State.Heard q κ s) : State.Heard q κ (s.keepSample o d) := by
  have h1 : State.Heard q κ (s.rgSet Reg.FT_OFFSET (BitVec.ofInt 32 (unitsPs o))) := h.rgSet (by decide)
  unfold State.keepSample
  dsimp only
  split
  · exact State.Heard.ft (h1.rgSet (by decide)) rfl rfl
  · exact h1

theorem State.Heard.setLockCnt {n : Nat} (h : State.Heard q κ s) :
    State.Heard q κ { s with ft := { s.ft with lockCnt := n } } := h.ft rfl rfl

theorem State.Heard.setCounts {n m k : Nat} (h : State.Heard q κ s) :
    State.Heard q κ { s with ft := { s.ft with lockCnt := n, unlockCnt := m, refused := k } } := h.ft rfl rfl

theorem State.Heard.setRefused {n m : Nat} (h : State.Heard q κ s) :
    State.Heard q κ { s with ft := { s.ft with refused := n, lockCnt := m } } := h.ft rfl rfl

theorem State.Heard.lockCount {o : Int} (h : State.Heard q κ s) : State.Heard q κ (s.lockCount o) := by
  unfold State.lockCount
  refine State.Heard.ite (State.Heard.setLockCnt h.setCounts.ftStateSet) ?_
  exact h.setCounts.ite (h.setCounts.ftStateSet.ite h.setCounts.ftStateSet)

theorem State.Heard.count {c : Nat} (h : State.Heard q κ s) (hc : ¬ countsAt c Reg.FT_OUTLIER_CNT) :
    State.Heard q κ (s.count c) := h.note (State.count_quiet s c rfl) (State.rn_count hc)

theorem not_countsAt_jumpCnt : ¬ countsAt Reg.FT_JUMP_CNT Reg.FT_OUTLIER_CNT :=
  not_countsAt_of_map (o := Reg.FT_STAT) (by decide +kernel) (by decide) (by decide)

theorem State.Heard.servoRefuse {o : Int} (h : State.Heard q κ s) : State.Heard q κ (s.servoRefuse o) := by
  unfold State.servoRefuse
  have h1 := (((h.condition (block := Block.ft) (stat := Reg.FT_STAT) (i := 22) (by decide)).count
    not_countsAt_jumpCnt).record (rtype := 0x10) (len := 1) (plot := none) (pn := 0)
    (body := [1, (BitVec.ofInt 32 (unitsPs o)).toNat])).setRefused (n := min 16 (s.ft.refused + 1)) (m := 0)
  exact h1.ftStateSet.ite h1

theorem State.Heard.servoApply {o : Int} {n : Nat} {d : Option Int} (h : State.Heard q κ s) :
    State.Heard q κ (s.servoApply o n d) := by
  unfold State.servoApply
  exact State.Heard.lockCount (State.Heard.setAdj (State.Heard.keepSample (h.ft rfl rfl)))

theorem State.shiftFt_sync {d : Int} (hw : cellsWf {} s.ft.ports = true) :
    ∃ k, (s.shiftFt d).sync q = (s.sync q).shift k := by
  obtain ⟨k, hk⟩ := cget_shiftPorts (q := q) (d := d) (qs := natsFrom 0 16) hw
  exact ⟨k, by rw [State.shiftFt, FtSt.shift, State.sync, State.sync]; dsimp only; rw [hk]⟩

theorem State.ftStep_sync {v : Int} {kind : Nat} (hw : cellsWf {} s.ft.ports = true) :
    ∃ k, (s.ftStep v kind).sync q = (s.sync q).shift k := by
  obtain ⟨k, hk⟩ := State.shiftFt_sync (q := q) (s := { s with ft := { s.ft with ft := v.toNat } })
    (d := (({ s with ft := { s.ft with ft := v.toNat } } : State).ftNs : Int) - s.ftNs) hw
  refine ⟨k, ?_⟩
  rw [State.ftStep, State.sync, State.record_ft, ← State.sync, hk]
  rfl

/-- The first sample steps FT, and with it the instants that the port holds. -/
theorem State.servoFirst_sync {o : Int} {d : Option Int} (hm : s.memWf = true) :
    ∃ k, (s.servoFirst o d).sync q = (s.sync q).shift k := by
  have hw : cellsWf {} (s.keepSample o d).ft.ports = true :=
    (State.recs _ (State.keepSample_good s o d (Good.all s hm)).mem).2.2.2.2.2
  have hset : ∀ u : State, ({ u with ft := { u.ft with f := 0, first := true } }.lockCount o).sync q = u.sync q :=
    fun _ => State.Heard.refl.lockCount.sync
  obtain ⟨k, hk⟩ := State.ftStep_sync (q := q) (v := s.ftNow - o) (kind := 0) hw
  refine ⟨k, (hset _).trans (hk.trans ?_)⟩
  rw [State.Heard.refl.keepSample.sync]

/-- A sample steps FT before the first lock alone. -/
theorem State.syncSample_sync {o d : Int} (hm : s.memWf = true) :
    ∃ k, (s.syncSample o d).sync q = (s.sync q).shift k ∧ (s.ft.first = true → k = 0) := by
  have h0 : State.Heard q s { s with ft := { s.ft with sinceParent := min 16 (s.ft.sinceParent + 1) } } :=
    State.Heard.refl.ft rfl rfl
  have hstays : ∀ u, State.Heard q s u → ∃ k, u.sync q = (s.sync q).shift k ∧ (s.ft.first = true → k = 0) := fun u hu =>
    ⟨0, hu.sync.trans SyncPort.shift_zero.symm, fun _ => rfl⟩
  unfold State.syncSample
  dsimp only
  split
  · exact ⟨0, (congrArg (fun x : FtSt => cget ({} : SyncPort) x.ports q) State.count_ft).trans SyncPort.shift_zero.symm,
      fun _ => rfl⟩
  · unfold State.servo
    split
    · rename_i hf
      obtain ⟨k, hk⟩ := State.servoFirst_sync (q := q) (o := o) (d := some d)
        (s := { s with ft := { s.ft with sinceParent := min 16 (s.ft.sinceParent + 1) } }) hm
      exact ⟨k, hk, fun h => (Bool.false_ne_true (hf.symm.trans h)).elim⟩
    · split
      · exact hstays _ h0.servoRefuse
      · exact hstays _ h0.servoApply

/-! ## TIME_SYNC (R277, R278) -/

/-- What a port has heard once a packet with the announcement of its sender has come. -/
def State.heardNow (s : State) (q i : Nat) (ws : List Word) : State :=
  s.onSync q fun x =>
    { x with ann := some (wordAt ws 8 % 256, wordAt ws 9 / 2 ^ 14, nfld (wordAt ws 8) 8 8, s.ftNs),
             rx := holdStamp x.rx (wordAt ws 8 / 65536) (s.rxStamp q i) }

section
variable {i : Nat} {ws : List Word} (hm : s.memWf = true) (hup : s.portUp q = true)
include hm

theorem State.heardNow_sync : (s.heardNow q i ws).sync q =
    { s.sync q with ann := some (wordAt ws 8 % 256, wordAt ws 9 / 2 ^ 14, nfld (wordAt ws 8) 8 8, s.ftNs),
                    rx := holdStamp (s.sync q).rx (wordAt ws 8 / 65536) (s.rxStamp q i) } :=
  (State.sync_onSync s q q _ hm).trans (if_pos rfl)

include hup

theorem State.heardNow_selectGm : State.Heard q (s.heardNow q i ws) (s.heardNow q i ws).selectGm :=
  State.Heard.selectGm hup (congrArg SyncPort.ann (State.heardNow_sync hm))

/-- The sample of a packet that completes a round with the parent (R278). -/
theorem State.timeSync_sync : ∃ k, (s.timeSync q i ws).sync q = ((s.heardNow q i ws).sync q).shift k ∧
    (s.ft.first = true → k = 0) := by
  unfold State.timeSync
  rw [hup, if_neg (by decide)]
  extract_lets x sseq pseq rseq valid2 t2 t3 s1 s2
  have hs : State.Heard q (s.heardNow q i ws) s2 := State.heardNow_selectGm hm hup
  have hm2 : s2.memWf = true := (State.selectGm_good _ (State.onSync_good _ _ _ (Good.all s hm))).mem
  have hstays : ∀ u : State, u.ft = s2.ft → ∃ k, u.sync q = ((s.heardNow q i ws).sync q).shift k ∧
      (s.ft.first = true → k = 0) := fun u hu =>
    ⟨0, (by rw [State.sync, hu]; exact hs.sync.trans SyncPort.shift_zero.symm), fun _ => rfl⟩
  clear_value t2 t3
  split
  · exact hstays _ State.count_ft
  · split
    · exact hstays _ rfl
    · split
      · obtain ⟨k, hk, h0⟩ := State.syncSample_sync (q := q) hm2
        exact ⟨k, by rw [hk, hs.sync], fun h => h0 (hs.first.trans h)⟩
      · exact hstays _ rfl

theorem State.timeSync_ann : ∃ at_, ((s.timeSync q i ws).sync q).ann =
      some (wordAt ws 8 % 256, wordAt ws 9 / 2 ^ 14, nfld (wordAt ws 8) 8 8, at_) ∧ (s.ft.first = true → at_ = s.ftNs) ∧
      ((s.timeSync q i ws).sync q).rx = holdStamp (s.sync q).rx (wordAt ws 8 / 65536) (s.rxStamp q i) := by
  obtain ⟨k, hk, h0⟩ := State.timeSync_sync (i := i) (ws := ws) hm hup
  rw [State.heardNow_sync hm] at hk
  exact ⟨s.ftNs + k, by rw [hk]; rfl, fun h => by rw [h0 h, Int.add_zero], by rw [hk]; rfl⟩

/-- A packet that names a packet whose stamp is held no longer. -/
theorem State.timeSync_outlier (h : stampOf (s.sync q).rx (wordAt ws 13 / 65536) = none) :
    (s.timeSync q i ws).rn Reg.FT_OUTLIER_CNT = min (s.rn Reg.FT_OUTLIER_CNT + 1) 0xffffffff := by
  have hs := State.heardNow_selectGm (i := i) (ws := ws) hm hup
  have hmu : (s.heardNow q i ws).selectGm.memWf = true :=
    (State.selectGm_good _ (State.onSync_good _ _ _ (Good.all s hm))).mem
  have he : s.timeSync q i ws = (s.heardNow q i ws).selectGm.count Reg.FT_OUTLIER_CNT := by
    unfold State.timeSync
    rw [hup, if_neg (by decide)]
    exact if_pos (.inl h)
  rw [he, State.rn_count_self (o := Reg.FT_STAT) hmu (by decide +kernel) (by decide), hs.outliers]
  rfl

end

end

end Sys2Proof.Machine

end


section

/-!
# Control packets

PROVES O43 (spec R178-R180, R191, R278).
-/

namespace Sys2Proof.Machine
open Sys2Proof

section
variable {s : State} {q i cause : Nat} {ws : List Word}

/-! ## Packets that are discarded (R178, R183) -/

theorem Quiet.xch {κ : State} (h : Quiet κ s) : s.xch = κ.xch := congrArg (a₁ := s.core) (a₂ := κ.core) State.xch h

theorem Quiet.cmd {κ : State} (h : Quiet κ s) : s.cmd = κ.cmd := congrArg (a₁ := s.core) (a₂ := κ.core) State.cmd h

/-- What a packet's condition writes: its bit of XCH_STAT, and what every condition of the exchange notes. -/
theorem State.raisePkt_noted (hm : s.memWf = true) (hc : cause < 32) :
    (s.raisePkt cause q i).memWf = true ∧ Quiet s (s.raisePkt cause q i) ∧
      (s.raisePkt cause q i).bit Reg.XCH_STAT cause = true ∧
      ∀ a, notedReg a = false → a ≠ Reg.XCH_STAT → (s.raisePkt cause q i).rn a = s.rn a :=
  ⟨(State.raiseXch_good s _ _ _ _ _ _ (Good.all s hm)).mem, State.raiseXch_quiet s _ _ _ _ _ _ rfl,
    (congrArg (Nat.testBit · cause) (State.rn_raise (by decide +kernel) (by decide))).trans (State.bit_setBit s _ _ hm hc),
    fun _ hn ha => State.rn_raise_ne hn (by decide) ha⟩

theorem findCnt_xchCnt7 : (findCnt CntRow.base (Reg.XCH_CNT 7) cntRows).map (fun x => (x.1.ovfAt x.2).1) =
    some Reg.XCH_OVF := by decide +kernel

theorem State.pktBad_noted (hm : s.memWf = true) (hc : cause < 32) :
    (s.pktBad q i cause).bit Reg.XCH_STAT cause = true ∧
      (s.pktBad q i cause).rn (Reg.XCH_CNT 7) = min (s.rn (Reg.XCH_CNT 7) + 1) 0xffffffff ∧
      (s.pktBad q i cause).xch.seen = s.xch.seen ∧ (s.pktBad q i cause).cmd = s.cmd := by
  obtain ⟨hmr, hq, hb, hr⟩ := State.raisePkt_noted (q := q) (i := i) hm hc
  have hqc : Quiet s (s.pktBad q i cause) := State.count_quiet _ _ hq
  refine ⟨?_, ?_, by rw [hqc.xch], hqc.cmd⟩
  · rw [State.pktBad, State.bit, State.rn_count (not_countsAt_of_map findCnt_xchCnt7 (by decide) (by decide))]
    exact hb
  · rw [State.pktBad, State.rn_count_self hmr findCnt_xchCnt7 (by decide), hr _ (by decide +kernel) (by decide)]

theorem exec_ctrlPacketReceive : exec (.ctrlPacketReceive q ws) s = .next (s.ctrlReceive q (s.rxLane q 0) ws) := rfl

theorem State.ctrlReceive_badCrc (h : pktCrcOk ws = false) : s.ctrlReceive q i ws = s.pktBad q i 9 := if_pos h

section
variable (hcrc : pktCrcOk ws = true)
include hcrc

theorem State.ctrlReceive_reserved (h : (parsePkt ws).ptype = 0 ∨ 8 ≤ (parsePkt ws).ptype ∧ (parsePkt ws).ptype ≤ 14) :
    s.ctrlReceive q i ws = s.pktBad q i 10 := by
  rw [State.ctrlReceive, if_neg (by simp [hcrc]), if_pos h]

theorem State.ctrlReceive_routed (hl : 1 ≤ (parsePkt ws).ptype) (hu : (parsePkt ws).ptype ≤ 7) :
    s.ctrlReceive q i ws = s.routePacket q i ws := by
  rw [State.ctrlReceive, if_neg (by simp [hcrc]), if_neg (by omega), if_neg (by omega)]

end

/-! ## Delivery (R178) -/

/-- The rows that a packet of a type, and of a subtype where that type has them, is delivered to. -/
def packetRows (s : State) (q : Nat) (ws : List Word) : List (Nat × Nat × Instr) :=
  [(1, 0, .timeSync q (s.rxLane q 0) ws), (2, 1, .arm q ws), (2, 2, .fire q ws), (3, 0, .votePacket q ws),
    (4, 0, .stretchNotice q ws), (5, 0x01, .sown q ws), (5, 0x02, .launch q ws), (5, 0x03, .haltAt q ws),
    (5, 0x10, .stakeDone q ws), (5, 0x11, .healReady q ws), (5, 0x12, .recoverReady q ws), (5, 0x13, .resume q ws),
    (5, 0x14, .diverge q ws), (5, 0x15, .rollbackPacket q ws), (6, 1, .forwardedCommand q ws)]

theorem exec_plotControl {n : Nat} {c : Instr} (h : (n, c) ∈ [(0x01, Instr.sown q ws), (0x02, .launch q ws), (0x03, .haltAt q ws),
    (0x10, .stakeDone q ws), (0x11, .healReady q ws), (0x12, .recoverReady q ws), (0x13, .resume q ws), (0x14, .diverge q ws),
    (0x15, .rollbackPacket q ws)]) (hs : ctlSub ws = n) : exec c s = .next (s.plotControl ws) := by
  unfold State.plotControl
  rw [hs]
  simp only [List.mem_cons, Prod.mk.injEq, List.not_mem_nil, or_false] at h
  rcases h with ⟨rfl, rfl⟩ | ⟨rfl, rfl⟩ | ⟨rfl, rfl⟩ | ⟨rfl, rfl⟩ | ⟨rfl, rfl⟩ | ⟨rfl, rfl⟩ | ⟨rfl, rfl⟩ | ⟨rfl, rfl⟩ | ⟨rfl, rfl⟩
  all_goals rfl

theorem State.crossTrigger_arm (h : ctlSub ws = 1) : s.crossTrigger ws = s.armPacket ws := by
  rw [State.crossTrigger, h]
  rfl

theorem State.crossTrigger_fire (h : ctlSub ws = 2) : s.crossTrigger ws = s.firePacket ws := by
  rw [State.crossTrigger, h]
  rfl

theorem State.forwardedPacket_command (h : ctlSub ws = 1) : s.forwardedPacket ws = s.forwardedCommand ws := by
  rw [State.forwardedPacket, h]
  rfl

/-- The packet takes the effect of its row. -/
theorem exec_deliver {e : Nat × Nat × Instr} (he : e ∈ packetRows s q ws) (ht : (parsePkt ws).ptype = e.1)
    (hs : e.2.1 = 0 ∨ ctlSub ws = e.2.1) : exec e.2.2 s = .next (s.deliver q (s.rxLane q 0) ws) := by
  unfold State.deliver
  rw [ht]
  simp only [packetRows, List.mem_cons, List.not_mem_nil, or_false] at he
  rcases he with rfl | rfl | rfl | rfl | rfl | rfl | rfl | rfl | rfl | rfl | rfl | rfl | rfl | rfl | rfl
  · rfl
  · exact (congrArg Host.Outcome.next (State.crossTrigger_arm (hs.resolve_left (Nat.succ_ne_zero _)))).symm
  · exact (congrArg Host.Outcome.next (State.crossTrigger_fire (hs.resolve_left (Nat.succ_ne_zero _)))).symm
  · rfl
  · rfl
  iterate 9 exact exec_plotControl (q := q) (by simp) (hs.resolve_left (Nat.succ_ne_zero _))
  exact (congrArg Host.Outcome.next (State.forwardedPacket_command (hs.resolve_left (Nat.succ_ne_zero _)))).symm

/-! ## The way of a packet (R179, R180) -/

section
variable (hcrc : pktCrcOk ws = true) (hl : 1 ≤ (parsePkt ws).ptype) (hu : (parsePkt ws).ptype ≤ 7)
include hcrc hl hu

theorem exec_ctrlPacketReceive_routed :
    exec (.ctrlPacketReceive q ws) s = .next (s.routePacket q (s.rxLane q 0) ws) :=
  congrArg Host.Outcome.next (State.ctrlReceive_routed hcrc hl hu)

theorem exec_ctrlPacketReceive_seen (hf : (parsePkt ws).flood = true)
    (hseen : s.xch.seen.contains ((parsePkt ws).src, (parsePkt ws).seq) = true) :
    exec (.ctrlPacketReceive q ws) s = .next s := by
  rw [exec_ctrlPacketReceive_routed hcrc hl hu, State.routePacket, if_pos hf, if_pos hseen]

/-- A packet that is addressed to this device and has no hop left. -/
theorem exec_ctrlPacketReceive_delivered (hf : (parsePkt ws).flood = false) (hh : (parsePkt ws).hidx = (parsePkt ws).nhop)
    (hd : (parsePkt ws).dst = s.devId) :
    exec (.ctrlPacketReceive q ws) s = .next (s.deliver q (s.rxLane q 0) ws) := by
  rw [exec_ctrlPacketReceive_routed hcrc hl hu, State.routePacket, if_neg (by simp [hf]), if_neg (by omega), if_pos ⟨hh, hd⟩]

/-- A packet with hops left waits on its next port, where that is UP and has room. -/
theorem exec_ctrlPacketReceive_forwarded (hf : (parsePkt ws).flood = false) (hh : (parsePkt ws).hidx < (parsePkt ws).nhop)
    (hp : s.portUp ((parsePkt ws).hop (parsePkt ws).hidx) = true)
    (hroom : (s.xch.ctrlQ.filter fun w => w.port == (parsePkt ws).hop (parsePkt ws).hidx).length < 64) :
    exec (.ctrlPacketReceive q ws) s = .next { s with xch := { s.xch with ctrlQ := s.xch.ctrlQ ++
      [⟨(parsePkt ws).hop (parsePkt ws).hidx, highClass (parsePkt ws).ptype,
        ({ parsePkt ws with hidx := (parsePkt ws).hidx + 1 } : Pkt).words⟩] } } := by
  rw [exec_ctrlPacketReceive_routed hcrc hl hu, State.routePacket, if_neg (by simp [hf]), if_pos hh, if_pos hp,
    State.ctrlQueue, if_pos hroom]

theorem exec_ctrlPacketReceive_misrouted (hf : (parsePkt ws).flood = false)
    (hh : (parsePkt ws).nhop < (parsePkt ws).hidx ∨ (parsePkt ws).hidx = (parsePkt ws).nhop ∧ (parsePkt ws).dst ≠ s.devId) :
    exec (.ctrlPacketReceive q ws) s = .next (s.misroute q (s.rxLane q 0)) := by
  rw [exec_ctrlPacketReceive_routed hcrc hl hu, State.routePacket, if_neg (by simp [hf]), if_neg (by omega),
    if_neg fun h => hh.elim (by omega) fun h' => h'.2 h.2]

/-- A flooded packet that has not been seen is delivered, and goes on, where its tag is 0 or names a plot of the device. -/
theorem exec_ctrlPacketReceive_flooded (hf : (parsePkt ws).flood = true)
    (hnew : s.xch.seen.contains ((parsePkt ws).src, (parsePkt ws).seq) = false) :
    exec (.ctrlPacketReceive q ws) s = .next (
      if s.strangeTag (parsePkt ws) then s.markSeen (parsePkt ws).src (parsePkt ws).seq
      else if selfForwards (parsePkt ws) then
        (s.markSeen (parsePkt ws).src (parsePkt ws).seq).deliver q (s.rxLane q 0) ws
      else ((s.markSeen (parsePkt ws).src (parsePkt ws).seq).deliver q (s.rxLane q 0) ws).forwardFlood q ws) := by
  rw [exec_ctrlPacketReceive_routed hcrc hl hu, State.routePacket, if_pos hf, if_neg (by rw [hnew]; decide)]
  rfl

/-- A flooded packet of a type that the device knows by its words alone: what it does, and whether it goes on. -/
theorem exec_ctrlPacketReceive_floodedRow {e : Nat × Nat × Instr} (hf : (parsePkt ws).flood = true)
    (hnew : s.xch.seen.contains ((parsePkt ws).src, (parsePkt ws).seq) = false) (hs : s.strangeTag (parsePkt ws) = false)
    (he : e ∈ packetRows (s.markSeen (parsePkt ws).src (parsePkt ws).seq) q ws) (ht : (parsePkt ws).ptype = e.1)
    (hz : e.2.1 = 0) :
    ∃ u, exec e.2.2 (s.markSeen (parsePkt ws).src (parsePkt ws).seq) = .next u ∧
      exec (.ctrlPacketReceive q ws) s = .next (if selfForwards (parsePkt ws) then u else u.forwardFlood q ws) := by
  refine ⟨_, exec_deliver he ht (.inl hz), ?_⟩
  rw [exec_ctrlPacketReceive_flooded hcrc hl hu hf hnew, if_neg (by simp [hs])]
  rfl

end

/-! ## Packets of a type (R191, R278) -/

theorem State.votePacket_unknown (h : s.plotByTag (pktTag ws) = none) : s.votePacket ws = s := by rw [State.votePacket, h]

theorem State.votePacket_known {p : Nat} (h : s.plotByTag (pktTag ws) = some p) : s.votePacket ws =
    s.faultRec (if 1 ≤ nfld (wordAt ws 10) 24 8 ∧ nfld (wordAt ws 10) 24 8 ≤ 4 then nfld (wordAt ws 10) 24 8 else 0)
      (nfld (wordAt ws 10) 16 5) (wordAt ws 11) (some p) (word64 ws 8) true (pktSrc ws) := by rw [State.votePacket, h]

theorem State.timeSync_down (h : s.portUp q = false) : s.timeSync q i ws = s := by
  rw [State.timeSync, h]
  rfl

end

/-- Settles O43: a packet is discarded (`State.pktBad_noted`), or takes its way (`exec_ctrlPacketReceive_delivered` and the lemmas
beside it) and the effect of its row (`exec_deliver`); TIME_SYNC writes what its port has heard (`State.timeSync_ann`). -/
theorem controlPacketsAreCheckedFirst : Obligations.ControlPacketsAreCheckedFirst := by
  intro s q i words hm
  refine ⟨fun hcrc => ?_, fun hcrc => ⟨fun ht => ?_, fun hl hu => exec_ctrlPacketReceive_seen hcrc hl hu⟩, ?_, fun hdown => ?_,
    fun hup => ?_, fun hv => ?_, fun p hv => ?_⟩
  · rw [exec_ctrlPacketReceive, State.ctrlReceive_badCrc hcrc]
    exact ⟨_, rfl, State.pktBad_noted hm (by decide)⟩
  · rw [exec_ctrlPacketReceive, State.ctrlReceive_reserved hcrc ht]
    exact ⟨_, rfl, State.pktBad_noted hm (by decide)⟩
  · intro k hcrc hl hu
    refine ⟨fun e he hf hh hd ht hs => ?_, fun hf hh hp hroom => ?_, fun hf hh => ?_, fun hf hnew => ⟨fun hs => ?_,
      fun ht hs => ?_, fun ht hs => ?_⟩⟩
    · exact ⟨_, exec_ctrlPacketReceive_delivered hcrc hl hu hf hh hd, exec_deliver he ht hs⟩
    · exact ⟨_, exec_ctrlPacketReceive_forwarded hcrc hl hu hf hh hp hroom, rfl, rfl⟩
    · obtain ⟨-, hq, hb, -⟩ := State.raisePkt_noted (q := q) (i := s.rxLane q 0) hm (cause := 8) (by decide)
      exact ⟨_, exec_ctrlPacketReceive_misrouted hcrc hl hu hf hh, hb, hq.cmd, hq.plots⟩
    · rw [exec_ctrlPacketReceive_flooded hcrc hl hu hf hnew, if_pos hs]
    · obtain ⟨u, hvote, hex⟩ := exec_ctrlPacketReceive_floodedRow (q := q) hcrc hl hu hf hnew hs
        (e := (3, 0, .votePacket q words)) (by simp [packetRows]) ht rfl
      rw [if_neg (by simp [selfForwards, show (parsePkt words).ptype = 3 from ht])] at hex
      exact ⟨_, u, hex, hvote, rfl⟩
    · obtain ⟨u, hnotice, hex⟩ := exec_ctrlPacketReceive_floodedRow (q := q) hcrc hl hu hf hnew hs
        (e := (4, 0, .stretchNotice q words)) (by simp [packetRows]) ht rfl
      refine ⟨_, u, hex, hnotice, ?_⟩
      by_cases hz : k.ptag = 0
      · rw [if_neg (by simp [selfForwards, show (parsePkt words).ptag = 0 from hz]), if_pos hz]
      · rw [if_pos (by simp [selfForwards, show (parsePkt words).ptype = 4 from ht, show (parsePkt words).ptag ≠ 0 from hz]),
          if_neg hz]
  · exact congrArg Host.Outcome.next (State.timeSync_down hdown)
  · obtain ⟨at_, hann, hat, hrx⟩ := State.timeSync_ann (i := i) (ws := words) hm hup
    exact ⟨_, at_, rfl, hann, hat, hrx, State.timeSync_outlier hm hup⟩
  · exact congrArg Host.Outcome.next (State.votePacket_unknown hv)
  · exact ⟨_, rfl, State.votePacket_known hv⟩

end Sys2Proof.Machine

end

section

/-!
# What a frame finds unchanged

SUPPORT for the statement about DATA frames: the conditions that a frame notes, the pass errors that they charge and the votes
that it carries leave alone the groups held, the routing tables, what is armed and the registers that a frame is read by
(R163, R172, R185, R461).
-/

namespace Sys2Proof.Machine
open Sys2Proof

/-! ## The registers that a frame is read by -/

/-- The power state, the pass length and lag of a plot, its region of the routing table, the arrival latency of a port and its
marker enable. -/
abbrev tableReg (a : Nat) : Prop :=
  a = Reg.CRP_PWR_STAT ∨ (0x40000 ≤ a ∧ a < 0x44000 ∧ a % 0x400 = 0x80) ∨
    (0xd0200 ≤ a ∧ a < 0xd0400 ∧ (a % 0x20 = 0 ∨ a % 0x20 = 4)) ∨
    (0x100000 ≤ a ∧ a < 0x120000 ∧ (a % 0x2000 = 0x1804 ∨ a % 0x2000 = 0x1810))

/-- The counters of frames that do not decode. -/
abbrev fecReg (a : Nat) : Prop := 0x100000 ≤ a ∧ a < 0x120000 ∧ a % 0x200 = 0x28

/-- What none of the effects of a frame but its own count writes. -/
abbrev frameReg (a : Nat) : Prop := tableReg a ∨ fecReg a

section
variable {a : Nat} (h : frameReg a)
include h

theorem notedReg_of_frameReg : notedReg a = false := by
  have ht : ∀ b ∈ singleBlks, ∀ x ∈ [(b.first, 24), (b.merged, 1), (b.ovf, 1), (b.ptr, 12), (b.hist, 256)],
      0x10004 < x.1 ∧ x.1 + x.2 ≤ 0x40000 ∨ 0x44000 ≤ x.1 ∧ x.1 + x.2 ≤ 0xd0200 ∨
        0xd0400 ≤ x.1 ∧ x.1 + x.2 ≤ 0x100000 ∨ 0x120000 ≤ x.1 := by decide +kernel
  unfold frameReg tableReg fecReg Reg.CRP_PWR_STAT at h
  simp only [notedReg, Bool.or_eq_false_iff, List.any_eq_false, Blk.notes, decide_eq_true_eq, Reg.CMD_INT_PEND,
    Reg.HVT_DEV_STAT, Reg.HVT_EVT_LOSS_CNT]
  refine ⟨decide_eq_false (by omega), fun b hm => ?_⟩
  have haway : ∀ x ∈ [(b.first, 24), (b.merged, 1), (b.ovf, 1), (b.ptr, 12), (b.hist, 256)], a < x.1 ∨ x.1 + x.2 ≤ a :=
    fun x hx => by have := ht b hm x hx; omega
  simp only [List.mem_cons, List.not_mem_nil, or_false, forall_eq_or_imp, forall_eq] at haway
  omega

/-- No OVF bit lies in these registers. -/
theorem not_countsAt_frameReg {c : Nat} (hc : a ≠ c) : ¬ countsAt c a := by
  have ht : ∀ r ∈ cntRows, (r.ovfStride = r.dims.map (·.2) ∨ ∀ x ∈ r.ovfStride, x = 0) ∧
      (0x10004 < r.ovf ∧ r.ovf + dimSpan r.dims < 0x40000 ∨ 0x44000 ≤ r.ovf ∧ r.ovf + dimSpan r.dims < 0xd0200 ∨
        0x120000 ≤ r.ovf ∨ 0x40000 ≤ r.ovf ∧ (r.ovf + dimSpan r.dims < 0xd0200 ∨ 0xd0400 ≤ r.ovf) ∧ 0x200 ∣ dimGcd r.dims ∧
          r.ovf % 0x200 ≠ 4 ∧ r.ovf % 0x200 ≠ 0x10 ∧ r.ovf % 0x200 ≠ 0x28 ∧ r.ovf % 0x200 ≠ 0x80) := by
    decide +kernel
  unfold frameReg tableReg fecReg Reg.CRP_PWR_STAT at h
  rintro (rfl | ⟨r, is, hf, rfl⟩)
  · exact hc rfl
  · obtain ⟨hr, hi⟩ := findCnt_some hf
    obtain ⟨hst, hreg⟩ := ht r hr
    have hoff : dotIdx is r.ovfStride ≤ dimSpan r.dims ∧ dimGcd r.dims ∣ dotIdx is r.ovfStride := by
      rcases hst with hst | hst
      · rw [hst, dotIdx_of_dimIdx hi]
        exact ⟨le_dimSpan hi, dimGcd_dvd hi⟩
      · rw [dotIdx_of_zero hst]
        exact ⟨Nat.zero_le _, dvd_zero _⟩
    simp only [CntRow.ovfAt] at h
    rcases hreg with hreg | hreg | hreg | ⟨hlo, hhi, hg, hmod⟩
    · omega
    · omega
    · omega
    · have hd := Nat.mod_eq_zero_of_dvd (hg.trans hoff.2)
      omega

end

section
variable {s t : State} {p q k n : Nat} {plot : Option Nat}

/-! ## The view of a frame -/

/-- What is armed, the routing table with its copy, and the registers that a frame is read by. -/
structure FrameTable where
  inject : List Inject
  xt : Cells (BitVec 64)
  xtCopy : Cells (BitVec 64)
  regs : Nat → Nat

def State.frameTable (s : State) : FrameTable :=
  ⟨s.inject, s.xch.xt, s.xch.xtCopy, fun a => if frameReg a then s.rn a else 0⟩

/-- The view of a frame: the table and the groups held. -/
def State.frameView (s : State) : FrameTable × List GroupHeld := (s.frameTable, s.xch.held)

theorem Quiet.frameView (h : Quiet s t) (hr : ∀ a, frameReg a → t.rn a = s.rn a) : t.frameView = s.frameView := by
  have hi : t.inject = s.inject := congrArg (a₁ := t.core) (a₂ := s.core) State.inject h
  have hf : (fun a => if frameReg a then t.rn a else 0) = fun a => if frameReg a then s.rn a else 0 :=
    funext fun a => by split <;> [exact hr a ‹_›; rfl]
  rw [State.frameView, State.frameTable, h.xch, hi, hf]
  rfl

/-- Both ways of a choice keep the view. -/
theorem State.ite_frameView {c : Prop} [Decidable c] {v : FrameTable × List GroupHeld} (h : s.frameView = v)
    (g : t.frameView = v) : (if c then s else t).frameView = v := by
  split <;> assumption

theorem State.inject_of_frameView (h : t.frameView = s.frameView) (hi : s.inject = []) : t.inject = [] :=
  (congrArg (fun v : FrameTable × List GroupHeld => v.1.inject) h).trans hi

theorem State.rn_of_frameTable {a : Nat} (h : t.frameTable = s.frameTable) (ha : frameReg a) : t.rn a = s.rn a := by
  have hf := congrFun (congrArg FrameTable.regs h) a
  simpa only [State.frameTable, if_pos ha] using hf

/-! ## Notes -/

theorem State.put_frameView {a lo len v : Nat} (ha : ¬ frameReg a) : (s.put a lo len v).frameView = s.frameView :=
  (State.put_quiet s a lo len v rfl).frameView fun _ hb => State.rn_put_ne _ _ _ _ _ _ fun e => ha (e ▸ hb)

theorem State.setBit_frameView {a i : Nat} (ha : ¬ frameReg a) : (s.setBit a i).frameView = s.frameView :=
  State.put_frameView ha

theorem State.clrBit_frameView {a i : Nat} (ha : ¬ frameReg a) : (s.clrBit a i).frameView = s.frameView :=
  State.put_frameView ha

theorem State.rgReset_frameView {a : Nat} (ha : ¬ frameReg a) : (s.rgReset a).frameView = s.frameView := by
  refine (State.rgReset_quiet s a rfl).frameView fun b hb => ?_
  have hne : b ≠ a := fun e => ha (e ▸ hb)
  rw [State.rn, State.rn, State.rg, State.rg, State.rgReset]
  dsimp only
  rw [Laws.cget_cdel_ne hne]

theorem State.countBy_frameView {a : Nat} (ha : ¬ frameReg a) : (s.countBy a n).frameView = s.frameView :=
  (State.countBy_quiet s a n rfl).frameView fun _ hb => State.rn_countBy (not_countsAt_frameReg hb fun e => ha (e ▸ hb))

theorem State.count_frameView {a : Nat} (ha : ¬ frameReg a) : (s.count a).frameView = s.frameView :=
  State.countBy_frameView ha

theorem State.record_frameView {rtype len pn : Nat} {body : List Nat} :
    (s.record rtype len plot pn body).frameView = s.frameView :=
  (State.record_quiet s rtype len plot pn body rfl).frameView fun _ hb => State.rn_record (notedReg_of_frameReg hb)

theorem State.raise_frameView {b : Blk} {stat cause loc low pn : Nat} (hb : b ∈ singleBlks) (hs : ¬ frameReg stat) :
    (s.raise b stat cause loc low plot pn).frameView = s.frameView :=
  (State.raise_quiet s b stat cause loc low plot pn rfl).frameView fun _ ha =>
    State.rn_raise_ne (notedReg_of_frameReg ha) hb fun e => hs (e ▸ ha)

theorem State.raiseXch_frameView {cause port lane fidx pn : Nat} :
    (s.raiseXch cause port lane fidx plot pn).frameView = s.frameView := State.raise_frameView (by decide) (by decide)

theorem State.raiseXt_frameView {cause entry pn : Nat} : (s.raiseXt cause entry plot pn).frameView = s.frameView :=
  State.raise_frameView (by decide) (by decide)

theorem State.raiseLnk_frameView {port lane cause : Nat} : (s.raiseLnk port lane cause).frameView = s.frameView :=
  State.raise_frameView (by decide) (by decide)

theorem State.raiseGln_frameView {cause space index : Nat} : (s.raiseGln cause space index plot).frameView = s.frameView :=
  State.raise_frameView (by decide) (by decide)

theorem not_frameReg_xchCnt {i : Nat} (hi : i < 8) : ¬ frameReg (Reg.XCH_CNT i) := by
  unfold frameReg tableReg fecReg Reg.CRP_PWR_STAT Reg.XCH_CNT
  omega

/-! ## Packets, and the stop of a plot -/

theorem State.ctrlQueue_frameView {ptype : Nat} {ws : List Word} : (s.ctrlQueue q ptype ws).frameView = s.frameView :=
  State.ite_frameView rfl ((State.count_frameView (not_frameReg_xchCnt (by decide))).trans State.raiseXch_frameView)

theorem State.flood_frameView {ptype : Nat} {body : List Nat} : (s.flood p ptype body).frameView = s.frameView :=
  foldl_keeps State.frameView (fun _ _ => State.ctrlQueue_frameView) _ _

theorem State.makeReady_frameView {pick : Cmd → Bool} : (s.makeReady pick).frameView = s.frameView :=
  State.ite_frameView rfl rfl

theorem State.finishRuns_frameView {st : Nat} : (s.finishRuns p st n).frameView = s.frameView := rfl

theorem State.onPlot_frameView {f : Plot → Plot} : (s.onPlot p f).frameView = s.frameView := rfl

section
variable (hp : p < 16)
include hp

theorem not_frameReg_cmtStat : ¬ frameReg (Reg.PLT_CMT_STAT p) := by
  unfold frameReg tableReg fecReg Reg.CRP_PWR_STAT Reg.PLT_CMT_STAT
  omega

theorem State.plotInt_frameView {i : Nat} : (s.plotInt p i).frameView = s.frameView :=
  (State.plotInt_quiet s p i rfl).frameView fun b hb => State.rn_plotInt (by
    unfold frameReg tableReg fecReg Reg.CRP_PWR_STAT at hb
    unfold Reg.PLT_INT_STAT
    omega)

theorem State.hvtStop_frameView {cause ft : Nat} : (s.hvtStop p cause n ft).frameView = s.frameView := by
  refine (State.hvtStop_quiet s p cause n ft rfl).frameView fun b hb => ?_
  have hn := notedReg_of_frameReg hb
  unfold frameReg tableReg fecReg Reg.CRP_PWR_STAT at hb
  unfold State.hvtStop
  dsimp only
  split
  · rw [State.rn_rnSet64_ne (by unfold Reg.HVT_STOP_PN_LO; omega) (by unfold Reg.HVT_STOP_PN_LO; omega),
      State.rn_put_ne _ _ _ _ _ _ (by unfold Reg.HVT_STAT; omega), State.rn_event hn]
  · rfl

theorem State.finishWaiting_frameView {st : Nat} : (s.finishWaiting p st).frameView = s.frameView :=
  State.makeReady_frameView.trans (State.ite_frameView (State.hvtStop_frameView hp) rfl)

theorem State.faultStop_frameView {state st : Nat} : (s.faultStop p state st).frameView = s.frameView := by
  have hc := not_frameReg_cmtStat hp
  unfold State.faultStop
  refine State.record_frameView.trans ((State.finishWaiting_frameView hp).trans (State.finishRuns_frameView.trans ?_))
  exact (State.clrBit_frameView hc).trans ((State.put_frameView hc).trans State.onPlot_frameView)

theorem State.divergePass_frameView {send : Bool} : (s.divergePass p k send).frameView = s.frameView := by
  unfold State.divergePass
  dsimp only
  generalize hu : State.holdRec _ p 4 0 0 k = u
  have hrec : u.frameView = s.frameView := hu ▸ State.record_frameView.trans
    ((State.plotInt_frameView hp).trans (State.setBit_frameView (not_frameReg_cmtStat hp)))
  have hsent : (if send then u.floodCtl p 0x14 0 0 k 0 else u).frameView = s.frameView :=
    State.ite_frameView (State.flood_frameView.trans hrec) hrec
  exact State.ite_frameView rfl (State.ite_frameView ((State.faultStop_frameView hp).trans hsent) hsent)

theorem State.passError_frameView {block cause loc unit : Nat} :
    (s.passError p k block cause loc unit).frameView = s.frameView :=
  State.ite_frameView rfl (State.ite_frameView (State.divergePass_frameView hp) (State.ite_frameView rfl State.flood_frameView))

end

/-! ## Control triples and buckets (R461, R469), and table entries (R172) -/

theorem State.setGln_frameView {g : GlnSt} : ({ s with gln := g } : State).frameView = s.frameView := rfl

section
variable (hi : s.inject = [])
include hi

theorem State.useTriple_frameView {reg : Nat} (hreg : reg < 0x1000) : (s.useTriple reg).frameView = s.frameView := by
  unfold State.useTriple State.glnMeet
  rw [if_pos hi]
  have hv : ∀ t : State, ∀ m, (t.vote (reg, m)).frameView = t.frameView := fun t m => by
    have hr : ∀ cause, (t.raiseGln cause 7 reg none).frameView = t.frameView := fun _ => State.raiseGln_frameView
    refine State.ite_frameView ((State.count_frameView (by decide)).trans (hr 5)) ?_
    refine (foldl_keeps (g := State.sweepRestart) State.frameView (fun _ _ => rfl) _ _).trans (State.ite_frameView ?_ (hr 6))
    refine (State.rgReset_frameView ?_).trans (hr 6)
    unfold frameReg tableReg fecReg Reg.CRP_PWR_STAT Reg.GLN_CFG
    omega
  exact State.ite_frameView rfl (State.ite_frameView rfl (hv _ _))

theorem State.bucket_frameView {cls a : Nat} (hc : cls < 16) (ha : ¬ frameReg a) :
    (s.bucket cls a).frameView = s.frameView := by
  have ht := State.useTriple_frameView (reg := 0x100 + 4 * cls) hi (by omega)
  have hput : ∀ v, ((s.useTriple (0x100 + 4 * cls)).put a 0 16 v).frameView = s.frameView := fun _ =>
    (State.put_frameView ha).trans ht
  exact State.ite_frameView ht (State.ite_frameView (State.setGln_frameView.trans (hput 0)) (hput _))

theorem State.xtInject_eq (e : Nat) : s.xtInject p e = s := by
  rw [State.xtInject, State.glnTouch, State.glnMeet, if_pos hi, State.injectAt, if_pos hi]

theorem State.xtUse_frameView (hp : p < 16) (e : Nat) : (s.xtUse p e).2.frameView = s.frameView := by
  have hr : ∀ cause pn, (s.raiseXt cause e (some p) pn).frameView = s.frameView := fun _ _ => State.raiseXt_frameView
  have hc : ∀ pn, ((s.raiseXt 0 e (some p) pn).count (Reg.XCH_CNT 6)).frameView = s.frameView := fun _ =>
    (State.count_frameView (not_frameReg_xchCnt (by decide))).trans (hr _ _)
  unfold State.xtUse
  rw [State.xtInject_eq hi]
  dsimp only
  split
  · rfl
  · exact (State.bucket_frameView (State.inject_of_frameView (hc (s.plot p).tm.pn) hi) (by decide) (by decide)).trans (hc _)
  · exact (State.passError_frameView hp).trans (hr _ _)

/-- An entry is usable but where it is uncorrectable. -/
theorem State.xtUse_ok (e : Nat) : (s.xtUse p e).1 = true ↔ xtDecode (cget 0 s.xch.xt e) ≠ XtRead.lost := by
  unfold State.xtUse
  rw [State.xtInject_eq hi]
  dsimp only
  cases xtDecode (cget 0 s.xch.xt e) <;> simp

end

end

end Sys2Proof.Machine

end

section

/-!
# Frames

PROVES O40 (spec R163, R164, R169).
-/

namespace Sys2Proof.Machine
open Sys2Proof

section
variable {s t u : State} {p q i k n pn fidx lane : Nat} {late : Int} {f : BitVec 896} {x : RxSlot} {d : Decoded}
  {groups : Option (List (BitVec 16))} {e : Nat × XtEntry}

/-! ## What the routing table says (R163, R169, R170) -/

/-- t has the routing table of s, and the registers that it is read by. -/
structure State.Routes (s t : State) : Prop where
  copy : t.xch.xtCopy = s.xch.xtCopy
  regs : ∀ a, tableReg a → t.rn a = s.rn a

theorem State.Routes.of_frameTable (h : t.frameTable = s.frameTable) : s.Routes t :=
  ⟨congrArg FrameTable.xtCopy h, fun _ ha => State.rn_of_frameTable h (.inl ha)⟩

section
variable (h : s.Routes t)
include h

theorem State.Routes.pwrState : t.pwrState = s.pwrState := by
  rw [State.pwrState, State.pwrState, State.fld, State.fld, h.regs _ (.inl rfl)]

theorem State.Routes.markEn (hq : q < 16) : t.markEn q = s.markEn q := by
  rw [State.markEn, State.markEn, State.bit, State.bit,
    h.regs _ (by unfold tableReg Reg.CRP_PWR_STAT Reg.LNK_PORT_CTRL; omega)]

theorem State.Routes.alat (hq : q < 16) : t.alat q = s.alat q := by
  rw [State.alat, State.alat, State.fld, State.fld, h.regs _ (by unfold tableReg Reg.CRP_PWR_STAT Reg.LNK_ALAT; omega)]

section
variable (hp : p < 16)
include hp

theorem State.Routes.passLen : t.passLen p = s.passLen p := by
  rw [State.passLen, State.passLen, State.fld, State.fld,
    h.regs _ (by unfold tableReg Reg.CRP_PWR_STAT Reg.PLT_PASS_CFG; omega)]

theorem State.Routes.xtEntries : t.xtEntries p = s.xtEntries p := by
  unfold State.xtEntries State.xtHalf State.xtActive State.fld
  rw [h.copy, h.regs (Reg.XCH_RGN_CFG p) (by unfold tableReg Reg.CRP_PWR_STAT Reg.XCH_RGN_CFG; omega),
    h.regs (Reg.XCH_RGN_STAT p) (by unfold tableReg Reg.CRP_PWR_STAT Reg.XCH_RGN_STAT; omega)]

theorem State.Routes.recvAt {y : XtEntry} (hy : y.port < 16) : t.recvAt p y = s.recvAt p y := by
  rw [State.recvAt, State.recvAt, h.alat hy, h.passLen hp]

theorem State.Routes.relayAt {y : XtEntry} (hy : y.port < 16) : t.relayAt p y = s.relayAt p y := by
  rw [State.relayAt, State.relayAt, h.alat hy, h.passLen hp]

theorem State.Routes.rxDataSlot (hx : x.plot = some p) : t.rxDataSlot q x = s.rxDataSlot q x := by
  unfold State.rxDataSlot State.nf State.frameWanted
  rw [hx]
  dsimp only
  rw [h.passLen hp, h.xtEntries hp]

end

end

/-! ## The groups of a frame (R169-R172) -/

/-- A receive or relay entry of a frame. -/
abbrev XtEntry.takes (y : XtEntry) (port lane fidx : Nat) : Prop :=
  (y.kind = 1 ∨ y.kind = 2) ∧ y.port = port ∧ y.lane = lane ∧ y.fidx = fidx

/-- Passes later and step of the presentation of a group, or of its relay. -/
def State.groupSlot (s : State) (p : Nat) (y : XtEntry) : Nat × Nat := if y.kind = 1 then s.recvAt p y else s.relayAt p y

/-- The bits of a group: X where the frame is lost, or its entry is not usable. -/
def groupData (ok : Bool) (g : Nat) : Option (List (BitVec 16)) → BitVec 16
  | some gs => if ok then nth 0x5555 gs g else 0x5555
  | none => 0x5555

/-- The group that an entry holds for its slot. -/
def XtEntry.group (y : XtEntry) (p port pn : Nat) (slot : Nat × Nat) (data : BitVec 16) : GroupHeld :=
  { plot := p, relay := y.kind == 2, dst := if y.kind = 1 then y.acre else y.rport,
    grp := if y.kind = 1 then y.xgrp else 48 * y.rlane + y.xgrp, pn := pn + slot.1, step := slot.2, sentPn := pn,
    carried := slot.1 != 0, data := data, port := port, done := false }

/-- The group that an entry holds of a frame. -/
def State.groupOf (s : State) (p port pn : Nat) (groups : Option (List (BitVec 16))) (e : Nat × XtEntry) : GroupHeld :=
  e.2.group p port pn (s.groupSlot p e.2)
    (groupData (decide (xtDecode (cget 0 s.xch.xt e.1) ≠ XtRead.lost)) e.2.grp groups)

/-- A group joins those that are held. -/
def State.hold (s : State) (h : GroupHeld) : State := { s with xch := { s.xch with held := s.xch.held ++ [h] } }

/-- An entry takes its group of a frame. -/
def State.takeGroup (s : State) (p port lane fidx pn : Nat) (groups : Option (List (BitVec 16))) (e : Nat × XtEntry) : State :=
  if e.2.takes port lane fidx then
    let r := s.xtUse p e.1
    r.2.hold (e.2.group p port pn (r.2.groupSlot p e.2) (groupData r.1 e.2.grp groups))
  else s

theorem State.Routes.groupSlot {y : XtEntry} (h : s.Routes t) (hp : p < 16) (hy : y.port < 16) :
    t.groupSlot p y = s.groupSlot p y := by
  rw [State.groupSlot, State.groupSlot, h.recvAt hp hy, h.relayAt hp hy]

theorem State.groupOf_of_frameTable (h : t.frameTable = s.frameTable) (hp : p < 16) (he : e.2.port < 16) :
    t.groupOf p q pn groups e = s.groupOf p q pn groups e := by
  rw [State.groupOf, State.groupOf, (State.Routes.of_frameTable h).groupSlot hp he,
    show t.xch.xt = s.xch.xt from congrArg FrameTable.xt h]

theorem State.takeGroups_eq : s.takeGroups p q lane fidx pn groups =
    (s.xtEntries p).foldl (fun s e => s.takeGroup p q lane fidx pn groups e) s := rfl

theorem State.takeGroup_not (h : ¬ e.2.takes q lane fidx) : s.takeGroup p q lane fidx pn groups e = s := if_neg h

section
variable (hi : s.inject = []) (hp : p < 16) (hq : q < 16)
include hi hp hq

/-- An entry of the frame adds its group, and nothing else that a frame is read by. -/
theorem State.takeGroup_frameView (h : e.2.takes q lane fidx) : (s.takeGroup p q lane fidx pn groups e).frameView =
    (s.frameTable, s.xch.held ++ [s.groupOf p q pn groups e]) := by
  have hport : e.2.port < 16 := h.2.1.symm ▸ hq
  have hv := State.xtUse_frameView hi hp e.1
  have ht : (s.xtUse p e.1).2.frameTable = s.frameTable := congrArg Prod.fst hv
  have hheld : (s.xtUse p e.1).2.xch.held = s.xch.held := congrArg Prod.snd hv
  have hok : (s.xtUse p e.1).1 = decide (xtDecode (cget 0 s.xch.xt e.1) ≠ XtRead.lost) := by
    rw [Bool.eq_iff_iff, State.xtUse_ok hi, decide_eq_true_iff]
  rw [State.takeGroup, if_pos h, State.groupOf, ← (State.Routes.of_frameTable ht).groupSlot hp hport, ← hok, ← ht, ← hheld]
  rfl

/-- A frame adds the group of each of its entries. -/
theorem State.takeGroups_frameView (hv : t.frameView = s.frameView) : (t.takeGroups p q lane fidx pn groups).frameView =
    (s.frameTable, s.xch.held ++
      ((s.xtEntries p).filter fun e => decide (e.2.takes q lane fidx)).map (s.groupOf p q pn groups)) := by
  suffices ∀ (l : List (Nat × XtEntry)) (t : State), t.frameTable = s.frameTable →
      (l.foldl (fun s e => s.takeGroup p q lane fidx pn groups e) t).frameView = (s.frameTable, t.xch.held ++
        (l.filter fun e => decide (e.2.takes q lane fidx)).map (s.groupOf p q pn groups)) by
    have ht : t.frameTable = s.frameTable := congrArg Prod.fst hv
    rw [State.takeGroups_eq, this _ t ht, show t.xch.held = s.xch.held from congrArg Prod.snd hv,
      (State.Routes.of_frameTable ht).xtEntries hp]
  intro l
  induction l with
  | nil => exact fun t ht => by simp [State.frameView, ht]
  | cons e l ih =>
    intro t ht
    rw [List.foldl_cons]
    by_cases h : e.2.takes q lane fidx
    · have hti : t.inject = [] := (congrArg FrameTable.inject ht).trans hi
      have hv := State.takeGroup_frameView (groups := groups) (pn := pn) hti hp hq h
      have hg := State.groupOf_of_frameTable (q := q) (pn := pn) (groups := groups) (e := e) ht hp (h.2.1.symm ▸ hq)
      have hheld : (t.takeGroup p q lane fidx pn groups e).xch.held = t.xch.held ++ [s.groupOf p q pn groups e] :=
        (congrArg Prod.snd hv).trans (by rw [hg])
      rw [ih _ ((congrArg Prod.fst hv).trans ht), hheld, List.filter_cons_of_pos (by simpa using h), List.map_cons,
        List.append_assoc, List.singleton_append]
    · rw [State.takeGroup_not h, ih t ht, List.filter_cons_of_neg (by simpa using h)]

end

/-! ## What a frame counts on its way (R163, R164, R257) -/

theorem State.portPlot_lt (h : s.portPlot q = some p) : p < 16 := by
  unfold State.portPlot State.holder at h
  simpa using (mem_natsFrom.1 (List.mem_of_find?_eq_some h)).2

theorem State.xchError_frameView {cause cnt port : Nat} (hc : cnt < 8) :
    (s.xchError cause cnt port lane fidx k).frameView = s.frameView := by
  have h1 : ∀ plot, ((s.raiseXch cause port lane fidx plot k).countBy (Reg.XCH_CNT cnt) 1).frameView = s.frameView := fun _ =>
    (State.countBy_frameView (not_frameReg_xchCnt hc)).trans State.raiseXch_frameView
  unfold State.xchError
  split
  · exact State.ite_frameView ((State.passError_frameView (State.portPlot_lt ‹_›)).trans (h1 _)) (h1 _)
  · exact h1 _

theorem State.takeVotes_frameView {vote : Nat} (hp : p < 16) : (s.takeVotes p n vote).frameView = s.frameView := by
  refine State.ite_frameView rfl (foldl_keeps State.frameView (fun t j => ?_) _ _)
  exact State.ite_frameView rfl (State.ite_frameView (State.divergePass_frameView hp) State.onPlot_frameView)

theorem State.wantStretch_frameView (hp : p < 16) : (s.wantStretch p k n).frameView = s.frameView :=
  State.ite_frameView rfl (State.ite_frameView (State.divergePass_frameView hp) State.onPlot_frameView)

theorem State.rxHeader_frameView {hdr : Nat} (hx : x.plot = some p) (hp : p < 16) :
    (s.rxHeader q x hdr).frameView = s.frameView := by
  unfold State.rxHeader
  rw [hx]
  exact State.ite_frameView (State.takeVotes_frameView hp)
    ((State.wantStretch_frameView hp).trans (State.takeVotes_frameView hp))

theorem State.rxHeader_none {hdr : Nat} (hx : x.plot = none) : s.rxHeader q x hdr = s := by
  unfold State.rxHeader
  rw [hx]

/-- The expectation of ALIVE that a frame leaves. -/
def State.expectAlive (s : State) (q i : Nat) (x : RxSlot) (late : Int) (alive : Nat) : State :=
  { s with xch := { s.xch with
    rxAlive := cset 0 s.xch.rxAlive (q * 9 + i) (1 + (alive + 1) % 256),
    rxTurn := if s.resyncs q i x late && decide (((s.turnOf x).2 : Int) ≤ s.slotBegan q late) then
      cset 0 s.xch.rxTurn (q * 9 + i) (s.turnOf x).2 else s.xch.rxTurn } }

/-- The check leaves the new expectation, and may note a slip, or a condition of the exchange. -/
theorem State.rxAliveCheck_cases {alive ftype : Nat} {P : State → Prop} (h0 : P (s.expectAlive q i x late alive))
    (h1 : P (((s.expectAlive q i x late alive).raiseLnk q i 5).count (Reg.LNK_PORT_SLIP q)))
    (h2 : P ((s.expectAlive q i x late alive).rxError q x 3 1)) : P (s.rxAliveCheck q i x late alive ftype) := by
  unfold State.rxAliveCheck
  extract_lets key want free after s1
  split
  · exact h0
  · split
    · exact h1
    · exact h2

theorem State.rxAliveCheck_frameView {alive ftype : Nat} (hq : q < 16) :
    (s.rxAliveCheck q i x late alive ftype).frameView = s.frameView := by
  have h0 : (s.expectAlive q i x late alive).frameView = s.frameView := rfl
  refine State.rxAliveCheck_cases (P := fun t => t.frameView = s.frameView) h0 ?_ ?_
  · refine (State.count_frameView ?_).trans (State.raiseLnk_frameView.trans h0)
    unfold frameReg tableReg fecReg Reg.CRP_PWR_STAT Reg.LNK_PORT_SLIP
    omega
  · exact (State.xchError_frameView (by decide)).trans h0

/-- The end of a lane's run of undecoded frames. -/
def State.laneDecoded (s : State) (q i : Nat) : State := s.onLane q i fun l => { l with undecoded := 0 }

/-- A frame that decodes ends the run, and its corrected symbols count. -/
def State.rxCounted (s : State) (q i n : Nat) : State := ((s.laneDecoded q i).rxFixed q i n).rxLowPower q i

section
variable (hi : s.inject = []) (hq : q < 16) (hl : i < 9)
include hi hq hl

theorem State.rxFixed_frameView : (s.rxFixed q i n).frameView = s.frameView := by
  have hc : (s.countBy (Reg.LNK_LANE_SYMCE q i) n).frameView = s.frameView := State.countBy_frameView (by
    unfold frameReg tableReg fecReg Reg.CRP_PWR_STAT Reg.LNK_LANE_SYMCE
    omega)
  refine foldl_inv (P := fun t : State => t.frameView = s.frameView) hc fun t _ _ ht => ?_
  refine (State.bucket_frameView (State.inject_of_frameView ht hi) (by decide) ?_).trans ht
  unfold frameReg tableReg fecReg Reg.CRP_PWR_STAT Reg.LNK_LANE_CE_BUCKET
  omega

section
variable (hpw : s.pwrState = 0)
include hpw

/-- Where the device is not in fallow, no lane leaves the low-power idle. -/
theorem State.rxCounted_eq : s.rxCounted q i n = (s.laneDecoded q i).rxFixed q i n := by
  have hv : ((s.laneDecoded q i).rxFixed q i n).frameView = s.frameView := State.rxFixed_frameView hi hq hl
  have hp0 := (State.Routes.of_frameTable (congrArg Prod.fst hv)).pwrState.trans hpw
  exact if_neg fun h => absurd (hp0.symm.trans h.2) (by decide)

theorem State.rxCounted_frameView : (s.rxCounted q i n).frameView = s.frameView := by
  rw [State.rxCounted_eq hi hq hl hpw]
  exact State.rxFixed_frameView hi hq hl

end

end

/-! ## A frame that arrives (R161-R163, R251, R258) -/

/-- A frame whose header is in order. -/
theorem State.rxDecoded_ontime (hf : nfld d.hdr 28 4 < 4) (hm : x.mismatch d.hdr = false) (hlo : -16 ≤ late) (hhi : late ≤ 16) :
    s.rxDecoded q i x late d =
      (((s.rxCounted q i d.fixed).rxAliveCheck q i x late (nfld d.hdr 20 8) (nfld d.hdr 28 4)).rxHeader q x d.hdr).rxPayload
        q i x (nfld d.hdr 28 4) d.payload := by
  unfold State.rxDecoded
  dsimp only
  rw [if_neg (by omega), if_neg (by omega), if_neg (by rw [hm]; simp; omega)]
  rfl

/-- The groups of a payload. -/
def payloadGroups (payload : Nat) : List (BitVec 16) := (natsFrom 0 48).map fun g => BitVec.ofNat 16 (payloadGroup payload g)

/-- The payload of a DATA frame that is expected goes to its entries. -/
theorem State.rxPayload_data {payload : Nat} (hx : x.plot = some p) (hw : x.wanted = true) :
    s.rxPayload q i x 0 payload = s.takeGroups p q x.k x.fidx x.pn
      (some (payloadGroups payload)) := by
  unfold State.rxPayload
  rw [if_pos rfl, if_neg (by simp), hx, hw]
  rfl

theorem State.rxPayload_idle {payload : Nat} (hw : x.wanted = false) : s.rxPayload q i x 1 payload = s := by
  unfold State.rxPayload
  rw [if_neg (by decide), if_neg (by decide), if_neg (by simp [hw])]

theorem State.loseFrame_expected (hx : x.plot = some p) (hw : x.wanted = true) :
    s.loseFrame q x = s.takeGroups p q x.k x.fidx x.pn none := by
  unfold State.loseFrame
  rw [hx]
  exact if_pos hw

/-- Another state of the links. -/
def State.setLnk (s : State) (l : LnkSt) : State := { s with lnk := l }

theorem State.Routes.setLnk {l : LnkSt} (h : s.Routes u) : s.Routes (u.setLnk l) := ⟨h.copy, h.regs⟩

/-- A marker, or its absence in a slot of a DATA frame, is noted in the record of the lane alone. -/
theorem State.markerWatch_lane (h : s.rxDataSlot q x = true) : ∃ l, s.markerWatch q i x f = s.setLnk l := by
  unfold State.markerWatch
  dsimp only
  rw [if_pos (Or.inr h)]
  repeat' split
  all_goals exact ⟨_, rfl⟩

theorem State.markerWatch_off (h : s.markEn q = false) : s.markerWatch q i x f = s := if_pos h

theorem State.wakeCheck_awake (h : s.pwrState = 0) : s.wakeCheck = s :=
  if_neg fun hc => absurd (h.symm.trans hc.1) (by decide)

/-- A slot that is expected is a DATA slot of its port. -/
theorem State.rxSlot_wanted (hx : (s.rxSlot q i pn fidx).plot = some p) (hw : (s.rxSlot q i pn fidx).wanted = true) :
    p < 16 ∧ (s.rxSlot q i pn fidx).fidx = fidx ∧ s.rxDataSlot q (s.rxSlot q i pn fidx) = true := by
  have hpf : (s.portPlot q).filter s.plotRuns = some p := hx
  have hfidx : (s.rxSlot q i pn fidx).fidx = fidx := by
    unfold State.rxSlot
    rw [hpf]
    rfl
  refine ⟨State.portPlot_lt (Option.filter_eq_some_iff.1 hpf).1, hfidx, ?_⟩
  have hw' : (decide (s.rxLogical q i < 8 ∧ fidx < s.nf p) && s.frameWanted p q (s.rxLogical q i) fidx) = true := by
    unfold State.rxSlot at hw
    rw [hpf] at hw
    exact hw
  obtain ⟨hd, hfw⟩ := Bool.and_eq_true_iff.1 hw'
  obtain ⟨hk, hn⟩ := of_decide_eq_true hd
  unfold State.rxDataSlot
  rw [hx, hfidx]
  exact Bool.and_eq_true_iff.2 ⟨decide_eq_true hn, List.any_eq_true.2 ⟨_, mem_natsFrom.2 ⟨Nat.zero_le _, by omega⟩, hfw⟩⟩

theorem State.rxSlot_none (hx : (s.rxSlot q i pn fidx).plot = none) : (s.rxSlot q i pn fidx).wanted = false := by
  have hpf : (s.portPlot q).filter s.plotRuns = none := hx
  unfold State.rxSlot
  rw [hpf]

section
variable (hi : s.inject = [])
include hi

theorem exec_frameReceive :
    exec (.frameReceive q i pn fidx late f) s = .next (s.frameReceive q i pn fidx late f) := by
  have hr : s.rxInject q i pn fidx = s := by
    unfold State.rxInject State.injectAt
    dsimp only
    rw [if_pos hi, if_pos hi]
  exact congrArg (fun t : State => Host.Outcome.next (t.frameReceive q i pn fidx late f)) hr

theorem exec_frameReceive_down (h : s.laneState q i = 0) (hw : (s.rxSlot q i pn fidx).wanted = false) :
    exec (.frameReceive q i pn fidx late f) s = .next s := by
  rw [exec_frameReceive hi]
  unfold State.frameReceive State.rxDown
  dsimp only
  rw [h, hw]
  rfl

section
variable (h : s.laneState q i = 6)
include h

theorem exec_frameReceive_decoded (ho : s.rxOpen q i (s.unInvert q i f) = some d) :
    exec (.frameReceive q i pn fidx late f) s = .next (((s.rxDecoded q i (s.rxSlot q i pn fidx) late d).markerWatch q i
      (s.rxSlot q i pn fidx) (s.unInvert q i f)).wakeCheck) := by
  rw [exec_frameReceive hi]
  unfold State.frameReceive
  dsimp only
  rw [h, ho]
  rfl

theorem exec_frameReceive_undecoded (ho : s.rxOpen q i (s.unInvert q i f) = none) :
    exec (.frameReceive q i pn fidx late f) s = .next (((s.rxUndecoded q i (s.rxSlot q i pn fidx)).markerWatch q i
      (s.rxSlot q i pn fidx) (s.unInvert q i f)).wakeCheck) := by
  rw [exec_frameReceive hi]
  unfold State.frameReceive
  dsimp only
  rw [h, ho]
  rfl

end

end

/-! ## The groups of a DATA frame (R163, R169) -/

theorem natsFrom_getElem?_of_lt {lo j : Nat} (h : j < n) : (natsFrom lo n)[j]? = some (lo + j) := by
  induction n generalizing lo j with
  | zero => exact absurd h (Nat.not_lt_zero _)
  | succ n ih =>
    cases j with
    | zero => rfl
    | succ j => exact (ih (Nat.lt_of_succ_lt_succ h)).trans (by rw [Nat.add_right_comm, Nat.add_assoc])

theorem nth_payloadGroups {payload g : Nat} (hg : g < 48) :
    nth 0x5555 (payloadGroups payload) g = BitVec.ofNat 16 (payloadGroup payload g) := by
  rw [nth, payloadGroups, List.getElem?_map, natsFrom_getElem?_of_lt hg, Nat.zero_add]
  rfl

/-- The group that a receive entry holds of a frame with a payload. -/
theorem State.groupOf_receive {payload : Nat} (hk : e.2.kind = 1) (hg : e.2.grp < 48) :
    let h := s.groupOf p q pn (some (payloadGroups payload)) e
    h.relay = false ∧ h.dst = e.2.acre ∧ h.grp = e.2.xgrp ∧ h.pn = pn + (s.recvAt p e.2).1 ∧ h.step = (s.recvAt p e.2).2 ∧
      h.data = if xtDecode (cget 0 s.xch.xt e.1) = XtRead.lost then 0x5555
        else BitVec.ofNat 16 (payloadGroup payload e.2.grp) := by
  have hslot : s.groupSlot p e.2 = s.recvAt p e.2 := if_pos hk
  refine ⟨?_, if_pos hk, if_pos hk, ?_, ?_, ?_⟩
  · rw [State.groupOf, XtEntry.group, hk]
    rfl
  · rw [State.groupOf, XtEntry.group, hslot]
  · rw [State.groupOf, XtEntry.group, hslot]
  · rw [State.groupOf, XtEntry.group, groupData, nth_payloadGroups hg]
    split <;> simp_all

section
variable (hx : x.plot = some p) (hw : x.wanted = true) (hp : p < 16)
include hx hp

/-- After a frame that is expected, its marker is noted, and no wake ends. -/
theorem State.Routes.frameEnd {l : LnkSt} (h : s.Routes u) (ht : t = u.setLnk l) (hpw : s.pwrState = 0)
    (hd : s.rxDataSlot q x = true) : ∃ l, (t.markerWatch q i x f).wakeCheck = u.setLnk l := by
  obtain ⟨l', hl'⟩ := State.markerWatch_lane (q := q) (i := i) (f := f) (((h.setLnk (l := l)).rxDataSlot hp hx).trans hd)
  exact ⟨l', by rw [ht, hl']; exact State.wakeCheck_awake (h.pwrState.trans hpw)⟩

variable (hi : s.inject = []) (hq : q < 16)
include hw hi hq

theorem State.rxDecoded_data_frameView (hl : i < 9) (hpw : s.pwrState = 0) (hf : nfld d.hdr 28 4 = 0)
    (hm : x.mismatch d.hdr = false) (hlo : -16 ≤ late) (hhi : late ≤ 16) :
    (s.rxDecoded q i x late d).frameView = (s.frameTable, s.xch.held ++
      ((s.xtEntries p).filter fun e => decide (e.2.takes q x.k x.fidx)).map
        (s.groupOf p q x.pn (some (payloadGroups d.payload)))) := by
  rw [State.rxDecoded_ontime (by omega) hm hlo hhi, hf, State.rxPayload_data hx hw]
  refine State.takeGroups_frameView hi hp hq ?_
  rw [State.rxHeader_frameView hx hp, State.rxAliveCheck_frameView hq, State.rxCounted_frameView hi hq hl hpw]

theorem State.rxLost_frameView : ((s.rxError q x 2 0).loseFrame q x).frameView = (s.frameTable, s.xch.held ++
    ((s.xtEntries p).filter fun e => decide (e.2.takes q x.k x.fidx)).map (s.groupOf p q x.pn none)) := by
  rw [State.loseFrame_expected hx hw]
  exact State.takeGroups_frameView hi hp hq (State.xchError_frameView (by decide))

end

theorem State.rxLost_mem (hm : s.memWf = true) : ((s.rxError q x 2 0).loseFrame q x).memWf = true :=
  (State.loseFrame_good _ q x (State.rxError_good s q x 2 0 (Good.times hm) rfl rfl) rfl rfl).mem

theorem findCnt_fecue : ∀ q < 16, ∀ i < 9, (findCnt CntRow.base (Reg.LNK_LANE_FECUE q i) cntRows).map
    (fun x => (x.1.ovfAt x.2).1) = some (Reg.LNK_LANE_OVF q i) := by decide +kernel

/-- A frame that does not decode counts on its lane. -/
theorem State.rxUndecoded_count (h6 : s.laneState q i = 6) (hn : (s.lane q i).undecoded < 7) : ∃ l,
    s.rxUndecoded q i x = (((s.rxError q x 2 0).loseFrame q x).count (Reg.LNK_LANE_FECUE q i)).setLnk l := by
  unfold State.rxUndecoded
  dsimp only
  rw [if_neg (by rw [h6]; omega)]
  exact ⟨_, rfl⟩

section
variable (hq : q < 16) (hl : i < 9)
include hq hl

/-- The count of a frame that does not decode leaves the routing table. -/
theorem State.Routes.count_fecue (h : s.Routes u) : s.Routes (u.count (Reg.LNK_LANE_FECUE q i)) where
  copy := (congrArg XchMem.xtCopy (State.count_quiet u _ rfl).xch).trans h.copy
  regs a ha := by
    refine (State.rn_count (not_countsAt_frameReg (.inl ha) ?_)).trans (h.regs a ha)
    unfold tableReg Reg.CRP_PWR_STAT at ha
    unfold Reg.LNK_LANE_FECUE
    omega

theorem State.rn_count_fecue (hm : s.memWf = true) :
    (s.count (Reg.LNK_LANE_FECUE q i)).rn (Reg.LNK_LANE_FECUE q i) = min (s.rn (Reg.LNK_LANE_FECUE q i) + 1) 0xffffffff :=
  State.rn_count_self hm (findCnt_fecue q hq i hl) (by unfold Reg.LNK_LANE_FECUE Reg.LNK_LANE_OVF; omega)

end

/-! ## An IDLE frame on a port of no running plot (R164) -/

theorem State.lnk_of_stock (h : t.stock = s.stock) : t.lnk = s.lnk :=
  congrArg (a₁ := t.stock) (a₂ := s.stock) State.lnk h

theorem State.rxFixed_stock : (s.rxFixed q i n).stock = s.stock :=
  (foldl_keeps State.stock (fun _ _ => State.bucket_stock) _ _).trans (State.countBy_quiet s _ n rfl).stock

theorem State.rxFixed_plots (hm : s.memWf = true) : (s.rxFixed q i n).plots = s.plots :=
  (State.rxFixed_good s q i n (Good.records hm)).plots _ rfl

/-- The running plot of a port, by the records of the plots. -/
theorem State.runningPlot_of_plots (h : t.plots = s.plots) :
    (t.portPlot q).filter t.plotRuns = (s.portPlot q).filter s.plotRuns := by
  have hplot : t.plot = s.plot := funext fun _ => State.plot_of_plots h
  have hrun : t.plotRuns = s.plotRuns := funext fun p => by rw [State.plotRuns, State.plotRuns, hplot]
  rw [State.portPlot, State.portPlot, State.holder, State.holder, hplot, hrun]

/-- A condition of a port of no running plot charges no pass. -/
theorem State.xchError_idle {cause cnt : Nat} (h : (s.portPlot q).filter s.plotRuns = none) :
    Quiet s (s.xchError cause cnt q lane fidx k) := by
  have h1 : ∀ plot, Quiet s ((s.raiseXch cause q lane fidx plot k).countBy (Reg.XCH_CNT cnt) 1) := fun plot =>
    State.countBy_quiet _ _ 1 (State.raiseXch_quiet s cause q lane fidx plot k rfl)
  unfold State.xchError
  split
  · rename_i p hp
    rw [hp, Option.filter_eq_none_iff] at h
    dsimp only
    rw [if_neg (h p rfl)]
    exact h1 _
  · exact h1 _

theorem State.rxAliveCheck_idle {alive ftype : Nat} (h : (s.portPlot q).filter s.plotRuns = none) :
    Quiet (s.expectAlive q i x late alive) (s.rxAliveCheck q i x late alive ftype) := by
  refine State.rxAliveCheck_cases rfl (State.count_quiet _ _ (State.raiseLnk_quiet _ _ _ _ rfl)) (State.xchError_idle ?_)
  exact (State.runningPlot_of_plots rfl).trans h

theorem State.expectAlive_alive {alive : Nat} :
    cget 0 (s.expectAlive q i x late alive).xch.rxAlive (q * 9 + i) = 1 + (alive + 1) % 256 := by
  unfold State.expectAlive
  dsimp only
  rw [cset, if_neg (by omega)]
  exact Laws.cget_cput_same

theorem State.laneDecoded_undecoded (hm : s.memWf = true) : ((s.laneDecoded q i).lane q i).undecoded = 0 := by
  rw [State.laneDecoded, State.lane_onLane _ _ _ _ _ _ hm, if_pos rfl]

/-- What a frame of no running plot leaves: the expectation of ALIVE, and the end of the lane's run of undecoded frames. -/
theorem State.rxCounted_idle {alive ftype : Nat} (hm : s.memWf = true) (hi : s.inject = []) (hq : q < 16) (hl : i < 9)
    (hpw : s.pwrState = 0) (h : (s.portPlot q).filter s.plotRuns = none) :
    let u := (s.rxCounted q i n).rxAliveCheck q i x late alive ftype
    u.frameView = s.frameView ∧ u.plots = s.plots ∧ (u.lane q i).undecoded = 0 ∧
      cget 0 u.xch.rxAlive (q * 9 + i) = 1 + (alive + 1) % 256 := by
  have hv := State.rxCounted_frameView (n := n) hi hq hl hpw
  have hplots : (s.rxCounted q i n).plots = s.plots := by
    rw [State.rxCounted_eq hi hq hl hpw]
    exact State.rxFixed_plots (State.onLane_good s q i _ (Good.records hm)).mem
  have hlnk : (s.rxCounted q i n).lnk = (s.laneDecoded q i).lnk := by
    rw [State.rxCounted_eq hi hq hl hpw]
    exact State.lnk_of_stock State.rxFixed_stock
  have hquiet := State.rxAliveCheck_idle (i := i) (x := x) (late := late) (alive := alive) (ftype := ftype)
    ((State.runningPlot_of_plots hplots).trans h)
  refine ⟨(State.rxAliveCheck_frameView hq).trans hv, hquiet.plots.trans hplots, ?_, ?_⟩
  · have hlane : ((s.rxCounted q i n).rxAliveCheck q i x late alive ftype).lnk = (s.laneDecoded q i).lnk :=
      (State.lnk_of_stock hquiet.stock).trans hlnk
    rw [State.lane, hlane]
    exact State.laneDecoded_undecoded hm
  · rw [hquiet.xch]
    exact State.expectAlive_alive

end

/-- Settles O40: a frame that is expected adds the groups of its entries (`State.takeGroups_frameView`), and what it notes on its
way leaves the table they are read from (`State.rxDecoded_data_frameView`, `State.rxLost_frameView`). -/
theorem framesGiveTheirGroups : Obligations.FramesGiveTheirGroups := by
  intro s q i pn fidx p late f hm hq hl hi hpw
  refine ⟨fun h0 hw => exec_frameReceive_down hi h0 hw, fun h6 hx hw => ?_, fun h6 hx hmk d ho hf hmis hlo hhi => ?_⟩
  · obtain ⟨hp, hfidx, hslot⟩ := State.rxSlot_wanted hx hw
    refine ⟨fun d ho hf hmis hlo hhi => ?_, fun ho hn => ?_⟩
    · have hv := State.rxDecoded_data_frameView hx hw hp hi hq hl hpw hf hmis hlo hhi
      rw [hfidx] at hv
      have hroutes := State.Routes.of_frameTable (congrArg Prod.fst hv)
      obtain ⟨lnk, hend⟩ := hroutes.frameEnd (i := i) (f := s.unInvert q i f) hx hp rfl hpw hslot
      refine ⟨_, _, (exec_frameReceive_decoded hi h6 ho).trans (congrArg Host.Outcome.next hend), congrArg Prod.snd hv,
        List.length_map _, fun h hmem => ?_, fun e he hk hg => ⟨_, List.mem_map_of_mem he, State.groupOf_receive hk hg⟩⟩
      obtain ⟨e, -, rfl⟩ := List.mem_map.1 hmem
      exact ⟨rfl, rfl, rfl, rfl⟩
    · have hv := State.rxLost_frameView hx hw hp hi hq
      rw [hfidx] at hv
      have hroutes := (State.Routes.of_frameTable (congrArg Prod.fst hv)).count_fecue hq hl
      obtain ⟨lnk, hund⟩ := State.rxUndecoded_count (x := s.rxSlot q i pn fidx) h6 hn
      obtain ⟨lnk', hend⟩ := hroutes.frameEnd (i := i) (f := s.unInvert q i f) hx hp hund hpw hslot
      refine ⟨_, _, (exec_frameReceive_undecoded hi h6 ho).trans (congrArg Host.Outcome.next hend),
        (congrArg XchMem.held (State.count_quiet _ _ rfl).xch).trans (congrArg Prod.snd hv), List.length_map _,
        fun h hmem => ?_, ?_⟩
      · obtain ⟨e, -, rfl⟩ := List.mem_map.1 hmem
        exact ⟨rfl, rfl, rfl, rfl⟩
      · refine (State.rn_count_fecue hq hl (State.rxLost_mem hm)).trans ?_
        rw [State.rn_of_frameTable (congrArg Prod.fst hv) (.inr (by unfold fecReg Reg.LNK_LANE_FECUE; omega))]
  · have hnone : (s.portPlot q).filter s.plotRuns = none := hx
    obtain ⟨hv, hplots, hlane, halive⟩ := State.rxCounted_idle (n := d.fixed) (x := s.rxSlot q i pn fidx) (late := late)
      (alive := nfld d.hdr 20 8) (ftype := 1) hm hi hq hl hpw hnone
    have hroutes := State.Routes.of_frameTable (congrArg Prod.fst hv)
    refine ⟨_, (exec_frameReceive_decoded hi h6 ho).trans (congrArg Host.Outcome.next ?_), congrArg Prod.snd hv, hplots, hlane,
      halive⟩
    rw [State.rxDecoded_ontime (by omega) hmis hlo hhi, hf, State.rxHeader_none hx,
      State.rxPayload_idle (State.rxSlot_none hx), State.markerWatch_off ((hroutes.markEn hq).trans hmk),
      State.wakeCheck_awake (hroutes.pwrState.trans hpw)]

end Sys2Proof.Machine

end

section

/-!
# STAKE and ROLLBACK

PROVES O29 (spec R205, R215).
-/

namespace Sys2Proof.Machine
open Sys2Proof

section
variable {s : State} {id n opc : Nat} {c : Cmd}

theorem exec_stake (hc : s.taken 0x50 id = some c) : exec (.stake id) s = .next (s.stakeOp c) := by
  show Host.Outcome.next (s.onTaken 0x50 id s.stakeOp) = _
  rw [State.onTaken_some hc]

theorem exec_rollback (hc : s.taken 0x53 id = some c) : exec (.rollback id) s = .next (s.rollbackOp c) := by
  show Host.Outcome.next (s.onTaken 0x53 id s.rollbackOp) = _
  rw [State.onTaken_some hc]

/-- A command that a unit refuses ends with its status, and changes no plot. -/
theorem State.finish_refuses {st : Nat} (hc : s.taken opc id = some c) :
    (s.finish c.id st 0).ended id st 0 ∧ (s.finish c.id st 0).plots = s.plots := by
  rw [(s.taken_mem opc id c hc).2]
  exact ⟨State.finish_ended s id _ _ (State.taken_mem_id hc), State.finish_plots ..⟩

/-- A command that waits, noted in the commit state of its plot. -/
theorem State.blockCmd_onCmt {f : CommitSt → CommitSt} (hm : s.memWf = true) (hc : s.taken opc id = some c) :
    ((s.blockCmd c.id).onCmt c.plot f).waits id ∧
      ((s.blockCmd c.id).onCmt c.plot f).plot c.plot = { s.plot c.plot with cmt := f (s.plot c.plot).cmt } := by
  rw [(s.taken_mem opc id c hc).2]
  exact ⟨State.blockCmd_waits (State.taken_mem_id hc), State.plot_onPlot_self (s := s.blockCmd id) hm⟩

theorem State.stakeOp_noted (hr : s.sow c.plot = Sow.released) (hd : s.deadStatus c.plot = none) (hn : c.atPn = some n)
    (hmiss : s.missed c.plot c = false) (ht : s.takesStakes c.plot = true) (hpn : (s.plot c.plot).tm.cpn < n) :
    s.stakeOp c = (s.blockCmd c.id).onCmt c.plot fun x => { x with extra := x.extra ++ [(n, c.id)] } := by
  simp [State.stakeOp, hr, hd, hn, hmiss, ht, hpn]

theorem State.stakeOp_noPn (hd : s.deadStatus c.plot = none) (hn : c.atPn = none) :
    s.stakeOp c = s.finish c.id Status.invalidParam 0 := by
  rw [State.stakeOp]
  split
  · rfl
  · rw [hd, hn]

section
variable (hr : s.sow c.plot = Sow.released) (hd : s.deadStatus c.plot = none)
include hr hd

theorem State.rollbackOp_noPn (hn : c.atPn = none) : s.rollbackOp c = s.finish c.id Status.invalidParam 0 := by
  simp [State.rollbackOp, hr, hd, hn]

variable (hn : c.atPn = some n) (hmiss : s.missed c.plot c = false)
include hn hmiss

theorem State.rollbackOp_noted (hno : ∀ e ∈ (s.plot c.plot).cmt.rollback, e.2 = none) :
    s.rollbackOp c = (s.blockCmd c.id).onCmt c.plot fun x => { x with rollback := x.rollback ++ [(n, some c.id)] } := by
  have hany : ((s.plot c.plot).cmt.rollback.any fun e => e.2.isSome) = false :=
    List.any_eq_false.2 fun e he => by simp [hno e he]
  simp [State.rollbackOp, hr, hd, hn, hmiss, hany]

theorem State.rollbackOp_busy (hwait : ∃ e ∈ (s.plot c.plot).cmt.rollback, e.2 ≠ none) :
    s.rollbackOp c = s.finish c.id Status.busy 0 := by
  have hany : ((s.plot c.plot).cmt.rollback.any fun e => e.2.isSome) = true := by
    obtain ⟨e, he, hne⟩ := hwait
    exact List.any_eq_true.2 ⟨e, he, Option.isSome_iff_ne_none.2 hne⟩
  simp [State.rollbackOp, hr, hd, hn, hmiss, hany]

end

end

/-- Settles O29: STAKE and ROLLBACK go through the refusals of their operation in order (`State.stakeOp_noted`,
`State.rollbackOp_noted`); a command that is left over is blocked and noted in the commit state of its plot
(`State.blockCmd_onCmt`), and a refused one ends with no plot changed (`State.finish_refuses`). -/
theorem stakeAndRollbackAreNoted : Obligations.StakeAndRollbackAreNoted := by
  intro s id c hm hr hd
  refine ⟨fun n hn hmiss => ⟨fun hc ht hpn => ?_, fun hc hno => ?_, fun hc hwait => ?_⟩,
    fun hn => ⟨fun hc => ?_, fun hc => ?_⟩⟩
  · obtain ⟨hw, hplot⟩ := State.blockCmd_onCmt (f := fun x => { x with extra := x.extra ++ [(n, c.id)] }) hm hc
    refine ⟨_, (exec_stake hc).trans (congrArg _ (State.stakeOp_noted hr hd hn hmiss ht hpn)), hw, ?_⟩
    rw [hplot, (s.taken_mem _ id c hc).2]
    exact ⟨rfl, rfl⟩
  · obtain ⟨hw, hplot⟩ := State.blockCmd_onCmt (f := fun x => { x with rollback := x.rollback ++ [(n, some c.id)] }) hm hc
    refine ⟨_, (exec_rollback hc).trans (congrArg _ (State.rollbackOp_noted hr hd hn hmiss hno)), hw, ?_⟩
    rw [hplot, (s.taken_mem _ id c hc).2]
    exact ⟨rfl, rfl⟩
  · exact ⟨_, (exec_rollback hc).trans (congrArg _ (State.rollbackOp_busy hr hd hn hmiss hwait)), State.finish_refuses hc⟩
  · exact ⟨_, (exec_stake hc).trans (congrArg _ (State.stakeOp_noPn hd hn)), State.finish_refuses hc⟩
  · exact ⟨_, (exec_rollback hc).trans (congrArg _ (State.rollbackOp_noPn hr hd hn)), State.finish_refuses hc⟩

end Sys2Proof.Machine

end

section

/-!
# The decision of a headland

PROVES O8 (spec R23, R24, R192).
-/

namespace Sys2Proof.Machine
open Sys2Proof

section
variable {s t u : State} {p n k : Nat}

/-! ## The timetables of the plots -/

/-- An operation that leaves the timetables alone. -/
theorem Good.timeOf (h : Good (Kept.times s) t) : (t.plot p).tm = (s.plot p).tm := h.tm _ rfl p

theorem State.tm_spend (hm : s.memWf = true) :
    ((s.spend p n).plot p).tm = { (s.plot p).tm with due := (s.plot p).tm.due + n } := by
  have hu := State.onPlot_memWf s p (fun x => { x with tm := { x.tm with due := (s.plot p).tm.due + n } }) hm
  refine (State.waitSteps_good _ ((s.plot p).tm.due + n) (Good.times hu)).timeOf.trans ?_
  rw [State.plot_onPlot_self hm]

/-- Headland steps 0 and 1 go by, and the latch is next. -/
theorem State.tm_decided (hm : u.memWf = true) : (((u.spend p 2).toHead p .latch).plot p).tm =
    { (u.plot p).tm with phase := .head .latch, due := (u.plot p).tm.due + 2 } := by
  rw [State.tm_toHead, State.tm_spend hm]

/-! ## A pass commits (R24, R197) -/

/-- Of the timetable a commit moves the counts and the levels of the passes up to k alone. -/
theorem State.commitPass_times (hm : s.memWf = true) : (s.commitPass p k).memWf = true ∧
    ((s.commitPass p k).plot p).tm = { (s.plot p).tm with dpn := k + 1, cpn := max (s.plot p).tm.cpn (k + 1),
                                                          stretch := (s.plot p).tm.stretch.filter fun e => k < e.1 } := by
  unfold State.commitPass
  extract_lets sup c fresh s1 s2 s3 s4 s5 s6 s7 s8 s9
  have h1 : Good (Kept.times s1) s1 := Good.times (State.onPlot_memWf s p _ hm)
  have h2 : Good (Kept.times s1) s2 := State.put_good _ _ _ _ _ (good_ite (State.runProgress_good _ _ h1 rfl) h1)
  have h3 : Good (Kept.times s1) s3 := good_foldl (fun _ _ h => State.undoFree_good _ _ _ h) h2
  have h4 : Good (Kept.times s1) s4 :=
    State.swapsCommit_good _ _ _ (State.heldCommit_good _ _ _ (State.readsCommit_good _ _ _ h3))
  have h5 : Good (Kept.times s1) s5 :=
    good_ite h4 (State.bridgeCommit_good _ _ _ (State.corunCommit_good _ _ _ (State.sigCommit_good _ _ _ h4) rfl))
  have h6 : Good (Kept.times s1) s6 := good_ite (State.stopFor_good _ _ _ h5 rfl) h5
  have h7 : Good (Kept.times s1) s7 := good_ite (State.plotInt_good _ _ _ (State.stopFor_good _ _ _ h6 rfl)) h6
  have h8 : Good (Kept.times s1) s8 := good_ite (State.cmtStateSet_good _ _ _ h7) h7
  have h9 : Good (Kept.times s1) s9 := good_ite (State.capture_good _ _ _ h8 rfl rfl) h8
  have hend := State.logCommit_good s9 p k h9 rfl
  refine ⟨hend.mem, hend.timeOf.trans ?_⟩
  rw [State.plot_onPlot_self hm]

/-! ## A pass fails (R192, R193) -/

/-- Of the timetable a failure moves the plan of the headland alone, which notes it. -/
theorem State.failPass_times (hm : s.memWf = true) : (s.failPass p k).memWf = true ∧
    ∃ hl : Headland, hl.fail = true ∧ ((s.failPass p k).plot p).tm = { (s.plot p).tm with hl := hl } := by
  unfold State.failPass
  extract_lets pn c retry s1
  obtain ⟨turn, hold⟩ := failAction retry (s.fld (Reg.PLT_CMT_CFG p) 0 4)
  dsimp -zeta only
  extract_lets s2 s3 s4 s5
  have h1 : Good (Kept.records s) s1 :=
    State.count_good _ _ (State.rnSet64_good _ _ _ (State.put_good _ _ _ _ _ (Good.records hm)))
  have h2 : Good (Kept.times s2) s2 := Good.times (State.onPlot_memWf s1 p _ h1.mem)
  have h3 : Good (Kept.times s2) s3 := State.versionRestore_good _ _ _ (State.record_good _ _ _ _ _ _ h2) rfl rfl
  have h4 : Good (Kept.times s2) s4 := State.hvtDiscard_good _ _ _ (State.sigDiscard_good _ _ _ (State.gateDiscard_good _ _ _
    (State.fioDiscard_good _ _ _ _ h3))) rfl
  have h5 : Good (Kept.times s2) s5 := good_ite (State.cmtStateSet_good _ _ _ h4) h4
  have hend := State.exposure_good _ p k (State.swapsBack_good _ p k h5) rfl
  refine ⟨hend.mem, { (s.plot p).tm.hl with fail := true, replay := turn, hold := hold }, rfl, hend.timeOf.trans ?_⟩
  rw [State.plot_onPlot_self h1.mem, State.plot_of_plots (h1.plots _ rfl)]

/-! ## COMMIT_DECISION (R24, R192) -/

section
variable (hm : s.memWf = true) (h : s.atHead p .commit = true)
include hm h

theorem exec_commitDecision_fails (hdue : s.dlag p ≤ (s.plot p).tm.pn ∧ (s.plot p).tm.dpn ≤ (s.plot p).tm.pn - s.dlag p)
    (hf : (s.plot p).cmt.flags.contains ((s.plot p).tm.pn - s.dlag p) = true) :
    ∃ t hl, exec (.commitDecision p) s = .next t ∧ hl.fail = true ∧
      (t.plot p).tm = { (s.plot p).tm with hl := hl, phase := .head .latch, due := (s.plot p).tm.due + 2 } := by
  have hg := State.hvtStep0_good s p none (Good.times hm)
  obtain ⟨hu, hl, hfail, htm⟩ := State.failPass_times (p := p) (k := (s.plot p).tm.pn - s.dlag p) hg.mem
  refine ⟨_, hl, ?_, hfail, (State.tm_decided hu).trans ?_⟩
  · show execCommitDecision p s = _
    simp only [execCommitDecision, h, hdue, hf, and_self, if_true, Bool.true_eq_false, if_false]
  · rw [htm, hg.timeOf]

theorem exec_commitDecision_commits (hdue : s.dlag p ≤ (s.plot p).tm.pn ∧ (s.plot p).tm.dpn ≤ (s.plot p).tm.pn - s.dlag p)
    (hf : (s.plot p).cmt.flags.contains ((s.plot p).tm.pn - s.dlag p) = false) :
    ∃ t, exec (.commitDecision p) s = .next t ∧
      (t.plot p).tm = { (s.plot p).tm with
        hl := { (s.plot p).tm.hl with commit := true }, phase := .head .latch, due := (s.plot p).tm.due + 2,
        cpn := max (s.plot p).tm.cpn ((s.plot p).tm.pn - s.dlag p + 1), dpn := (s.plot p).tm.pn - s.dlag p + 1,
        stretch := (s.plot p).tm.stretch.filter fun e => (s.plot p).tm.pn - s.dlag p < e.1 } := by
  generalize hk : (s.plot p).tm.pn - s.dlag p = k at *
  generalize hs : s.onTm p (fun t => { t with hl := { t.hl with commit := true } }) = s2
  have hm2 : s2.memWf = true := hs ▸ State.onPlot_memWf s p _ hm
  obtain ⟨hu, htm⟩ := State.commitPass_times (p := p) (k := k) hm2
  have hg := State.hvtStep0_good _ p (if s.commitsAgain p k then none else some k)
    (State.versionAdvance_good _ p (Good.times hu) rfl rfl)
  refine ⟨_, ?_, (State.tm_decided hg.mem).trans ?_⟩
  · show execCommitDecision p s = _
    simp only [execCommitDecision, h, hk, hdue, hf, hs, and_self, if_true, Bool.true_eq_false, Bool.false_eq_true, if_false]
  · rw [hg.timeOf, htm, ← hs, State.onTm, State.plot_onPlot_self hm]

theorem exec_commitDecision_not_due
    (hdue : ¬ (s.dlag p ≤ (s.plot p).tm.pn ∧ (s.plot p).tm.dpn ≤ (s.plot p).tm.pn - s.dlag p)) :
    ∃ t, exec (.commitDecision p) s = .next t ∧
      (t.plot p).tm = { (s.plot p).tm with phase := .head .latch, due := (s.plot p).tm.due + 2 } := by
  have hg := State.hvtStep0_good _ p none (State.versionAdvance_good _ p (Good.times hm) rfl rfl)
  refine ⟨_, ?_, (State.tm_decided hg.mem).trans (by rw [hg.timeOf])⟩
  show execCommitDecision p s = _
  simp only [execCommitDecision, h, hdue, Bool.true_eq_false, if_false]

end

end

/-- Settles O8: whether a pass is due, and whether it is charged, decides the branch of the command; a commit, a failure and
the advance of the version each leave the rest of the timetable alone (`State.commitPass_times`, `State.failPass_times`). -/
theorem decisionCommitsOrFails : Obligations.DecisionCommitsOrFails := by
  intro s p hm h
  split
  · rename_i hdue
    cases hf : (s.plot p).cmt.flags.contains ((s.plot p).tm.pn - s.dlag p) with
    | true =>
      obtain ⟨t, hl, he, hfail, htm⟩ := exec_commitDecision_fails hm h hdue hf
      refine ⟨t, he, ?_⟩
      rw [htm]
      exact ⟨rfl, hfail, rfl, rfl⟩
    | false =>
      obtain ⟨t, he, htm⟩ := exec_commitDecision_commits hm h hdue hf
      refine ⟨t, he, ?_⟩
      rw [htm]
      exact ⟨rfl, rfl, rfl, rfl⟩
  · obtain ⟨t, he, htm⟩ := exec_commitDecision_not_due hm h ‹_›
    refine ⟨t, he, ?_, htm⟩
    rw [htm]

end Sys2Proof.Machine

end

section

/-!
# What goes on under a hold

SUPPORT for the statements about holds: the operations that a hold and a stop consist of let every plot stand where it stands,
leave its hold alone, and name no pass to resume with (R185, R200-R203). A pass error stops a plot for good only where the
plot neither runs nor stands in a hold.
-/

namespace Sys2Proof.Machine
open Sys2Proof

section
variable {s t u : State} {p n k q : Nat} {plot : Option Nat}

/-- y stands where x stands and is in the same hold, and no RESUME has come to it that had not come to x. -/
structure Plot.HoldsOn (x y : Plot) : Prop where
  phase : y.tm.phase = x.tm.phase
  hold : y.cmt.hold = x.cmt.hold
  resume : x.cmt.resume = none → y.cmt.resume = none

theorem Plot.HoldsOn.trans {x y z : Plot} (h : x.HoldsOn y) (g : y.HoldsOn z) : x.HoldsOn z :=
  ⟨g.phase.trans h.phase, g.hold.trans h.hold, fun hx => g.resume (h.resume hx)⟩

/-- t is in canonical form, and every plot holds on from s. -/
structure State.HoldsOn (s t : State) : Prop where
  mem : t.memWf = true
  plots : ∀ q, (s.plot q).HoldsOn (t.plot q)

theorem State.HoldsOn.refl (hm : s.memWf = true) : State.HoldsOn s s := ⟨hm, fun _ => ⟨rfl, rfl, id⟩⟩

theorem State.HoldsOn.trans (h : State.HoldsOn s t) (g : State.HoldsOn t u) : State.HoldsOn s u :=
  ⟨g.mem, fun q => (h.plots q).trans (g.plots q)⟩

theorem State.HoldsOn.hold (h : State.HoldsOn s t) : (t.plot q).cmt.hold = (s.plot q).cmt.hold := (h.plots q).hold

/-- An operation that leaves the plots alone. -/
theorem State.HoldsOn.still (h : State.HoldsOn s t) (hk : Good (Kept.records t) t → Good (Kept.records t) u) :
    State.HoldsOn s u := by
  have hu := hk (Good.records h.mem)
  exact ⟨hu.mem, fun q => State.plot_of_plots (hu.plots _ rfl) ▸ h.plots q⟩

/-- What holding on is about. -/
def Plot.standing (x : Plot) : Phase × Option Hold × Option (Nat × Nat) := (x.tm.phase, x.cmt.hold, x.cmt.resume)

theorem State.HoldsOn.reads (h : State.HoldsOn s t) (hr : State.Reads Plot.standing t u) : State.HoldsOn s u := by
  refine h.trans ⟨hr.mem, fun q => ?_⟩
  obtain ⟨hphase, hrest⟩ := Prod.mk.inj (hr.same q)
  obtain ⟨hhold, hresume⟩ := Prod.mk.inj hrest
  exact ⟨hphase, hhold, hresume.trans⟩

/-- An operation on a plot's record, which may look at what stands in it. -/
theorem State.HoldsOn.onPlotAt {f : Plot → Plot} (h : State.HoldsOn s t) (hf : (t.plot p).HoldsOn (f (t.plot p))) :
    State.HoldsOn s (t.onPlot p f) := by
  refine h.trans ⟨State.onPlot_memWf t p f h.mem, fun q => ?_⟩
  rw [State.plot_onPlot t p q f h.mem]
  split
  · rename_i hq
    exact hq ▸ hf
  · exact ⟨rfl, rfl, id⟩

theorem State.HoldsOn.onPlot {f : Plot → Plot} (h : State.HoldsOn s t) (hf : ∀ x : Plot, x.HoldsOn (f x)) :
    State.HoldsOn s (t.onPlot p f) := h.onPlotAt (hf _)

theorem State.HoldsOn.onCmt {f : CommitSt → CommitSt} (h : State.HoldsOn s t)
    (hf : ∀ c : CommitSt, (f c).hold = c.hold ∧ (c.resume = none → (f c).resume = none)) :
    State.HoldsOn s (t.onCmt p f) :=
  State.HoldsOn.onPlot h fun _ => ⟨rfl, (hf _).1, (hf _).2⟩

theorem State.HoldsOn.onHvt {f : HvtSt → HvtSt} (h : State.HoldsOn s t) : State.HoldsOn s (t.onHvt p f) :=
  State.HoldsOn.onPlot h fun _ => ⟨rfl, rfl, id⟩

theorem State.HoldsOn.ite {c : Prop} [Decidable c] (h : State.HoldsOn s t) (g : State.HoldsOn s u) :
    State.HoldsOn s (if c then t else u) := by
  split <;> assumption

theorem State.HoldsOn.foldl {α : Type} {g : State → α → State} {l : List α} (h : State.HoldsOn s t)
    (hg : ∀ u a, State.HoldsOn s u → State.HoldsOn s (g u a)) : State.HoldsOn s (l.foldl g t) := by
  induction l generalizing t with
  | nil => exact h
  | cons a l ih => exact ih (hg t a h)

/-! ## Pass errors, and the stop of a plot (R185, R202, R213) -/

theorem State.HoldsOn.finishRuns {st : Nat} (h : State.HoldsOn s t) : State.HoldsOn s (t.finishRuns p st n) :=
  h.reads (State.Reads.finishRuns (.refl h.mem) fun _ _ _ => rfl)

theorem State.HoldsOn.finishWaiting {st : Nat} (h : State.HoldsOn s t) : State.HoldsOn s (t.finishWaiting p st) :=
  h.reads (State.Reads.finishWaiting (.refl h.mem) fun _ _ _ _ _ => rfl)

/-- A plot that is in no hold stops for good. -/
theorem State.HoldsOn.faultStop {state st : Nat} (h : State.HoldsOn s t) (hh : (t.plot p).cmt.hold = none) :
    State.HoldsOn s (t.faultStop p state st) := by
  unfold State.faultStop
  extract_lets worst s1 s2 s3
  have h1 : State.HoldsOn s s1 := h.onPlotAt ⟨rfl, hh.symm, fun _ => rfl⟩
  have h2 : State.HoldsOn s s2 := h1.still fun hk => State.clrBit_good _ _ _ (State.cmtStateSet_good _ _ _ hk)
  exact h2.finishRuns.finishWaiting.still fun hk => State.plotState_good _ _ _ _ _ hk

theorem State.hold_none_of_idle (h : s.plotBusy p = false) : (s.plot p).cmt.hold = none := by
  rw [State.plotBusy, Bool.or_eq_false_iff] at h
  exact Option.isNone_iff_eq_none.1 (by rw [← Option.not_isSome, h.2]; rfl)

theorem State.HoldsOn.divergePass {send : Bool} (h : State.HoldsOn s t) : State.HoldsOn s (t.divergePass p k send) := by
  unfold State.divergePass
  extract_lets s1 s2 s3
  have h1 : State.HoldsOn t s1 := State.HoldsOn.onCmt ((State.HoldsOn.refl h.mem).still fun hk =>
    State.plotInt_good _ _ _ (State.setBit_good _ _ _ hk)) fun _ => ⟨rfl, id⟩
  have h2 : State.HoldsOn t s2 := h1.still fun hk => State.holdRec_good _ _ _ _ _ _ hk
  have h3 : State.HoldsOn t s3 := State.HoldsOn.ite (h2.still fun hk => State.floodCtl_good _ _ _ _ _ _ _ hk) h2
  split
  · exact h
  · split
    · rename_i hidle
      exact h.trans (h3.faultStop (h3.hold.trans (State.hold_none_of_idle hidle.1)))
    · exact h.trans h3

theorem State.HoldsOn.passError {block cause loc unit : Nat} (h : State.HoldsOn s t) :
    State.HoldsOn s (t.passError p k block cause loc unit) := by
  unfold State.passError
  extract_lets c disc s1 s2
  have h1 : State.HoldsOn s s1 := h.onCmt fun _ => ⟨rfl, id⟩
  have h2 : State.HoldsOn s s2 := h1.onCmt fun _ => ⟨rfl, id⟩
  exact State.HoldsOn.ite h (State.HoldsOn.ite h.divergePass (State.HoldsOn.ite h1
    (h2.still fun hk => State.flood_good _ _ _ _ hk)))

/-! ## Checks of rows and of furrow RAM (R76, R93, R106) -/

theorem State.HoldsOn.furError {phys cause loc : Nat} (h : State.HoldsOn s t) :
    State.HoldsOn s (t.furError p phys cause loc k) :=
  (h.still fun hk => State.raiseFur_good _ _ _ _ _ _ hk).passError

theorem State.HoldsOn.rowRead {phys ver : Nat} {e : Nat × Nat} (h : State.HoldsOn s t) :
    State.HoldsOn s (t.rowRead p phys ver n e) := by
  unfold State.rowRead
  exact State.HoldsOn.ite (h.still fun hk => State.eccSet_good _ _ _ _ (State.furCe_good _ _ _ _ _ _ hk)) h.furError

theorem State.HoldsOn.rowsCheck {phys ver : Nat} (h : State.HoldsOn s t) : State.HoldsOn s (t.rowsCheck p phys ver n) :=
  h.foldl fun _ _ hu => hu.rowRead

theorem State.HoldsOn.furCause {phys cause st b : Nat} (h : State.HoldsOn s t) :
    State.HoldsOn s (t.furCause p phys cause st b) := by
  unfold State.furCause
  exact State.HoldsOn.ite h.furError (State.HoldsOn.ite (h.still fun hk => State.furCe_good _ _ _ _ _ _ hk)
    (h.still fun hk => State.raiseFur_good _ _ _ _ _ _ hk))

theorem State.HoldsOn.idleCause {phys cause st b : Nat} (h : State.HoldsOn s t) :
    State.HoldsOn s (t.idleCause p phys cause st b) := by
  unfold State.idleCause
  exact State.HoldsOn.ite h.furCause (State.HoldsOn.ite (h.still fun hk => State.furCe_good _ _ _ _ _ _ hk)
    (h.still fun hk => State.raiseFur_good _ _ _ _ _ _ hk))

theorem State.HoldsOn.ramCheck {phys base st : Nat} (h : State.HoldsOn s t) :
    State.HoldsOn s (t.ramCheck p phys base st).2 := by
  have ht : ∀ read, State.HoldsOn s (t.glnTouch (some p) read) := fun _ => h.still fun hk => State.glnTouch_good _ _ _ hk
  unfold State.ramCheck
  dsimp only
  split
  · exact ht _
  · exact (ht _).idleCause.still fun hk => State.eccSet_good _ _ _ _ hk
  · exact (ht _).idleCause

theorem State.HoldsOn.ramMerge {phys base st : Nat} (h : State.HoldsOn s t) :
    State.HoldsOn s (t.ramMerge p phys base st) := by
  unfold State.ramMerge
  exact State.HoldsOn.ite (h.ramCheck.still fun hk => State.eccSet_good _ _ _ _ (good_upd hk)) h.ramCheck

theorem State.HoldsOn.ramStore {phys base pn st : Nat} {vs : List Val} {host : Bool} (h : State.HoldsOn s t) :
    State.HoldsOn s (t.ramStore p phys base pn st vs host) :=
  h.ramMerge.still fun hk => State.ramPut_good _ _ _ _ (State.undoAdd_good _ _ _ hk)

theorem State.HoldsOn.undoRestore {phys : Nat} (h : State.HoldsOn s t) : State.HoldsOn s (t.undoRestore p phys k) := by
  refine State.HoldsOn.still (h.foldl fun u e hu => ?_) fun hk => good_upd hk
  unfold State.undoPut
  exact State.HoldsOn.ite hu (hu.ramMerge.still fun hk => State.ramPut_good _ _ _ _ hk)

/-! ## Checks of HBM words, drains and the journal (R146-R151, R212) -/

theorem State.HoldsOn.memRaise {cause addr : Nat} {sched : Bool} (h : State.HoldsOn s t) :
    State.HoldsOn s (t.memRaise cause addr plot n sched) := by
  have h1 : State.HoldsOn s (if cause = 0 ∨ cause = 6 then t.memEvent cause addr plot n
      else if cause = 1 then t.memUe addr plot n else t.raiseMem (pcOf addr) cause (pcOffset addr) plot n) :=
    h.still fun hk => good_ite (State.memEvent_good _ _ _ _ _ hk)
      (good_ite (State.memUe_good _ _ _ _ hk) (State.raiseMem_good _ _ _ _ _ _ hk))
  unfold State.memRaise
  dsimp only
  split
  · exact State.HoldsOn.ite h1.passError h1
  · exact h1

theorem State.HoldsOn.injectAt {reg : Nat} {pick : Nat → Bool} {corrupt : Nat → State → State}
    {cond : Nat → Nat → State → State} (h : State.HoldsOn s t)
    (hc : ∀ b u, State.HoldsOn s u → State.HoldsOn s (corrupt b u))
    (hd : ∀ a b u, State.HoldsOn s u → State.HoldsOn s (cond a b u)) :
    State.HoldsOn s (t.injectAt reg pick corrupt cond) := by
  unfold State.injectAt
  refine State.HoldsOn.ite h (State.HoldsOn.foldl (h.still fun hk => State.takeInjects_good _ _ _ hk) fun u i hu => ?_)
  split
  · exact hc _ _ hu
  · exact hc _ _ hu
  · exact hd _ _ _ hu

theorem State.HoldsOn.memInject {addr : Nat} {sched : Bool} (h : State.HoldsOn s t) :
    State.HoldsOn s (t.memInject addr plot n sched) :=
  State.HoldsOn.injectAt (h.still fun hk => State.glnTouchHbm_good _ _ _ hk)
    (fun _ _ hu => hu.still fun hk => State.upsetItem_good _ _ _ _ hk) fun _ _ _ hu => hu.memRaise

theorem State.HoldsOn.dataLoss {addr : Nat} (h : State.HoldsOn s t) : State.HoldsOn s (t.dataLoss addr p n) := by
  unfold State.dataLoss
  extract_lets s1
  have h1 : State.HoldsOn s s1 := h.still fun hk =>
    State.record_good _ _ _ _ _ _ (State.plotInt_good _ _ _ (State.setBit_good _ _ _ hk))
  exact State.HoldsOn.ite (h1.onCmt fun _ => ⟨rfl, id⟩) h1

theorem State.HoldsOn.poison {addr : Nat} (h : State.HoldsOn s t) : State.HoldsOn s (t.poison addr plot n) := by
  unfold State.poison
  extract_lets s1
  have h1 : State.HoldsOn s s1 :=
    h.still fun hk => State.raiseMem_good _ _ _ _ _ _ (State.unsuspect_good _ _ (State.hbmMarkSet_good _ _ _ hk))
  split
  · exact h1.still fun hk => State.record_good _ _ _ _ _ _ hk
  · exact h1.dataLoss

theorem State.HoldsOn.hbmCheck {addr : Nat} (h : State.HoldsOn s t) : State.HoldsOn s (t.hbmCheck addr plot n).2 := by
  have hi : State.HoldsOn s (t.memInject addr plot n false) := h.memInject
  unfold State.hbmCheck
  dsimp only
  split
  · exact hi
  · exact hi.still fun hk => State.hbmMarkSet_good _ _ _ (State.memEvent_good _ _ _ _ _ hk)
  · exact (hi.still fun hk => State.memUe_good _ _ _ _ hk).poison
  · exact hi.still fun hk => State.poisonRead_good _ _ _ _ hk

theorem State.HoldsOn.hbmCheckRange {addr len : Nat} (h : State.HoldsOn s t) :
    State.HoldsOn s (t.hbmCheckRange addr len plot n).2 := by
  unfold State.hbmCheckRange
  generalize natsFrom _ _ = l
  suffices ∀ r : Bool × State, State.HoldsOn s r.2 → State.HoldsOn s (l.foldl (fun r w =>
      ((r.1 || (r.2.hbmCheck (8 * w) plot n).1), (r.2.hbmCheck (8 * w) plot n).2)) r).2 from this (false, t) h
  induction l with
  | nil => exact fun _ hr => hr
  | cons w l ih => exact fun _ hr => ih _ hr.hbmCheck

theorem State.HoldsOn.logTrim (h : State.HoldsOn s t) : State.HoldsOn s (t.logTrim p n) := by
  unfold State.logTrim
  exact h.onPlot fun _ => ⟨rfl, rfl, id⟩

theorem State.HoldsOn.stakeOverflow {b : Nat} (h : State.HoldsOn s t) : State.HoldsOn s (t.stakeOverflow p b) := by
  unfold State.stakeOverflow
  extract_lets s1 s2 keep s3
  have h2 : State.HoldsOn s (s2.plotInt p 9) := h.still fun hk =>
    State.plotInt_good _ _ _ (State.record_good _ _ _ _ _ _ (State.clrBit_good _ _ _ (State.setBit_good _ _ _ hk)))
  have h3 : State.HoldsOn s s3 := h2.logTrim.onCmt fun _ => ⟨rfl, id⟩
  exact h3.still fun hk => good_updHbm hk

theorem State.HoldsOn.journalAdd {addr : Nat} {old : List Byte} (h : State.HoldsOn s t) :
    State.HoldsOn s (t.journalAdd p addr old n) := by
  unfold State.journalAdd
  extract_lets from? used s1
  have h1 : State.HoldsOn s s1 := State.HoldsOn.ite h.stakeOverflow h
  clear_value from?
  cases from? with
  | none => exact h
  | some f => exact State.HoldsOn.ite h (State.HoldsOn.ite h1 (h1.still fun hk => good_updHbm hk))

theorem State.HoldsOn.drainEntry {e : WqEntry} (h : State.HoldsOn s t) : State.HoldsOn s (t.drainEntry e) := by
  unfold State.drainEntry
  exact State.HoldsOn.ite h (State.HoldsOn.still (State.HoldsOn.ite h h.hbmCheckRange.journalAdd) fun hk =>
    State.hbmStore_good _ _ _ hk rfl)

theorem State.HoldsOn.wqOverflow {pc addr : Nat} (h : State.HoldsOn s t) : State.HoldsOn s (t.wqOverflow p pc addr n) :=
  (h.still fun hk => State.setBit_good _ _ _ (State.raiseMem_good _ _ _ _ _ _ hk)).passError

/-! ## State versions, data memory and the records of the host (R25, R56, R61, R148) -/

theorem State.HoldsOn.versionCopy {src dst : Nat} (h : State.HoldsOn s t) : State.HoldsOn s (t.versionCopy p src dst n) :=
  h.foldl fun _ _ hu => (hu.still fun hk => State.copyRows_good _ _ _ _ (State.rowsTouch_good _ _ _ _ hk)).rowsCheck

theorem State.HoldsOn.reloadData (h : State.HoldsOn s t) : State.HoldsOn s (t.reloadData p n) := by
  unfold State.reloadData
  exact h.foldl fun u f hu => State.HoldsOn.still (State.HoldsOn.foldl (hu.still fun hk => State.rowsTouch_good _ _ _ _ hk)
    fun _ _ hv => hv.rowRead) fun hk => good_upd hk

theorem State.HoldsOn.reapplyRec {r : LogRec} (h : State.HoldsOn s t) : State.HoldsOn s (t.reapplyRec p r) := by
  cases r with
  | poke => exact h.still fun hk => State.pokeSlot_good _ _ _ _ _ _ _ hk
  | force => exact h.still fun hk => State.pokeSlot_good _ _ _ _ _ _ _ hk
  | ramWrite => exact h.ramStore
  | memWrite n a bs =>
    have he := h.still (u := (t.wqEnter ⟨pcOf a, p, a, bs, n, 0, 0, false, true⟩).2) fun hk => State.wqEnter_good _ _ hk
    rw [State.reapplyRec]
    generalize t.wqEnter _ = r at he ⊢
    obtain ⟨entered, v⟩ := r
    cases entered with
    | true => exact he
    | false => exact State.HoldsOn.wqOverflow he
  | sigRestart => exact h.still fun hk => State.sigRestart_good _ _ hk
  | latch | sample | gate | unforce => exact h

theorem State.HoldsOn.reapplyMem (h : State.HoldsOn s t) : State.HoldsOn s (t.reapplyMem p n) := by
  refine h.foldl fun u r hu => ?_
  split
  · exact hu.reapplyRec
  · exact hu.reapplyRec
  · exact hu

/-! ## The stake is restored (R201) -/

theorem State.HoldsOn.settleQueue (h : State.HoldsOn s t) : State.HoldsOn s (t.settleQueue p n) := by
  unfold State.settleQueue
  exact State.HoldsOn.still (State.HoldsOn.foldl (h.still fun hk => good_updHbm hk) fun _ _ hu => hu.drainEntry) fun hk =>
    good_foldl (fun _ _ hg => State.wqStat_good _ _ hg) hk

theorem State.HoldsOn.loadState {c : StakeCopy} (h : State.HoldsOn s t) : State.HoldsOn s (t.loadState p c n) := by
  unfold State.loadState
  exact State.HoldsOn.versionCopy (h.still fun hk => good_foldl (fun _ _ hg => State.stateSet_good _ _ _ _ _ _ hg)
    (good_foldl (fun _ _ hg => good_upd hg) hk))

/-- What is staged from pass k on goes, and swaps wait again. -/
theorem State.HoldsOn.discards {keep : Nat} (h : State.HoldsOn s t) : State.HoldsOn s
    (((((t.fioDiscard p k keep).gateDiscard p n).sigDiscard p k).hvtDiscard p k).swapsBack p n) := by
  have h1 : State.HoldsOn s (((t.fioDiscard p k keep).gateDiscard p n).sigDiscard p k) := h.still fun hk =>
    State.sigDiscard_good _ _ _ (State.gateDiscard_good _ _ _ (State.fioDiscard_good _ _ _ _ hk))
  exact State.HoldsOn.still h1.onHvt fun hk => State.swapsBack_good _ _ _ hk

theorem State.HoldsOn.restoreStake {c : StakeCopy} (h : State.HoldsOn s t) : State.HoldsOn s (t.restoreStake p k c) := by
  unfold State.restoreStake
  extract_lets n old newest s1 s2 s3 top last
  have h1 : State.HoldsOn s s1 := h.settleQueue.loadState.still fun hk => State.loadRam_good _ _ _ hk
  have hc : State.HoldsOn s (s1.loadCarried p c) := h1.still fun hk => State.loadCarried_good _ _ _ hk
  have h2 : State.HoldsOn s s2 := State.HoldsOn.reapplyMem (hc.reloadData.still fun hk => State.undoJournal_good _ _ _ hk rfl)
  have h3 : State.HoldsOn s s3 := h2.discards
  exact h3.onPlot fun _ => ⟨rfl, rfl, id⟩

/-! ## A plot stops, and its furrows may go to other work (R26, R410, R411) -/

theorem State.HoldsOn.copyChecks (h : State.HoldsOn s t) : State.HoldsOn s (t.copyChecks p n) := by
  refine h.foldl fun u f hu => State.HoldsOn.foldl ?_ fun _ _ hv => hv.ramCheck
  have ht := hu.still (u := u.rowsTouch p f (t.verBefore p n)) fun hk => State.rowsTouch_good _ _ _ _ hk
  refine State.HoldsOn.ite ht.rowsCheck (ht.foldl fun v e hv => ?_)
  exact State.HoldsOn.ite (hv.idleCause.still fun hk => State.eccSet_good _ _ _ _ hk) hv.idleCause

theorem State.HoldsOn.abandonStake (h : State.HoldsOn s t) : State.HoldsOn s (t.abandonStake p) := by
  unfold State.abandonStake
  split
  · exact h
  · extract_lets cmds s1
    have h1 : State.HoldsOn s s1 := State.HoldsOn.onCmt
      (h.still fun hk => State.clrBit_good _ _ _ (State.setBit_good _ _ _ hk)) fun _ => ⟨rfl, id⟩
    exact h1.still fun hk => good_foldl (fun _ _ hg => State.finishOpt_good _ _ _ _ hg rfl) hk

theorem State.HoldsOn.rewindTo (h : State.HoldsOn s t) : State.HoldsOn s (t.rewindTo p k) := by
  unfold State.rewindTo
  extract_lets s1 s2 s3 top
  have h1 : State.HoldsOn s s1 := h.foldl fun _ _ hu => hu.undoRestore
  have h2 : State.HoldsOn s ((s1.readsDiscard p k).heldDiscard p k) :=
    h1.still fun hk => State.heldDiscard_good _ _ _ (State.readsDiscard_good _ _ _ hk)
  have h3 : State.HoldsOn s s3 := h2.discards
  exact h3.onCmt fun _ => ⟨rfl, id⟩

theorem State.HoldsOn.evict {level : Nat} (h : State.HoldsOn s t) : State.HoldsOn s (t.evict p level) := by
  unfold State.evict
  extract_lets k s1 n save pages s2 s3 s4 s5
  have h1 : State.HoldsOn s s1 := h.abandonStake.settleQueue.rewindTo.copyChecks
  have h2 : State.HoldsOn s s2 :=
    State.HoldsOn.onPlot (h1.still fun hk => State.gateFurrows_good _ _ hk) fun _ => ⟨rfl, rfl, id⟩
  have h3 : State.HoldsOn s s3 := h2.still fun hk => State.rnSet_good _ _ _ (State.areaWrite_good _ _ _ _ _ hk rfl)
  have h5 : State.HoldsOn s s5 := h3.still fun hk => good_foldl
    (fun _ _ hg => State.put_good _ _ _ _ _ (State.clrBit_good _ _ _ hg))
    (good_foldl (fun _ _ hg => State.rnSet_good _ _ _ hg) hk)
  exact State.HoldsOn.ite (h5.onPlot fun _ => ⟨rfl, rfl, id⟩) h3

theorem State.HoldsOn.fallowEnter {level : Nat} (h : State.HoldsOn s t) : State.HoldsOn s (t.fallowEnter p level) := by
  unfold State.fallowEnter
  extract_lets s1
  have h1 : State.HoldsOn s s1 := State.HoldsOn.onPlot (h.still fun hk => State.fallowRec_good _ _ _ _ _
    (good_ite (State.cmtStateSet_good _ _ _ hk) hk) rfl) fun _ => ⟨rfl, rfl, id⟩
  exact State.HoldsOn.ite (h1.still fun hk => State.put_good _ _ _ _ _ hk) (State.HoldsOn.onHvt h1.evict)

theorem State.HoldsOn.serveStops {st : Nat} {serving : List (Nat × Option Nat × Nat)} (h : State.HoldsOn s t) :
    State.HoldsOn s (t.serveStops p st n serving) := by
  unfold State.serveStops
  refine State.HoldsOn.foldl (State.HoldsOn.ite h h.fallowEnter) fun u e hu => ?_
  exact State.HoldsOn.ite hu (hu.still fun hk => State.finishAt_good _ _ _ _ _ _ hk rfl)

/-! ## A pass begins (R204) -/

theorem State.HoldsOn.recoveryDone (h : State.HoldsOn s t) : State.HoldsOn s (t.recoveryDone p n) := by
  unfold State.recoveryDone
  extract_lets ended left s1 s2
  have h1 : State.HoldsOn s s1 :=
    h.still fun hk => good_foldl (fun _ _ hg => State.count_good _ _ hg) (State.setBit_good _ _ _ hk)
  have h2 : State.HoldsOn s s2 :=
    State.HoldsOn.onCmt (h1.still fun hk => State.rnSet_good _ _ _ hk) fun _ => ⟨rfl, id⟩
  have hspan : State.HoldsOn s (s2.spanEnd p n) := by
    unfold State.spanEnd
    extract_lets v
    have hv : State.HoldsOn s v := h2.still fun hk => State.cmtStateSet_good _ _ _ (State.clrBit_good _ _ _ hk)
    have hw := hv.onCmt (p := p) (f := fun c => { c with suppress := none }) fun _ => ⟨rfl, id⟩
    exact hw.still fun hk => State.sigRestartAll_good _ _ hk
  exact State.HoldsOn.ite h (State.HoldsOn.still (State.HoldsOn.ite hspan h2) fun hk =>
    good_foldl (fun _ _ hg => State.finishOpt_good _ _ _ _ hg rfl) hk)

theorem State.HoldsOn.askStretch (h : State.HoldsOn s t) : State.HoldsOn s (t.askStretch p) := by
  have hw : ∀ a b, State.HoldsOn s (t.wantStretch p a b) := fun a b => by
    unfold State.wantStretch
    exact State.HoldsOn.ite h (State.HoldsOn.ite h.divergePass (h.onPlot fun _ => ⟨rfl, rfl, id⟩))
  unfold State.askStretch
  extract_lets n at_ key s1
  refine State.HoldsOn.ite h (State.HoldsOn.ite (hw _ _) ?_)
  have h1 : State.HoldsOn s (s1.onTm p fun x => { x with notices := (key, at_) :: x.notices }) :=
    State.HoldsOn.onPlot (hw _ _) fun _ => ⟨rfl, rfl, id⟩
  exact h1.still fun hk => State.flood_good _ _ _ _ hk

end

end Sys2Proof.Machine

end

section

/-!
# Starts and holds

PROVES O11 (spec R198-R203, R290, R346, R347, R411, R412, R421, R489).
-/

namespace Sys2Proof.Machine
open Sys2Proof

section
variable {s t u : State} {p n k ft pass x : Nat} {pins : List (Nat × Nat)}

/-! ## Launch and wake (R290, R347, R410, R489) -/

theorem State.plot_finishAll {pick : Cmd → Bool} {st res : Nat} (hm : s.memWf = true) :
    (s.finishAll p pick st res).plot p = s.plot p :=
  State.plot_of_plots ((State.finishAll_good s p pick st res (Good.records hm) rfl).plots _ rfl)

theorem State.plot_waitUntil : (s.waitUntil n).plot p = s.plot p := State.plot_of_plots (State.waitUntil_plots s n)

theorem State.waitUntil_memWf (hm : s.memWf = true) : (s.waitUntil n).memWf = true :=
  (State.waitUntil_good s n (Good.records hm)).mem

theorem State.beginPass_memWf (hm : s.memWf = true) : (s.beginPass p n).memWf = true :=
  (State.beginPass_good s p n (Good.fused hm) rfl rfl rfl).mem

theorem State.launch_place (hm : s.memWf = true) : Plot.place ((s.launch p pins).plot p) =
    (.step 0, if (s.plot p).img.imported && !(s.plot p).tm.launched then (s.plot p).tm.pn else 0) := by
  unfold State.launch
  extract_lets imported k s0 s1 s2 s3 s4
  have h0 : Good (Kept.fused s s.pending) s0 := State.hwmReset_good _ _ (good_ite
    (State.startImported_good _ _ (Good.fused hm) rfl rfl)
    (State.loadInitial_good _ _ (State.forgetRun_good _ _ (Good.fused hm) rfl rfl) rfl rfl))
  have h1 : Good (Kept.fused s s.pending) s1 :=
    State.reloadData_good _ _ _ (State.applyPreLaunch_good _ _ _ h0 rfl rfl rfl rfl) rfl rfl
  have h2 : Good (Kept.fused s s.pending) s2 :=
    State.finalRefresh_good _ _ (State.sigRestartAll_good _ _ (State.onImg_good _ _ _ h1 rfl rfl))
  have h3 : Good (Kept.fused s s.pending) s3 := State.cmtStateSet_good _ _ _ (State.rnSet_good _ _ _
    (State.put_good _ _ _ _ _ (State.put_good _ _ _ _ _ h2)))
  have h4 : Good (Kept.fused s s.pending) s4 :=
    State.plotState_good _ _ _ _ _ (State.sampleGates_good _ _ _ (State.latchAll_good _ _ _ _ h3 rfl) rfl)
  have hm5 : ((s4.onTm p fun t => { t with turn := (0, 0) }).clockFrom p).memWf = true :=
    State.onPlot_memWf _ p _ (State.onPlot_memWf s4 p _ h4.mem)
  rw [State.launchPass, State.plot_finishAll (State.beginPass_memWf hm5)]
  exact Prod.ext (State.beginPass_place hm5).1 (State.beginPass_place hm5).2

theorem exec_launchStart (h : (s.plot p).id.startAt = some (ft, x, 0)) :
    exec (.launchStart p pins) s = .next ((s.waitUntil ft).launch p pins) := by
  show execLaunchStart p pins s = _
  rw [execLaunchStart, h]
  rfl

/-- A plot that resumes from a stop begins the pass that follows. -/
theorem State.resumePlot_place (hr : State.Reads Plot.course s t) :
    (t.resumePlot p).memWf = true ∧ Plot.place ((t.resumePlot p).plot p) = (.step 0, s.nextPass p) := by
  unfold State.resumePlot
  extract_lets s1
  have h1 : State.Reads Plot.course s s1 := State.Reads.still (hr.onTm fun _ => rfl) fun hk => State.cmtStateSet_good _ _ _ hk
  have hm : ((s1.onId p fun x => { x with startAt := none }).plotState p 2 0 []).memWf = true :=
    (State.plotState_good _ _ _ _ _ (Good.records (State.onPlot_memWf s1 p _ h1.mem))).mem
  rw [← h1.nextPass]
  exact ⟨State.beginPass_memWf hm, Prod.ext (State.beginPass_place hm).1 (State.beginPass_place hm).2⟩

theorem exec_tResumeStart (h : (s.plot p).id.startAt = some (ft, x, 1)) :
    exec (.tResumeStart p) s = .next ((((s.waitUntil ft).rnSet (Reg.PLT_FALLOW p) 0).resumePlot p).finishAll p
      (fun c => c.opc == 0x34 && c.stage == .blocked) Status.ok 0) := by
  show execTResumeStart p s = _
  rw [execTResumeStart, h]
  rfl

/-! ## RESUME_START (R198, R203) -/

/-- What decides the pass that ends a hold: the hold, its RESUME, and a stop that waited. -/
def Plot.resumption (x : Plot) : Option Hold × Option (Nat × Nat) × Bool := (x.cmt.hold, x.cmt.resume, x.cmt.stopNow)

section
variable {β : Type} {g : Plot → β}

theorem State.Reads.foldl {α : Type} {f : State → α → State} {l : List α} (h : State.Reads g s t)
    (hf : ∀ u a, State.Reads g s u → State.Reads g s (f u a)) : State.Reads g s (l.foldl f t) := by
  induction l generalizing t with
  | nil => exact h
  | cons a l ih => exact ih (hf t a h)

variable (hg : ∀ x l, g { x with cmt := { x.cmt with log := l } } = g x)
include hg

/-- The latch of inputs writes the log of the plots alone. -/
theorem State.Reads.latchAll (h : State.Reads g s t) : State.Reads g s (t.latchAll p n pins) := by
  refine State.Reads.still (h.foldl fun u q hu => ?_) fun hk => State.loadInputs_good _ _ hk
  have hi : State.Reads g s (u.fioInject p n q) := hu.still fun hk => State.fioInject_good _ _ _ _ hk
  unfold State.latchPort
  extract_lets v
  split
  · exact hi.still fun hk => State.onFio_good _ _ _ hk
  · split
    rename_i vals w hw
    refine State.Reads.onPlot (State.Reads.still (t := w) ?_ fun hk => State.onFio_good _ _ _ hk) fun _ => hg _ _
    split at hw
    · cases hw
      exact hi.still fun hk => State.bridgeDeliver_good _ _ _ _ hk
    · cases hw
      exact hi

theorem State.Reads.sampleGates (h : State.Reads g s t) : State.Reads g s (t.sampleGates p n) := by
  refine h.foldl fun u q hu => ?_
  dsimp only
  split
  · exact hu.still fun hk => good_upd hk
  · exact State.Reads.onPlot (hu.still fun hk => good_upd (good_ite (State.setBit_good _ _ _ hk) hk)) fun _ => hg _ _

end

/-- The plot stops at the end of a headland, and its stop is served. -/
theorem State.stopPlot_stands (hm : s.memWf = true) (hh : (s.plot p).cmt.hold = none) (hr : (s.plot p).cmt.resume = none) :
    ((s.stopPlot p).plot p).tm.phase = .stopped ∧ ((s.stopPlot p).plot p).cmt.hold = none ∧
      ((s.stopPlot p).plot p).cmt.resume = none := by
  unfold State.stopPlot
  extract_lets pn status s1
  have hm1 : s1.memWf = true := State.onPlot_memWf s p _ hm
  have h : State.HoldsOn s1 ((((s1.cmtStateSet p 0).finishRuns p status pn).plotState p 1 status []).serveStops p status pn
      (s.plot p).id.serving) := State.HoldsOn.serveStops (State.HoldsOn.still (State.HoldsOn.finishRuns
    ((State.HoldsOn.refl hm1).still fun hk => State.cmtStateSet_good _ _ _ hk)) fun hk => State.plotState_good _ _ _ _ _ hk)
  have hp : s1.plot p = _ := State.plot_onPlot_self hm
  have hx := h.plots p
  rw [hp] at hx
  exact ⟨hx.phase, hx.hold.trans hh, hx.resume hr⟩

/-- A pass that begins leaves the hold of its plot alone. -/
theorem State.beginPass_hold (hm : s.memWf = true) (hh : (s.plot p).cmt.hold = none) (hr : (s.plot p).cmt.resume = none) :
    ((s.beginPass p n).plot p).cmt.hold = none ∧ ((s.beginPass p n).plot p).cmt.resume = none := by
  unfold State.beginPass
  extract_lets s1
  have h : State.HoldsOn s1 ((((s1.recoveryDone p n).clearPass p).sigPassStart p n).askStretch p) :=
    State.HoldsOn.askStretch (State.HoldsOn.still (State.HoldsOn.recoveryDone (.refl (State.onPlot_memWf s p _ hm)))
      fun hk => State.sigPassStart_good _ _ _ (State.clearPass_good _ _ hk))
  have hp : s1.plot p = _ := State.plot_onPlot_self hm
  have hx := h.plots p
  rw [hp] at hx
  exact ⟨hx.hold.trans hh, hx.resume hr⟩

theorem State.resumePass_ends (hm : s.memWf = true) (hh : (s.plot p).cmt.hold = none) (hr : (s.plot p).cmt.resume = none) :
    ((s.resumePass p pass).plot p).cmt.hold = none ∧ ((s.resumePass p pass).plot p).cmt.resume = none ∧
      (if (s.plot p).cmt.stopNow then ((s.resumePass p pass).plot p).tm.phase = .stopped
        else ((s.resumePass p pass).plot p).tm.phase = .step 0 ∧ ((s.resumePass p pass).plot p).tm.pn = pass) := by
  unfold State.resumePass
  split
  · extract_lets top
    have hp : ∀ f, (s.onCmt p f).plot p = _ := fun _ => State.plot_onPlot_self hm
    obtain ⟨hph, hh', hr'⟩ := State.stopPlot_stands
      (s := s.onCmt p fun c => { c with discarded := some (pass, max pass (top - 1)) })
      (State.onPlot_memWf s p _ hm) (by rw [hp]; exact hh) (by rw [hp]; exact hr)
    exact ⟨hh', hr', hph⟩
  · have hm1 : (s.clockFrom p).memWf = true := State.onPlot_memWf s p _ hm
    have hp : (s.clockFrom p).plot p = _ := State.plot_onPlot_self hm
    obtain ⟨hh', hr'⟩ := State.beginPass_hold (p := p) (n := pass) hm1 (by rw [hp]; exact hh) (by rw [hp]; exact hr)
    exact ⟨hh', hr', State.beginPass_place hm1⟩

/-- The hold is over before its resume pass, and a stop that waited still waits. -/
theorem exec_resumeStart {h : Hold} (hm : s.memWf = true) (hh : (s.plot p).cmt.hold = some h)
    (hr : (s.plot p).cmt.resume = some (pass, ft)) :
    ∃ u : State, exec (.resumeStart p) s = .next (u.resumePass p pass) ∧ u.memWf = true ∧
      Plot.resumption (u.plot p) = (none, none, (s.plot p).cmt.stopNow) := by
  have h0 : Good (Kept.records s) ((s.waitUntil ft).holdRec p 2 h.action (if h.recovery then h.point else 0) pass) :=
    State.holdRec_good _ _ _ _ _ _ (State.waitUntil_good _ _ (Good.records hm))
  generalize hu : (State.onCmt ((s.waitUntil ft).holdRec p 2 h.action (if h.recovery then h.point else 0) pass) p fun c =>
    { c with hold := none, resume := none, recov := if h.recovery then c.recov ++ [(h.k, h.cmd.getD 0)] else c.recov }) = s2
  have hm2 : s2.memWf = true := hu ▸ State.onPlot_memWf _ p _ h0.mem
  have hp2 : Plot.resumption (s2.plot p) = (none, none, (s.plot p).cmt.stopNow) := by
    rw [← hu, State.onCmt, State.plot_onPlot_self h0.mem, State.plot_of_plots (h0.plots _ rfl)]
    rfl
  have h3 : State.Reads Plot.resumption s2 (s2.rnSet (Reg.PLT_REF_REMAIN p) (s2.refreshB p)) :=
    (State.Reads.refl hm2).still fun hk => State.rnSet_good _ _ _ hk
  generalize hu3 : s2.rnSet (Reg.PLT_REF_REMAIN p) (s2.refreshB p) = s3 at h3
  have h4 : State.Reads Plot.resumption s2 (if h.recovery then
      (s3.cmtStateSet p 5).putBit (Reg.PLT_CMT_STAT p) 7 (s3.suppressed p)
      else ((s3.cmtStateSet p 2).setBit (Reg.PLT_CMT_STAT p) 4).rnSet (Reg.PLT_RECOVER_LAST p) (s3.pauseUs p)) :=
    h3.still fun hk => good_ite (State.putBit_good _ _ _ _ (State.cmtStateSet_good _ _ _ hk))
      (State.rnSet_good _ _ _ (State.setBit_good _ _ _ (State.cmtStateSet_good _ _ _ hk)))
  generalize hu4 : (if h.recovery then _ else _) = s4 at h4
  have h5 : State.Reads Plot.resumption s2 (if h.recovery then (s4.latchAll p pass []).sampleGates p pass else s4) := by
    split
    · exact (h4.latchAll fun _ _ => rfl).sampleGates fun _ _ => rfl
    · exact h4
  refine ⟨_, ?_, h5.mem, (h5.same p).trans hp2⟩
  show execResumeStart p s = _
  rw [execResumeStart, hh, hr, ← hu4, ← hu3, ← hu]

/-! ## The time limit of a hold (R202) -/

theorem exec_holdTimeout {h : Hold} (hh : (s.plot p).cmt.hold = some h) (hr : (s.plot p).cmt.resume = none) :
    ∃ limit, exec (.holdTimeout p) s = .next ((s.waitUntil limit).recoveryFailed p) := by
  show ∃ limit, execHoldTimeout p s = .next ((s.waitUntil limit).recoveryFailed p)
  rw [execHoldTimeout, hh, hr]
  exact ⟨_, rfl⟩

/-! ## The work of a hold ends (R199-R203) -/

/-- The word of a device on a hold that goes on: the timetable stays. -/
theorem State.readyCheck_time {h : Hold} (hm : s.memWf = true) (hh : ((s.readyCheck p).plot p).cmt.hold = some h) :
    ((s.readyCheck p).plot p).tm = (s.plot p).tm := by
  unfold State.readyCheck at hh ⊢
  cases hs : (s.plot p).cmt.hold with
  | none => rfl
  | some h' =>
    rw [hs] at hh
    dsimp only at hh ⊢
    split at hh
    · rw [(State.recoveryFailed_plot hm).1] at hh
      cases hh
    · rename_i hany
      rw [if_neg hany]
      have hg : ∀ a b c d e, Good (Kept.times s) (s.floodCtl p a b c d e) := fun _ _ _ _ _ =>
        State.floodCtl_good _ _ _ _ _ _ _ (Good.times hm)
      split
      · exact (State.resumeAt_good _ _ _ _ (hg _ _ _ _ _) rfl).timeOf
      · rfl

section
variable {h : Hold} {f : Hold → Hold} {dev sub act st point : Nat} (hm : s.memWf = true) (hh : (s.plot p).cmt.hold = some h)
include hm hh

theorem State.plot_onHold : (s.onHold p f).plot p = { s.plot p with cmt := { (s.plot p).cmt with hold := some (f h) } } := by
  rw [State.onHold, State.onCmt, State.plot_onPlot_self hm, hh]
  rfl

/-- The device has sent its READY packet, and the hold goes on. -/
theorem State.sendReady_kept (hrd : (f h).ready = h.ready) (hpt : (f h).recovery = true → (f h).point = point)
    (hok : ∀ r ∈ h.ready, ((f h).recovery = true → r.2.1 = point) ∧ r.2.2 = false) :
    let v := ((s.onHold p f).floodCtl p sub act st point 0).holdReady p dev point false
    (v.plot p).cmt.hold = some ((f h).hears dev point false) ∧ (v.plot p).tm = (s.plot p).tm := by
  have hm1 : (s.onHold p f).memWf = true := State.onPlot_memWf s p _ hm
  have hg := State.floodCtl_good _ p sub act st point 0 (Good.records hm1)
  have hp := (State.plot_of_plots (hg.plots _ rfl)).trans (State.plot_onHold (f := f) hm hh)
  generalize (s.onHold p f).floodCtl p sub act st point 0 = u at hg hp
  have hu : (u.plot p).cmt.hold = some (f h) := by rw [hp]
  have hm2 : (u.onHold p fun h => h.hears dev point false).memWf = true := State.hears_memWf hg.mem
  have hp2 := State.plot_hears (dev := dev) (point := point) (failed := false) hg.mem hu
  have hready : ∀ r ∈ ((f h).hears dev point false).ready, ((f h).recovery = true → r.2.1 = point) ∧ r.2.2 = false := by
    intro r hr
    rcases List.mem_append.1 hr with hr | hr
    · exact hok r (hrd ▸ List.mem_of_mem_filter hr)
    · rw [List.mem_singleton.1 hr]
      exact ⟨fun _ => rfl, rfl⟩
  obtain ⟨hhold, -⟩ := State.readyCheck_ready hm2 (by rw [hp2]) (fun r hr => (hready r hr).2)
    fun hrec _ r hr => ((hready r hr).1 hrec).trans (hpt hrec).symm
  refine ⟨hhold, (State.readyCheck_time hm2 hhold).trans ?_⟩
  rw [hp2, hp]

/-- The device has reported a failure, and the hold is over. -/
theorem State.sendReady_failed :
    let v := ((s.onHold p f).floodCtl p sub act st n 0).holdReady p dev point true
    (v.plot p).tm.phase = .stopped ∧ (v.plot p).cmt.hold = none := by
  have hm1 : (s.onHold p f).memWf = true := State.onPlot_memWf s p _ hm
  have hg := State.floodCtl_good _ p sub act st n 0 (Good.records hm1)
  have hp := (State.plot_of_plots (hg.plots _ rfl)).trans (State.plot_onHold (f := f) hm hh)
  generalize (s.onHold p f).floodCtl p sub act st n 0 = u at hg hp
  have hp2 := State.plot_hears (dev := dev) (point := point) (failed := true) hg.mem (h := f h) (by rw [hp])
  exact (State.readyCheck_failed (State.hears_memWf hg.mem) (h := (f h).hears dev point true) (by rw [hp2])
    ⟨_, List.mem_append_right _ (List.mem_singleton_self _), rfl⟩).symm

end

/-- A device whose READY packet has gone out does the work of the hold no second time. -/
theorem exec_workDone_sent {h : Hold} {ok : Bool} (hh : (s.plot p).cmt.hold = some h) (hs : h.sent ≠ none) :
    exec (.healWorkDone p) s = .next s ∧ exec (.recoveryWorkDone p ok) s = .next s := by
  constructor
  · show execHealWorkDone p s = _
    rw [execHealWorkDone, hh]
    exact congrArg _ (if_pos (.inr hs))
  · show execRecoveryWorkDone p ok s = _
    rw [execRecoveryWorkDone, hh]
    exact congrArg _ (if_pos (.inr hs))

/-- Where the plot is in no hold, no event of a hold does anything. -/
theorem exec_holdEvents_of_no_hold {ok : Bool} (hh : (s.plot p).cmt.hold = none) :
    exec (.healWorkDone p) s = .next s ∧ exec (.recoveryWorkDone p ok) s = .next s ∧ exec (.holdTimeout p) s = .next s ∧
      exec (.resumeStart p) s = .next s := by
  refine ⟨?_, ?_, ?_, ?_⟩
  · show execHealWorkDone p s = _
    rw [execHealWorkDone, hh]
  · show execRecoveryWorkDone p ok s = _
    rw [execRecoveryWorkDone, hh]
  · show execHoldTimeout p s = _
    rw [execHoldTimeout, hh]
  · show execResumeStart p s = _
    rw [execResumeStart, hh]

/-! ## The heal hold (R199) -/

/-- The hold when its items have been rewritten, n of them. -/
def Hold.healed (h : Hold) (ft n : Nat) (bad : Bool) : Hold := { h with sent := some ft, action := min 255 n, failed := bad }

section
variable {h : Hold} {bad : Bool} (hh : (s.plot p).cmt.hold = some h)
include hh

theorem exec_healWorkDone (hrec : h.recovery = false) (hs : h.sent = none) (hb : (!s.ftLocked) = bad) :
    exec (.healWorkDone p) s = .next (((((s.lateApply p).healWork p h.k).2.onHold p fun h' =>
        h'.healed s.ftNs ((s.lateApply p).healWork p h.k).1 bad).floodCtl p 0x11
      (min 255 ((s.lateApply p).healWork p h.k).1) (b2n bad) h.k 0).holdReady p s.devId h.k bad) := by
  show execHealWorkDone p s = _
  rw [execHealWorkDone, hh]
  dsimp only
  rw [if_neg (by simp [hrec, hs]), hb]
  rfl

variable (hm : s.memWf = true)
include hm

theorem State.healWork_hold : ((s.lateApply p).healWork p k).2.memWf = true ∧
    (((s.lateApply p).healWork p k).2.plot p).cmt.hold = some h := by
  have hg := State.healWork_good _ p k (State.lateApply_good s p (Good.records hm))
  exact ⟨hg.mem, by rw [State.plot_of_plots (hg.plots _ rfl), hh]⟩

theorem exec_healWorkDone_ready (hrec : h.recovery = false) (hs : h.sent = none) (hl : s.ftLocked = true)
    (hok : ∀ r ∈ h.ready, r.2.2 = false) :
    ∃ t h', exec (.healWorkDone p) s = .next t ∧ (t.plot p).cmt.hold = some h' ∧ h'.sent = some s.ftNs ∧ h'.k = h.k ∧
      h'.action = min 255 ((s.lateApply p).healWork p h.k).1 ∧ (s.devId, h.k, false) ∈ h'.ready := by
  obtain ⟨hmw, hhw⟩ := State.healWork_hold (k := h.k) hh hm
  have hno : h.recovery ≠ true := Bool.eq_false_iff.1 hrec
  have hkept := (State.sendReady_kept (dev := s.devId) (sub := 0x11) (act := min 255 ((s.lateApply p).healWork p h.k).1)
    (st := b2n false) (point := h.k) (f := fun h' => h'.healed s.ftNs ((s.lateApply p).healWork p h.k).1 false) hmw hhw rfl
    (fun hr => absurd hr hno) fun r hr => ⟨fun hr => absurd hr hno, hok r hr⟩).1
  exact ⟨_, _, exec_healWorkDone hh hrec hs (by rw [hl]; rfl), hkept, rfl, rfl, rfl,
    List.mem_append_right _ (List.mem_singleton_self _)⟩

theorem exec_healWorkDone_unlocked (hrec : h.recovery = false) (hs : h.sent = none) (hl : s.ftLocked = false) :
    ∃ t, exec (.healWorkDone p) s = .next t ∧ (t.plot p).tm.phase = .stopped ∧ (t.plot p).cmt.hold = none := by
  obtain ⟨hmw, hhw⟩ := State.healWork_hold (k := h.k) hh hm
  exact ⟨_, exec_healWorkDone (bad := true) hh hrec hs (by rw [hl]; rfl), State.sendReady_failed hmw hhw⟩

end

/-! ## The recovery hold (R200, R201) -/

/-- The actions of a recovery on the passes charged: the state after them, their code, and whether they succeeded. -/
def State.actsOf (s : State) (p : Nat) (h : Hold) : State × Nat × Bool :=
  let cs := (s.plot p).cmt.charges.filter fun c => c.pn == h.k
  ((s.lateApply p).chargeRecs p cs).takeActions p cs h.lanes

/-- The work of a recovery has succeeded: that of the environment, `ok`, and that of the device. -/
def State.workGood (s : State) (p : Nat) (ok : Bool) (h : Hold) : Bool :=
  ok && (s.actsOf p h).2.2 && !h.failed && s.ftLocked && s.bit (Reg.PLT_CMT_CFG p) 4 && !s.slotsLost p

/-- The actions have been taken, and the stake of the recovery point is restored, with the other bank of the switch where
furrows were replaced. -/
def State.restored (s : State) (p : Nat) (h : Hold) (c : StakeCopy) : State :=
  let u := (s.actsOf p h).1.restoreStake p h.k c
  if (s.actsOf p h).2.1 = 1 then u.swapBanks p c.pn else u

/-- The hold whose work succeeded, and one whose work failed. -/
def Hold.recovered (h : Hold) (ft code point : Nat) (back : Option TakenBack) : Hold :=
  { h with sent := some ft, action := code, point := point, back := back }

def Hold.unrecovered (h : Hold) (ft code : Nat) : Hold := { h with sent := some ft, action := code, failed := true }

/-- The plot decides again from the pass of its recovery point. -/
theorem State.restoreStake_dpn {c : StakeCopy} : ((s.restoreStake p k c).plot p).tm.dpn = c.pn := by
  unfold State.restoreStake
  extract_lets n old newest s1 s2 s3 top last
  rw [State.plot_onPlot_same]
  intro hempty
  cases congrArg (fun x => x.cmt.kept) hempty

section
variable {h : Hold} {ok : Bool} {c : StakeCopy} (hh : (s.plot p).cmt.hold = some h)
include hh

theorem exec_recoveryWorkDone_restores (hrec : h.recovery = true) (hs : h.sent = none) (hgood : s.workGood p ok h = true)
    (hc : s.pointCopy p = some c) :
    exec (.recoveryWorkDone p ok) s = .next ((((s.restored p h c).onHold p fun h' => h'.recovered s.ftNs (s.actsOf p h).2.1 c.pn
        (if s.suppressed p then none else some ((s.actsOf p h).1.takenBack p c.pn))).floodCtl
      p 0x12 (s.actsOf p h).2.1 0 c.pn 0).holdReady p s.devId c.pn false) := by
  show execRecoveryWorkDone p ok s = _
  rw [execRecoveryWorkDone, hh]
  dsimp only
  rw [if_neg (by simp [hrec, hs])]
  simp only [State.workGood, State.restored, State.actsOf] at hgood ⊢
  rw [if_pos hgood, hc]
  rfl

theorem exec_recoveryWorkDone_fails (hrec : h.recovery = true) (hs : h.sent = none)
    (hbad : s.workGood p ok h = false ∨ s.pointCopy p = none) :
    exec (.recoveryWorkDone p ok) s = .next ((((s.actsOf p h).1.onHold p fun h' => h'.unrecovered s.ftNs
        (s.actsOf p h).2.1).floodCtl p 0x12 (s.actsOf p h).2.1 1 h.point 0).holdReady p s.devId h.point true) := by
  show execRecoveryWorkDone p ok s = _
  rw [execRecoveryWorkDone, hh]
  dsimp only
  rw [if_neg (by simp [hrec, hs])]
  simp only [State.workGood, State.actsOf] at hbad ⊢
  rcases hbad with hbad | hbad
  · rw [if_neg (Bool.eq_false_iff.1 hbad)]
    rfl
  · rw [hbad, ite_self]
    rfl

variable (hm : s.memWf = true)
include hm

theorem State.actsOf_hold : (s.actsOf p h).1.memWf = true ∧ ((s.actsOf p h).1.plot p).cmt.hold = some h := by
  have hg : Good (Kept.records s) (s.actsOf p h).1 :=
    State.takeActions_good _ _ _ _ (State.chargeRecs_good _ _ _ (State.lateApply_good s p (Good.records hm)))
  exact ⟨hg.mem, by rw [State.plot_of_plots (hg.plots _ rfl), hh]⟩

theorem State.restored_hold : (s.restored p h c).memWf = true ∧ ((s.restored p h c).plot p).cmt.hold = some h ∧
    ((s.restored p h c).plot p).tm.dpn = c.pn := by
  obtain ⟨hma, hha⟩ := State.actsOf_hold hh hm
  have hr : State.HoldsOn (s.actsOf p h).1 ((s.actsOf p h).1.restoreStake p h.k c) := (State.HoldsOn.refl hma).restoreStake
  have hg : Good (Kept.records ((s.actsOf p h).1.restoreStake p h.k c)) (s.restored p h c) :=
    good_ite (State.swapBanks_good _ _ _ (Good.records hr.mem)) (Good.records hr.mem)
  rw [State.plot_of_plots (hg.plots _ rfl)]
  exact ⟨hg.mem, hr.hold.trans hha, State.restoreStake_dpn⟩

/-- The READY packet of a recovery whose work succeeded (R201, R203). -/
theorem exec_recoveryWorkDone_ready (hrec : h.recovery = true) (hs : h.sent = none) (hgood : s.workGood p ok h = true)
    (hc : s.pointCopy p = some c) (hok : ∀ r ∈ h.ready, r.2.1 = c.pn ∧ r.2.2 = false) :
    ∃ t h', exec (.recoveryWorkDone p ok) s = .next t ∧ (t.plot p).cmt.hold = some h' ∧ h'.sent = some s.ftNs ∧
      h'.k = h.k ∧ h'.point = c.pn ∧ h'.action = (s.actsOf p h).2.1 ∧ (s.devId, c.pn, false) ∈ h'.ready ∧
      (t.plot p).tm.dpn = c.pn := by
  obtain ⟨hmr, hhr, hdpn⟩ := State.restored_hold (c := c) hh hm
  have he := exec_recoveryWorkDone_restores hh hrec hs hgood hc
  generalize (if s.suppressed p then none else some ((s.actsOf p h).1.takenBack p c.pn)) = back at he
  obtain ⟨hkept, htime⟩ := State.sendReady_kept (dev := s.devId) (sub := 0x12) (act := (s.actsOf p h).2.1) (st := 0)
    (point := c.pn) (f := fun h' => h'.recovered s.ftNs (s.actsOf p h).2.1 c.pn back) hmr hhr rfl (fun _ => rfl)
    fun r hr => ⟨fun _ => (hok r hr).1, (hok r hr).2⟩
  exact ⟨_, _, he, hkept, rfl, rfl, rfl, rfl, List.mem_append_right _ (List.mem_singleton_self _),
    (congrArg TimeSt.dpn htime).trans hdpn⟩

end

end

/-- Settles O11: a launch, a wake and a RESUME each end with a pass that begins (`State.beginPass_place`) or, for a stop that
waited, with the plot stopped (`State.stopPlot_stands`), and nothing on the way gives the plot a hold again
(`State.HoldsOn`). The work of a hold, whose checks leave the hold alone, ends with the device's READY packet, which keeps a
hold that has failed nowhere (`State.sendReady_kept`) and stops the plot of one that has (`State.sendReady_failed`). -/
theorem startsAndHoldsGoOn : Obligations.StartsAndHoldsGoOn := by
  refine ⟨fun s p pins hm => ⟨fun ft x h => ?_, fun ft x h => ?_, fun h pass ft hh hr => ?_⟩,
    fun s p ok hm => ⟨fun h hh hr => ?_, fun h hh hs => ?_, fun hh => ?_⟩,
    fun s p ok h hm hh hs => ⟨fun hrec => ⟨fun hl hok => ?_, fun hl => ?_⟩,
      fun hrec => ⟨fun c hgood hc hok => ?_, fun hbad => ?_⟩⟩⟩
  · have hplace := State.launch_place (p := p) (pins := pins) (State.waitUntil_memWf (n := ft) hm)
    rw [State.plot_waitUntil] at hplace
    exact ⟨_, exec_launchStart h, Prod.mk.inj hplace⟩
  · obtain ⟨hmr, hplace⟩ := State.resumePlot_place (p := p) (State.Reads.still (.refl hm) fun hk =>
      State.rnSet_good _ (Reg.PLT_FALLOW p) 0 (State.waitUntil_good _ ft hk))
    rw [← State.plot_finishAll hmr] at hplace
    exact ⟨_, exec_tResumeStart h, Prod.mk.inj hplace⟩
  · obtain ⟨u, he, hmu, hu⟩ := exec_resumeStart hm hh hr
    obtain ⟨hhold, hrest⟩ := Prod.mk.inj hu
    obtain ⟨hres, hstop⟩ := Prod.mk.inj hrest
    exact ⟨_, he, hstop ▸ State.resumePass_ends hmu hhold hres⟩
  · obtain ⟨limit, he⟩ := exec_holdTimeout hh hr
    exact ⟨_, he, (State.recoveryFailed_plot (State.waitUntil_memWf hm)).symm⟩
  · exact exec_workDone_sent hh hs
  · exact exec_holdEvents_of_no_hold hh
  · exact exec_healWorkDone_ready hh hm hrec hs hl hok
  · exact exec_healWorkDone_unlocked hh hm hrec hs hl
  · exact exec_recoveryWorkDone_ready hh hm hrec hs hgood hc hok
  · obtain ⟨hma, hha⟩ := State.actsOf_hold hh hm
    exact ⟨_, exec_recoveryWorkDone_fails hh hrec hs hbad, State.sendReady_failed hma hha⟩

end Sys2Proof.Machine

end

section

/-!
# What goes on beside the links

SUPPORT for the statements about lanes and ports: the conditions that a lane notes, the packets of link management, the loss of
a time parent, the end of a command and the passing of time leave alone the lanes and the ports, their registers and the plots
(R106-R108, R265, R274, R284).
-/

namespace Sys2Proof.Machine
open Sys2Proof

/-- The registers that the links are read by: those of the lanes and the ports, the conditions of the lanes, and the states of
the plots' images. -/
abbrev linkReg (a : Nat) : Prop := 0x50100 ≤ a ∧ a < 0x50200 ∨ 0x100000 ≤ a ∧ a ≤ 0x120000

section
variable {a : Nat} (h : linkReg a)
include h

theorem notedReg_of_linkReg : notedReg a = false := by
  have ht : ∀ b ∈ singleBlks, ∀ x ∈ [(b.first, 24), (b.merged, 1), (b.ovf, 1), (b.ptr, 12), (b.hist, 256)],
      x.1 + x.2 ≤ 0x50100 ∨ 0x50200 ≤ x.1 ∧ x.1 + x.2 ≤ 0x100000 ∨ 0x120000 < x.1 := by decide +kernel
  unfold linkReg at h
  simp only [notedReg, Bool.or_eq_false_iff, List.any_eq_false, Blk.notes, decide_eq_true_eq, Reg.CMD_INT_PEND,
    Reg.HVT_DEV_STAT, Reg.HVT_EVT_LOSS_CNT]
  refine ⟨decide_eq_false (by omega), fun b hm => ?_⟩
  have haway : ∀ x ∈ [(b.first, 24), (b.merged, 1), (b.ovf, 1), (b.ptr, 12), (b.hist, 256)], a < x.1 ∨ x.1 + x.2 ≤ a :=
    fun x hx => by have := ht b hm x hx; omega
  simp only [List.mem_cons, List.not_mem_nil, or_false, forall_eq_or_imp, forall_eq] at haway
  omega

theorem linkReg.ne {b : Nat} (hb : ¬ linkReg b) : a ≠ b := fun e => hb (e ▸ h)

theorem not_countsAt_ctrlDrop : ¬ countsAt (Reg.XCH_CNT 5) a :=
  not_countsAt_of_map (o := 0xd0008) (by decide +kernel) (linkReg.ne h (by decide)) (linkReg.ne h (by decide))

end

section
variable {κ s t : State} {q : Nat}

/-- What s and t differ in lies beside the links and the plots, and no time has gone back. -/
structure State.Aside (s t : State) : Prop where
  lnk : t.lnk = s.lnk
  plots : t.plots = s.plots
  rn : ∀ a, linkReg a → t.rn a = s.rn a
  wall : s.ft.wall ≤ t.ft.wall

theorem State.Aside.refl : State.Aside s s := ⟨rfl, rfl, fun _ _ => rfl, le_rfl⟩

theorem State.Aside.trans {u : State} (h : State.Aside s t) (g : State.Aside t u) : State.Aside s u :=
  ⟨g.lnk.trans h.lnk, g.plots.trans h.plots, fun a ha => (g.rn a ha).trans (h.rn a ha), h.wall.trans g.wall⟩

theorem State.Aside.ite {c : Prop} [Decidable c] (h : State.Aside κ s) (g : State.Aside κ t) :
    State.Aside κ (if c then s else t) := by
  split <;> assumption

/-- An operation that changes nothing that is named here. -/
theorem State.Aside.of_eq (h : State.Aside κ s) (hl : t.lnk = s.lnk) (hp : t.plots = s.plots) (hr : t.regs = s.regs)
    (hf : t.ft = s.ft) : State.Aside κ t :=
  h.trans ⟨hl, hp, fun _ _ => State.rn_of_regs hr, by rw [hf]⟩

/-- An operation that notes an event. -/
theorem State.Aside.note (h : State.Aside κ s) (hq : Quiet s t) (hr : ∀ a, linkReg a → t.rn a = s.rn a) : State.Aside κ t :=
  h.trans ⟨congrArg (a₁ := t.core) (a₂ := s.core) State.lnk hq, hq.plots, hr, by rw [hq.ft]⟩

theorem State.Aside.rgSet {a : Nat} {v : Word} (h : State.Aside κ s) (ha : ¬ linkReg a) : State.Aside κ (s.rgSet a v) :=
  h.note (State.rgSet_quiet s a v rfl) fun _ hb => congrArg BitVec.toNat (State.rg_rgSet_ne s a _ v (linkReg.ne hb ha))

theorem State.Aside.rnSet {a v : Nat} (h : State.Aside κ s) (ha : ¬ linkReg a) : State.Aside κ (s.rnSet a v) := h.rgSet ha

theorem State.Aside.put {a lo n v : Nat} (h : State.Aside κ s) (ha : ¬ linkReg a) : State.Aside κ (s.put a lo n v) :=
  h.rgSet ha

theorem State.Aside.record {rtype len pn : Nat} {plot : Option Nat} {body : List Nat} (h : State.Aside κ s) :
    State.Aside κ (s.record rtype len plot pn body) :=
  h.note (State.record_quiet s rtype len plot pn body rfl) fun _ ha => State.rn_record (notedReg_of_linkReg ha)

theorem State.Aside.condition {block stat i : Nat} (h : State.Aside κ s) (ha : ¬ linkReg stat) :
    State.Aside κ (s.condition block stat i) :=
  h.note (State.condition_quiet s block stat i rfl) fun _ hb =>
    (State.rn_devInt (linkReg.ne hb (by decide))).trans (State.rn_setBit_ne _ _ _ _ (linkReg.ne hb ha))

/-- A condition of a lane is noted beside the links but for its bit (R272). -/
theorem State.aside_raiseLnk {i cause : Nat} : State.Aside (s.setBit Reg.LNK_EVT cause) (s.raiseLnk q i cause) := by
  have hq := State.raiseLnk_quiet s q i cause rfl
  exact ⟨congrArg (a₁ := (s.raiseLnk q i cause).core) (a₂ := s.core) State.lnk hq, hq.plots,
    fun _ ha => State.rn_raise (notedReg_of_linkReg ha) (by decide), by rw [hq.ft, State.setBit_ft]⟩

/-! ## Field Time (R274, R281, R284) -/

theorem State.Aside.ft {x : FtSt} (h : State.Aside κ s) (hw : s.ft.wall ≤ x.wall) : State.Aside κ { s with ft := x } :=
  h.trans ⟨rfl, rfl, fun _ _ => rfl, hw⟩

theorem State.Aside.setAdj {want : Int} (h : State.Aside κ s) : State.Aside κ (s.setAdj want) := by
  unfold State.setAdj
  have hr : State.Aside κ (s.rgSet Reg.FT_ADJ (BitVec.ofInt 32 (clampAdj want))) := h.rgSet (by decide)
  exact hr.ite (hr.condition (by decide))

theorem State.Aside.phaseEnds (h : State.Aside κ s) : State.Aside κ s.phaseEnds := State.Aside.setAdj (h.ft le_rfl)

theorem State.Aside.onSync {f : SyncPort → SyncPort} (h : State.Aside κ s) : State.Aside κ (s.onSync q f) := h.ft le_rfl

theorem State.Aside.waitSteps {n : Nat} (h : State.Aside κ s) : State.Aside κ (s.waitSteps n) := by
  refine State.Aside.ite (h.trans ⟨State.tickSteps_lnk s _, State.tickSteps_plots s _, fun a ha => ?_, ?_⟩) h
  · exact State.rn_tickSteps (linkReg.ne ha (by decide)) (linkReg.ne ha (by decide)) (linkReg.ne ha (by decide))
  · rw [State.tickSteps_wall]
    exact Nat.le_add_right _ _

theorem State.waitSteps_reaches (s : State) (n : Nat) : n ≤ (s.waitSteps n).ft.wall := by
  unfold State.waitSteps
  split
  · rw [State.tickSteps_wall]
    omega
  · omega

theorem State.Aside.ftStateSet {v : Nat} (h : State.Aside κ s) : State.Aside κ (s.ftStateSet v) := h.put (by decide)

theorem State.Aside.recount (h : State.Aside κ s) : State.Aside κ s.recount := h.ft le_rfl

theorem State.Aside.choose {gmid port : Nat} (h : State.Aside κ s) : State.Aside κ (s.choose gmid port) := by
  have h1 : State.Aside κ { s with ft := { s.ft with chosen := some (gmid, port) } } := h.ft le_rfl
  unfold State.choose
  exact h1.ite (h1.condition (by decide)).record

theorem State.Aside.discipline (h : State.Aside κ s) : State.Aside κ s.discipline := by
  unfold State.discipline
  refine State.Aside.ite (State.Aside.ftStateSet (h.ft le_rfl)) (h.ite (State.Aside.ftStateSet (State.Aside.recount ?_)))
  exact h.ft le_rfl

theorem State.Aside.noGm (h : State.Aside κ s) : State.Aside κ s.noGm := by
  have h1 : State.Aside κ ((s.put Reg.FT_STAT 8 8 255).clrBit Reg.FT_STAT 23) := (h.put (by decide)).put (by decide)
  have h2 := h1.ft (x := { ((s.put Reg.FT_STAT 8 8 255).clrBit Reg.FT_STAT 23).ft with disciplined := false }) le_rfl
  unfold State.noGm
  exact h2.ite (State.Aside.rnSet (State.Aside.ftStateSet (h2.ft le_rfl)) (by decide))

theorem State.Aside.selfGm {gm : Nat} (h : State.Aside κ s) : State.Aside κ (s.selfGm gm) := by
  unfold State.selfGm
  refine State.Aside.discipline (State.Aside.rnSet (h.ite ?_) (by decide))
  exact State.Aside.put (State.Aside.put (State.Aside.choose (h.ft le_rfl)) (by decide)) (by decide)

theorem State.Aside.takeParent {gm hops port : Nat} (h : State.Aside κ s) : State.Aside κ (s.takeParent gm hops port) := by
  have h2 : State.Aside κ ((((s.choose (gm % 2 ^ 24) port).put Reg.FT_STAT 24 4 port).setBit Reg.FT_STAT 23).ftStateSet 1) :=
    ((h.choose.put (by decide)).put (by decide)).ftStateSet
  unfold State.takeParent
  exact State.Aside.put (State.Aside.rnSet (h.ite (State.Aside.recount (h2.ft le_rfl))) (by decide)) (by decide)

theorem State.Aside.chooseGm (h : State.Aside κ s) : State.Aside κ s.chooseGm := by
  unfold State.chooseGm
  split
  · exact h.noGm
  · exact h.selfGm.ite h.takeParent

theorem State.Aside.parentLost (h : State.Aside κ s) : State.Aside κ s.parentLost := by
  have h1 : State.Aside κ ((s.condition Block.ft Reg.FT_STAT 20).clrBit Reg.FT_STAT 23) :=
    (h.condition (by decide)).put (by decide)
  exact State.Aside.chooseGm (State.Aside.put h1.onSync.phaseEnds.ftStateSet (by decide))

/-- A port leaves UP: its bit is cleared, and what the loss of a time parent brings lies beside the links (R284). -/
theorem State.aside_portLeavesUp : State.Aside (s.clrBit (Reg.LNK_PORT_STAT q) 31) (s.portLeavesUp q) := by
  have h : State.Aside (s.clrBit (Reg.LNK_PORT_STAT q) 31) (s.clrBit (Reg.LNK_PORT_STAT q) 31) := .refl
  unfold State.portLeavesUp
  exact h.parentLost.ite h

/-! ## Packets and commands -/

theorem State.Aside.ctrlQueue {ptype : Nat} {ws : List Word} (h : State.Aside κ s) :
    State.Aside κ (s.ctrlQueue q ptype ws) := by
  have hr : Quiet s (s.raiseXch 7 q 0 0 (s.portPlot q) (s.portPn q)) := State.raiseXch_quiet s _ _ _ _ _ _ rfl
  refine State.Aside.ite (h.of_eq rfl rfl rfl rfl) (h.note (State.count_quiet _ _ hr) fun a ha => ?_)
  rw [State.rn_count (not_countsAt_ctrlDrop ha), State.raiseXch,
    State.rn_raise_ne (notedReg_of_linkReg ha) (by decide) (linkReg.ne ha (by decide))]

theorem State.Aside.sendMgmt {sub lane st pn level : Nat} (h : State.Aside κ s) :
    State.Aside κ (s.sendMgmt q sub lane st pn level) :=
  State.Aside.ctrlQueue (h.of_eq (t := s.nextSeq.2) rfl rfl rfl rfl)

theorem State.Aside.finish {id st r : Nat} (h : State.Aside κ s) : State.Aside κ (s.finish id st r) :=
  h.of_eq (State.finish_lnk s id st r) (State.finish_plots s id st r) (State.finish_regs s id st r) (State.finish_ft s id st r)

theorem State.Aside.blockCmd {id : Nat} (h : State.Aside κ s) : State.Aside κ (s.blockCmd id) :=
  h.of_eq (State.blockCmd_lnk s id) (State.blockCmd_plots s id) (State.blockCmd_regs s id) (State.blockCmd_ft s id)

/-! ## What is read from the links -/

section
variable (h : State.Aside s t)
include h

theorem State.Aside.lane {i : Nat} : t.lane q i = s.lane q i := by rw [State.lane, State.lane, h.lnk]

theorem State.Aside.port : t.port q = s.port q := by rw [State.port, State.port, h.lnk]

theorem State.Aside.bit {a j : Nat} (ha : linkReg a) : t.bit a j = s.bit a j := by rw [State.bit, State.bit, h.rn a ha]

theorem State.Aside.fld {a lo n : Nat} (ha : linkReg a) : t.fld a lo n = s.fld a lo n := by
  rw [State.fld, State.fld, h.rn a ha]

end

end

end Sys2Proof.Machine

end

section

/-!
# The lanes of a port

SUPPORT for the statements about lanes and ports: what the operations of training do to each lane of a port with its status
register, to the port's record, and to the other registers of the links (R247-R262).
-/

namespace Sys2Proof.Machine
open Sys2Proof

/-- A register word with one field replaced. -/
def wordPut (x lo n v : Nat) : Nat := putFld x lo n v % 2 ^ 32

section
variable {x lo n v j : Nat}

theorem wordPut_testBit (hj : j < 32) :
    (wordPut x lo n v).testBit j = if lo ≤ j ∧ j < lo + n then v.testBit (j - lo) else x.testBit j := by
  rw [wordPut, Nat.testBit_mod_two_pow, putFld_testBit, decide_eq_true hj, Bool.true_and]

theorem wordPut_testBit_apart (hj : j < 32) (h : j < lo ∨ lo + n ≤ j) : (wordPut x lo n v).testBit j = x.testBit j := by
  rw [wordPut_testBit hj, if_neg (by omega)]

theorem nfld_testBit {lo n : Nat} : (nfld x lo n).testBit j = (decide (j < n) && x.testBit (lo + j)) := by
  rw [nfld, Nat.testBit_mod_two_pow, Nat.testBit_shiftRight]

theorem nfld_wordPut_same (hl : lo + n ≤ 32) : nfld (wordPut x lo n v) lo n = v % 2 ^ n := by
  refine Nat.eq_of_testBit_eq fun j => ?_
  rw [nfld_testBit, Nat.testBit_mod_two_pow]
  by_cases hj : j < n
  · rw [wordPut_testBit (by omega), if_pos (by omega), Nat.add_sub_cancel_left]
  · rw [decide_eq_false hj, Bool.false_and, Bool.false_and]

theorem nfld_wordPut_apart {lo' n' : Nat} (hl : lo' + n' ≤ 32) (h : lo' + n' ≤ lo ∨ lo + n ≤ lo') :
    nfld (wordPut x lo n v) lo' n' = nfld x lo' n' := by
  refine Nat.eq_of_testBit_eq fun j => ?_
  rw [nfld_testBit, nfld_testBit]
  by_cases hj : j < n'
  · rw [wordPut_testBit_apart (by omega) (by omega)]
  · rw [decide_eq_false hj, Bool.false_and, Bool.false_and]

end

theorem State.rn_put_same {s : State} {a lo n v : Nat} (hm : s.memWf = true) :
    (s.put a lo n v).rn a = wordPut (s.rn a) lo n v :=
  State.rn_rnSet_same s a _ hm

theorem State.put_memWf {s : State} {a lo n v : Nat} (hm : s.memWf = true) : (s.put a lo n v).memWf = true :=
  State.rnSet_memWf hm

theorem State.onLane_memWf {s : State} {q i : Nat} {f : Lane → Lane} (hm : s.memWf = true) : (s.onLane q i f).memWf = true :=
  (State.onLane_good s q i f (Good.all s hm)).mem

theorem State.onPort_memWf {s : State} {q : Nat} {f : Port → Port} (hm : s.memWf = true) : (s.onPort q f).memWf = true :=
  (State.onPort_good s q f (Good.all s hm)).mem

/-- A lane of a port, and its LNK_LANE_STAT. -/
abbrev LaneAt : Type := Lane × Nat

def State.laneAt (s : State) (q j : Nat) : LaneAt := (s.lane q j, s.rn (Reg.LNK_LANE_STAT q j))

/-- From s to t the lanes of port q change by F and the port by P, the other registers of the links that R names do not
change, nor do the plots, and no time goes back. -/
structure State.Links (q : Nat) (R : Nat → Prop) (F : Nat → LaneAt → LaneAt) (P : Port → Port) (s t : State) : Prop where
  mem : t.memWf = true
  lanes : ∀ j, j < 9 → t.laneAt q j = F j (s.laneAt q j)
  port : t.port q = P (s.port q)
  rn : ∀ a, linkReg a → a % 0x200 ≠ 4 → R a → t.rn a = s.rn a
  plots : t.plots = s.plots
  wall : s.ft.wall ≤ t.ft.wall

/-- The lanes stay as they are. -/
abbrev asIs {α : Type} (_ : Nat) (x : α) : α := x

/-- Change lane i alone. -/
def atLane (i : Nat) (g : LaneAt → LaneAt) (j : Nat) (x : LaneAt) : LaneAt := if j = i then g x else x

section
variable {q i : Nat} {R : Nat → Prop} {F G : Nat → LaneAt → LaneAt} {P Q : Port → Port} {s t u : State}

theorem State.Links.refl (hm : s.memWf = true) : State.Links q R asIs id s s :=
  ⟨hm, fun _ _ => rfl, rfl, fun _ _ _ _ => rfl, rfl, le_rfl⟩

theorem State.Links.trans (h : State.Links q R F P s t) (g : State.Links q R G Q t u) :
    State.Links q R (fun j x => G j (F j x)) (fun x => Q (P x)) s u :=
  ⟨g.mem, fun j hj => by rw [g.lanes j hj, h.lanes j hj], by rw [g.port, h.port],
    fun a ha hn hr => (g.rn a ha hn hr).trans (h.rn a ha hn hr), g.plots.trans h.plots, h.wall.trans g.wall⟩

/-- One more operation on a state in form. -/
theorem State.Links.andThen (h : State.Links q R F P s t) (g : t.memWf = true → State.Links q R G Q t u) :
    State.Links q R (fun j x => G j (F j x)) (fun x => Q (P x)) s u := h.trans (g h.mem)

/-- What the lanes and the port become need only be right for those of s. -/
theorem State.Links.congr (h : State.Links q R F P s t) (hF : ∀ j, j < 9 → F j (s.laneAt q j) = G j (s.laneAt q j))
    (hP : P (s.port q) = Q (s.port q)) : State.Links q R G Q s t :=
  ⟨h.mem, fun j hj => (h.lanes j hj).trans (hF j hj), h.port.trans hP, h.rn, h.plots, h.wall⟩

/-- An operation beside the links. -/
theorem State.Aside.links (hq : q < 16) (hm : t.memWf = true) (h : State.Aside s t) : State.Links q R asIs id s t := by
  refine ⟨hm, fun j hj => ?_, h.port, fun a ha _ _ => h.rn a ha, h.plots, h.wall⟩
  rw [State.laneAt, State.laneAt, h.lane, h.rn _ (by unfold Reg.LNK_LANE_STAT linkReg; omega), asIs]

variable (hm : s.memWf = true)
include hm

/-- A write of a register of the links that is no lane's status. -/
theorem State.links_rnSet {a v : Nat} (ha : a % 0x200 ≠ 4) (hR : ¬ R a) : State.Links q R asIs id s (s.rnSet a v) := by
  refine ⟨State.rnSet_memWf hm, fun j _ => ?_, rfl, fun b _ _ hb => State.rn_rnSet_ne s a b _ fun e => hR (e ▸ hb),
    State.rgSet_plots s a _, le_rfl⟩
  rw [State.laneAt, State.laneAt, State.rn_rnSet_ne _ _ _ _ (by unfold Reg.LNK_LANE_STAT; omega)]
  rfl

theorem State.links_put {a lo n v : Nat} (ha : a % 0x200 ≠ 4) (hR : ¬ R a) : State.Links q R asIs id s (s.put a lo n v) :=
  State.links_rnSet hm ha hR

/-- A field of a lane's status is replaced. -/
theorem State.links_stat {lo n v : Nat} :
    State.Links q R (atLane i fun x => (x.1, wordPut x.2 lo n v)) id s (s.put (Reg.LNK_LANE_STAT q i) lo n v) := by
  refine ⟨State.put_memWf hm, fun j hj => ?_, rfl, fun a _ hn _ => State.rn_put_ne s _ a _ _ _ ?_, State.rgSet_plots s _ _,
    le_rfl⟩
  · rw [atLane]
    split
    next e => rw [e, State.laneAt, State.rn_put_same hm]; rfl
    next e => rw [State.laneAt, State.rn_put_ne _ _ _ _ _ _ (by unfold Reg.LNK_LANE_STAT; omega)]; rfl
  · unfold Reg.LNK_LANE_STAT
    omega

theorem State.links_onLane {f : Lane → Lane} :
    State.Links q R (atLane i fun x => (f x.1, x.2)) id s (s.onLane q i f) := by
  refine ⟨State.onLane_memWf hm, fun j _ => ?_, rfl, fun _ _ _ _ => rfl, rfl, le_rfl⟩
  rw [State.laneAt, State.lane_onLane s q i q j f hm, atLane]
  split
  next e => rw [if_pos (by omega), show j = i by omega]; rfl
  next e => rw [if_neg (by omega)]; rfl

theorem State.links_onPort {f : Port → Port} : State.Links q R asIs f s (s.onPort q f) :=
  ⟨State.onPort_memWf hm, fun _ _ => rfl, (State.port_onPort s q q f hm).trans (if_pos rfl), fun _ _ _ _ => rfl, rfl, le_rfl⟩

end

section
variable {q i : Nat} {R : Nat → Prop} {s : State}

/-- An operation done lane by lane. -/
theorem State.links_foldl {g : State → Nat → State} {G : LaneAt → LaneAt} {l : List Nat}
    (hg : ∀ i ∈ l, ∀ s : State, s.memWf = true → State.Links q R (atLane i G) id s (g s i)) (hl : l.Nodup)
    (hm : s.memWf = true) : State.Links q R (fun j x => if j ∈ l then G x else x) id s (l.foldl g s) := by
  induction l generalizing s with
  | nil => exact (State.Links.refl hm).congr (fun j _ => (if_neg List.not_mem_nil).symm) rfl
  | cons a l ih =>
    have h := hg a List.mem_cons_self s hm
    have hn := List.nodup_cons.1 hl
    refine (h.trans (ih (fun i hi => hg i (List.mem_cons_of_mem a hi)) hn.2 h.mem)).congr (fun j _ => ?_) rfl
    rw [atLane]
    by_cases e : j = a
    · rw [if_pos e, if_neg (e ▸ hn.1), if_pos (e ▸ List.mem_cons_self)]
    · rw [if_neg e, if_congr (List.mem_cons.trans (or_iff_right e)).symm rfl rfl]

theorem mem_laneIds {j : Nat} : j ∈ laneIds ↔ j < 9 := by rw [laneIds, mem_natsFrom]; omega

theorem laneIds_nodup : laneIds.Nodup := by decide

theorem State.mem_seqLanes {j : Nat} : j ∈ s.seqLanes q ↔ j < 9 ∧ (s.lane q j).inSeq = true := by
  rw [State.seqLanes, List.mem_filter, mem_laneIds]

theorem State.mem_trainable {j : Nat} {b : Bool} :
    j ∈ s.trainable q b ↔ j < 9 ∧ s.laneState q j ≠ 7 ∧ (b = true ∨ s.laneState q j ≠ 9) := by
  simp [State.trainable, mem_laneIds]

theorem State.seqLanes_nodup : (s.seqLanes q).Nodup := laneIds_nodup.filter _

theorem State.trainable_nodup {b : Bool} : (s.trainable q b).Nodup := laneIds_nodup.filter _

end

/-! ## A lane in the operations of training -/

/-- A lane in another state, its record changed. -/
def laneTo (v : LaneAt → Nat) (f : Lane → Lane) (x : LaneAt) : LaneAt := (f x.1, wordPut x.2 28 4 (v x))

/-- What a change does to the lanes that take part. -/
def inSeqOnly (g : LaneAt → LaneAt) (x : LaneAt) : LaneAt := if x.1.inSeq then g x else x

/-- A lane is out of the training. -/
def Lane.left (l : Lane) : Lane := { l with inSeq := false, joined := false }

/-- A lane begins a phase. -/
def Lane.begun (phase : Nat) (l : Lane) : Lane :=
  { l with passed := false, settle := 2, compared := 0, matchCnt := 0, ident := if phase = 3 then none else l.ident,
           arrival := [] }

/-- A lane joins a training that starts with a phase. -/
def Lane.entered (phase : Nat) (l : Lane) : Lane :=
  { l with inSeq := true, joined := false, cdr := l.cdr && phase != 1, bound := 0, marks := false, marker := 0, markers := 0,
           sinceMarker := 0 }

/-- The lanes of the training in progress leave it. -/
def laneEnded : LaneAt → LaneAt := inSeqOnly (laneTo (fun x => if x.1.joined then 6 else 0) Lane.left)

/-- The lanes that take part begin a phase. -/
def laneBegun (phase : Nat) : LaneAt → LaneAt := inSeqOnly (laneTo (fun _ => phase) (Lane.begun phase))

/-- A lane in a training that starts. -/
def laneStarted (phase : Nat) (x : LaneAt) : LaneAt :=
  (Lane.begun phase (Lane.entered phase x.1), wordPut (wordPut x.2 25 3 0) 28 4 phase)

theorem laneEnded_inSeq (x : LaneAt) : (laneEnded x).1.inSeq = false := by
  rw [laneEnded, inSeqOnly]
  split
  · rfl
  next h => exact Bool.eq_false_of_not_eq_true h

theorem laneBegun_of_in {phase : Nat} {x : LaneAt} (h : x.1.inSeq = true) :
    laneBegun phase x = (Lane.begun phase x.1, wordPut x.2 28 4 phase) := by
  rw [laneBegun, inSeqOnly, if_pos h, laneTo]

theorem laneBegun_of_out {phase : Nat} {x : LaneAt} (h : x.1.inSeq = false) : laneBegun phase x = x := by
  rw [laneBegun, inSeqOnly, h, if_neg Bool.false_ne_true]

/-- A port begins a phase at a step of the wall clock. -/
def Port.begun (phase wall : Nat) (x : Port) : Port :=
  { x with phase := phase, since := wall, arr := if phase = 5 then 0 else x.arr, measured := 0, pingAt := none,
           echoFor := none }

section
variable {q i : Nat} {R : Nat → Prop} {s : State} (hm : s.memWf = true)
include hm

/-- A lane takes a state on with a change of its record. -/
theorem State.links_laneTo {v : LaneAt → Nat} {f : Lane → Lane} :
    State.Links q R (atLane i (laneTo v f)) id s ((s.onLane q i f).laneStateSet q i (v (s.laneAt q i))) := by
  have h := State.links_onLane (i := i) (q := q) (R := R) (f := f) hm
  refine (h.trans (State.links_stat (i := i) (lo := 28) (n := 4) (v := v (s.laneAt q i)) h.mem)).congr (fun j _ => ?_) rfl
  simp only [atLane]
  split
  next e => rw [e]; rfl
  next => rfl

theorem State.links_leaveSeq : State.Links q R (atLane i (laneTo (fun _ => 0) Lane.left)) id s (s.leaveSeq q i) :=
  State.links_laneTo hm

theorem State.links_endSeq : State.Links q R (fun _ => laneEnded) id s (s.endSeq q) := by
  have hf := State.links_foldl (q := q) (R := R) (G := laneTo (fun x => if x.1.joined then 6 else 0) Lane.left)
    (g := fun s i => (s.onLane q i Lane.left).laneStateSet q i (if (s.lane q i).joined then 6 else 0)) (l := s.seqLanes q)
    (fun _ _ _ hm => State.links_laneTo hm) State.seqLanes_nodup hm
  exact hf.congr (fun j hj => if_congr (State.mem_seqLanes.trans (and_iff_right hj)) rfl rfl) rfl

theorem State.links_beginPhase {phase : Nat} :
    State.Links q R (fun _ => laneBegun phase) (Port.begun phase s.ft.wall) s (s.beginPhase q phase) := by
  have hf := State.links_foldl (q := q) (R := R) (G := laneTo (fun _ => phase) (Lane.begun phase))
    (g := fun s i => (s.onLane q i (Lane.begun phase)).laneStateSet q i phase) (l := s.seqLanes q)
    (fun _ _ _ hm => State.links_laneTo hm) State.seqLanes_nodup hm
  exact (hf.trans (State.links_onPort (f := Port.begun phase s.ft.wall) hf.mem)).congr
    (fun j hj => if_congr (State.mem_seqLanes.trans (and_iff_right hj)) rfl rfl) rfl

theorem State.links_setXch {x : XchMem} : State.Links q R asIs id s { s with xch := x } :=
  ⟨hm, fun _ _ => rfl, rfl, fun _ _ _ _ => rfl, rfl, le_rfl⟩

/-- The lanes of a list start training, and those that were in the one before leave it (R247, R260). -/
theorem State.links_startTrain {l : List Nat} {phase : Nat} {f : Port → Port} (hl : l.Nodup) :
    ∃ w, State.Links q R (fun j x => if j ∈ l then laneStarted phase (laneEnded x) else laneEnded x)
      (fun x => Port.begun phase w (f x)) s (s.startTrain q l phase f) := by
  have h0 := State.links_endSeq (q := q) (R := R) hm
  have h1 := State.links_foldl (q := q) (R := R) (G := fun x => (Lane.entered phase x.1, x.2))
    (g := fun s i => s.onLane q i (Lane.entered phase)) (l := l)
    (fun _ _ _ hm => State.links_onLane hm) hl h0.mem
  have h2 := State.links_foldl (q := q) (R := R) (G := fun x => (x.1, wordPut x.2 25 3 0))
    (g := fun s i => s.put (Reg.LNK_LANE_STAT q i) 25 3 0) (l := l)
    (fun _ _ _ hm => State.links_stat hm) hl h1.mem
  have h3 := State.links_onPort (q := q) (R := R) (f := f) h2.mem
  have h : State.Links q R _ _ s (s.startTrain q l phase f) :=
    ((((h0.trans h1).trans h2).trans h3).andThen fun hm => State.links_setXch hm).andThen fun hm => State.links_beginPhase hm
  refine ⟨_, h.congr (fun j hj => ?_) rfl⟩
  simp only [asIs]
  split
  · exact laneBegun_of_in rfl
  · exact laneBegun_of_out (laneEnded_inSeq _)

end

end Sys2Proof.Machine

end

section

/-!
# Trainings that end, and ports on which no lane is to be spared

SUPPORT for the statements about lanes and ports: the end of a training, the maps of a port with a lane that has failed, and a
port on which firmware has no DEGRADED lane to spare: there a training that fails ends with its code and its command, and a lane
in test mode stays in it whatever becomes of the training (R247, R256, R258, R261, R262, R267).
-/

namespace Sys2Proof.Machine
open Sys2Proof

/-- A port that does not train. -/
def Port.idle (x : Port) : Port := { x with phase := 0, cmd := 0, sparing := 0, only := 0, ackDue := false }

theorem State.finish_memWf {s : State} {id st r : Nat} (hm : s.memWf = true) : (s.finish id st r).memWf = true :=
  (State.finish_good s id st r (Good.records hm) rfl).mem

section
variable {q i : Nat} {R : Nat → Prop} {F : Nat → LaneAt → LaneAt} {P : Port → Port} {κ s t : State}

theorem State.Links.ite {c : Prop} [Decidable c] (h : State.Links q R F P κ s) (g : State.Links q R F P κ t) :
    State.Links q R F P κ (if c then s else t) := by
  split <;> assumption

variable (hq : q < 16) (hm : s.memWf = true)
include hq hm

theorem State.links_sendMgmt {sub lane st pn level : Nat} :
    State.Links q R asIs id s (s.sendMgmt q sub lane st pn level) :=
  State.Aside.refl.sendMgmt.links hq (State.sendMgmt_good s q sub lane st pn level (Good.all s hm)).mem

theorem State.links_finish {id' st r : Nat} : State.Links q R asIs id s (s.finish id' st r) :=
  State.Aside.refl.finish.links hq (State.finish_memWf hm)

theorem State.links_raiseLnk {lane cause : Nat} (hR : ¬ R Reg.LNK_EVT) :
    State.Links q R asIs id s (s.raiseLnk q lane cause) :=
  (State.links_put hm (by decide) hR).trans
    (State.aside_raiseLnk.links hq (State.raiseLnk_good s q lane cause (Good.all s hm)).mem)

omit hq in
theorem State.links_portStat {lo n v : Nat} (hR : ¬ R (Reg.LNK_PORT_STAT q)) :
    State.Links q R asIs id s (s.put (Reg.LNK_PORT_STAT q) lo n v) :=
  State.links_put hm (by unfold Reg.LNK_PORT_STAT; omega) hR

theorem State.links_portLeavesUp (hR : ¬ R (Reg.LNK_PORT_STAT q)) : State.Links q R asIs id s (s.portLeavesUp q) :=
  (State.links_portStat hm hR).trans (State.aside_portLeavesUp.links hq (State.portLeavesUp_good s q (Good.all s hm)).mem)

/-- A training ends: its lanes leave it and the port is idle (R247). -/
theorem State.links_endTraining (hR : ¬ R (Reg.LNK_PORT_STAT q)) :
    State.Links q R (fun _ => laneEnded) Port.idle s (s.endTraining q) := by
  have h1 : State.Links q R _ _ s (s.endSeq q) := State.links_endSeq hm
  have h2 := h1.andThen fun hm => State.Links.ite (c := (s.endSeq q).eightUp q = true)
    (State.links_portStat (lo := 31) (n := 1) (v := 1) hm hR) (State.links_portLeavesUp hq hm hR)
  have h3 := h2.andThen fun hm => State.links_onPort (f := Port.idle) hm
  exact State.Links.ite (h3.andThen fun hm => State.links_sendMgmt hq hm) h3

omit hq in
/-- The spare takes the place of a lane that has failed by the port's maps and its status (R262). -/
theorem State.links_replaceFailed (hR : ∀ a ∈ [Reg.LNK_PORT_TXMAP q, Reg.LNK_PORT_RXMAP q, Reg.LNK_PORT_STAT q], ¬ R a) :
    State.Links q R asIs id s (s.replaceFailed q) := by
  simp only [List.mem_cons, List.not_mem_nil, or_false, forall_eq_or_imp, forall_eq] at hR
  obtain ⟨htx, hrx, hst⟩ := hR
  unfold State.replaceFailed
  split
  · exact State.Links.ite (.refl hm) ((((State.links_put hm (by unfold Reg.LNK_PORT_TXMAP; omega) htx).andThen fun hm =>
      State.links_put hm (by unfold Reg.LNK_PORT_RXMAP; omega) hrx).andThen fun hm => State.links_portStat hm hst).andThen
      fun hm => State.links_portStat hm hst)
  · exact .refl hm

end

/-! ## A port on which no lane is to be spared -/

/-- What the use of a port and the lanes' test mode are read by. -/
abbrev settledReg (q a : Nat) : Prop :=
  0x50100 ≤ a ∧ a < 0x50200 ∨ a = Reg.LNK_PORT_CTRL q ∨ ∃ j < 9, a = Reg.LNK_LANE_CTRL q j

/-- No lane of port q is trained alone, firmware has no DEGRADED lane to spare, and the lanes of T are in test mode. -/
structure State.Settled (q : Nat) (T : Nat → Prop) (s : State) : Prop where
  mem : s.memWf = true
  only : (s.port q).only = 0
  spares : s.autoPort q = false ∨ ∀ j, j < 9 → s.bit (Reg.LNK_LANE_STAT q j) 25 = false
  tested : ∀ j, j < 9 → T j → (s.lane q j).inSeq = false ∧ s.laneState q j = 7 ∧ s.bit (Reg.LNK_LANE_CTRL q j) 27 = true

/-- A lane is not found DEGRADED, and one of T stays in test. -/
def LaneAt.Keeps (T : Prop) (x y : LaneAt) : Prop :=
  (x.2.testBit 25 = false → y.2.testBit 25 = false) ∧
    (T → x.1.inSeq = false → nfld x.2 28 4 = 7 → y.1.inSeq = false ∧ nfld y.2 28 4 = 7)

section
variable {T : Prop} {x : LaneAt} {f : Lane → Lane} {v : LaneAt → Nat}

theorem LaneAt.Keeps.refl : LaneAt.Keeps T x x := ⟨id, fun _ h g => ⟨h, g⟩⟩

/-- A lane that is not of T may change its state. -/
theorem LaneAt.Keeps.laneTo (h : T → ¬ (x.1.inSeq = false ∧ nfld x.2 28 4 = 7)) : LaneAt.Keeps T x (laneTo v f x) :=
  ⟨fun hb => (wordPut_testBit_apart (by decide) (by decide)).trans hb, fun hT hi hs => absurd ⟨hi, hs⟩ (h hT)⟩

/-- A lane that takes part is not in test. -/
theorem LaneAt.Keeps.inSeqOnly : LaneAt.Keeps T x (inSeqOnly (Machine.laneTo v f) x) := by
  unfold Machine.inSeqOnly
  split
  next h => exact .laneTo fun _ hc => Bool.false_ne_true (hc.1.symm.trans h)
  next => exact .refl

/-- The lane's delay is not read here. -/
theorem LaneAt.Keeps.delay {d : Nat} : LaneAt.Keeps T x (x.1, wordPut x.2 16 6 d) :=
  ⟨fun hb => (wordPut_testBit_apart (by decide) (by decide)).trans hb,
    fun _ hi hs => ⟨hi, (nfld_wordPut_apart (by decide) (by decide)).trans hs⟩⟩

theorem LaneAt.Keeps.atLane {i j : Nat} {g : LaneAt → LaneAt} (h : j = i → LaneAt.Keeps T x (g x)) :
    LaneAt.Keeps T x (atLane i g j x) := by
  unfold Machine.atLane
  split
  next e => exact h e
  next => exact .refl

end

section
variable {q i : Nat} {T : Nat → Prop} {F : Nat → LaneAt → LaneAt} {P : Port → Port} {s t : State}

theorem State.portReleased_of (hp : t.plots = s.plots)
    (hr : ∀ p < 16, t.rn (Reg.SOW_PLOT_STAT p) = s.rn (Reg.SOW_PLOT_STAT p)) :
    t.portReleased q = s.portReleased q := by
  have hh : t.portPlot q = s.portPlot q := by
    simp only [State.portPlot, State.holder, State.plot_of_plots hp]
  unfold State.portReleased
  rw [hh]
  split
  next p hp =>
    have hlt : p < 16 := by
      have := List.mem_of_find?_eq_some hp
      rw [plotIds, mem_natsFrom] at this
      omega
    rw [State.sow, State.sow, State.fld, State.fld, hr p hlt]
  next => rfl

theorem State.Links.autoPort (hq : q < 16) (g : State.Links q (settledReg q) F P s t) : t.autoPort q = s.autoPort q := by
  have hr : t.portReleased q = s.portReleased q :=
    State.portReleased_of g.plots fun p hp => by
      have ha : 0x50100 ≤ Reg.SOW_PLOT_STAT p ∧ Reg.SOW_PLOT_STAT p < 0x50200 := by unfold Reg.SOW_PLOT_STAT; omega
      exact g.rn _ (.inl ha) (by unfold Reg.SOW_PLOT_STAT; omega) (.inl ha)
  rw [State.autoPort, State.autoPort, hr, State.bit, State.bit,
    g.rn _ (by unfold Reg.LNK_PORT_CTRL linkReg; omega) (by unfold Reg.LNK_PORT_CTRL; omega) (.inr (.inl rfl))]

theorem State.Links.laneCtrl (hq : q < 16) (g : State.Links q (settledReg q) F P s t) {j : Nat} (hj : j < 9) :
    t.rn (Reg.LNK_LANE_CTRL q j) = s.rn (Reg.LNK_LANE_CTRL q j) :=
  g.rn _ (by unfold Reg.LNK_LANE_CTRL linkReg; omega) (by unfold Reg.LNK_LANE_CTRL; omega) (.inr (.inr ⟨j, hj, rfl⟩))

/-- What keeps each lane keeps a port settled. -/
theorem State.Settled.links (h : State.Settled q T s) (hq : q < 16) (g : State.Links q (settledReg q) F P s t)
    (hP : (P (s.port q)).only = 0) (hF : ∀ j, j < 9 → LaneAt.Keeps (T j) (s.laneAt q j) (F j (s.laneAt q j))) :
    State.Settled q T t := by
  have hk : ∀ j, j < 9 → LaneAt.Keeps (T j) (s.laneAt q j) (t.laneAt q j) := fun j hj => g.lanes j hj ▸ hF j hj
  refine ⟨g.mem, g.port ▸ hP, ?_, fun j hj hT => ?_⟩
  · rw [g.autoPort hq]
    exact h.spares.imp_right fun hb j hj => (hk j hj).1 (hb j hj)
  · obtain ⟨hin, hst, hc⟩ := h.tested j hj hT
    obtain ⟨kin, kst⟩ := (hk j hj).2 hT hin hst
    exact ⟨kin, kst, by rw [State.bit, g.laneCtrl hq hj]; exact hc⟩

theorem State.Settled.asIs (h : State.Settled q T s) (hq : q < 16) (g : State.Links q (settledReg q) asIs id s t) :
    State.Settled q T t :=
  h.links hq g h.only fun _ _ => .refl

theorem State.Settled.ite {c : Prop} [Decidable c] (h : State.Settled q T s) (g : State.Settled q T t) :
    State.Settled q T (if c then s else t) := by
  split <;> assumption

/-- The registers of a port that a training writes. -/
def portRegs (q : Nat) : List Nat :=
  [Reg.LNK_PORT_STAT q, Reg.LNK_PORT_TXMAP q, Reg.LNK_PORT_RXMAP q, Reg.LNK_NBR_ID q, Reg.LNK_PORT_VER q]

theorem not_laneStat_of_portRegs {a : Nat} (ha : a ∈ portRegs q) : a % 0x200 ≠ 4 := by
  simp only [portRegs, List.mem_cons, List.not_mem_nil, or_false, Reg.LNK_PORT_STAT, Reg.LNK_PORT_TXMAP, Reg.LNK_PORT_RXMAP,
    Reg.LNK_NBR_ID, Reg.LNK_PORT_VER] at ha
  omega

theorem linkReg_of_portRegs {a : Nat} (hq : q < 16) (ha : a ∈ portRegs q) : linkReg a := by
  simp only [portRegs, List.mem_cons, List.not_mem_nil, or_false, Reg.LNK_PORT_STAT, Reg.LNK_PORT_TXMAP, Reg.LNK_PORT_RXMAP,
    Reg.LNK_NBR_ID, Reg.LNK_PORT_VER] at ha
  unfold linkReg
  omega

/-- What changes none of the port's registers. -/
theorem State.Links.portReg {a : Nat} (hq : q < 16) (g : State.Links q (fun _ => True) F P s t) (ha : a ∈ portRegs q) :
    t.rn a = s.rn a :=
  g.rn a (linkReg_of_portRegs hq ha) (not_laneStat_of_portRegs ha) trivial

theorem not_settledReg_of_portRegs {a : Nat} (ha : a ∈ portRegs q) : ¬ settledReg q a := by
  simp only [portRegs, List.mem_cons, List.not_mem_nil, or_false, Reg.LNK_PORT_STAT, Reg.LNK_PORT_TXMAP, Reg.LNK_PORT_RXMAP,
    Reg.LNK_NBR_ID, Reg.LNK_PORT_VER] at ha
  unfold settledReg Reg.LNK_PORT_CTRL Reg.LNK_LANE_CTRL
  rintro (h | h | ⟨j, hj, h⟩) <;> omega

theorem not_settledReg_lnkEvt (hq : q < 16) : ¬ settledReg q Reg.LNK_EVT := by
  unfold settledReg Reg.LNK_PORT_CTRL Reg.LNK_LANE_CTRL Reg.LNK_EVT
  rintro (h | h | ⟨j, hj, h⟩) <;> omega

/-- A lane in service takes part from DESKEW on. -/
def Lane.joins (l : Lane) : Lane := { l with inSeq := true, joined := true }

section
variable (h : State.Settled q T s) (hq : q < 16)
include h

/-- No DEGRADED lane is spared there. -/
theorem State.Settled.spareDegraded : s.spareDegraded q = s := by
  unfold State.spareDegraded
  split
  next i hi =>
    obtain hp | hb := h.spares
    · unfold State.spareUnused
      exact if_pos (.inl hp)
    · have h9 := mem_laneIds.1 (List.mem_of_find?_eq_some hi)
      have := List.find?_some hi
      simp [hb i h9] at this
  next => rfl

include hq

theorem State.Settled.rnSet {a v : Nat} (ha : a ∈ portRegs q) : State.Settled q T (s.rnSet a v) :=
  h.asIs hq (State.links_rnSet h.mem (not_laneStat_of_portRegs ha) (not_settledReg_of_portRegs ha))

theorem State.Settled.portStat {lo n v : Nat} : State.Settled q T (s.put (Reg.LNK_PORT_STAT q) lo n v) :=
  h.rnSet hq List.mem_cons_self

theorem State.Settled.beginPhase {phase : Nat} : State.Settled q T (s.beginPhase q phase) :=
  h.links hq (State.links_beginPhase h.mem) h.only fun _ _ => .inSeqOnly

theorem State.Settled.endTraining : State.Settled q T (s.endTraining q) :=
  h.links hq (State.links_endTraining hq h.mem (not_settledReg_of_portRegs List.mem_cons_self)) rfl fun _ _ => .inSeqOnly

theorem State.Settled.replaceFailed : State.Settled q T (s.replaceFailed q) := by
  refine h.asIs hq (State.links_replaceFailed h.mem fun a ha => not_settledReg_of_portRegs ?_)
  simp only [List.mem_cons, List.not_mem_nil, or_false, portRegs] at ha ⊢
  tauto

/-- The end of a training that failed, before firmware spares a lane. -/
theorem State.Settled.failed {code : Nat} :
    State.Settled q T (let s1 := (s.endTraining q).put (Reg.LNK_PORT_STAT q) 8 8 code
      if (s.port q).cmd = 0 then s1 else (s1.raiseLnk q 0 4).finish (s.port q).cmd Status.linkDown 0) := by
  have h1 := (h.endTraining hq).portStat (lo := 8) (n := 8) (v := code) hq
  have h2 := h1.asIs hq (State.links_raiseLnk (lane := 0) (cause := 4) hq h1.mem
    (not_settledReg_lnkEvt hq))
  exact h1.ite (h2.asIs hq (State.links_finish hq h2.mem))

/-- A training that fails there ends with its code and its command (R247). -/
theorem State.Settled.trainFail_eq {code : Nat} :
    s.trainFail q code = let s1 := (s.endTraining q).put (Reg.LNK_PORT_STAT q) 8 8 code
      if (s.port q).cmd = 0 then s1 else (s1.raiseLnk q 0 4).finish (s.port q).cmd Status.linkDown 0 := by
  unfold State.trainFail
  simp only [if_pos h.only]
  exact (h.failed hq).spareDegraded

theorem State.Settled.trainFail {code : Nat} : State.Settled q T (s.trainFail q code) := by
  rw [h.trainFail_eq hq]
  exact h.failed hq

omit hq in
theorem State.Settled.not_inSeq {j : Nat} (hj : j ∈ s.seqLanes q) : ¬ T j := fun hT => by
  obtain ⟨h9, hin⟩ := State.mem_seqLanes.1 hj
  rw [(h.tested j h9 hT).1] at hin
  exact Bool.false_ne_true hin

theorem State.Settled.leaveSeq {j : Nat} (hT : ¬ T j) : State.Settled q T (s.leaveSeq q j) :=
  h.links hq (State.links_leaveSeq h.mem) h.only fun _ _ => .atLane fun e => .laneTo fun hT' => absurd (e ▸ hT') hT

theorem State.Settled.delay {j d : Nat} : State.Settled q T (s.put (Reg.LNK_LANE_STAT q j) 16 6 d) :=
  h.links hq (State.links_stat h.mem) h.only fun _ _ => .atLane fun _ => .delay

omit h hq in
theorem State.Settled.foldl {α : Type} {g : State → α → State} {l : List α}
    (hg : ∀ e ∈ l, ∀ s, State.Settled q T s → State.Settled q T (g s e)) (h : State.Settled q T s) :
    State.Settled q T (l.foldl g s) := by
  induction l generalizing s with
  | nil => exact h
  | cons a l ih => exact ih (fun e he => hg e (List.mem_cons_of_mem a he)) (hg a List.mem_cons_self s h)

theorem State.Settled.joinLanes : State.Settled q T (s.joinLanes q) := by
  unfold State.joinLanes
  refine h.ite ?_
  have hf := State.links_foldl (q := q) (R := settledReg q) (G := fun x => (Lane.joins x.1, x.2))
    (g := fun s i => s.onLane q i Lane.joins)
    (fun _ _ _ hm => State.links_onLane hm) (laneIds_nodup.filter fun i => s.laneState q i == 6) h.mem
  have h1 := h.links hq hf h.only fun j hj => by
    split
    next hup =>
      have h6 : s.laneState q j = 6 := beq_iff_eq.1 (List.mem_filter.1 hup).2
      exact ⟨id, fun _ _ hs => absurd (h6.symm.trans hs) (by decide)⟩
    next => exact .refl
  exact h1.asIs hq (State.links_portLeavesUp hq h1.mem (not_settledReg_of_portRegs List.mem_cons_self))

theorem State.Settled.identCheck {ids : List (Nat × LaneId)} : State.Settled q T (s.identCheck q ids) := by
  unfold State.identCheck
  split
  · exact h.trainFail hq
  · refine (h.trainFail hq).ite ((h.trainFail hq).ite ((h.trainFail hq).ite ?_))
    exact (((((h.rnSet hq (a := Reg.LNK_PORT_RXMAP q) (by simp [portRegs])).portStat hq).rnSet hq (a := Reg.LNK_NBR_ID q)
      (by simp [portRegs])).rnSet hq (a := Reg.LNK_PORT_VER q) (by simp [portRegs])).joinLanes hq).beginPhase hq

theorem State.Settled.deskewDone : State.Settled q T (s.deskewDone q) := by
  unfold State.deskewDone
  split
  · exact h.trainFail hq
  next a ha =>
    have harr : ∀ e ∈ (s.seqLanes q).filterMap fun i =>
        ((s.lane q i).arrival.find? fun e => e.1 == a).map fun e => (i, e.2), ¬ T e.1 := fun e he => by
      obtain ⟨i, hi, hm⟩ := List.mem_filterMap.1 he
      obtain ⟨_, _, rfl⟩ := Option.map_eq_some_iff.1 hm
      exact h.not_inSeq hi
    simp only [List.partition_eq_filter_filter]
    refine .ite (.beginPhase (.replaceFailed ?left hq) hq) (.trainFail ?left hq)
    exact .foldl (fun e he s hs => hs.leaveSeq hq (harr e (List.mem_filter.1 he).1))
      (.foldl (fun _ _ s hs => hs.delay hq) h)

theorem State.Settled.identDone : State.Settled q T (s.identDone q) := h.identCheck hq

/-- What follows a phase but the last. -/
theorem State.Settled.nextPhase (hp : (s.port q).phase ≠ 5) : State.Settled q T (s.nextPhase q) := by
  have hr := h.replaceFailed hq
  have hp' : ((s.replaceFailed q).port q).phase ≠ 5 := by
    rw [(State.links_replaceFailed (R := fun _ => False) h.mem fun _ _ => id).port]
    exact hp
  dsimp only [State.nextPhase]
  split
  · exact hr.beginPhase hq
  · exact hr.beginPhase hq
  · exact hr.identDone hq
  · exact hr.deskewDone hq
  next h5 => exact absurd h5 hp'
  · exact hr

theorem State.Settled.checkPhase : State.Settled q T (s.checkPhase q) := by
  unfold State.checkPhase
  split
  next hc => exact h.nextPhase hq hc.2.1
  next => exact h

/-- Whatever becomes of a training that a lane has left. -/
theorem State.Settled.seqLeft : State.Settled q T (s.seqLeft q) :=
  h.ite (((h.replaceFailed hq).ite (h.checkPhase hq)).ite (h.trainFail hq))

end

end

end Sys2Proof.Machine

end

section

/-!
# LINK_TRAIN and LINK_TEST

PROVES O34 (spec R247, R256, R266-R268).
-/

namespace Sys2Proof.Machine
open Sys2Proof

section
variable {q i id : Nat} {s t : State} {c : Cmd}

theorem State.bit_put_apart {a lo n v j : Nat} (hm : s.memWf = true) (hj : j < 32) (h : j < lo ∨ lo + n ≤ j) :
    (s.put a lo n v).bit a j = s.bit a j := by
  rw [State.bit_put s a lo n v j hm hj, if_neg (by omega)]

theorem State.bit_rnSet_ne {a b v j : Nat} (h : b ≠ a) : (s.rnSet a v).bit b j = s.bit b j := by
  rw [State.bit, State.bit, State.rn_rnSet_ne s a b v h]

theorem State.bit_put_ne {a b lo n v j : Nat} (h : b ≠ a) : (s.put a lo n v).bit b j = s.bit b j := State.bit_rnSet_ne h

theorem State.port_of_lnk (h : t.lnk = s.lnk) : t.port q = s.port q := by rw [State.port, State.port, h]

theorem State.rn_onPort {f : Port → Port} {a : Nat} : (s.onPort q f).rn a = s.rn a := rfl

/-- LINK_TRAIN prepares the port: it is down, its packets are dropped, and its maps, latency, spare and neighbour are forgotten
(R247, R256). -/
def State.trainReset (s : State) (q : Nat) (reduced mark : Bool) : State :=
  let s1 := (s.portLeavesUp q).dropCtrl q
  let s2 := (s1.putBit (Reg.LNK_PORT_CTRL q) 30 reduced).putBit (Reg.LNK_PORT_CTRL q) 31 mark
  let s3 := ((s2.rnSet (Reg.LNK_PORT_TXMAP q) identityMap).rnSet (Reg.LNK_PORT_RXMAP q) identityMap).rnSet (Reg.LNK_LAT q) 0
  ((s3.put (Reg.LNK_PORT_STAT q) 24 7 0).put (Reg.LNK_PORT_STAT q) 8 8 0).rnSet (Reg.LNK_NBR_ID q) 0

theorem State.trainReset_good {κ : Kept} {b m : Bool} (h : Good κ s) : Good κ (s.trainReset q b m) :=
  State.rnSet_good _ _ _ (State.put_good _ _ _ _ _ (State.put_good _ _ _ _ _ (State.rnSet_good _ _ _ (State.rnSet_good _ _ _
    (State.rnSet_good _ _ _ (State.putBit_good _ _ _ _ (State.putBit_good _ _ _ _ (State.dropCtrl_good _ _
      (State.portLeavesUp_good _ _ h)))))))))

/-- The port is not UP. -/
def State.Down (q : Nat) (s : State) : Prop := s.memWf = true ∧ s.portUp q = false

theorem State.down_portLeavesUp (hq : q < 16) (hm : s.memWf = true) : State.Down q (s.portLeavesUp q) := by
  refine ⟨(State.portLeavesUp_good s q (Good.all s hm)).mem, ?_⟩
  rw [State.portUp, State.aside_portLeavesUp.bit (by unfold linkReg Reg.LNK_PORT_STAT; omega)]
  exact State.bit_clrBit s _ 31 hm (by decide)

theorem State.Down.rnSet {a v : Nat} (h : State.Down q s) (ha : Reg.LNK_PORT_STAT q ≠ a) : State.Down q (s.rnSet a v) :=
  ⟨State.rnSet_memWf h.1, (State.bit_rnSet_ne ha).trans h.2⟩

theorem State.Down.put {a lo n v : Nat} (h : State.Down q s) (ha : Reg.LNK_PORT_STAT q ≠ a ∨ lo + n ≤ 31) :
    State.Down q (s.put a lo n v) := by
  obtain rfl | e := eq_or_ne (Reg.LNK_PORT_STAT q) a
  · exact ⟨State.put_memWf h.1, (State.bit_put_apart h.1 (by decide) (.inr (ha.resolve_left (· rfl)))).trans h.2⟩
  · exact h.rnSet e

theorem State.down_trainReset {b m : Bool} (hq : q < 16) (hm : s.memWf = true) : State.Down q (s.trainReset q b m) := by
  have h : State.Down q ((s.portLeavesUp q).dropCtrl q) := State.down_portLeavesUp hq hm
  have hctrl : Reg.LNK_PORT_STAT q ≠ Reg.LNK_PORT_CTRL q := by unfold Reg.LNK_PORT_STAT Reg.LNK_PORT_CTRL; omega
  have htx : Reg.LNK_PORT_STAT q ≠ Reg.LNK_PORT_TXMAP q := by unfold Reg.LNK_PORT_STAT Reg.LNK_PORT_TXMAP; omega
  have hrx : Reg.LNK_PORT_STAT q ≠ Reg.LNK_PORT_RXMAP q := by unfold Reg.LNK_PORT_STAT Reg.LNK_PORT_RXMAP; omega
  have hlat : Reg.LNK_PORT_STAT q ≠ Reg.LNK_LAT q := by unfold Reg.LNK_PORT_STAT Reg.LNK_LAT; omega
  have hid : Reg.LNK_PORT_STAT q ≠ Reg.LNK_NBR_ID q := by unfold Reg.LNK_PORT_STAT Reg.LNK_NBR_ID; omega
  exact (((((((h.put (.inl hctrl)).put (.inl hctrl)).rnSet htx).rnSet hrx).rnSet hlat).put (.inr (by decide))).put
    (.inr (by decide))).rnSet hid

theorem State.trainReset_lat {b m : Bool} (hm : s.memWf = true) : (s.trainReset q b m).rn (Reg.LNK_LAT q) = 0 := by
  rw [State.trainReset, State.rn_rnSet_ne _ _ _ _ (by unfold Reg.LNK_LAT Reg.LNK_NBR_ID; omega),
    State.rn_put_ne _ _ _ _ _ _ (by unfold Reg.LNK_LAT Reg.LNK_PORT_STAT; omega),
    State.rn_put_ne _ _ _ _ _ _ (by unfold Reg.LNK_LAT Reg.LNK_PORT_STAT; omega)]
  exact State.rn_rnSet_zero (State.rnSet_good _ _ _ (State.rnSet_good _ _ _ (State.putBit_good _ _ _ _
    (State.putBit_good _ _ _ _ (State.dropCtrl_good _ _ (State.portLeavesUp_good _ _ (Good.all s hm))))))).mem

end

section
variable {id : Nat} {s : State} {c : Cmd}

/-- Where LINK_TRAIN answers BUSY (R247). -/
theorem exec_linkTrain_busy (ht : s.taken 0x70 id = some c)
    (h : s.portReleased (nfld (c.dw 6) 0 4) = true ∨ (s.port (nfld (c.dw 6) 0 4)).phase ≠ 0) :
    exec (.linkTrain id) s = .next (s.finish id Status.busy 0) := by
  change execLinkTrain id s = _
  simp only [execLinkTrain, ht]
  rw [if_pos h]

/-- What LINK_TRAIN does on a port that it may train. -/
theorem exec_linkTrain_free (ht : s.taken 0x70 id = some c) (hr : s.portReleased (nfld (c.dw 6) 0 4) = false)
    (hp : (s.port (nfld (c.dw 6) 0 4)).phase = 0) :
    exec (.linkTrain id) s = .next (
      let q := nfld (c.dw 6) 0 4
      let s1 := s.trainReset q ((c.dw 6).testBit 4) ((c.dw 6).testBit 7)
      if (s.trainable q true).length < 8 then
        ((s1.put (Reg.LNK_PORT_STAT q) 8 8 7).raiseLnk q 0 4).finish id Status.linkDown 0
      else
        (s1.startTrain q (s.trainable q true) 1 fun x =>
          { x with cmd := id, mode := if (c.dw 6).testBit 6 then 2 else if (c.dw 6).testBit 5 then 1 else 0, only := 0,
                   sparing := 0, ackDue := false }).blockCmd id) := by
  change execLinkTrain id s = _
  simp only [execLinkTrain, ht]
  rw [if_neg (by rw [hr, hp]; decide)]
  rfl

theorem nfld_lt {x lo n : Nat} : nfld x lo n < 2 ^ n := Nat.mod_lt _ (by positivity)

theorem State.trainable_all {q : Nat} : s.trainable q true = laneIds.filter fun i => s.laneState q i ≠ 7 := by
  unfold State.trainable
  exact List.filter_congr fun i _ => Bool.eq_iff_iff.2 (by simp)

/-- Training starts on eight lanes or more, and its command waits. -/
theorem exec_linkTrain_starts (hm : s.memWf = true) (ht : s.taken 0x70 id = some c)
    (hr : s.portReleased (nfld (c.dw 6) 0 4) = false) (hp : (s.port (nfld (c.dw 6) 0 4)).phase = 0)
    (hl : 8 ≤ (s.trainable (nfld (c.dw 6) 0 4) true).length) :
    ∃ t, exec (.linkTrain id) s = .next t ∧ t.waits id ∧ (t.port (nfld (c.dw 6) 0 4)).phase = 1 ∧
      (t.port (nfld (c.dw 6) 0 4)).cmd = id ∧ t.rn (Reg.LNK_LAT (nfld (c.dw 6) 0 4)) = 0 ∧
      t.portUp (nfld (c.dw 6) 0 4) = false := by
  have hq : nfld (c.dw 6) 0 4 < 16 := nfld_lt
  have hg := State.trainReset_good (q := nfld (c.dw 6) 0 4) (b := (c.dw 6).testBit 4) (m := (c.dw 6).testBit 7)
    ((Good.records hm).withId id (State.taken_mem_id ht))
  have hlat := State.trainReset_lat (q := nfld (c.dw 6) 0 4) (b := (c.dw 6).testBit 4) (m := (c.dw 6).testBit 7) hm
  have hup := (State.down_trainReset (b := (c.dw 6).testBit 4) (m := (c.dw 6).testBit 7) hq hm).2
  rw [exec_linkTrain_free ht hr hp]
  dsimp only
  rw [if_neg (by omega)]
  generalize s.trainReset (nfld (c.dw 6) 0 4) ((c.dw 6).testBit 4) ((c.dw 6).testBit 7) = s1 at hg hlat hup ⊢
  obtain ⟨w, h⟩ := State.links_startTrain (q := nfld (c.dw 6) 0 4) (R := fun _ => True) (phase := 1)
    (f := fun x : Port => { x with cmd := id, mode := if (c.dw 6).testBit 6 then 2 else if (c.dw 6).testBit 5 then 1 else 0,
                                   only := 0, sparing := 0, ackDue := false })
    hg.mem (s.trainable_nodup (q := nfld (c.dw 6) 0 4) (b := true))
  refine ⟨_, rfl, State.blockCmd_waits ((State.startTrain_good _ _ _ _ _ hg).id _ rfl), ?_, ?_, ?_, ?_⟩
  · rw [State.port_of_lnk (State.blockCmd_lnk _ _), h.port, Port.begun]
  · rw [State.port_of_lnk (State.blockCmd_lnk _ _), h.port, Port.begun]
  · rw [State.rn_of_regs (State.blockCmd_regs _ _), h.rn _ (by unfold Reg.LNK_LAT linkReg; omega) (by unfold Reg.LNK_LAT; omega)
      trivial, hlat]
  · rw [State.portUp, State.bit_of_regs (State.blockCmd_regs _ _), State.bit, h.portReg hq List.mem_cons_self]
    exact hup

/-- With fewer lanes LINK_TRAIN answers LINK_DOWN, and the port keeps the code of that failure. -/
theorem exec_linkTrain_fails (hm : s.memWf = true) (ht : s.taken 0x70 id = some c)
    (hr : s.portReleased (nfld (c.dw 6) 0 4) = false) (hp : (s.port (nfld (c.dw 6) 0 4)).phase = 0)
    (hl : (s.trainable (nfld (c.dw 6) 0 4) true).length < 8) :
    ∃ t, exec (.linkTrain id) s = .next t ∧ t.ended id Status.linkDown 0 ∧
      t.fld (Reg.LNK_PORT_STAT (nfld (c.dw 6) 0 4)) 8 8 = 7 := by
  have hq : nfld (c.dw 6) 0 4 < 16 := nfld_lt
  have hg := State.trainReset_good (q := nfld (c.dw 6) 0 4) (b := (c.dw 6).testBit 4) (m := (c.dw 6).testBit 7)
    ((Good.records hm).withId id (State.taken_mem_id ht))
  rw [exec_linkTrain_free ht hr hp]
  dsimp only
  rw [if_pos hl]
  refine ⟨_, rfl, State.finish_ended _ _ _ _ ((State.raiseLnk_good _ _ _ _ (State.put_good _ _ _ _ _ hg)).id _ rfl), ?_⟩
  rw [State.fld_of_regs (State.finish_regs _ _ _ _), State.aside_raiseLnk.fld (by unfold Reg.LNK_PORT_STAT linkReg; omega),
    State.fld, State.rn_setBit_ne _ _ _ _ (by unfold Reg.LNK_PORT_STAT Reg.LNK_EVT; omega)]
  exact State.fld_put_same _ _ 8 8 7 hg.mem (by decide)

/-! ## LINK_TEST -/

/-- LINK_TEST with a lane that does not exist or no bits to send (R362). -/
theorem exec_linkTest_invalid (ht : s.taken 0x71 id = some c) (h : 8 < nfld (c.dw 6) 4 4 ∨ c.dw 7 = 0) :
    exec (.linkTest id) s = .next (s.finish id Status.invalidParam 0) := by
  change execLinkTest id s = _
  simp only [execLinkTest, ht]
  rw [if_pos h]

/-- LINK_TEST where the lane is refused, or the port runs a test (R267). -/
theorem exec_linkTest_busy (ht : s.taken 0x71 id = some c) (hi : nfld (c.dw 6) 4 4 ≤ 8) (hb : c.dw 7 ≠ 0)
    (h : s.testRefused (nfld (c.dw 6) 0 4) (nfld (c.dw 6) 4 4) = true ∨ (s.port (nfld (c.dw 6) 0 4)).testCmd ≠ 0) :
    exec (.linkTest id) s = .next (s.finish id Status.busy 0) := by
  change execLinkTest id s = _
  simp only [execLinkTest, ht]
  rw [if_neg (by omega), if_pos h]

/-- LINK_TEST takes the lane's loopback, or notes that it is refused on a lane that is not the spare (R268). -/
def State.testLoop (s : State) (q i lp : Nat) : State :=
  if lp ≠ 0 ∧ i ≠ 8 then s.setBit (Reg.LNK_LANE_STAT q i) 23 else s.put (Reg.LNK_LANE_CTRL q i) 28 2 lp

theorem State.testLoop_good {κ : Kept} {q i lp : Nat} (h : Good κ s) : Good κ (s.testLoop q i lp) := by
  unfold State.testLoop
  split
  · exact State.setBit_good _ _ _ h
  · exact State.put_good _ _ _ _ _ h

/-- The word that LINK_TEST writes to LNK_LANE_TEST: a pattern, the generator and the checker on, and a mask (R266). -/
def linkTestWord (d : Nat) : Nat := nfld d 8 2 * 2 ^ 30 + 2 ^ 29 + 2 ^ 28 + nfld d 12 5 * 2 ^ 22

theorem nfld_linkTestWord (d : Nat) : nfld (linkTestWord d % 2 ^ 32) 30 2 = nfld d 8 2 := by
  have h1 : nfld d 8 2 < 2 ^ 2 := nfld_lt
  have h2 : nfld d 12 5 < 2 ^ 5 := nfld_lt
  rw [linkTestWord]
  generalize nfld d 8 2 = a at h1 ⊢
  generalize nfld d 12 5 = b at h2 ⊢
  rw [nfld, Nat.shiftRight_eq_div_pow]
  omega

/-- LINK_TEST runs a test on the lane. -/
theorem exec_linkTest_free (ht : s.taken 0x71 id = some c) (hi : nfld (c.dw 6) 4 4 ≤ 8) (hb : c.dw 7 ≠ 0)
    (hf : s.testRefused (nfld (c.dw 6) 0 4) (nfld (c.dw 6) 4 4) = false)
    (hn : (s.port (nfld (c.dw 6) 0 4)).testCmd = 0) :
    exec (.linkTest id) s = .next (
      let q := nfld (c.dw 6) 0 4
      let i := nfld (c.dw 6) 4 4
      let s2 := ((s.setTest q i true).testLoop q i (nfld (c.dw 6) 10 2)).rnSet (Reg.LNK_LANE_TEST q i) (linkTestWord (c.dw 6))
      let s4 := s2.onPort q fun x =>
        { x with testCmd := id, testLane := i, testBits := c.dw 7, testSince := s.ft.wall,
                 testBase := (s.rn (Reg.LNK_LANE_PRBS_ERR q i), s.rn64 (Reg.LNK_LANE_PRBS_BITS_LO q i)) }
      (if (c.dw 6).testBit 20 then s4.sendMgmt q 3 0 1 0 0 else s4).blockCmd id) := by
  change execLinkTest id s = _
  simp only [execLinkTest, ht]
  rw [if_neg (by omega), if_neg (by rw [hf, hn]; decide)]
  rfl

theorem exec_linkTest_runs (hm : s.memWf = true) (ht : s.taken 0x71 id = some c) (hi : nfld (c.dw 6) 4 4 ≤ 8)
    (hb : c.dw 7 ≠ 0)
    (hf : s.testRefused (nfld (c.dw 6) 0 4) (nfld (c.dw 6) 4 4) = false)
    (hn : (s.port (nfld (c.dw 6) 0 4)).testCmd = 0) :
    ∃ t, exec (.linkTest id) s = .next t ∧ t.waits id ∧ (t.port (nfld (c.dw 6) 0 4)).testCmd = id ∧
      (t.port (nfld (c.dw 6) 0 4)).testBits = c.dw 7 ∧
      t.fld (Reg.LNK_LANE_TEST (nfld (c.dw 6) 0 4) (nfld (c.dw 6) 4 4)) 30 2 = nfld (c.dw 6) 8 2 ∧
      (nfld (c.dw 6) 10 2 ≠ 0 → nfld (c.dw 6) 4 4 < 8 →
        t.bit (Reg.LNK_LANE_STAT (nfld (c.dw 6) 0 4) (nfld (c.dw 6) 4 4)) 23 = true) := by
  have hq : nfld (c.dw 6) 0 4 < 16 := nfld_lt
  rw [exec_linkTest_free ht hi hb hf hn]
  dsimp only
  generalize nfld (c.dw 6) 0 4 = q at hq ⊢
  generalize nfld (c.dw 6) 4 4 = i at hi ⊢
  generalize hf : (fun x : Port => { x with
    testCmd := id, testLane := i, testBits := c.dw 7, testSince := s.ft.wall,
    testBase := (s.rn (Reg.LNK_LANE_PRBS_ERR q i), s.rn64 (Reg.LNK_LANE_PRBS_BITS_LO q i)) }) = f
  have h0 := State.setTest_good s q i true ((Good.records hm).withId id (State.taken_mem_id ht)) rfl
  have h1 := State.testLoop_good (q := q) (i := i) (lp := nfld (c.dw 6) 10 2) h0
  have h2 := State.rnSet_good _ (Reg.LNK_LANE_TEST q i) (linkTestWord (c.dw 6)) h1
  have h4 := State.onPort_good _ q f h2
  have ha : ∀ s4 : State, State.Aside s4 ((if (c.dw 6).testBit 20 then s4.sendMgmt q 3 0 1 0 0 else s4).blockCmd id) :=
    fun s4 => (State.Aside.ite State.Aside.refl.sendMgmt .refl).blockCmd
  refine ⟨_, rfl, State.blockCmd_waits ?_, ?_, ?_, ?_, fun hlp h8 => ?_⟩
  · split
    · exact (State.sendMgmt_good _ _ _ _ _ _ _ h4).id _ rfl
    · exact h4.id _ rfl
  · rw [(ha _).port, State.port_onPort _ _ _ _ h2.mem, if_pos rfl, ← hf]
  · rw [(ha _).port, State.port_onPort _ _ _ _ h2.mem, if_pos rfl, ← hf]
  · rw [(ha _).fld (by unfold Reg.LNK_LANE_TEST linkReg; omega)]
    rw [State.fld, State.rn_onPort, State.rn_rnSet_same _ _ _ h1.mem, nfld_linkTestWord]
  · rw [(ha _).bit (by unfold Reg.LNK_LANE_STAT linkReg; omega)]
    rw [State.bit, State.rn_onPort, ← State.bit, State.bit_rnSet_ne (by unfold Reg.LNK_LANE_STAT Reg.LNK_LANE_TEST; omega),
      State.testLoop, if_pos ⟨hlp, by omega⟩]
    exact State.bit_setBit _ _ 23 h0.mem (by decide)

end

/-- Settles O34: a training that starts is `exec_linkTrain_starts`, a test that runs `exec_linkTest_runs`, and the other answers
end the command at once. -/
theorem linkCommandsStartTheirWork : Obligations.LinkCommandsStartTheirWork := by
  unfold Obligations.LinkCommandsStartTheirWork
  intro s id c hm
  refine ⟨fun ht hr hp => ⟨fun hl => ?_, fun hl => ?_⟩, fun ht h => ?_, fun ht h => ?_, fun ht hi hb =>
    ⟨fun h => ?_, fun hf hn => exec_linkTest_runs hm ht hi hb hf hn⟩⟩
  · exact exec_linkTrain_starts hm ht hr hp (by rwa [State.trainable_all])
  · exact exec_linkTrain_fails hm ht hr hp (by rwa [State.trainable_all])
  · exact ⟨_, exec_linkTrain_busy ht h, State.finish_ended s _ _ _ (State.taken_mem_id ht), rfl, rfl⟩
  · exact ⟨_, exec_linkTest_invalid ht h, State.finish_ended s _ _ _ (State.taken_mem_id ht), rfl, rfl⟩
  · exact ⟨_, exec_linkTest_busy ht hi hb h, State.finish_ended s _ _ _ (State.taken_mem_id ht), rfl, rfl⟩

end Sys2Proof.Machine

end

section

/-!
# Lanes that go down and lanes in test

SUPPORT for the statements about lanes and ports: a lane that leaves service with what firmware does about it, and a lane that
enters test mode, whatever that means for the training it took part in (R258, R259, R267).
-/

namespace Sys2Proof.Machine
open Sys2Proof

section
variable {q i j : Nat} {s t : State}

/-- The state of a lane is read from its status. -/
theorem State.laneState_eq : s.laneState q j = nfld (s.laneAt q j).2 28 4 := rfl

theorem State.autoPort_put {a lo n v : Nat} (ha : 0x100000 ≤ a) (hc : Reg.LNK_PORT_CTRL q ≠ a) :
    (s.put a lo n v).autoPort q = s.autoPort q := by
  have hr : (s.put a lo n v).portReleased q = s.portReleased q := State.portReleased_of (State.rgSet_plots s _ _) fun p hp =>
    State.rn_put_ne s a _ lo n v (by unfold Reg.SOW_PLOT_STAT; omega)
  rw [State.autoPort, State.autoPort, hr, State.bit_put_ne hc]

/-! ## Going down (R258, R259) -/

/-- The record of a lane that goes down. -/
def Lane.gone (l : Lane) : Lane :=
  { l with cdr := false, inSeq := false, joined := false, undecoded := 0, decoded := 0, sinceMarker := 0 }

/-- A lane goes down, and its port where a logical lane maps to it. -/
def State.laneGone (s : State) (q i : Nat) : State :=
  let s0 := (s.laneStateSet q i 0).onLane q i Lane.gone
  let s1 := { s0 with xch := { s0.xch with rxAlive := cset 0 s0.xch.rxAlive (q * 9 + i) 0 } }.raiseLnk q i 0
  if s.rxLogical q i ≠ 8 then s1.portLeavesUp q else s1

/-- A lane in service or in training goes down, and firmware cures it. -/
theorem State.laneDown_eq (h0 : s.laneState q i ≠ 0) (h9 : s.laneState q i ≠ 9) (h7 : s.laneState q i ≠ 7) :
    s.laneDown q i = (s.laneGone q i).downCure q i (s.laneState q i) (s.lane q i).inSeq := by
  unfold State.laneDown
  dsimp only
  rw [if_neg (by simp [h0, h9]), if_neg h7]
  rfl

section
variable {R : Nat → Prop} (hq : q < 16) (hm : s.memWf = true)
include hq hm

theorem State.links_laneGone (hP : ¬ R (Reg.LNK_PORT_STAT q)) (hE : ¬ R Reg.LNK_EVT) :
    State.Links q R (atLane i (laneTo (fun _ => 0) Lane.gone)) id s (s.laneGone q i) := by
  have h0 : State.Links q R _ id s (s.laneStateSet q i 0) := State.links_stat hm
  have h1 := ((h0.andThen fun hm => State.links_onLane (i := i) (f := Lane.gone) hm).andThen fun hm =>
    State.links_setXch hm (x := { s.xch with rxAlive := cset 0 s.xch.rxAlive (q * 9 + i) 0 })).andThen fun hm =>
      State.links_raiseLnk hq hm (lane := i) (cause := 0) hE
  refine (State.Links.ite (h1.andThen fun hm => State.links_portLeavesUp hq hm hP) h1).congr (fun j _ => ?_) rfl
  simp only [atLane]
  split <;> rfl

theorem State.down_laneGone (hr : s.rxLogical q i ≠ 8) : State.Down q (s.laneGone q i) := by
  unfold State.laneGone
  dsimp only
  rw [if_pos hr]
  exact State.down_portLeavesUp hq (State.raiseLnk_good _ q i 0 (good_upd (State.onLane_good _ q i _
    (State.put_good s _ _ _ _ (Good.all s hm))))).mem

theorem State.autoPort_laneGone : (s.laneGone q i).autoPort q = s.autoPort q :=
  (State.links_laneGone hq hm (not_settledReg_of_portRegs List.mem_cons_self) (not_settledReg_lnkEvt hq)).autoPort hq

theorem State.port_laneGone : (s.laneGone q i).port q = s.port q :=
  (State.links_laneGone (R := fun _ => False) hq hm id id).port

theorem State.laneState_laneGone (hi : i < 9) : (s.laneGone q i).laneState q i = 0 := by
  rw [State.laneState_eq, (State.links_laneGone (R := fun _ => False) hq hm id id).lanes i hi, atLane, if_pos rfl, laneTo]
  exact nfld_wordPut_same (by decide)

end

/-- Firmware leaves a lane down on a port that it may not train, and that does not train (R258). -/
theorem State.downCure_none {b : Bool} {st : Nat} (h8 : st ≠ 8) (hp : (s.port q).phase = 0) (ha : s.autoPort q = false) :
    s.downCure q i st b = s := by
  unfold State.downCure
  simp only [ha, hp, State.seqLeft]
  simp [h8]

/-- Firmware retrains a lane alone on a port that it may train, and that does not train (R258). -/
theorem State.downCure_lane {b : Bool} {st : Nat} (h8 : st ≠ 8) (hp : (s.port q).phase = 0) (ha : s.autoPort q = true)
    (hc : (s.port q).cmd = 0) (hs : (s.port q).sparing = 0) : s.downCure q i st b = s.retrain q (i + 1) [i] := by
  unfold State.downCure
  simp [ha, hp, hc, hs, h8]

/-- Firmware retrains the port of a lane that was in low-power idle (R259). -/
theorem State.downCure_port {b : Bool} (hc : (s.port q).cmd = 0) (hs : (s.port q).sparing = 0) :
    s.downCure q i 8 b = s.retrain q 0 (s.trainable q false) := by
  unfold State.downCure
  simp [hc, hs]

/-- A lane that firmware retrains is in the first phase, as is its port (R247). -/
theorem State.retrain_starts {l : List Nat} {only : Nat} (hm : s.memWf = true) (hl : l.Nodup) (hi : i ∈ l) (h9 : i < 9) :
    (s.retrain q only l).laneState q i = 1 ∧ ((s.retrain q only l).port q).phase = 1 ∧
      ((s.retrain q only l).port q).only = only := by
  obtain ⟨w, h⟩ := State.links_startTrain (q := q) (R := fun _ => False) (phase := 1)
    (f := fun x : Port => { x with cmd := 0, mode := 0, only := only, sparing := 0, ackDue := false }) hm hl
  unfold State.retrain
  refine ⟨?_, by rw [h.port, Port.begun], by rw [h.port, Port.begun]⟩
  rw [State.laneState_eq, h.lanes i h9, if_pos hi, laneStarted]
  exact nfld_wordPut_same (by decide)

theorem State.Down.retrain {l : List Nat} {only : Nat} (hq : q < 16) (h : State.Down q s) (hl : l.Nodup) :
    (s.retrain q only l).portUp q = false := by
  obtain ⟨w, g⟩ := State.links_startTrain (q := q) (R := fun _ => True) (phase := 1)
    (f := fun x : Port => { x with cmd := 0, mode := 0, only := only, sparing := 0, ackDue := false }) h.1 hl
  unfold State.retrain
  rw [State.portUp, State.bit, g.portReg hq List.mem_cons_self]
  exact h.2

/-! ## Test mode (R267) -/

/-- The record of a lane that enters test mode. -/
def Lane.tested (l : Lane) : Lane :=
  { l with inSeq := false, joined := false, prbs := 0, gen := 0, sinceInj := 0, injOne := 0 }

/-- A lane in test mode, before its training goes on without it. -/
def State.testEntered (s : State) (q i : Nat) : State :=
  let s1 := ((s.setBit (Reg.LNK_LANE_CTRL q i) 27).laneStateSet q i 7).onLane q i Lane.tested
  let s2 := s1.clrBit (Reg.LNK_LANE_TEST q i) 21
  if s.laneMapped q i then s2.portLeavesUp q else s2

theorem State.setTest_on (hr : s.testRefused q i = false) (h7 : s.laneState q i ≠ 7) :
    s.setTest q i true = if (s.lane q i).inSeq then (s.testEntered q i).seqLeft q else s.testEntered q i := by
  unfold State.setTest
  dsimp only
  rw [if_pos rfl, hr, if_neg Bool.false_ne_true, if_neg h7]
  rfl

section
variable (hm : s.memWf = true) (hq : q < 16) (hi : i < 9)
include hm hq

theorem State.links_testEntered :
    State.Links q (settledReg q) (atLane i (laneTo (fun _ => 7) Lane.tested)) id (s.setBit (Reg.LNK_LANE_CTRL q i) 27)
      (s.testEntered q i) := by
  have h0 : State.Links q (settledReg q) _ id (s.setBit (Reg.LNK_LANE_CTRL q i) 27)
    ((s.setBit (Reg.LNK_LANE_CTRL q i) 27).laneStateSet q i 7) := State.links_stat (State.put_memWf hm)
  have h1 := (h0.andThen fun hm => State.links_onLane (i := i) (f := Lane.tested) hm).andThen fun hm =>
    State.links_put (a := Reg.LNK_LANE_TEST q i) (lo := 21) (n := 1) (v := 0) hm (by unfold Reg.LNK_LANE_TEST; omega) (by
      unfold settledReg Reg.LNK_LANE_TEST Reg.LNK_PORT_CTRL Reg.LNK_LANE_CTRL
      rintro (h | h | ⟨j, hj, h⟩) <;> omega)
  refine (State.Links.ite (h1.andThen fun hm =>
    State.links_portLeavesUp hq hm (not_settledReg_of_portRegs List.mem_cons_self)) h1).congr (fun j _ => ?_) rfl
  simp only [atLane]
  split <;> rfl

include hi

/-- A lane that is in test mode. -/
theorem State.testEntered_lane : ((s.testEntered q i).lane q i).inSeq = false ∧ (s.testEntered q i).laneState q i = 7 ∧
    (s.testEntered q i).bit (Reg.LNK_LANE_CTRL q i) 27 = true := by
  have h := State.links_testEntered (i := i) hm hq
  have hl := h.lanes i hi
  rw [atLane, if_pos rfl, laneTo] at hl
  refine ⟨?_, ?_, ?_⟩
  · exact congrArg (fun x : LaneAt => x.1.inSeq) hl
  · rw [State.laneState_eq, hl]
    exact nfld_wordPut_same (by decide)
  · rw [State.bit, h.laneCtrl hq hi]
    exact State.bit_setBit s _ 27 hm (by decide)

/-- There the port is settled with that lane in test. -/
theorem State.settled_testEntered (ho : (s.port q).only = 0)
    (hs : s.autoPort q = false ∨ ∀ j, j < 9 → s.bit (Reg.LNK_LANE_STAT q j) 25 = false) :
    State.Settled q (· = i) (s.testEntered q i) := by
  have h := State.links_testEntered (i := i) hm hq
  refine ⟨h.mem, h.port ▸ ho, ?_, fun j h9 hj => by subst hj; exact State.testEntered_lane hm hq h9⟩
  rw [h.autoPort hq, State.setBit, State.autoPort_put (by unfold Reg.LNK_LANE_CTRL; omega)
    (by unfold Reg.LNK_LANE_CTRL Reg.LNK_PORT_CTRL; omega)]
  refine hs.imp_right fun hb j hj => ?_
  have hl := congrArg (fun x : LaneAt => x.2.testBit 25) (h.lanes j hj)
  have hc : (s.setBit (Reg.LNK_LANE_CTRL q i) 27).rn (Reg.LNK_LANE_STAT q j) = s.rn (Reg.LNK_LANE_STAT q j) :=
    State.rn_setBit_ne _ _ _ _ (by unfold Reg.LNK_LANE_CTRL Reg.LNK_LANE_STAT; omega)
  refine hl.trans ?_
  dsimp only [atLane]
  split
  · rw [laneTo]
    refine (wordPut_testBit_apart (by decide) (by decide)).trans ?_
    rw [State.laneAt, hc]
    exact hb j hj
  · rw [State.laneAt, hc]
    exact hb j hj

/-- A lane that enters test mode is in it, whatever becomes of its training. -/
theorem State.setTest_enters (hr : s.testRefused q i = false) (h7 : s.laneState q i ≠ 7)
    (h : (s.lane q i).inSeq = false ∨
      (s.port q).only = 0 ∧ (s.autoPort q = false ∨ ∀ j, j < 9 → s.bit (Reg.LNK_LANE_STAT q j) 25 = false)) :
    (s.setTest q i true).laneState q i = 7 ∧ (s.setTest q i true).bit (Reg.LNK_LANE_CTRL q i) 27 = true := by
  rw [State.setTest_on hr h7]
  split
  next hin =>
    obtain ⟨ho, hs⟩ := h.resolve_left (by rw [hin]; decide)
    exact (((State.settled_testEntered hm hq hi ho hs).seqLeft hq).tested i hi rfl).2
  next => exact (State.testEntered_lane hm hq hi).2

end

end

end Sys2Proof.Machine

end

section

/-!
# What a lane and its neighbour report

PROVES O39 (spec R258, R259, R261, R262, R265-R268).
-/

namespace Sys2Proof.Machine
open Sys2Proof

/-! ## The checker of a lane in test (R266) -/

/-- A checker that is synchronised compares each bit. -/
theorem prbsCheck_compared (pat : Nat) (bs : List Bool) (st n e : Nat) :
    (prbsCheck pat bs st 0 n e).2.1 = 0 ∧ (prbsCheck pat bs st 0 n e).2.2.1 = n + bs.length := by
  induction bs generalizing st n e with
  | nil => exact ⟨rfl, rfl⟩
  | cons b bs ih =>
    rw [prbsCheck, if_neg (by decide)]
    obtain ⟨h0, hn⟩ := ih ((2 * st + prbsNext pat st) % 2 ^ 31) (n + 1) (e + (if b2n b = prbsNext pat st then 0 else 1))
    exact ⟨h0, by rw [hn, List.length_cons]; omega⟩

theorem findCnt_prbsErr : ∀ q < 16, ∀ i < 9, (findCnt CntRow.base (Reg.LNK_LANE_PRBS_ERR q i) cntRows).map
    (fun x => (x.1.ovfAt x.2).1) = some (Reg.LNK_LANE_OVF q i) := by decide +kernel

section
variable {q i j k id : Nat} {s t : State} {ws : List Word}

/-- What a counter holds after a count of n (R16). -/
theorem State.rn_countBy_self {c o n : Nat} (hm : s.memWf = true)
    (ho : (findCnt CntRow.base c cntRows).map (fun x => (x.1.ovfAt x.2).1) = some o) (hc : c ≠ o) :
    (s.countBy c n).rn c = min (s.rn c + n) 0xffffffff := by
  have hv : (s.rnSet c (min (s.rn c + n) 0xffffffff)).rn c = min (s.rn c + n) 0xffffffff :=
    (State.rn_rnSet_same _ _ _ hm).trans (Nat.mod_eq_of_lt ((Nat.min_le_right _ _).trans_lt (by decide)))
  unfold State.countBy
  dsimp only
  split
  next h0 =>
    have : s.rn c < 2 ^ 32 := BitVec.isLt _
    omega
  · split
    · exact hv
    · split
      next r is hf =>
        rw [State.rn_setBit_ne _ _ _ _ fun e => hc (by rw [hf] at ho; exact e.trans (Option.some.inj ho))]
        exact hv
      · exact hv

theorem State.rn64_countBits {n : Nat} (hm : s.memWf = true) :
    (s.countBits q i n).rn64 (Reg.LNK_LANE_PRBS_BITS_LO q i) =
      min (s.rn64 (Reg.LNK_LANE_PRBS_BITS_LO q i) + n) (2 ^ 48 - 1) := by
  have hv := State.rn64_rnSet64 (a := Reg.LNK_LANE_PRBS_BITS_LO q i) hm
    (v := min (s.rn64 (Reg.LNK_LANE_PRBS_BITS_LO q i) + n) (2 ^ 48 - 1)) (by omega)
  unfold State.countBits
  dsimp only
  split
  · rw [State.rn64, State.rn_setBit_ne _ _ _ _ (by unfold Reg.LNK_LANE_PRBS_BITS_LO Reg.LNK_LANE_OVF; omega),
      State.rn_setBit_ne _ _ _ _ (by unfold Reg.LNK_LANE_PRBS_BITS_LO Reg.LNK_LANE_OVF; omega)]
    exact hv
  · exact hv

theorem State.rn_countBits {n a : Nat} (hl : a ≠ Reg.LNK_LANE_PRBS_BITS_LO q i) (hh : a ≠ Reg.LNK_LANE_PRBS_BITS_LO q i + 4)
    (ho : a ≠ Reg.LNK_LANE_OVF q i) : (s.countBits q i n).rn a = s.rn a := by
  unfold State.countBits
  dsimp only
  split
  · rw [State.rn_setBit_ne _ _ _ _ ho, State.rn_rnSet64_ne hl hh]
  · exact State.rn_rnSet64_ne hl hh

/-- A checker that is synchronised, on a lane in test. -/
theorem State.chkBits_counts (hm : s.memWf = true) (hq : q < 16) (hi : i < 9) (hc : s.bit (Reg.LNK_LANE_CTRL q i) 27 = true)
    (he : s.bit (Reg.LNK_LANE_TEST q i) 28 = true) (hs : s.bit (Reg.LNK_LANE_TEST q i) 21 = true)
    (hp : s.fld (Reg.LNK_LANE_TEST q i) 30 2 ≠ 0) (bits : List Bool) :
    (s.chkBits q i bits).rn64 (Reg.LNK_LANE_PRBS_BITS_LO q i) =
      min (s.rn64 (Reg.LNK_LANE_PRBS_BITS_LO q i) + bits.length) (2 ^ 48 - 1) ∧
    (s.chkBits q i bits).rn (Reg.LNK_LANE_PRBS_ERR q i) = min (s.rn (Reg.LNK_LANE_PRBS_ERR q i) +
      (prbsCheck (s.fld (Reg.LNK_LANE_TEST q i) 30 2) bits (s.lane q i).prbs 0 0 0).2.2.2) 0xffffffff := by
  have hcnt := findCnt_prbsErr q hq i hi
  obtain ⟨h0, hn⟩ := prbsCheck_compared (s.fld (Reg.LNK_LANE_TEST q i) 30 2) bits (s.lane q i).prbs 0 0
  unfold State.chkBits
  simp only [hc, he, hp, hs, Bool.true_eq_false, or_self, if_false, if_true]
  generalize prbsCheck (s.fld (Reg.LNK_LANE_TEST q i) 30 2) bits (s.lane q i).prbs 0 0 0 = r at h0 hn ⊢
  obtain ⟨st, left, n, e⟩ := r
  simp only [Nat.zero_add] at h0 hn
  subst h0 hn
  simp only [if_true]
  generalize hu : (s.onLane q i fun l => { l with prbs := st }).setBit (Reg.LNK_LANE_TEST q i) 21 = u
  have hum : u.memWf = true := hu ▸ State.put_memWf (State.onLane_memWf hm)
  have hur : ∀ a, a ≠ Reg.LNK_LANE_TEST q i → u.rn a = s.rn a := fun a ha => by
    rw [← hu, State.rn_setBit_ne _ _ _ _ ha]
    rfl
  refine ⟨?_, ?_⟩
  · have hb : (u.countBits q i bits.length).rn64 (Reg.LNK_LANE_PRBS_BITS_LO q i) = _ := State.rn64_countBits hum
    have hlo : ¬ countsAt (Reg.LNK_LANE_PRBS_ERR q i) (Reg.LNK_LANE_PRBS_BITS_LO q i) := not_countsAt_of_map hcnt
      (by unfold Reg.LNK_LANE_PRBS_BITS_LO Reg.LNK_LANE_PRBS_ERR; omega)
      (by unfold Reg.LNK_LANE_PRBS_BITS_LO Reg.LNK_LANE_OVF; omega)
    have hhi : ¬ countsAt (Reg.LNK_LANE_PRBS_ERR q i) (Reg.LNK_LANE_PRBS_BITS_LO q i + 4) := not_countsAt_of_map hcnt
      (by unfold Reg.LNK_LANE_PRBS_BITS_LO Reg.LNK_LANE_PRBS_ERR; omega)
      (by unfold Reg.LNK_LANE_PRBS_BITS_LO Reg.LNK_LANE_OVF; omega)
    rw [State.rn64, State.rn_countBy hlo, State.rn_countBy hhi, ← State.rn64, hb, State.rn64, State.rn64,
      hur _ (by unfold Reg.LNK_LANE_PRBS_BITS_LO Reg.LNK_LANE_TEST; omega),
      hur _ (by unfold Reg.LNK_LANE_PRBS_BITS_LO Reg.LNK_LANE_TEST; omega)]
  · rw [State.rn_countBy_self (State.countBits_good u q i _ (Good.all u hum)).mem hcnt
        (by unfold Reg.LNK_LANE_PRBS_ERR Reg.LNK_LANE_OVF; omega),
      State.rn_countBits (by unfold Reg.LNK_LANE_PRBS_ERR Reg.LNK_LANE_PRBS_BITS_LO; omega)
        (by unfold Reg.LNK_LANE_PRBS_ERR Reg.LNK_LANE_PRBS_BITS_LO; omega)
        (by unfold Reg.LNK_LANE_PRBS_ERR Reg.LNK_LANE_OVF; omega),
      hur _ (by unfold Reg.LNK_LANE_PRBS_ERR Reg.LNK_LANE_TEST; omega)]

/-! ## Sparing (R260-R262) -/

/-- Logical lane k moves to the spare, and the receive lane that it left retires. -/
def State.spareMapped (s : State) (q k rx : Nat) : State :=
  ((((((s.put (Reg.LNK_PORT_TXMAP q) (4 * k) 4 8).laneStateSet q rx 9).clrBit (Reg.LNK_LANE_STAT q rx) 25).setBit
    (Reg.LNK_PORT_STAT q) 27).put (Reg.LNK_PORT_STAT q) 24 3 k).portLeavesUp q)

/-- What sparing changes before the spare is retrained. -/
def State.sparePrepared (s : State) (q k : Nat) : State := ((s.endSeq q).endTest q 8).spareMapped q k (s.rxLane q k)

/-- The port of a spare that is retrained. -/
def Port.spares (k : Nat) (ack : Bool) (x : Port) : Port :=
  { x with cmd := 0, mode := 0, only := 0, sparing := k + 1, ackDue := ack }

theorem State.startSparing_eq {ack : Bool} (hu : s.spareUsed q = false) (hc : (s.port q).cmd = 0) :
    s.startSparing q k ack = ((s.sparePrepared q k).startTrain q (s.spareLanes q) 2 (Port.spares k ack), true) := by
  unfold State.startSparing
  dsimp only
  rw [if_neg (by simp [hu, hc])]
  rfl

theorem State.endTest_lnk : (s.endTest q i).lnk = s.lnk := by
  unfold State.endTest
  split
  · rw [State.setBit_lnk, State.clrBit_lnk, State.laneStateSet, State.put_lnk]
  · rfl

theorem State.spareLanes_nodup : (s.spareLanes q).Nodup := by
  unfold State.spareLanes
  split <;> decide

theorem State.fld_rnSet_ne {a b v lo n : Nat} (h : b ≠ a) : (s.rnSet a v).fld b lo n = s.fld b lo n := by
  rw [State.fld, State.fld, State.rn_rnSet_ne s a b v h]

theorem State.fld_put_ne {a b lo n v lo' n' : Nat} (h : b ≠ a) : (s.put a lo n v).fld b lo' n' = s.fld b lo' n' :=
  State.fld_rnSet_ne h

theorem State.spareMapped_lnk {rx : Nat} : (s.spareMapped q k rx).lnk = s.lnk := by
  rw [State.spareMapped, State.aside_portLeavesUp.lnk, State.clrBit_lnk, State.put_lnk, State.setBit_lnk, State.clrBit_lnk,
    State.laneStateSet, State.put_lnk, State.put_lnk]

theorem State.spareMapped_memWf {rx : Nat} (hm : s.memWf = true) : (s.spareMapped q k rx).memWf = true :=
  (State.portLeavesUp_good _ _ (Good.all _ (State.put_memWf (State.put_memWf (State.put_memWf (State.put_memWf
    (State.put_memWf hm))))))).mem

section
variable (hm : s.memWf = true) (hq : q < 16)
include hm hq

theorem State.spareMapped_txLane {rx : Nat} (hk : k < 8) : (s.spareMapped q k rx).txLane q k = 8 := by
  rw [State.spareMapped, State.txLane, State.aside_portLeavesUp.fld (by unfold Reg.LNK_PORT_TXMAP linkReg; omega), State.clrBit,
    State.fld_put_ne (by unfold Reg.LNK_PORT_TXMAP Reg.LNK_PORT_STAT; omega),
    State.fld_put_ne (by unfold Reg.LNK_PORT_TXMAP Reg.LNK_PORT_STAT; omega), State.setBit,
    State.fld_put_ne (by unfold Reg.LNK_PORT_TXMAP Reg.LNK_PORT_STAT; omega), State.clrBit,
    State.fld_put_ne (by unfold Reg.LNK_PORT_TXMAP Reg.LNK_LANE_STAT; omega), State.laneStateSet,
    State.fld_put_ne (by unfold Reg.LNK_PORT_TXMAP Reg.LNK_LANE_STAT; omega)]
  exact State.fld_put_same s _ _ 4 8 hm (by omega)

theorem State.spareMapped_spareUsed {rx : Nat} : (s.spareMapped q k rx).spareUsed q = true := by
  unfold State.spareMapped State.spareUsed
  have h1 := State.put_memWf (a := Reg.LNK_PORT_TXMAP q) (lo := 4 * k) (n := 4) (v := 8) hm
  generalize s.put (Reg.LNK_PORT_TXMAP q) (4 * k) 4 8 = s1 at h1 ⊢
  have h2 : ((s1.laneStateSet q rx 9).clrBit (Reg.LNK_LANE_STAT q rx) 25).memWf = true := State.put_memWf (State.put_memWf h1)
  generalize (s1.laneStateSet q rx 9).clrBit (Reg.LNK_LANE_STAT q rx) 25 = s2 at h2 ⊢
  have h3 : (s2.setBit (Reg.LNK_PORT_STAT q) 27).memWf = true := State.put_memWf h2
  rw [State.aside_portLeavesUp.bit (by unfold Reg.LNK_PORT_STAT linkReg; omega), State.clrBit,
    State.bit_put_apart (State.put_memWf h3) (by decide) (by decide), State.bit_put_apart h3 (by decide) (by decide)]
  exact State.bit_setBit s2 _ 27 h2 (by decide)

theorem State.spareMapped_laneState {rx : Nat} (hr : rx < 9) : (s.spareMapped q k rx).laneState q rx = 9 := by
  unfold State.spareMapped State.laneState
  have h1 := State.put_memWf (a := Reg.LNK_PORT_TXMAP q) (lo := 4 * k) (n := 4) (v := 8) hm
  generalize s.put (Reg.LNK_PORT_TXMAP q) (4 * k) 4 8 = s1 at h1 ⊢
  rw [State.aside_portLeavesUp.fld (by unfold Reg.LNK_LANE_STAT linkReg; omega), State.clrBit,
    State.fld_put_ne (by unfold Reg.LNK_LANE_STAT Reg.LNK_PORT_STAT; omega),
    State.fld_put_ne (by unfold Reg.LNK_LANE_STAT Reg.LNK_PORT_STAT; omega), State.setBit,
    State.fld_put_ne (by unfold Reg.LNK_LANE_STAT Reg.LNK_PORT_STAT; omega), State.clrBit, State.laneStateSet,
    State.fld_put_apart (State.put_memWf h1) (by decide) (by decide)]
  exact State.fld_put_same s1 _ 28 4 9 h1 (by decide)

/-- The spare takes over a logical lane (R260-R262). -/
theorem State.startSparing_moves {ack : Bool} (hk : k < 8) (hu : s.spareUsed q = false) (hc : (s.port q).cmd = 0) :
    ∃ t, s.startSparing q k ack = (t, true) ∧ t.txLane q k = 8 ∧ t.spareUsed q = true ∧ (t.port q).sparing = k + 1 ∧
      (s.rxLane q k < 9 → s.rxLane q k ∉ s.spareLanes q → t.laneState q (s.rxLane q k) = 9) := by
  have he : ((s.endSeq q).endTest q 8).memWf = true :=
    (State.endTest_good _ q 8 (State.endSeq_good s q (Good.all s hm))).mem
  have hin : ∀ j, j < 9 → ((s.sparePrepared q k).lane q j).inSeq = false := fun j hj => by
    rw [State.sparePrepared, State.lane, State.spareMapped_lnk, State.endTest_lnk]
    exact (congrArg (fun x : LaneAt => x.1.inSeq) ((State.links_endSeq (R := fun _ => False) hm).lanes j hj)).trans
      (laneEnded_inSeq _)
  have hw := State.spareMapped_memWf (q := q) (k := k) (rx := s.rxLane q k) he
  have htx := State.spareMapped_txLane (rx := s.rxLane q k) he hq hk
  have hsp := State.spareMapped_spareUsed (k := k) (rx := s.rxLane q k) he hq
  have hst := State.spareMapped_laneState (k := k) (rx := s.rxLane q k) he hq
  rw [State.startSparing_eq hu hc]
  rw [← State.sparePrepared] at hw htx hsp hst
  generalize s.sparePrepared q k = u at hin hw htx hsp hst ⊢
  obtain ⟨w, h⟩ := State.links_startTrain (q := q) (R := fun _ => True) (phase := 2) (f := Port.spares k ack) hw
    (s.spareLanes_nodup (q := q))
  refine ⟨_, rfl, ?_, ?_, ?_, fun h9 hn => ?_⟩
  · rw [State.txLane, State.fld, h.portReg hq (by simp [portRegs])]
    exact htx
  · rw [State.spareUsed, State.bit, h.portReg hq List.mem_cons_self]
    exact hsp
  · rw [h.port, Port.begun, Port.spares]
  · rw [State.laneState_eq, h.lanes _ h9, if_neg hn, laneEnded, inSeqOnly, if_neg (by rw [State.laneAt, hin _ h9]; decide)]
    exact hst h9

end

/-! ## The reports of a lane and of the neighbour -/

/-- A lane in service goes down on a port that firmware may not train, and that does not train (R258). -/
theorem exec_cdrLoss_stays (hm : s.memWf = true) (hq : q < 16) (hi : i < 9) (h6 : s.laneState q i = 6)
    (hp : (s.port q).phase = 0) (ha : s.autoPort q = false) :
    ∃ t, exec (.cdrLoss q i) s = .next t ∧ t.laneState q i = 0 ∧ (t.lane q i).cdr = false ∧
      (s.rxLogical q i ≠ 8 → t.portUp q = false) := by
  have he : s.laneDown q i = s.laneGone q i := by
    rw [State.laneDown_eq (by omega) (by omega) (by omega)]
    exact State.downCure_none (by omega) (by rw [State.port_laneGone hq hm, hp]) (by rw [State.autoPort_laneGone hq hm, ha])
  have hl := (State.links_laneGone (i := i) (R := fun _ => False) hq hm id id).lanes i hi
  rw [atLane, if_pos rfl] at hl
  refine ⟨_, congrArg Host.Outcome.next he, State.laneState_laneGone hq hm hi, ?_, fun hr => (State.down_laneGone hq hm hr).2⟩
  exact congrArg (fun x : LaneAt => x.1.cdr) hl

/-- On one that it may train firmware retrains the lane alone (R258). -/
theorem exec_cdrLoss_retrains (hm : s.memWf = true) (hq : q < 16) (hi : i < 9) (h6 : s.laneState q i = 6)
    (hp : (s.port q).phase = 0) (ha : s.autoPort q = true) (hc : (s.port q).cmd = 0) (hs : (s.port q).sparing = 0) :
    ∃ t, exec (.cdrLoss q i) s = .next t ∧ t.laneState q i = 1 ∧ (t.port q).phase = 1 ∧ (t.port q).only = i + 1 ∧
      (s.rxLogical q i ≠ 8 → t.portUp q = false) := by
  have hport := State.port_laneGone (i := i) hq hm
  have he : s.laneDown q i = (s.laneGone q i).retrain q (i + 1) [i] := by
    rw [State.laneDown_eq (by omega) (by omega) (by omega)]
    exact State.downCure_lane (by omega) (by rw [hport, hp]) (by rw [State.autoPort_laneGone hq hm, ha])
      (by rw [hport, hc]) (by rw [hport, hs])
  obtain ⟨hst, hph, ho⟩ := State.retrain_starts (q := q) (only := i + 1)
    (State.links_laneGone (i := i) (R := fun _ => False) hq hm id id).mem (List.nodup_singleton i) List.mem_cons_self hi
  exact ⟨_, congrArg Host.Outcome.next he, hst, hph, ho,
    fun hr => (State.down_laneGone hq hm hr).retrain hq (List.nodup_singleton i)⟩

/-- A lane in low-power idle has its whole port retrained (R259). -/
theorem exec_cdrLoss_idle (hm : s.memWf = true) (hq : q < 16) (hi : i < 9) (h8 : s.laneState q i = 8)
    (hc : (s.port q).cmd = 0) (hs : (s.port q).sparing = 0) :
    ∃ t, exec (.cdrLoss q i) s = .next t ∧ t.laneState q i = 1 ∧ (t.port q).phase = 1 ∧ (t.port q).only = 0 := by
  have hport := State.port_laneGone (i := i) hq hm
  have h0 := State.laneState_laneGone (i := i) hq hm hi
  have he : s.laneDown q i = (s.laneGone q i).retrain q 0 ((s.laneGone q i).trainable q false) := by
    rw [State.laneDown_eq (by omega) (by omega) (by omega), h8]
    exact State.downCure_port (by rw [hport, hc]) (by rw [hport, hs])
  have hin : i ∈ (s.laneGone q i).trainable q false := State.mem_trainable.2 ⟨hi, by omega, .inr (by omega)⟩
  obtain ⟨hst, hph, ho⟩ := State.retrain_starts (q := q) (only := 0)
    (State.links_laneGone (i := i) (R := fun _ => False) hq hm id id).mem State.trainable_nodup hin hi
  exact ⟨_, congrArg Host.Outcome.next he, hst, hph, ho⟩

/-- SPARE_REQ is followed where it is allowed (R261). -/
theorem State.spareReq_moves (hm : s.memWf = true) (hq : q < 16) (ha : s.spareAllowed q ws = true)
    (hu : s.spareUsed q = false) (hc : (s.port q).cmd = 0) :
    (s.spareReq q ws).txLane q (mgmtLane ws) = 8 ∧ (s.spareReq q ws).spareUsed q = true ∧
      ((s.spareReq q ws).port q).sparing = mgmtLane ws + 1 ∧ (s.rxLane q (mgmtLane ws) < 9 →
        s.rxLane q (mgmtLane ws) ∉ s.spareLanes q → (s.spareReq q ws).laneState q (s.rxLane q (mgmtLane ws)) = 9) := by
  obtain ⟨t, ht, hspec⟩ := State.startSparing_moves (ack := true) hm hq (k := mgmtLane ws) nfld_lt hu hc
  have he : s.spareReq q ws = t.holdLane q (mgmtLane ws) := by
    unfold State.spareReq
    dsimp only
    rw [if_neg (by rw [ha]; decide), if_neg (by rw [hu]; exact fun h => Bool.false_ne_true h.1), ht]
  have hr : (t.holdLane q (mgmtLane ws)).regs = t.regs := by
    unfold State.holdLane
    split <;> rfl
  have hl : (t.holdLane q (mgmtLane ws)).lnk = t.lnk := by
    unfold State.holdLane
    split <;> rfl
  rw [he, State.txLane, State.fld_of_regs hr, State.spareUsed, State.bit_of_regs hr, State.port_of_lnk hl, State.laneState,
    State.fld_of_regs hr]
  exact hspec

/-- LOOP_REQ puts the spare in test, in far-end loopback (R268). -/
theorem State.loopReq_starts (hm : s.memWf = true) (hq : q < 16) (hw : mgmtStatus ws = 1) (hr : s.testRefused q 8 = false)
    (h7 : s.laneState q 8 ≠ 7) (h : (s.lane q 8).inSeq = false ∨
      (s.port q).only = 0 ∧ (s.autoPort q = false ∨ ∀ j, j < 9 → s.bit (Reg.LNK_LANE_STAT q j) 25 = false)) :
    (s.loopReq q ws).laneState q 8 = 7 ∧ (s.loopReq q ws).fld (Reg.LNK_LANE_CTRL q 8) 28 2 = 3 := by
  have hst := (State.setTest_enters hm hq (by decide) hr h7 h).1
  have hw' := (State.setTest_good s q 8 true (Good.records hm) rfl).mem
  rw [State.loopReq, if_pos hw, hr, if_neg Bool.false_ne_true, State.laneState]
  generalize s.setTest q 8 true = u at hst hw' ⊢
  have ha : State.Aside (u.put (Reg.LNK_LANE_CTRL q 8) 28 2 3) ((u.put (Reg.LNK_LANE_CTRL q 8) 28 2 3).sendMgmt q 4 0 0 0 0) :=
    State.Aside.refl.sendMgmt
  refine ⟨?_, ?_⟩
  · rw [ha.fld (by unfold Reg.LNK_LANE_STAT linkReg; omega),
      State.fld_put_ne (by unfold Reg.LNK_LANE_STAT Reg.LNK_LANE_CTRL; omega)]
    exact hst
  · rw [ha.fld (by unfold Reg.LNK_LANE_CTRL linkReg; omega)]
    exact State.fld_put_same u _ 28 2 3 hw' (by decide)

end

/-- Settles O39: what a lane reports is `exec_cdrLoss_stays`, `exec_cdrLoss_retrains` and `exec_cdrLoss_idle`, the checker
`State.chkBits_counts`, and the neighbour's requests are `State.spareReq_moves` and `State.loopReq_starts`. -/
theorem lanesFollowTheirNeighbour : Obligations.LanesFollowTheirNeighbour := by
  unfold Obligations.LanesFollowTheirNeighbour
  intro s q i ws hm hq hi
  refine ⟨fun h => ?_, fun h7 => ?_, fun h6 hp => ⟨fun ha => exec_cdrLoss_stays hm hq hi h6 hp ha,
      fun ha hc hs => exec_cdrLoss_retrains hm hq hi h6 hp ha hc hs⟩, fun h8 hc hs => exec_cdrLoss_idle hm hq hi h8 hc hs,
    fun hc he hs hp bits => ⟨_, rfl, State.chkBits_counts hm hq hi hc he hs hp bits⟩, fun ha => ?_,
    fun ha hu hc => ⟨_, rfl, State.spareReq_moves hm hq ha hu hc⟩, fun hw => ?_, fun p h hw hp hh hr => ?_, fun hw hr => ?_,
    fun hw hr h7 h => ⟨_, rfl, State.loopReq_starts hm hq hw hr h7 h⟩, fun hw hc hs => ?_, fun hv => ?_, fun hv => ?_⟩
  · exact congrArg Host.Outcome.next (if_pos h)
  · have he : s.laneDown q i = s.onLane q i fun l => { l with cdr := false } := by
      unfold State.laneDown
      dsimp only
      rw [if_neg (by omega), if_pos h7]
    refine ⟨_, congrArg Host.Outcome.next he, rfl, ?_⟩
    rw [State.lane_onLane s q i q i _ hm, if_pos rfl]
  · exact congrArg Host.Outcome.next (if_pos ha)
  · exact congrArg Host.Outcome.next (if_pos hw)
  · have he : s.spareAck q ws =
        s.onCmt p fun c => { c with hold := c.hold.map fun h => if h.recovery then { h with failed := true } else h } := by
      unfold State.spareAck
      rw [if_neg hw, hp]
    refine ⟨_, congrArg Host.Outcome.next he, ?_⟩
    rw [State.onCmt, State.plot_onPlot_self hm]
    simp only [hh, Option.map_some, hr, if_true]
  · have he : s.loopReq q ws = s.sendMgmt q 4 0 1 0 0 := by rw [State.loopReq, if_pos hw, if_pos hr]
    have ha : State.Aside s (s.sendMgmt q 4 0 1 0 0) := State.Aside.refl.sendMgmt
    exact ⟨_, congrArg Host.Outcome.next he, ha.lnk, ha.plots⟩
  · have he : s.loopAck q ws =
        (s.finish (s.port q).testCmd Status.busy 0).onPort q fun y => { y with testCmd := 0 } := if_pos ⟨hw, hc⟩
    refine ⟨_, congrArg Host.Outcome.next he, State.finish_ended s _ Status.busy 0 hs, ?_⟩
    rw [State.port_onPort _ q q _ (State.finish_memWf hm), if_pos rfl]
  · have he : s.laneHealth q ws = s.raiseLnk q 0 6 := if_pos hv
    have ha : State.Aside (s.setBit Reg.LNK_EVT 6) (s.raiseLnk q 0 6) := State.aside_raiseLnk
    refine ⟨_, congrArg Host.Outcome.next he, ?_, ha.lnk⟩
    rw [ha.bit (by decide)]
    exact State.bit_setBit s _ 6 hm (by decide)
  · exact congrArg Host.Outcome.next (if_neg hv)

end Sys2Proof.Machine

end

section

/-!
# Phases of training that close

SUPPORT for the statements about lanes and ports: a phase that is closed goes on with the lanes that have passed it, or ends the
training (R247, R250).
-/

namespace Sys2Proof.Machine
open Sys2Proof

section
variable {q i j : Nat} {s t : State}

/-- The lanes that have not passed the phase in progress leave the training. -/
def State.lateLeft (s : State) (q : Nat) : State :=
  ((s.seqLanes q).filter fun i => !(s.lane q i).passed).foldl (fun s i => s.leaveSeq q i) s

theorem State.closePhase_eq (hp : (s.port q).phase ≠ 0) (h5 : (s.port q).phase ≠ 5) :
    s.closePhase q = if (s.lateLeft q).seqEnough q then (s.lateLeft q).nextPhase q
      else (s.lateLeft q).trainFail q (phaseCode (s.port q).phase) := by
  unfold State.closePhase
  dsimp only
  rw [if_neg hp, if_neg h5]
  rfl

/-- LATENCY has no lanes that go on. -/
theorem State.closePhase_latency (h5 : (s.port q).phase = 5) : s.closePhase q = s.trainFail q (phaseCode 5) := by
  unfold State.closePhase
  simp [h5]

/-- A training of the whole port goes on with eight lanes (R247). -/
theorem State.seqEnough_whole (ho : (s.port q).only = 0) (hs : (s.port q).sparing = 0) :
    s.seqEnough q = decide (8 ≤ (s.seqLanes q).length) := by
  unfold State.seqEnough
  simp [ho, hs]

section
variable (hm : s.memWf = true)
include hm

theorem State.links_lateLeft {R : Nat → Prop} : State.Links q R
    (fun j x => if j ∈ (s.seqLanes q).filter fun i => !(s.lane q i).passed then laneTo (fun _ => 0) Lane.left x else x) id s
    (s.lateLeft q) :=
  State.links_foldl (fun _ _ _ hm => State.links_leaveSeq hm) (State.seqLanes_nodup.filter _) hm

/-- Those that have passed remain. -/
theorem State.seqLanes_lateLeft : (s.lateLeft q).seqLanes q = (s.seqLanes q).filter fun j => (s.lane q j).passed := by
  rw [State.seqLanes, State.seqLanes, List.filter_filter]
  refine List.filter_congr fun j hj => ?_
  have hl := (State.links_lateLeft (q := q) (R := fun _ => False) hm).lanes j (mem_laneIds.1 hj)
  have hin : ((s.lateLeft q).lane q j).inSeq = _ := congrArg (fun x : LaneAt => x.1.inSeq) hl
  rw [hin]
  split
  next hlate =>
    have := (List.mem_filter.1 hlate).2
    rw [Bool.not_eq_true'] at this
    rw [this, Bool.false_and]
    rfl
  next hlate =>
    rw [List.mem_filter, State.mem_seqLanes] at hlate
    change (s.lane q j).inSeq = _
    cases hs : (s.lane q j).inSeq with
    | false => rw [Bool.and_false]
    | true =>
      rw [Bool.and_true]
      by_contra hp
      exact hlate ⟨⟨mem_laneIds.1 hj, hs⟩, by rw [Bool.eq_false_of_not_eq_true fun h => hp h.symm]; rfl⟩

/-- The phases CDR and ALIGN are followed by the next. -/
theorem State.nextPhase_port (h : (s.port q).phase = 1 ∨ (s.port q).phase = 2) :
    ∃ w, (s.nextPhase q).port q = Port.begun ((s.port q).phase + 1) w (s.port q) := by
  have hr := State.links_replaceFailed (q := q) (R := fun _ => False) hm fun _ _ => id
  have hp : (s.replaceFailed q).port q = s.port q := hr.port
  have hb : ∀ n, ∃ w, ((s.replaceFailed q).beginPhase q n).port q = Port.begun n w (s.port q) := fun n =>
    ⟨_, by rw [(State.links_beginPhase (R := fun _ => False) hr.mem).port, hp]⟩
  dsimp only [State.nextPhase]
  obtain h | h := h
  · rw [hp, h]
    exact hb 2
  · rw [hp, h]
    exact hb 3

/-- CDR or ALIGN of a whole port closed with eight lanes goes on (R247, R250). -/
theorem State.closePhase_phase (h : (s.port q).phase = 1 ∨ (s.port q).phase = 2) (ho : (s.port q).only = 0)
    (hs : (s.port q).sparing = 0) (h8 : 8 ≤ ((s.seqLanes q).filter fun j => (s.lane q j).passed).length) :
    ((s.closePhase q).port q).phase = (s.port q).phase + 1 := by
  have hl := State.links_lateLeft (q := q) (R := fun _ => False) hm
  have hp : (s.lateLeft q).port q = s.port q := hl.port
  have he : (s.lateLeft q).seqEnough q = true := by
    rw [State.seqEnough_whole (by rw [hp, ho]) (by rw [hp, hs]), State.seqLanes_lateLeft hm]
    exact decide_eq_true h8
  obtain ⟨w, hn⟩ := State.nextPhase_port hl.mem (by rw [hp]; exact h)
  rw [State.closePhase_eq (by omega) (by omega), if_pos he, hn, Port.begun, hp]

end

end

end Sys2Proof.Machine

end

section

/-!
# Register writes of lanes and ports

PROVES O38 (spec R250, R256, R266, R267, R269).
-/

namespace Sys2Proof.Machine
open Sys2Proof

/-! ## The registers of lanes and ports are the device's (R506) -/

/-- A row of the device with given indices and reserved bits. -/
def deviceRow (is : List Nat) (m : Nat) (g : RegRow × List Nat) : Bool :=
  decide (g.1.cls = .device ∧ g.2 = is ∧ reservedMask g.1.fields = m)

theorem regAt_laneCtrl : ∀ q < 16, ∀ i < 9,
    (regAt (Reg.LNK_LANE_CTRL q i)).map (deviceRow [q, i] 0x3ffffff) = some true := by decide +kernel

theorem regAt_laneTest : ∀ q < 16, ∀ i < 9,
    (regAt (Reg.LNK_LANE_TEST q i)).map (deviceRow [q, i] 0x1fffff) = some true := by decide +kernel

theorem regAt_portCtrl : ∀ q < 16, (regAt (Reg.LNK_PORT_CTRL q)).map (deviceRow [q] 0xfffffff) = some true := by decide +kernel

theorem regReset_laneStat : ∀ q < 16, ∀ i < 9, (regReset (Reg.LNK_LANE_STAT q i)).toNat = 0 := by decide +kernel

section
variable {q i j v : Nat} {r : RegRow} {s t : State}

/-- Once firmware runs PF0 may write the device's registers. -/
theorem State.gate_device {a m : Nat} {is : List Nat} (hr : s.running = true) (h4 : a % 4 = 0)
    (h : (regAt a).map (deviceRow is m) = some true) :
    ∃ r, s.gate 0 a = .inr (r, is) ∧ r.cls = .device ∧ reservedMask r.fields = m := by
  obtain ⟨⟨r, is'⟩, hreg, he⟩ := Option.map_eq_some_iff.1 h
  obtain ⟨hcls, rfl, hmask⟩ := of_decide_eq_true he
  refine ⟨r, ?_, hcls, hmask⟩
  rw [State.gate, if_neg (by omega), hr, if_neg (by simp), hreg]
  dsimp only
  rw [show r.cls = .device from hcls]
  rfl

theorem State.rsvdCheck_eq (h : v &&& reservedMask r.fields = 0) : s.rsvdCheck 0 v r.fields = s := if_neg (not_not.2 h)

theorem State.rn_rgResetRange_in {lo n a : Nat} (h : lo ≤ a ∧ a < lo + n) :
    (s.rgResetRange lo n).rn a = (regReset a).toNat := by
  rw [State.rn, State.rg, State.rgResetRange, Laws.cget_cclear_in h.1 h.2]
  exact congrArg BitVec.toNat BitVec.zero_xor

theorem State.rn_rgResetRange_out {lo n a : Nat} (h : a < lo ∨ lo + n ≤ a) : (s.rgResetRange lo n).rn a = s.rn a := by
  rw [State.rn, State.rn, State.rg, State.rg, State.rgResetRange, Laws.cget_cclear_out h]

theorem State.testRefused_put {a lo n v : Nat} (ha : 0x100000 ≤ a) (hc : Reg.LNK_PORT_STAT q ≠ a) :
    (s.put a lo n v).testRefused q i = s.testRefused q i := by
  have hr : (s.put a lo n v).portReleased q = s.portReleased q := State.portReleased_of (State.rgSet_plots s _ _) fun p hp =>
    State.rn_put_ne s a _ lo n v (by unfold Reg.SOW_PLOT_STAT; omega)
  rw [State.testRefused, State.testRefused, hr, State.spareUsed, State.spareUsed, State.bit_put_ne hc]

/-! ## LNK_LANE_CTRL (R250, R267, R269) -/

/-- A bit slip, in a write that leaves the test mode as it is. -/
theorem State.laneCtrlWrite_slip (hm : s.memWf = true)
    (hv : v = 2 ^ 30 + 2 ^ 27 * b2n (s.bit (Reg.LNK_LANE_CTRL q i) 27)) (hr : v &&& reservedMask r.fields = 0) :
    ((s.laneCtrlWrite 0 v r [q, i]).lane q i).bound = ((s.lane q i).bound + 1) % 896 ∧
      ((s.laneCtrlWrite 0 v r [q, i]).lane q i).passed = false ∧
      (s.laneCtrlWrite 0 v r [q, i]).bit (Reg.LNK_LANE_STAT q i) 27 = false := by
  have hbits : v.testBit 31 = false ∧ v.testBit 27 = s.bit (Reg.LNK_LANE_CTRL q i) 27 ∧ nfld v 28 2 = 0 ∧
      v.testBit 30 = true := by
    rw [hv]
    cases s.bit (Reg.LNK_LANE_CTRL q i) 27 <;> decide
  obtain ⟨h31, h27, h28, h30⟩ := hbits
  have he : s.laneCtrlWrite 0 v r [q, i] =
      ((((s.putBit (Reg.LNK_LANE_CTRL q i) 26 (v.testBit 26)).put (Reg.LNK_LANE_CTRL q i) 28 2 0).onLane q i
        fun l => { l.slip with passed := false }).clrBit (Reg.LNK_LANE_STAT q i) 27) := by
    unfold State.laneCtrlWrite
    simp only [List.getD_cons_zero, List.getD_cons_succ, State.rsvdCheck_eq hr, h31, h27, h28, h30]
    simp
  rw [he]
  have hw : ((s.putBit (Reg.LNK_LANE_CTRL q i) 26 (v.testBit 26)).put (Reg.LNK_LANE_CTRL q i) 28 2 0).memWf = true :=
    State.put_memWf (State.put_memWf hm)
  have hl : ((s.putBit (Reg.LNK_LANE_CTRL q i) 26 (v.testBit 26)).put (Reg.LNK_LANE_CTRL q i) 28 2 0).lane q i = s.lane q i := by
    rw [State.lane, State.lane, State.put_lnk, State.putBit_lnk]
  generalize (s.putBit (Reg.LNK_LANE_CTRL q i) 26 (v.testBit 26)).put (Reg.LNK_LANE_CTRL q i) 28 2 0 = u at hw hl ⊢
  have hs : ((u.onLane q i fun l => { l.slip with passed := false }).clrBit (Reg.LNK_LANE_STAT q i) 27).lane q i =
      { (s.lane q i).slip with passed := false } := by
    rw [State.lane, State.clrBit_lnk, ← State.lane, State.lane_onLane u q i q i _ hw, if_pos rfl, hl]
  exact ⟨by rw [hs]; rfl, by rw [hs], State.bit_clrBit _ _ 27 (State.onLane_memWf hw) (by decide)⟩

/-- A write that asks for a lane's reset. -/
theorem State.laneCtrlWrite_reset (hr : 2 ^ 31 &&& reservedMask r.fields = 0) :
    s.laneCtrlWrite 0 (2 ^ 31) r [q, i] = s.laneReset q i := by
  unfold State.laneCtrlWrite
  rw [State.rsvdCheck_eq hr, if_pos (by decide)]
  rfl

/-- A write that asks for test mode where it is refused. -/
theorem State.laneCtrlWrite_refused (ht : s.testRefused q i = true) (hc : s.bit (Reg.LNK_LANE_CTRL q i) 27 = false)
    (hr : 2 ^ 27 &&& reservedMask r.fields = 0) :
    s.laneCtrlWrite 0 (2 ^ 27) r [q, i] = s.setBit (Reg.LNK_LANE_STAT q i) 23 := by
  unfold State.laneCtrlWrite
  simp only [List.getD_cons_zero, List.getD_cons_succ, State.rsvdCheck_eq hr, ht, hc]
  rw [if_neg (by decide), if_pos (by decide)]

/-- A write that asks for test mode where it is allowed. -/
theorem State.laneCtrlWrite_test (ht : s.testRefused q i = false) (hc : s.bit (Reg.LNK_LANE_CTRL q i) 27 = false)
    (hr : 2 ^ 27 &&& reservedMask r.fields = 0) :
    s.laneCtrlWrite 0 (2 ^ 27) r [q, i] =
      ((s.put (Reg.LNK_LANE_CTRL q i) 26 1 0).setTest q i true).put (Reg.LNK_LANE_CTRL q i) 28 2 0 := by
  unfold State.laneCtrlWrite
  simp only [List.getD_cons_zero, List.getD_cons_succ, State.rsvdCheck_eq hr, ht, hc]
  rw [if_neg (by decide), if_neg (by decide), if_neg (by decide), if_neg fun h => h.1 (by decide), if_neg (by decide)]
  rfl

theorem State.laneCtrlWrite_enters (hm : s.memWf = true) (hq : q < 16) (hi : i < 9) (ht : s.testRefused q i = false)
    (h7 : s.laneState q i ≠ 7) (hc : s.bit (Reg.LNK_LANE_CTRL q i) 27 = false) (hr : 2 ^ 27 &&& reservedMask r.fields = 0)
    (h : (s.lane q i).inSeq = false ∨
      (s.port q).only = 0 ∧ (s.autoPort q = false ∨ ∀ j, j < 9 → s.bit (Reg.LNK_LANE_STAT q j) 25 = false)) :
    (s.laneCtrlWrite 0 (2 ^ 27) r [q, i]).laneState q i = 7 ∧
      (s.laneCtrlWrite 0 (2 ^ 27) r [q, i]).bit (Reg.LNK_LANE_CTRL q i) 27 = true := by
  have ha : ∀ j, Reg.LNK_LANE_STAT q j ≠ Reg.LNK_LANE_CTRL q i := fun j => by
    unfold Reg.LNK_LANE_STAT Reg.LNK_LANE_CTRL; omega
  have hk : 0x100000 ≤ Reg.LNK_LANE_CTRL q i := by unfold Reg.LNK_LANE_CTRL; omega
  rw [State.laneCtrlWrite_test ht hc hr]
  have hu := State.put_memWf (a := Reg.LNK_LANE_CTRL q i) (lo := 26) (n := 1) (v := 0) hm
  have h1 : (s.put (Reg.LNK_LANE_CTRL q i) 26 1 0).testRefused q i = false :=
    (State.testRefused_put hk (by unfold Reg.LNK_PORT_STAT Reg.LNK_LANE_CTRL; omega)).trans ht
  have h2 : (s.put (Reg.LNK_LANE_CTRL q i) 26 1 0).laneState q i ≠ 7 := by
    rw [State.laneState, State.fld_put_ne (ha i)]
    exact h7
  have h3 : ((s.put (Reg.LNK_LANE_CTRL q i) 26 1 0).lane q i).inSeq = false ∨
      ((s.put (Reg.LNK_LANE_CTRL q i) 26 1 0).port q).only = 0 ∧ ((s.put (Reg.LNK_LANE_CTRL q i) 26 1 0).autoPort q = false ∨
        ∀ j, j < 9 → (s.put (Reg.LNK_LANE_CTRL q i) 26 1 0).bit (Reg.LNK_LANE_STAT q j) 25 = false) := by
    rw [State.autoPort_put hk (by unfold Reg.LNK_PORT_CTRL Reg.LNK_LANE_CTRL; omega)]
    exact h.imp id (And.imp id (Or.imp_right fun hb j hj => (State.bit_put_ne (ha j)).trans (hb j hj)))
  generalize s.put (Reg.LNK_LANE_CTRL q i) 26 1 0 = u at hu h1 h2 h3 ⊢
  obtain ⟨hst, hct⟩ := State.setTest_enters hu hq hi h1 h2 h3
  have hw := (State.setTest_good u q i true (Good.records hu) rfl).mem
  refine ⟨?_, ?_⟩
  · rw [State.laneState, State.fld_put_ne (ha i)]
    exact hst
  · rw [State.bit_put_apart hw (by decide) (by decide)]
    exact hct

/-! ## Reset of a lane (R256, R269) -/

/-- The training that a lane takes part in ends with its reset. -/
def State.resetEnds (s : State) (q i : Nat) : State :=
  if (s.port q).phase ≠ 0 ∧ (s.lane q i).inSeq = true then
    (s.endTraining q).finishOpt (s.port q).cmd Status.abortedCmd 0
  else s

/-- A lane is forgotten. -/
def State.laneForgotten (s : State) (q i : Nat) : State :=
  let s2 := (s.rgResetRange (Reg.LNK_LANE_CTRL q i) 0x50).onLane q i fun _ => {}
  { s2 with xch := { s2.xch with txAlive := cset 0 s2.xch.txAlive (q * 9 + i) 0,
                                 txGrid := cdel s2.xch.txGrid (q * 9 + i),
                                 rxAlive := cset 0 s2.xch.rxAlive (q * 9 + i) 0 } }

theorem State.laneReset_eq (h : s.laneServes q i = false) : s.laneReset q i =
    if s.laneMapped q i then ((s.resetEnds q i).laneForgotten q i).portLeavesUp q else (s.resetEnds q i).laneForgotten q i := by
  unfold State.laneReset
  rw [h, if_neg Bool.false_ne_true]
  rfl

section
variable (hm : s.memWf = true) (hq : q < 16)
include hm hq

theorem State.links_laneForgotten (hi : i < 9) :
    State.Links q (fun _ => False) (atLane i fun _ => ({}, 0)) id s (s.laneForgotten q i) := by
  have h1 : State.Links q (fun _ => False) (atLane i fun x => (x.1, 0)) id s (s.rgResetRange (Reg.LNK_LANE_CTRL q i) 0x50) := by
    refine ⟨(State.rgResetRange_good s _ _ (Good.all s hm)).mem, fun j hj => ?_, rfl, fun _ _ _ h => h.elim, rfl, le_rfl⟩
    rw [atLane, State.laneAt]
    split
    next e =>
      rw [e, State.rn_rgResetRange_in (by unfold Reg.LNK_LANE_STAT Reg.LNK_LANE_CTRL; omega), regReset_laneStat q hq i hi]
      rfl
    next e =>
      rw [State.rn_rgResetRange_out (by unfold Reg.LNK_LANE_STAT Reg.LNK_LANE_CTRL; omega)]
      rfl
  refine ((h1.andThen fun hm => State.links_onLane (i := i) (f := fun _ => {}) hm).andThen fun hm =>
    State.links_setXch hm).congr (fun j _ => ?_) rfl
  simp only [atLane]
  split <;> rfl

/-- What a training is after the reset of a lane that takes part. -/
theorem State.resetEnds_spec : (s.resetEnds q i).memWf = true ∧
    ((s.port q).phase ≠ 0 → (s.lane q i).inSeq = true →
      ((s.resetEnds q i).port q).phase = 0 ∧ ∀ j, j < 9 → ((s.resetEnds q i).lane q j).inSeq = false) := by
  unfold State.resetEnds
  split
  · have he := State.links_endTraining (R := fun _ => False) hq hm id
    have hf := he.andThen fun hm => State.Links.ite (c := (s.port q).cmd = 0) (.refl hm)
      (State.links_finish (id' := (s.port q).cmd) (st := Status.abortedCmd) (r := 0) hq hm)
    refine ⟨hf.mem, fun _ _ => ⟨congrArg Port.phase hf.port, fun j hj => ?_⟩⟩
    exact (congrArg (fun x : LaneAt => x.1.inSeq) (hf.lanes j hj)).trans (laneEnded_inSeq _)
  next h => exact ⟨hm, fun hp hl => absurd ⟨hp, hl⟩ h⟩

/-- A lane that serves no released port is forgotten, and ends the training that it takes part in. -/
theorem State.laneReset_forgets (hi : i < 9) (h : s.laneServes q i = false) :
    (s.laneReset q i).lane q i = {} ∧ (s.laneReset q i).laneState q i = 0 ∧
      ((s.port q).phase ≠ 0 → (s.lane q i).inSeq = true →
        ((s.laneReset q i).port q).phase = 0 ∧ ∀ j, j < 9 → ((s.laneReset q i).lane q j).inSeq = false) := by
  obtain ⟨hw, htr⟩ := State.resetEnds_spec (i := i) hm hq
  have hl : State.Links q (fun _ => False) (atLane i fun _ => ({}, 0)) id (s.resetEnds q i) (s.laneReset q i) := by
    rw [State.laneReset_eq h]
    have hf := State.links_laneForgotten hw hq hi
    exact State.Links.ite (hf.andThen fun hm => State.links_portLeavesUp hq hm id) hf
  have hlane := hl.lanes i hi
  rw [atLane, if_pos rfl] at hlane
  refine ⟨congrArg Prod.fst hlane, ?_, fun hp hin => ?_⟩
  · rw [State.laneState_eq, hlane]
    rfl
  · obtain ⟨hph, hj⟩ := htr hp hin
    refine ⟨(congrArg Port.phase hl.port).trans hph, fun j h9 => ?_⟩
    refine (congrArg (fun x : LaneAt => x.1.inSeq) (hl.lanes j h9)).trans ?_
    rw [atLane]
    split
    · rfl
    · exact hj j h9

end

/-! ## LNK_LANE_TEST and LNK_PORT_CTRL (R250, R266) -/

/-- INJ_ONE of a lane in test arms one more error. -/
theorem State.laneTestWrite_injects (hm : s.memWf = true) (hc : s.bit (Reg.LNK_LANE_CTRL q i) 27 = true)
    (hr : 2 ^ 27 &&& reservedMask r.fields = 0) :
    (s.laneTestWrite 0 (2 ^ 27) r [q, i]).lane q i = { s.lane q i with injOne := (s.lane q i).injOne + 1 } := by
  have he : s.laneTestWrite 0 (2 ^ 27) r [q, i] =
      ((s.rnSet (Reg.LNK_LANE_TEST q i) (fieldsWrite false (2 ^ 27) r.fields (s.rn (Reg.LNK_LANE_TEST q i)))).onLane q i
        fun l => { l with injOne := l.injOne + 1 }).clrBit (Reg.LNK_LANE_TEST q i) 21 := by
    unfold State.laneTestWrite
    simp only [List.getD_cons_zero, List.getD_cons_succ, State.rsvdCheck_eq hr, hc]
    rw [if_pos (.inl (by decide)), if_pos (by decide)]
  rw [he, State.lane, State.clrBit_lnk, ← State.lane, State.lane_onLane _ q i q i _ (State.rnSet_memWf hm), if_pos rfl]
  rfl

/-- ALIGN_DONE closes a manual alignment. -/
theorem State.portCtrlWrite_closes (hcls : r.cls = .device) (hr : 2 ^ 28 &&& reservedMask r.fields = 0)
    (hp : (s.port q).phase = 2) (hmode : (s.port q).mode = 2) :
    ∃ w, s.portCtrlWrite 0 (2 ^ 28) r [q] =
      ((s.rnSet (Reg.LNK_PORT_CTRL q) w).clrBit (Reg.LNK_PORT_CTRL q) 28).closePhase q := by
  obtain ⟨w, hw⟩ : ∃ w, s.plainWrite 0 (Reg.LNK_PORT_CTRL q) (2 ^ 28) r [q] = s.rnSet (Reg.LNK_PORT_CTRL q) w := by
    unfold State.plainWrite
    simp only [State.rsvdCheck_eq hr]
    rw [if_neg (by unfold Reg.LNK_PORT_CTRL Reg.DEV_STAT; omega), if_neg fun h => ?_]
    · exact ⟨_, rfl⟩
    · rw [hcls] at h
      exact h.elim (by unfold Reg.LNK_PORT_CTRL Reg.DEV_SCRATCH; omega) (by decide)
  refine ⟨w, ?_⟩
  unfold State.portCtrlWrite
  simp only [List.getD_cons_zero, hw]
  rw [if_pos ⟨by decide, hp, hmode⟩]

end

/-- Settles O38: a bit slip is `State.laneCtrlWrite_slip`, a reset `State.laneReset_forgets`, test mode
`State.laneCtrlWrite_enters`, and the end of a manual alignment is a phase that closes, `State.closePhase_phase`. -/
theorem laneRegistersAct : Obligations.LaneRegistersAct := by
  unfold Obligations.LaneRegistersAct
  intro s q i hm hq hi hrun hd
  obtain ⟨r, hctrl, -, hmask⟩ := State.gate_device hrun (by unfold Reg.LNK_LANE_CTRL; omega) (regAt_laneCtrl q hq i hi)
  obtain ⟨rt, htest, -, htmask⟩ := State.gate_device hrun (by unfold Reg.LNK_LANE_TEST; omega) (regAt_laneTest q hq i hi)
  obtain ⟨rp, hport, hpcls, hpmask⟩ := State.gate_device hrun (by unfold Reg.LNK_PORT_CTRL; omega) (regAt_portCtrl q hq)
  have h31 : 2 ^ 31 &&& reservedMask r.fields = 0 := by rw [hmask]; decide
  have h27 : 2 ^ 27 &&& reservedMask r.fields = 0 := by rw [hmask]; decide
  refine ⟨?_, fun hs => ?_, fun hs => ?_, fun ht hc => ?_, fun ht h7 hc h => ?_, fun hc => ?_, fun hp hmode ho hsp h8 => ?_⟩
  · refine ⟨_, congrArg Host.Outcome.next (State.gated_open hd hctrl), State.laneCtrlWrite_slip hm rfl ?_⟩
    rw [hmask]
    cases s.bit (Reg.LNK_LANE_CTRL q i) 27 <;> decide
  · exact ⟨_, congrArg Host.Outcome.next ((State.gated_open hd hctrl).trans (State.laneCtrlWrite_reset h31)),
      State.laneReset_forgets hm hq hi hs⟩
  · have he : s.laneReset q i = s.setBit (Reg.LNK_LANE_STAT q i) 23 := if_pos hs
    exact ⟨_, congrArg Host.Outcome.next ((State.gated_open hd hctrl).trans ((State.laneCtrlWrite_reset h31).trans he)),
      State.setBit_lnk s _ _, State.bit_setBit s _ 23 hm (by decide)⟩
  · exact ⟨_, congrArg Host.Outcome.next ((State.gated_open hd hctrl).trans (State.laneCtrlWrite_refused ht hc h27)),
      State.setBit_lnk s _ _, State.bit_setBit s _ 23 hm (by decide),
      State.rn_setBit_ne s _ _ _ (by unfold Reg.LNK_LANE_CTRL Reg.LNK_LANE_STAT; omega)⟩
  · exact ⟨_, congrArg Host.Outcome.next (State.gated_open hd hctrl), State.laneCtrlWrite_enters hm hq hi ht h7 hc h27 h⟩
  · exact ⟨_, congrArg Host.Outcome.next (State.gated_open hd htest),
      State.laneTestWrite_injects hm hc (by rw [htmask]; decide)⟩
  · obtain ⟨w, he⟩ := State.portCtrlWrite_closes hpcls (by rw [hpmask]; decide) hp hmode
    refine ⟨_, congrArg Host.Outcome.next ((State.gated_open hd hport).trans he), ?_⟩
    have hu : ((s.rnSet (Reg.LNK_PORT_CTRL q) w).clrBit (Reg.LNK_PORT_CTRL q) 28).memWf = true :=
      State.put_memWf (State.rnSet_memWf hm)
    have hl : ((s.rnSet (Reg.LNK_PORT_CTRL q) w).clrBit (Reg.LNK_PORT_CTRL q) 28).lnk = s.lnk := by
      rw [State.clrBit_lnk, State.rnSet_lnk]
    generalize (s.rnSet (Reg.LNK_PORT_CTRL q) w).clrBit (Reg.LNK_PORT_CTRL q) 28 = u at hu hl ⊢
    have hpu := State.port_of_lnk (q := q) hl
    rw [State.closePhase_phase hu (.inr (hpu ▸ hp)) (hpu ▸ ho) (hpu ▸ hsp) (by
      simp only [State.seqLanes, State.lane, hl] at h8 ⊢
      exact h8), hpu, hp]

end Sys2Proof.Machine

end

section

/-!
# The phases of a training

PROVES O37 (spec R247-R254).
-/

namespace Sys2Proof.Machine
open Sys2Proof

section
variable {q i j off : Nat} {sync : Bool} {f : BitVec 896} {s t : State}

theorem State.laneState_onLane {g : Lane → Lane} : (s.onLane q i g).laneState q j = s.laneState q j := rfl

theorem State.port_onLane {g : Lane → Lane} : (s.onLane q i g).port q = s.port q := rfl

theorem State.lane_onPort {g : Port → Port} : (s.onPort q g).lane q j = s.lane q j := rfl

theorem State.bit_onLane {g : Lane → Lane} {a k : Nat} : (s.onLane q i g).bit a k = s.bit a k := rfl

/-! ## A port that does not train -/

/-- Firmware's cure of a lane that is down trains lanes from CDR, or does nothing (R258). -/
theorem State.downCure_starts {b : Bool} {st : Nat} (h8 : st ≠ 8) (hp : (s.port q).phase = 0) :
    s.downCure q i st b = s ∨ ∃ l f, l.Nodup ∧ s.downCure q i st b = s.startTrain q l 1 f := by
  have hleft : s.seqLeft q = s := if_pos hp
  unfold State.downCure
  dsimp only
  rw [hleft, ite_self, if_neg h8, if_pos hp]
  split
  · exact .inr ⟨_, _, State.trainable_nodup, rfl⟩
  · split
    · exact .inl rfl
    · split
      · exact .inr ⟨_, _, List.nodup_singleton i, rfl⟩
      · exact .inl rfl

/-- A condition that was noted stays so while a lane goes down. -/
theorem State.bit_laneGone (hm : s.memWf = true) (hj : 0 < j ∧ j < 32) (h : s.bit Reg.LNK_EVT j = true) :
    (s.laneGone q i).bit Reg.LNK_EVT j = true := by
  have hk : ∀ u : State, u.memWf = true → u.bit Reg.LNK_EVT j = true → ∀ c : Prop, [Decidable c] →
      (if c then (u.raiseLnk q i 0).portLeavesUp q else u.raiseLnk q i 0).bit Reg.LNK_EVT j = true := fun u hu hb c _ => by
    have hr : (u.raiseLnk q i 0).bit Reg.LNK_EVT j = true := by
      rw [State.aside_raiseLnk.bit (by decide), State.setBit, State.bit_put_apart hu hj.2 (by omega)]
      exact hb
    split
    · rw [State.aside_portLeavesUp.bit (by decide), State.clrBit,
        State.bit_put_ne (by unfold Reg.LNK_EVT Reg.LNK_PORT_STAT; omega)]
      exact hr
    · exact hr
  have hb : (s.laneStateSet q i 0).bit Reg.LNK_EVT j = true :=
    (State.bit_put_ne (by unfold Reg.LNK_EVT Reg.LNK_LANE_STAT; omega)).trans h
  exact hk _ (good_upd (State.onLane_good _ q i Lane.gone (Good.all _ (State.put_memWf hm)))).mem
    ((State.bit_of_regs (s := s.laneStateSet q i 0) rfl).trans hb) _

/-- A lane in service that goes down on a port that does not train leaves service, and what was noted stays noted. -/
theorem State.laneDown_leaves (hm : s.memWf = true) (hq : q < 16) (hi : i < 9) (h6 : s.laneState q i = 6)
    (hp : (s.port q).phase = 0) (hb : s.bit Reg.LNK_EVT 2 = true) :
    (s.laneDown q i).bit Reg.LNK_EVT 2 = true ∧ (s.laneDown q i).laneState q i ≠ 6 := by
  have hg := State.links_laneGone (i := i) (R := fun _ => False) hq hm id id
  have hbg := State.bit_laneGone (q := q) (i := i) hm ⟨by decide, by decide⟩ hb
  have h0 := State.laneState_laneGone (i := i) hq hm hi
  have hin : ((s.laneGone q i).lane q i).inSeq = false :=
    (congrArg (fun x : LaneAt => x.1.inSeq) (hg.lanes i hi)).trans (by rw [atLane, if_pos rfl]; rfl)
  rw [State.laneDown_eq (by omega) (by omega) (by omega)]
  obtain he | ⟨l, f, hl, he⟩ := State.downCure_starts (i := i) (b := (s.lane q i).inSeq) (st := s.laneState q i)
    (by omega) ((congrArg Port.phase hg.port).trans hp)
  · rw [he]
    exact ⟨hbg, by omega⟩
  · rw [he]
    obtain ⟨w, h⟩ := State.links_startTrain (q := q) (R := fun _ => True) (phase := 1) (f := f) hg.mem hl
    refine ⟨?_, ?_⟩
    · rw [State.bit, h.rn _ (by decide) (by decide) trivial]
      exact hbg
    · rw [State.laneState_eq, h.lanes i hi]
      split
      · rw [laneStarted, nfld_wordPut_same (by decide)]
        decide
      · rw [laneEnded, inSeqOnly, if_neg (by rw [State.laneAt, hin]; decide), ← State.laneState_eq, h0]
        decide

/-- A lane in service whose marker is lost leaves service, and the loss is noted (R251). -/
theorem State.markerLost_leaves (hm : s.memWf = true) (hq : q < 16) (hi : i < 9) (h6 : s.laneState q i = 6)
    (hp : (s.port q).phase = 0) :
    (s.markerLost q i).bit Reg.LNK_EVT 2 = true ∧ (s.markerLost q i).laneState q i ≠ 6 := by
  unfold State.markerLost
  have hw0 := State.put_memWf (a := Reg.LNK_LANE_STAT q i) (lo := 24) (n := 1) (v := 1) hm
  have h60 : (s.setBit (Reg.LNK_LANE_STAT q i) 24).laneState q i = 6 :=
    (State.fld_put_apart hm (by decide) (by decide)).trans h6
  have hp0 : (s.setBit (Reg.LNK_LANE_STAT q i) 24).port q = s.port q := State.port_of_lnk (State.setBit_lnk s _ _)
  rw [← State.setBit] at hw0
  generalize s.setBit (Reg.LNK_LANE_STAT q i) 24 = s0 at hw0 h60 hp0 ⊢
  have ha : State.Aside (s0.setBit Reg.LNK_EVT 2) (s0.raiseLnk q i 2) := State.aside_raiseLnk
  have hw1 := (State.raiseLnk_good s0 q i 2 (Good.all s0 hw0)).mem
  refine State.laneDown_leaves (State.onLane_memWf hw1) hq hi ?_ ?_ ?_
  · rw [State.laneState_onLane, State.laneState, ha.fld (by unfold Reg.LNK_LANE_STAT linkReg; omega), State.setBit,
      State.fld_put_ne (by unfold Reg.LNK_LANE_STAT Reg.LNK_EVT; omega)]
    exact h60
  · rw [State.port_onLane, ha.port, State.port_of_lnk (State.setBit_lnk s0 _ _), hp0, hp]
  · rw [State.bit_onLane, ha.bit (by decide)]
    exact State.bit_setBit s0 _ 2 hw0 (by decide)

/-- A port that does not train takes no TRAIN frame, but for a marker that is lost. -/
theorem State.trainArrives_idle (hp : (s.port q).phase = 0) (h : s.markEn q = false ∨ off = (s.lane q i).bound) :
    s.trainArrives q i off f = s := by
  have hf : s.trainFrame q i off f = s := if_pos (.inl hp)
  unfold State.trainArrives
  dsimp only
  rw [if_neg (by rcases h with h | h <;> simp [h]), hf]

theorem State.trainArrives_lost (hp : (s.port q).phase = 0) (hmark : s.markEn q = true) (h6 : s.laneState q i = 6)
    (hf : isMarker (s.unInvert q i f) = true) (ho : off ≠ (s.lane q i).bound) :
    s.trainArrives q i off f = s.markerLost q i :=
  if_pos ⟨hp, hmark, .inl h6, hf, ho⟩

/-- In a training a frame is the lane's. -/
theorem State.trainArrives_trains (hp : (s.port q).phase ≠ 0) : s.trainArrives q i off f = s.trainFrame q i off f :=
  if_neg fun h => hp h.1

/-! ## Lanes that pass a phase -/

/-- A phase goes on while a lane that takes part has not passed it. -/
theorem State.checkPhase_stays (h : ∃ j ∈ s.seqLanes q, (s.lane q j).passed = false) : s.checkPhase q = s := by
  refine if_neg fun hc => ?_
  obtain ⟨j, hj, hf⟩ := h
  have := List.all_eq_true.1 hc.2.2.2 j hj
  rw [hf] at this
  exact Bool.false_ne_true this

/-- CDR and ALIGN end with the last lane that passes. -/
theorem State.checkPhase_ends (hp : (s.port q).phase = 1) (h : ∀ j ∈ s.seqLanes q, (s.lane q j).passed = true) :
    s.checkPhase q = s.nextPhase q :=
  if_pos ⟨by omega, by omega, fun h => by omega, List.all_eq_true.2 h⟩

/-- A change of lane i that leaves the sequence as it is leaves the other lanes in it as they are. -/
theorem State.others_onLane {g : Lane → Lane} (hm : s.memWf = true) (hg : (g (s.lane q i)).inSeq = (s.lane q i).inSeq) :
    (∀ j, j ∈ (s.onLane q i g).seqLanes q ↔ j ∈ s.seqLanes q) ∧
      ∀ j, j ≠ i → (s.onLane q i g).lane q j = s.lane q j := by
  have ho : ∀ j, j ≠ i → (s.onLane q i g).lane q j = s.lane q j := fun j hj => by
    rw [State.lane_onLane s q i q j g hm, if_neg (by omega)]
  refine ⟨fun j => ?_, ho⟩
  rw [State.mem_seqLanes, State.mem_seqLanes]
  obtain rfl | hj := eq_or_ne j i
  · rw [State.lane_onLane s q j q j g hm, if_pos rfl, hg]
  · rw [ho j hj]

theorem State.lane_onLane_self {g : Lane → Lane} (hm : s.memWf = true) : (s.onLane q i g).lane q i = g (s.lane q i) :=
  (State.lane_onLane s q i q i g hm).trans (if_pos rfl)

theorem State.lane_of_lnk (h : t.lnk = s.lnk) : t.lane q j = s.lane q j := by rw [State.lane, State.lane, h]

theorem State.seqLanes_of_lnk (h : t.lnk = s.lnk) : t.seqLanes q = s.seqLanes q := by
  simp only [State.seqLanes, State.lane, h]

/-- Another lane that has not passed the phase holds the training there. -/
theorem State.checkPhase_holds {g : Lane → Lane} (hm : s.memWf = true) (hg : (g (s.lane q i)).inSeq = (s.lane q i).inSeq)
    (hl : t.lnk.lanes = (s.onLane q i g).lnk.lanes) (h : ∃ j ∈ s.seqLanes q, j ≠ i ∧ (s.lane q j).passed = false) :
    t.checkPhase q = t := by
  obtain ⟨j, hj, hne, hf⟩ := h
  obtain ⟨hseq, hother⟩ := State.others_onLane hm hg
  have hlane : ∀ k, t.lane q k = (s.onLane q i g).lane q k := fun k => by rw [State.lane, State.lane, hl]
  refine State.checkPhase_stays ⟨j, ?_, ?_⟩
  · have := (hseq j).2 hj
    rw [State.mem_seqLanes] at this ⊢
    rwa [hlane]
  · rw [hlane, hother j hne, hf]

/-- A lane recovers its clock (R247). -/
def Lane.locks (l : Lane) : Lane := { l with cdr := true, passed := true }

/-- A lane learns who its neighbour is (R252). -/
def Lane.identifies (d : LaneId) (l : Lane) : Lane := { l with ident := some d, passed := true }

/-- A lane notes when the frame of an ALIVE arrived (R253). -/
def Lane.arrives (alive off : Nat) (l : Lane) : Lane :=
  { l with arrival := ((alive, off) :: l.arrival).take 4, passed := true }

/-- A lane has matched for the fourth time (R249). -/
def Lane.matched (l : Lane) : Lane := { l with matchCnt := 4, inverse := false, compared := l.compared + 1, passed := true }

/-- What a lane that recovers its clock records, before the phase is checked (R247, R263). -/
def State.cdrLocked (s : State) (q i : Nat) (sync : Bool) : State :=
  (s.onLane q i Lane.locks).onPort q fun x => { x with locked := sync }

theorem exec_cdrLock (hp : (s.port q).phase = 1) (hin : (s.lane q i).inSeq = true) :
    exec (.cdrLock q i sync) s = .next ((s.cdrLocked q i sync).checkPhase q) :=
  congrArg Host.Outcome.next (if_pos ⟨hp, hin⟩)

theorem State.port_cdrLocked (hm : s.memWf = true) :
    (s.cdrLocked q i sync).port q = { s.port q with locked := sync } :=
  (State.port_onPort _ q q _ (State.onLane_memWf hm)).trans (if_pos rfl)

theorem State.lane_cdrLocked (hm : s.memWf = true) :
    (s.cdrLocked q i sync).lane q i = (s.lane q i).locks := by
  rw [State.cdrLocked, State.lane_onPort, State.lane_onLane_self hm]

/-- A lane recovers its clock while another has not (R247). -/
theorem exec_cdrLock_holds (hm : s.memWf = true) (hin : (s.lane q i).inSeq = true)
    (hj : ∃ j ∈ s.seqLanes q, j ≠ i ∧ (s.lane q j).passed = false) (hp : (s.port q).phase = 1) :
    ∃ t, exec (.cdrLock q i sync) s = .next t ∧ (t.lane q i).cdr = true ∧ (t.lane q i).passed = true ∧
      (t.port q).locked = sync ∧ (t.port q).phase = 1 := by
  have he : (s.cdrLocked q i sync).checkPhase q = s.cdrLocked q i sync :=
    State.checkPhase_holds (g := Lane.locks) hm rfl rfl hj
  refine ⟨_, (exec_cdrLock hp hin).trans (congrArg Host.Outcome.next he), ?_⟩
  rw [State.lane_cdrLocked hm, State.port_cdrLocked hm]
  exact ⟨rfl, rfl, rfl, hp⟩

/-- The last lane that recovers its clock ends the phase. -/
theorem exec_cdrLock_ends (hm : s.memWf = true) (hin : (s.lane q i).inSeq = true)
    (hall : ∀ j ∈ s.seqLanes q, j ≠ i → (s.lane q j).passed = true) (hp : (s.port q).phase = 1) :
    ∃ t, exec (.cdrLock q i sync) s = .next t ∧ (t.port q).phase = 2 ∧ (t.port q).locked = sync := by
  have hport := State.port_cdrLocked (i := i) (q := q) (sync := sync) hm
  have hpu : ((s.cdrLocked q i sync).port q).phase = 1 := by rw [hport]; exact hp
  obtain ⟨hseq, hother⟩ := State.others_onLane (q := q) (i := i) (g := Lane.locks) hm rfl
  have he : (s.cdrLocked q i sync).checkPhase q = (s.cdrLocked q i sync).nextPhase q := by
    refine State.checkPhase_ends hpu fun j hj => ?_
    obtain rfl | hne := eq_or_ne j i
    · rw [State.lane_cdrLocked hm, Lane.locks]
    · exact (congrArg Lane.passed (hother j hne)).trans (hall j ((hseq j).1 hj) hne)
  have hw : (s.cdrLocked q i sync).memWf = true := State.onPort_memWf (State.onLane_memWf hm)
  obtain ⟨w, hn⟩ := State.nextPhase_port hw (.inl hpu)
  refine ⟨_, (exec_cdrLock hp hin).trans (congrArg Host.Outcome.next he), ?_⟩
  rw [hn, hport, Port.begun]
  exact ⟨by rw [hp], rfl⟩

/-! ## Frames in the later phases -/

/-- A TRAIN frame of ALIGN goes to the matcher, but for a port that searches for markers (R249). -/
theorem State.trainFrame_align (hp : (s.port q).phase = 2) (hmode : (s.port q).mode ≠ 1) (hin : (s.lane q i).inSeq = true)
    (hk : (s.lane q i).marks = false) (hf : (s.lane q i).passed = false) : s.trainFrame q i off f = s.matchFrame q i f := by
  unfold State.trainFrame
  dsimp only
  rw [if_neg (by simp [hp, hin, hf]), if_pos hp, if_neg (by simp [hmode, hk])]

section
variable {d : Decoded} (hin : (s.lane q i).inSeq = true) (hd : openFrame (s.unInvert q i f) = some d)
  (hty : nfld d.hdr 28 4 = 4) (hres : trainReservedOk (payloadWords d.payload) = true)
  (hsync : wordAt (payloadWords d.payload) 0 = trainSync)
include hin hd hty hres hsync

/-- A TRAIN frame of the identification phase (R248, R252). -/
theorem State.trainFrame_ident (hp : (s.port q).phase = 3) (hf : (s.lane q i).passed = false) :
    s.trainFrame q i off f =
      (s.onLane q i (Lane.identifies (trainIdent (payloadWords d.payload)))).checkPhase q := by
  unfold State.trainFrame
  dsimp only
  rw [if_neg (by simp [hp, hin, hf]), if_neg (by omega), hd]
  dsimp only
  rw [if_neg (by simp [hty, hres, hsync]), if_pos hp]
  rfl

/-- One of DESKEW (R253). -/
theorem State.trainFrame_deskew (hp : (s.port q).phase = 4) :
    s.trainFrame q i off f =
      if ((s.onLane q i (Lane.arrives (nfld d.hdr 20 8) off)).commonAlive q).isSome then
        (s.onLane q i (Lane.arrives (nfld d.hdr 20 8) off)).deskewDone q
      else s.onLane q i (Lane.arrives (nfld d.hdr 20 8) off) := by
  unfold State.trainFrame
  dsimp only
  rw [if_neg (by simp [hp, hin]), if_neg (by omega), hd]
  dsimp only
  rw [if_neg (by simp [hty, hres, hsync]), if_neg (by omega), if_pos hp]
  rfl

/-- An echo in LATENCY, before the last one (R254). -/
theorem State.trainFrame_echo {t0 : Nat} (hp : (s.port q).phase = 5) (hi : i = s.rxLane q 0) (ht : (s.port q).pingAt = some t0)
    (hn : (s.port q).measured < 15) (he : (wordAt (payloadWords d.payload) 3).testBit 30 = true) :
    s.trainFrame q i off f =
      let dly := s.fld (Reg.LNK_LANE_STAT q i) 16 6
      let d3 := wordAt (payloadWords d.payload) 3
      (if d3.testBit 31 then s.onPort q fun x => { x with echoFor := some (off + dly) } else s).onPort q fun y =>
        { y with arr := max y.arr (arrOf (off + dly - t0) (nfld d3 23 7) dly (nfld d3 17 6)), measured := y.measured + 1,
                 pingAt := none } := by
  unfold State.trainFrame
  dsimp only
  rw [if_neg (by simp [hp, hin]), if_neg (by omega), hd]
  dsimp only
  rw [if_neg (by simp [hty, hres, hsync]), if_neg (by omega), if_neg (by omega), if_pos ⟨hp, hi⟩, if_pos he, ht]
  dsimp only
  rw [if_neg (by omega)]

end

/-- No ALIVE is common to the lanes while one of them has received none. -/
theorem State.commonAlive_none (h : ∃ j ∈ s.seqLanes q, (s.lane q j).arrival = []) : s.commonAlive q = none := by
  obtain ⟨j, hj, ha⟩ := h
  have hmem : [] ∈ (s.seqLanes q).map fun i => (s.lane q i).arrival.map (·.1) :=
    List.mem_map.2 ⟨j, hj, by rw [ha, List.map_nil]⟩
  unfold State.commonAlive
  dsimp only
  split
  · rfl
  next l ls he =>
    rw [he] at hmem
    refine List.find?_eq_none.2 fun a hl hall => ?_
    obtain hnil | hnil := List.mem_cons.1 hmem
    · rw [← hnil] at hl
      exact List.not_mem_nil hl
    · exact absurd (List.all_eq_true.1 hall [] hnil) (by simp)

/-- The fourth match in a row in ALIGN: the lane has passed, its polarity as it is sent (R249). -/
theorem State.matchFrame_fourth (hs : (s.lane q i).settle = 0) (hn : (s.lane q i).matchCnt = 3)
    (hv : (s.lane q i).inverse = false) (hf : frameSync f = syncBits) :
    s.matchFrame q i f = (((s.onLane q i Lane.matched).setBit (Reg.LNK_LANE_STAT q i) 27).putBit
      (Reg.LNK_LANE_STAT q i) 26 false).checkPhase q := by
  have hc : ¬ syncBits = 0xffffffff - syncBits := by decide
  unfold State.matchFrame
  dsimp only
  rw [if_neg (by omega)]
  simp only [hf, hn, hv, hc, decide_false, true_and, or_true, true_or, if_true, Nat.reduceAdd, ge_iff_le, le_refl]
  rfl

/-- A lane that is identified while another is not (R252). -/
theorem exec_trainFrame_ident {d : Decoded} (hm : s.memWf = true) (hin : (s.lane q i).inSeq = true)
    (hd : openFrame (s.unInvert q i f) = some d) (hty : nfld d.hdr 28 4 = 4)
    (hres : trainReservedOk (payloadWords d.payload) = true) (hsync : wordAt (payloadWords d.payload) 0 = trainSync)
    (hj : ∃ j ∈ s.seqLanes q, j ≠ i ∧ (s.lane q j).passed = false) (hp : (s.port q).phase = 3)
    (hf : (s.lane q i).passed = false) :
    ∃ t, exec (.trainFrameReceive q i off f) s = .next t ∧ (t.port q).phase = 3 ∧ t.regs = s.regs ∧
      t.lane q i = { s.lane q i with ident := some (trainIdent (payloadWords d.payload)), passed := true } := by
  have he : s.trainArrives q i off f = s.onLane q i (Lane.identifies (trainIdent (payloadWords d.payload))) :=
    (State.trainArrives_trains (by omega)).trans ((State.trainFrame_ident hin hd hty hres hsync hp hf).trans
      (State.checkPhase_holds hm rfl rfl hj))
  exact ⟨_, congrArg Host.Outcome.next he, hp, rfl, State.lane_onLane_self hm⟩

/-- A lane that is aligned while another is not (R249). -/
theorem exec_trainFrame_align (hm : s.memWf = true) (hin : (s.lane q i).inSeq = true)
    (hj : ∃ j ∈ s.seqLanes q, j ≠ i ∧ (s.lane q j).passed = false) (hp : (s.port q).phase = 2)
    (hmode : (s.port q).mode ≠ 1) (hk : (s.lane q i).marks = false) (hf : (s.lane q i).passed = false)
    (hs : (s.lane q i).settle = 0)
    (hn : (s.lane q i).matchCnt = 3) (hv : (s.lane q i).inverse = false) (hsync : frameSync f = syncBits) :
    ∃ t, exec (.trainFrameReceive q i off f) s = .next t ∧ (t.port q).phase = 2 ∧ (t.lane q i).passed = true ∧
      t.bit (Reg.LNK_LANE_STAT q i) 27 = true ∧ t.bit (Reg.LNK_LANE_STAT q i) 26 = false := by
  have hw := State.onLane_memWf (q := q) (i := i) (f := Lane.matched) hm
  have hw1 : ((s.onLane q i Lane.matched).setBit (Reg.LNK_LANE_STAT q i) 27).memWf = true := State.put_memWf hw
  have hl : (((s.onLane q i Lane.matched).setBit (Reg.LNK_LANE_STAT q i) 27).putBit (Reg.LNK_LANE_STAT q i) 26 false).lnk =
      (s.onLane q i Lane.matched).lnk := by rw [State.putBit_lnk, State.setBit_lnk]
  have he : s.trainArrives q i off f =
      ((s.onLane q i Lane.matched).setBit (Reg.LNK_LANE_STAT q i) 27).putBit (Reg.LNK_LANE_STAT q i) 26 false :=
    (State.trainArrives_trains (by omega)).trans ((State.trainFrame_align hp hmode hin hk hf).trans
      ((State.matchFrame_fourth hs hn hv hsync).trans
        (State.checkPhase_holds (g := Lane.matched) hm rfl (congrArg LnkSt.lanes hl) hj)))
  refine ⟨_, congrArg Host.Outcome.next he, ?_, ?_, ?_, ?_⟩
  · rw [State.port_of_lnk hl]
    exact hp
  · rw [State.lane_of_lnk hl, State.lane_onLane_self hm, Lane.matched]
  · rw [State.putBit, State.bit_put_apart hw1 (by decide) (by decide)]
    exact State.bit_setBit _ _ 27 hw (by decide)
  · rw [State.putBit, State.bit_put _ _ _ _ _ _ hw1 (by decide), if_pos (by decide)]
    rfl

/-- An arrival in DESKEW while another lane has had none (R253). -/
theorem exec_trainFrame_deskew {d : Decoded} (hm : s.memWf = true) (hin : (s.lane q i).inSeq = true)
    (hd : openFrame (s.unInvert q i f) = some d) (hty : nfld d.hdr 28 4 = 4)
    (hres : trainReservedOk (payloadWords d.payload) = true) (hsync : wordAt (payloadWords d.payload) 0 = trainSync)
    (hj : ∃ j ∈ s.seqLanes q, j ≠ i ∧ (s.lane q j).arrival = []) (hp : (s.port q).phase = 4) :
    ∃ t, exec (.trainFrameReceive q i off f) s = .next t ∧ (t.port q).phase = 4 ∧ t.regs = s.regs ∧
      t.lane q i = { s.lane q i with arrival := ((nfld d.hdr 20 8, off) :: (s.lane q i).arrival).take 4, passed := true } := by
  have hn : (s.onLane q i (Lane.arrives (nfld d.hdr 20 8) off)).commonAlive q = none := by
    obtain ⟨j, hjs, hne, ha⟩ := hj
    obtain ⟨hseq, hother⟩ := State.others_onLane (q := q) (i := i) (g := Lane.arrives (nfld d.hdr 20 8) off) hm rfl
    exact State.commonAlive_none ⟨j, (hseq j).2 hjs, by rw [hother j hne, ha]⟩
  have he : s.trainArrives q i off f = s.onLane q i (Lane.arrives (nfld d.hdr 20 8) off) :=
    (State.trainArrives_trains (by omega)).trans ((State.trainFrame_deskew hin hd hty hres hsync hp).trans
      (if_neg (by rw [hn]; decide)))
  exact ⟨_, congrArg Host.Outcome.next he, hp, rfl, State.lane_onLane_self hm⟩

/-- An echo in LATENCY counts as one measurement (R254). -/
theorem exec_trainFrame_echo {d : Decoded} {t0 : Nat} (hm : s.memWf = true) (hin : (s.lane q i).inSeq = true)
    (hd : openFrame (s.unInvert q i f) = some d) (hty : nfld d.hdr 28 4 = 4)
    (hres : trainReservedOk (payloadWords d.payload) = true) (hsync : wordAt (payloadWords d.payload) 0 = trainSync)
    (hp : (s.port q).phase = 5) (hi : i = s.rxLane q 0) (ht : (s.port q).pingAt = some t0) (hn : (s.port q).measured < 15)
    (he : (wordAt (payloadWords d.payload) 3).testBit 30 = true) :
    ∃ t, exec (.trainFrameReceive q i off f) s = .next t ∧ (t.port q).phase = 5 ∧
      (t.port q).measured = (s.port q).measured + 1 ∧ (t.port q).pingAt = none ∧
      (t.port q).arr = max (s.port q).arr (arrOf (off + s.fld (Reg.LNK_LANE_STAT q i) 16 6 - t0)
        (nfld (wordAt (payloadWords d.payload) 3) 23 7) (s.fld (Reg.LNK_LANE_STAT q i) 16 6)
        (nfld (wordAt (payloadWords d.payload) 3) 17 6)) := by
  refine ⟨_, congrArg Host.Outcome.next ((State.trainArrives_trains (by omega)).trans
    (State.trainFrame_echo hin hd hty hres hsync hp hi ht hn he)), ?_⟩
  dsimp only
  split
  · rw [State.port_onPort _ q q _ (State.onPort_memWf hm), if_pos rfl, State.port_onPort s q q _ hm, if_pos rfl]
    exact ⟨hp, rfl, rfl, rfl⟩
  · rw [State.port_onPort s q q _ hm, if_pos rfl]
    exact ⟨hp, rfl, rfl, rfl⟩

/-! ## A training that fails -/

section
variable {x : State} (h : State.Settled q (fun _ => False) x) (hq : q < 16) (hc : (x.port q).cmd ≠ 0)
  (hid : ∃ e ∈ x.cmd.store, e.id = (x.port q).cmd)
include h hq hc hid

/-- Where no lane is to be spared a training of a command fails with its code, and the command ends (R247). -/
theorem State.trainFail_ends {code : Nat} :
    ((x.trainFail q code).port q).phase = 0 ∧ x.ft.wall ≤ (x.trainFail q code).ft.wall ∧
    (x.trainFail q code).fld (Reg.LNK_PORT_STAT q) 8 8 = code % 2 ^ 8 ∧
    (x.trainFail q code).ended (x.port q).cmd Status.linkDown 0 := by
  have hg := State.put_good _ (Reg.LNK_PORT_STAT q) 8 8 code
    (State.endTraining_good x q ((Good.records h.mem).withId _ hid))
  have he := State.links_endTraining (R := fun _ => False) hq h.mem id
  have hp := he.andThen fun hm => State.links_portStat (lo := 8) (n := 8) (v := code) hm id
  have hf := hp.andThen fun hm => State.links_raiseLnk (lane := 0) (cause := 4) hq hm id
  have hfld := State.fld_put_same _ (Reg.LNK_PORT_STAT q) 8 8 code he.mem (by decide)
  rw [h.trainFail_eq hq]
  dsimp only
  rw [if_neg hc]
  have hport := congrArg Port.phase hf.port
  have hwall := hf.wall
  generalize (x.endTraining q).put (Reg.LNK_PORT_STAT q) 8 8 code = u at hg hfld hport hwall ⊢
  refine ⟨?_, ?_, ?_, State.finish_ended _ _ _ _ ((State.raiseLnk_good u q 0 4 hg).id _ rfl)⟩
  · rw [State.port_of_lnk (State.finish_lnk _ _ _ _)]
    exact hport
  · rw [State.finish_ft]
    exact hwall
  · rw [State.fld_of_regs (State.finish_regs _ _ _ _), State.aside_raiseLnk.fld (by unfold Reg.LNK_PORT_STAT linkReg; omega),
      State.setBit, State.fld_put_ne (by unfold Reg.LNK_PORT_STAT Reg.LNK_EVT; omega)]
    exact hfld

end

theorem phaseCode_lt (phase : Nat) : phaseCode phase < 2 ^ 8 := by
  unfold phaseCode
  split <;> decide

/-- A phase that closes with fewer than eight lanes ends the training with its code (R247). -/
theorem State.closePhase_fails (h : State.Settled q (fun _ => False) s) (hq : q < 16) (hp : (s.port q).phase ≠ 0)
    (hs : (s.port q).sparing = 0) (h8 : ((s.seqLanes q).filter fun j => (s.lane q j).passed).length < 8)
    (hc : (s.port q).cmd ≠ 0) (hid : ∃ e ∈ s.cmd.store, e.id = (s.port q).cmd) :
    ((s.closePhase q).port q).phase = 0 ∧ s.ft.wall ≤ (s.closePhase q).ft.wall ∧
      (s.closePhase q).fld (Reg.LNK_PORT_STAT q) 8 8 = phaseCode (s.port q).phase ∧
      (s.closePhase q).ended (s.port q).cmd Status.linkDown 0 := by
  by_cases h5 : (s.port q).phase = 5
  · rw [State.closePhase_latency h5, h5]
    exact State.trainFail_ends h hq hc hid
  · have hl := State.links_lateLeft (q := q) (R := fun _ => False) h.mem
    have hport : (s.lateLeft q).port q = s.port q := hl.port
    have hset : State.Settled q (fun _ => False) (s.lateLeft q) :=
      .foldl (fun _ _ _ hu => hu.leaveSeq hq id) h
    have hg : Good { Kept.records s with id := some (s.port q).cmd } (s.lateLeft q) :=
      good_foldl (fun u j hu => State.leaveSeq_good u q j hu) ((Good.records h.mem).withId _ hid)
    have he : (s.lateLeft q).seqEnough q = false := by
      rw [State.seqEnough_whole hset.only (by rw [hport, hs]), State.seqLanes_lateLeft h.mem]
      exact decide_eq_false (by omega)
    obtain ⟨h0, hw, hf, hend⟩ := State.trainFail_ends (code := phaseCode (s.port q).phase) hset hq (by rw [hport]; exact hc)
      (by rw [hport]; exact hg.id _ rfl)
    rw [hport] at hend
    rw [State.closePhase_eq hp h5, he, if_neg Bool.false_ne_true]
    exact ⟨h0, hl.wall.trans hw, hf.trans (Nat.mod_eq_of_lt (phaseCode_lt _)), hend⟩

theorem exec_trainingPhaseTimeout (hp : (s.port q).phase ≠ 0) (hm : ¬ ((s.port q).phase = 2 ∧ (s.port q).mode = 2)) :
    exec (.trainingPhaseTimeout q) s = .next ((s.waitSteps ((s.port q).since + s.phaseLimit q)).closePhase q) :=
  congrArg Host.Outcome.next (if_neg fun h => h.elim hp hm)

end

/-- Settles O37: a port that does not train is `State.trainArrives_idle` and `State.markerLost_leaves`, a phase goes on or ends
by `State.checkPhase_stays`, `State.nextPhase_port` and `State.closePhase_phase`, and a training that runs out of lanes by
`State.closePhase_fails`. -/
theorem trainingFollowsItsPhases : Obligations.TrainingFollowsItsPhases := by
  unfold Obligations.TrainingFollowsItsPhases
  intro s q i hm hq hi
  refine ⟨fun hp => ⟨fun sync => ?_, fun off f h => ?_, fun off f hmark h6 hf ho => ?_, ?_⟩, fun hp hmode => ?_,
    fun hin hj => ⟨fun sync hp => ?_, fun off f d hp hf hd hty hres hsync => ?_,
      fun off f hp hmode hmarks hf hs hn hv hsync => ?_⟩,
    fun hin hp hall sync => ?_, fun hin off f d hd hty hres hsync => ⟨fun hp hj => ?_, fun t0 hp hr ht hn he => ?_⟩,
    fun hp ho hs h8 => ?_, fun hp hmode ho hs h8 hspare hc hid => ?_⟩
  · exact congrArg Host.Outcome.next (if_neg fun h => by omega)
  · exact congrArg Host.Outcome.next (State.trainArrives_idle hp h)
  · exact ⟨_, congrArg Host.Outcome.next (State.trainArrives_lost hp hmark h6 hf ho), State.markerLost_leaves hm hq hi h6 hp⟩
  · exact congrArg Host.Outcome.next (if_pos (.inl hp))
  · exact congrArg Host.Outcome.next (if_pos (.inr ⟨hp, hmode⟩))
  · exact exec_cdrLock_holds hm hin hj hp
  · exact exec_trainFrame_ident hm hin hd hty hres hsync hj hp hf
  · exact exec_trainFrame_align hm hin hj hp hmode hmarks hf hs hn hv hsync
  · exact exec_cdrLock_ends hm hin hall hp
  · exact exec_trainFrame_deskew hm hin hd hty hres hsync hj hp
  · exact exec_trainFrame_echo hm hin hd hty hres hsync hp hr ht hn he
  · have ha : State.Aside s (s.waitSteps ((s.port q).since + s.phaseLimit q)) := .waitSteps .refl
    have hw := (State.waitSteps_good s ((s.port q).since + s.phaseLimit q) (Good.all s hm)).mem
    refine ⟨_, exec_trainingPhaseTimeout (by omega) (by omega), ?_⟩
    generalize s.waitSteps ((s.port q).since + s.phaseLimit q) = u at ha hw ⊢
    rw [State.closePhase_phase hw (by rw [ha.port]; omega) (by rw [ha.port, ho]) (by rw [ha.port, hs])
      (by simpa only [State.seqLanes_of_lnk ha.lnk, State.lane_of_lnk ha.lnk] using h8), ha.port]
  · have ha : State.Aside s (s.waitSteps ((s.port q).since + s.phaseLimit q)) := .waitSteps .refl
    have hg := State.waitSteps_good s ((s.port q).since + s.phaseLimit q) ((Good.records hm).withId _ hid)
    have hreach := State.waitSteps_reaches s ((s.port q).since + s.phaseLimit q)
    refine ⟨_, exec_trainingPhaseTimeout hp hmode, ?_⟩
    generalize s.waitSteps ((s.port q).since + s.phaseLimit q) = u at ha hg hreach ⊢
    have hset : State.Settled q (fun _ => False) u :=
      State.Settled.asIs ⟨hm, ho, hspare, fun _ _ h => h.elim⟩ hq (ha.links hq hg.mem)
    rw [← ha.port] at hp hs hc
    obtain ⟨h0, hwall, hfld, hend⟩ := State.closePhase_fails hset hq hp hs
      (by simpa only [State.seqLanes_of_lnk ha.lnk, State.lane_of_lnk ha.lnk] using h8) hc (by rw [ha.port]; exact hg.id _ rfl)
    rw [ha.port] at hfld hend
    exact ⟨h0, hreach.trans hwall, hfld, hend⟩

end Sys2Proof.Machine

end
